-- ==== Sys2Proof/Word.lean ====
section
/-! DEFINITION. The word types of the register space and their plainest arithmetic (R4, R5). -/

namespace Sys2Proof

/-- One byte. -/
abbrev Byte := BitVec 8

/-- One 32-bit register word (R5). -/
abbrev Word := BitVec 32

/-- A 48-bit encoder position (R178). -/
abbrev Pos := BitVec 48

/-- The `n` low bytes of `v`, least significant first (R4). -/
def leBytes : Nat → Nat → List Byte
  | 0, _ => []
  | n + 1, v => BitVec.ofNat 8 v :: leBytes n (v / 256)

/-- The number whose little-endian bytes are `bs` (R4). -/
def leNat : List Byte → Nat
  | [] => 0
  | b :: bs => b.toNat + 256 * leNat bs

end Sys2Proof
end

