-- ==== Sys2Proof/Config.lean ====
section
/-! DEFINITION. What one die fixes (fuses) and the values the spec leaves open, as constants with no body. -/

namespace Sys2Proof.Config

/-- A value the spec leaves open: one per site and per draw (the draw counter stands in State). -/
opaque freeNat : Nat → Nat → Nat

/-- Which way a quotient that is no whole number is rounded where the spec does not say: per site, numerator and denominator. -/
opaque roundUp : Nat → Int → Int → Bool

/-- The factory MAC address of a port, from the on-die fuses (R364). -/
opaque factoryMac : Nat → BitVec 48

/-- The module's identity, from the on-die fuses (R448). -/
opaque dieId : BitVec 64

/-- The die's wrapping key, from the on-die fuses (R156); 32 bytes are taken from it. -/
opaque wrappingKey : Nat → Byte

/-- The stream that a compressor's match search finds: settings word, input bytes (R167 leaves the hash open; what counts is a stream of
the input). -/
opaque compressed : Word → List Byte → List Byte

/-- The least-squares flicker fit of R328 over (time in ns, strip mean): the amplitudes a, b, the mean m and the residual,
as fractions. The spec gives the model but no arithmetic width. -/
opaque flickerFit : Rat → Rat → Rat → List (Nat × Rat) → Rat × Rat × Rat × Rat

/-- cos and sin of 2 pi f t for the flicker model of R326: frequency in Hz and time in ns. -/
opaque flickerCos : Rat → Nat → Rat
opaque flickerSin : Rat → Nat → Rat

/-- The phase advance of (a, b) over a frame, as a frequency correction (R328). -/
opaque flickerAdvance : Rat → Rat → Rat → Rat → Nat → Rat

end Sys2Proof.Config
end

