-- ==== Sys2Proof/Syntax.lean ====
section
/-! DEFINITION. The commands: one constructor per row of spec/opcode_table.json, in the table's order, with what each
brings in from outside the module (a message, a register value, an edge, a measured value, the outcome of a read). -/

namespace Sys2Proof

/-- How a management message arrived, and its 16-byte header (R88, R89). The message TYPE is the command's. -/
structure Msg where
  np : Fin 2
  ip : Word
  port : BitVec 16
  dst : BitVec 16
  udpOk : Bool
  fragment : Bool
  udpLen : Nat
  magic : BitVec 16
  version : Byte
  seq : Word
  status : BitVec 16
  flags : BitVec 16
  len : Nat
  deriving DecidableEq, Repr

/-- Who owns the data of an uncorrectable read: the rows of R419. -/
inductive Owner where
  | ringOne | ringBoth | bandStream | dmaSource | cxDescriptor | liveField | historyRow | ironAccumulator
  | s0Profile | cameraBuffer | mendEntry | table | other | nightSave
  deriving DecidableEq, Repr

/-- One error met by a read (R414, R419): class 0 HBM, 1 table SRAM, 2 word SRAM; `addr` coded as ARG of R415; `bit` the
bit corrected; `key` names what the owner's row needs (a table window address, a band number, a nozzle, a bin). -/
structure MemEv where
  cls : Fin 3
  addr : Word
  port : Fin 6
  bit : BitVec 16
  uncorrectable : Bool
  owner : Owner
  key : Nat
  seqB : Bool
  deriving DecidableEq, Repr

/-- A head driver's capabilities (CAP, R272). -/
structure Cap where
  version : Byte
  rates : Byte
  slots : Byte
  maxDepth : Byte
  hflags : Byte
  maxNozzles : BitVec 16
  d : Word
  taMax : Word
  hdId : Word
  deriving DecidableEq, Repr

/-- A head lane that reached ACTIVE in step 7 of Dawn (R71): its CAP, its measured latency (R264) and its eye. -/
structure LaneUp where
  lane : Fin 16
  cap : Cap
  lambda : Word
  eyeW : Byte
  eyeH : Byte
  deriving DecidableEq, Repr

/-- A unit that failed a built-in self-test (R455, R456): unit code, index, signature or bit errors. -/
structure BistFail where
  unit : Fin 11
  index : Nat
  sig : Word
  /-- SRAM and HBM: the error is single-bit in every place (R418) -/
  singleBit : Bool
  deriving DecidableEq, Repr

/-- What Dawn finds outside the module: the flash's SFDP facts, the VIO level, self-test results, lanes, the duration,
and the island's elapsed time since the core stopped. -/
structure DawnIn where
  vioMv : Nat
  sizeLog2 : Fin 32
  addr4 : Bool
  suspend : Bool
  sckMhz : Byte
  bist : List BistFail
  hotTrip : Option (Fin 16 × BitVec 16)
  lanes : List LaneUp
  us : Nat
  islandUs : Nat
  deriving DecidableEq, Repr

/-- One gate-test window (R292): the pre-window and window samples of the 12-bit converter. -/
structure GateSamples where
  pre : List (BitVec 12)
  win : List (BitVec 12)
  deriving DecidableEq, Repr

/-- One CSI-2 packet as the lane delivers it (R311, R312, R315): virtual channel, data type, WC, the bytes between header and
CRC, whether the byte count fits WC, the header (0 good, 1 corrected, 2 beyond correction), the payload CRC, invalid symbols in it. -/
structure Packet where
  vc : BitVec 4
  dt : BitVec 6
  wc : BitVec 16
  body : List Byte
  sized : Bool
  ecc : Fin 3
  crcOk : Bool
  invalid : Nat
  deriving DecidableEq, Repr

/-- The PTP fields a received or sent message carries that this model uses (R368). -/
structure PtpHdr where
  np : Fin 2
  inst : Fin 2
  domain : Byte
  sdo : BitVec 4
  srcId : BitVec 64
  srcPort : BitVec 16
  seq : BitVec 16
  twoStep : Bool
  correction : Int
  deriving DecidableEq, Repr

/-- The dataset an Announce carries (R369): the fields the best master clock algorithm compares. -/
structure AnnounceData where
  priority1 : Byte
  clockClass : Byte
  accuracy : Byte
  variance : BitVec 16
  priority2 : Byte
  gmId : BitVec 64
  steps : BitVec 16
  utcOffset : Int
  utcValid : Bool
  leap61 : Bool
  leap59 : Bool
  traceable : Bool
  deriving DecidableEq, Repr

/-- How one result of a flash operation ended (R77, R87, R453). -/
inductive FlashResult where
  | ok | eraseFail | programFail | verifyFail
  deriving DecidableEq, Repr

/-- The wake sources of R83. -/
inductive WakeSrc where
  | mfp (pins : BitVec 4) | enc0 | timer
  deriving DecidableEq, Repr

/-- The commands. -/
inductive Instr where
  /-- DAWN_START (R71) -/
  | dawnStart (d : DawnIn)
  /-- UNTRIED_SLOT_CHECK (R465) -/
  | untriedSlotCheck
  /-- RESET_N (R44): a low of so many ns; between 1 µs and 10 µs the second operand says whether it reset -/
  | resetN (lowNs : Nat) (took : Bool)
  /-- VAUX_LOST (R38) -/
  | vauxLost
  /-- VIO_LOST (R36) -/
  | vioLost
  /-- CORE_SHUTDOWN (R442): bits of the SPI byte in progress already clocked (R438) -/
  | coreShutdown (spiBits : Fin 8)
  /-- DUSK_ENTRY (R81) -/
  | duskEntry
  /-- NIGHT_REQ (R82): the other bits of the PWR_CTRL word -/
  | nightReq (m : Msg) (v : Word)
  /-- NIGHT_ENTRY_DONE (R82) -/
  | nightEntryDone
  /-- NIGHT_WAKE (R84): source, the island's elapsed µs, the ENC0 motion it counted, and errors met by the restore -/
  | nightWake (src : WakeSrc) (islandUs : Nat) (motion : Int) (restoreFail : Bool)
  /-- RESTART (R79) -/
  | restart (m : Msg) (v : Word)
  /-- RESTART_DAWN (R79) -/
  | restartDawn
  /-- READ (R109) -/
  | read (m : Msg) (payload : List Byte)
  /-- WRITE (R97) -/
  | write (m : Msg) (payload : List Byte)
  /-- FOLLOWER_REPLY (R117): the follower's reply to a forwarded request -/
  | followerReply (follower : Fin 15) (seq : Word) (status : BitVec 16) (payload : List Byte)
  /-- REMOTE_TIMEOUT (R117) -/
  | remoteTimeout (follower : Fin 15) (seq : Word)
  /-- PUT (R134) -/
  | put (m : Msg) (payload : List Byte)
  /-- PUT_PIECE (R126) -/
  | putPiece (m : Msg) (payload : List Byte)
  /-- EVENT_ACK (R100) -/
  | eventAck (m : Msg) (payload : List Byte)
  /-- SUBSCRIBE (R99) -/
  | subscribe (m : Msg) (payload : List Byte)
  /-- UNSUBSCRIBE (R99) -/
  | unsubscribe (m : Msg) (payload : List Byte)
  /-- EVENT_RESEND (R100) -/
  | eventResend (slot : Fin 4)
  /-- SUBSCRIBER_DROPPED (R100) -/
  | subscriberDropped (slot : Fin 4)
  /-- ABORT_DMA (R147) -/
  | abortDma (m : Msg) (index : Word)
  /-- ABORT_DECOMPRESSOR (R166) -/
  | abortDecompressor (m : Msg) (index : Word)
  /-- ABORT_COMPRESSOR (R173) -/
  | abortCompressor (m : Msg) (index : Word)
  /-- ABORT_PIPELINE (R337) -/
  | abortPipeline (m : Msg) (index : Word)
  /-- ABORT_LANE (R103) -/
  | abortLane (m : Msg) (index : Word)
  /-- ABORT_SEQUENCER (R400) -/
  | abortSequencer (m : Msg) (index : Word)
  /-- ABORT_PIECE (R103); its payload carries the UNIT code, so a code outside the table is refused here too -/
  | abortPiece (m : Msg) (payload : List Byte)
  /-- NVM_DATA (R76) -/
  | nvmData (m : Msg) (payload : List Byte)
  /-- NVM_COMMIT (R77) -/
  | nvmCommit (m : Msg) (payload : List Byte)
  /-- FLASH_OP_DONE (R77) -/
  | flashOpDone (r : FlashResult)
  /-- NVM_READ (R91) -/
  | nvmRead (m : Msg) (payload : List Byte)
  /-- SET_REPORT (R116) -/
  | setReport (m : Msg) (payload : List Byte)
  /-- SET_REPORT_SEND (R116) -/
  | setReportSend
  /-- SET_MEMBER_LOST (R118) -/
  | setMemberLost (follower : Fin 15)
  /-- SPAN_SNAPSHOT (R113) -/
  | spanSnapshot
  /-- FAULT_LATCH_CLEAR (R102) -/
  | faultLatchClear (m : Msg) (v : Word)
  /-- CTRL_SET (R111) -/
  | ctrlSet (m : Msg) (span : BitVec 12) (v : Word)
  /-- CTRL_CLR (R111) -/
  | ctrlClr (m : Msg) (span : BitVec 12) (v : Word)
  /-- STATUS_STICKY_CLEAR (R112) -/
  | statusStickyClear (m : Msg) (span : BitVec 12) (v : Word)
  /-- FUNC_WRITE (R49) -/
  | funcWrite (m : Msg) (mfp : Fin 16) (v : Word)
  /-- FUNC_APPLY (R50) -/
  | funcApply
  /-- ADMISSION_CHECK (R129) -/
  | admissionCheck (piece : Word)
  /-- PROBE_EDGE (R190): probe, level of the edge, ticks from the sample tick to now -/
  | probeEdge (probe : Fin 4) (rising : Bool) (age : Nat)
  /-- REJECT_OUTPUT (R140) -/
  | rejectOutput (piece : Word)
  /-- DMA_RUN (R143) -/
  | dmaRun (m : Msg) (n : Fin 16) (v : Word)
  /-- DESCRIPTOR_DONE (R143) -/
  | descriptorDone (n : Fin 16) (evs : List MemEv)
  /-- DMA_DOORBELL (R144) -/
  | dmaDoorbell (m : Msg) (n : Fin 16) (v : Word)
  /-- DMA_PAUSE (R145): bytes of the descriptor moved when the burst in progress ends -/
  | dmaPause (m : Msg) (n : Fin 16) (moved : Nat)
  /-- DMA_RESUME (R145) -/
  | dmaResume (m : Msg) (n : Fin 16)
  /-- DMA_MODE (R145) -/
  | dmaMode (m : Msg) (n : Fin 16) (v : Word)
  /-- WINDOW_OPEN (R137) -/
  | windowOpen (m : Msg) (n : Fin 64) (v : Word)
  /-- WINDOW_CLOSE (R137) -/
  | windowClose (m : Msg) (n : Fin 64) (v : Word)
  /-- LINE_JOB (R158): the engine, errors met, and whether P1 holds the write back (R159) -/
  | lineJob (n : Fin 16) (stalled : Bool) (evs : List MemEv)
  /-- DX_STALL_RESUME (R159) -/
  | dxStallResume (n : Fin 16)
  /-- DRAIN (R163) -/
  | drain (m : Msg) (n : Fin 16) (v : Word)
  /-- KEY_WRITE (R155) -/
  | keyWrite (m : Msg) (slot : Fin 8) (words : List Word)
  /-- KEY_CLEAR (R155) -/
  | keyClear (m : Msg) (v : Word)
  /-- COMPRESS_JOB (R167): the compressor, and the errors its descriptor reads meet -/
  | compressJob (n : Fin 4) (evs : List MemEv)
  /-- CX_DOORBELL (R171) -/
  | cxDoorbell (m : Msg) (n : Fin 4) (v : Word)
  /-- EVD_RESEND (R332) -/
  | evdResend (m : Msg) (v : Word)
  /-- ENCODER_EDGE (R179): encoder, the new levels of A and B and the ticks since the previous sample -/
  | encoderEdge (enc : Fin 2) (a : Bool) (b : Bool)
  /-- LG_TRIGGER (R185) -/
  | lgTrigger (k : Fin 16)
  /-- SPEED_ESTIMATE (R183) -/
  | speedEstimate (enc : Fin 2)
  /-- STANDSTILL (R184) -/
  | standstill (enc : Fin 2)
  /-- INDEX_EDGE (R187): encoder and the levels of A and B at the edge -/
  | indexEdge (enc : Fin 2) (a : Bool) (b : Bool)
  /-- INDEX_MISSING (R187) -/
  | indexMissing (enc : Fin 2)
  /-- INDEX_CROSS_CHECK (R187) -/
  | indexCrossCheck
  /-- PRESET (R182) -/
  | preset (m : Msg) (enc : Fin 2) (v : Word)
  /-- ISLAND_CHECK (R198): the island's count -/
  | islandCheck (island : Pos)
  /-- LG_APPLY (R186) -/
  | lgApply (k : Fin 16)
  /-- ENCOUT_APPLY (R201) -/
  | encoutApply (n : Fin 2)
  /-- COMPARE_ARM (R193) -/
  | compareArm (m : Msg) (k : Fin 64) (v : Word)
  /-- COMPARE_DISARM (R193) -/
  | compareDisarm (m : Msg) (k : Fin 64) (v : Word)
  /-- COMPARE_FIRE (R194) -/
  | compareFire (k : Fin 64)
  /-- FIXED_CLOCK_TRIGGER (R204) -/
  | fixedClockTrigger (k : Fin 16)
  /-- LINESYNC_IN (R205): ticks from the edge's sample tick to now -/
  | linesyncIn (age : Nat)
  /-- LINESYNC_OUT (R205) -/
  | linesyncOut
  /-- FORM_POINT (R209): the bar, the errors its fetches and table reads meet, and the sequencers (bit 0 SQA) in which an
  internal check trips (R394) -/
  | formPoint (bar : Fin 16) (evs : List MemEv) (checks : BitVec 2)
  /-- MODE_APPLIED (R206) -/
  | modeApplied (k : Fin 16)
  /-- MARKER_DEPART (R213): lane, bar, line count, ordinal, and whether only the standby's copy of a frame is complete at the
  planned departure (R388) -/
  | markerDepart (lane : Fin 16) (bar : Fin 16) (count : Nat) (ord : Fin 32) (lag : Bool)
  /-- LATE_MARKER (R214): the ticks after the planned departure at which the frame completed -/
  | lateMarker (lane : Fin 16) (bar : Fin 16) (count : Nat) (ord : Fin 32) (late : Nat)
  /-- LINE_BLANKED (R215) -/
  | lineBlanked (bar : Fin 16) (count : Nat) (lane : Fin 16)
  /-- STOP_REQ (R219) -/
  | stopReq (m : Msg) (v : Word)
  /-- STOP_COMPLETE (R221) -/
  | stopComplete (tg : Fin 16)
  /-- STOP_RESUME (R221) -/
  | stopResume (m : Msg) (v : Word)
  /-- RENDER_START (R244): the piece and the errors its reads meet -/
  | renderStart (piece : Word) (evs : List MemEv)
  /-- SERIAL_PEND_WRITE (R246) -/
  | serialPendWrite (m : Msg) (list : Fin 4) (lo hi : Word)
  /-- TRAINING_SET_RX (R271): lane, the sender's RATES, RATE and FLAGS, whether the sets are TS-B, how many in a row, the
  sets of our own sent, and whether our receiver is trained -/
  | trainingSetRx (lane : Fin 16) (rates rate flags : Byte) (tsB : Bool) (count : Nat) (sentB : Nat) (trained : Bool)
  /-- BLOCK_LOCK (R258): valid headers in a row -/
  | blockLock (lane : Fin 16) (headers : Nat)
  /-- LANE_STATE_TIMEOUT (R271) -/
  | laneStateTimeout (lane : Fin 16)
  /-- CAP (R273) -/
  | cap (lane : Fin 16) (c : Cap)
  /-- ACK (R273): the message acknowledged and, for CFG_END, its CFG_CRC; for GO's predecessor the echo burst of R265 -/
  | ack (lane : Fin 16) (msg : Byte) (crc : Word)
  /-- REJECT (R273) -/
  | reject (lane : Fin 16) (msg : Byte) (reason : Byte)
  /-- CTRL_RESEND (R272) -/
  | ctrlResend (lane : Fin 16)
  /-- LANE_RESTART (R273) -/
  | laneRestart (lane : Fin 16)
  /-- STATUS_RX (R268): the 60 payload bytes -/
  | statusRx (lane : Fin 16) (payload : List Byte)
  /-- HEAD_STALE (R269) -/
  | headStale (ch : Fin 512)
  /-- ECHO_BURST (R264): for each reply that came: round trip less TA in ps; and t_int in ps -/
  | echoBurst (lane : Fin 16) (rt : List Int) (tInt : Int)
  /-- CAL (R265) -/
  | cal (m : Msg) (lane : Fin 16) (v : Word)
  /-- LANE_DOWN (R276) -/
  | laneDown (lane : Fin 16)
  /-- LANE_REVERT (R279) -/
  | laneRevert (lane : Fin 16)
  /-- LANE_RESUME (R279) -/
  | laneResume (m : Msg) (lane : Fin 16) (v : Word)
  /-- RETRAIN (R284) -/
  | retrain (m : Msg) (lane : Fin 16) (v : Word)
  /-- TRIM_STEP (R280): lane 0–15 head, 16–19 camera; areas at the trim, above and below, and the new eye -/
  | trimStep (lane : Fin 20) (a0 ap am : Nat) (eyeW eyeH : Byte)
  /-- TRIM_SET_STORE (R281): lane 0–15 head, 16–19 camera; the area at the trims in force -/
  | trimSetStore (lane : Fin 20) (area : BitVec 16)
  /-- PARK (R286) -/
  | park (bar : Fin 16)
  /-- IDLE_WINDOW (R286) -/
  | idleWindow (bar : Fin 16)
  /-- GATE_WINDOW_END (R292) -/
  | gateWindowEnd (gate : Fin 4) (v : GateSamples)
  /-- GATE_TRIM (R294): the samples of the last 100 ms outside windows, binned by 16 codes -/
  | gateTrim (gate : Fin 4) (bins : List Nat)
  /-- GATE_TRIM_STORE (R296) -/
  | gateTrimStore (gate : Fin 4)
  /-- MEND_ADD (R300) -/
  | mendAdd (m : Msg) (nozzle : BitVec 20)
  /-- MEND_REMOVE (R300) -/
  | mendRemove (m : Msg) (nozzle : BitVec 20)
  /-- MEND_PIN (R300) -/
  | mendPin (m : Msg) (nozzle : BitVec 20)
  /-- MEND_UNPIN (R300) -/
  | mendUnpin (m : Msg) (nozzle : BitVec 20)
  /-- MEND_TEST (R300) -/
  | mendTest (m : Msg) (nozzle : BitVec 20)
  /-- CL_LOCK (R313): clean idle sets in a row -/
  | clLock (lane : Fin 4) (sets : Nat)
  /-- CL_LOCK_LOSS (R313): invalid symbols within 1,024 symbols, symbols without an idle set -/
  | clLockLoss (lane : Fin 4) (invalid : Nat) (noIdle : Nat)
  /-- CP_ARM (R318) -/
  | cpArm (m : Msg) (n : Fin 4) (v : Word)
  /-- ARM_RELEASE (R318) -/
  | armRelease (n : Fin 4)
  /-- FRAME_START (R324): the pipeline and the packet, whose WC is the frame number -/
  | frameStart (n : Fin 4) (p : Packet)
  /-- IMAGE_LINE (R326): pipeline, packet, line number (WC of Line Start) if any, streams whose buffer is full as the line
  arrives (R336), errors met -/
  | imageLine (n : Fin 4) (p : Packet) (lineNo : Option (BitVec 16)) (full : BitVec 4) (evs : List MemEv)
  /-- EMBEDDED_LINE (R325) -/
  | embeddedLine (n : Fin 4) (p : Packet)
  /-- FRAME_END (R338): pipeline, packet, and the errors met by what it finishes -/
  | frameEnd (n : Fin 4) (p : Packet) (evs : List MemEv)
  /-- FIELD_CHECK (R334): piece, field ordinal -/
  | fieldCheck (n : Fin 4) (piece : Word) (field : Fin 64)
  /-- CAMCTL_REPLY (R325): the bytes received -/
  | camctlReply (n : Fin 4) (bytes : List Byte)
  /-- PING (R323) -/
  | ping (n : Fin 4)
  /-- UPDATE_POINT (R348) -/
  | updatePoint (bar : Fin 16)
  /-- LAT_APPLY (R226) -/
  | latApply (bar : Fin 16)
  /-- LINK_UP (R363): RS-FEC alignment and Clause 37 completion as the PCS reports them -/
  | linkUp (np : Fin 2) (pcsLock fecLock anDone : Bool)
  /-- LINK_DOWN (R363): cause 0 loss of signal, 1 loss of lock, 2 loop-back, 3 MODE off -/
  | linkDown (np : Fin 2) (cause : Fin 4)
  /-- PORT_CFG_WRITE (R361) -/
  | portCfgWrite (m : Msg) (n : Fin 2) (v : Word)
  /-- ARP_REQUEST (R366): sender MAC and IP, target IP, source MAC of the frame -/
  | arpRequest (np : Fin 2) (sha : BitVec 48) (spa tpa : Word) (frameSrc : BitVec 48)
  /-- ARP_REPLY (R366) -/
  | arpReply (np : Fin 2) (sha : BitVec 48) (spa : Word)
  /-- ARP_RETRY (R366) -/
  | arpRetry (np : Fin 2) (ip : Word)
  /-- ICMP_ECHO (R367): source MAC and IP, destination IP, the packet's length and the echo's identifier, sequence, data -/
  | icmpEcho (np : Fin 2) (srcMac : BitVec 48) (src dst : Word) (ident seq : BitVec 16) (data : List Byte)
  /-- SYNC (R372): header, origin timestamp t1 and receive timestamp t2; `followUp` says it is the Follow_Up. Times of the PTP
  commands are in 2^−16 ns, the unit of the correctionField -/
  | sync (h : PtpHdr) (followUp : Bool) (t1 t2 : Int)
  /-- DELAY_RESP (R372): header, the receive time t4 it carries and the requesting port identity -/
  | delayResp (h : PtpHdr) (t4 : Int) (reqId : BitVec 64) (reqPort : BitVec 16)
  /-- PDELAY_REQ (R371): header and receive timestamp -/
  | pdelayReq (h : PtpHdr) (t2 : Int)
  /-- PDELAY_RESP (R372): header, the request's receive time t2, the response's departure t3 and its arrival t4 -/
  | pdelayResp (h : PtpHdr) (followUp : Bool) (t2 t3 t4 : Int)
  /-- DELAY_REQ (R368): header and receive timestamp -/
  | delayReq (h : PtpHdr) (t4 : Int)
  /-- ANNOUNCE (R369) -/
  | announce (h : PtpHdr) (a : AnnounceData)
  /-- ANNOUNCE_TIMEOUT (R369) -/
  | announceTimeout (np : Fin 2) (inst : Fin 2)
  /-- PTP_SEND (R371): port, instance, kind 0 Sync, 1 Announce, 2 Delay_Req, 3 Pdelay_Req, and the departure timestamp -/
  | ptpSend (np : Fin 2) (inst : Fin 2) (kind : Fin 4) (t : Int)
  /-- HOLDOVER (R375) -/
  | holdover (tb : Fin 4)
  /-- PI_CFG_WRITE (R369) -/
  | piCfgWrite (m : Msg) (inst : Fin 2) (v : Word)
  /-- TB_SET (R380) -/
  | tbSet (m : Msg) (k : Fin 4) (lo hi : Word)
  /-- TB_ADJ (R380) -/
  | tbAdj (m : Msg) (k : Fin 4) (v : Word)
  /-- ACCEPT (R377) -/
  | accept (m : Msg) (k : Fin 4) (v : Word)
  /-- TIME_PULSE (R381) -/
  | timePulse (p : Fin 4)
  /-- SNAPSHOT (R383) -/
  | snapshot (m : Msg) (v : Word)
  /-- NP_LOOPBACK (R384) -/
  | npLoopback (m : Msg) (n : Fin 2) (v : Word)
  /-- LANE_CRC_COMPARE (R389): the two CRCs and whether either sequencer reported an uncorrectable read -/
  | laneCrcCompare (lane : Fin 16) (bar : Fin 16) (lseq : Word) (crcA crcB : Word) (ueA ueB : Bool)
  /-- REPLAY (R390): the two replays' CRCs -/
  | replay (lane : Fin 16) (ra rb : Word)
  /-- SLICE (R392): sequencer (0 SQA), the signature observed and the fuse reference -/
  | slice (sq : Fin 2) (sig ref : Word)
  /-- OVERLAP_END (R395) -/
  | overlapEnd
  /-- RECOVERY_CYCLE (R397): sequencer, whether every slice passed, and the failing slice -/
  | recoveryCycle (sq : Fin 2) (pass : Bool) (index : BitVec 13)
  /-- PREF_WRITE (R400) -/
  | prefWrite (m : Msg) (v : Word)
  /-- RELEASE (R400) -/
  | release (m : Msg) (v : Word)
  /-- UNRETIRE_A (R399) -/
  | unretireA (m : Msg) (v : Word)
  /-- UNRETIRE_B (R399) -/
  | unretireB (m : Msg) (v : Word)
  /-- SCRUB_READ (R413): class 0 HBM or 1, 2 SRAM, whether an SRAM pass ends with it, the error met, if any, and the spares whose
  march in that pass failed: class 0 HBM, 1 SRAM, and the instance (R458) -/
  | scrubRead (cls : Fin 3) (passEnd : Bool) (ev : Option MemEv) (spares : List (Fin 2 × Nat))
  /-- CE_AGE (R415): class and entry -/
  | ceAge (cls : Fin 3) (entry : Fin 16)
  /-- REFRESH (R408): pseudo-channel, bank, whether its queue head holds a request -/
  | refresh (pc : Fin 32) (bank : Fin 16) (busy : Bool)
  /-- RETRAIN_PAUSE (R409): both sequencers done forming, ticks to the next form point -/
  | retrainPause (formingDone : Bool) (ticksToForm : Nat)
  /-- ACT_LIMIT (R410): pseudo-channel, bank, row, port, requester -/
  | actLimit (pc : Fin 32) (bank : Fin 16) (row : BitVec 15) (port : Fin 6) (req : BitVec 5)
  /-- THERMAL_SAMPLE (R427): the 16 readings and the HBM reading in 1/16 °C, and VIN in mV, mA, its 20 µs minimum, VAUX mV -/
  | thermalSample (ts : List Int) (hbm : Int) (vin iin vinMin vaux : Nat)
  /-- ORDERLY_STOP (R430) -/
  | orderlyStop
  /-- HARDWARE_TRIP (R431) -/
  | hardwareTrip (spiBits : Fin 8)
  /-- BACKSTOP_TRIP (R432): the sensor and its reading -/
  | backstopTrip (sensor : Fin 16) (reading : Int) (spiBits : Fin 8)
  /-- TRIP_RESTART (R431) -/
  | tripRestart (d : DawnIn)
  /-- HEAD_HARD_LIMIT (R435) -/
  | headHardLimit (ch : Fin 512)
  /-- NVM_WINDOW_OPEN (R436) -/
  | nvmWindowOpen
  /-- DIP_START (R439): ACFAIL_N asserted, or VIN below 10.2 V -/
  | dipStart (acfail : Bool) (vinMv : Nat)
  /-- DIP_RIDDEN (R439) -/
  | dipRidden
  /-- SUPPLY_STOP (R440): the lowest VIN of the dip in mV -/
  | supplyStop (vinMv : Nat)
  /-- CEIL_GOVERNOR (R444) -/
  | ceilGovernor
  /-- CEIL_ACTIVE (R445) -/
  | ceilActive
  /-- JOURNAL_WRITE (R452): the cause -/
  | journalWrite (cause : Fin 10)
  /-- STATE_STORE_WRITE (R69) -/
  | stateStoreWrite
  /-- ENTER (R459) -/
  | enter (m : Msg) (v : Word)
  /-- LEAVE (R459) -/
  | leave (m : Msg) (v : Word)
  /-- BIST (R459): what the run finds -/
  | bist (m : Msg) (v : Word) (fails : List BistFail)
  /-- JOURNAL (R452) -/
  | journal (m : Msg) (v : Word)
  /-- BIST_SLICE (R458): unit code 2, 3 or 4, index, and the failing signature if any -/
  | bistSlice (unit : Fin 3) (index : Fin 16) (fail : Option Word)
  /-- HL_LOOPBACK (R460) -/
  | hlLoopback (m : Msg) (n : Fin 16) (v : Word)
  /-- CL_LOOPBACK (R460) -/
  | clLoopback (m : Msg) (n : Fin 4) (v : Word)
  /-- MFP_LOOPBACK (R460) -/
  | mfpLoopback (m : Msg) (v : Word)
  /-- EXTEST (R461): the boundary bits shifted in and the pin levels captured -/
  | extest (shift captured : BitVec 24)
  /-- IDCODE (R461) -/
  | idcode
  /-- SAMPLE_PRELOAD (R461) -/
  | samplePreload (shift captured : BitVec 24)
  /-- CLAMP (R461) -/
  | clamp (tdi : Bool)
  /-- HIGHZ (R461) -/
  | highz (tdi : Bool)
  /-- TSTATUS (R461) -/
  | tstatus
  /-- WIPE (R462): the update value -/
  | wipe (v : Word)
  /-- SCAN (R461): the bits shifted in -/
  | scan (bits : List Bool)
  /-- MEMACC (R461): the 80-bit data register -/
  | memacc (dr : BitVec 80)
  /-- BYPASS (R461): the instruction code loaded and the bit shifted in -/
  | bypass (code : Byte) (tdi : Bool)
  /-- DIP_END (R439): which inputs have released -/
  | dipEnd (acfailReleased vinReleased : Bool)
  /-- SUPPLY_STOP_CLEAR (R440) -/
  | supplyStopClear
  /-- VIO_RETURN (R36) -/
  | vioReturn
  /-- PTP_UNLOCKED (R376) -/
  | ptpUnlocked (tb : Fin 4)
  /-- PARK_CLOCK_TRIGGER (R286) -/
  | parkClockTrigger (bar : Fin 16)
  /-- NP_RX_DISCARD (R362): port, frame bytes, FCS good, VLAN tag if any, and whether the packet is one R365 and R367 accept -/
  | npRxDiscard (np : Fin 2) (frameLen : Nat) (fcsOk : Bool) (vid : Option (BitVec 12)) (accepted : Bool)
  /-- ARP_AGE (R366) -/
  | arpAge (np : Fin 2) (ip : Word)
  deriving DecidableEq, Repr

end Sys2Proof
end

