-- ==== Sys2Proof/Machine/RegMap.lean ====
section
/-! DEFINITION. The register space (R108): every register of the spec's tables by its name there without the index letter, with
its address, its fields, their access codes (R6) and their values after Dawn (R8). -/

namespace Sys2Proof.Machine

/-- The access codes of R6. -/
inductive Acc where
  | rw | ro | wo | w1c | rws
  deriving DecidableEq, Repr

/-- One field of one register: the register's address, the field's lowest bit and its width. -/
structure Field where
  addr : Nat
  lo : Nat
  width : Nat
  deriving DecidableEq, Repr

/-- One row of a register table: lowest bit, width, access code and the fixed value after Dawn. -/
structure FieldRow where
  lo : Nat
  width : Nat
  acc : Acc
  dflt : Nat
  deriving DecidableEq, Repr

/-- One register or one family of registers of the same layout: the first address, the (count, stride) of each index, the fields. -/
structure Fam where
  base : Nat
  dims : List (Nat × Nat)
  rows : List FieldRow
  deriving DecidableEq, Repr

namespace R

-- SYS
abbrev SYS_STATE : Nat := 0x0
abbrev SYS_STATE_STATE : Field := ⟨SYS_STATE, 0, 3⟩
abbrev DAWN_CAUSE : Nat := 0x4
abbrev DAWN_CAUSE_CAUSE : Field := ⟨DAWN_CAUSE, 0, 4⟩
abbrev DAWN_CAUSE_SLOT : Field := ⟨DAWN_CAUSE, 4, 1⟩
abbrev DAWN_CAUSE_FALLBACK : Field := ⟨DAWN_CAUSE, 5, 1⟩
abbrev DAWN_CAUSE_MAINT : Field := ⟨DAWN_CAUSE, 6, 1⟩
abbrev DAWN_CAUSE_STATE_LOST : Field := ⟨DAWN_CAUSE, 7, 1⟩
abbrev DAWN_CAUSE_LANE_SHORT : Field := ⟨DAWN_CAUSE, 8, 1⟩
abbrev DAWN_CAUSE_BIST_DEGRADED : Field := ⟨DAWN_CAUSE, 9, 1⟩
abbrev DAWN_CAUSE_MAINT_WHY : Field := ⟨DAWN_CAUSE, 10, 2⟩
abbrev DAWN_TIME : Nat := 0x8
abbrev DAWN_TIME_US : Field := ⟨DAWN_TIME, 0, 32⟩
abbrev IMAGE_GEN : Nat := 0xC
abbrev IMAGE_GEN_GEN : Field := ⟨IMAGE_GEN, 0, 32⟩
abbrev PWR_CTRL : Nat := 0x10
abbrev PWR_CTRL_DUSK_AUTO : Field := ⟨PWR_CTRL, 0, 1⟩
abbrev PWR_CTRL_NIGHT_REQ : Field := ⟨PWR_CTRL, 1, 1⟩
abbrev PWR_CTRL_RESTART : Field := ⟨PWR_CTRL, 2, 1⟩
abbrev PWR_CTRL_RESTART_PEND : Field := ⟨PWR_CTRL, 3, 1⟩
abbrev DUSK_DELAY : Nat := 0x14
abbrev DUSK_DELAY_US : Field := ⟨DUSK_DELAY, 0, 16⟩
abbrev NIGHT_WAKE : Nat := 0x18
abbrev NIGHT_WAKE_WAKE_MFP : Field := ⟨NIGHT_WAKE, 0, 4⟩
abbrev NIGHT_WAKE_WAKE_ENC : Field := ⟨NIGHT_WAKE, 4, 1⟩
abbrev NIGHT_WAKE_WAKE_TIMER : Field := ⟨NIGHT_WAKE, 5, 1⟩
abbrev WAKE_COUNTS : Nat := 0x1C
abbrev WAKE_COUNTS_COUNTS : Field := ⟨WAKE_COUNTS, 0, 16⟩
abbrev WAKE_TIME : Nat := 0x20
abbrev WAKE_TIME_S : Field := ⟨WAKE_TIME, 0, 32⟩
abbrev NIGHT_LAST : Nat := 0x24
abbrev NIGHT_LAST_S : Field := ⟨NIGHT_LAST, 0, 32⟩
abbrev WAKE_SRC : Nat := 0x28
abbrev WAKE_SRC_SRC : Field := ⟨WAKE_SRC, 0, 2⟩
abbrev WAKE_SRC_MFP : Field := ⟨WAKE_SRC, 2, 4⟩
abbrev PWR_ERR : Nat := 0x2C
abbrev PWR_ERR_NIGHT_REFUSED : Field := ⟨PWR_ERR, 0, 1⟩
abbrev SUB_IP (n : Nat) : Nat := 0x100 + 16 * n
abbrev SUB_IP_IP (n : Nat) : Field := ⟨SUB_IP n, 0, 32⟩
abbrev SUB_CFG (n : Nat) : Nat := 0x104 + 16 * n
abbrev SUB_CFG_PORT (n : Nat) : Field := ⟨SUB_CFG n, 0, 16⟩
abbrev SUB_CFG_CLASSES (n : Nat) : Field := ⟨SUB_CFG n, 16, 3⟩
abbrev SUB_CFG_NP (n : Nat) : Field := ⟨SUB_CFG n, 19, 1⟩
abbrev SUB_GROUPS (n : Nat) : Nat := 0x108 + 16 * n
abbrev SUB_GROUPS_GROUPS (n : Nat) : Field := ⟨SUB_GROUPS n, 0, 17⟩
abbrev SUB_PEND (n : Nat) : Nat := 0x10C + 16 * n
abbrev SUB_PEND_PEND (n : Nat) : Field := ⟨SUB_PEND n, 0, 11⟩
abbrev SUB_TIMEOUT : Nat := 0x140
abbrev SUB_TIMEOUT_S : Field := ⟨SUB_TIMEOUT, 0, 16⟩
abbrev MGMT_DISCARD : Nat := 0x144
abbrev MGMT_DISCARD_COUNT : Field := ⟨MGMT_DISCARD, 0, 32⟩
abbrev MGMT_DUP : Nat := 0x148
abbrev MGMT_DUP_COUNT : Field := ⟨MGMT_DUP, 0, 32⟩
abbrev CFG_WRITES : Nat := 0x14C
abbrev CFG_WRITES_COUNT : Field := ⟨CFG_WRITES, 0, 32⟩
abbrev CFG_IGNORED : Nat := 0x150
abbrev CFG_IGNORED_COUNT : Field := ⟨CFG_IGNORED, 0, 32⟩
abbrev CFG_REFUSED : Nat := 0x154
abbrev CFG_REFUSED_COUNT : Field := ⟨CFG_REFUSED, 0, 32⟩
abbrev EVT_LOST : Nat := 0x158
abbrev EVT_LOST_COUNT : Field := ⟨EVT_LOST, 0, 32⟩
abbrev MGMT_EN : Nat := 0x15C
abbrev MGMT_EN_NP0 : Field := ⟨MGMT_EN, 0, 1⟩
abbrev MGMT_EN_NP1 : Field := ⟨MGMT_EN, 1, 1⟩
abbrev MGMT_EN_CFG_WRITE_EVT : Field := ⟨MGMT_EN, 2, 1⟩
abbrev FAULT_LATCH : Nat := 0x160
abbrev FAULT_LATCH_GROUPS : Field := ⟨FAULT_LATCH, 0, 17⟩
abbrev SET_ROLE : Nat := 0x170
abbrev SET_ROLE_ROLE : Field := ⟨SET_ROLE, 0, 2⟩
abbrev SET_ROLE_INDEX : Field := ⟨SET_ROLE, 2, 4⟩
abbrev SET_LEAD_IP : Nat := 0x174
abbrev SET_LEAD_IP_IP : Field := ⟨SET_LEAD_IP, 0, 32⟩
abbrev SET_FOLLOW_IP (n : Nat) : Nat := 0x180 + 8 * n
abbrev SET_FOLLOW_IP_IP (n : Nat) : Field := ⟨SET_FOLLOW_IP n, 0, 32⟩
abbrev SET_FOLLOW_MAP (n : Nat) : Nat := 0x184 + 8 * n
abbrev SET_FOLLOW_MAP_SPAN_BASE (n : Nat) : Field := ⟨SET_FOLLOW_MAP n, 0, 12⟩
abbrev SET_FOLLOW_MAP_SPAN_COUNT (n : Nat) : Field := ⟨SET_FOLLOW_MAP n, 12, 12⟩
abbrev SET_FOLLOW_MAP_LINK_OK (n : Nat) : Field := ⟨SET_FOLLOW_MAP n, 24, 1⟩
-- THERM
abbrev TS (n : Nat) : Nat := 0x10000 + 4 * n
abbrev TS_TEMP (n : Nat) : Field := ⟨TS n, 0, 16⟩
abbrev THERM_HBM : Nat := 0x10040
abbrev THERM_HBM_TEMP : Field := ⟨THERM_HBM, 0, 16⟩
abbrev THERM_HOT : Nat := 0x10044
abbrev THERM_HOT_TEMP : Field := ⟨THERM_HOT, 0, 16⟩
abbrev THERM_HOT_SENSOR : Field := ⟨THERM_HOT, 16, 5⟩
abbrev THERM_HOT_THETA : Field := ⟨THERM_HOT, 21, 10⟩
abbrev THERM_STATE : Nat := 0x10048
abbrev THERM_STATE_SERVICE : Field := ⟨THERM_STATE, 0, 1⟩
abbrev THERM_STATE_THROTTLE : Field := ⟨THERM_STATE, 1, 1⟩
abbrev THERM_STATE_STOP_DIE : Field := ⟨THERM_STATE, 2, 1⟩
abbrev THERM_STATE_BG_HELD : Field := ⟨THERM_STATE, 3, 1⟩
abbrev THERM_STATE_TRIP_ARMED : Field := ⟨THERM_STATE, 4, 1⟩
abbrev THERM_STATE_STOP_HEAD : Field := ⟨THERM_STATE, 5, 1⟩
abbrev THERM_LAST_TRIP : Nat := 0x1004C
abbrev THERM_LAST_TRIP_KIND : Field := ⟨THERM_LAST_TRIP, 0, 2⟩
abbrev THERM_LAST_TRIP_SENSOR : Field := ⟨THERM_LAST_TRIP, 2, 4⟩
abbrev THERM_LAST_TRIP_TEMP : Field := ⟨THERM_LAST_TRIP, 6, 16⟩
abbrev THERM_COUNTS : Nat := 0x10050
abbrev THERM_COUNTS_TRIPS : Field := ⟨THERM_COUNTS, 0, 8⟩
abbrev THERM_COUNTS_BACKSTOPS : Field := ⟨THERM_COUNTS, 8, 8⟩
abbrev THERM_COUNTS_ORDERLY : Field := ⟨THERM_COUNTS, 16, 16⟩
abbrev THERM_THROTTLED : Nat := 0x10054
abbrev THERM_THROTTLED_S : Field := ⟨THERM_THROTTLED, 0, 32⟩
abbrev BAR_HEADLIM (n : Nat) : Nat := 0x10080 + 4 * n
abbrev BAR_HEADLIM_SOFT (n : Nat) : Field := ⟨BAR_HEADLIM n, 0, 8⟩
abbrev BAR_HEADLIM_HARD (n : Nat) : Field := ⟨BAR_HEADLIM n, 8, 8⟩
abbrev HEAD_HOT : Nat := 0x100C0
abbrev HEAD_HOT_CODE : Field := ⟨HEAD_HOT, 0, 8⟩
abbrev HEAD_HOT_CHAN : Field := ⟨HEAD_HOT, 8, 9⟩
abbrev HEAD_HOT_STALE : Field := ⟨HEAD_HOT, 17, 1⟩
abbrev SUP_CFG : Nat := 0x10100
abbrev SUP_CFG_RIDE_US : Field := ⟨SUP_CFG, 0, 12⟩
abbrev SUP_STATE : Nat := 0x10104
abbrev SUP_STATE_ACFAIL : Field := ⟨SUP_STATE, 0, 1⟩
abbrev SUP_STATE_VIN_WARN : Field := ⟨SUP_STATE, 1, 1⟩
abbrev SUP_STATE_DIP : Field := ⟨SUP_STATE, 2, 1⟩
abbrev SUP_STATE_SUPPLY_STOP : Field := ⟨SUP_STATE, 3, 1⟩
abbrev SUP_LAST_DIP : Nat := 0x10108
abbrev SUP_LAST_DIP_US : Field := ⟨SUP_LAST_DIP, 0, 24⟩
abbrev SUP_DIPS : Nat := 0x1010C
abbrev SUP_DIPS_RIDDEN : Field := ⟨SUP_DIPS, 0, 16⟩
abbrev SUP_DIPS_STOPS : Field := ⟨SUP_DIPS, 16, 16⟩
abbrev DIP_HIST (n : Nat) : Nat := 0x10120 + 4 * n
abbrev DIP_HIST_COUNT (n : Nat) : Field := ⟨DIP_HIST n, 0, 32⟩
abbrev CEIL_CFG : Nat := 0x10140
abbrev CEIL_CFG_HOLD_MS : Field := ⟨CEIL_CFG, 0, 16⟩
abbrev CEIL_STATE : Nat := 0x10144
abbrev CEIL_STATE_G : Field := ⟨CEIL_STATE, 0, 5⟩
abbrev CEIL_STATE_U : Field := ⟨CEIL_STATE, 8, 7⟩
abbrev NVM_DEFER : Nat := 0x10148
abbrev NVM_DEFER_QUEUED : Field := ⟨NVM_DEFER, 0, 7⟩
abbrev NVM_DEFER_STATE_PEND : Field := ⟨NVM_DEFER, 7, 1⟩
abbrev NVM_DEFER_WINDOW : Field := ⟨NVM_DEFER, 8, 1⟩
abbrev NVM_DEFER_LOST : Field := ⟨NVM_DEFER, 16, 16⟩
-- NVM
abbrev NVM_INFO : Nat := 0x20000
abbrev NVM_INFO_SIZE_LOG2 : Field := ⟨NVM_INFO, 0, 5⟩
abbrev NVM_INFO_ADDR4 : Field := ⟨NVM_INFO, 5, 1⟩
abbrev NVM_INFO_SUSPEND : Field := ⟨NVM_INFO, 6, 1⟩
abbrev NVM_INFO_SCK_MHZ : Field := ⟨NVM_INFO, 8, 8⟩
abbrev NVM_SLOTS : Nat := 0x20004
abbrev NVM_SLOTS_A_VALID : Field := ⟨NVM_SLOTS, 0, 1⟩
abbrev NVM_SLOTS_B_VALID : Field := ⟨NVM_SLOTS, 1, 1⟩
abbrev NVM_SLOTS_NEXT : Field := ⟨NVM_SLOTS, 2, 1⟩
abbrev NVM_SLOTS_ST_HALF : Field := ⟨NVM_SLOTS, 3, 1⟩
abbrev NVM_SLOTS_OTHER_CHK : Field := ⟨NVM_SLOTS, 4, 1⟩
abbrev GEN_A : Nat := 0x20008
abbrev GEN_A_GEN : Field := ⟨GEN_A, 0, 32⟩
abbrev GEN_B : Nat := 0x2000C
abbrev GEN_B_GEN : Field := ⟨GEN_B, 0, 32⟩
abbrev NVM_OP : Nat := 0x20010
abbrev NVM_OP_OP : Field := ⟨NVM_OP, 0, 3⟩
abbrev NVM_OP_TARGET : Field := ⟨NVM_OP, 3, 1⟩
abbrev NVM_ERR : Nat := 0x20014
abbrev NVM_ERR_CRC_MISMATCH : Field := ⟨NVM_ERR, 0, 1⟩
abbrev NVM_ERR_IMAGE_INVALID : Field := ⟨NVM_ERR, 1, 1⟩
abbrev NVM_ERR_VERIFY_FAIL : Field := ⟨NVM_ERR, 2, 1⟩
abbrev NVM_ERR_ERASE_FAIL : Field := ⟨NVM_ERR, 3, 1⟩
abbrev NVM_ERR_PROGRAM_FAIL : Field := ⟨NVM_ERR, 4, 1⟩
abbrev NVM_ERR_TEMP_DEFER : Field := ⟨NVM_ERR, 5, 1⟩
abbrev NVM_ERR_GEN_EXHAUSTED : Field := ⟨NVM_ERR, 6, 1⟩
abbrev NVM_ERR_STATE_WRITE_FAIL : Field := ⟨NVM_ERR, 7, 1⟩
abbrev STATE_INTERVAL : Nat := 0x20018
abbrev STATE_INTERVAL_MIN : Field := ⟨STATE_INTERVAL, 0, 11⟩
abbrev STATE_GEN : Nat := 0x2001C
abbrev STATE_GEN_GEN : Field := ⟨STATE_GEN, 0, 32⟩
abbrev STAGE_LEN : Nat := 0x20020
abbrev STAGE_LEN_BYTES : Field := ⟨STAGE_LEN, 0, 24⟩
-- PINS
abbrev MFP_CFG (n : Nat) : Nat := 0x30000 + 4 * n
abbrev MFP_CFG_FUNC (n : Nat) : Field := ⟨MFP_CFG n, 0, 6⟩
abbrev MFP_CFG_PULL (n : Nat) : Field := ⟨MFP_CFG n, 6, 2⟩
abbrev MFP_CFG_INV (n : Nat) : Field := ⟨MFP_CFG n, 8, 1⟩
abbrev MFP_CFG_DRIVE (n : Nat) : Field := ⟨MFP_CFG n, 9, 2⟩
abbrev MFP_CFG_SLEW (n : Nat) : Field := ⟨MFP_CFG n, 11, 1⟩
abbrev MFP_CFG_IDLE (n : Nat) : Field := ⟨MFP_CFG n, 12, 1⟩
abbrev MFP_LEVEL : Nat := 0x30040
abbrev MFP_LEVEL_LEVEL : Field := ⟨MFP_LEVEL, 0, 16⟩
abbrev PINS_VIO : Nat := 0x30044
abbrev PINS_VIO_CLASS : Field := ⟨PINS_VIO, 0, 1⟩
abbrev PINS_VIO_VIO_OK : Field := ⟨PINS_VIO, 1, 1⟩
abbrev SUP_VIN : Nat := 0x30048
abbrev SUP_VIN_VIN_MV : Field := ⟨SUP_VIN, 0, 16⟩
abbrev SUP_VIN_VIN_MIN_MV : Field := ⟨SUP_VIN, 16, 16⟩
abbrev SUP_IIN : Nat := 0x3004C
abbrev SUP_IIN_IIN_MA : Field := ⟨SUP_IIN, 0, 16⟩
abbrev SUP_PIN : Nat := 0x30050
abbrev SUP_PIN_PIN_10MW : Field := ⟨SUP_PIN, 0, 16⟩
abbrev SUP_VAUX : Nat := 0x30054
abbrev SUP_VAUX_VAUX_MV : Field := ⟨SUP_VAUX, 0, 16⟩
abbrev VIN_CEIL : Nat := 0x30058
abbrev VIN_CEIL_CEIL_MA : Field := ⟨VIN_CEIL, 0, 16⟩
abbrev PIN_ERR : Nat := 0x3005C
abbrev PIN_ERR_CONFLICT : Field := ⟨PIN_ERR, 0, 1⟩
abbrev PIN_ERR_VIO_LOST : Field := ⟨PIN_ERR, 1, 1⟩
abbrev PIN_ERR_CEIL_ACTIVE : Field := ⟨PIN_ERR, 2, 1⟩
abbrev MFP_PEND : Nat := 0x30060
abbrev MFP_PEND_PEND : Field := ⟨MFP_PEND, 0, 16⟩
-- POS
abbrev ENC_CFG (n : Nat) : Nat := 0x40000 + 128 * n
abbrev ENC_CFG_MODE (n : Nat) : Field := ⟨ENC_CFG n, 0, 2⟩
abbrev ENC_CFG_QMULT (n : Nat) : Field := ⟨ENC_CFG n, 2, 2⟩
abbrev ENC_CFG_FILT (n : Nat) : Field := ⟨ENC_CFG n, 4, 3⟩
abbrev ENC_CFG_POL (n : Nat) : Field := ⟨ENC_CFG n, 7, 1⟩
abbrev ENC_CFG_ZEN (n : Nat) : Field := ⟨ENC_CFG n, 8, 1⟩
abbrev ENC_CFG_ZQUAL (n : Nat) : Field := ⟨ENC_CFG n, 9, 1⟩
abbrev ENC_CFG_BACKUP (n : Nat) : Field := ⟨ENC_CFG n, 10, 1⟩
abbrev ENC_MOTION (n : Nat) : Nat := 0x40004 + 128 * n
abbrev ENC_MOTION_DEADBAND (n : Nat) : Field := ⟨ENC_MOTION n, 0, 8⟩
abbrev ENC_MOTION_STILL (n : Nat) : Field := ⟨ENC_MOTION n, 8, 12⟩
abbrev ENC_MOTION_SPD_WIN (n : Nat) : Field := ⟨ENC_MOTION n, 20, 12⟩
abbrev ENC_TRUE_LO (n : Nat) : Nat := 0x40008 + 128 * n
abbrev ENC_TRUE_LO_POS (n : Nat) : Field := ⟨ENC_TRUE_LO n, 0, 32⟩
abbrev ENC_TRUE_HI (n : Nat) : Nat := 0x4000C + 128 * n
abbrev ENC_TRUE_HI_POS (n : Nat) : Field := ⟨ENC_TRUE_HI n, 0, 16⟩
abbrev ENC_PRINT_LO (n : Nat) : Nat := 0x40010 + 128 * n
abbrev ENC_PRINT_LO_POS (n : Nat) : Field := ⟨ENC_PRINT_LO n, 0, 32⟩
abbrev ENC_PRINT_HI (n : Nat) : Nat := 0x40014 + 128 * n
abbrev ENC_PRINT_HI_POS (n : Nat) : Field := ⟨ENC_PRINT_HI n, 0, 16⟩
abbrev ENC_PRESET_LO (n : Nat) : Nat := 0x40018 + 128 * n
abbrev ENC_PRESET_LO_POS (n : Nat) : Field := ⟨ENC_PRESET_LO n, 0, 32⟩
abbrev ENC_PRESET_HI (n : Nat) : Nat := 0x4001C + 128 * n
abbrev ENC_PRESET_HI_POS (n : Nat) : Field := ⟨ENC_PRESET_HI n, 0, 16⟩
abbrev ENC_CTRL (n : Nat) : Nat := 0x40020 + 128 * n
abbrev ENC_CTRL_PRESET (n : Nat) : Field := ⟨ENC_CTRL n, 0, 1⟩
abbrev ENC_STATUS (n : Nat) : Nat := 0x40024 + 128 * n
abbrev ENC_STATUS_DIR (n : Nat) : Field := ⟨ENC_STATUS n, 0, 1⟩
abbrev ENC_STATUS_SPEED_VALID (n : Nat) : Field := ⟨ENC_STATUS n, 1, 1⟩
abbrev ENC_STATUS_STILL (n : Nat) : Field := ⟨ENC_STATUS n, 2, 1⟩
abbrev ENC_STATUS_FAILED_OVER (n : Nat) : Field := ⟨ENC_STATUS n, 3, 1⟩
abbrev ENC_STATUS_CONT (n : Nat) : Field := ⟨ENC_STATUS n, 4, 1⟩
abbrev ENC_SPEED (n : Nat) : Nat := 0x40028 + 128 * n
abbrev ENC_SPEED_SPEED (n : Nat) : Field := ⟨ENC_SPEED n, 0, 32⟩
abbrev ENC_IDX_NOM (n : Nat) : Nat := 0x4002C + 128 * n
abbrev ENC_IDX_NOM_NOM (n : Nat) : Field := ⟨ENC_IDX_NOM n, 0, 24⟩
abbrev ENC_IDX_TOL (n : Nat) : Nat := 0x40030 + 128 * n
abbrev ENC_IDX_TOL_TOL (n : Nat) : Field := ⟨ENC_IDX_TOL n, 0, 16⟩
abbrev ENC_IDX_LAST (n : Nat) : Nat := 0x40034 + 128 * n
abbrev ENC_IDX_LAST_COUNT (n : Nat) : Field := ⟨ENC_IDX_LAST n, 0, 32⟩
abbrev ENC_IDX_RUN (n : Nat) : Nat := 0x40038 + 128 * n
abbrev ENC_IDX_RUN_MISMATCH (n : Nat) : Field := ⟨ENC_IDX_RUN n, 0, 8⟩
abbrev ENC_IDX_RUN_CLEAN (n : Nat) : Field := ⟨ENC_IDX_RUN n, 8, 8⟩
abbrev ENC_ILLEGAL (n : Nat) : Nat := 0x4003C + 128 * n
abbrev ENC_ILLEGAL_COUNT (n : Nat) : Field := ⟨ENC_ILLEGAL n, 0, 32⟩
abbrev ENC_REVERSALS (n : Nat) : Nat := 0x40040 + 128 * n
abbrev ENC_REVERSALS_COUNT (n : Nat) : Field := ⟨ENC_REVERSALS n, 0, 32⟩
abbrev ENC_MISMATCHES (n : Nat) : Nat := 0x40044 + 128 * n
abbrev ENC_MISMATCHES_COUNT (n : Nat) : Field := ⟨ENC_MISMATCHES n, 0, 32⟩
abbrev ENC_FAILOVERS (n : Nat) : Nat := 0x40048 + 128 * n
abbrev ENC_FAILOVERS_COUNT (n : Nat) : Field := ⟨ENC_FAILOVERS n, 0, 32⟩
abbrev ENC_ISL_DIFF (n : Nat) : Nat := 0x4004C + 128 * n
abbrev ENC_ISL_DIFF_COUNT (n : Nat) : Field := ⟨ENC_ISL_DIFF n, 0, 32⟩
abbrev ENC_ZPOS_LO (n : Nat) : Nat := 0x40050 + 128 * n
abbrev ENC_ZPOS_LO_POS (n : Nat) : Field := ⟨ENC_ZPOS_LO n, 0, 32⟩
abbrev ENC_ZPOS_HI (n : Nat) : Nat := 0x40054 + 128 * n
abbrev ENC_ZPOS_HI_POS (n : Nat) : Field := ⟨ENC_ZPOS_HI n, 0, 16⟩
abbrev ENC_IDX_NOM1 (n : Nat) : Nat := 0x40058 + 128 * n
abbrev ENC_IDX_NOM1_NOM1 (n : Nat) : Field := ⟨ENC_IDX_NOM1 n, 0, 24⟩
abbrev LG_CFG (n : Nat) : Nat := 0x40200 + 64 * n
abbrev LG_CFG_EN (n : Nat) : Field := ⟨LG_CFG n, 0, 1⟩
abbrev LG_CFG_SRC (n : Nat) : Field := ⟨LG_CFG n, 1, 1⟩
abbrev LG_CFG_FOLLOW (n : Nat) : Field := ⟨LG_CFG n, 2, 1⟩
abbrev LG_INC_LO (n : Nat) : Nat := 0x40204 + 64 * n
abbrev LG_INC_LO_FRAC (n : Nat) : Field := ⟨LG_INC_LO n, 0, 32⟩
abbrev LG_INC_HI (n : Nat) : Nat := 0x40208 + 64 * n
abbrev LG_INC_HI_INT (n : Nat) : Field := ⟨LG_INC_HI n, 0, 1⟩
abbrev LG_INC1_LO (n : Nat) : Nat := 0x4020C + 64 * n
abbrev LG_INC1_LO_FRAC (n : Nat) : Field := ⟨LG_INC1_LO n, 0, 32⟩
abbrev LG_INC1_HI (n : Nat) : Nat := 0x40210 + 64 * n
abbrev LG_INC1_HI_INT (n : Nat) : Field := ⟨LG_INC1_HI n, 0, 1⟩
abbrev LG_REV_LIMIT (n : Nat) : Nat := 0x40214 + 64 * n
abbrev LG_REV_LIMIT_LINES (n : Nat) : Field := ⟨LG_REV_LIMIT n, 0, 16⟩
abbrev LG_LINE_LO (n : Nat) : Nat := 0x40218 + 64 * n
abbrev LG_LINE_LO_LINE (n : Nat) : Field := ⟨LG_LINE_LO n, 0, 32⟩
abbrev LG_LINE_HI (n : Nat) : Nat := 0x4021C + 64 * n
abbrev LG_LINE_HI_LINE (n : Nat) : Field := ⟨LG_LINE_HI n, 0, 16⟩
abbrev LG_FRAC (n : Nat) : Nat := 0x40220 + 64 * n
abbrev LG_FRAC_FRAC (n : Nat) : Field := ⟨LG_FRAC n, 0, 32⟩
abbrev LG_DEPTH (n : Nat) : Nat := 0x40224 + 64 * n
abbrev LG_DEPTH_DEPTH (n : Nat) : Field := ⟨LG_DEPTH n, 0, 24⟩
abbrev LG_REV_MAX (n : Nat) : Nat := 0x40228 + 64 * n
abbrev LG_REV_MAX_DEPTH (n : Nat) : Field := ⟨LG_REV_MAX n, 0, 24⟩
abbrev PROBE_CFG (n : Nat) : Nat := 0x40600 + 64 * n
abbrev PROBE_CFG_EN (n : Nat) : Field := ⟨PROBE_CFG n, 0, 1⟩
abbrev PROBE_CFG_EDGE (n : Nat) : Field := ⟨PROBE_CFG n, 1, 2⟩
abbrev PROBE_CFG_FILT (n : Nat) : Field := ⟨PROBE_CFG n, 3, 4⟩
abbrev PROBE_CFG_TG (n : Nat) : Field := ⟨PROBE_CFG n, 7, 4⟩
abbrev PROBE_HOLDOFF (n : Nat) : Nat := 0x40604 + 64 * n
abbrev PROBE_HOLDOFF_US (n : Nat) : Field := ⟨PROBE_HOLDOFF n, 0, 20⟩
abbrev PROBE_E0_LO (n : Nat) : Nat := 0x40608 + 64 * n
abbrev PROBE_E0_LO_POS (n : Nat) : Field := ⟨PROBE_E0_LO n, 0, 32⟩
abbrev PROBE_E0_HI (n : Nat) : Nat := 0x4060C + 64 * n
abbrev PROBE_E0_HI_POS (n : Nat) : Field := ⟨PROBE_E0_HI n, 0, 16⟩
abbrev PROBE_E1_LO (n : Nat) : Nat := 0x40610 + 64 * n
abbrev PROBE_E1_LO_POS (n : Nat) : Field := ⟨PROBE_E1_LO n, 0, 32⟩
abbrev PROBE_E1_HI (n : Nat) : Nat := 0x40614 + 64 * n
abbrev PROBE_E1_HI_POS (n : Nat) : Field := ⟨PROBE_E1_HI n, 0, 16⟩
abbrev PROBE_LINE_LO (n : Nat) : Nat := 0x40618 + 64 * n
abbrev PROBE_LINE_LO_POS (n : Nat) : Field := ⟨PROBE_LINE_LO n, 0, 32⟩
abbrev PROBE_LINE_HI (n : Nat) : Nat := 0x4061C + 64 * n
abbrev PROBE_LINE_HI_POS (n : Nat) : Field := ⟨PROBE_LINE_HI n, 0, 16⟩
abbrev PROBE_PHASE (n : Nat) : Nat := 0x40620 + 64 * n
abbrev PROBE_PHASE_TICKS (n : Nat) : Field := ⟨PROBE_PHASE n, 0, 24⟩
abbrev PROBE_TIME_LO (n : Nat) : Nat := 0x40624 + 64 * n
abbrev PROBE_TIME_LO_NS (n : Nat) : Field := ⟨PROBE_TIME_LO n, 0, 32⟩
abbrev PROBE_TIME_HI (n : Nat) : Nat := 0x40628 + 64 * n
abbrev PROBE_TIME_HI_NS (n : Nat) : Field := ⟨PROBE_TIME_HI n, 0, 32⟩
abbrev PROBE_COUNT (n : Nat) : Nat := 0x4062C + 64 * n
abbrev PROBE_COUNT_COUNT (n : Nat) : Field := ⟨PROBE_COUNT n, 0, 32⟩
abbrev PROBE_IGNORED (n : Nat) : Nat := 0x40630 + 64 * n
abbrev PROBE_IGNORED_COUNT (n : Nat) : Field := ⟨PROBE_IGNORED n, 0, 32⟩
abbrev CMP_CFG (n : Nat) : Nat := 0x41000 + 32 * n
abbrev CMP_CFG_REF (n : Nat) : Field := ⟨CMP_CFG n, 0, 1⟩
abbrev CMP_CFG_TG (n : Nat) : Field := ⟨CMP_CFG n, 1, 4⟩
abbrev CMP_CFG_REJ0 (n : Nat) : Field := ⟨CMP_CFG n, 5, 1⟩
abbrev CMP_CFG_REJ1 (n : Nat) : Field := ⟨CMP_CFG n, 6, 1⟩
abbrev CMP_CFG_LATE_WIN (n : Nat) : Field := ⟨CMP_CFG n, 8, 8⟩
abbrev CMP_CFG_WIDTH (n : Nat) : Field := ⟨CMP_CFG n, 16, 16⟩
abbrev CMP_TGT_LO (n : Nat) : Nat := 0x41004 + 32 * n
abbrev CMP_TGT_LO_TGT (n : Nat) : Field := ⟨CMP_TGT_LO n, 0, 32⟩
abbrev CMP_TGT_HI (n : Nat) : Nat := 0x41008 + 32 * n
abbrev CMP_TGT_HI_TGT (n : Nat) : Field := ⟨CMP_TGT_HI n, 0, 16⟩
abbrev CMP_PERIOD (n : Nat) : Nat := 0x4100C + 32 * n
abbrev CMP_PERIOD_PERIOD (n : Nat) : Field := ⟨CMP_PERIOD n, 0, 32⟩
abbrev CMP_CTRL (n : Nat) : Nat := 0x41010 + 32 * n
abbrev CMP_CTRL_ARM (n : Nat) : Field := ⟨CMP_CTRL n, 0, 1⟩
abbrev CMP_CTRL_DISARM (n : Nat) : Field := ⟨CMP_CTRL n, 1, 1⟩
abbrev CMP_STATUS (n : Nat) : Nat := 0x41014 + 32 * n
abbrev CMP_STATUS_ARMED (n : Nat) : Field := ⟨CMP_STATUS n, 0, 1⟩
abbrev CMP_STATUS_HIT (n : Nat) : Field := ⟨CMP_STATUS n, 1, 1⟩
abbrev CMP_STATUS_LATE (n : Nat) : Field := ⟨CMP_STATUS n, 2, 1⟩
abbrev CMP_STATUS_MISSED (n : Nat) : Field := ⟨CMP_STATUS n, 3, 1⟩
abbrev CMP_STATUS_OWNER (n : Nat) : Field := ⟨CMP_STATUS n, 4, 1⟩
abbrev CMP_STATUS_HITS (n : Nat) : Field := ⟨CMP_STATUS n, 16, 16⟩
abbrev CMP_HIT_TIME_LO (n : Nat) : Nat := 0x41018 + 32 * n
abbrev CMP_HIT_TIME_LO_NS (n : Nat) : Field := ⟨CMP_HIT_TIME_LO n, 0, 32⟩
abbrev CMP_HIT_TIME_HI (n : Nat) : Nat := 0x4101C + 32 * n
abbrev CMP_HIT_TIME_HI_NS (n : Nat) : Field := ⟨CMP_HIT_TIME_HI n, 0, 32⟩
abbrev CMP_RESERVE : Nat := 0x41800
abbrev CMP_RESERVE_UNITS : Field := ⟨CMP_RESERVE, 0, 5⟩
abbrev CMP_SHORT : Nat := 0x41804
abbrev CMP_SHORT_COUNT : Field := ⟨CMP_SHORT, 0, 32⟩
abbrev ENCOUT_CFG (n : Nat) : Nat := 0x41900 + 32 * n
abbrev ENCOUT_CFG_EN (n : Nat) : Field := ⟨ENCOUT_CFG n, 0, 1⟩
abbrev ENCOUT_CFG_SRC (n : Nat) : Field := ⟨ENCOUT_CFG n, 1, 2⟩
abbrev ENCOUT_CFG_FORM (n : Nat) : Field := ⟨ENCOUT_CFG n, 3, 1⟩
abbrev ENCOUT_CFG_FOLLOW (n : Nat) : Field := ⟨ENCOUT_CFG n, 4, 1⟩
abbrev ENCOUT_CFG_PULSE_W (n : Nat) : Field := ⟨ENCOUT_CFG n, 5, 8⟩
abbrev ENCOUT_RATIO (n : Nat) : Nat := 0x41904 + 32 * n
abbrev ENCOUT_RATIO_N (n : Nat) : Field := ⟨ENCOUT_RATIO n, 0, 16⟩
abbrev ENCOUT_RATIO_M (n : Nat) : Field := ⟨ENCOUT_RATIO n, 16, 16⟩
abbrev ENCOUT_RATIO1 (n : Nat) : Nat := 0x41908 + 32 * n
abbrev ENCOUT_RATIO1_N (n : Nat) : Field := ⟨ENCOUT_RATIO1 n, 0, 16⟩
abbrev ENCOUT_RATIO1_M (n : Nat) : Field := ⟨ENCOUT_RATIO1 n, 16, 16⟩
abbrev ENCOUT_COUNT (n : Nat) : Nat := 0x4190C + 32 * n
abbrev ENCOUT_COUNT_COUNT (n : Nat) : Field := ⟨ENCOUT_COUNT n, 0, 32⟩
abbrev ENCOUT_OVF (n : Nat) : Nat := 0x41910 + 32 * n
abbrev ENCOUT_OVF_COUNT (n : Nat) : Field := ⟨ENCOUT_OVF n, 0, 32⟩
-- BARS
abbrev TG_CFG (n : Nat) : Nat := 0x50000 + 64 * n
abbrev TG_CFG_SRC (n : Nat) : Field := ⟨TG_CFG n, 0, 6⟩
abbrev TG_CFG_EN (n : Nat) : Field := ⟨TG_CFG n, 6, 1⟩
abbrev TG_CFG_DIV (n : Nat) : Field := ⟨TG_CFG n, 8, 4⟩
abbrev TG_DELAY (n : Nat) : Nat := 0x50004 + 64 * n
abbrev TG_DELAY_WHOLE (n : Nat) : Field := ⟨TG_DELAY n, 0, 16⟩
abbrev TG_DELAY_PHI (n : Nat) : Field := ⟨TG_DELAY n, 16, 12⟩
abbrev TG_REG (n : Nat) : Nat := 0x50008 + 64 * n
abbrev TG_REG_REG (n : Nat) : Field := ⟨TG_REG n, 0, 13⟩
abbrev TG_PERIOD (n : Nat) : Nat := 0x5000C + 64 * n
abbrev TG_PERIOD_PERIOD (n : Nat) : Field := ⟨TG_PERIOD n, 0, 32⟩
abbrev TG_MAX_RATE (n : Nat) : Nat := 0x50010 + 64 * n
abbrev TG_MAX_RATE_RATE (n : Nat) : Field := ⟨TG_MAX_RATE n, 0, 18⟩
abbrev TG_LEAD_WARN (n : Nat) : Nat := 0x50014 + 64 * n
abbrev TG_LEAD_WARN_LINES (n : Nat) : Field := ⟨TG_LEAD_WARN n, 0, 16⟩
abbrev TG_LINE_LO (n : Nat) : Nat := 0x50018 + 64 * n
abbrev TG_LINE_LO_LINE (n : Nat) : Field := ⟨TG_LINE_LO n, 0, 32⟩
abbrev TG_LINE_HI (n : Nat) : Nat := 0x5001C + 64 * n
abbrev TG_LINE_HI_LINE (n : Nat) : Field := ⟨TG_LINE_HI n, 0, 16⟩
abbrev TG_LP (n : Nat) : Nat := 0x50020 + 64 * n
abbrev TG_LP_LP (n : Nat) : Field := ⟨TG_LP n, 0, 32⟩
abbrev TG_STATUS (n : Nat) : Nat := 0x50024 + 64 * n
abbrev TG_STATUS_ACTIVE (n : Nat) : Field := ⟨TG_STATUS n, 0, 1⟩
abbrev TG_STATUS_LP_VALID (n : Nat) : Field := ⟨TG_STATUS n, 1, 1⟩
abbrev TG_STATUS_PENDING (n : Nat) : Field := ⟨TG_STATUS n, 2, 1⟩
abbrev TG_STATUS_STOPPED (n : Nat) : Field := ⟨TG_STATUS n, 3, 1⟩
abbrev TG_STATUS_LEAD_LOW (n : Nat) : Field := ⟨TG_STATUS n, 4, 1⟩
abbrev TG_STATUS_OVERSPEED (n : Nat) : Field := ⟨TG_STATUS n, 5, 1⟩
abbrev TG_STATUS_MODE_DROPPED (n : Nat) : Field := ⟨TG_STATUS n, 6, 1⟩
abbrev TG_LEAD (n : Nat) : Nat := 0x50028 + 64 * n
abbrev TG_LEAD_LINES (n : Nat) : Field := ⟨TG_LEAD n, 0, 16⟩
abbrev TG_LATE (n : Nat) : Nat := 0x5002C + 64 * n
abbrev TG_LATE_COUNT (n : Nat) : Field := ⟨TG_LATE n, 0, 32⟩
abbrev TG_BLANKED (n : Nat) : Nat := 0x50030 + 64 * n
abbrev TG_BLANKED_COUNT (n : Nat) : Field := ⟨TG_BLANKED n, 0, 32⟩
abbrev TG_CLAMPED (n : Nat) : Nat := 0x50034 + 64 * n
abbrev TG_CLAMPED_COUNT (n : Nat) : Field := ⟨TG_CLAMPED n, 0, 32⟩
abbrev TG_OVERSPEED (n : Nat) : Nat := 0x50038 + 64 * n
abbrev TG_OVERSPEED_COUNT (n : Nat) : Field := ⟨TG_OVERSPEED n, 0, 32⟩
abbrev TG_STOP (n : Nat) : Nat := 0x5003C + 64 * n
abbrev TG_STOP_POS (n : Nat) : Field := ⟨TG_STOP n, 0, 32⟩
abbrev LATE_WIN : Nat := 0x51000
abbrev LATE_WIN_WIN : Field := ⟨LATE_WIN, 0, 8⟩
abbrev LP_GAP : Nat := 0x51004
abbrev LP_GAP_US : Field := ⟨LP_GAP, 0, 20⟩
abbrev SD_CFG : Nat := 0x51008
abbrev SD_CFG_EN : Field := ⟨SD_CFG, 0, 1⟩
abbrev SD_CFG_KHZ : Field := ⟨SD_CFG, 8, 8⟩
abbrev SD_HOST : Nat := 0x5100C
abbrev SD_HOST_DEMAND : Field := ⟨SD_HOST, 0, 10⟩
abbrev SD_NOW : Nat := 0x51010
abbrev SD_NOW_DEMAND : Field := ⟨SD_NOW, 0, 10⟩
abbrev SD_NOW_LIMIT : Field := ⟨SD_NOW, 12, 3⟩
abbrev LSO_CFG : Nat := 0x51014
abbrev LSO_CFG_TG : Field := ⟨LSO_CFG, 0, 4⟩
abbrev LSO_CFG_EN : Field := ⟨LSO_CFG, 4, 1⟩
abbrev LSO_CFG_WIDTH : Field := ⟨LSO_CFG, 8, 8⟩
abbrev LSO_DELAY : Nat := 0x51018
abbrev LSO_DELAY_TICKS : Field := ⟨LSO_DELAY, 0, 16⟩
abbrev LSI_CFG : Nat := 0x5101C
abbrev LSI_CFG_SKEW : Field := ⟨LSI_CFG, 0, 16⟩
abbrev LSI_CFG_FILT : Field := ⟨LSI_CFG, 16, 4⟩
abbrev LSI_COUNT_LO : Nat := 0x51020
abbrev LSI_COUNT_LO_COUNT : Field := ⟨LSI_COUNT_LO, 0, 32⟩
abbrev LSI_COUNT_HI : Nat := 0x51024
abbrev LSI_COUNT_HI_COUNT : Field := ⟨LSI_COUNT_HI, 0, 16⟩
abbrev LSO_LATE : Nat := 0x51028
abbrev LSO_LATE_COUNT : Field := ⟨LSO_LATE, 0, 32⟩
abbrev STOP_CTRL : Nat := 0x5102C
abbrev STOP_CTRL_REQ : Field := ⟨STOP_CTRL, 0, 1⟩
abbrev STOP_CTRL_RESUME : Field := ⟨STOP_CTRL, 1, 1⟩
abbrev STOP_GRACE : Nat := 0x51030
abbrev STOP_GRACE_LINES : Field := ⟨STOP_GRACE, 0, 24⟩
abbrev STOP_CAUSE : Nat := 0x51034
abbrev STOP_CAUSE_FIRST : Field := ⟨STOP_CAUSE, 0, 4⟩
abbrev STOP_CAUSE_SETTING : Field := ⟨STOP_CAUSE, 4, 4⟩
abbrev HL_SLIP (n : Nat) : Nat := 0x51100 + 8 * n
abbrev HL_SLIP_COUNT (n : Nat) : Field := ⟨HL_SLIP n, 0, 32⟩
abbrev HL_SLIP_MAX (n : Nat) : Nat := 0x51104 + 8 * n
abbrev HL_SLIP_MAX_PS (n : Nat) : Field := ⟨HL_SLIP_MAX n, 0, 32⟩
abbrev CH_FINE (n : Nat) : Nat := 0x52000 + 4 * n
abbrev CH_FINE_FINE (n : Nat) : Field := ⟨CH_FINE n, 0, 10⟩
-- SEQ
abbrev SEQ_CFG : Nat := 0x60000
abbrev SEQ_CFG_PREF : Field := ⟨SEQ_CFG, 0, 1⟩
abbrev SEQ_CFG_AUTO : Field := ⟨SEQ_CFG, 1, 1⟩
abbrev SEQ_CFG_SLICE_MAX : Field := ⟨SEQ_CFG, 2, 4⟩
abbrev SEQ_LIMITS : Nat := 0x60004
abbrev SEQ_LIMITS_STRIKE_S : Field := ⟨SEQ_LIMITS, 0, 8⟩
abbrev SEQ_LIMITS_GIVEUP_N : Field := ⟨SEQ_LIMITS, 8, 4⟩
abbrev SEQ_LIMITS_RETIRE_H : Field := ⟨SEQ_LIMITS, 12, 8⟩
abbrev SEQ_LIMITS_RECOVER_MAX : Field := ⟨SEQ_LIMITS, 20, 8⟩
abbrev SEQ_CTRL : Nat := 0x60008
abbrev SEQ_CTRL_RELEASE : Field := ⟨SEQ_CTRL, 0, 1⟩
abbrev SEQ_CTRL_UNRETIRE_A : Field := ⟨SEQ_CTRL, 1, 1⟩
abbrev SEQ_CTRL_UNRETIRE_B : Field := ⟨SEQ_CTRL, 2, 1⟩
abbrev SEQ_STATE : Nat := 0x6000C
abbrev SEQ_STATE_SQA : Field := ⟨SEQ_STATE, 0, 3⟩
abbrev SEQ_STATE_SQB : Field := ⟨SEQ_STATE, 3, 3⟩
abbrev SEQ_STATE_ACTIVE : Field := ⟨SEQ_STATE, 6, 1⟩
abbrev SEQ_STATE_OVERLAP : Field := ⟨SEQ_STATE, 7, 1⟩
abbrev SEQ_STATE_HANDBACK_PEND : Field := ⟨SEQ_STATE, 8, 1⟩
abbrev SEQ_STATE_SOLO : Field := ⟨SEQ_STATE, 9, 1⟩
abbrev SEQ_STATE_HOLD : Field := ⟨SEQ_STATE, 10, 1⟩
abbrev SEQ_STATE_BARS : Field := ⟨SEQ_STATE, 11, 16⟩
abbrev SEQ_COMPARED : Nat := 0x60010
abbrev SEQ_COMPARED_COUNT : Field := ⟨SEQ_COMPARED, 0, 32⟩
abbrev SEQ_MISMATCHES : Nat := 0x60014
abbrev SEQ_MISMATCHES_COUNT : Field := ⟨SEQ_MISMATCHES, 0, 32⟩
abbrev SEQ_DATA : Nat := 0x60018
abbrev SEQ_DATA_COUNT : Field := ⟨SEQ_DATA, 0, 32⟩
abbrev SEQ_UNRESOLVED : Nat := 0x6001C
abbrev SEQ_UNRESOLVED_COUNT : Field := ⟨SEQ_UNRESOLVED, 0, 32⟩
abbrev SEQ_FAILOVERS : Nat := 0x60020
abbrev SEQ_FAILOVERS_COUNT : Field := ⟨SEQ_FAILOVERS, 0, 32⟩
abbrev SEQ_HANDBACKS : Nat := 0x60024
abbrev SEQ_HANDBACKS_COUNT : Field := ⟨SEQ_HANDBACKS, 0, 32⟩
abbrev SEQ_DOUBLED : Nat := 0x60028
abbrev SEQ_DOUBLED_COUNT : Field := ⟨SEQ_DOUBLED, 0, 32⟩
abbrev SEQ_LAST_MISMATCH : Nat := 0x6002C
abbrev SEQ_LAST_MISMATCH_LANE : Field := ⟨SEQ_LAST_MISMATCH, 0, 4⟩
abbrev SEQ_LAST_MISMATCH_BAR : Field := ⟨SEQ_LAST_MISMATCH, 4, 4⟩
abbrev SEQ_LAST_MISMATCH_OUTCOME : Field := ⟨SEQ_LAST_MISMATCH, 8, 4⟩
abbrev SEQ_LAST_MISMATCH_LSEQ : Field := ⟨SEQ_LAST_MISMATCH, 12, 20⟩
abbrev SQ_STATUS (n : Nat) : Nat := 0x60100 + 64 * n
abbrev SQ_STATUS_DIAG (n : Nat) : Field := ⟨SQ_STATUS n, 0, 1⟩
abbrev SQ_STATUS_DONE (n : Nat) : Field := ⟨SQ_STATUS n, 1, 1⟩
abbrev SQ_STATUS_ABORTED (n : Nat) : Field := ⟨SQ_STATUS n, 2, 1⟩
abbrev SQ_STATUS_LAST_CAUSE (n : Nat) : Field := ⟨SQ_STATUS n, 3, 3⟩
abbrev SQ_STATUS_CLEAN (n : Nat) : Field := ⟨SQ_STATUS n, 6, 2⟩
abbrev SQ_STATUS_RFAIL (n : Nat) : Field := ⟨SQ_STATUS n, 8, 8⟩
abbrev SQ_CYCLES (n : Nat) : Nat := 0x60104 + 64 * n
abbrev SQ_CYCLES_COUNT (n : Nat) : Field := ⟨SQ_CYCLES n, 0, 32⟩
abbrev SQ_SLICE_FAIL (n : Nat) : Nat := 0x60108 + 64 * n
abbrev SQ_SLICE_FAIL_COUNT (n : Nat) : Field := ⟨SQ_SLICE_FAIL n, 0, 32⟩
abbrev SQ_LAST_SLICE (n : Nat) : Nat := 0x6010C + 64 * n
abbrev SQ_LAST_SLICE_INDEX (n : Nat) : Field := ⟨SQ_LAST_SLICE n, 0, 13⟩
abbrev SQ_STRIKES (n : Nat) : Nat := 0x60110 + 64 * n
abbrev SQ_STRIKES_COUNT (n : Nat) : Field := ⟨SQ_STRIKES n, 0, 32⟩
abbrev SQ_GIVEUPS (n : Nat) : Nat := 0x60114 + 64 * n
abbrev SQ_GIVEUPS_COUNT (n : Nat) : Field := ⟨SQ_GIVEUPS n, 0, 32⟩
abbrev SQ_CHECKS (n : Nat) : Nat := 0x60118 + 64 * n
abbrev SQ_CHECKS_COUNT (n : Nat) : Field := ⟨SQ_CHECKS n, 0, 32⟩
abbrev SQ_ACTIVE_S (n : Nat) : Nat := 0x6011C + 64 * n
abbrev SQ_ACTIVE_S_S (n : Nat) : Field := ⟨SQ_ACTIVE_S n, 0, 32⟩
-- FORM
abbrev CH_CFG (n : Nat) : Nat := 0x70000 + 32 * n
abbrev CH_CFG_EN (n : Nat) : Field := ⟨CH_CFG n, 0, 1⟩
abbrev CH_CFG_BAR (n : Nat) : Field := ⟨CH_CFG n, 1, 4⟩
abbrev CH_CFG_WIDTH (n : Nat) : Field := ⟨CH_CFG n, 5, 6⟩
abbrev CH_CFG_DEPTH (n : Nat) : Field := ⟨CH_CFG n, 11, 2⟩
abbrev CH_CFG_ROWS (n : Nat) : Field := ⟨CH_CFG n, 13, 3⟩
abbrev CH_CFG_SEAMPAT (n : Nat) : Field := ⟨CH_CFG n, 16, 4⟩
abbrev CH_POS (n : Nat) : Nat := 0x70004 + 32 * n
abbrev CH_POS_XPOS (n : Nat) : Field := ⟨CH_POS n, 0, 18⟩
abbrev CH_POS_SEAM_L (n : Nat) : Field := ⟨CH_POS n, 18, 7⟩
abbrev CH_POS_SEAM_R (n : Nat) : Field := ⟨CH_POS n, 25, 7⟩
abbrev CH_ROWD (n : Nat) (m : Nat) : Nat := 0x70008 + 32 * n + 4 * m
abbrev CH_ROWD_D0 (n : Nat) (m : Nat) : Field := ⟨CH_ROWD n m, 0, 16⟩
abbrev CH_ROWD_D1 (n : Nat) (m : Nat) : Field := ⟨CH_ROWD n m, 16, 16⟩
abbrev CH_NBASE (n : Nat) : Nat := 0x70018 + 32 * n
abbrev CH_NBASE_NBASE (n : Nat) : Field := ⟨CH_NBASE n, 0, 20⟩
abbrev BAR_FORM (n : Nat) : Nat := 0x74000 + 16 * n
abbrev BAR_FORM_RM_EN (n : Nat) : Field := ⟨BAR_FORM n, 0, 1⟩
abbrev BAR_FORM_RM_PAT (n : Nat) : Field := ⟨BAR_FORM n, 1, 4⟩
abbrev BAR_FORM_RM_PHASE (n : Nat) : Field := ⟨BAR_FORM n, 5, 1⟩
abbrev BAR_LAT (n : Nat) : Nat := 0x74004 + 16 * n
abbrev BAR_LAT_LAT (n : Nat) : Field := ⟨BAR_LAT n, 0, 5⟩
abbrev BAR_FIELD (n : Nat) : Nat := 0x74008 + 16 * n
abbrev BAR_FIELD_KIB (n : Nat) : Field := ⟨BAR_FIELD n, 0, 16⟩
abbrev BAR_RING (n : Nat) : Nat := 0x7400C + 16 * n
abbrev BAR_RING_DEPTH (n : Nat) : Field := ⟨BAR_RING n, 0, 16⟩
abbrev BAR_RING_LINE_KIB (n : Nat) : Field := ⟨BAR_RING n, 16, 16⟩
abbrev SCR_CFG (n : Nat) : Nat := 0x74100 + 4 * n
abbrev SCR_CFG_W (n : Nat) : Field := ⟨SCR_CFG n, 0, 8⟩
abbrev SCR_CFG_H (n : Nat) : Field := ⟨SCR_CFG n, 8, 8⟩
abbrev SCR_CFG_K7 (n : Nat) : Field := ⟨SCR_CFG n, 16, 1⟩
abbrev GS_BASE (n : Nat) : Nat := 0x74140 + 8 * n
abbrev GS_BASE_BYTES (n : Nat) : Field := ⟨GS_BASE n, 0, 20⟩
abbrev GS_SIZE (n : Nat) : Nat := 0x74144 + 8 * n
abbrev GS_SIZE_BYTES (n : Nat) : Field := ⟨GS_SIZE n, 0, 21⟩
abbrev FORM_USE : Nat := 0x74200
abbrev FORM_USE_TONE : Field := ⟨FORM_USE, 0, 16⟩
abbrev FORM_USE_SCREEN : Field := ⟨FORM_USE, 16, 16⟩
abbrev GSET_USE : Nat := 0x74204
abbrev GSET_USE_SETS : Field := ⟨GSET_USE, 0, 16⟩
abbrev LFCNT_VALUE (n : Nat) : Nat := 0x74300 + 32 * n
abbrev LFCNT_VALUE_VALUE (n : Nat) : Field := ⟨LFCNT_VALUE n, 0, 32⟩
abbrev LFCNT_STEP (n : Nat) : Nat := 0x74304 + 32 * n
abbrev LFCNT_STEP_STEP (n : Nat) : Field := ⟨LFCNT_STEP n, 0, 16⟩
abbrev LFCNT_MIN (n : Nat) : Nat := 0x74308 + 32 * n
abbrev LFCNT_MIN_MIN (n : Nat) : Field := ⟨LFCNT_MIN n, 0, 32⟩
abbrev LFCNT_MAX (n : Nat) : Nat := 0x7430C + 32 * n
abbrev LFCNT_MAX_MAX (n : Nat) : Field := ⟨LFCNT_MAX n, 0, 32⟩
abbrev LFCNT_FMT (n : Nat) : Nat := 0x74310 + 32 * n
abbrev LFCNT_FMT_DIGITS (n : Nat) : Field := ⟨LFCNT_FMT n, 0, 4⟩
abbrev LFCNT_FMT_PAD (n : Nat) : Field := ⟨LFCNT_FMT n, 4, 1⟩
abbrev LFTXT_W (n : Nat) (m : Nat) : Nat := 0x74600 + 32 * n + 4 * m
abbrev LFTXT_W_CODES (n : Nat) (m : Nat) : Field := ⟨LFTXT_W n m, 0, 32⟩
abbrev SHIFT_CFG (n : Nat) : Nat := 0x74800 + 8 * n
abbrev SHIFT_CFG_START (n : Nat) : Field := ⟨SHIFT_CFG n, 0, 11⟩
abbrev SHIFT_CFG_EN (n : Nat) : Field := ⟨SHIFT_CFG n, 11, 1⟩
abbrev SHIFT_CODE (n : Nat) : Nat := 0x74804 + 8 * n
abbrev SHIFT_CODE_CODES (n : Nat) : Field := ⟨SHIFT_CODE n, 0, 32⟩
abbrev DATE_ZONE : Nat := 0x74840
abbrev DATE_ZONE_MIN : Field := ⟨DATE_ZONE, 0, 12⟩
abbrev LF_LEAD : Nat := 0x74844
abbrev LF_LEAD_LINES : Field := ⟨LF_LEAD, 0, 16⟩
abbrev SL_ADDR_LO (n : Nat) : Nat := 0x74900 + 32 * n
abbrev SL_ADDR_LO_ADDR (n : Nat) : Field := ⟨SL_ADDR_LO n, 0, 32⟩
abbrev SL_ADDR_HI (n : Nat) : Nat := 0x74904 + 32 * n
abbrev SL_ADDR_HI_ADDR (n : Nat) : Field := ⟨SL_ADDR_HI n, 0, 8⟩
abbrev SL_PEND_LO (n : Nat) : Nat := 0x74908 + 32 * n
abbrev SL_PEND_LO_ADDR (n : Nat) : Field := ⟨SL_PEND_LO n, 0, 32⟩
abbrev SL_PEND_HI (n : Nat) : Nat := 0x7490C + 32 * n
abbrev SL_PEND_HI_ADDR (n : Nat) : Field := ⟨SL_PEND_HI n, 0, 8⟩
abbrev SL_STATUS (n : Nat) : Nat := 0x74910 + 32 * n
abbrev SL_STATUS_ACTIVE (n : Nat) : Field := ⟨SL_STATUS n, 0, 1⟩
abbrev SL_STATUS_PENDING (n : Nat) : Field := ⟨SL_STATUS n, 1, 1⟩
abbrev SL_STATUS_ENCRYPTED (n : Nat) : Field := ⟨SL_STATUS n, 2, 1⟩
abbrev SL_STATUS_ENTRY_LEN (n : Nat) : Field := ⟨SL_STATUS n, 8, 6⟩
abbrev SL_NEXT (n : Nat) : Nat := 0x74914 + 32 * n
abbrev SL_NEXT_INDEX (n : Nat) : Field := ⟨SL_NEXT n, 0, 24⟩
abbrev SL_COUNT (n : Nat) : Nat := 0x74918 + 32 * n
abbrev SL_COUNT_COUNT (n : Nat) : Field := ⟨SL_COUNT n, 0, 24⟩
abbrev LF_RENDERED : Nat := 0x74A00
abbrev LF_RENDERED_COUNT : Field := ⟨LF_RENDERED, 0, 32⟩
abbrev LF_HOLDOVER : Nat := 0x74A04
abbrev LF_HOLDOVER_COUNT : Field := ⟨LF_HOLDOVER, 0, 32⟩
abbrev LF_FAILED : Nat := 0x74A08
abbrev LF_FAILED_COUNT : Field := ⟨LF_FAILED, 0, 32⟩
abbrev LF_LAST : Nat := 0x74A0C
abbrev LF_LAST_CAUSE : Field := ⟨LF_LAST, 0, 8⟩
abbrev LF_LAST_FIELD : Field := ⟨LF_LAST, 8, 8⟩
abbrev LF_LAST_PIECE : Nat := 0x74A10
abbrev LF_LAST_PIECE_PIECE : Field := ⟨LF_LAST_PIECE, 0, 32⟩
abbrev FORM_TBL_ERR : Nat := 0x74A14
abbrev FORM_TBL_ERR_COUNT : Field := ⟨FORM_TBL_ERR, 0, 32⟩
-- DARN
abbrev GATE_CFG (n : Nat) : Nat := 0x80000 + 64 * n
abbrev GATE_CFG_EN (n : Nat) : Field := ⟨GATE_CFG n, 0, 1⟩
abbrev GATE_CFG_BARS (n : Nat) : Field := ⟨GATE_CFG n, 1, 16⟩
abbrev GATE_CFG_POL (n : Nat) : Field := ⟨GATE_CFG n, 17, 1⟩
abbrev GATE_CFG_PARKTEST (n : Nat) : Field := ⟨GATE_CFG n, 18, 1⟩
abbrev GATE_CFG_TRIM_HOLD (n : Nat) : Field := ⟨GATE_CFG n, 19, 1⟩
abbrev GATE_TIMING (n : Nat) : Nat := 0x80004 + 64 * n
abbrev GATE_TIMING_DELAY (n : Nat) : Field := ⟨GATE_TIMING n, 0, 12⟩
abbrev GATE_TIMING_WIDTH (n : Nat) : Field := ⟨GATE_TIMING n, 12, 10⟩
abbrev GATE_TIMING_REST (n : Nat) : Field := ⟨GATE_TIMING n, 22, 10⟩
abbrev GATE_CLASS (n : Nat) : Nat := 0x80008 + 64 * n
abbrev GATE_CLASS_GOOD_PCT (n : Nat) : Field := ⟨GATE_CLASS n, 0, 7⟩
abbrev GATE_CLASS_WEAK_PCT (n : Nat) : Field := ⟨GATE_CLASS n, 7, 7⟩
abbrev GATE_CLASS_TIME_TOL (n : Nat) : Field := ⟨GATE_CLASS n, 14, 8⟩
abbrev GATE_CLASS_FAIL_N (n : Nat) : Field := ⟨GATE_CLASS n, 22, 3⟩
abbrev GATE_CLASS_CODE (n : Nat) : Field := ⟨GATE_CLASS n, 25, 3⟩
abbrev GATE_CLASS_SNR (n : Nat) : Field := ⟨GATE_CLASS n, 28, 4⟩
abbrev GATE_TRIM (n : Nat) : Nat := 0x8000C + 64 * n
abbrev GATE_TRIM_OFFSET (n : Nat) : Field := ⟨GATE_TRIM n, 0, 12⟩
abbrev GATE_TRIM_GAIN (n : Nat) : Field := ⟨GATE_TRIM n, 12, 8⟩
abbrev GATE_LEVEL (n : Nat) : Nat := 0x80010 + 64 * n
abbrev GATE_LEVEL_BASE (n : Nat) : Field := ⟨GATE_LEVEL n, 0, 12⟩
abbrev GATE_LEVEL_NOISE (n : Nat) : Field := ⟨GATE_LEVEL n, 12, 12⟩
abbrev GATE_AREF (n : Nat) : Nat := 0x80014 + 64 * n
abbrev GATE_AREF_AREF (n : Nat) : Field := ⟨GATE_AREF n, 0, 12⟩
abbrev GATE_STATE (n : Nat) : Nat := 0x80018 + 64 * n
abbrev GATE_STATE_STATE (n : Nat) : Field := ⟨GATE_STATE n, 0, 3⟩
abbrev GATE_STATE_TRIM_LIMIT (n : Nat) : Field := ⟨GATE_STATE n, 3, 1⟩
abbrev GATE_STATE_SETS (n : Nat) : Field := ⟨GATE_STATE n, 4, 4⟩
abbrev GATE_LAST (n : Nat) : Nat := 0x8001C + 64 * n
abbrev GATE_LAST_NOZZLE (n : Nat) : Field := ⟨GATE_LAST n, 0, 20⟩
abbrev GATE_LAST_CLASS (n : Nat) : Field := ⟨GATE_LAST n, 20, 3⟩
abbrev GATE_LAST_AMP (n : Nat) : Nat := 0x80020 + 64 * n
abbrev GATE_LAST_AMP_AMP (n : Nat) : Field := ⟨GATE_LAST_AMP n, 0, 12⟩
abbrev GATE_LAST_AMP_TIME (n : Nat) : Field := ⟨GATE_LAST_AMP n, 12, 12⟩
abbrev GATE_SWEEP (n : Nat) : Nat := 0x80024 + 64 * n
abbrev GATE_SWEEP_NEXT (n : Nat) : Field := ⟨GATE_SWEEP n, 0, 20⟩
abbrev GATE_TESTS (n : Nat) : Nat := 0x80028 + 64 * n
abbrev GATE_TESTS_COUNT (n : Nat) : Field := ⟨GATE_TESTS n, 0, 32⟩
abbrev GATE_VOID (n : Nat) : Nat := 0x8002C + 64 * n
abbrev GATE_VOID_COUNT (n : Nat) : Field := ⟨GATE_VOID n, 0, 32⟩
abbrev GATE_FAILS (n : Nat) : Nat := 0x80030 + 64 * n
abbrev GATE_FAILS_COUNT (n : Nat) : Field := ⟨GATE_FAILS n, 0, 32⟩
abbrev GATE_TARGET : Nat := 0x80100
abbrev GATE_TARGET_BASE : Field := ⟨GATE_TARGET, 0, 12⟩
abbrev GATE_TARGET_AMP : Field := ⟨GATE_TARGET, 12, 12⟩
abbrev BAR_RINSE (n : Nat) : Nat := 0x80400 + 32 * n
abbrev BAR_RINSE_GAP_TEST (n : Nat) : Field := ⟨BAR_RINSE n, 0, 1⟩
abbrev BAR_RINSE_GAP_SPIT (n : Nat) : Field := ⟨BAR_RINSE n, 1, 1⟩
abbrev BAR_RINSE_GUARD (n : Nat) : Field := ⟨BAR_RINSE n, 2, 4⟩
abbrev BAR_RINSE_SPIT_PAT (n : Nat) : Field := ⟨BAR_RINSE n, 6, 4⟩
abbrev BAR_RINSE_SPIT_CODE (n : Nat) : Field := ⟨BAR_RINSE n, 10, 3⟩
abbrev BAR_RINSE_SPIT_LINES (n : Nat) : Field := ⟨BAR_RINSE n, 13, 8⟩
abbrev BAR_FRESH (n : Nat) : Nat := 0x80404 + 32 * n
abbrev BAR_FRESH_LINES (n : Nat) : Field := ⟨BAR_FRESH n, 0, 24⟩
abbrev BAR_PARK (n : Nat) : Nat := 0x80408 + 32 * n
abbrev BAR_PARK_DELAY_MS (n : Nat) : Field := ⟨BAR_PARK n, 0, 16⟩
abbrev BAR_PARK_LINES (n : Nat) : Field := ⟨BAR_PARK n, 16, 8⟩
abbrev BAR_IDLE (n : Nat) : Nat := 0x8040C + 32 * n
abbrev BAR_IDLE_SPIT_S (n : Nat) : Field := ⟨BAR_IDLE n, 0, 16⟩
abbrev BAR_IDLE_RATE (n : Nat) : Field := ⟨BAR_IDLE n, 16, 16⟩
abbrev BAR_DARN (n : Nat) : Nat := 0x80410 + 32 * n
abbrev BAR_DARN_PARTNER_EN (n : Nat) : Field := ⟨BAR_DARN n, 0, 1⟩
abbrev BAR_DARN_PARTNER (n : Nat) : Field := ⟨BAR_DARN n, 1, 4⟩
abbrev BAR_DARN_NEIGH_EN (n : Nat) : Field := ⟨BAR_DARN n, 5, 1⟩
abbrev BAR_DARN_NGAIN (n : Nat) : Field := ⟨BAR_DARN n, 6, 4⟩
abbrev BAR_DARN_COMP_EN (n : Nat) : Field := ⟨BAR_DARN n, 10, 1⟩
abbrev BAR_DARN_COMP (n : Nat) : Field := ⟨BAR_DARN n, 11, 4⟩
abbrev BAR_DARN_CGAIN (n : Nat) : Field := ⟨BAR_DARN n, 15, 4⟩
abbrev BAR_RSTAT (n : Nat) : Nat := 0x80414 + 32 * n
abbrev BAR_RSTAT_PARKED (n : Nat) : Field := ⟨BAR_RSTAT n, 0, 1⟩
abbrev BAR_RSTAT_SPITTING (n : Nat) : Field := ⟨BAR_RSTAT n, 1, 1⟩
abbrev BAR_RSTAT_WINDOW (n : Nat) : Field := ⟨BAR_RSTAT n, 2, 1⟩
abbrev BAR_RLINES (n : Nat) : Nat := 0x80418 + 32 * n
abbrev BAR_RLINES_COUNT (n : Nat) : Field := ⟨BAR_RLINES n, 0, 32⟩
abbrev MEND_CMD : Nat := 0x80800
abbrev MEND_CMD_NOZZLE : Field := ⟨MEND_CMD, 0, 20⟩
abbrev MEND_CMD_OP : Field := ⟨MEND_CMD, 20, 3⟩
abbrev MEND_COUNT : Nat := 0x80804
abbrev MEND_COUNT_ENTRIES : Field := ⟨MEND_COUNT, 0, 15⟩
abbrev MEND_COUNT_FULL : Field := ⟨MEND_COUNT, 15, 1⟩
abbrev MEND_LISTED : Nat := 0x80808
abbrev MEND_LISTED_COUNT : Field := ⟨MEND_LISTED, 0, 32⟩
abbrev MEND_REMOVED : Nat := 0x8080C
abbrev MEND_REMOVED_COUNT : Field := ⟨MEND_REMOVED, 0, 32⟩
abbrev MEND_OVERFLOW : Nat := 0x80810
abbrev MEND_OVERFLOW_COUNT : Field := ⟨MEND_OVERFLOW, 0, 32⟩
abbrev MEND_UNDARNED : Nat := 0x80814
abbrev MEND_UNDARNED_COUNT : Field := ⟨MEND_UNDARNED, 0, 32⟩
abbrev STREAK_CFG : Nat := 0x80818
abbrev STREAK_CFG_FRAMES : Field := ⟨STREAK_CFG, 0, 4⟩
abbrev STREAK_CFG_RATIO : Field := ⟨STREAK_CFG, 4, 8⟩
abbrev STREAK_CFG_MINCOV : Field := ⟨STREAK_CFG, 12, 8⟩
abbrev STREAK_CFG_CAM_LIST : Field := ⟨STREAK_CFG, 20, 1⟩
abbrev STREAK_CANDS : Nat := 0x8081C
abbrev STREAK_CANDS_COUNT : Field := ⟨STREAK_CANDS, 0, 32⟩
abbrev STREAK_DARNED : Nat := 0x80820
abbrev STREAK_DARNED_COUNT : Field := ⟨STREAK_DARNED, 0, 32⟩
-- CAM
abbrev CP_CFG (n : Nat) : Nat := 0x90000 + 512 * n
abbrev CP_CFG_EN (n : Nat) : Field := ⟨CP_CFG n, 0, 1⟩
abbrev CP_CFG_KIND (n : Nat) : Field := ⟨CP_CFG n, 1, 1⟩
abbrev CP_CFG_TRIG (n : Nat) : Field := ⟨CP_CFG n, 2, 2⟩
abbrev CP_CFG_REF_TG (n : Nat) : Field := ⟨CP_CFG n, 4, 4⟩
abbrev CP_CFG_VC (n : Nat) : Field := ⟨CP_CFG n, 8, 4⟩
abbrev CP_CFG_DT (n : Nat) : Field := ⟨CP_CFG n, 12, 6⟩
abbrev CP_CFG_LINENUM (n : Nat) : Field := ⟨CP_CFG n, 18, 1⟩
abbrev CP_GEOM (n : Nat) : Nat := 0x90004 + 512 * n
abbrev CP_GEOM_WIDTH (n : Nat) : Field := ⟨CP_GEOM n, 0, 14⟩
abbrev CP_GEOM_HEIGHT (n : Nat) : Field := ⟨CP_GEOM n, 14, 16⟩
abbrev CP_DELAY (n : Nat) : Nat := 0x90008 + 512 * n
abbrev CP_DELAY_FRAC (n : Nat) : Field := ⟨CP_DELAY n, 0, 12⟩
abbrev CP_DELAY_WHOLE (n : Nat) : Field := ⟨CP_DELAY n, 12, 20⟩
abbrev CP_AREA (n : Nat) : Nat := 0x9000C + 512 * n
abbrev CP_AREA_ROWPITCH (n : Nat) : Field := ⟨CP_AREA n, 0, 32⟩
abbrev CP_BLACK (n : Nat) : Nat := 0x90010 + 512 * n
abbrev CP_BLACK_BLACK (n : Nat) : Field := ⟨CP_BLACK n, 0, 12⟩
abbrev CP_BLACK_DARK_EN (n : Nat) : Field := ⟨CP_BLACK n, 12, 1⟩
abbrev CP_BLACK_DARK_X0 (n : Nat) : Field := ⟨CP_BLACK n, 13, 14⟩
abbrev CP_BLACK_DARK_N (n : Nat) : Field := ⟨CP_BLACK n, 27, 5⟩
abbrev CP_FF (n : Nat) : Nat := 0x90014 + 512 * n
abbrev CP_FF_FF_EN (n : Nat) : Field := ⟨CP_FF n, 0, 1⟩
abbrev CP_FF_FF_SHIFT (n : Nat) : Field := ⟨CP_FF n, 1, 4⟩
abbrev CP_FF_FF_MIN (n : Nat) : Field := ⟨CP_FF n, 5, 16⟩
abbrev CP_REF (n : Nat) : Nat := 0x90018 + 512 * n
abbrev CP_REF_REF_X0 (n : Nat) : Field := ⟨CP_REF n, 0, 14⟩
abbrev CP_REF_REF_N (n : Nat) : Field := ⟨CP_REF n, 14, 8⟩
abbrev CP_REF_FLK_PLANE (n : Nat) : Field := ⟨CP_REF n, 22, 2⟩
abbrev CP_FLK_CFG (n : Nat) : Nat := 0x9001C + 512 * n
abbrev CP_FLK_CFG_FLK_EN (n : Nat) : Field := ⟨CP_FLK_CFG n, 0, 1⟩
abbrev CP_FLK_CFG_FLK_HZ (n : Nat) : Field := ⟨CP_FLK_CFG n, 1, 15⟩
abbrev CP_FLK_CFG_FLK_MAX (n : Nat) : Field := ⟨CP_FLK_CFG n, 16, 12⟩
abbrev CP_S0 (n : Nat) : Nat := 0x90020 + 512 * n
abbrev CP_S0_EN (n : Nat) : Field := ⟨CP_S0 n, 0, 1⟩
abbrev CP_S0_BIN (n : Nat) : Field := ⟨CP_S0 n, 1, 6⟩
abbrev CP_S1 (n : Nat) : Nat := 0x90024 + 512 * n
abbrev CP_S1_EN (n : Nat) : Field := ⟨CP_S1 n, 0, 1⟩
abbrev CP_S1_X0 (n : Nat) : Field := ⟨CP_S1 n, 1, 14⟩
abbrev CP_S1_W (n : Nat) : Field := ⟨CP_S1 n, 15, 14⟩
abbrev CP_S1_LINES (n : Nat) : Nat := 0x90028 + 512 * n
abbrev CP_S1_LINES_PRE (n : Nat) : Field := ⟨CP_S1_LINES n, 0, 16⟩
abbrev CP_S1_LINES_POST (n : Nat) : Field := ⟨CP_S1_LINES n, 16, 16⟩
abbrev CP_S2 (n : Nat) : Nat := 0x9002C + 512 * n
abbrev CP_S2_EN (n : Nat) : Field := ⟨CP_S2 n, 0, 1⟩
abbrev CP_S2_SX (n : Nat) : Field := ⟨CP_S2 n, 1, 4⟩
abbrev CP_S2_SY (n : Nat) : Field := ⟨CP_S2 n, 5, 4⟩
abbrev CP_S3 (n : Nat) : Nat := 0x90030 + 512 * n
abbrev CP_S3_EN (n : Nat) : Field := ⟨CP_S3 n, 0, 1⟩
abbrev CP_S3_VBARS (n : Nat) : Field := ⟨CP_S3 n, 1, 16⟩
abbrev CP_S3_SEARCH (n : Nat) : Field := ⟨CP_S3 n, 17, 4⟩
abbrev CP_S3_CHK_PLANE (n : Nat) : Field := ⟨CP_S3 n, 21, 2⟩
abbrev CP_S3_CHK (n : Nat) : Nat := 0x90034 + 512 * n
abbrev CP_S3_CHK_THRESH (n : Nat) : Field := ⟨CP_S3_CHK n, 0, 10⟩
abbrev CP_S3_CHK_PASS (n : Nat) : Field := ⟨CP_S3_CHK n, 10, 9⟩
abbrev CP_EXPO (n : Nat) : Nat := 0x90038 + 512 * n
abbrev CP_EXPO_EXPOSURE (n : Nat) : Field := ⟨CP_EXPO n, 0, 24⟩
abbrev CP_GAIN (n : Nat) : Nat := 0x9003C + 512 * n
abbrev CP_GAIN_GAIN (n : Nat) : Field := ⟨CP_GAIN n, 0, 16⟩
abbrev CP_CAMCTL (n : Nat) : Nat := 0x90040 + 512 * n
abbrev CP_CAMCTL_D (n : Nat) : Field := ⟨CP_CAMCTL n, 0, 4⟩
abbrev CP_CAMCTL_START_HOLD (n : Nat) : Field := ⟨CP_CAMCTL n, 4, 16⟩
abbrev CP_BAUD (n : Nat) : Nat := 0x90044 + 512 * n
abbrev CP_BAUD_BAUD (n : Nat) : Field := ⟨CP_BAUD n, 0, 24⟩
abbrev CP_EMB (n : Nat) : Nat := 0x90048 + 512 * n
abbrev CP_EMB_EN (n : Nat) : Field := ⟨CP_EMB n, 0, 1⟩
abbrev CP_EMB_OFS (n : Nat) : Field := ⟨CP_EMB n, 1, 8⟩
abbrev CP_CTRL (n : Nat) : Nat := 0x9004C + 512 * n
abbrev CP_CTRL_ARM (n : Nat) : Field := ⟨CP_CTRL n, 0, 1⟩
abbrev CP_STATUS (n : Nat) : Nat := 0x90050 + 512 * n
abbrev CP_STATUS_STATE (n : Nat) : Field := ⟨CP_STATUS n, 0, 3⟩
abbrev CP_STATUS_DONE (n : Nat) : Field := ⟨CP_STATUS n, 3, 1⟩
abbrev CP_STATUS_ABORTED (n : Nat) : Field := ⟨CP_STATUS n, 4, 1⟩
abbrev CP_STATUS_SID (n : Nat) : Field := ⟨CP_STATUS n, 5, 8⟩
abbrev CP_STATUS_SID_ISSUED (n : Nat) : Field := ⟨CP_STATUS n, 13, 8⟩
abbrev CP_STATUS_PEND (n : Nat) : Field := ⟨CP_STATUS n, 21, 1⟩
abbrev CP_STATUS_TRANSITION (n : Nat) : Field := ⟨CP_STATUS n, 22, 1⟩
abbrev CP_FLK (n : Nat) : Nat := 0x90054 + 512 * n
abbrev CP_FLK_AMP (n : Nat) : Field := ⟨CP_FLK n, 0, 12⟩
abbrev CP_FLK_RES (n : Nat) : Field := ⟨CP_FLK n, 12, 12⟩
abbrev CP_FLK_FREQ (n : Nat) : Nat := 0x90058 + 512 * n
abbrev CP_FLK_FREQ_HZ (n : Nat) : Field := ⟨CP_FLK_FREQ n, 0, 16⟩
abbrev CP_FRAMES (n : Nat) : Nat := 0x9005C + 512 * n
abbrev CP_FRAMES_COUNT (n : Nat) : Field := ⟨CP_FRAMES n, 0, 32⟩
abbrev CP_SHORT (n : Nat) : Nat := 0x90060 + 512 * n
abbrev CP_SHORT_COUNT (n : Nat) : Field := ⟨CP_SHORT n, 0, 32⟩
abbrev CP_LONG (n : Nat) : Nat := 0x90064 + 512 * n
abbrev CP_LONG_COUNT (n : Nat) : Field := ⟨CP_LONG n, 0, 32⟩
abbrev CP_LOST (n : Nat) : Nat := 0x90068 + 512 * n
abbrev CP_LOST_COUNT (n : Nat) : Field := ⟨CP_LOST n, 0, 32⟩
abbrev CP_OVF (n : Nat) : Nat := 0x9006C + 512 * n
abbrev CP_OVF_COUNT (n : Nat) : Field := ⟨CP_OVF n, 0, 32⟩
abbrev CP_MISMATCH (n : Nat) : Nat := 0x90070 + 512 * n
abbrev CP_MISMATCH_COUNT (n : Nat) : Field := ⟨CP_MISMATCH n, 0, 32⟩
abbrev CP_BADLINE (n : Nat) : Nat := 0x90074 + 512 * n
abbrev CP_BADLINE_COUNT (n : Nat) : Field := ⟨CP_BADLINE n, 0, 32⟩
abbrev CP_S2_LINES (n : Nat) : Nat := 0x90078 + 512 * n
abbrev CP_S2_LINES_COUNT (n : Nat) : Field := ⟨CP_S2_LINES n, 0, 32⟩
abbrev CP_CHK_PASS (n : Nat) : Nat := 0x9007C + 512 * n
abbrev CP_CHK_PASS_COUNT (n : Nat) : Field := ⟨CP_CHK_PASS n, 0, 32⟩
abbrev CP_CHK_FAIL (n : Nat) : Nat := 0x90080 + 512 * n
abbrev CP_CHK_FAIL_COUNT (n : Nat) : Field := ⟨CP_CHK_FAIL n, 0, 32⟩
abbrev CP_MAP_ORG (n : Nat) (m : Nat) : Nat := 0x90100 + 512 * n + 8 * m
abbrev CP_MAP_ORG_ORG (n : Nat) (m : Nat) : Field := ⟨CP_MAP_ORG n m, 0, 24⟩
abbrev CP_MAP_PITCH (n : Nat) (m : Nat) : Nat := 0x90104 + 512 * n + 8 * m
abbrev CP_MAP_PITCH_PITCH (n : Nat) (m : Nat) : Field := ⟨CP_MAP_PITCH n m, 0, 32⟩
abbrev CL_CFG (n : Nat) : Nat := 0x90800 + 32 * n
abbrev CL_CFG_EN (n : Nat) : Field := ⟨CL_CFG n, 0, 1⟩
abbrev CL_CFG_MBAUD (n : Nat) : Field := ⟨CL_CFG n, 1, 14⟩
abbrev CL_STATUS (n : Nat) : Nat := 0x90804 + 32 * n
abbrev CL_STATUS_STATE (n : Nat) : Field := ⟨CL_STATUS n, 0, 2⟩
abbrev CL_STATUS_EYE_W (n : Nat) : Field := ⟨CL_STATUS n, 2, 8⟩
abbrev CL_SYMERR (n : Nat) : Nat := 0x90808 + 32 * n
abbrev CL_SYMERR_COUNT (n : Nat) : Field := ⟨CL_SYMERR n, 0, 32⟩
abbrev CL_ECC_FIX (n : Nat) : Nat := 0x9080C + 32 * n
abbrev CL_ECC_FIX_COUNT (n : Nat) : Field := ⟨CL_ECC_FIX n, 0, 32⟩
abbrev CL_ECC_BAD (n : Nat) : Nat := 0x90810 + 32 * n
abbrev CL_ECC_BAD_COUNT (n : Nat) : Field := ⟨CL_ECC_BAD n, 0, 32⟩
abbrev CL_CRC_BAD (n : Nat) : Nat := 0x90814 + 32 * n
abbrev CL_CRC_BAD_COUNT (n : Nat) : Field := ⟨CL_CRC_BAD n, 0, 32⟩
abbrev CL_DISCARD (n : Nat) : Nat := 0x90818 + 32 * n
abbrev CL_DISCARD_COUNT (n : Nat) : Field := ⟨CL_DISCARD n, 0, 32⟩
abbrev CL_LOCK_LOSS (n : Nat) : Nat := 0x9081C + 32 * n
abbrev CL_LOCK_LOSS_COUNT (n : Nat) : Field := ⟨CL_LOCK_LOSS n, 0, 32⟩
abbrev EVD_IP : Nat := 0x90900
abbrev EVD_IP_IP : Field := ⟨EVD_IP, 0, 32⟩
abbrev EVD_CFG : Nat := 0x90904
abbrev EVD_CFG_PORT : Field := ⟨EVD_CFG, 0, 16⟩
abbrev EVD_CFG_NP : Field := ⟨EVD_CFG, 16, 1⟩
abbrev EVD_CFG_CHUNK : Field := ⟨EVD_CFG, 17, 14⟩
abbrev EVD_RESEND_LO : Nat := 0x90908
abbrev EVD_RESEND_LO_ADDR_LO : Field := ⟨EVD_RESEND_LO, 5, 27⟩
abbrev EVD_RESEND_HI : Nat := 0x9090C
abbrev EVD_RESEND_HI_ADDR_HI : Field := ⟨EVD_RESEND_HI, 0, 8⟩
abbrev EVD_SENT : Nat := 0x90910
abbrev EVD_SENT_COUNT : Field := ⟨EVD_SENT, 0, 32⟩
abbrev EVD_RESENT : Nat := 0x90914
abbrev EVD_RESENT_COUNT : Field := ⟨EVD_RESENT, 0, 32⟩
-- IRON
abbrev IRON_CFG : Nat := 0xA0000
abbrev IRON_CFG_EN : Field := ⟨IRON_CFG, 0, 1⟩
abbrev IRON_CFG_HBIN : Field := ⟨IRON_CFG, 1, 3⟩
abbrev IRON_CFG_HORG : Field := ⟨IRON_CFG, 4, 4⟩
abbrev IRON_CFG_HROWS : Field := ⟨IRON_CFG, 8, 2⟩
abbrev IRON_CFG_FORGET : Field := ⟨IRON_CFG, 10, 4⟩
abbrev IRON_DEPTH : Nat := 0xA0004
abbrev IRON_DEPTH_ROWS : Field := ⟨IRON_DEPTH, 0, 20⟩
abbrev IRON_SOLVE : Nat := 0xA0008
abbrev IRON_SOLVE_MIN_FRAMES : Field := ⟨IRON_SOLVE, 0, 8⟩
abbrev IRON_SOLVE_MINRESP : Field := ⟨IRON_SOLVE, 8, 8⟩
abbrev IRON_SOLVE_PIVOT_MIN : Field := ⟨IRON_SOLVE, 16, 8⟩
abbrev IRON_STEP : Nat := 0xA000C
abbrev IRON_STEP_DEAD : Field := ⟨IRON_STEP, 0, 4⟩
abbrev IRON_FRAMES : Nat := 0xA0010
abbrev IRON_FRAMES_COUNT : Field := ⟨IRON_FRAMES, 0, 32⟩
abbrev IRON_EXCL_TRANS : Nat := 0xA0014
abbrev IRON_EXCL_TRANS_COUNT : Field := ⟨IRON_EXCL_TRANS, 0, 32⟩
abbrev IRON_EXCL_FLK : Nat := 0xA0018
abbrev IRON_EXCL_FLK_COUNT : Field := ⟨IRON_EXCL_FLK, 0, 32⟩
abbrev IRON_EXCL_OTHER : Nat := 0xA001C
abbrev IRON_EXCL_OTHER_COUNT : Field := ⟨IRON_EXCL_OTHER, 0, 32⟩
abbrev IRON_EXCL_HIST : Nat := 0xA0020
abbrev IRON_EXCL_HIST_COUNT : Field := ⟨IRON_EXCL_HIST, 0, 32⟩
abbrev IRON_GAINLIM : Nat := 0xA0024
abbrev IRON_GAINLIM_COUNT : Field := ⟨IRON_GAINLIM, 0, 32⟩
abbrev IRON_HIST_SIZE : Nat := 0xA0028
abbrev IRON_HIST_SIZE_SIZE : Field := ⟨IRON_HIST_SIZE, 0, 28⟩
abbrev INK_CFG (n : Nat) : Nat := 0xA0100 + 8 * n
abbrev INK_CFG_BARS (n : Nat) : Field := ⟨INK_CFG n, 0, 16⟩
abbrev INK_CFG_PLANE (n : Nat) : Field := ⟨INK_CFG n, 16, 2⟩
abbrev INK_CFG_EN (n : Nat) : Field := ⟨INK_CFG n, 18, 1⟩
abbrev INK_NOM (n : Nat) : Nat := 0xA0104 + 8 * n
abbrev INK_NOM_E_NOM (n : Nat) : Field := ⟨INK_NOM n, 0, 10⟩
abbrev BAR_VOL0 (n : Nat) : Nat := 0xA0200 + 32 * n
abbrev BAR_VOL0_V1 (n : Nat) : Field := ⟨BAR_VOL0 n, 0, 8⟩
abbrev BAR_VOL0_V2 (n : Nat) : Field := ⟨BAR_VOL0 n, 8, 8⟩
abbrev BAR_VOL0_V3 (n : Nat) : Field := ⟨BAR_VOL0 n, 16, 8⟩
abbrev BAR_VOL0_V4 (n : Nat) : Field := ⟨BAR_VOL0 n, 24, 8⟩
abbrev BAR_VOL1 (n : Nat) : Nat := 0xA0204 + 32 * n
abbrev BAR_VOL1_V5 (n : Nat) : Field := ⟨BAR_VOL1 n, 0, 8⟩
abbrev BAR_VOL1_V6 (n : Nat) : Field := ⟨BAR_VOL1 n, 8, 8⟩
abbrev BAR_VOL1_V7 (n : Nat) : Field := ⟨BAR_VOL1 n, 16, 8⟩
abbrev BAR_IUPD (n : Nat) : Nat := 0xA0208 + 32 * n
abbrev BAR_IUPD_COUNT (n : Nat) : Field := ⟨BAR_IUPD n, 0, 32⟩
abbrev BAR_REGCFG (n : Nat) : Nat := 0xA020C + 32 * n
abbrev BAR_REGCFG_REG_EN (n : Nat) : Field := ⟨BAR_REGCFG n, 0, 1⟩
abbrev BAR_REGCFG_LAT_EN (n : Nat) : Field := ⟨BAR_REGCFG n, 1, 1⟩
abbrev BAR_REGCFG_REG_GAIN (n : Nat) : Field := ⟨BAR_REGCFG n, 2, 4⟩
abbrev BAR_REGCFG_REG_DEAD (n : Nat) : Field := ⟨BAR_REGCFG n, 6, 8⟩
abbrev BAR_REGCFG_REG_FRAMES (n : Nat) : Field := ⟨BAR_REGCFG n, 14, 4⟩
abbrev BAR_REGCFG_LAT_HYST (n : Nat) : Field := ⟨BAR_REGCFG n, 18, 8⟩
abbrev BAR_REGCFG_REG_CONF (n : Nat) : Field := ⟨BAR_REGCFG n, 26, 5⟩
abbrev BAR_REGERR (n : Nat) : Nat := 0xA0210 + 32 * n
abbrev BAR_REGERR_ERR_Y (n : Nat) : Field := ⟨BAR_REGERR n, 0, 16⟩
abbrev BAR_REGERR_ERR_X (n : Nat) : Field := ⟨BAR_REGERR n, 16, 16⟩
abbrev BAR_REGSTAT (n : Nat) : Nat := 0xA0214 + 32 * n
abbrev BAR_REGSTAT_Y_VALID (n : Nat) : Field := ⟨BAR_REGSTAT n, 0, 1⟩
abbrev BAR_REGSTAT_X_VALID (n : Nat) : Field := ⟨BAR_REGSTAT n, 1, 1⟩
abbrev BAR_REGSTAT_REG_LIMIT (n : Nat) : Field := ⟨BAR_REGSTAT n, 2, 1⟩
abbrev BAR_REGSTAT_LAT_LIMIT (n : Nat) : Field := ⟨BAR_REGSTAT n, 3, 1⟩
abbrev BAR_REGSTAT_FRESH (n : Nat) : Field := ⟨BAR_REGSTAT n, 4, 4⟩
abbrev BAR_REGUPD (n : Nat) : Nat := 0xA0218 + 32 * n
abbrev BAR_REGUPD_REG (n : Nat) : Field := ⟨BAR_REGUPD n, 0, 16⟩
abbrev BAR_REGUPD_LAT (n : Nat) : Field := ⟨BAR_REGUPD n, 16, 16⟩
-- HLINK
abbrev HL_CFG (n : Nat) : Nat := 0xB0000 + 64 * n
abbrev HL_CFG_EN (n : Nat) : Field := ⟨HL_CFG n, 0, 1⟩
abbrev HL_CFG_RATE (n : Nat) : Field := ⟨HL_CFG n, 1, 3⟩
abbrev HL_CFG_SWING (n : Nat) : Field := ⟨HL_CFG n, 4, 3⟩
abbrev HL_CFG_DEEMPH (n : Nat) : Field := ⟨HL_CFG n, 7, 3⟩
abbrev HL_CTRL (n : Nat) : Nat := 0xB0004 + 64 * n
abbrev HL_CTRL_RESUME (n : Nat) : Field := ⟨HL_CTRL n, 0, 1⟩
abbrev HL_CTRL_RETRAIN (n : Nat) : Field := ⟨HL_CTRL n, 1, 1⟩
abbrev HL_CTRL_CAL (n : Nat) : Field := ⟨HL_CTRL n, 2, 1⟩
abbrev HL_STATE (n : Nat) : Nat := 0xB0008 + 64 * n
abbrev HL_STATE_STATE (n : Nat) : Field := ⟨HL_STATE n, 0, 3⟩
abbrev HL_STATE_RATE (n : Nat) : Field := ⟨HL_STATE n, 3, 3⟩
abbrev HL_STATE_RATE_LOW (n : Nat) : Field := ⟨HL_STATE n, 6, 1⟩
abbrev HL_STATE_DONE (n : Nat) : Field := ⟨HL_STATE n, 7, 1⟩
abbrev HL_STATE_ABORTED (n : Nat) : Field := ⟨HL_STATE n, 8, 1⟩
abbrev HL_STATE_REJECT (n : Nat) : Field := ⟨HL_STATE n, 9, 3⟩
abbrev HL_STATE_CAL_OK (n : Nat) : Field := ⟨HL_STATE n, 12, 1⟩
abbrev HL_LAMBDA (n : Nat) : Nat := 0xB000C + 64 * n
abbrev HL_LAMBDA_PS (n : Nat) : Field := ⟨HL_LAMBDA n, 0, 32⟩
abbrev HL_WIRE_SKEW (n : Nat) : Nat := 0xB0010 + 64 * n
abbrev HL_WIRE_SKEW_PS (n : Nat) : Field := ⟨HL_WIRE_SKEW n, 0, 16⟩
abbrev HL_HD_INFO (n : Nat) : Nat := 0xB0014 + 64 * n
abbrev HL_HD_INFO_RATES (n : Nat) : Field := ⟨HL_HD_INFO n, 0, 5⟩
abbrev HL_HD_INFO_SLOTS (n : Nat) : Field := ⟨HL_HD_INFO n, 5, 6⟩
abbrev HL_HD_INFO_MAX_DEPTH (n : Nat) : Field := ⟨HL_HD_INFO n, 11, 2⟩
abbrev HL_HD_INFO_DUPLEX (n : Nat) : Field := ⟨HL_HD_INFO n, 13, 1⟩
abbrev HL_HD_INFO_MAX_NOZZLES (n : Nat) : Field := ⟨HL_HD_INFO n, 16, 13⟩
abbrev HL_HD_DELAY (n : Nat) : Nat := 0xB0018 + 64 * n
abbrev HL_HD_DELAY_PS (n : Nat) : Field := ⟨HL_HD_DELAY n, 0, 32⟩
abbrev HL_HD_TA (n : Nat) : Nat := 0xB001C + 64 * n
abbrev HL_HD_TA_PS (n : Nat) : Field := ⟨HL_HD_TA n, 0, 32⟩
abbrev HL_HD_ID (n : Nat) : Nat := 0xB0020 + 64 * n
abbrev HL_HD_ID_ID (n : Nat) : Field := ⟨HL_HD_ID n, 0, 32⟩
abbrev HL_EYE (n : Nat) : Nat := 0xB0024 + 64 * n
abbrev HL_EYE_WIDTH (n : Nat) : Field := ⟨HL_EYE n, 0, 8⟩
abbrev HL_EYE_HEIGHT (n : Nat) : Field := ⟨HL_EYE n, 8, 8⟩
abbrev HL_EYE_HD_WIDTH (n : Nat) : Field := ⟨HL_EYE n, 16, 8⟩
abbrev HL_BLK_ERR (n : Nat) : Nat := 0xB0028 + 64 * n
abbrev HL_BLK_ERR_COUNT (n : Nat) : Field := ⟨HL_BLK_ERR n, 0, 32⟩
abbrev HL_LOCK_LOSS (n : Nat) : Nat := 0xB002C + 64 * n
abbrev HL_LOCK_LOSS_COUNT (n : Nat) : Field := ⟨HL_LOCK_LOSS n, 0, 32⟩
abbrev HL_ECHO_LOST (n : Nat) : Nat := 0xB0030 + 64 * n
abbrev HL_ECHO_LOST_COUNT (n : Nat) : Field := ⟨HL_ECHO_LOST n, 0, 32⟩
abbrev HL_HD_CRC (n : Nat) : Nat := 0xB0034 + 64 * n
abbrev HL_HD_CRC_COUNT (n : Nat) : Field := ⟨HL_HD_CRC n, 0, 32⟩
abbrev HL_HD_MISS (n : Nat) : Nat := 0xB0038 + 64 * n
abbrev HL_HD_MISS_COUNT (n : Nat) : Field := ⟨HL_HD_MISS n, 0, 32⟩
abbrev HL_HD_DUP (n : Nat) : Nat := 0xB003C + 64 * n
abbrev HL_HD_DUP_COUNT (n : Nat) : Field := ⟨HL_HD_DUP n, 0, 32⟩
abbrev ECHO_CFG : Nat := 0xB0400
abbrev ECHO_CFG_PERIOD : Field := ⟨ECHO_CFG, 0, 8⟩
abbrev ECHO_CFG_DRIFT : Field := ⟨ECHO_CFG, 8, 16⟩
abbrev REVERT : Nat := 0xB0404
abbrev REVERT_S : Field := ⟨REVERT, 0, 16⟩
abbrev CH_LANE (n : Nat) : Nat := 0xB1000 + 4 * n
abbrev CH_LANE_HOME (n : Nat) : Field := ⟨CH_LANE n, 0, 4⟩
abbrev CH_LANE_SECOND (n : Nat) : Field := ⟨CH_LANE n, 4, 4⟩
abbrev CH_LANE_DUPLEX (n : Nat) : Field := ⟨CH_LANE n, 8, 1⟩
abbrev CH_LANE_HSLOT (n : Nat) : Field := ⟨CH_LANE n, 9, 5⟩
abbrev CH_LANE_SSLOT (n : Nat) : Field := ⟨CH_LANE n, 14, 5⟩
abbrev CH_LANE_ON_SECOND (n : Nat) : Field := ⟨CH_LANE n, 19, 1⟩
abbrev CH_HEADT (n : Nat) : Nat := 0xB1800 + 4 * n
abbrev CH_HEADT_CODE (n : Nat) : Field := ⟨CH_HEADT n, 0, 8⟩
abbrev CH_HEADT_STALE (n : Nat) : Field := ⟨CH_HEADT n, 8, 1⟩
-- NET
abbrev NP_CFG (n : Nat) : Nat := 0xC0000 + 256 * n
abbrev NP_CFG_MODE (n : Nat) : Field := ⟨NP_CFG n, 0, 2⟩
abbrev NP_CFG_FEC (n : Nat) : Field := ⟨NP_CFG n, 2, 1⟩
abbrev NP_CFG_AN37 (n : Nat) : Field := ⟨NP_CFG n, 3, 1⟩
abbrev NP_CFG_FRAME (n : Nat) : Field := ⟨NP_CFG n, 4, 14⟩
abbrev NP_CFG_VLAN_EN (n : Nat) : Field := ⟨NP_CFG n, 18, 1⟩
abbrev NP_MAC_LO (n : Nat) : Nat := 0xC0004 + 256 * n
abbrev NP_MAC_LO_MAC (n : Nat) : Field := ⟨NP_MAC_LO n, 0, 32⟩
abbrev NP_MAC_HI (n : Nat) : Nat := 0xC0008 + 256 * n
abbrev NP_MAC_HI_MAC (n : Nat) : Field := ⟨NP_MAC_HI n, 0, 16⟩
abbrev NP_IP (n : Nat) : Nat := 0xC000C + 256 * n
abbrev NP_IP_IP (n : Nat) : Field := ⟨NP_IP n, 0, 32⟩
abbrev NP_MASK (n : Nat) : Nat := 0xC0010 + 256 * n
abbrev NP_MASK_MASK (n : Nat) : Field := ⟨NP_MASK n, 0, 32⟩
abbrev NP_GW (n : Nat) : Nat := 0xC0014 + 256 * n
abbrev NP_GW_GW (n : Nat) : Field := ⟨NP_GW n, 0, 32⟩
abbrev NP_VLAN (n : Nat) : Nat := 0xC0018 + 256 * n
abbrev NP_VLAN_VID (n : Nat) : Field := ⟨NP_VLAN n, 0, 12⟩
abbrev NP_VLAN_PCP (n : Nat) : Field := ⟨NP_VLAN n, 12, 3⟩
abbrev NP_STATUS (n : Nat) : Nat := 0xC001C + 256 * n
abbrev NP_STATUS_LINK (n : Nat) : Field := ⟨NP_STATUS n, 0, 1⟩
abbrev NP_STATUS_FEC_LOCK (n : Nat) : Field := ⟨NP_STATUS n, 1, 1⟩
abbrev NP_STATUS_AN_DONE (n : Nat) : Field := ⟨NP_STATUS n, 2, 1⟩
abbrev NP_ASYM (n : Nat) : Nat := 0xC0020 + 256 * n
abbrev NP_ASYM_PS (n : Nat) : Field := ⟨NP_ASYM n, 0, 32⟩
abbrev NP_PTP (n : Nat) : Nat := 0xC0024 + 256 * n
abbrev NP_PTP_STATE (n : Nat) : Field := ⟨NP_PTP n, 0, 4⟩
abbrev NP_PTP_INST (n : Nat) : Field := ⟨NP_PTP n, 4, 2⟩
abbrev NP_MEANDELAY (n : Nat) : Nat := 0xC0028 + 256 * n
abbrev NP_MEANDELAY_PS (n : Nat) : Field := ⟨NP_MEANDELAY n, 0, 32⟩
abbrev NP_LB (n : Nat) : Nat := 0xC002C + 256 * n
abbrev NP_LB_DEPTH (n : Nat) : Field := ⟨NP_LB n, 0, 3⟩
abbrev NP_LB_LEN (n : Nat) : Field := ⟨NP_LB n, 3, 14⟩
abbrev NP_RX_FRAMES (n : Nat) : Nat := 0xC0030 + 256 * n
abbrev NP_RX_FRAMES_COUNT (n : Nat) : Field := ⟨NP_RX_FRAMES n, 0, 32⟩
abbrev NP_RX_BAD (n : Nat) : Nat := 0xC0034 + 256 * n
abbrev NP_RX_BAD_COUNT (n : Nat) : Field := ⟨NP_RX_BAD n, 0, 32⟩
abbrev NP_RX_DISCARD (n : Nat) : Nat := 0xC0038 + 256 * n
abbrev NP_RX_DISCARD_COUNT (n : Nat) : Field := ⟨NP_RX_DISCARD n, 0, 32⟩
abbrev NP_TX_FRAMES (n : Nat) : Nat := 0xC003C + 256 * n
abbrev NP_TX_FRAMES_COUNT (n : Nat) : Field := ⟨NP_TX_FRAMES n, 0, 32⟩
abbrev NP_TX_DROP (n : Nat) : Nat := 0xC0040 + 256 * n
abbrev NP_TX_DROP_COUNT (n : Nat) : Field := ⟨NP_TX_DROP n, 0, 32⟩
abbrev NP_LINK_DOWNS (n : Nat) : Nat := 0xC0044 + 256 * n
abbrev NP_LINK_DOWNS_COUNT (n : Nat) : Field := ⟨NP_LINK_DOWNS n, 0, 32⟩
abbrev NP_LB_FRAMES (n : Nat) : Nat := 0xC0048 + 256 * n
abbrev NP_LB_FRAMES_COUNT (n : Nat) : Field := ⟨NP_LB_FRAMES n, 0, 32⟩
abbrev NP_LB_ERR (n : Nat) : Nat := 0xC004C + 256 * n
abbrev NP_LB_ERR_COUNT (n : Nat) : Field := ⟨NP_LB_ERR n, 0, 32⟩
abbrev ARP_CFG : Nat := 0xC0200
abbrev ARP_CFG_AGE : Field := ⟨ARP_CFG, 0, 16⟩
abbrev PI_CFG (n : Nat) : Nat := 0xC0400 + 64 * n
abbrev PI_CFG_EN (n : Nat) : Field := ⟨PI_CFG n, 0, 1⟩
abbrev PI_CFG_ROLE (n : Nat) : Field := ⟨PI_CFG n, 1, 1⟩
abbrev PI_CFG_PORT (n : Nat) : Field := ⟨PI_CFG n, 2, 1⟩
abbrev PI_CFG_TRANSPORT (n : Nat) : Field := ⟨PI_CFG n, 3, 1⟩
abbrev PI_CFG_DELAY (n : Nat) : Field := ⟨PI_CFG n, 4, 1⟩
abbrev PI_CFG_ONESTEP (n : Nat) : Field := ⟨PI_CFG n, 5, 1⟩
abbrev PI_CFG_DOMAIN (n : Nat) : Field := ⟨PI_CFG n, 6, 8⟩
abbrev PI_CFG_MAJOR_SDO (n : Nat) : Field := ⟨PI_CFG n, 14, 4⟩
abbrev PI_INTV (n : Nat) : Nat := 0xC0404 + 64 * n
abbrev PI_INTV_LOG_SYNC (n : Nat) : Field := ⟨PI_INTV n, 0, 4⟩
abbrev PI_INTV_LOG_ANN (n : Nat) : Field := ⟨PI_INTV n, 4, 4⟩
abbrev PI_INTV_LOG_DREQ (n : Nat) : Field := ⟨PI_INTV n, 8, 4⟩
abbrev PI_INTV_ANN_TO (n : Nat) : Field := ⟨PI_INTV n, 12, 4⟩
abbrev PI_SERVO (n : Nat) : Nat := 0xC0408 + 64 * n
abbrev PI_SERVO_TCLOG (n : Nat) : Field := ⟨PI_SERVO n, 0, 4⟩
abbrev PI_SERVO_LOCK_NS (n : Nat) : Field := ⟨PI_SERVO n, 4, 20⟩
abbrev PI_STATUS (n : Nat) : Nat := 0xC040C + 64 * n
abbrev PI_STATUS_PARENT (n : Nat) : Field := ⟨PI_STATUS n, 0, 1⟩
abbrev PI_STATUS_UTC_VALID (n : Nat) : Field := ⟨PI_STATUS n, 1, 1⟩
abbrev PI_STATUS_LEAP61 (n : Nat) : Field := ⟨PI_STATUS n, 2, 1⟩
abbrev PI_STATUS_LEAP59 (n : Nat) : Field := ⟨PI_STATUS n, 3, 1⟩
abbrev PI_STATUS_TRACEABLE (n : Nat) : Field := ⟨PI_STATUS n, 4, 1⟩
abbrev PI_STATUS_UTC_OFFSET (n : Nat) : Field := ⟨PI_STATUS n, 16, 16⟩
abbrev PI_OFFSET (n : Nat) : Nat := 0xC0410 + 64 * n
abbrev PI_OFFSET_NS (n : Nat) : Field := ⟨PI_OFFSET n, 0, 32⟩
abbrev PI_GM_LO (n : Nat) : Nat := 0xC0414 + 64 * n
abbrev PI_GM_LO_ID (n : Nat) : Field := ⟨PI_GM_LO n, 0, 32⟩
abbrev PI_GM_HI (n : Nat) : Nat := 0xC0418 + 64 * n
abbrev PI_GM_HI_ID (n : Nat) : Field := ⟨PI_GM_HI n, 0, 32⟩
abbrev PI_GMQ (n : Nat) : Nat := 0xC041C + 64 * n
abbrev PI_GMQ_CLASS (n : Nat) : Field := ⟨PI_GMQ n, 0, 8⟩
abbrev PI_GMQ_ACCURACY (n : Nat) : Field := ⟨PI_GMQ n, 8, 8⟩
abbrev PI_GMQ_STEPS (n : Nat) : Field := ⟨PI_GMQ n, 16, 16⟩
abbrev PI_RX_ERR (n : Nat) : Nat := 0xC0420 + 64 * n
abbrev PI_RX_ERR_COUNT (n : Nat) : Field := ⟨PI_RX_ERR n, 0, 32⟩
abbrev TB_CFG (n : Nat) : Nat := 0xC0800 + 64 * n
abbrev TB_CFG_SRC (n : Nat) : Field := ⟨TB_CFG n, 0, 2⟩
abbrev TB_CFG_STEP (n : Nat) : Field := ⟨TB_CFG n, 2, 10⟩
abbrev TB_CFG_HOLD_OK (n : Nat) : Field := ⟨TB_CFG n, 12, 16⟩
abbrev TB_JUMP (n : Nat) : Nat := 0xC0804 + 64 * n
abbrev TB_JUMP_US (n : Nat) : Field := ⟨TB_JUMP n, 0, 32⟩
abbrev TB_NOW_LO (n : Nat) : Nat := 0xC0808 + 64 * n
abbrev TB_NOW_LO_NS (n : Nat) : Field := ⟨TB_NOW_LO n, 0, 32⟩
abbrev TB_NOW_HI (n : Nat) : Nat := 0xC080C + 64 * n
abbrev TB_NOW_HI_NS (n : Nat) : Field := ⟨TB_NOW_HI n, 0, 32⟩
abbrev TB_SET_LO (n : Nat) : Nat := 0xC0810 + 64 * n
abbrev TB_SET_LO_NS (n : Nat) : Field := ⟨TB_SET_LO n, 0, 32⟩
abbrev TB_SET_HI (n : Nat) : Nat := 0xC0814 + 64 * n
abbrev TB_SET_HI_NS (n : Nat) : Field := ⟨TB_SET_HI n, 0, 32⟩
abbrev TB_CTRL (n : Nat) : Nat := 0xC0818 + 64 * n
abbrev TB_CTRL_ACCEPT (n : Nat) : Field := ⟨TB_CTRL n, 0, 1⟩
abbrev TB_STATUS (n : Nat) : Nat := 0xC081C + 64 * n
abbrev TB_STATUS_STATE (n : Nat) : Field := ⟨TB_STATUS n, 0, 2⟩
abbrev TB_STATUS_LOCKED (n : Nat) : Field := ⟨TB_STATUS n, 2, 1⟩
abbrev TB_STATUS_REFUSED (n : Nat) : Field := ⟨TB_STATUS n, 3, 1⟩
abbrev TB_STATUS_USABLE (n : Nat) : Field := ⟨TB_STATUS n, 4, 1⟩
abbrev TB_ADJ (n : Nat) : Nat := 0xC0820 + 64 * n
abbrev TB_ADJ_RATE (n : Nat) : Field := ⟨TB_ADJ n, 0, 32⟩
abbrev TB_PEND (n : Nat) : Nat := 0xC0824 + 64 * n
abbrev TB_PEND_US (n : Nat) : Field := ⟨TB_PEND n, 0, 32⟩
abbrev TB_HOLD (n : Nat) : Nat := 0xC0828 + 64 * n
abbrev TB_HOLD_S (n : Nat) : Field := ⟨TB_HOLD n, 0, 32⟩
abbrev TB0_UTC : Nat := 0xC0A00
abbrev TB0_UTC_OFFSET : Field := ⟨TB0_UTC, 0, 16⟩
abbrev TB0_UTC_FROM_PTP : Field := ⟨TB0_UTC, 16, 1⟩
abbrev TP_CFG (n : Nat) : Nat := 0xC0C00 + 32 * n
abbrev TP_CFG_EN (n : Nat) : Field := ⟨TP_CFG n, 0, 1⟩
abbrev TP_CFG_TB (n : Nat) : Field := ⟨TP_CFG n, 1, 2⟩
abbrev TP_CFG_SNAP (n : Nat) : Field := ⟨TP_CFG n, 3, 1⟩
abbrev TP_START_LO (n : Nat) : Nat := 0xC0C04 + 32 * n
abbrev TP_START_LO_NS (n : Nat) : Field := ⟨TP_START_LO n, 0, 32⟩
abbrev TP_START_HI (n : Nat) : Nat := 0xC0C08 + 32 * n
abbrev TP_START_HI_NS (n : Nat) : Field := ⟨TP_START_HI n, 0, 32⟩
abbrev TP_PERIOD_LO (n : Nat) : Nat := 0xC0C0C + 32 * n
abbrev TP_PERIOD_LO_NS (n : Nat) : Field := ⟨TP_PERIOD_LO n, 0, 32⟩
abbrev TP_PERIOD_HI (n : Nat) : Nat := 0xC0C10 + 32 * n
abbrev TP_PERIOD_HI_NS (n : Nat) : Field := ⟨TP_PERIOD_HI n, 0, 16⟩
abbrev TP_WIDTH (n : Nat) : Nat := 0xC0C14 + 32 * n
abbrev TP_WIDTH_US (n : Nat) : Field := ⟨TP_WIDTH n, 0, 20⟩
abbrev TP_COUNT (n : Nat) : Nat := 0xC0C18 + 32 * n
abbrev TP_COUNT_COUNT (n : Nat) : Field := ⟨TP_COUNT n, 0, 32⟩
abbrev TP_LATE (n : Nat) : Nat := 0xC0C1C + 32 * n
abbrev TP_LATE_COUNT (n : Nat) : Field := ⟨TP_LATE n, 0, 32⟩
abbrev SNAP_CTRL : Nat := 0xC0E00
abbrev SNAP_CTRL_TAKE : Field := ⟨SNAP_CTRL, 0, 1⟩
abbrev SNAP_SEQ : Nat := 0xC0E04
abbrev SNAP_SEQ_COUNT : Field := ⟨SNAP_SEQ, 0, 32⟩
abbrev SNAP_TB_LO (n : Nat) : Nat := 0xC0E08 + 8 * n
abbrev SNAP_TB_LO_NS (n : Nat) : Field := ⟨SNAP_TB_LO n, 0, 32⟩
abbrev SNAP_TB_HI (n : Nat) : Nat := 0xC0E0C + 8 * n
abbrev SNAP_TB_HI_NS (n : Nat) : Field := ⟨SNAP_TB_HI n, 0, 32⟩
abbrev SNAP_ENC0_LO : Nat := 0xC0E28
abbrev SNAP_ENC0_LO_POS : Field := ⟨SNAP_ENC0_LO, 0, 32⟩
abbrev SNAP_ENC0_HI : Nat := 0xC0E2C
abbrev SNAP_ENC0_HI_POS : Field := ⟨SNAP_ENC0_HI, 0, 16⟩
abbrev SNAP_ENC1_LO : Nat := 0xC0E30
abbrev SNAP_ENC1_LO_POS : Field := ⟨SNAP_ENC1_LO, 0, 32⟩
abbrev SNAP_ENC1_HI : Nat := 0xC0E34
abbrev SNAP_ENC1_HI_POS : Field := ⟨SNAP_ENC1_HI, 0, 16⟩
-- DMA
abbrev DMA_CFG (n : Nat) : Nat := 0xD0000 + 64 * n
abbrev DMA_CFG_MODE (n : Nat) : Field := ⟨DMA_CFG n, 0, 1⟩
abbrev DMA_HEAD_LO (n : Nat) : Nat := 0xD0004 + 64 * n
abbrev DMA_HEAD_LO_ADDR_LO (n : Nat) : Field := ⟨DMA_HEAD_LO n, 5, 27⟩
abbrev DMA_HEAD_HI (n : Nat) : Nat := 0xD0008 + 64 * n
abbrev DMA_HEAD_HI_ADDR_HI (n : Nat) : Field := ⟨DMA_HEAD_HI n, 0, 8⟩
abbrev DMA_CTRL (n : Nat) : Nat := 0xD000C + 64 * n
abbrev DMA_CTRL_RUN (n : Nat) : Field := ⟨DMA_CTRL n, 0, 1⟩
abbrev DMA_CTRL_PAUSE (n : Nat) : Field := ⟨DMA_CTRL n, 1, 1⟩
abbrev DMA_DOORBELL (n : Nat) : Nat := 0xD0010 + 64 * n
abbrev DMA_DOORBELL_RING (n : Nat) : Field := ⟨DMA_DOORBELL n, 0, 32⟩
abbrev DMA_STATUS (n : Nat) : Nat := 0xD0014 + 64 * n
abbrev DMA_STATUS_STATE (n : Nat) : Field := ⟨DMA_STATUS n, 0, 3⟩
abbrev DMA_STATUS_DONE (n : Nat) : Field := ⟨DMA_STATUS n, 3, 1⟩
abbrev DMA_STATUS_ABORTED (n : Nat) : Field := ⟨DMA_STATUS n, 4, 1⟩
abbrev DMA_STATUS_BACKWARD (n : Nat) : Field := ⟨DMA_STATUS n, 5, 1⟩
abbrev DMA_STATUS_ERROR (n : Nat) : Field := ⟨DMA_STATUS n, 8, 4⟩
abbrev DMA_CUR_LO (n : Nat) : Nat := 0xD0018 + 64 * n
abbrev DMA_CUR_LO_ADDR_LO (n : Nat) : Field := ⟨DMA_CUR_LO n, 5, 27⟩
abbrev DMA_CUR_HI (n : Nat) : Nat := 0xD001C + 64 * n
abbrev DMA_CUR_HI_ADDR_HI (n : Nat) : Field := ⟨DMA_CUR_HI n, 0, 8⟩
abbrev DMA_REMAIN (n : Nat) : Nat := 0xD0020 + 64 * n
abbrev DMA_REMAIN_BYTES (n : Nat) : Field := ⟨DMA_REMAIN n, 0, 29⟩
abbrev DMA_DESCS (n : Nat) : Nat := 0xD0024 + 64 * n
abbrev DMA_DESCS_COUNT (n : Nat) : Field := ⟨DMA_DESCS n, 0, 32⟩
abbrev DMA_DB_IGNORED (n : Nat) : Nat := 0xD0028 + 64 * n
abbrev DMA_DB_IGNORED_COUNT (n : Nat) : Field := ⟨DMA_DB_IGNORED n, 0, 32⟩
abbrev PQ_COUNT : Nat := 0xD1000
abbrev PQ_COUNT_PENDING : Field := ⟨PQ_COUNT, 0, 13⟩
abbrev PQ_COUNT_ADMITTED : Field := ⟨PQ_COUNT, 16, 13⟩
abbrev PQ_LOG_COUNT : Nat := 0xD1004
abbrev PQ_LOG_COUNT_COUNT : Field := ⟨PQ_LOG_COUNT, 0, 32⟩
abbrev PQ_REFUSED : Nat := 0xD1008
abbrev PQ_REFUSED_REASON : Field := ⟨PQ_REFUSED, 0, 8⟩
abbrev PQ_REFUSED_DETAIL : Field := ⟨PQ_REFUSED, 8, 8⟩
abbrev PQ_REFUSED_PIECE : Nat := 0xD100C
abbrev PQ_REFUSED_PIECE_PIECE : Field := ⟨PQ_REFUSED_PIECE, 0, 32⟩
abbrev REPEAT_POOL : Nat := 0xD1010
abbrev REPEAT_POOL_SIZE : Field := ⟨REPEAT_POOL, 0, 28⟩
abbrev REPEAT_FREE : Nat := 0xD1014
abbrev REPEAT_FREE_SIZE : Field := ⟨REPEAT_FREE, 0, 28⟩
abbrev HBM_ALLOW : Nat := 0xD1018
abbrev HBM_ALLOW_GBS : Field := ⟨HBM_ALLOW, 0, 10⟩
abbrev PQ_LOAD : Nat := 0xD101C
abbrev PQ_LOAD_SEQ : Field := ⟨PQ_LOAD, 0, 10⟩
abbrev PQ_LOAD_DX : Field := ⟨PQ_LOAD, 16, 10⟩
abbrev PQ_LOAD_HBM : Nat := 0xD1020
abbrev PQ_LOAD_HBM_HBM : Field := ⟨PQ_LOAD_HBM, 0, 10⟩
abbrev PQ_PROBE_DIST (n : Nat) : Nat := 0xD1030 + 8 * n
abbrev PQ_PROBE_DIST_DIST (n : Nat) : Field := ⟨PQ_PROBE_DIST n, 0, 24⟩
abbrev PQ_PROBE_CFG (n : Nat) : Nat := 0xD1034 + 8 * n
abbrev PQ_PROBE_CFG_WIDTH (n : Nat) : Field := ⟨PQ_PROBE_CFG n, 0, 16⟩
abbrev PQ_PROBE_CFG_REJECT_EN (n : Nat) : Field := ⟨PQ_PROBE_CFG n, 16, 1⟩
abbrev PQ_PROBE_CFG_OUT (n : Nat) : Field := ⟨PQ_PROBE_CFG n, 17, 1⟩
abbrev PROBE_UNBOUND : Nat := 0xD1050
abbrev PROBE_UNBOUND_COUNT : Field := ⟨PROBE_UNBOUND, 0, 32⟩
abbrev JOB_BASE : Nat := 0xD1060
abbrev JOB_BASE_BASE : Field := ⟨JOB_BASE, 0, 28⟩
abbrev JOB_SIZE : Nat := 0xD1064
abbrev JOB_SIZE_SIZE : Field := ⟨JOB_SIZE, 0, 28⟩
abbrev WIN_BASE (n : Nat) : Nat := 0xD2000 + 16 * n
abbrev WIN_BASE_BASE (n : Nat) : Field := ⟨WIN_BASE n, 0, 28⟩
abbrev WIN_SIZE (n : Nat) : Nat := 0xD2004 + 16 * n
abbrev WIN_SIZE_SIZE (n : Nat) : Field := ⟨WIN_SIZE n, 0, 28⟩
abbrev WIN_CFG (n : Nat) : Nat := 0xD2008 + 16 * n
abbrev WIN_CFG_OPEN (n : Nat) : Field := ⟨WIN_CFG n, 0, 1⟩
abbrev WIN_CFG_KIND (n : Nat) : Field := ⟨WIN_CFG n, 1, 1⟩
abbrev WIN_CFG_DMA (n : Nat) : Field := ⟨WIN_CFG n, 2, 4⟩
abbrev WIN_STATUS (n : Nat) : Nat := 0xD200C + 16 * n
abbrev WIN_STATUS_REFS (n : Nat) : Field := ⟨WIN_STATUS n, 0, 13⟩
-- FLATE
abbrev DX_CTRL (n : Nat) : Nat := 0xE0000 + 32 * n
abbrev DX_CTRL_DRAIN (n : Nat) : Field := ⟨DX_CTRL n, 0, 1⟩
abbrev DX_STATUS (n : Nat) : Nat := 0xE0004 + 32 * n
abbrev DX_STATUS_STATE (n : Nat) : Field := ⟨DX_STATUS n, 0, 2⟩
abbrev DX_STATUS_BANDS (n : Nat) : Field := ⟨DX_STATUS n, 2, 6⟩
abbrev DX_STATUS_DONE (n : Nat) : Field := ⟨DX_STATUS n, 8, 1⟩
abbrev DX_STATUS_ABORTED (n : Nat) : Field := ⟨DX_STATUS n, 9, 1⟩
abbrev DX_LOAD (n : Nat) : Nat := 0xE0008 + 32 * n
abbrev DX_LOAD_LOAD (n : Nat) : Field := ⟨DX_LOAD n, 0, 10⟩
abbrev DX_LINES (n : Nat) : Nat := 0xE000C + 32 * n
abbrev DX_LINES_COUNT (n : Nat) : Field := ⟨DX_LINES n, 0, 32⟩
abbrev DX_SEGS (n : Nat) : Nat := 0xE0010 + 32 * n
abbrev DX_SEGS_COUNT (n : Nat) : Field := ⟨DX_SEGS n, 0, 32⟩
abbrev DX_ERRS (n : Nat) : Nat := 0xE0014 + 32 * n
abbrev DX_ERRS_BAD (n : Nat) : Field := ⟨DX_ERRS n, 0, 16⟩
abbrev DX_ERRS_CRC (n : Nat) : Field := ⟨DX_ERRS n, 16, 16⟩
abbrev DX_DISCARD : Nat := 0xE0400
abbrev DX_DISCARD_COUNT : Field := ⟨DX_DISCARD, 0, 32⟩
abbrev FLATE_LAST : Nat := 0xE0404
abbrev FLATE_LAST_CAUSE : Field := ⟨FLATE_LAST, 0, 8⟩
abbrev FLATE_LAST_BAND : Field := ⟨FLATE_LAST, 8, 9⟩
abbrev BAND_OWNER (n : Nat) : Nat := 0xE1000 + 8 * n
abbrev BAND_OWNER_ENGINE (n : Nat) : Field := ⟨BAND_OWNER n, 0, 4⟩
abbrev BAND_OWNER_BANK (n : Nat) : Field := ⟨BAND_OWNER n, 4, 5⟩
abbrev BAND_OWNER_OLD_ENGINE (n : Nat) : Field := ⟨BAND_OWNER n, 9, 4⟩
abbrev BAND_OWNER_MIGRATING (n : Nat) : Field := ⟨BAND_OWNER n, 13, 1⟩
abbrev BAND_OWNER_VALID (n : Nat) : Field := ⟨BAND_OWNER n, 14, 1⟩
abbrev BAND_OWNER_BAD (n : Nat) : Field := ⟨BAND_OWNER n, 15, 1⟩
abbrev BAND_OWNER_INDEX (n : Nat) : Field := ⟨BAND_OWNER n, 16, 9⟩
abbrev BAND_CUT (n : Nat) : Nat := 0xE1004 + 8 * n
abbrev BAND_CUT_LINE (n : Nat) : Field := ⟨BAND_CUT n, 0, 32⟩
abbrev KEY_W (n : Nat) (m : Nat) : Nat := 0xE2000 + 32 * n + 4 * m
abbrev KEY_W_KEY (n : Nat) (m : Nat) : Field := ⟨KEY_W n m, 0, 32⟩
abbrev KEY_VALID : Nat := 0xE2100
abbrev KEY_VALID_SLOTS : Field := ⟨KEY_VALID, 0, 8⟩
abbrev KEY_CLEAR : Nat := 0xE2104
abbrev KEY_CLEAR_SLOTS : Field := ⟨KEY_CLEAR, 0, 8⟩
abbrev CX_CFG (n : Nat) : Nat := 0xE3000 + 64 * n
abbrev CX_CFG_SRC (n : Nat) : Field := ⟨CX_CFG n, 0, 2⟩
abbrev CX_CFG_TABLES (n : Nat) : Field := ⟨CX_CFG n, 2, 2⟩
abbrev CX_CFG_DEPTH (n : Nat) : Field := ⟨CX_CFG n, 4, 5⟩
abbrev CX_CFG_LAZY (n : Nat) : Field := ⟨CX_CFG n, 9, 1⟩
abbrev CX_CFG_ENABLE (n : Nat) : Field := ⟨CX_CFG n, 10, 1⟩
abbrev CX_HEAD_LO (n : Nat) : Nat := 0xE3004 + 64 * n
abbrev CX_HEAD_LO_ADDR_LO (n : Nat) : Field := ⟨CX_HEAD_LO n, 5, 27⟩
abbrev CX_HEAD_HI (n : Nat) : Nat := 0xE3008 + 64 * n
abbrev CX_HEAD_HI_ADDR_HI (n : Nat) : Field := ⟨CX_HEAD_HI n, 0, 8⟩
abbrev CX_DOORBELL (n : Nat) : Nat := 0xE300C + 64 * n
abbrev CX_DOORBELL_RING (n : Nat) : Field := ⟨CX_DOORBELL n, 0, 32⟩
abbrev CX_STATUS (n : Nat) : Nat := 0xE3010 + 64 * n
abbrev CX_STATUS_STATE (n : Nat) : Field := ⟨CX_STATUS n, 0, 2⟩
abbrev CX_STATUS_DONE (n : Nat) : Field := ⟨CX_STATUS n, 2, 1⟩
abbrev CX_STATUS_ABORTED (n : Nat) : Field := ⟨CX_STATUS n, 3, 1⟩
abbrev CX_STATUS_TRUNC (n : Nat) : Field := ⟨CX_STATUS n, 4, 1⟩
abbrev CX_STATUS_BAD_DESC (n : Nat) : Field := ⟨CX_STATUS n, 5, 1⟩
abbrev CX_CUR_LO (n : Nat) : Nat := 0xE3014 + 64 * n
abbrev CX_CUR_LO_ADDR_LO (n : Nat) : Field := ⟨CX_CUR_LO n, 5, 27⟩
abbrev CX_CUR_HI (n : Nat) : Nat := 0xE3018 + 64 * n
abbrev CX_CUR_HI_ADDR_HI (n : Nat) : Field := ⟨CX_CUR_HI n, 0, 8⟩
abbrev CX_JOB (n : Nat) : Nat := 0xE301C + 64 * n
abbrev CX_JOB_JOB (n : Nat) : Field := ⟨CX_JOB n, 0, 32⟩
abbrev CX_JOB_CRC (n : Nat) : Nat := 0xE3020 + 64 * n
abbrev CX_JOB_CRC_CRC (n : Nat) : Field := ⟨CX_JOB_CRC n, 0, 32⟩
abbrev CX_IN_KIB (n : Nat) : Nat := 0xE3024 + 64 * n
abbrev CX_IN_KIB_COUNT (n : Nat) : Field := ⟨CX_IN_KIB n, 0, 32⟩
abbrev CX_OUT_KIB (n : Nat) : Nat := 0xE3028 + 64 * n
abbrev CX_OUT_KIB_COUNT (n : Nat) : Field := ⟨CX_OUT_KIB n, 0, 32⟩
abbrev CX_STALLS (n : Nat) : Nat := 0xE302C + 64 * n
abbrev CX_STALLS_COUNT (n : Nat) : Field := ⟨CX_STALLS n, 0, 32⟩
abbrev CX_DB_IGNORED (n : Nat) : Nat := 0xE3030 + 64 * n
abbrev CX_DB_IGNORED_COUNT (n : Nat) : Field := ⟨CX_DB_IGNORED n, 0, 32⟩
-- MEM
abbrev MEM_INFO : Nat := 0xF0000
abbrev MEM_INFO_PCS : Field := ⟨MEM_INFO, 0, 6⟩
abbrev MEM_INFO_GIB : Field := ⟨MEM_INFO, 6, 5⟩
abbrev MEM_INFO_SRAM_INST : Field := ⟨MEM_INFO, 16, 16⟩
abbrev MEM_TEMP : Nat := 0xF0004
abbrev MEM_TEMP_HBM_C : Field := ⟨MEM_TEMP, 0, 8⟩
abbrev MEM_TEMP_REF_RATE : Field := ⟨MEM_TEMP, 8, 2⟩
abbrev MEM_SCRUB : Nat := 0xF0008
abbrev MEM_SCRUB_HBM_H : Field := ⟨MEM_SCRUB, 0, 8⟩
abbrev MEM_SCRUB_SRAM_S : Field := ⟨MEM_SCRUB, 8, 12⟩
abbrev MEM_SCRUB_CE_AGE_H : Field := ⟨MEM_SCRUB, 20, 12⟩
abbrev MEM_SCRUB_POS : Nat := 0xF000C
abbrev MEM_SCRUB_POS_BLOCK : Field := ⟨MEM_SCRUB_POS, 0, 28⟩
abbrev MEM_HBM_PASSES : Nat := 0xF0010
abbrev MEM_HBM_PASSES_COUNT : Field := ⟨MEM_HBM_PASSES, 0, 32⟩
abbrev MEM_SRAM_PASSES : Nat := 0xF0014
abbrev MEM_SRAM_PASSES_COUNT : Field := ⟨MEM_SRAM_PASSES, 0, 32⟩
abbrev MEM_RETRAIN : Nat := 0xF0018
abbrev MEM_RETRAIN_PERIOD_S : Field := ⟨MEM_RETRAIN, 0, 12⟩
abbrev MEM_RETRAINS : Nat := 0xF001C
abbrev MEM_RETRAINS_COUNT : Field := ⟨MEM_RETRAINS, 0, 32⟩
abbrev MEM_RETRAIN_WAIT : Nat := 0xF0020
abbrev MEM_RETRAIN_WAIT_COUNT : Field := ⟨MEM_RETRAIN_WAIT, 0, 32⟩
abbrev MEM_RETRAIN_STAT : Nat := 0xF0024
abbrev MEM_RETRAIN_STAT_LAST : Field := ⟨MEM_RETRAIN_STAT, 0, 4⟩
abbrev MEM_RETRAIN_STAT_WAITING : Field := ⟨MEM_RETRAIN_STAT, 4, 1⟩
abbrev MEM_ROWPROT : Nat := 0xF0028
abbrev MEM_ROWPROT_ACT_LIMIT : Field := ⟨MEM_ROWPROT, 0, 16⟩
abbrev MEM_ROWPROT_SPACING : Field := ⟨MEM_ROWPROT, 16, 8⟩
abbrev MEM_NREFRESH : Nat := 0xF002C
abbrev MEM_NREFRESH_COUNT : Field := ⟨MEM_NREFRESH, 0, 32⟩
abbrev MEM_ROWPROT_LAST : Nat := 0xF0030
abbrev MEM_ROWPROT_LAST_PC : Field := ⟨MEM_ROWPROT_LAST, 0, 5⟩
abbrev MEM_ROWPROT_LAST_BANK : Field := ⟨MEM_ROWPROT_LAST, 5, 4⟩
abbrev MEM_ROWPROT_LAST_PORT : Field := ⟨MEM_ROWPROT_LAST, 9, 3⟩
abbrev MEM_ROWPROT_LAST_REQ : Field := ⟨MEM_ROWPROT_LAST, 12, 5⟩
abbrev MEM_P_GBS (n : Nat) : Nat := 0xF0040 + 4 * n
abbrev MEM_P_GBS_RATE (n : Nat) : Field := ⟨MEM_P_GBS n, 0, 16⟩
abbrev MEM_P_THROTTLES (n : Nat) : Nat := 0xF0060 + 4 * n
abbrev MEM_P_THROTTLES_COUNT (n : Nat) : Field := ⟨MEM_P_THROTTLES n, 0, 32⟩
abbrev MEM_CE (n : Nat) : Nat := 0xF0080 + 16 * n
abbrev MEM_CE_COUNT (n : Nat) : Field := ⟨MEM_CE n, 0, 32⟩
abbrev MEM_HARD (n : Nat) : Nat := 0xF0084 + 16 * n
abbrev MEM_HARD_COUNT (n : Nat) : Field := ⟨MEM_HARD n, 0, 32⟩
abbrev MEM_UE (n : Nat) : Nat := 0xF0088 + 16 * n
abbrev MEM_UE_COUNT (n : Nat) : Field := ⟨MEM_UE n, 0, 32⟩
abbrev MEM_CE_EVICT (n : Nat) : Nat := 0xF008C + 16 * n
abbrev MEM_CE_EVICT_COUNT (n : Nat) : Field := ⟨MEM_CE_EVICT n, 0, 32⟩
abbrev MEM_UE_LAST : Nat := 0xF00B0
abbrev MEM_UE_LAST_CLASS : Field := ⟨MEM_UE_LAST, 0, 2⟩
abbrev MEM_UE_LAST_CONTAINED : Field := ⟨MEM_UE_LAST, 2, 1⟩
abbrev MEM_UE_LAST_PORT : Field := ⟨MEM_UE_LAST, 3, 3⟩
abbrev MEM_UE_ADDR : Nat := 0xF00B4
abbrev MEM_UE_ADDR_ADDR : Field := ⟨MEM_UE_ADDR, 0, 32⟩
abbrev MEM_REMAP : Nat := 0xF00B8
abbrev MEM_REMAP_HBM_USED : Field := ⟨MEM_REMAP, 0, 7⟩
abbrev MEM_REMAP_HBM_FULL : Field := ⟨MEM_REMAP, 7, 1⟩
abbrev MEM_REMAP_SRAM_USED : Field := ⟨MEM_REMAP, 16, 12⟩
abbrev MEM_REMAP_SRAM_FULL : Field := ⟨MEM_REMAP, 28, 1⟩
-- TEST
abbrev TEST_CTRL : Nat := 0x100000
abbrev TEST_CTRL_ENTER : Field := ⟨TEST_CTRL, 0, 1⟩
abbrev TEST_CTRL_LEAVE : Field := ⟨TEST_CTRL, 1, 1⟩
abbrev TEST_CTRL_BIST : Field := ⟨TEST_CTRL, 2, 1⟩
abbrev TEST_CTRL_JOURNAL : Field := ⟨TEST_CTRL, 3, 1⟩
abbrev TEST_STATE : Nat := 0x100004
abbrev TEST_STATE_TEST : Field := ⟨TEST_STATE, 0, 1⟩
abbrev TEST_STATE_BIST_BUSY : Field := ⟨TEST_STATE, 1, 1⟩
abbrev TEST_STATE_NO_PRINT : Field := ⟨TEST_STATE, 2, 1⟩
abbrev TEST_STATE_WIPE_BUSY : Field := ⟨TEST_STATE, 3, 1⟩
abbrev TEST_STATE_SCAN_OPEN : Field := ⟨TEST_STATE, 4, 1⟩
abbrev BIST_UNITS : Nat := 0x100008
abbrev BIST_UNITS_UNITS : Field := ⟨BIST_UNITS, 0, 11⟩
abbrev BIST_FAILED : Nat := 0x10000C
abbrev BIST_FAILED_UNITS : Field := ⟨BIST_FAILED, 0, 11⟩
abbrev BIST_LAST : Nat := 0x100010
abbrev BIST_LAST_UNIT : Field := ⟨BIST_LAST, 0, 4⟩
abbrev BIST_LAST_INDEX : Field := ⟨BIST_LAST, 4, 9⟩
abbrev BIST_SIG : Nat := 0x100014
abbrev BIST_SIG_SIG : Field := ⟨BIST_SIG, 0, 32⟩
abbrev BIST_RUNS : Nat := 0x100018
abbrev BIST_RUNS_COUNT : Field := ⟨BIST_RUNS, 0, 32⟩
abbrev BIST_FAILS : Nat := 0x10001C
abbrev BIST_FAILS_COUNT : Field := ⟨BIST_FAILS, 0, 32⟩
abbrev SLICE_CFG : Nat := 0x100020
abbrev SLICE_CFG_DX_S : Field := ⟨SLICE_CFG, 0, 8⟩
abbrev SLICE_CFG_CX_S : Field := ⟨SLICE_CFG, 8, 8⟩
abbrev SLICE_CFG_CP_S : Field := ⟨SLICE_CFG, 16, 8⟩
abbrev SLICES : Nat := 0x100024
abbrev SLICES_COUNT : Field := ⟨SLICES, 0, 32⟩
abbrev HL_LB (n : Nat) : Nat := 0x100100 + 16 * n
abbrev HL_LB_DEPTH (n : Nat) : Field := ⟨HL_LB n, 0, 3⟩
abbrev HL_LB_BITS (n : Nat) : Nat := 0x100104 + 16 * n
abbrev HL_LB_BITS_MBITS (n : Nat) : Field := ⟨HL_LB_BITS n, 0, 32⟩
abbrev HL_LB_ERR (n : Nat) : Nat := 0x100108 + 16 * n
abbrev HL_LB_ERR_COUNT (n : Nat) : Field := ⟨HL_LB_ERR n, 0, 32⟩
abbrev CL_LB (n : Nat) : Nat := 0x100200 + 16 * n
abbrev CL_LB_DEPTH (n : Nat) : Field := ⟨CL_LB n, 0, 2⟩
abbrev CL_LB_BITS (n : Nat) : Nat := 0x100204 + 16 * n
abbrev CL_LB_BITS_MBITS (n : Nat) : Field := ⟨CL_LB_BITS n, 0, 32⟩
abbrev CL_LB_ERR (n : Nat) : Nat := 0x100208 + 16 * n
abbrev CL_LB_ERR_COUNT (n : Nat) : Field := ⟨CL_LB_ERR n, 0, 32⟩
abbrev MFP_LB : Nat := 0x100300
abbrev MFP_LB_DRIVE : Field := ⟨MFP_LB, 0, 4⟩
abbrev MFP_LB_SENSE : Field := ⟨MFP_LB, 4, 4⟩
abbrev MFP_LB_EN : Field := ⟨MFP_LB, 8, 1⟩
abbrev MFP_LB_ERR : Nat := 0x100304
abbrev MFP_LB_ERR_READBACK : Field := ⟨MFP_LB_ERR, 0, 16⟩
abbrev MFP_LB_ERR_PAIR : Field := ⟨MFP_LB_ERR, 16, 16⟩
abbrev LIFE_STATUS : Nat := 0x100400
abbrev LIFE_STATUS_FRESH : Field := ⟨LIFE_STATUS, 0, 1⟩
abbrev LIFE_STATUS_FOREIGN : Field := ⟨LIFE_STATUS, 1, 1⟩
abbrev LIFE_STATUS_HELD : Field := ⟨LIFE_STATUS, 2, 1⟩
abbrev LIFE_POS : Nat := 0x100404
abbrev LIFE_POS_SLOT : Field := ⟨LIFE_POS, 0, 13⟩
abbrev LIFE_GEN : Nat := 0x100408
abbrev LIFE_GEN_GEN : Field := ⟨LIFE_GEN, 0, 32⟩
abbrev LIFE_RECORDS : Nat := 0x10040C
abbrev LIFE_RECORDS_COUNT : Field := ⟨LIFE_RECORDS, 0, 32⟩
-- SPAN
abbrev SPAN_ID (n : Nat) : Nat := 0x1000000 + 64 * n
abbrev SPAN_ID_NUM (n : Nat) : Field := ⟨SPAN_ID n, 0, 12⟩
abbrev SPAN_ID_GROUP (n : Nat) : Field := ⟨SPAN_ID n, 12, 1⟩
abbrev SPAN_ID_MIRROR (n : Nat) : Field := ⟨SPAN_ID n, 13, 1⟩
abbrev SPAN_ID_LEVEL (n : Nat) : Field := ⟨SPAN_ID n, 14, 3⟩
abbrev SPAN_ID_MEMBERS (n : Nat) : Field := ⟨SPAN_ID n, 17, 6⟩
abbrev SPAN_UP (n : Nat) : Nat := 0x1000004 + 64 * n
abbrev SPAN_UP_PARENT (n : Nat) : Field := ⟨SPAN_UP n, 0, 16⟩
abbrev SPAN_UP_FIRST_CHILD (n : Nat) : Field := ⟨SPAN_UP n, 16, 16⟩
abbrev SPAN_SIDE (n : Nat) : Nat := 0x1000008 + 64 * n
abbrev SPAN_SIDE_NEXT_SIBLING (n : Nat) : Field := ⟨SPAN_SIDE n, 0, 16⟩
abbrev SPAN_SIDE_CHANNEL (n : Nat) : Field := ⟨SPAN_SIDE n, 16, 16⟩
abbrev CTRL_SET (n : Nat) : Nat := 0x100000C + 64 * n
abbrev CTRL_SET_SET (n : Nat) : Field := ⟨CTRL_SET n, 0, 16⟩
abbrev CTRL_CLR (n : Nat) : Nat := 0x1000010 + 64 * n
abbrev CTRL_CLR_CLR (n : Nat) : Field := ⟨CTRL_CLR n, 0, 16⟩
abbrev CTRL_ALL (n : Nat) : Nat := 0x1000014 + 64 * n
abbrev CTRL_ALL_ALL (n : Nat) : Field := ⟨CTRL_ALL n, 0, 16⟩
abbrev CTRL_ANY (n : Nat) : Nat := 0x1000018 + 64 * n
abbrev CTRL_ANY_ANY (n : Nat) : Field := ⟨CTRL_ANY n, 0, 16⟩
abbrev STATUS_NOW (n : Nat) : Nat := 0x100001C + 64 * n
abbrev STATUS_NOW_NOW (n : Nat) : Field := ⟨STATUS_NOW n, 0, 10⟩
abbrev STATUS_STICKY (n : Nat) : Nat := 0x1000020 + 64 * n
abbrev STATUS_STICKY_STICKY (n : Nat) : Field := ⟨STATUS_STICKY n, 0, 10⟩
abbrev SNAP (n : Nat) : Nat := 0x1000024 + 64 * n
abbrev SNAP_SNAP (n : Nat) : Field := ⟨SNAP n, 0, 32⟩
abbrev NOZZLES (n : Nat) : Nat := 0x1000028 + 64 * n
abbrev NOZZLES_NOZZLES (n : Nat) : Field := ⟨NOZZLES n, 0, 32⟩
abbrev MENDED (n : Nat) : Nat := 0x100002C + 64 * n
abbrev MENDED_MENDED (n : Nat) : Field := ⟨MENDED n, 0, 32⟩
abbrev LINES_LO (n : Nat) : Nat := 0x1000030 + 64 * n
abbrev LINES_LO_LINES (n : Nat) : Field := ⟨LINES_LO n, 0, 32⟩
abbrev LINES_HI (n : Nat) : Nat := 0x1000034 + 64 * n
abbrev LINES_HI_LINES (n : Nat) : Field := ⟨LINES_HI n, 0, 32⟩
abbrev DROPS_LO (n : Nat) : Nat := 0x1000038 + 64 * n
abbrev DROPS_LO_DROPS (n : Nat) : Field := ⟨DROPS_LO n, 0, 32⟩
abbrev DROPS_HI (n : Nat) : Nat := 0x100003C + 64 * n
abbrev DROPS_HI_DROPS (n : Nat) : Field := ⟨DROPS_HI n, 0, 32⟩

end R

/-- Registers of block SYS (R108). -/
def famsSYS0 : List Fam :=
  [⟨0x0, [], [⟨0, 3, .ro, 0x0⟩]⟩,
   ⟨0x4, [], [⟨0, 4, .ro, 0x0⟩, ⟨4, 1, .ro, 0x0⟩, ⟨5, 1, .ro, 0x0⟩, ⟨6, 1, .ro, 0x0⟩, ⟨7, 1, .ro, 0x0⟩, ⟨8, 1, .ro, 0x0⟩, ⟨9, 1, .ro, 0x0⟩, ⟨10, 2, .ro, 0x0⟩]⟩,
   ⟨0x8, [], [⟨0, 32, .ro, 0x0⟩]⟩,
   ⟨0xC, [], [⟨0, 32, .ro, 0x0⟩]⟩,
   ⟨0x10, [], [⟨0, 1, .rw, 0x1⟩, ⟨1, 1, .wo, 0x0⟩, ⟨2, 1, .wo, 0x0⟩, ⟨3, 1, .ro, 0x0⟩]⟩,
   ⟨0x14, [], [⟨0, 16, .rw, 0x3E8⟩]⟩,
   ⟨0x18, [], [⟨0, 4, .rw, 0x0⟩, ⟨4, 1, .rw, 0x0⟩, ⟨5, 1, .rw, 0x0⟩]⟩,
   ⟨0x1C, [], [⟨0, 16, .rw, 0x100⟩]⟩,
   ⟨0x20, [], [⟨0, 32, .rw, 0x0⟩]⟩,
   ⟨0x24, [], [⟨0, 32, .ro, 0x0⟩]⟩,
   ⟨0x28, [], [⟨0, 2, .ro, 0x0⟩, ⟨2, 4, .ro, 0x0⟩]⟩,
   ⟨0x2C, [], [⟨0, 1, .w1c, 0x0⟩]⟩,
   ⟨0x100, [(4, 16)], [⟨0, 32, .rw, 0x0⟩]⟩,
   ⟨0x104, [(4, 16)], [⟨0, 16, .rw, 0x0⟩, ⟨16, 3, .rw, 0x7⟩, ⟨19, 1, .rw, 0x0⟩]⟩,
   ⟨0x108, [(4, 16)], [⟨0, 17, .rw, 0x1FFFF⟩]⟩,
   ⟨0x10C, [(4, 16)], [⟨0, 11, .ro, 0x0⟩]⟩,
   ⟨0x140, [], [⟨0, 16, .rw, 0x1E⟩]⟩,
   ⟨0x144, [], [⟨0, 32, .ro, 0x0⟩]⟩,
   ⟨0x148, [], [⟨0, 32, .ro, 0x0⟩]⟩,
   ⟨0x14C, [], [⟨0, 32, .ro, 0x0⟩]⟩,
   ⟨0x150, [], [⟨0, 32, .ro, 0x0⟩]⟩,
   ⟨0x154, [], [⟨0, 32, .ro, 0x0⟩]⟩,
   ⟨0x158, [], [⟨0, 32, .ro, 0x0⟩]⟩,
   ⟨0x15C, [], [⟨0, 1, .rw, 0x1⟩, ⟨1, 1, .rw, 0x1⟩, ⟨2, 1, .rw, 0x0⟩]⟩]

/-- Registers of block SYS (R108). -/
def famsSYS1 : List Fam :=
  [⟨0x160, [], [⟨0, 17, .w1c, 0x0⟩]⟩,
   ⟨0x170, [], [⟨0, 2, .rw, 0x0⟩, ⟨2, 4, .rw, 0x0⟩]⟩,
   ⟨0x174, [], [⟨0, 32, .rw, 0x0⟩]⟩,
   ⟨0x180, [(15, 8)], [⟨0, 32, .rw, 0x0⟩]⟩,
   ⟨0x184, [(15, 8)], [⟨0, 12, .rw, 0x0⟩, ⟨12, 12, .rw, 0x0⟩, ⟨24, 1, .ro, 0x0⟩]⟩]

def famsSYS : List Fam := famsSYS0 ++ famsSYS1

/-- Registers of block THERM (R108). -/
def famsTHERM0 : List Fam :=
  [⟨0x10000, [(16, 4)], [⟨0, 16, .ro, 0x0⟩]⟩,
   ⟨0x10040, [], [⟨0, 16, .ro, 0x0⟩]⟩,
   ⟨0x10044, [], [⟨0, 16, .ro, 0x0⟩, ⟨16, 5, .ro, 0x0⟩, ⟨21, 10, .ro, 0x0⟩]⟩,
   ⟨0x10048, [], [⟨0, 1, .ro, 0x0⟩, ⟨1, 1, .ro, 0x0⟩, ⟨2, 1, .ro, 0x0⟩, ⟨3, 1, .ro, 0x0⟩, ⟨4, 1, .ro, 0x0⟩, ⟨5, 1, .ro, 0x0⟩]⟩,
   ⟨0x1004C, [], [⟨0, 2, .ro, 0x0⟩, ⟨2, 4, .ro, 0x0⟩, ⟨6, 16, .ro, 0x0⟩]⟩,
   ⟨0x10050, [], [⟨0, 8, .ro, 0x0⟩, ⟨8, 8, .ro, 0x0⟩, ⟨16, 16, .ro, 0x0⟩]⟩,
   ⟨0x10054, [], [⟨0, 32, .ro, 0x0⟩]⟩,
   ⟨0x10080, [(16, 4)], [⟨0, 8, .rw, 0xBE⟩, ⟨8, 8, .rw, 0xC8⟩]⟩,
   ⟨0x100C0, [], [⟨0, 8, .ro, 0xFF⟩, ⟨8, 9, .ro, 0x0⟩, ⟨17, 1, .ro, 0x0⟩]⟩,
   ⟨0x10100, [], [⟨0, 12, .rw, 0x7D0⟩]⟩,
   ⟨0x10104, [], [⟨0, 1, .ro, 0x0⟩, ⟨1, 1, .ro, 0x0⟩, ⟨2, 1, .ro, 0x0⟩, ⟨3, 1, .ro, 0x0⟩]⟩,
   ⟨0x10108, [], [⟨0, 24, .ro, 0x0⟩]⟩,
   ⟨0x1010C, [], [⟨0, 16, .ro, 0x0⟩, ⟨16, 16, .ro, 0x0⟩]⟩,
   ⟨0x10120, [(8, 4)], [⟨0, 32, .ro, 0x0⟩]⟩,
   ⟨0x10140, [], [⟨0, 16, .rw, 0x3E8⟩]⟩,
   ⟨0x10144, [], [⟨0, 5, .ro, 0x10⟩, ⟨8, 7, .ro, 0x40⟩]⟩,
   ⟨0x10148, [], [⟨0, 7, .ro, 0x0⟩, ⟨7, 1, .ro, 0x0⟩, ⟨8, 1, .ro, 0x0⟩, ⟨16, 16, .ro, 0x0⟩]⟩]

def famsTHERM : List Fam := famsTHERM0

/-- Registers of block NVM (R108). -/
def famsNVM0 : List Fam :=
  [⟨0x20000, [], [⟨0, 5, .ro, 0x0⟩, ⟨5, 1, .ro, 0x0⟩, ⟨6, 1, .ro, 0x0⟩, ⟨8, 8, .ro, 0x0⟩]⟩,
   ⟨0x20004, [], [⟨0, 1, .ro, 0x0⟩, ⟨1, 1, .ro, 0x0⟩, ⟨2, 1, .ro, 0x0⟩, ⟨3, 1, .ro, 0x0⟩, ⟨4, 1, .ro, 0x0⟩]⟩,
   ⟨0x20008, [], [⟨0, 32, .ro, 0x0⟩]⟩,
   ⟨0x2000C, [], [⟨0, 32, .ro, 0x0⟩]⟩,
   ⟨0x20010, [], [⟨0, 3, .ro, 0x0⟩, ⟨3, 1, .ro, 0x0⟩]⟩,
   ⟨0x20014, [], [⟨0, 1, .w1c, 0x0⟩, ⟨1, 1, .w1c, 0x0⟩, ⟨2, 1, .w1c, 0x0⟩, ⟨3, 1, .w1c, 0x0⟩, ⟨4, 1, .w1c, 0x0⟩, ⟨5, 1, .w1c, 0x0⟩, ⟨6, 1, .w1c, 0x0⟩, ⟨7, 1, .w1c, 0x0⟩]⟩,
   ⟨0x20018, [], [⟨0, 11, .rw, 0x78⟩]⟩,
   ⟨0x2001C, [], [⟨0, 32, .ro, 0x0⟩]⟩,
   ⟨0x20020, [], [⟨0, 24, .ro, 0x0⟩]⟩]

def famsNVM : List Fam := famsNVM0

/-- Registers of block PINS (R108). -/
def famsPINS0 : List Fam :=
  [⟨0x30000, [(16, 4)], [⟨0, 6, .rws, 0x0⟩, ⟨6, 2, .rw, 0x1⟩, ⟨8, 1, .rw, 0x0⟩, ⟨9, 2, .rw, 0x1⟩, ⟨11, 1, .rw, 0x0⟩, ⟨12, 1, .rw, 0x0⟩]⟩,
   ⟨0x30040, [], [⟨0, 16, .ro, 0x0⟩]⟩,
   ⟨0x30044, [], [⟨0, 1, .ro, 0x0⟩, ⟨1, 1, .ro, 0x1⟩]⟩,
   ⟨0x30048, [], [⟨0, 16, .ro, 0x0⟩, ⟨16, 16, .ro, 0x0⟩]⟩,
   ⟨0x3004C, [], [⟨0, 16, .ro, 0x0⟩]⟩,
   ⟨0x30050, [], [⟨0, 16, .ro, 0x0⟩]⟩,
   ⟨0x30054, [], [⟨0, 16, .ro, 0x0⟩]⟩,
   ⟨0x30058, [], [⟨0, 16, .rw, 0x11F8⟩]⟩,
   ⟨0x3005C, [], [⟨0, 1, .w1c, 0x0⟩, ⟨1, 1, .w1c, 0x0⟩, ⟨2, 1, .ro, 0x0⟩]⟩,
   ⟨0x30060, [], [⟨0, 16, .ro, 0x0⟩]⟩]

def famsPINS : List Fam := famsPINS0

/-- Registers of block POS (R108). -/
def famsPOS0 : List Fam :=
  [⟨0x40000, [(2, 128)], [⟨0, 2, .rws, 0x0⟩, ⟨2, 2, .rws, 0x0⟩, ⟨4, 3, .rws, 0x0⟩, ⟨7, 1, .rws, 0x0⟩, ⟨8, 1, .rws, 0x0⟩, ⟨9, 1, .rws, 0x0⟩, ⟨10, 1, .rws, 0x0⟩]⟩,
   ⟨0x40004, [(2, 128)], [⟨0, 8, .rw, 0x2⟩, ⟨8, 12, .rw, 0x32⟩, ⟨20, 12, .rw, 0xA⟩]⟩,
   ⟨0x40008, [(2, 128)], [⟨0, 32, .ro, 0x0⟩]⟩,
   ⟨0x4000C, [(2, 128)], [⟨0, 16, .ro, 0x0⟩]⟩,
   ⟨0x40010, [(2, 128)], [⟨0, 32, .ro, 0x0⟩]⟩,
   ⟨0x40014, [(2, 128)], [⟨0, 16, .ro, 0x0⟩]⟩,
   ⟨0x40018, [(2, 128)], [⟨0, 32, .rw, 0x0⟩]⟩,
   ⟨0x4001C, [(2, 128)], [⟨0, 16, .rw, 0x0⟩]⟩,
   ⟨0x40020, [(2, 128)], [⟨0, 1, .wo, 0x0⟩]⟩,
   ⟨0x40024, [(2, 128)], [⟨0, 1, .ro, 0x0⟩, ⟨1, 1, .ro, 0x0⟩, ⟨2, 1, .ro, 0x1⟩, ⟨3, 1, .ro, 0x0⟩, ⟨4, 1, .ro, 0x0⟩]⟩,
   ⟨0x40028, [(2, 128)], [⟨0, 32, .ro, 0x0⟩]⟩,
   ⟨0x4002C, [(2, 128)], [⟨0, 24, .rw, 0x0⟩]⟩,
   ⟨0x40030, [(2, 128)], [⟨0, 16, .rw, 0x8⟩]⟩,
   ⟨0x40034, [(2, 128)], [⟨0, 32, .ro, 0x0⟩]⟩,
   ⟨0x40038, [(2, 128)], [⟨0, 8, .ro, 0x0⟩, ⟨8, 8, .ro, 0x0⟩]⟩,
   ⟨0x4003C, [(2, 128)], [⟨0, 32, .ro, 0x0⟩]⟩,
   ⟨0x40040, [(2, 128)], [⟨0, 32, .ro, 0x0⟩]⟩,
   ⟨0x40044, [(2, 128)], [⟨0, 32, .ro, 0x0⟩]⟩,
   ⟨0x40048, [(2, 128)], [⟨0, 32, .ro, 0x0⟩]⟩,
   ⟨0x4004C, [(2, 128)], [⟨0, 32, .ro, 0x0⟩]⟩,
   ⟨0x40050, [(2, 128)], [⟨0, 32, .ro, 0x0⟩]⟩,
   ⟨0x40054, [(2, 128)], [⟨0, 16, .ro, 0x0⟩]⟩,
   ⟨0x40058, [(2, 128)], [⟨0, 24, .rw, 0x0⟩]⟩,
   ⟨0x40200, [(16, 64)], [⟨0, 1, .rws, 0x0⟩, ⟨1, 1, .rws, 0x0⟩, ⟨2, 1, .rws, 0x1⟩]⟩]

/-- Registers of block POS (R108). -/
def famsPOS1 : List Fam :=
  [⟨0x40204, [(16, 64)], [⟨0, 32, .rws, 0x0⟩]⟩,
   ⟨0x40208, [(16, 64)], [⟨0, 1, .rws, 0x0⟩]⟩,
   ⟨0x4020C, [(16, 64)], [⟨0, 32, .rws, 0x0⟩]⟩,
   ⟨0x40210, [(16, 64)], [⟨0, 1, .rws, 0x0⟩]⟩,
   ⟨0x40214, [(16, 64)], [⟨0, 16, .rw, 0x40⟩]⟩,
   ⟨0x40218, [(16, 64)], [⟨0, 32, .ro, 0x0⟩]⟩,
   ⟨0x4021C, [(16, 64)], [⟨0, 16, .ro, 0x0⟩]⟩,
   ⟨0x40220, [(16, 64)], [⟨0, 32, .ro, 0x0⟩]⟩,
   ⟨0x40224, [(16, 64)], [⟨0, 24, .ro, 0x0⟩]⟩,
   ⟨0x40228, [(16, 64)], [⟨0, 24, .ro, 0x0⟩]⟩,
   ⟨0x40600, [(4, 64)], [⟨0, 1, .rw, 0x0⟩, ⟨1, 2, .rw, 0x1⟩, ⟨3, 4, .rw, 0x0⟩, ⟨7, 4, .rw, 0x0⟩]⟩,
   ⟨0x40604, [(4, 64)], [⟨0, 20, .rw, 0x0⟩]⟩,
   ⟨0x40608, [(4, 64)], [⟨0, 32, .ro, 0x0⟩]⟩,
   ⟨0x4060C, [(4, 64)], [⟨0, 16, .ro, 0x0⟩]⟩,
   ⟨0x40610, [(4, 64)], [⟨0, 32, .ro, 0x0⟩]⟩,
   ⟨0x40614, [(4, 64)], [⟨0, 16, .ro, 0x0⟩]⟩,
   ⟨0x40618, [(4, 64)], [⟨0, 32, .ro, 0x0⟩]⟩,
   ⟨0x4061C, [(4, 64)], [⟨0, 16, .ro, 0x0⟩]⟩,
   ⟨0x40620, [(4, 64)], [⟨0, 24, .ro, 0x0⟩]⟩,
   ⟨0x40624, [(4, 64)], [⟨0, 32, .ro, 0x0⟩]⟩,
   ⟨0x40628, [(4, 64)], [⟨0, 32, .ro, 0x0⟩]⟩,
   ⟨0x4062C, [(4, 64)], [⟨0, 32, .ro, 0x0⟩]⟩,
   ⟨0x40630, [(4, 64)], [⟨0, 32, .ro, 0x0⟩]⟩,
   ⟨0x41000, [(64, 32)], [⟨0, 1, .rw, 0x0⟩, ⟨1, 4, .rw, 0x0⟩, ⟨5, 1, .rw, 0x0⟩, ⟨6, 1, .rw, 0x0⟩, ⟨8, 8, .rw, 0x0⟩, ⟨16, 16, .rw, 0x0⟩]⟩]

/-- Registers of block POS (R108). -/
def famsPOS2 : List Fam :=
  [⟨0x41004, [(64, 32)], [⟨0, 32, .rw, 0x0⟩]⟩,
   ⟨0x41008, [(64, 32)], [⟨0, 16, .rw, 0x0⟩]⟩,
   ⟨0x4100C, [(64, 32)], [⟨0, 32, .rw, 0x0⟩]⟩,
   ⟨0x41010, [(64, 32)], [⟨0, 1, .wo, 0x0⟩, ⟨1, 1, .wo, 0x0⟩]⟩,
   ⟨0x41014, [(64, 32)], [⟨0, 1, .ro, 0x0⟩, ⟨1, 1, .ro, 0x0⟩, ⟨2, 1, .ro, 0x0⟩, ⟨3, 1, .ro, 0x0⟩, ⟨4, 1, .ro, 0x0⟩, ⟨16, 16, .ro, 0x0⟩]⟩,
   ⟨0x41018, [(64, 32)], [⟨0, 32, .ro, 0x0⟩]⟩,
   ⟨0x4101C, [(64, 32)], [⟨0, 32, .ro, 0x0⟩]⟩,
   ⟨0x41800, [], [⟨0, 5, .rw, 0x8⟩]⟩,
   ⟨0x41804, [], [⟨0, 32, .ro, 0x0⟩]⟩,
   ⟨0x41900, [(2, 32)], [⟨0, 1, .rw, 0x0⟩, ⟨1, 2, .rws, 0x0⟩, ⟨3, 1, .rws, 0x0⟩, ⟨4, 1, .rws, 0x0⟩, ⟨5, 8, .rw, 0x14⟩]⟩,
   ⟨0x41904, [(2, 32)], [⟨0, 16, .rws, 0x1⟩, ⟨16, 16, .rws, 0x1⟩]⟩,
   ⟨0x41908, [(2, 32)], [⟨0, 16, .rws, 0x1⟩, ⟨16, 16, .rws, 0x1⟩]⟩,
   ⟨0x4190C, [(2, 32)], [⟨0, 32, .ro, 0x0⟩]⟩,
   ⟨0x41910, [(2, 32)], [⟨0, 32, .ro, 0x0⟩]⟩]

def famsPOS : List Fam := famsPOS0 ++ famsPOS1 ++ famsPOS2

/-- Registers of block BARS (R108). -/
def famsBARS0 : List Fam :=
  [⟨0x50000, [(16, 64)], [⟨0, 6, .rws, 0x0⟩, ⟨6, 1, .rws, 0x0⟩, ⟨8, 4, .rws, 0x0⟩]⟩,
   ⟨0x50004, [(16, 64)], [⟨0, 16, .rws, 0x0⟩, ⟨16, 12, .rws, 0x0⟩]⟩,
   ⟨0x50008, [(16, 64)], [⟨0, 13, .rw, 0x0⟩]⟩,
   ⟨0x5000C, [(16, 64)], [⟨0, 32, .rws, 0x100000⟩]⟩,
   ⟨0x50010, [(16, 64)], [⟨0, 18, .rws, 0x30D40⟩]⟩,
   ⟨0x50014, [(16, 64)], [⟨0, 16, .rw, 0x40⟩]⟩,
   ⟨0x50018, [(16, 64)], [⟨0, 32, .ro, 0x0⟩]⟩,
   ⟨0x5001C, [(16, 64)], [⟨0, 16, .ro, 0x0⟩]⟩,
   ⟨0x50020, [(16, 64)], [⟨0, 32, .ro, 0x0⟩]⟩,
   ⟨0x50024, [(16, 64)], [⟨0, 1, .ro, 0x0⟩, ⟨1, 1, .ro, 0x0⟩, ⟨2, 1, .ro, 0x0⟩, ⟨3, 1, .ro, 0x0⟩, ⟨4, 1, .ro, 0x0⟩, ⟨5, 1, .ro, 0x0⟩, ⟨6, 1, .w1c, 0x0⟩]⟩,
   ⟨0x50028, [(16, 64)], [⟨0, 16, .ro, 0x0⟩]⟩,
   ⟨0x5002C, [(16, 64)], [⟨0, 32, .ro, 0x0⟩]⟩,
   ⟨0x50030, [(16, 64)], [⟨0, 32, .ro, 0x0⟩]⟩,
   ⟨0x50034, [(16, 64)], [⟨0, 32, .ro, 0x0⟩]⟩,
   ⟨0x50038, [(16, 64)], [⟨0, 32, .ro, 0x0⟩]⟩,
   ⟨0x5003C, [(16, 64)], [⟨0, 32, .ro, 0x0⟩]⟩,
   ⟨0x51000, [], [⟨0, 8, .rw, 0x40⟩]⟩,
   ⟨0x51004, [], [⟨0, 20, .rw, 0x2710⟩]⟩,
   ⟨0x51008, [], [⟨0, 1, .rw, 0x0⟩, ⟨8, 8, .rw, 0x14⟩]⟩,
   ⟨0x5100C, [], [⟨0, 10, .rw, 0x3E8⟩]⟩,
   ⟨0x51010, [], [⟨0, 10, .ro, 0x3E8⟩, ⟨12, 3, .ro, 0x0⟩]⟩,
   ⟨0x51014, [], [⟨0, 4, .rw, 0x0⟩, ⟨4, 1, .rw, 0x0⟩, ⟨8, 8, .rw, 0x14⟩]⟩,
   ⟨0x51018, [], [⟨0, 16, .rw, 0x190⟩]⟩,
   ⟨0x5101C, [], [⟨0, 16, .rws, 0x0⟩, ⟨16, 4, .rws, 0x0⟩]⟩]

/-- Registers of block BARS (R108). -/
def famsBARS1 : List Fam :=
  [⟨0x51020, [], [⟨0, 32, .ro, 0x0⟩]⟩,
   ⟨0x51024, [], [⟨0, 16, .ro, 0x0⟩]⟩,
   ⟨0x51028, [], [⟨0, 32, .ro, 0x0⟩]⟩,
   ⟨0x5102C, [], [⟨0, 1, .wo, 0x0⟩, ⟨1, 1, .wo, 0x0⟩]⟩,
   ⟨0x51030, [], [⟨0, 24, .rw, 0x7D0⟩]⟩,
   ⟨0x51034, [], [⟨0, 4, .ro, 0x0⟩, ⟨4, 4, .ro, 0x0⟩]⟩,
   ⟨0x51100, [(16, 8)], [⟨0, 32, .ro, 0x0⟩]⟩,
   ⟨0x51104, [(16, 8)], [⟨0, 32, .ro, 0x0⟩]⟩,
   ⟨0x52000, [(512, 4)], [⟨0, 10, .rw, 0x0⟩]⟩]

def famsBARS : List Fam := famsBARS0 ++ famsBARS1

/-- Registers of block SEQ (R108). -/
def famsSEQ0 : List Fam :=
  [⟨0x60000, [], [⟨0, 1, .rw, 0x0⟩, ⟨1, 1, .rw, 0x1⟩, ⟨2, 4, .rw, 0x4⟩]⟩,
   ⟨0x60004, [], [⟨0, 8, .rw, 0xA⟩, ⟨8, 4, .rw, 0x3⟩, ⟨12, 8, .rw, 0x18⟩, ⟨20, 8, .rw, 0x10⟩]⟩,
   ⟨0x60008, [], [⟨0, 1, .wo, 0x0⟩, ⟨1, 1, .wo, 0x0⟩, ⟨2, 1, .wo, 0x0⟩]⟩,
   ⟨0x6000C, [], [⟨0, 3, .ro, 0x0⟩, ⟨3, 3, .ro, 0x0⟩, ⟨6, 1, .ro, 0x0⟩, ⟨7, 1, .ro, 0x0⟩, ⟨8, 1, .ro, 0x0⟩, ⟨9, 1, .ro, 0x0⟩, ⟨10, 1, .ro, 0x0⟩, ⟨11, 16, .ro, 0x0⟩]⟩,
   ⟨0x60010, [], [⟨0, 32, .ro, 0x0⟩]⟩,
   ⟨0x60014, [], [⟨0, 32, .ro, 0x0⟩]⟩,
   ⟨0x60018, [], [⟨0, 32, .ro, 0x0⟩]⟩,
   ⟨0x6001C, [], [⟨0, 32, .ro, 0x0⟩]⟩,
   ⟨0x60020, [], [⟨0, 32, .ro, 0x0⟩]⟩,
   ⟨0x60024, [], [⟨0, 32, .ro, 0x0⟩]⟩,
   ⟨0x60028, [], [⟨0, 32, .ro, 0x0⟩]⟩,
   ⟨0x6002C, [], [⟨0, 4, .ro, 0x0⟩, ⟨4, 4, .ro, 0x0⟩, ⟨8, 4, .ro, 0x0⟩, ⟨12, 20, .ro, 0x0⟩]⟩,
   ⟨0x60100, [(2, 64)], [⟨0, 1, .ro, 0x0⟩, ⟨1, 1, .ro, 0x0⟩, ⟨2, 1, .ro, 0x0⟩, ⟨3, 3, .ro, 0x0⟩, ⟨6, 2, .ro, 0x0⟩, ⟨8, 8, .ro, 0x0⟩]⟩,
   ⟨0x60104, [(2, 64)], [⟨0, 32, .ro, 0x0⟩]⟩,
   ⟨0x60108, [(2, 64)], [⟨0, 32, .ro, 0x0⟩]⟩,
   ⟨0x6010C, [(2, 64)], [⟨0, 13, .ro, 0x0⟩]⟩,
   ⟨0x60110, [(2, 64)], [⟨0, 32, .ro, 0x0⟩]⟩,
   ⟨0x60114, [(2, 64)], [⟨0, 32, .ro, 0x0⟩]⟩,
   ⟨0x60118, [(2, 64)], [⟨0, 32, .ro, 0x0⟩]⟩,
   ⟨0x6011C, [(2, 64)], [⟨0, 32, .ro, 0x0⟩]⟩]

def famsSEQ : List Fam := famsSEQ0

/-- Registers of block FORM (R108). -/
def famsFORM0 : List Fam :=
  [⟨0x70000, [(512, 32)], [⟨0, 1, .rw, 0x0⟩, ⟨1, 4, .rw, 0x0⟩, ⟨5, 6, .rw, 0x0⟩, ⟨11, 2, .rw, 0x2⟩, ⟨13, 3, .rw, 0x0⟩, ⟨16, 4, .rw, 0x0⟩]⟩,
   ⟨0x70004, [(512, 32)], [⟨0, 18, .rw, 0x0⟩, ⟨18, 7, .rw, 0x0⟩, ⟨25, 7, .rw, 0x0⟩]⟩,
   ⟨0x70008, [(512, 32), (4, 4)], [⟨0, 16, .rw, 0x0⟩, ⟨16, 16, .rw, 0x0⟩]⟩,
   ⟨0x70018, [(512, 32)], [⟨0, 20, .ro, 0x0⟩]⟩,
   ⟨0x74000, [(16, 16)], [⟨0, 1, .rw, 0x0⟩, ⟨1, 4, .rw, 0x0⟩, ⟨5, 1, .rw, 0x0⟩]⟩,
   ⟨0x74004, [(16, 16)], [⟨0, 5, .rws, 0x0⟩]⟩,
   ⟨0x74008, [(16, 16)], [⟨0, 16, .rw, 0x100⟩]⟩,
   ⟨0x7400C, [(16, 16)], [⟨0, 16, .rw, 0x400⟩, ⟨16, 16, .rw, 0x0⟩]⟩,
   ⟨0x74100, [(16, 4)], [⟨0, 8, .rw, 0xFF⟩, ⟨8, 8, .rw, 0xFF⟩, ⟨16, 1, .rw, 0x0⟩]⟩,
   ⟨0x74140, [(16, 8)], [⟨0, 20, .rw, 0x0⟩]⟩,
   ⟨0x74144, [(16, 8)], [⟨0, 21, .rw, 0x0⟩]⟩,
   ⟨0x74200, [], [⟨0, 16, .ro, 0x0⟩, ⟨16, 16, .ro, 0x0⟩]⟩,
   ⟨0x74204, [], [⟨0, 16, .ro, 0x0⟩]⟩,
   ⟨0x74300, [(16, 32)], [⟨0, 32, .rw, 0x0⟩]⟩,
   ⟨0x74304, [(16, 32)], [⟨0, 16, .rw, 0x1⟩]⟩,
   ⟨0x74308, [(16, 32)], [⟨0, 32, .rw, 0x0⟩]⟩,
   ⟨0x7430C, [(16, 32)], [⟨0, 32, .rw, 0xFFFFFFFF⟩]⟩,
   ⟨0x74310, [(16, 32)], [⟨0, 4, .rw, 0x6⟩, ⟨4, 1, .rw, 0x0⟩]⟩,
   ⟨0x74600, [(16, 32), (8, 4)], [⟨0, 32, .rw, 0x0⟩]⟩,
   ⟨0x74800, [(8, 8)], [⟨0, 11, .rw, 0x0⟩, ⟨11, 1, .rw, 0x0⟩]⟩,
   ⟨0x74804, [(8, 8)], [⟨0, 32, .rw, 0x0⟩]⟩,
   ⟨0x74840, [], [⟨0, 12, .rw, 0x0⟩]⟩,
   ⟨0x74844, [], [⟨0, 16, .rw, 0x100⟩]⟩,
   ⟨0x74900, [(4, 32)], [⟨0, 32, .ro, 0x0⟩]⟩]

/-- Registers of block FORM (R108). -/
def famsFORM1 : List Fam :=
  [⟨0x74904, [(4, 32)], [⟨0, 8, .ro, 0x0⟩]⟩,
   ⟨0x74908, [(4, 32)], [⟨0, 32, .rw, 0x0⟩]⟩,
   ⟨0x7490C, [(4, 32)], [⟨0, 8, .rw, 0x0⟩]⟩,
   ⟨0x74910, [(4, 32)], [⟨0, 1, .ro, 0x0⟩, ⟨1, 1, .ro, 0x0⟩, ⟨2, 1, .ro, 0x0⟩, ⟨8, 6, .ro, 0x0⟩]⟩,
   ⟨0x74914, [(4, 32)], [⟨0, 24, .ro, 0x0⟩]⟩,
   ⟨0x74918, [(4, 32)], [⟨0, 24, .ro, 0x0⟩]⟩,
   ⟨0x74A00, [], [⟨0, 32, .ro, 0x0⟩]⟩,
   ⟨0x74A04, [], [⟨0, 32, .ro, 0x0⟩]⟩,
   ⟨0x74A08, [], [⟨0, 32, .ro, 0x0⟩]⟩,
   ⟨0x74A0C, [], [⟨0, 8, .ro, 0x0⟩, ⟨8, 8, .ro, 0x0⟩]⟩,
   ⟨0x74A10, [], [⟨0, 32, .ro, 0x0⟩]⟩,
   ⟨0x74A14, [], [⟨0, 32, .ro, 0x0⟩]⟩]

def famsFORM : List Fam := famsFORM0 ++ famsFORM1

/-- Registers of block DARN (R108). -/
def famsDARN0 : List Fam :=
  [⟨0x80000, [(4, 64)], [⟨0, 1, .rw, 0x0⟩, ⟨1, 16, .rw, 0x0⟩, ⟨17, 1, .rw, 0x0⟩, ⟨18, 1, .rw, 0x1⟩, ⟨19, 1, .rw, 0x0⟩]⟩,
   ⟨0x80004, [(4, 64)], [⟨0, 12, .rw, 0x7D0⟩, ⟨12, 10, .rw, 0x258⟩, ⟨22, 10, .rw, 0x64⟩]⟩,
   ⟨0x80008, [(4, 64)], [⟨0, 7, .rw, 0x3C⟩, ⟨7, 7, .rw, 0x19⟩, ⟨14, 8, .rw, 0x14⟩, ⟨22, 3, .rw, 0x2⟩, ⟨25, 3, .rw, 0x0⟩, ⟨28, 4, .rw, 0x4⟩]⟩,
   ⟨0x8000C, [(4, 64)], [⟨0, 12, .ro, 0x800⟩, ⟨12, 8, .ro, 0x10⟩]⟩,
   ⟨0x80010, [(4, 64)], [⟨0, 12, .ro, 0x0⟩, ⟨12, 12, .ro, 0x0⟩]⟩,
   ⟨0x80014, [(4, 64)], [⟨0, 12, .ro, 0x0⟩]⟩,
   ⟨0x80018, [(4, 64)], [⟨0, 3, .ro, 0x0⟩, ⟨3, 1, .ro, 0x0⟩, ⟨4, 4, .ro, 0x0⟩]⟩,
   ⟨0x8001C, [(4, 64)], [⟨0, 20, .ro, 0x0⟩, ⟨20, 3, .ro, 0x0⟩]⟩,
   ⟨0x80020, [(4, 64)], [⟨0, 12, .ro, 0x0⟩, ⟨12, 12, .ro, 0x0⟩]⟩,
   ⟨0x80024, [(4, 64)], [⟨0, 20, .rw, 0x0⟩]⟩,
   ⟨0x80028, [(4, 64)], [⟨0, 32, .ro, 0x0⟩]⟩,
   ⟨0x8002C, [(4, 64)], [⟨0, 32, .ro, 0x0⟩]⟩,
   ⟨0x80030, [(4, 64)], [⟨0, 32, .ro, 0x0⟩]⟩,
   ⟨0x80100, [], [⟨0, 12, .rw, 0xE00⟩, ⟨12, 12, .rw, 0x4B0⟩]⟩,
   ⟨0x80400, [(16, 32)], [⟨0, 1, .rw, 0x0⟩, ⟨1, 1, .rw, 0x0⟩, ⟨2, 4, .rw, 0x2⟩, ⟨6, 4, .rw, 0x0⟩, ⟨10, 3, .rw, 0x1⟩, ⟨13, 8, .rw, 0x10⟩]⟩,
   ⟨0x80404, [(16, 32)], [⟨0, 24, .rw, 0x0⟩]⟩,
   ⟨0x80408, [(16, 32)], [⟨0, 16, .rw, 0x7D0⟩, ⟨16, 8, .rw, 0x20⟩]⟩,
   ⟨0x8040C, [(16, 32)], [⟨0, 16, .rw, 0x3C⟩, ⟨16, 16, .rw, 0x2710⟩]⟩,
   ⟨0x80410, [(16, 32)], [⟨0, 1, .rw, 0x0⟩, ⟨1, 4, .rw, 0x0⟩, ⟨5, 1, .rw, 0x1⟩, ⟨6, 4, .rw, 0x8⟩, ⟨10, 1, .rw, 0x0⟩, ⟨11, 4, .rw, 0x0⟩, ⟨15, 4, .rw, 0x4⟩]⟩,
   ⟨0x80414, [(16, 32)], [⟨0, 1, .ro, 0x0⟩, ⟨1, 1, .ro, 0x0⟩, ⟨2, 1, .ro, 0x0⟩]⟩,
   ⟨0x80418, [(16, 32)], [⟨0, 32, .ro, 0x0⟩]⟩,
   ⟨0x80800, [], [⟨0, 20, .wo, 0x0⟩, ⟨20, 3, .wo, 0x0⟩]⟩,
   ⟨0x80804, [], [⟨0, 15, .ro, 0x0⟩, ⟨15, 1, .ro, 0x0⟩]⟩,
   ⟨0x80808, [], [⟨0, 32, .ro, 0x0⟩]⟩]

/-- Registers of block DARN (R108). -/
def famsDARN1 : List Fam :=
  [⟨0x8080C, [], [⟨0, 32, .ro, 0x0⟩]⟩,
   ⟨0x80810, [], [⟨0, 32, .ro, 0x0⟩]⟩,
   ⟨0x80814, [], [⟨0, 32, .ro, 0x0⟩]⟩,
   ⟨0x80818, [], [⟨0, 4, .rw, 0x3⟩, ⟨4, 8, .rw, 0xB3⟩, ⟨12, 8, .rw, 0x33⟩, ⟨20, 1, .rw, 0x1⟩]⟩,
   ⟨0x8081C, [], [⟨0, 32, .ro, 0x0⟩]⟩,
   ⟨0x80820, [], [⟨0, 32, .ro, 0x0⟩]⟩]

def famsDARN : List Fam := famsDARN0 ++ famsDARN1

/-- Registers of block CAM (R108). -/
def famsCAM0 : List Fam :=
  [⟨0x90000, [(4, 512)], [⟨0, 1, .rw, 0x0⟩, ⟨1, 1, .rw, 0x0⟩, ⟨2, 2, .rw, 0x0⟩, ⟨4, 4, .rw, 0x0⟩, ⟨8, 4, .rw, 0x0⟩, ⟨12, 6, .rw, 0x2A⟩, ⟨18, 1, .rw, 0x0⟩]⟩,
   ⟨0x90004, [(4, 512)], [⟨0, 14, .rw, 0x0⟩, ⟨14, 16, .rw, 0x400⟩]⟩,
   ⟨0x90008, [(4, 512)], [⟨0, 12, .rw, 0x0⟩, ⟨12, 20, .rw, 0x0⟩]⟩,
   ⟨0x9000C, [(4, 512)], [⟨0, 32, .rw, 0x10000⟩]⟩,
   ⟨0x90010, [(4, 512)], [⟨0, 12, .rw, 0x0⟩, ⟨12, 1, .rw, 0x0⟩, ⟨13, 14, .rw, 0x0⟩, ⟨27, 5, .rw, 0x0⟩]⟩,
   ⟨0x90014, [(4, 512)], [⟨0, 1, .rw, 0x1⟩, ⟨1, 4, .rw, 0x6⟩, ⟨5, 16, .rw, 0x40⟩]⟩,
   ⟨0x90018, [(4, 512)], [⟨0, 14, .rw, 0x0⟩, ⟨14, 8, .rw, 0xF⟩, ⟨22, 2, .rw, 0x0⟩]⟩,
   ⟨0x9001C, [(4, 512)], [⟨0, 1, .rw, 0x0⟩, ⟨1, 15, .rw, 0x2710⟩, ⟨16, 12, .rw, 0x29⟩]⟩,
   ⟨0x90020, [(4, 512)], [⟨0, 1, .rw, 0x0⟩, ⟨1, 6, .rw, 0x3⟩]⟩,
   ⟨0x90024, [(4, 512)], [⟨0, 1, .rw, 0x0⟩, ⟨1, 14, .rw, 0x0⟩, ⟨15, 14, .rw, 0x0⟩]⟩,
   ⟨0x90028, [(4, 512)], [⟨0, 16, .rw, 0x0⟩, ⟨16, 16, .rw, 0x0⟩]⟩,
   ⟨0x9002C, [(4, 512)], [⟨0, 1, .rw, 0x0⟩, ⟨1, 4, .rw, 0x7⟩, ⟨5, 4, .rw, 0x7⟩]⟩,
   ⟨0x90030, [(4, 512)], [⟨0, 1, .rw, 0x0⟩, ⟨1, 16, .rw, 0x0⟩, ⟨17, 4, .rw, 0x4⟩, ⟨21, 2, .rw, 0x0⟩]⟩,
   ⟨0x90034, [(4, 512)], [⟨0, 10, .rw, 0x4D⟩, ⟨10, 9, .rw, 0xE6⟩]⟩,
   ⟨0x90038, [(4, 512)], [⟨0, 24, .rws, 0x3E8⟩]⟩,
   ⟨0x9003C, [(4, 512)], [⟨0, 16, .rws, 0x100⟩]⟩,
   ⟨0x90040, [(4, 512)], [⟨0, 4, .rw, 0x2⟩, ⟨4, 16, .rw, 0x3E8⟩]⟩,
   ⟨0x90044, [(4, 512)], [⟨0, 24, .rw, 0x1C200⟩]⟩,
   ⟨0x90048, [(4, 512)], [⟨0, 1, .rw, 0x0⟩, ⟨1, 8, .rw, 0x0⟩]⟩,
   ⟨0x9004C, [(4, 512)], [⟨0, 1, .wo, 0x0⟩]⟩,
   ⟨0x90050, [(4, 512)], [⟨0, 3, .ro, 0x0⟩, ⟨3, 1, .ro, 0x0⟩, ⟨4, 1, .ro, 0x0⟩, ⟨5, 8, .ro, 0x0⟩, ⟨13, 8, .ro, 0x0⟩, ⟨21, 1, .ro, 0x0⟩, ⟨22, 1, .ro, 0x0⟩]⟩,
   ⟨0x90054, [(4, 512)], [⟨0, 12, .ro, 0x0⟩, ⟨12, 12, .ro, 0x0⟩]⟩,
   ⟨0x90058, [(4, 512)], [⟨0, 16, .ro, 0x0⟩]⟩,
   ⟨0x9005C, [(4, 512)], [⟨0, 32, .ro, 0x0⟩]⟩]

/-- Registers of block CAM (R108). -/
def famsCAM1 : List Fam :=
  [⟨0x90060, [(4, 512)], [⟨0, 32, .ro, 0x0⟩]⟩,
   ⟨0x90064, [(4, 512)], [⟨0, 32, .ro, 0x0⟩]⟩,
   ⟨0x90068, [(4, 512)], [⟨0, 32, .ro, 0x0⟩]⟩,
   ⟨0x9006C, [(4, 512)], [⟨0, 32, .ro, 0x0⟩]⟩,
   ⟨0x90070, [(4, 512)], [⟨0, 32, .ro, 0x0⟩]⟩,
   ⟨0x90074, [(4, 512)], [⟨0, 32, .ro, 0x0⟩]⟩,
   ⟨0x90078, [(4, 512)], [⟨0, 32, .ro, 0x0⟩]⟩,
   ⟨0x9007C, [(4, 512)], [⟨0, 32, .ro, 0x0⟩]⟩,
   ⟨0x90080, [(4, 512)], [⟨0, 32, .ro, 0x0⟩]⟩,
   ⟨0x90100, [(4, 512), (16, 8)], [⟨0, 24, .rw, 0x0⟩]⟩,
   ⟨0x90104, [(4, 512), (16, 8)], [⟨0, 32, .rw, 0x0⟩]⟩,
   ⟨0x90800, [(4, 32)], [⟨0, 1, .rw, 0x0⟩, ⟨1, 14, .rw, 0x1388⟩]⟩,
   ⟨0x90804, [(4, 32)], [⟨0, 2, .ro, 0x0⟩, ⟨2, 8, .ro, 0x0⟩]⟩,
   ⟨0x90808, [(4, 32)], [⟨0, 32, .ro, 0x0⟩]⟩,
   ⟨0x9080C, [(4, 32)], [⟨0, 32, .ro, 0x0⟩]⟩,
   ⟨0x90810, [(4, 32)], [⟨0, 32, .ro, 0x0⟩]⟩,
   ⟨0x90814, [(4, 32)], [⟨0, 32, .ro, 0x0⟩]⟩,
   ⟨0x90818, [(4, 32)], [⟨0, 32, .ro, 0x0⟩]⟩,
   ⟨0x9081C, [(4, 32)], [⟨0, 32, .ro, 0x0⟩]⟩,
   ⟨0x90900, [], [⟨0, 32, .rw, 0x0⟩]⟩,
   ⟨0x90904, [], [⟨0, 16, .rw, 0x0⟩, ⟨16, 1, .rw, 0x0⟩, ⟨17, 14, .rw, 0x400⟩]⟩,
   ⟨0x90908, [], [⟨5, 27, .wo, 0x0⟩]⟩,
   ⟨0x9090C, [], [⟨0, 8, .wo, 0x0⟩]⟩,
   ⟨0x90910, [], [⟨0, 32, .ro, 0x0⟩]⟩]

/-- Registers of block CAM (R108). -/
def famsCAM2 : List Fam :=
  [⟨0x90914, [], [⟨0, 32, .ro, 0x0⟩]⟩]

def famsCAM : List Fam := famsCAM0 ++ famsCAM1 ++ famsCAM2

/-- Registers of block IRON (R108). -/
def famsIRON0 : List Fam :=
  [⟨0xA0000, [], [⟨0, 1, .rw, 0x0⟩, ⟨1, 3, .rw, 0x2⟩, ⟨4, 4, .rw, 0x0⟩, ⟨8, 2, .rw, 0x2⟩, ⟨10, 4, .rw, 0x5⟩]⟩,
   ⟨0xA0004, [], [⟨0, 20, .rw, 0x4000⟩]⟩,
   ⟨0xA0008, [], [⟨0, 8, .rw, 0x10⟩, ⟨8, 8, .rw, 0xD⟩, ⟨16, 8, .rw, 0x1A⟩]⟩,
   ⟨0xA000C, [], [⟨0, 4, .rw, 0x8⟩]⟩,
   ⟨0xA0010, [], [⟨0, 32, .ro, 0x0⟩]⟩,
   ⟨0xA0014, [], [⟨0, 32, .ro, 0x0⟩]⟩,
   ⟨0xA0018, [], [⟨0, 32, .ro, 0x0⟩]⟩,
   ⟨0xA001C, [], [⟨0, 32, .ro, 0x0⟩]⟩,
   ⟨0xA0020, [], [⟨0, 32, .ro, 0x0⟩]⟩,
   ⟨0xA0024, [], [⟨0, 32, .ro, 0x0⟩]⟩,
   ⟨0xA0028, [], [⟨0, 28, .ro, 0x0⟩]⟩,
   ⟨0xA0100, [(8, 8)], [⟨0, 16, .rw, 0x0⟩, ⟨16, 2, .rw, 0x0⟩, ⟨18, 1, .rw, 0x0⟩]⟩,
   ⟨0xA0104, [(8, 8)], [⟨0, 10, .rw, 0x100⟩]⟩,
   ⟨0xA0200, [(16, 32)], [⟨0, 8, .rw, 0x55⟩, ⟨8, 8, .rw, 0xAA⟩, ⟨16, 8, .rw, 0xFF⟩, ⟨24, 8, .rw, 0x0⟩]⟩,
   ⟨0xA0204, [(16, 32)], [⟨0, 8, .rw, 0x0⟩, ⟨8, 8, .rw, 0x0⟩, ⟨16, 8, .rw, 0x0⟩]⟩,
   ⟨0xA0208, [(16, 32)], [⟨0, 32, .ro, 0x0⟩]⟩,
   ⟨0xA020C, [(16, 32)], [⟨0, 1, .rw, 0x0⟩, ⟨1, 1, .rw, 0x0⟩, ⟨2, 4, .rw, 0x4⟩, ⟨6, 8, .rw, 0x8⟩, ⟨14, 4, .rw, 0x4⟩, ⟨18, 8, .rw, 0xC⟩, ⟨26, 5, .rw, 0x18⟩]⟩,
   ⟨0xA0210, [(16, 32)], [⟨0, 16, .ro, 0x0⟩, ⟨16, 16, .ro, 0x0⟩]⟩,
   ⟨0xA0214, [(16, 32)], [⟨0, 1, .ro, 0x0⟩, ⟨1, 1, .ro, 0x0⟩, ⟨2, 1, .ro, 0x0⟩, ⟨3, 1, .ro, 0x0⟩, ⟨4, 4, .ro, 0x0⟩]⟩,
   ⟨0xA0218, [(16, 32)], [⟨0, 16, .ro, 0x0⟩, ⟨16, 16, .ro, 0x0⟩]⟩]

def famsIRON : List Fam := famsIRON0

/-- Registers of block HLINK (R108). -/
def famsHLINK0 : List Fam :=
  [⟨0xB0000, [(16, 64)], [⟨0, 1, .rw, 0x0⟩, ⟨1, 3, .rw, 0x4⟩, ⟨4, 3, .rw, 0x4⟩, ⟨7, 3, .rw, 0x0⟩]⟩,
   ⟨0xB0004, [(16, 64)], [⟨0, 1, .wo, 0x0⟩, ⟨1, 1, .wo, 0x0⟩, ⟨2, 1, .wo, 0x0⟩]⟩,
   ⟨0xB0008, [(16, 64)], [⟨0, 3, .ro, 0x0⟩, ⟨3, 3, .ro, 0x0⟩, ⟨6, 1, .ro, 0x0⟩, ⟨7, 1, .ro, 0x0⟩, ⟨8, 1, .ro, 0x0⟩, ⟨9, 3, .ro, 0x0⟩, ⟨12, 1, .ro, 0x0⟩]⟩,
   ⟨0xB000C, [(16, 64)], [⟨0, 32, .ro, 0x0⟩]⟩,
   ⟨0xB0010, [(16, 64)], [⟨0, 16, .rw, 0x0⟩]⟩,
   ⟨0xB0014, [(16, 64)], [⟨0, 5, .ro, 0x0⟩, ⟨5, 6, .ro, 0x0⟩, ⟨11, 2, .ro, 0x0⟩, ⟨13, 1, .ro, 0x0⟩, ⟨16, 13, .ro, 0x0⟩]⟩,
   ⟨0xB0018, [(16, 64)], [⟨0, 32, .ro, 0x0⟩]⟩,
   ⟨0xB001C, [(16, 64)], [⟨0, 32, .ro, 0x0⟩]⟩,
   ⟨0xB0020, [(16, 64)], [⟨0, 32, .ro, 0x0⟩]⟩,
   ⟨0xB0024, [(16, 64)], [⟨0, 8, .ro, 0x0⟩, ⟨8, 8, .ro, 0x0⟩, ⟨16, 8, .ro, 0x0⟩]⟩,
   ⟨0xB0028, [(16, 64)], [⟨0, 32, .ro, 0x0⟩]⟩,
   ⟨0xB002C, [(16, 64)], [⟨0, 32, .ro, 0x0⟩]⟩,
   ⟨0xB0030, [(16, 64)], [⟨0, 32, .ro, 0x0⟩]⟩,
   ⟨0xB0034, [(16, 64)], [⟨0, 32, .ro, 0x0⟩]⟩,
   ⟨0xB0038, [(16, 64)], [⟨0, 32, .ro, 0x0⟩]⟩,
   ⟨0xB003C, [(16, 64)], [⟨0, 32, .ro, 0x0⟩]⟩,
   ⟨0xB0400, [], [⟨0, 8, .rw, 0xA⟩, ⟨8, 16, .rw, 0xC8⟩]⟩,
   ⟨0xB0404, [], [⟨0, 16, .rw, 0xA⟩]⟩,
   ⟨0xB1000, [(512, 4)], [⟨0, 4, .rw, 0x0⟩, ⟨4, 4, .rw, 0x0⟩, ⟨8, 1, .rw, 0x0⟩, ⟨9, 5, .rw, 0x0⟩, ⟨14, 5, .rw, 0x0⟩, ⟨19, 1, .ro, 0x0⟩]⟩,
   ⟨0xB1800, [(512, 4)], [⟨0, 8, .ro, 0xFF⟩, ⟨8, 1, .ro, 0x0⟩]⟩]

def famsHLINK : List Fam := famsHLINK0

/-- Registers of block NET (R108). -/
def famsNET0 : List Fam :=
  [⟨0xC0000, [(2, 256)], [⟨0, 2, .rw, 0x0⟩, ⟨2, 1, .rw, 0x0⟩, ⟨3, 1, .rw, 0x1⟩, ⟨4, 14, .rw, 0x5EE⟩, ⟨18, 1, .rw, 0x0⟩]⟩,
   ⟨0xC0004, [(2, 256)], [⟨0, 32, .rw, 0x0⟩]⟩,
   ⟨0xC0008, [(2, 256)], [⟨0, 16, .rw, 0x0⟩]⟩,
   ⟨0xC000C, [(2, 256)], [⟨0, 32, .rw, 0x0⟩]⟩,
   ⟨0xC0010, [(2, 256)], [⟨0, 32, .rw, 0xFFFFFF00⟩]⟩,
   ⟨0xC0014, [(2, 256)], [⟨0, 32, .rw, 0x0⟩]⟩,
   ⟨0xC0018, [(2, 256)], [⟨0, 12, .rw, 0x1⟩, ⟨12, 3, .rw, 0x0⟩]⟩,
   ⟨0xC001C, [(2, 256)], [⟨0, 1, .ro, 0x0⟩, ⟨1, 1, .ro, 0x0⟩, ⟨2, 1, .ro, 0x0⟩]⟩,
   ⟨0xC0020, [(2, 256)], [⟨0, 32, .rw, 0x0⟩]⟩,
   ⟨0xC0024, [(2, 256)], [⟨0, 4, .ro, 0x3⟩, ⟨4, 2, .ro, 0x0⟩]⟩,
   ⟨0xC0028, [(2, 256)], [⟨0, 32, .ro, 0x0⟩]⟩,
   ⟨0xC002C, [(2, 256)], [⟨0, 3, .rw, 0x0⟩, ⟨3, 14, .rw, 0x5EE⟩]⟩,
   ⟨0xC0030, [(2, 256)], [⟨0, 32, .ro, 0x0⟩]⟩,
   ⟨0xC0034, [(2, 256)], [⟨0, 32, .ro, 0x0⟩]⟩,
   ⟨0xC0038, [(2, 256)], [⟨0, 32, .ro, 0x0⟩]⟩,
   ⟨0xC003C, [(2, 256)], [⟨0, 32, .ro, 0x0⟩]⟩,
   ⟨0xC0040, [(2, 256)], [⟨0, 32, .ro, 0x0⟩]⟩,
   ⟨0xC0044, [(2, 256)], [⟨0, 32, .ro, 0x0⟩]⟩,
   ⟨0xC0048, [(2, 256)], [⟨0, 32, .ro, 0x0⟩]⟩,
   ⟨0xC004C, [(2, 256)], [⟨0, 32, .ro, 0x0⟩]⟩,
   ⟨0xC0200, [], [⟨0, 16, .rw, 0x12C⟩]⟩,
   ⟨0xC0400, [(2, 64)], [⟨0, 1, .rw, 0x0⟩, ⟨1, 1, .rw, 0x0⟩, ⟨2, 1, .rw, 0x0⟩, ⟨3, 1, .rw, 0x0⟩, ⟨4, 1, .rw, 0x0⟩, ⟨5, 1, .rw, 0x1⟩, ⟨6, 8, .rw, 0x0⟩, ⟨14, 4, .rw, 0x0⟩]⟩,
   ⟨0xC0404, [(2, 64)], [⟨0, 4, .rw, 0xD⟩, ⟨4, 4, .rw, 0x0⟩, ⟨8, 4, .rw, 0xD⟩, ⟨12, 4, .rw, 0x3⟩]⟩,
   ⟨0xC0408, [(2, 64)], [⟨0, 4, .rw, 0x4⟩, ⟨4, 20, .rw, 0x3E8⟩]⟩]

/-- Registers of block NET (R108). -/
def famsNET1 : List Fam :=
  [⟨0xC040C, [(2, 64)], [⟨0, 1, .ro, 0x0⟩, ⟨1, 1, .ro, 0x0⟩, ⟨2, 1, .ro, 0x0⟩, ⟨3, 1, .ro, 0x0⟩, ⟨4, 1, .ro, 0x0⟩, ⟨16, 16, .ro, 0x0⟩]⟩,
   ⟨0xC0410, [(2, 64)], [⟨0, 32, .ro, 0x0⟩]⟩,
   ⟨0xC0414, [(2, 64)], [⟨0, 32, .ro, 0x0⟩]⟩,
   ⟨0xC0418, [(2, 64)], [⟨0, 32, .ro, 0x0⟩]⟩,
   ⟨0xC041C, [(2, 64)], [⟨0, 8, .ro, 0x0⟩, ⟨8, 8, .ro, 0x0⟩, ⟨16, 16, .ro, 0x0⟩]⟩,
   ⟨0xC0420, [(2, 64)], [⟨0, 32, .ro, 0x0⟩]⟩,
   ⟨0xC0800, [(4, 64)], [⟨0, 2, .rw, 0x0⟩, ⟨2, 10, .rw, 0x14⟩, ⟨12, 16, .rw, 0x3C⟩]⟩,
   ⟨0xC0804, [(4, 64)], [⟨0, 32, .rw, 0x3E8⟩]⟩,
   ⟨0xC0808, [(4, 64)], [⟨0, 32, .ro, 0x0⟩]⟩,
   ⟨0xC080C, [(4, 64)], [⟨0, 32, .ro, 0x0⟩]⟩,
   ⟨0xC0810, [(4, 64)], [⟨0, 32, .wo, 0x0⟩]⟩,
   ⟨0xC0814, [(4, 64)], [⟨0, 32, .wo, 0x0⟩]⟩,
   ⟨0xC0818, [(4, 64)], [⟨0, 1, .wo, 0x0⟩]⟩,
   ⟨0xC081C, [(4, 64)], [⟨0, 2, .ro, 0x0⟩, ⟨2, 1, .ro, 0x0⟩, ⟨3, 1, .ro, 0x0⟩, ⟨4, 1, .ro, 0x0⟩]⟩,
   ⟨0xC0820, [(4, 64)], [⟨0, 32, .rw, 0x0⟩]⟩,
   ⟨0xC0824, [(4, 64)], [⟨0, 32, .ro, 0x0⟩]⟩,
   ⟨0xC0828, [(4, 64)], [⟨0, 32, .ro, 0x0⟩]⟩,
   ⟨0xC0A00, [], [⟨0, 16, .rw, 0x25⟩, ⟨16, 1, .ro, 0x0⟩]⟩,
   ⟨0xC0C00, [(4, 32)], [⟨0, 1, .rw, 0x0⟩, ⟨1, 2, .rw, 0x0⟩, ⟨3, 1, .rw, 0x0⟩]⟩,
   ⟨0xC0C04, [(4, 32)], [⟨0, 32, .rw, 0x0⟩]⟩,
   ⟨0xC0C08, [(4, 32)], [⟨0, 32, .rw, 0x0⟩]⟩,
   ⟨0xC0C0C, [(4, 32)], [⟨0, 32, .rw, 0x0⟩]⟩,
   ⟨0xC0C10, [(4, 32)], [⟨0, 16, .rw, 0x0⟩]⟩,
   ⟨0xC0C14, [(4, 32)], [⟨0, 20, .rw, 0x3E8⟩]⟩]

/-- Registers of block NET (R108). -/
def famsNET2 : List Fam :=
  [⟨0xC0C18, [(4, 32)], [⟨0, 32, .ro, 0x0⟩]⟩,
   ⟨0xC0C1C, [(4, 32)], [⟨0, 32, .ro, 0x0⟩]⟩,
   ⟨0xC0E00, [], [⟨0, 1, .wo, 0x0⟩]⟩,
   ⟨0xC0E04, [], [⟨0, 32, .ro, 0x0⟩]⟩,
   ⟨0xC0E08, [(4, 8)], [⟨0, 32, .ro, 0x0⟩]⟩,
   ⟨0xC0E0C, [(4, 8)], [⟨0, 32, .ro, 0x0⟩]⟩,
   ⟨0xC0E28, [], [⟨0, 32, .ro, 0x0⟩]⟩,
   ⟨0xC0E2C, [], [⟨0, 16, .ro, 0x0⟩]⟩,
   ⟨0xC0E30, [], [⟨0, 32, .ro, 0x0⟩]⟩,
   ⟨0xC0E34, [], [⟨0, 16, .ro, 0x0⟩]⟩]

def famsNET : List Fam := famsNET0 ++ famsNET1 ++ famsNET2

/-- Registers of block DMA (R108). -/
def famsDMA0 : List Fam :=
  [⟨0xD0000, [(16, 64)], [⟨0, 1, .rw, 0x0⟩]⟩,
   ⟨0xD0004, [(16, 64)], [⟨5, 27, .rw, 0x0⟩]⟩,
   ⟨0xD0008, [(16, 64)], [⟨0, 8, .rw, 0x0⟩]⟩,
   ⟨0xD000C, [(16, 64)], [⟨0, 1, .wo, 0x0⟩, ⟨1, 1, .rw, 0x0⟩]⟩,
   ⟨0xD0010, [(16, 64)], [⟨0, 32, .wo, 0x0⟩]⟩,
   ⟨0xD0014, [(16, 64)], [⟨0, 3, .ro, 0x0⟩, ⟨3, 1, .ro, 0x0⟩, ⟨4, 1, .ro, 0x0⟩, ⟨5, 1, .ro, 0x0⟩, ⟨8, 4, .ro, 0x0⟩]⟩,
   ⟨0xD0018, [(16, 64)], [⟨5, 27, .ro, 0x0⟩]⟩,
   ⟨0xD001C, [(16, 64)], [⟨0, 8, .ro, 0x0⟩]⟩,
   ⟨0xD0020, [(16, 64)], [⟨0, 29, .ro, 0x0⟩]⟩,
   ⟨0xD0024, [(16, 64)], [⟨0, 32, .ro, 0x0⟩]⟩,
   ⟨0xD0028, [(16, 64)], [⟨0, 32, .ro, 0x0⟩]⟩,
   ⟨0xD1000, [], [⟨0, 13, .ro, 0x0⟩, ⟨16, 13, .ro, 0x0⟩]⟩,
   ⟨0xD1004, [], [⟨0, 32, .ro, 0x0⟩]⟩,
   ⟨0xD1008, [], [⟨0, 8, .ro, 0x0⟩, ⟨8, 8, .ro, 0x0⟩]⟩,
   ⟨0xD100C, [], [⟨0, 32, .ro, 0x0⟩]⟩,
   ⟨0xD1010, [], [⟨0, 28, .rw, 0x0⟩]⟩,
   ⟨0xD1014, [], [⟨0, 28, .ro, 0x0⟩]⟩,
   ⟨0xD1018, [], [⟨0, 10, .rw, 0x20⟩]⟩,
   ⟨0xD101C, [], [⟨0, 10, .ro, 0x0⟩, ⟨16, 10, .ro, 0x0⟩]⟩,
   ⟨0xD1020, [], [⟨0, 10, .ro, 0x0⟩]⟩,
   ⟨0xD1030, [(4, 8)], [⟨0, 24, .rw, 0x0⟩]⟩,
   ⟨0xD1034, [(4, 8)], [⟨0, 16, .rw, 0x0⟩, ⟨16, 1, .rw, 0x0⟩, ⟨17, 1, .rw, 0x0⟩]⟩,
   ⟨0xD1050, [], [⟨0, 32, .ro, 0x0⟩]⟩,
   ⟨0xD1060, [], [⟨0, 28, .ro, 0x0⟩]⟩]

/-- Registers of block DMA (R108). -/
def famsDMA1 : List Fam :=
  [⟨0xD1064, [], [⟨0, 28, .ro, 0x0⟩]⟩,
   ⟨0xD2000, [(64, 16)], [⟨0, 28, .rw, 0x0⟩]⟩,
   ⟨0xD2004, [(64, 16)], [⟨0, 28, .rw, 0x0⟩]⟩,
   ⟨0xD2008, [(64, 16)], [⟨0, 1, .rw, 0x0⟩, ⟨1, 1, .rw, 0x0⟩, ⟨2, 4, .rw, 0x0⟩]⟩,
   ⟨0xD200C, [(64, 16)], [⟨0, 13, .ro, 0x0⟩]⟩]

def famsDMA : List Fam := famsDMA0 ++ famsDMA1

/-- Registers of block FLATE (R108). -/
def famsFLATE0 : List Fam :=
  [⟨0xE0000, [(16, 32)], [⟨0, 1, .rw, 0x0⟩]⟩,
   ⟨0xE0004, [(16, 32)], [⟨0, 2, .ro, 0x0⟩, ⟨2, 6, .ro, 0x0⟩, ⟨8, 1, .ro, 0x0⟩, ⟨9, 1, .ro, 0x0⟩]⟩,
   ⟨0xE0008, [(16, 32)], [⟨0, 10, .ro, 0x0⟩]⟩,
   ⟨0xE000C, [(16, 32)], [⟨0, 32, .ro, 0x0⟩]⟩,
   ⟨0xE0010, [(16, 32)], [⟨0, 32, .ro, 0x0⟩]⟩,
   ⟨0xE0014, [(16, 32)], [⟨0, 16, .ro, 0x0⟩, ⟨16, 16, .ro, 0x0⟩]⟩,
   ⟨0xE0400, [], [⟨0, 32, .ro, 0x0⟩]⟩,
   ⟨0xE0404, [], [⟨0, 8, .ro, 0x0⟩, ⟨8, 9, .ro, 0x0⟩]⟩,
   ⟨0xE1000, [(512, 8)], [⟨0, 4, .ro, 0x0⟩, ⟨4, 5, .ro, 0x0⟩, ⟨9, 4, .ro, 0x0⟩, ⟨13, 1, .ro, 0x0⟩, ⟨14, 1, .ro, 0x0⟩, ⟨15, 1, .ro, 0x0⟩, ⟨16, 9, .ro, 0x0⟩]⟩,
   ⟨0xE1004, [(512, 8)], [⟨0, 32, .ro, 0x0⟩]⟩,
   ⟨0xE2000, [(8, 32), (8, 4)], [⟨0, 32, .wo, 0x0⟩]⟩,
   ⟨0xE2100, [], [⟨0, 8, .ro, 0x0⟩]⟩,
   ⟨0xE2104, [], [⟨0, 8, .wo, 0x0⟩]⟩,
   ⟨0xE3000, [(4, 64)], [⟨0, 2, .rw, 0x0⟩, ⟨2, 2, .rw, 0x0⟩, ⟨4, 5, .rw, 0x8⟩, ⟨9, 1, .rw, 0x0⟩, ⟨10, 1, .rw, 0x0⟩]⟩,
   ⟨0xE3004, [(4, 64)], [⟨5, 27, .rw, 0x0⟩]⟩,
   ⟨0xE3008, [(4, 64)], [⟨0, 8, .rw, 0x0⟩]⟩,
   ⟨0xE300C, [(4, 64)], [⟨0, 32, .wo, 0x0⟩]⟩,
   ⟨0xE3010, [(4, 64)], [⟨0, 2, .ro, 0x0⟩, ⟨2, 1, .ro, 0x0⟩, ⟨3, 1, .ro, 0x0⟩, ⟨4, 1, .ro, 0x0⟩, ⟨5, 1, .ro, 0x0⟩]⟩,
   ⟨0xE3014, [(4, 64)], [⟨5, 27, .ro, 0x0⟩]⟩,
   ⟨0xE3018, [(4, 64)], [⟨0, 8, .ro, 0x0⟩]⟩,
   ⟨0xE301C, [(4, 64)], [⟨0, 32, .ro, 0x0⟩]⟩,
   ⟨0xE3020, [(4, 64)], [⟨0, 32, .ro, 0x0⟩]⟩,
   ⟨0xE3024, [(4, 64)], [⟨0, 32, .ro, 0x0⟩]⟩,
   ⟨0xE3028, [(4, 64)], [⟨0, 32, .ro, 0x0⟩]⟩]

/-- Registers of block FLATE (R108). -/
def famsFLATE1 : List Fam :=
  [⟨0xE302C, [(4, 64)], [⟨0, 32, .ro, 0x0⟩]⟩,
   ⟨0xE3030, [(4, 64)], [⟨0, 32, .ro, 0x0⟩]⟩]

def famsFLATE : List Fam := famsFLATE0 ++ famsFLATE1

/-- Registers of block MEM (R108). -/
def famsMEM0 : List Fam :=
  [⟨0xF0000, [], [⟨0, 6, .ro, 0x20⟩, ⟨6, 5, .ro, 0xF⟩, ⟨16, 16, .ro, 0x1C0⟩]⟩,
   ⟨0xF0004, [], [⟨0, 8, .ro, 0x0⟩, ⟨8, 2, .ro, 0x0⟩]⟩,
   ⟨0xF0008, [], [⟨0, 8, .rw, 0x18⟩, ⟨8, 12, .rw, 0xA⟩, ⟨20, 12, .rw, 0xA8⟩]⟩,
   ⟨0xF000C, [], [⟨0, 28, .ro, 0x0⟩]⟩,
   ⟨0xF0010, [], [⟨0, 32, .ro, 0x0⟩]⟩,
   ⟨0xF0014, [], [⟨0, 32, .ro, 0x0⟩]⟩,
   ⟨0xF0018, [], [⟨0, 12, .rw, 0x3C⟩]⟩,
   ⟨0xF001C, [], [⟨0, 32, .ro, 0x0⟩]⟩,
   ⟨0xF0020, [], [⟨0, 32, .ro, 0x0⟩]⟩,
   ⟨0xF0024, [], [⟨0, 4, .ro, 0x0⟩, ⟨4, 1, .ro, 0x0⟩]⟩,
   ⟨0xF0028, [], [⟨0, 16, .rw, 0x800⟩, ⟨16, 8, .rw, 0x14⟩]⟩,
   ⟨0xF002C, [], [⟨0, 32, .ro, 0x0⟩]⟩,
   ⟨0xF0030, [], [⟨0, 5, .ro, 0x0⟩, ⟨5, 4, .ro, 0x0⟩, ⟨9, 3, .ro, 0x0⟩, ⟨12, 5, .ro, 0x0⟩]⟩,
   ⟨0xF0040, [(6, 4)], [⟨0, 16, .ro, 0x0⟩]⟩,
   ⟨0xF0060, [(6, 4)], [⟨0, 32, .ro, 0x0⟩]⟩,
   ⟨0xF0080, [(3, 16)], [⟨0, 32, .ro, 0x0⟩]⟩,
   ⟨0xF0084, [(3, 16)], [⟨0, 32, .ro, 0x0⟩]⟩,
   ⟨0xF0088, [(3, 16)], [⟨0, 32, .ro, 0x0⟩]⟩,
   ⟨0xF008C, [(3, 16)], [⟨0, 32, .ro, 0x0⟩]⟩,
   ⟨0xF00B0, [], [⟨0, 2, .ro, 0x0⟩, ⟨2, 1, .ro, 0x0⟩, ⟨3, 3, .ro, 0x0⟩]⟩,
   ⟨0xF00B4, [], [⟨0, 32, .ro, 0x0⟩]⟩,
   ⟨0xF00B8, [], [⟨0, 7, .ro, 0x0⟩, ⟨7, 1, .ro, 0x0⟩, ⟨16, 12, .ro, 0x0⟩, ⟨28, 1, .ro, 0x0⟩]⟩]

def famsMEM : List Fam := famsMEM0

/-- Registers of block TEST (R108). -/
def famsTEST0 : List Fam :=
  [⟨0x100000, [], [⟨0, 1, .wo, 0x0⟩, ⟨1, 1, .wo, 0x0⟩, ⟨2, 1, .wo, 0x0⟩, ⟨3, 1, .wo, 0x0⟩]⟩,
   ⟨0x100004, [], [⟨0, 1, .ro, 0x0⟩, ⟨1, 1, .ro, 0x0⟩, ⟨2, 1, .ro, 0x0⟩, ⟨3, 1, .ro, 0x0⟩, ⟨4, 1, .ro, 0x0⟩]⟩,
   ⟨0x100008, [], [⟨0, 11, .rw, 0x7FF⟩]⟩,
   ⟨0x10000C, [], [⟨0, 11, .ro, 0x0⟩]⟩,
   ⟨0x100010, [], [⟨0, 4, .ro, 0x0⟩, ⟨4, 9, .ro, 0x0⟩]⟩,
   ⟨0x100014, [], [⟨0, 32, .ro, 0x0⟩]⟩,
   ⟨0x100018, [], [⟨0, 32, .ro, 0x1⟩]⟩,
   ⟨0x10001C, [], [⟨0, 32, .ro, 0x0⟩]⟩,
   ⟨0x100020, [], [⟨0, 8, .rw, 0x1⟩, ⟨8, 8, .rw, 0x1⟩, ⟨16, 8, .rw, 0x1⟩]⟩,
   ⟨0x100024, [], [⟨0, 32, .ro, 0x0⟩]⟩,
   ⟨0x100100, [(16, 16)], [⟨0, 3, .rw, 0x0⟩]⟩,
   ⟨0x100104, [(16, 16)], [⟨0, 32, .ro, 0x0⟩]⟩,
   ⟨0x100108, [(16, 16)], [⟨0, 32, .ro, 0x0⟩]⟩,
   ⟨0x100200, [(4, 16)], [⟨0, 2, .rw, 0x0⟩]⟩,
   ⟨0x100204, [(4, 16)], [⟨0, 32, .ro, 0x0⟩]⟩,
   ⟨0x100208, [(4, 16)], [⟨0, 32, .ro, 0x0⟩]⟩,
   ⟨0x100300, [], [⟨0, 4, .rw, 0x0⟩, ⟨4, 4, .rw, 0x0⟩, ⟨8, 1, .rw, 0x0⟩]⟩,
   ⟨0x100304, [], [⟨0, 16, .ro, 0x0⟩, ⟨16, 16, .ro, 0x0⟩]⟩,
   ⟨0x100400, [], [⟨0, 1, .ro, 0x0⟩, ⟨1, 1, .ro, 0x0⟩, ⟨2, 1, .ro, 0x0⟩]⟩,
   ⟨0x100404, [], [⟨0, 13, .ro, 0x0⟩]⟩,
   ⟨0x100408, [], [⟨0, 32, .ro, 0x0⟩]⟩,
   ⟨0x10040C, [], [⟨0, 32, .ro, 0x0⟩]⟩]

def famsTEST : List Fam := famsTEST0

/-- Registers of block SPAN (R108). -/
def famsSPAN0 : List Fam :=
  [⟨0x1000000, [(4096, 64)], [⟨0, 12, .ro, 0x0⟩, ⟨12, 1, .ro, 0x0⟩, ⟨13, 1, .ro, 0x0⟩, ⟨14, 3, .ro, 0x0⟩, ⟨17, 6, .ro, 0x0⟩]⟩,
   ⟨0x1000004, [(4096, 64)], [⟨0, 16, .ro, 0x0⟩, ⟨16, 16, .ro, 0x0⟩]⟩,
   ⟨0x1000008, [(4096, 64)], [⟨0, 16, .ro, 0x0⟩, ⟨16, 16, .ro, 0x0⟩]⟩,
   ⟨0x100000C, [(4096, 64)], [⟨0, 16, .wo, 0x0⟩]⟩,
   ⟨0x1000010, [(4096, 64)], [⟨0, 16, .wo, 0x0⟩]⟩,
   ⟨0x1000014, [(4096, 64)], [⟨0, 16, .ro, 0x0⟩]⟩,
   ⟨0x1000018, [(4096, 64)], [⟨0, 16, .ro, 0x0⟩]⟩,
   ⟨0x100001C, [(4096, 64)], [⟨0, 10, .ro, 0x0⟩]⟩,
   ⟨0x1000020, [(4096, 64)], [⟨0, 10, .w1c, 0x0⟩]⟩,
   ⟨0x1000024, [(4096, 64)], [⟨0, 32, .ro, 0x0⟩]⟩,
   ⟨0x1000028, [(4096, 64)], [⟨0, 32, .ro, 0x0⟩]⟩,
   ⟨0x100002C, [(4096, 64)], [⟨0, 32, .ro, 0x0⟩]⟩,
   ⟨0x1000030, [(4096, 64)], [⟨0, 32, .ro, 0x0⟩]⟩,
   ⟨0x1000034, [(4096, 64)], [⟨0, 32, .ro, 0x0⟩]⟩,
   ⟨0x1000038, [(4096, 64)], [⟨0, 32, .ro, 0x0⟩]⟩,
   ⟨0x100003C, [(4096, 64)], [⟨0, 32, .ro, 0x0⟩]⟩]

def famsSPAN : List Fam := famsSPAN0

/-- The register families of the block an address lies in (R108). -/
def famsAt (a : Nat) : List Fam :=
  match a / 0x10000 with
  | 0 => famsSYS
  | 1 => famsTHERM
  | 2 => famsNVM
  | 3 => famsPINS
  | 4 => famsPOS
  | 5 => famsBARS
  | 6 => famsSEQ
  | 7 => famsFORM
  | 8 => famsDARN
  | 9 => famsCAM
  | 10 => famsIRON
  | 11 => famsHLINK
  | 12 => famsNET
  | 13 => famsDMA
  | 14 => famsFLATE
  | 15 => famsMEM
  | 16 => famsTEST
  | 0x100 => famsSPAN
  | 0x101 => famsSPAN
  | 0x102 => famsSPAN
  | 0x103 => famsSPAN
  | _ => []

/-- The address is one of the family's registers. -/
def Fam.has (f : Fam) (a : Nat) : Bool :=
  decide (f.base ≤ a) &&
    match f.dims with
    | [] => a == f.base
    | [(c, s)] => (a - f.base) % s == 0 && decide ((a - f.base) / s < c)
    | (c, s) :: (c2, s2) :: _ =>
      decide ((a - f.base) / s < c) && (a - f.base) % s % s2 == 0 && decide ((a - f.base) % s / s2 < c2)

/-- The register at an address, if one is there (R109). -/
def famOf (a : Nat) : Option Fam := (famsAt a).find? (fun f => f.has a)

end Sys2Proof.Machine
end

