-- ==== Sys2Proof/Machine/State.lean ====
section
/-! DEFINITION. The state of the module as plain data, the reasons a command can stop, and the state after reset. -/

namespace Sys2Proof.Machine

/-- Memory and sparse tables: pairs of key and value, keys strictly rising, no value equal to what an unlisted key reads as. -/
abbrev Sparse (α : Type) := List (Nat × α)

/-- The power condition of the module: off (waiting for Dawn), Day, Dusk, entering Night, Night, the maintenance state (R74),
tripped (R431), core regulators shut down (R442), and VAUX absent (R38). -/
inductive Phase where
  | off | day | dusk | nightEntry | night | maint | tripped | shutdown | noVaux
  deriving DecidableEq, Repr

/-- One event record of R98, with the tick it was last sent at (none: not sent yet). -/
structure EvRec where
  no : Nat
  code : Nat
  cls : Nat
  cleared : Bool
  source : Word
  t : Nat
  arg : Word
  sentAt : Option Nat
  deriving DecidableEq, Repr

/-- The queue side of a subscriber slot (R99, R100): next NUMBER and queue. -/
structure Sub where
  next : Nat := 1
  queue : List EvRec := []
  deriving DecidableEq, Repr

/-- A held reply (R96): source, SEQ, TYPE, STATUS, payload, and when it was made. -/
structure Held where
  ip : Word
  port : BitVec 16
  seq : Word
  type : Nat
  status : Nat
  payload : List Byte
  at_ : Nat
  deriving DecidableEq, Repr

/-- A request sent on to followers (R117): the host's message, TYPE, ADDR and COUNT, whether it addresses a mirrored span (else the
set span), which followers have not answered yet, and when it was sent. -/
structure Fwd where
  msg : Msg
  type : Nat
  addr : Nat
  count : Nat
  mirror : Bool
  waiting : List Nat
  at_ : Nat
  deriving DecidableEq, Repr

/-- What the lead knows of one follower (R116, R118). -/
structure Follower where
  snap : Word := 0
  block : List Word := []
  at_ : Nat := 0
  heard : Bool := false
  lost : Bool := false
  /-- the latched copy of REMOTE_LOST (R112) -/
  sticky : Bool := false
  deriving DecidableEq, Repr

/-- One node of the span tree (R64): number, parent (none: root), channel (none: group), rank. -/
structure SpanNode where
  num : Nat
  parent : Option Nat
  chan : Option Nat
  rank : Nat
  deriving DecidableEq, Repr

/-- What a leaf span holds (R110 to R113), keyed by channel. -/
structure Leaf where
  ctrl : BitVec 16 := 0
  sticky : BitVec 10 := 0
  late : Bool := false
  blanked : Bool := false
  lines : Nat := 0
  drops : Nat := 0
  /-- status bits that have been 1 ever since Dawn, which have not become 1 (R110, R112) -/
  quiet : BitVec 10 := 0
  snapNozzles : Nat := 0
  snapMended : Nat := 0
  snapLines : Nat := 0
  snapDrops : Nat := 0
  /-- tick TEST_NOW was last set at, plus one (R293) -/
  testFrom : Nat := 0
  deriving DecidableEq, Repr

/-- The span tree and its leaves; the ticks of the last snapshot (R113) and of the last SET_REPORT sent (R116). -/
structure Spans where
  nodes : List SpanNode := []
  leaves : Sparse Leaf := []
  snap : Nat := 0
  snapAt : Option Nat := none
  reportAt : Option Nat := none
  deriving DecidableEq, Repr

/-- The always-on island and the power side (R2, R36 to R44, R71 to R85, R433). -/
structure Power where
  phase : Phase := .off
  /-- CAUSE of the next Dawn -/
  cause : Nat := 0
  /-- VAUX has become valid and no Dawn has run since: TBs start at 0 (R379) -/
  fresh : Bool := true
  /-- VIO valid -/
  vio : Bool := true
  lastBusy : Nat := 0
  nightReqAt : Nat := 0
  nightAt : Nat := 0
  /-- the core stopped at this tick; the island counts on -/
  coreStopped : Nat := 0
  islEnc : Pos := 0
  islTrust : Bool := false
  /-- the island's trip register: kind, sensor, reading; and not yet recorded -/
  tripKind : Nat := 0
  tripSensor : Nat := 0
  tripTemp : Int := 0
  tripNew : Bool := false
  trips : Nat := 0
  backstops : Nat := 0
  /-- a dip was in progress when VIN was lost (R443) -/
  dipLost : Bool := false
  /-- RESTART requested and not yet begun (R79) -/
  restart : Bool := false
  /-- SCAN_OPEN (R462), wipe step in progress 0–5 and STEP 1 state -/
  scanOpen : Bool := false
  wipeStep : Nat := 0
  deriving DecidableEq, Repr

/-- The steps of a commit (R77), with how many operations of the step remain. -/
inductive CommitStep where
  | idle | eraseHeader | eraseBlocks (left : Nat) | program (page : Nat) | verify | header
  deriving DecidableEq, Repr

/-- A commit in progress (R76, R77). -/
structure Commit where
  step : CommitStep := .idle
  target : Nat := 0
  gen : Nat := 0
  len : Nat := 0
  crc : Word := 0
  flags : Nat := 0
  tool : List Byte := []
  deferred : Bool := false
  deriving DecidableEq, Repr

/-- The journal and the state store (R69, R436, R452, R453): the commit; causes of records that have fallen due; the record being
written (slot, cause, bytes), the block being erased for the ring, and the next slot; records held in SRAM, oldest first, with
their causes; when the last record of cause FAULT or HOST was made and the last periodic one; a state-store write that is due, in
progress (half) or held; when one was last written, with what body, and the body now being written; the write window shut; the
slot Dawn did not try, while its check is still to come (R465). -/
structure Nvm where
  commit : Commit := {}
  due : List Nat := []
  jWrite : Option (Nat × Nat × List Byte) := none
  jErase : Option Nat := none
  jNext : Nat := 0
  held : List (Nat × List Byte) := []
  lastHostFault : Option Nat := none
  lastPeriodic : Nat := 0
  stDue : Bool := false
  stWrite : Option Nat := none
  stPend : Bool := false
  stLast : Nat := 0
  stBody : List Byte := []
  stBodyNew : List Byte := []
  windowShut : Bool := false
  untried : Option Nat := none
  deriving DecidableEq, Repr

/-- Heat and supply beside their registers (R425 to R445): tick of the last sample; T_hot and the island's T_hot in 1/16 °C with
their sensors, since when each has been at 110 °C or above; θ in per mille; whether lifetime extremes hold a reading yet; ACFAIL_N
asserted, VIN below 10.2 V; the dip in progress (its start, VIN below 9.0 V in it, supply stop made); the end of a dip that made a
supply stop; the two supply causes; since when the ceiling has been passed at G and U of 0, and kept at 15/16; the governor's
last run. -/
structure Therm where
  sampleAt : Option Nat := none
  hot : Int := 400
  hotSensor : Nat := 15
  hotSince : Option Nat := none
  isl : Int := 400
  islSensor : Nat := 15
  tripSince : Option Nat := none
  theta : Nat := 0
  tSeen : Bool := false
  vSeen : Bool := false
  acfail : Bool := false
  vinWarn : Bool := false
  dipStart : Option Nat := none
  dipUnder : Bool := false
  dipStopped : Bool := false
  dipEnded : Option Nat := none
  supplyDip : Bool := false
  supplyCeil : Bool := false
  ceilSince : Option Nat := none
  ceilLowSince : Option Nat := none
  govAt : Option Nat := none
  deriving DecidableEq, Repr

/-- The head of one channel (R434): its last 16 codes, newest first, HEAD_SOFT and HEAD_HARD, and since when it has been at HARD. -/
structure Head where
  codes : List Nat := []
  soft : Bool := false
  hard : Bool := false
  since : Option Nat := none
  deriving DecidableEq, Repr

/-- One time base (R373 to R378): ns and 2^−32 ns, rate offset in 2^−32 ns a tick, the servo's sum in ns/s, runs of good and bad
offsets, the refused jump, when it was last LOCKED, whether a free one has been SET, the free step of R377 (any size, or a bound in
ns; spent), when a Sync last came, the rates of disciplined running (ticks, rate; newest first), ticks of the second of TB_HOLD,
and the UTC offset an instance gives with a refused change of it. -/
structure TimeBase where
  ns : Nat := 0
  frac : Nat := 0
  rate : Int := 0
  integ : Rat := 0
  good : Nat := 0
  bad : Nat := 0
  refused : Bool := false
  pend : Rat := 0
  lastLocked : Option Nat := none
  everSet : Bool := false
  freeAll : Bool := true
  freeUntil : Nat := 0
  freeDone : Bool := false
  lastSync : Option Nat := none
  rates : List (Nat × Int) := []
  holdTicks : Nat := 0
  utcOff : Int := 0
  utcPend : Option Int := none
  deriving DecidableEq, Repr

/-- A foreign master (R369): its identity, its last dataset, Announces in a row, and when the last came. -/
structure Foreign where
  src : BitVec 64
  srcPort : BitVec 16
  data : AnnounceData
  count : Nat
  at_ : Nat
  deriving DecidableEq, Repr

/-- One PTP port of an instance (R368 to R372): portState as NPn_PTP codes it, foreign masters, parent, when its last Announce
came; the exchange in progress, in 2^−16 ns: (t1 + cs, t2) of the last Sync, a two-step Sync awaiting its Follow_Up (sequence, t2,
correction), the Delay_Req and Pdelay_Req sent (sequence, time), a two-step Pdelay_Resp (t2, t4, correction), the peer delay; the
next sequence number and the tick of the last message by messageType. -/
structure PtpPort where
  state : Nat := 3
  foreign : List Foreign := []
  parent : Option (BitVec 64 × BitVec 16) := none
  lastAnnounce : Nat := 0
  sync : Option (Int × Int) := none
  two : Option (BitVec 16 × Int × Int) := none
  dreq : Option (BitVec 16 × Int) := none
  pdreq : Option (BitVec 16 × Int) := none
  pdResp : Option (Int × Int × Int) := none
  peerDelay : Option Rat := none
  seqs : Sparse Nat := []
  sent : Sparse Nat := []
  deriving DecidableEq, Repr

/-- One UDP datagram the module sends. -/
structure Datagram where
  np : Nat
  ip : Word
  srcPort : Nat
  dstPort : Nat
  payload : List Byte
  deriving DecidableEq, Repr

/-- One entry of a port's ARP cache (R366). -/
structure ArpEntry where
  ip : Word
  mac : BitVec 48
  at_ : Nat
  deriving DecidableEq, Repr

/-- One address being resolved (R366): requests sent, when the first and the last left, what waits. -/
structure Resolve where
  ip : Word
  sent : Nat
  first : Nat
  last : Nat
  wait : List Datagram
  refresh : Bool
  deriving DecidableEq, Repr

/-- One network port (R361 to R367). -/
structure Port where
  arp : List ArpEntry := []
  resolve : List Resolve := []
  /-- the MAC address in force since the last link-up -/
  mac : Option (BitVec 48) := none
  deriving DecidableEq, Repr

/-- One distinct band stream of a piece: its band-table entry, the number, engine and bank it was given (R162), its holding bar
(R16), its dx cost (R129), the next line to decode, and the migration of R164. -/
structure BandRun where
  entry : Nat
  addr : Nat
  len : Nat
  width : Nat
  lines : Nat
  bars : List Nat
  hold : Nat
  cost : Nat
  num : Nat := 0
  engine : Nat := 0
  bank : Nat := 0
  /-- next line of the engine that writes up to CUT, or of the only engine -/
  next : Nat := 0
  /-- next line of the new engine while migrating, and CUT -/
  next2 : Nat := 0
  cut : Nat := 0
  old : Nat := 0
  oldBank : Nat := 0
  migrating : Bool := false
  /-- holds its number and bank -/
  live : Bool := false
  /-- lines marked bad, from and to below (R160, R161) -/
  bad : List (Nat × Nat) := []
  /-- a segment decoded again for a repeat (R421): next line, and the line after its last -/
  redo : Nat := 0
  redoEnd : Nat := 0
  /-- the move that an error in the engine's context store asked for is still to be made (R163) -/
  leave : Bool := false
  deriving DecidableEq, Repr

/-- Where a piece stands: queued, holding reservations (R131), admitted. -/
inductive Stage where
  | queued | reserved | admitted
  deriving DecidableEq, Repr

/-- One live field of one print of a piece, as rendered (R239, R244, R248, R250, R334): record ordinal, place, ink, raster (one
number a line, bit x its pixel x), text drawn, cause of failure (0: none), line from which the raster reads zero, the
raster's bytes in the field area, and the result of its verification. -/
structure FieldRun where
  index : Nat
  band : Nat
  x : Nat
  line : Nat
  ink : Nat
  paper : Nat
  opaq : Bool
  verify : Bool
  w : Nat := 0
  h : Nat := 0
  rows : List Nat := []
  text : List Nat := []
  failed : Nat := 0
  deadFrom : Option Nat := none
  bytes : Nat := 0
  result : Nat := 0
  deriving DecidableEq, Repr

/-- One print of a piece: its repeat, and its live fields as rendered, with the render record (R244, R252): the UTC second of
the sample instant and whether TB0 was usable. -/
structure Print where
  rep : Nat
  utc : Int
  usable : Bool
  fields : List FieldRun
  deriving DecidableEq, Repr

/-- One piece of the queue (R124 to R131, R139). -/
structure Piece where
  desc : List Byte
  stage : Stage := .queued
  /-- used channels and the band-table entry each prints (R125) -/
  chans : List (Nat × Nat) := []
  bands : List BandRun := []
  start : Option Nat := none
  latch : Nat := 0
  latchTime : Nat := 0
  compare : Option Nat := none
  begun : List Nat := []
  ended : List Nat := []
  /-- lines formed so far, by bar -/
  formed : Sparse Nat := []
  firstSeq : Nat := 0
  blanked : Nat := 0
  gap : Nat := 0
  /-- FLAGS of R139 so far -/
  flags : Nat := 0
  /-- verdict: rejected before the reject position -/
  rejected : Bool := false
  /-- repeats to print; none while endless (R121) -/
  repeats : Option Nat := none
  /-- positions at or above this are not printed (R221) -/
  cut : Option Nat := none
  aborted : Option Nat := none
  /-- reservations of R129: clk/s × 128 by bar, 640 × rate of the root, blocks by lane, bytes/s × LINES -/
  seqCost : List (Nat × Nat) := []
  rootCost : Nat × Nat := (0, 0)
  laneCost : List (Nat × Nat) := []
  hbmCost : Nat := 0
  poolCost : Nat := 0
  /-- prints rendered so far (R244) -/
  prints : List Print := []
  /-- the TB0 reading of a probe edge (R190, R244): UTC second and usable -/
  sample : Option (Int × Bool) := none
  /-- lateral shift by bar, in force when the piece began there (R226) -/
  lats : Sparse Int := []
  /-- 0x11 and such: refused by R123 once known -/
  fieldReject : Bool := false
  deriving DecidableEq, Repr

/-- A reject output that has been asked for (R122, R140): output, generator whose lines count, from and to positions, piece. -/
structure Reject where
  out : Nat
  tg : Nat
  from_ : Nat
  to_ : Nat
  piece : Nat
  /-- known to be rejected; the reject position has been reached and decided -/
  bad : Bool := false
  acted : Bool := false
  deriving DecidableEq, Repr

/-- A trigger a timing generator has raised and its bar has not taken yet (R203, R208): tick, overshoot as a fraction of a line. -/
structure Trigger where
  t : Nat
  num : Nat
  den : Nat
  count : Nat
  deriving DecidableEq, Repr

/-- The statistics of a formed line (R236, R396): its form point, its pieces, drops by channel, and what it added to the
history: row, bin, volume, and whether a code other than 0 was counted. -/
structure LineStat where
  formed : Nat
  pieces : List Nat
  drops : List (Nat × Nat)
  cells : List (Nat × Nat × Nat × Bool)
  deriving DecidableEq, Repr

/-- One timing generator and its bar (R202 to R221) beside their registers. -/
structure Tg where
  acc : Nat := 0
  accAt : Nat := 0
  trig : Option Trigger := none
  /-- the last triggers, tick and line, newest first (R190) -/
  trigs : List (Nat × Nat) := []
  /-- boundary of the last line in 1/256 tick, its trigger's tick, source and encoder direction changes then -/
  bound : Option Int := none
  lastTick : Nat := 0
  lastRoot : Nat := 0
  lastDirs : Nat := 0
  lseq : Nat := 0
  /-- last fire instant by channel (R211) -/
  fLast : Sparse Nat := []
  stopP : Option Nat := none
  blankEvent : Option Nat := none
  blankSince : Nat := 0
  /-- an underrun gap is open from a line (R23), and the line after the last line of the last back-to-back piece -/
  gapOpen : Bool := false
  gapFrom : Nat := 0
  endPos : Option Nat := none
  /-- the last line formed -/
  lastLine : Nat := 0
  offset : Nat := 0
  /-- the last lines formed, newest first (R396) -/
  recent : List LineStat := []
  /-- piece lines formed by the bar's delay-0 rows since Dawn, and update points done (R348) -/
  pieceLines : Nat := 0
  updates : Nat := 0
  /-- boundary of the last line that LINESYNC_OUT has pulsed for (R205) -/
  pulsed : Option Int := none
  deriving DecidableEq, Repr

/-- One decoded line in the raw line ring (R13). -/
structure RingLine where
  piece : Nat
  entry : Nat
  line : Nat
  data : List Byte
  bad : Bool := false
  deriving DecidableEq, Repr

/-- A completion record as written, and the descriptor its number keeps in use (R127). -/
structure Ended where
  num : Nat
  index : Nat
  desc : List Byte
  deriving DecidableEq, Repr

/-- The interval map of a data window (R135): written bytes as [from, to). -/
abbrev Written := List (Nat × Nat)

/-- What a DMA channel holds beside its registers (R143 to R147). -/
structure Dma where
  /-- fetched descriptor, bytes moved of it -/
  fetched : Bool := false
  moved : Nat := 0
  /-- PAUSED out of TAIL_WAIT -/
  tail : Bool := false
  deriving DecidableEq, Repr

/-- A decompressor's most recent line job (R166): band number, piece and band-table entry, its segment's lines from and to
below, the line, whether the segment's trailer has been checked, and the line that waits for P1 (R159). -/
structure DxJob where
  band : Nat
  piece : Nat
  entry : Nat
  from_ : Nat
  till : Nat
  line : Nat
  checked : Bool
  stalled : Option (List Byte) := none
  deriving DecidableEq, Repr

/-- One crop of an S1 stream (R331): bytes taken, piece, whether its input was cut, whether it is complete, first pixel, pixels,
planes, web position of its first line, lines planned and taken. -/
structure Crop where
  data : List Byte := []
  piece : Nat
  cut : Bool := false
  whole : Bool := false
  x0 : Nat
  w : Nat
  planes : Nat
  web : Int
  planned : Nat
  lines : Nat := 0
  deriving DecidableEq, Repr

/-- One compressor beside its registers (R167 to R173): crops waiting, the job's crop, output still to be written and how much has
been, the last descriptor used, the buffer open for a crop still arriving, and what OUT_WAIT waits for (1 a buffer, 2 a good descriptor). -/
structure Cx where
  crops : List Crop := []
  cur : Option Crop := none
  left : List Byte := []
  off : Nat := 0
  last : Option Nat := none
  buf : Option Nat := none
  wait : Nat := 0
  inBytes : Nat := 0
  outBytes : Nat := 0
  deriving DecidableEq, Repr

/-- What an evidence datagram of a marked buffer says of it (R332), kept for EVD_RESEND. -/
structure Evd where
  addr : Nat
  cp : Nat
  piece : Nat
  off : Nat
  x0 : Nat
  w : Nat
  h : Nat
  planes : Nat
  flags : Nat
  web : Int
  deriving DecidableEq, Repr

/-- One camera line as its pipeline has corrected it (R326): web position in 1/4096 line (none: no trigger), record number of its
frame, TB2 at its trigger, mean of the flicker strip, black level, and per plane sample v, reflectance in 8 bits and absb. -/
structure CamLine where
  pos : Option Int
  frame : Nat
  y : Nat
  t : Nat
  strip : Rat
  black : Rat
  v : List Rat
  refl : List Nat
  absb : List Nat
  /-- lines are missing just before it (R334) -/
  gap : Bool := false
  deriving DecidableEq, Repr

/-- Settings a camera is believed to apply from a frame on (R324, R325): ID, frame record it is believed to apply from, record
number of issue, exposure, and whether an answer to SET moved it. -/
structure Belief where
  sid : Nat
  from_ : Nat
  till : Nat
  issued : Nat
  expo : Nat
  told : Bool := false
  deriving DecidableEq, Repr

/-- A frame in progress (R319 to R325): CSI-2 number, base trigger, CPn_DELAY in force, lines kept (newest first), lines beyond H,
belief and reported ID with its source, flags, overflowed streams, first preview line and box sums. -/
structure CamFrame where
  num : Nat
  base : Nat
  delay : Int
  lines : List CamLine := []
  extra : Nat := 0
  lost : Bool := false
  transition : Bool := false
  belief : Option Belief := none
  told : Option Nat := none
  ovf : Nat := 0
  preview : Nat := 0
  /-- web position and TB2 of line 0, when its trigger is known -/
  line0 : Option (Int × Nat) := none
  boxes : List Nat := []
  boxLines : Nat := 0
  /-- lines kept when S0's buffer overflowed -/
  s0Cut : Option Nat := none
  s0bad : Bool := false
  deriving DecidableEq, Repr

/-- One camera pipeline beside its registers (R316 to R338). -/
structure Cam where
  /-- the last triggers, newest first: line position in 1/4096 and TB2; number of the next trigger since arming -/
  trigs : List (Int × Nat) := []
  count : Nat := 0
  /-- arming: the source's pin is held until this tick -/
  release : Option Nat := none
  base : Nat := 0
  lastNum : Nat := 0
  lastLines : Option Nat := none
  frame : Option CamFrame := none
  drop : Bool := false
  /-- share of a preview line owed, in 1/2000 (R427) -/
  share : Nat := 0
  /-- settings believed, newest first -/
  beliefs : List Belief := []
  /-- flicker: frequency in Hz, amplitudes for this frame, strip means of an area camera's last 16 frames -/
  freq : Rat := 0
  a : Rat := 0
  b : Rat := 0
  strips : List (Nat × Rat) := []
  crop : Option Crop := none
  /-- pieces whose crop has begun -/
  cropped : List Nat := []
  /-- the last lines, newest first (R334) -/
  kept : List CamLine := []
  /-- CAMCTL: tick the last message ends at, command awaiting its answer -/
  ctlEnd : Nat := 0
  wait : Option (Nat × Nat) := none
  pinged : Nat := 0
  /-- the next line kept follows missing ones -/
  gap : Bool := true
  deriving DecidableEq, Repr

/-- Accumulators of one S0 bin and plane (R347). -/
structure IronBin where
  nmat : List Rat := []
  bvec : List Rat := []
  cnt : Rat := 0
  deriving DecidableEq, Repr

/-- Registration sums of one bar (R353, R354): the first web line formed under the REG and the LAT in force. -/
structure RegSum where
  sxx : Rat := 0
  sex : Rat := 0
  syy : Rat := 0
  sey : Rat := 0
  freshX : Nat := 0
  freshY : Nat := 0
  fromX : Int := 0
  fromY : Int := 0
  deriving DecidableEq, Repr

/-- The Ironing loop (R345 to R355): accumulators by pipeline, bin and plane; estimates and VALID by pipeline, bin and ink; bins
beyond the gain limit by bar, pipeline and bin; registration sums by bar. -/
structure Iron where
  bins : Sparse IronBin := []
  est : Sparse (Rat × Bool) := []
  limits : List (Nat × Nat × Nat) := []
  regs : Sparse RegSum := []
  deriving DecidableEq, Repr

/-- The common stop (R219 to R221). -/
structure Stop where
  active : Bool := false
  /-- fault-class conditions that asked for the stop: code and SOURCE -/
  faults : List (Nat × Nat) := []
  deriving DecidableEq, Repr

/-- One encoder beside its registers (R175 to R189): the levels of A and B, the extreme of R179, the extreme-making edges still
needed (tick and position, newest last), the last positions (tick and true position, newest first), and the index check. -/
structure Enc where
  a : Bool := false
  b : Bool := false
  ext : Nat := 0
  edges : List (Nat × Nat) := []
  sinceReset : Nat := 0
  lastExt : Nat := 0
  hist : List (Nat × Nat) := []
  lastZ : Option Nat := none
  turned : Bool := false
  illegal : Bool := false
  e1 : Nat := 0
  cross : Bool := false
  deriving DecidableEq, Repr

/-- One divided output (R197): accumulator, tick of the last output count given a place, ticks of those still to come. -/
structure Encout where
  acc : Nat := 0
  last : Option Nat := none
  slots : List Nat := []
  deriving DecidableEq, Repr

/-- One entry of the mending list (R299), the number of the list change that made it, and whether NOT_DARNABLE was sent. -/
structure Mend where
  nozzle : Nat
  source : Nat
  pinned : Bool := false
  ambig : Bool := false
  method : Nat := 0
  passes : Nat := 0
  listed : Nat := 0
  since : Nat := 0
  told : Bool := false
  deriving DecidableEq, Repr

/-- A nozzle that has left the list (R305, R307): list changes from and to, its bar's line count then. -/
structure Unlisted where
  nozzle : Nat
  since : Nat
  till : Nat
  line : Nat
  deriving DecidableEq, Repr

/-- A gate test fired and not yet classified (R291, R292). -/
structure TestShot where
  nozzle : Nat
  fire : Nat
  base : Nat
  noise : Nat
  aref : Nat
  deriving DecidableEq, Repr

/-- A stored set of gate trims (R296): temperature in 1/16 °C, OFFSET, GAIN, AREF. -/
structure GateSet where
  temp : Int
  offset : Nat
  gain : Nat
  aref : Nat
  deriving DecidableEq, Repr

/-- One gate beside its registers (R290 to R296). -/
structure Gate where
  shots : List TestShot := []
  /-- fire instants of its bars' channels, newest first -/
  fires : List Nat := []
  /-- amplitudes of the last 1,024 tests, newest first -/
  amps : List Nat := []
  bins : List Nat := []
  /-- nozzles queued at priority 2 -/
  queue : List Nat := []
  trimAt : Nat := 0
  /-- when the baseline histogram last began afresh (R294) -/
  stepAt : Nat := 0
  sets : List GateSet := []
  deriving DecidableEq, Repr

/-- The mending list and what goes with it (R299 to R309): fail runs, ticks of last tests, carry in eighths by nozzle, streak
counts by ink and bar column. -/
structure Darn where
  list : List Mend := []
  gone : List Unlisted := []
  change : Nat := 0
  runs : Sparse Nat := []
  tested : Sparse Nat := []
  carry : Sparse Nat := []
  streaks : Sparse Nat := []
  deriving DecidableEq, Repr

/-- A spit burst of a channel (R288): lines left, lines fired. -/
structure Burst where
  left : Nat := 0
  n : Nat := 0
  deriving DecidableEq, Repr

/-- The rinse windows of a bar (R285 to R288). -/
structure Rinse where
  /-- STOPPED set at this tick, park window not yet opened -/
  parkFrom : Option Nat := none
  /-- park window 1, idle window 2 -/
  window : Nat := 0
  left : Nat := 0
  /-- when the last idle window or the park ended -/
  idleAt : Nat := 0
  /-- park clock accumulator, in 1/256 tick × RATE, and when it was last advanced -/
  clockAt : Nat := 0
  bursts : Sparse Burst := []
  /-- lines of the bar of any kind so far, and at each channel's last burst -/
  lines : Nat := 0
  fresh : Sparse Nat := []
  /-- form points of the bar: line count and list change, newest first (R307) -/
  forms : List (Nat × Nat) := []
  /-- one more than the last line with a piece line of each channel (R285) -/
  used : Sparse Nat := []
  deriving DecidableEq, Repr

/-- A fire marker planned on a lane (R212, R213): departure reference in ps, boundary and residual. -/
structure Marker where
  bar : Nat
  count : Nat
  lseq : Nat
  ord : Nat
  fire : Nat
  sp : Int
  k : Int := 0
  q : Nat := 0
  excess : Int := 0
  deriving DecidableEq, Repr

/-- One channel of a line in flight: lane, marker ordinal, fire instant, piece, frame bytes. -/
structure FlightCh where
  chan : Nat
  lane : Nat
  ord : Nat
  fire : Nat
  piece : Nat
  frame : List Byte
  deriving DecidableEq, Repr

/-- A line in flight (R9, R10): from its form point until its last marker has left or it is blank. -/
structure Flight where
  bar : Nat
  count : Nat
  lseq : Nat
  formed : Nat
  lp : Nat
  rinse : Bool
  chans : List FlightCh
  pieces : List Nat
  /-- counted blank once (R215) -/
  blank : Bool := false
  deriving DecidableEq, Repr

/-- A set of receiver trims (R281, R314): temperature in 1/16 °C, rate, phase, offset, CTLE, DFE 1–5, area. -/
structure TrimSet where
  temp : Int
  rate : Nat
  trims : List Int
  area : Nat
  deriving DecidableEq, Repr

/-- The trims of one receiver (R280, R281). -/
structure Rx where
  trims : List Int := []
  next : Nat := 0
  trimAt : Nat := 0
  stepAt : Nat := 0
  sets : List TrimSet := []
  deriving DecidableEq, Repr

/-- One head lane beside its registers (R254 to R284). -/
structure Lane where
  since : Nat := 0
  /-- a configuration is loaded: its CFG_CRC -/
  cfgCrc : Option Nat := none
  /-- control message awaiting its answer, and when it was last sent -/
  wait : Option Nat := none
  sentAt : Nat := 0
  /-- step of EXCHANGE: 0 CAP awaited, 1 CFG_END sent, 2 RATE sent, 3 second CFG_END sent, 4 calibrating, 5 GO sent -/
  stage : Nat := 0
  rateInUse : Nat := 0
  fast : Bool := false
  heldByHost : Bool := false
  fails : Nat := 0
  phase : Nat := 0
  lost : Bool := false
  rejectedAt : Option Nat := none
  activeAt : Nat := 0
  calAt : Option Nat := none
  crcSum : Nat := 0
  crcAt : Option Nat := none
  rx : Rx := {}
  plan : List Marker := []
  deriving DecidableEq, Repr

/-- A row of the fired-coverage history (R341, R342): bar, row number, flags, and per bin the sum of VOL and whether a code
other than 0 was counted. -/
structure HistRow where
  bar : Nat
  row : Nat
  double : Bool := false
  blanked : Bool := false
  late : Bool := false
  cells : Sparse (Nat × Bool) := []
  deriving DecidableEq, Repr

/-- A non-DATA mismatch waiting for its replay (R390). -/
structure Mismatch where
  lane : Nat
  bar : Nat
  lseq : Nat
  a : Nat
  b : Nat
  deriving DecidableEq, Repr

/-- One sequencer beside its registers (R386 to R401): ticks of its strikes and of its giving up, the next slice, a priority
cycle running, aborted by the host and not yet joined (R400), a failed sole sequencer (R394), the tick its recovery cycle began
at, and ticks it has been ACTIVE. -/
structure Seq where
  strikes : List Nat := []
  giveups : List Nat := []
  slice : Nat := 0
  priority : Bool := false
  joining : Bool := false
  failed : Bool := false
  cycleFrom : Nat := 0
  active : Nat := 0
  deriving DecidableEq, Repr

/-- One entry of a correctable-error table (R415, R423): its slot, address, HARD, tick of its last correction, bit of the last
error, corrections (saturating at 255), and TB2 in whole seconds at the first and the last. -/
structure Ce where
  slot : Nat
  addr : Word
  hard : Bool
  at_ : Nat
  bit : Nat
  count : Nat := 1
  first : Nat := 0
  last : Nat := 0
  deriving DecidableEq, Repr

/-- The memory's error state (R415 to R420): tables by class, remapped HBM blocks and SRAM words in spare order, each with
whether Dawn BIST found it, addresses
whose remap found no entry, uncontained uncorrectable errors (class, address, key of the data), refreshes owed by pseudo-channel
and bank, refreshes made, the row each bank keeps open (one more than its number), retraining pauses: when the last began, when
it had fallen due and whether the wait for the next has been counted, and requesters throttled with the tick each throttle ends. -/
structure Mem where
  ces : Sparse (List Ce) := []
  hbmMap : List (Word × Bool) := []
  sramMap : List (Word × Bool) := []
  waiting : List (Nat × Word) := []
  bad : List (Nat × Word × Nat) := []
  owed : Sparse Nat := []
  refreshes : Sparse Nat := []
  openRows : Sparse Nat := []
  lastRetrain : Nat := 0
  trainFrom : Nat := 0
  waited : Bool := false
  /-- spares that failed their march and were withdrawn: class 0 HBM, 1 SRAM, and the SRAM instance (R458) -/
  withdrawn : List (Nat × Nat) := []
  throttles : List (Nat × Nat) := []
  deriving DecidableEq, Repr

/-- The JTAG port (R461): the instruction loaded, the boundary cells as last shifted in, the bypass bit, and the last memory access. -/
structure Jtag where
  ir : Nat := 1
  cells : BitVec 24 := 0
  bypass : Bool := false
  mem : Nat := 0
  deriving DecidableEq, Repr

/-- What the module puts on its lands, in order. -/
inductive Output where
  /-- a UDP datagram: port, destination MAC (none: that of the request's frame), datagram -/
  | udp (mac : Option (BitVec 48)) (d : Datagram)
  | arpRequest (np : Nat) (tpa : Word)
  /-- an ARP reply: the frame's destination, and the address answered (R366) -/
  | arpReply (np : Nat) (dst tha : BitVec 48) (tpa : Word)
  | gratuitousArp (np : Nat)
  | icmpReply (np : Nat) (mac : BitVec 48) (ip : Word) (ident seq : BitVec 16) (data : List Byte)
  /-- a PTP message: port, instance, messageType, sequenceId, the time it carries and its correctionField in 2^−16 ns, the
  requesting port of a response, the dataset of an Announce (R368, R371) -/
  | ptp (np inst type : Nat) (seq : BitVec 16) (t correction : Int) (req : Option (BitVec 64 × BitVec 16))
      (ann : Option AnnounceData)
  /-- a JTAG data register shifted out -/
  | jtag (ir : Nat) (dr : List Bool)
  /-- a reject output driven active for lines [from, to) of a generator (R122, R140) -/
  | reject (out tg from_ to_ : Nat)
  /-- a compare unit's reject: unit, output, reference positions from and to (R194) -/
  | cmpReject (unit out from_ to_ : Nat)
  /-- a count of a divided output, forward or back, at a tick (R197) -/
  | encout (n : Nat) (forward : Bool) (tick : Nat)
  /-- a line frame on a lane: its bytes (R259) -/
  | frame (lane : Nat) (bytes : List Byte)
  /-- a fire marker on a lane: departure in ps, residual, bar, low 8 bits of LSEQ (R261) -/
  | marker (lane : Nat) (ps : Int) (residual bar lseq : Nat)
  /-- a control message on a lane: MSG and its payload (R272) -/
  | control (lane msg : Nat) (payload : List Byte)
  /-- a burst of 64 echo requests (R264) -/
  | echoes (lane : Nat)
  /-- a lane sends training sets at a rate (R270) -/
  | training (lane rate : Nat) (fast : Bool)
  /-- a pulse on LINESYNC_OUT at a tick (R205) -/
  | linesync (tick : Nat)
  /-- a message on CAMCTLn_TX (R322) -/
  | camctl (n : Nat) (bytes : List Byte)
  /-- a pulse on a time-pulse output -/
  | timePulse (p : Nat) (late : Bool)
  deriving DecidableEq, Repr

/-- The state. -/
structure State where
  /-- ticks of 5 ns since VAUX became valid (assumption 1) -/
  time : Nat := 0
  /-- the register space and the tables: address and word, unlisted reads as after Dawn (R8) -/
  regs : Sparse Word := []
  /-- pending words of RWS fields (R6) -/
  pendw : Sparse Word := []
  /-- usable HBM: job store, staging area (R75) -/
  hbm : Sparse Byte := []
  /-- the configuration flash (R60) -/
  flash : Sparse Byte := []
  pow : Power := {}
  nvm : Nvm := {}
  therm : Therm := {}
  subs : Sparse Sub := []
  held : List Held := []
  fwds : List Fwd := []
  followers : Sparse Follower := []
  /-- condition events whose cause is active: code and SOURCE (R101) -/
  conds : List (Nat × Nat) := []
  spans : Spans := {}
  tbs : Sparse TimeBase := []
  /-- PTP ports by 2 × instance + port -/
  ptp : Sparse PtpPort := []
  /-- the next scheduled time of each time pulse (R381) -/
  tps : Sparse Nat := []
  ports : Sparse Port := []
  /-- the register words as Dawn left them: in force for fields that take effect at the next Dawn -/
  conf : Sparse Word := []
  pieces : List Piece := []
  ended : List Ended := []
  rejects : List Reject := []
  tgs : Sparse Tg := []
  ring : List RingLine := []
  windows : Sparse Written := []
  dma : Sparse Dma := []
  /-- most recent line job by engine -/
  dx : Sparse (Option DxJob) := []
  /-- key slots: 32 bytes each (R155) -/
  keys : Sparse (List Byte) := []
  cx : Sparse Cx := []
  stop : Stop := {}
  encs : Sparse Enc := []
  /-- line-generator accumulators, 48.32 (R185) -/
  lgs : Sparse Nat := []
  encouts : Sparse Encout := []
  /-- tick of each probe's last accepted edge (R190) -/
  probes : Sparse (Option Nat) := []
  mem : Mem := {}
  darn : Darn := {}
  gates : Sparse Gate := []
  rinses : Sparse Rinse := []
  lanes : Sparse Lane := []
  /-- the camera lanes' receivers (R314) -/
  camRx : Sparse Rx := []
  /-- the tick of each channel's last head report (R269) -/
  reports : Sparse Nat := []
  /-- heads by channel (R434) -/
  heads : Sparse Head := []
  /-- the tick of the last in-service BIST slice by 16 × unit + index (R458) -/
  slices : Sparse Nat := []
  flights : List Flight := []
  hist : List HistRow := []
  cams : Sparse Cam := []
  iron : Iron := {}
  /-- evidence of marked buffers, newest first (R332) -/
  evd : List Evd := []
  /-- pieces with EVIDENCE that have ended, with their start positions (R331) -/
  evid : List (Nat × Nat × Nat × Nat) := []
  seqs : Sparse Seq := []
  /-- non-DATA mismatches that wait for their replay, oldest first (R390) -/
  mismatches : List Mismatch := []
  /-- completed pieces with VERIFY fields that have no result yet (R334, R335) -/
  verify : List Piece := []
  /-- lifetime counts by offset in the record of R448 -/
  life : Sparse Nat := []
  /-- sub-second remainders of the counts of seconds, by offset -/
  lifeRem : Sparse Nat := []
  jtag : Jtag := {}
  /-- units that have failed a built-in self-test since the last Dawn began: code and index (R457) -/
  unitsBad : List (Nat × Nat) := []
  /-- the tick a loop-back began at: 0–15 head lanes, 16–19 camera lanes, 20 the MFP pair, 21–22 network ports (R384, R460) -/
  loops : Sparse Nat := []
  /-- everything sent, oldest first -/
  out : List Output := []
  /-- draws of free values so far -/
  free : Nat := 0
  /-- commands waiting, first in, first out -/
  pending : List Instr := []
  deriving DecidableEq, Repr

/-- Why a step faults. -/
inductive Fault where
  /-- Raised by a meaning whose operands no wire of the module can carry (WellFormed refuses the command). Safe. -/
  | illFormed
  deriving DecidableEq, Repr

/-- Why a command is refused. -/
inductive Refusal where
  /-- Raised by Dispatch for a command with no meaning yet. Safe. -/
  | notModelled (mnemonic : String)
  deriving DecidableEq, Repr

/-- The module as VAUX, VIN and VIO have just become valid, before the first Dawn (R38, R71 step 0): nothing configured, the
flash erased, no command waiting. -/
def State.reset : State := {}

end Sys2Proof.Machine
end

