-- ==== Sys2Proof/Machine/Ops.lean ====
section
/-! DEFINITION. The named operations over State: sparse memories, registers and their fields, counters, free values, the
lifetime counts, what leaves by a network port, and raising an event. -/

namespace Sys2Proof.Machine

/-- The outcome of a command. -/
abbrev Outcome := Host.Outcome State Fault Refusal

/-! ## Sparse memories -/

/-- The value listed at a key. -/
def Sparse.find {α : Type} : Sparse α → Nat → Option α
  | [], _ => none
  | (k, v) :: t, a => if k = a then some v else Sparse.find t a

/-- The cells of a run of values from key `a` up, those equal to `d` left out. -/
def Sparse.cells {α : Type} [DecidableEq α] (d : α) : Nat → List α → Sparse α
  | _, [] => []
  | a, v :: vs => if v = d then Sparse.cells d (a + 1) vs else (a, v) :: Sparse.cells d (a + 1) vs

/-- Writes a run of values from key `a` up. -/
def Sparse.splice {α : Type} [DecidableEq α] (d : α) (m : Sparse α) (a : Nat) (vs : List α) : Sparse α :=
  m.filter (fun c => decide (c.1 < a)) ++ Sparse.cells d a vs ++ m.filter (fun c => decide (a + vs.length ≤ c.1))

/-- What a key reads as, `d` where unlisted. -/
def Sparse.get {α : Type} (d : α) (m : Sparse α) (k : Nat) : α := (Sparse.find m k).getD d

/-- Writes one key. -/
def Sparse.set {α : Type} [DecidableEq α] (d : α) (m : Sparse α) (k : Nat) (v : α) : Sparse α := Sparse.splice d m k [v]

/-- Changes one key. -/
def Sparse.upd {α : Type} [DecidableEq α] (d : α) (m : Sparse α) (k : Nat) (f : α → α) : Sparse α :=
  Sparse.set d m k (f (Sparse.get d m k))

/-- Makes the keys from `a` to below `b` read as unlisted. -/
def Sparse.clear {α : Type} (m : Sparse α) (a b : Nat) : Sparse α :=
  m.filter (fun c => decide (c.1 < a) || decide (b ≤ c.1))

/-- The run of `n` values from key `a`. -/
def Sparse.range {α : Type} (d : α) (m : Sparse α) (a n : Nat) : List α :=
  let near := m.filter (fun c => decide (a ≤ c.1 ∧ c.1 < a + n))
  (List.range n).map (fun i => Sparse.get d near (a + i))

/-- The canonical form, as a check: keys strictly rising from `lo`, no value equal to `d`. -/
def Sparse.wfFrom {α : Type} [DecidableEq α] (d : α) : Nat → Sparse α → Bool
  | _, [] => true
  | lo, (k, v) :: t => decide (lo ≤ k) && decide (v ≠ d) && Sparse.wfFrom d (k + 1) t

/-- The canonical form of a byte memory whose unlisted bytes read as `d`. -/
def Memory.wf (d : Byte) (m : Sparse Byte) : Bool := Sparse.wfFrom d 0 m

/-! ## Numbers -/

/-- The bits of `v` from `lo`, `w` of them. -/
def bits (v lo w : Nat) : Nat := v / 2 ^ lo % 2 ^ w

/-- `v` with its bits from `lo`, `w` of them, set to those of `x`. -/
def withBits (v lo w x : Nat) : Nat := v / 2 ^ (lo + w) * 2 ^ (lo + w) + x % 2 ^ w * 2 ^ lo + v % 2 ^ lo

/-- The bit `i` of `v`. -/
def bit (v i : Nat) : Bool := v / 2 ^ i % 2 == 1

/-- The two's complement number of `w` bits that `v` holds. -/
def signed (w v : Nat) : Int := if v % 2 ^ w < 2 ^ (w - 1) then (v % 2 ^ w : Int) else (v % 2 ^ w : Int) - 2 ^ w

/-- The low `w` bits of an integer in two's complement. -/
def unsigned (w : Nat) (v : Int) : Nat := (v % 2 ^ w).toNat

/-- 1 for true. -/
def b2n (b : Bool) : Nat := if b then 1 else 0

/-- Clamp to an interval. -/
def clampI (lo hi v : Int) : Int := max lo (min hi v)

/-- A quotient the spec does not round: exact where it is whole, else one of its two neighbours (assumption 8). -/
def divOpen (site : Nat) (n d : Int) : Int :=
  if n % d = 0 then n / d else if Config.roundUp site n d then n / d + 1 else n / d

/-- A quotient of naturals the spec does not round. -/
def divOpenN (site n d : Nat) : Nat := (divOpen site n d).toNat

/-- A whole number at a fraction the spec does not round (assumption 8). -/
def ratOpen (site : Nat) (x : Rat) : Int := divOpen site x.num x.den

/-- A quotient rounded to the nearest, halves up. -/
def divNear (n d : Int) : Int := (2 * n + d) / (2 * d)

/-! ## Registers -/

/-- Fixed values after Dawn that differ between the members of a family (R253, R361, R364, R373, R174). -/
def indexDefault (a : Nat) : Option Word :=
  if a = R.NP_CFG 0 then some 0x5EEA
  else if a = R.NP_IP 0 then some 0xA9FE0002
  else if a = R.NP_IP 1 then some 0xA9FE0102
  else if a = R.NP_MAC_LO 0 then some (BitVec.ofNat 32 (Config.factoryMac 0).toNat)
  else if a = R.NP_MAC_LO 1 then some (BitVec.ofNat 32 (Config.factoryMac 1).toNat)
  else if a = R.NP_MAC_HI 0 then some (BitVec.ofNat 32 ((Config.factoryMac 0).toNat / 2 ^ 32))
  else if a = R.NP_MAC_HI 1 then some (BitVec.ofNat 32 ((Config.factoryMac 1).toNat / 2 ^ 32))
  else if a = R.TB_CFG 0 then some 0x3C051
  else if a = R.CX_CFG 1 then some 0x81
  else if a = R.CX_CFG 2 then some 0x82
  else if a = R.CX_CFG 3 then some 0x83
  else none

/-- The word the rows of a family give after Dawn. -/
def rowsDefault (rows : List FieldRow) : Nat := rows.foldl (fun v r => v + r.dflt * 2 ^ r.lo) 0

/-- What a location of a table window reads as when nothing was written to it (R228 to R232, R327, R359). -/
def tableDefault (a : Nat) : Word :=
  if 0x41000000 ≤ a ∧ a < 0x41400000 then 0x80
  else if 0x41800000 ≤ a ∧ a < 0x41810000 then BitVec.ofNat 32 (a % 0x1000 / 4)
  else if 0x41810000 ≤ a ∧ a < 0x41812000 then 0xFFFFFFFF
  else if 0x42000000 ≤ a ∧ a < 0x43000000 then 0x3FFFFFFF
  else if 0x46080000 ≤ a ∧ a < 0x46100000 then (if a % 8 = 0 then 0xFFF0FFF0 else 0xFFF0)
  else if 0x4A000000 ≤ a ∧ a < 0x4A002000 then BitVec.ofNat 32 ((2046 * (a % 0x400 / 4) + 255) / 510)
  else 0

/-- What a location of the register space reads as when nothing was written to it (R8). -/
def regDefault (a : Nat) : Word :=
  if 0x40000000 ≤ a then tableDefault a
  else match indexDefault a with
    | some w => w
    | none => match famOf a with
      | some f => BitVec.ofNat 32 (rowsDefault f.rows)
      | none => 0

/-- The word stored at a register or table location. -/
def State.word (s : State) (a : Nat) : Word :=
  match Sparse.find s.regs a with
  | some w => w
  | none => regDefault a

/-- Stores a word. -/
def State.setWord (s : State) (a : Nat) (w : Word) : State :=
  { s with regs := Sparse.splice (regDefault a) s.regs a [w] }

/-- The value of a field. -/
def State.rd (s : State) (f : Field) : Nat := bits (s.word f.addr).toNat f.lo f.width

/-- A one-bit field as a Bool. -/
def State.flag (s : State) (f : Field) : Bool := s.rd f == 1

/-- The value of a signed field. -/
def State.rdI (s : State) (f : Field) : Int := signed f.width (s.rd f)

/-- Sets a field. -/
def State.wr (s : State) (f : Field) (v : Nat) : State :=
  s.setWord f.addr (BitVec.ofNat 32 (withBits (s.word f.addr).toNat f.lo f.width v))

/-- Sets a signed field. -/
def State.wrI (s : State) (f : Field) (v : Int) : State := s.wr f (unsigned f.width v)

/-- Sets a one-bit field. -/
def State.wrB (s : State) (f : Field) (b : Bool) : State := s.wr f (b2n b)

/-- Adds to a counter; the counter wraps (assumption 2). -/
def State.add (s : State) (f : Field) (n : Nat) : State := s.wr f (s.rd f + n)

/-- Adds to a saturating counter. -/
def State.addSat (s : State) (f : Field) (n : Nat) : State := s.wr f (min (2 ^ f.width - 1) (s.rd f + n))

/-- Counts one. -/
def State.inc (s : State) (f : Field) : State := s.add f 1

/-- The value of a pair of LO and HI fields. -/
def State.rdW (s : State) (lo hi : Field) : Nat := s.rd lo + 2 ^ 32 * s.rd hi

/-- Sets a pair of LO and HI fields. -/
def State.wrW (s : State) (lo hi : Field) (v : Nat) : State := (s.wr lo (v % 2 ^ 32)).wr hi (v / 2 ^ 32)

/-- The pending word of the RWS fields of a register; none when nothing is pending (R6). -/
def State.pendWord (s : State) (a : Nat) : Option Word := Sparse.find s.pendw a

/-- The value of an RWS field that counts for a rule naming pending values: pending if there is one, else in force. -/
def State.eff (s : State) (f : Field) : Nat :=
  match s.pendWord f.addr with
  | some w => bits w.toNat f.lo f.width
  | none => s.rd f

/-- The mask of a family's fields with one of the access codes. -/
def accMask (rows : List FieldRow) (p : Acc → Bool) : Nat :=
  rows.foldl (fun v r => if p r.acc then v + (2 ^ r.width - 1) * 2 ^ r.lo else v) 0

/-- The bits of `new` under the mask, the bits of `old` elsewhere. -/
def mix (mask : Nat) (old new : Word) : Word :=
  (old &&& ~~~(BitVec.ofNat 32 mask)) ||| (new &&& BitVec.ofNat 32 mask)

/-- Lists a value at a key, whatever the value. -/
def Sparse.put {α : Type} (m : Sparse α) (k : Nat) (v : α) : Sparse α :=
  m.filter (fun c => decide (c.1 < k)) ++ (k, v) :: m.filter (fun c => decide (k < c.1))

/-- Makes a word the pending word of a register (R6). -/
def State.setPend (s : State) (a : Nat) (w : Word) : State := { s with pendw := Sparse.put s.pendw a w }

/-- Brings the pending RWS fields of a register into force (R6). -/
def State.applyPend (s : State) (a : Nat) : State :=
  match s.pendWord a, famOf a with
  | some w, some f =>
    { s.setWord a (mix (accMask f.rows (· == .rws)) (s.word a) w) with pendw := Sparse.clear s.pendw a (a + 1) }
  | _, _ => s

/-! ## Time, free values, output -/

/-- Ticks in a number of microseconds. -/
def usTicks (n : Nat) : Nat := n * 200

/-- Ticks in a number of seconds. -/
def secTicks (n : Nat) : Nat := n * 200000000

/-- A value the spec leaves open: the next draw of its site (assumption 3). -/
def State.draw (s : State) (site : Nat) : Nat := Config.freeNat site s.free

/-- The state with one draw used. -/
def State.drawn (s : State) : State := { s with free := s.free + 1 }

/-- Puts something on the lands. -/
def State.emit (s : State) (o : Output) : State := { s with out := s.out ++ [o] }

/-- The module is at work now (R81). -/
def State.busy (s : State) : State := { s with pow := { s.pow with lastBusy := s.time } }

/-- TB2 in ns (R373). -/
def State.tb2 (s : State) : Nat := (Sparse.get {} s.tbs 2).ns

/-- One lifetime count grows by `n`, saturating at its width in bytes (R447, R448). -/
def State.lifeAdd (s : State) (off width n : Nat) : State :=
  { s with life := Sparse.set 0 s.life off (min (2 ^ (8 * width) - 1) (Sparse.get 0 s.life off + n)) }

/-- One lifetime maximum. -/
def State.lifeMax (s : State) (off n : Nat) : State :=
  { s with life := Sparse.set 0 s.life off (max (Sparse.get 0 s.life off) n) }

/-- The core runs and serves messages (R74, R80, R82). -/
def State.awake (s : State) : Bool :=
  match s.pow.phase with
  | .day | .dusk => true
  | _ => false

/-- The core is at work: Day, Dusk, and the entry to Night. -/
def State.coreOn (s : State) : Bool := s.awake || s.pow.phase == .nightEntry

/-- The module is in service (R429). -/
def State.inService (s : State) : Bool := s.coreOn && !s.flag R.TEST_STATE_TEST

/-- The core runs, in service or in the maintenance state. -/
def State.powered (s : State) : Bool :=
  match s.pow.phase with
  | .day | .dusk | .nightEntry | .maint => true
  | _ => false

/-- A unit of R455 has failed a self-test: it is out of use until the next Dawn (R457). -/
def State.unitBad (s : State) (unit index : Nat) : Bool := s.unitsBad.contains (unit, index)

/-! ## What leaves by a network port (R364 to R366) -/

/-- One network port. -/
def State.port (s : State) (np : Nat) : Port := Sparse.get {} s.ports np

/-- Changes one network port. -/
def State.onPort (s : State) (np : Nat) (f : Port → Port) : State := { s with ports := Sparse.upd {} s.ports np f }

/-- The port's own IPv4 address; fixed in the maintenance state (R74, R364). -/
def State.ownIp (s : State) (np : Nat) : Word :=
  match s.pow.phase with
  | .maint => if np = 0 then 0xA9FE0002 else 0xA9FE0102
  | _ => BitVec.ofNat 32 (s.rd (R.NP_IP_IP np))

/-- The address to resolve for a destination: itself inside the subnet, the gateway outside; none with a gateway of 0 (R364). -/
def State.nextHop (s : State) (np : Nat) (ip : Word) : Option Word :=
  let mask := BitVec.ofNat 32 (s.rd (R.NP_MASK_MASK np))
  if ip &&& mask = s.ownIp np &&& mask then some ip
  else if s.rd (R.NP_GW_GW np) = 0 then none
  else some (BitVec.ofNat 32 (s.rd (R.NP_GW_GW np)))

/-- A cache entry has expired (R366). -/
def State.arpOld (s : State) (e : ArpEntry) : Bool := decide (e.at_ + secTicks (s.rd R.ARP_CFG_AGE) ≤ s.time)

/-- Starts resolving an address, or lets one more datagram wait for the answer (R366). -/
def State.resolve (s : State) (np : Nat) (hop : Word) (ds : List Datagram) (refresh : Bool) : State :=
  if (s.port np).resolve.any (fun r => r.ip == hop) then
    s.onPort np (fun p => { p with resolve := p.resolve.map (fun r =>
      if r.ip = hop then { r with wait := r.wait ++ ds, refresh := r.refresh && refresh } else r) })
  else
    ((s.onPort np (fun p => { p with resolve := p.resolve ++ [⟨hop, 1, s.time, s.time, ds, refresh⟩] })).emit
      (.arpRequest np hop)).inc (R.NP_TX_FRAMES_COUNT np)

/-- The port returns every received symbol to its link partner: it takes nothing in and sends nothing of its own (R384). -/
def State.farLoop (s : State) (np : Nat) : Bool := s.rd (R.NP_LB_DEPTH np) == 4

/-- The port carries frames: its link is up, and it does not return what it receives (R363, R384). -/
def State.carries (s : State) (np : Nat) : Bool := s.flag (R.NP_STATUS_LINK np) && !s.farLoop np

/-- Sends a datagram by the port its configuration names (R364, R366). A port that carries no frames sends nothing. -/
def State.send (s : State) (d : Datagram) : State :=
  if s.carries d.np then
    match s.nextHop d.np d.ip with
    | none => s.inc (R.NP_TX_DROP_COUNT d.np)
    | some hop =>
      match (s.port d.np).arp.find? (fun e => e.ip == hop) with
      | none => s.resolve d.np hop [d] false
      | some e =>
        let s1 := (s.emit (.udp (some e.mac) d)).inc (R.NP_TX_FRAMES_COUNT d.np)
        if s.arpOld e then s1.resolve d.np hop [] true else s1
  else s

/-- The 16-byte header of a management message (R88). -/
def header (type seq status flags len : Nat) : List Byte :=
  leBytes 2 0x4B46 ++ leBytes 1 1 ++ leBytes 1 type ++ leBytes 4 seq ++ leBytes 2 status ++ leBytes 2 flags ++ leBytes 4 len

/-! ## Events (R98 to R102, R466) -/

/-- An event of R101: its code and its class (0 info, 1 warning, 2 fault). -/
structure Event where
  code : Nat
  cls : Nat
  deriving DecidableEq, Repr

namespace Ev
abbrev DAWN_COMPLETE : Event := ⟨0x0001, 0⟩
abbrev DAWN_DEGRADED : Event := ⟨0x0002, 2⟩
abbrev NIGHT_EXIT : Event := ⟨0x0003, 0⟩
abbrev EVENTS_LOST : Event := ⟨0x0004, 1⟩
abbrev SUBSCRIBER_DROPPED : Event := ⟨0x0005, 1⟩
abbrev SET_MEMBER_LOST : Event := ⟨0x0006, 2⟩
abbrev CONFIG_WRITE : Event := ⟨0x0007, 0⟩
abbrev THROTTLE : Event := ⟨0x0101, 1⟩
abbrev ORDERLY_STOP : Event := ⟨0x0102, 2⟩
abbrev HEAD_SOFT_LIMIT : Event := ⟨0x0103, 1⟩
abbrev HEAD_HARD_LIMIT : Event := ⟨0x0104, 2⟩
abbrev TRIP_RECORDED : Event := ⟨0x0105, 2⟩
abbrev ACFAIL : Event := ⟨0x0106, 1⟩
abbrev VIN_WARNING : Event := ⟨0x0107, 1⟩
abbrev DIP_RIDDEN : Event := ⟨0x0108, 0⟩
abbrev CRC_MISMATCH : Event := ⟨0x0201, 1⟩
abbrev IMAGE_INVALID : Event := ⟨0x0202, 1⟩
abbrev VERIFY_FAIL : Event := ⟨0x0203, 2⟩
abbrev ERASE_FAIL : Event := ⟨0x0204, 2⟩
abbrev PROGRAM_FAIL : Event := ⟨0x0205, 2⟩
abbrev TEMP_DEFER : Event := ⟨0x0206, 1⟩
abbrev GEN_EXHAUSTED : Event := ⟨0x0207, 2⟩
abbrev STATE_WRITE_FAIL : Event := ⟨0x0208, 2⟩
abbrev COMMIT_DONE : Event := ⟨0x0209, 0⟩
abbrev PIN_CONFLICT : Event := ⟨0x0301, 1⟩
abbrev VIO_LOST : Event := ⟨0x0302, 2⟩
abbrev CEIL_ACTIVE : Event := ⟨0x0303, 1⟩
abbrev DIR : Event := ⟨0x0401, 0⟩
abbrev REVERSAL_ABORT : Event := ⟨0x0402, 1⟩
abbrev COMPARE_LATE : Event := ⟨0x0403, 0⟩
abbrev COMPARE_MISSED : Event := ⟨0x0404, 1⟩
abbrev INDEX_MISMATCH : Event := ⟨0x0405, 1⟩
abbrev ENC_FAILOVER : Event := ⟨0x0406, 1⟩
abbrev LINE_BLANKED : Event := ⟨0x0501, 1⟩
abbrev LEAD_LOW : Event := ⟨0x0502, 1⟩
abbrev MODE_APPLIED : Event := ⟨0x0503, 0⟩
abbrev COMMON_STOP : Event := ⟨0x0504, 2⟩
abbrev SEQ_MISMATCH : Event := ⟨0x0601, 1⟩
abbrev FAILOVER : Event := ⟨0x0602, 1⟩
abbrev HANDBACK : Event := ⟨0x0603, 0⟩
abbrev SEQ_RETIRED : Event := ⟨0x0604, 2⟩
abbrev HOLDOVER_DATE : Event := ⟨0x0701, 1⟩
abbrev FIELD_REJECT : Event := ⟨0x0702, 1⟩
abbrev NOZZLE_MENDED : Event := ⟨0x0801, 0⟩
abbrev NOZZLE_RECOVERED : Event := ⟨0x0802, 0⟩
abbrev MENDING_FULL : Event := ⟨0x0803, 2⟩
abbrev NOT_DARNABLE : Event := ⟨0x0804, 1⟩
abbrev FRAME_SHORT : Event := ⟨0x0901, 1⟩
abbrev FRAME_LONG : Event := ⟨0x0902, 1⟩
abbrev STREAM_OVERFLOW : Event := ⟨0x0903, 1⟩
abbrev SETTINGS_MISMATCH : Event := ⟨0x0904, 0⟩
abbrev CODE_FAIL : Event := ⟨0x0905, 1⟩
abbrev GAIN_AT_LIMIT : Event := ⟨0x0A01, 1⟩
abbrev REGISTRATION_LIMIT : Event := ⟨0x0A02, 1⟩
abbrev LANE_SWITCHED : Event := ⟨0x0B01, 1⟩
abbrev LANE_DOWN : Event := ⟨0x0B02, 2⟩
abbrev HEAD_CRC_REPORT : Event := ⟨0x0B03, 1⟩
abbrev ECHO_DRIFT : Event := ⟨0x0B04, 1⟩
abbrev LINK_DOWN : Event := ⟨0x0C01, 1⟩
abbrev PTP_UNLOCKED : Event := ⟨0x0C02, 1⟩
abbrev TIME_JUMP_REFUSED : Event := ⟨0x0C03, 1⟩
abbrev PIECE_DONE : Event := ⟨0x0D01, 0⟩
abbrev PIECE_REFUSED : Event := ⟨0x0D02, 1⟩
abbrev PIECE_UNDERRUN : Event := ⟨0x0D03, 1⟩
abbrev PIECE_ABORTED : Event := ⟨0x0D04, 1⟩
abbrev PIECE_REJECTED : Event := ⟨0x0D05, 0⟩
abbrev DESC_INVALID : Event := ⟨0x0D06, 1⟩
abbrev OVERLAP : Event := ⟨0x0D07, 1⟩
abbrev BAND_CRC_FAIL : Event := ⟨0x0E01, 1⟩
abbrev STREAM_BAD : Event := ⟨0x0E02, 1⟩
abbrev CX_STALL : Event := ⟨0x0E03, 1⟩
abbrev HARD_FAULT : Event := ⟨0x0F01, 1⟩
abbrev REMAP_FULL : Event := ⟨0x0F02, 1⟩
abbrev UNCORRECTABLE : Event := ⟨0x0F03, 2⟩
abbrev BIST_FAIL : Event := ⟨0x1001, 2⟩
end Ev

/-- One subscriber slot. -/
def State.sub (s : State) (k : Nat) : Sub := Sparse.get {} s.subs k

/-- Changes one subscriber slot. -/
def State.onSub (s : State) (k : Nat) (f : Sub → Sub) : State := { s with subs := Sparse.upd {} s.subs k f }

/-- The slot is filled and its masks select the event (R99). -/
def State.selects (s : State) (k : Nat) (e : Event) : Bool :=
  (s.rd (R.SUB_IP_IP k) != 0) && bit (s.rd (R.SUB_CFG_CLASSES k)) e.cls && bit (s.rd (R.SUB_GROUPS_GROUPS k)) (e.code / 256)

/-- The 24 bytes of an event record (R98). -/
def EvRec.bytes (r : EvRec) : List Byte :=
  leBytes 4 r.no ++ leBytes 2 r.code ++ leBytes 1 r.cls ++ leBytes 1 (b2n r.cleared) ++ leBytes 4 r.source.toNat ++
    leBytes 8 r.t ++ leBytes 4 r.arg.toNat

/-- Puts records at the end of a slot's queue. When the queue of 1,024 has no room, the oldest events make room for the
new one and for the EVENTS_LOST record that counts them (R100, assumption 4). -/
def Sub.push (q : Sub) (tb2 : Nat) (r : Nat → EvRec) : Sub × Nat :=
  if q.queue.length < 1024 then
    (⟨q.next + 1, q.queue ++ [r q.next]⟩, 0)
  else
    let n := q.queue.length - 1022
    (⟨q.next + 2, q.queue.drop n ++ [⟨q.next, 0x0004, 1, false, 0, tb2, BitVec.ofNat 32 n, none⟩, r (q.next + 1)]⟩, n)

/-- An event reaches the queue of one slot. -/
def State.enqueue (s : State) (e : Event) (source arg : Word) (cleared : Bool) (k : Nat) : State :=
  if s.selects k e then
    let q := (s.sub k).push s.tb2 (fun n => ⟨n, e.code, e.cls, cleared, source, s.tb2, arg, none⟩)
    (s.onSub k (fun _ => q.1)).add R.EVT_LOST_COUNT q.2
  else s

/-- The EVENT datagram of some records of a slot (R90, R100). The SEQ of an EVENT is the module's to choose. -/
def State.eventDatagram (s : State) (k : Nat) (rs : List EvRec) : Datagram :=
  ⟨s.rd (R.SUB_CFG_NP k), BitVec.ofNat 32 (s.rd (R.SUB_IP_IP k)), 41002, s.rd (R.SUB_CFG_PORT k),
    header 0x20 (s.draw 1) 0 0 (24 * rs.length) ++ rs.flatMap EvRec.bytes⟩

/-- Sends the records of a slot that the test picks, at most 60 in one EVENT message, and stamps them (R100). They wait while the
slot's port carries no frames (R71, step 8). -/
def State.sendEvents (s : State) (k : Nat) (pick : EvRec → Bool) : State :=
  let rs := ((s.sub k).queue.filter pick).take 60
  if rs.isEmpty ∨ !s.carries (s.rd (R.SUB_CFG_NP k)) then s
  else
    let last := (rs.getLast?.map (·.no)).getD 0
    ((s.send (s.eventDatagram k rs)).drawn).onSub k (fun q => { q with queue := q.queue.map (fun r =>
      if pick r && decide (r.no ≤ last) then { r with sentAt := some s.time } else r) })

/-- Sends what is new in every slot, in Day and Dusk (R100). -/
def State.flushEvents (s : State) : State :=
  if s.coreOn then (List.range 4).foldl (fun (t : State) k => t.sendEvents k (fun r => r.sentAt.isNone)) s else s

/-- A fault-class event sets its group's bit of FAULT_LATCH and is counted (R102, R448). -/
def State.latchFault (s : State) (e : Event) : State :=
  if e.cls = 2 then
    let t := (s.wr R.FAULT_LATCH_GROUPS (s.rd R.FAULT_LATCH_GROUPS ||| 2 ^ (e.code / 256))).lifeAdd 0x078 4 1
    { t with life := Sparse.set 0 t.life 0x1B4 e.code }
  else s

/-- A journal record falls due for a cause; FAULT and HOST at most once every 60 s (R452). -/
def State.journalDue (s : State) (cause : Nat) : State :=
  let often := cause = 7 ∨ cause = 8
  let late := match s.nvm.lastHostFault with
    | some t => decide (t + secTicks 60 ≤ s.time)
    | none => true
  if s.nvm.due.contains cause then s
  else if often then
    (if late then { s with nvm := { s.nvm with due := s.nvm.due ++ [cause], lastHostFault := some s.time } } else s)
  else { s with nvm := { s.nvm with due := s.nvm.due ++ [cause] } }

/-- The events a FAULT record is written on (R452). -/
def State.journalEvent (s : State) (e : Event) : State :=
  if [Ev.REMAP_FULL.code, Ev.SEQ_RETIRED.code, Ev.UNCORRECTABLE.code, Ev.TRIP_RECORDED.code, Ev.BIST_FAIL.code].contains e.code then
    s.journalDue 7 else s

/-- Raises an event (R98 to R102). -/
def State.raise (s : State) (e : Event) (source : Nat := 0) (arg : Nat := 0) : State :=
  (((List.range 4).foldl (fun (t : State) k => t.enqueue e (BitVec.ofNat 32 source) (BitVec.ofNat 32 arg) false k)
    ((s.latchFault e).journalEvent e))).flushEvents

/-- The cause of a condition event is active for a SOURCE. -/
def State.condActive (s : State) (e : Event) (source : Nat) : Bool := s.conds.contains (e.code, source)

/-- The cause of a condition event appears: the event is sent once (R101). -/
def State.condOn (s : State) (e : Event) (source : Nat := 0) (arg : Nat := 0) : State :=
  if s.condActive e source then s
  else State.raise { s with conds := s.conds ++ [(e.code, source)] } e source arg

/-- The cause of a condition event goes: the event is sent again with CLEARED set (R101). -/
def State.condOff (s : State) (e : Event) (source : Nat := 0) (arg : Nat := 0) : State :=
  if s.condActive e source then
    (((List.range 4).foldl (fun (t : State) k => t.enqueue e (BitVec.ofNat 32 source) (BitVec.ofNat 32 arg) true k)
      { s with conds := s.conds.filter (fun c => c != (e.code, source)) })).flushEvents
  else s

/-- The condition follows a test. -/
def State.cond (s : State) (b : Bool) (e : Event) (source : Nat := 0) (arg : Nat := 0) : State :=
  if b then s.condOn e source arg else s.condOff e source arg

/-- A condition event that is one for the whole module, whatever its SOURCE: its cause appears (R101). -/
def State.oneOn (s : State) (e : Event) (source arg : Nat) : State :=
  if s.conds.any (fun c => c.1 == e.code) then s else s.condOn e source arg

/-- Its cause goes. -/
def State.oneOff (s : State) (e : Event) (arg : Nat) : State :=
  (s.conds.filter (fun c => c.1 == e.code)).foldl (fun (t : State) c => t.condOff e c.2 arg) s

/-- `n` bytes of HBM from an address (unlisted bytes read zero, R75). -/
def State.hbmRead (s : State) (a n : Nat) : List Byte := Sparse.range 0 s.hbm a n

/-- Writes bytes to HBM. -/
def State.hbmWrite (s : State) (a : Nat) (bs : List Byte) : State := { s with hbm := Sparse.splice 0 s.hbm a bs }

/-- `n` bytes of the flash (unlisted bytes read 0xFF, assumption 5). -/
def State.flashRead (s : State) (a n : Nat) : List Byte := Sparse.range 0xFF s.flash a n

/-- Programs bytes of the flash: bits only go from 1 to 0 (R59). -/
def State.flashProgram (s : State) (a : Nat) (bs : List Byte) : State :=
  { s with flash := Sparse.splice 0xFF s.flash a (List.zipWith (fun x y => x &&& y) (s.flashRead a bs.length) bs) }

/-- Erases the flash from `a` to below `b`. -/
def State.flashErase (s : State) (a b : Nat) : State := { s with flash := Sparse.clear s.flash a b }

end Sys2Proof.Machine
end

