-- ==== Sys2Proof/Machine/Operands.lean ====
section
/-! DEFINITION. The operand forms: fields of byte strings, the words of a payload, the check codes of R62, R151 and R257, and the
STATUS codes of R95. -/

namespace Sys2Proof.Machine

/-- The number in `n` bytes at offset `off` (R4). -/
def le (bs : List Byte) (off n : Nat) : Nat := leNat ((bs.drop off).take n)

/-- A payload's words from an offset on (R91). -/
def wordsFrom (bs : List Byte) : Nat → Nat → List Word
  | _, 0 => []
  | off, n + 1 => BitVec.ofNat 32 (le bs off 4) :: wordsFrom bs (off + 4) n

/-- The bytes of words (R4). -/
def wordBytes (ws : List Word) : List Byte := ws.flatMap (fun w => leBytes 4 w.toNat)

/-- One bit step of a reflected CRC. -/
def crcStep (poly c : Nat) : Nat := if c % 2 = 1 then Nat.xor (c / 2) poly else c / 2

/-- One byte of a reflected CRC. -/
def crcByte (poly c : Nat) (b : Byte) : Nat :=
  let s := crcStep poly
  s (s (s (s (s (s (s (s (Nat.xor c b.toNat))))))))

/-- CRC-32 of R62. -/
def crc32 (bs : List Byte) : Nat := Nat.xor (bs.foldl (crcByte 0xEDB88320) 0xFFFFFFFF) 0xFFFFFFFF

/-- One byte of an unreflected CRC of `w` bits. -/
def crcByteMsb (w poly c : Nat) (b : Byte) : Nat :=
  (List.range 8).foldl (fun c _ => if 2 ^ (w - 1) ≤ c then Nat.xor (c * 2 % 2 ^ w) poly else c * 2)
    (Nat.xor c (b.toNat * 2 ^ (w - 8)))

/-- An unreflected CRC of `w` bits with an initial value. -/
def crcMsb (w poly init : Nat) (bs : List Byte) : Nat := bs.foldl (crcByteMsb w poly) init

namespace Status
abbrev ok : Nat := 0
abbrev badAddress : Nat := 1
abbrev refusedValue : Nat := 2
abbrev badLength : Nat := 3
abbrev badType : Nat := 4
abbrev badVersion : Nat := 5
abbrev powerState : Nat := 6
abbrev maintenance : Nat := 7
abbrev alreadyDone : Nat := 8
abbrev refusedState : Nat := 9
abbrev noSlot : Nat := 10
abbrev nvmBusy : Nat := 11
abbrev stageRange : Nat := 12
abbrev crcMismatch : Nat := 13
abbrev imageInvalid : Nat := 14
abbrev genExhausted : Nat := 15
abbrev windowClosed : Nat := 16
abbrev windowRange : Nat := 17
abbrev remoteTimeout : Nat := 18
abbrev badTarget : Nat := 19
end Status

end Sys2Proof.Machine
end

