-- ==== Sys2Proof/Machine/Codec.lean ====
section
/-! DEFINITION. The codecs the spec names: the inflater of R152 and R160 with its causes, and AES-256-GCM of R154 and R156. -/

namespace Sys2Proof.Machine

/-! ## AES-256-GCM (R154) -/

/-- The substitution table of AES. -/
def aesSbox : List Nat :=
  [99, 124, 119, 123, 242, 107, 111, 197, 48, 1, 103, 43, 254, 215, 171, 118, 202, 130, 201, 125, 250, 89, 71, 240, 173, 212, 162, 175, 156, 164, 114, 192] ++
  [183, 253, 147, 38, 54, 63, 247, 204, 52, 165, 229, 241, 113, 216, 49, 21, 4, 199, 35, 195, 24, 150, 5, 154, 7, 18, 128, 226, 235, 39, 178, 117] ++
  [9, 131, 44, 26, 27, 110, 90, 160, 82, 59, 214, 179, 41, 227, 47, 132, 83, 209, 0, 237, 32, 252, 177, 91, 106, 203, 190, 57, 74, 76, 88, 207] ++
  [208, 239, 170, 251, 67, 77, 51, 133, 69, 249, 2, 127, 80, 60, 159, 168, 81, 163, 64, 143, 146, 157, 56, 245, 188, 182, 218, 33, 16, 255, 243, 210] ++
  [205, 12, 19, 236, 95, 151, 68, 23, 196, 167, 126, 61, 100, 93, 25, 115, 96, 129, 79, 220, 34, 42, 144, 136, 70, 238, 184, 20, 222, 94, 11, 219] ++
  [224, 50, 58, 10, 73, 6, 36, 92, 194, 211, 172, 98, 145, 149, 228, 121, 231, 200, 55, 109, 141, 213, 78, 169, 108, 86, 244, 234, 101, 122, 174, 8] ++
  [186, 120, 37, 46, 28, 166, 180, 198, 232, 221, 116, 31, 75, 189, 139, 138, 112, 62, 181, 102, 72, 3, 246, 14, 97, 53, 87, 185, 134, 193, 29, 158] ++
  [225, 248, 152, 17, 105, 217, 142, 148, 155, 30, 135, 233, 206, 85, 40, 223, 140, 161, 137, 13, 191, 230, 66, 104, 65, 153, 45, 15, 176, 84, 187, 22]

/-- Substitutes one byte. -/
def aesSub (b : Nat) : Nat := aesSbox.getD b 0

/-- Doubles in the AES field. -/
def aesDouble (b : Nat) : Nat := if b < 128 then b * 2 else Nat.xor (b * 2 % 256) 0x1B

/-- The round keys of a 32-byte key as words of four bytes, newest first, from the words so far (FIPS 197). -/
def aesExpand : Nat → Nat → List (List Nat) → List (List Nat)
  | 0, _, ws => ws
  | n + 1, i, ws =>
    let prev := ws.headD []
    let back := ws.getD 7 []
    let t :=
      if i % 8 = 0 then
        match (prev.drop 1 ++ prev.take 1).map aesSub with
        | a :: r => Nat.xor a (2 ^ (i / 8 - 1)) :: r
        | [] => []
      else if i % 8 = 4 then prev.map aesSub
      else prev
    aesExpand n (i + 1) (List.zipWith Nat.xor back t :: ws)

/-- A list in groups of `k`. -/
def groups {α : Type} (k : Nat) : Nat → List α → List (List α)
  | 0, _ => []
  | n + 1, l => l.take k :: groups k n (l.drop k)

/-- The 15 round keys of 16 bytes. -/
def aesRoundKeys (key : List Nat) : List (List Nat) :=
  groups 16 15 (aesExpand 52 8 (groups 4 8 key).reverse).reverse.flatten

/-- The rows of an AES state of 16 bytes are shifted. -/
def aesShift (s : List Nat) : List Nat :=
  [0, 5, 10, 15, 4, 9, 14, 3, 8, 13, 2, 7, 12, 1, 6, 11].map (fun i => s.getD i 0)

/-- One column is mixed. -/
def aesMixColumn (c : List Nat) : List Nat :=
  match c with
  | [a, b, d, e] =>
    let x4 := fun p q r s => Nat.xor (Nat.xor (aesDouble p) (Nat.xor (aesDouble q) q)) (Nat.xor r s)
    [x4 a b d e, x4 b d e a, x4 d e a b, x4 e a b d]
  | l => l

/-- The rounds of AES over the round keys that remain. -/
def aesRounds : List (List Nat) → List Nat → List Nat
  | [], s => s
  | [k], s => List.zipWith Nat.xor (aesShift (s.map aesSub)) k
  | k :: ks, s => aesRounds ks (List.zipWith Nat.xor ((groups 4 4 (aesShift (s.map aesSub))).flatMap aesMixColumn) k)

/-- AES-256 of one block under expanded round keys. -/
def aesBlock (rk : List (List Nat)) (b : List Nat) : List Nat :=
  aesRounds (rk.drop 1) (List.zipWith Nat.xor b (rk.headD []))

/-- A block of 16 bytes as a number, first byte highest. -/
def beNat (b : List Nat) : Nat := b.foldl (fun v x => v * 256 + x) 0

/-- A number as `n` bytes, first byte highest. -/
def beBytes : Nat → Nat → List Nat
  | 0, _ => []
  | n + 1, v => v / 256 ^ n % 256 :: beBytes n v

/-- Multiplies in the GCM field, over the remaining bits of `x` from bit 127 down. -/
def ghashMul : Nat → Nat → Nat → Nat → Nat
  | 0, _, _, z => z
  | n + 1, x, v, z =>
    ghashMul n x (if v % 2 = 1 then Nat.xor (v / 2) (0xE1 * 2 ^ 120) else v / 2)
      (if x / 2 ^ n % 2 = 1 then Nat.xor z v else z)

/-- Zero bytes up to a multiple of 16. -/
def pad16 (l : List Nat) : List Nat := l ++ List.replicate ((16 - l.length % 16) % 16) 0

/-- GHASH over data that is a multiple of 16 bytes. -/
def ghash (h : Nat) (data : List Nat) : Nat :=
  (groups 16 (data.length / 16) data).foldl (fun y b => ghashMul 128 (Nat.xor y (beNat b)) h 0) 0

/-- The GCM key stream from a counter on. -/
def gcmStream (rk : List (List Nat)) (iv : List Nat) : Nat → Nat → List Nat
  | 0, _ => []
  | n + 1, c => aesBlock rk (iv ++ beBytes 4 c) ++ gcmStream rk iv n (c + 1)

/-- GCM encryption or decryption of the text (the same operation) with the key stream from counter 2. -/
def gcmCrypt (key iv text : List Byte) : List Byte :=
  let rk := aesRoundKeys (key.map (·.toNat))
  let ks := gcmStream rk (iv.map (·.toNat)) ((text.length + 15) / 16) 2
  List.zipWith (fun (a : Byte) (b : Nat) => a ^^^ BitVec.ofNat 8 b) text ks

/-- The GCM tag of a ciphertext with its additional data. -/
def gcmTag (key iv aad cipher : List Byte) : List Byte :=
  let rk := aesRoundKeys (key.map (·.toNat))
  let h := beNat (aesBlock rk (List.replicate 16 0))
  let data := pad16 (aad.map (·.toNat)) ++ pad16 (cipher.map (·.toNat)) ++ beBytes 8 (8 * aad.length) ++
    beBytes 8 (8 * cipher.length)
  let e := beNat (aesBlock rk (iv.map (·.toNat) ++ [0, 0, 0, 1]))
  (beBytes 16 (Nat.xor (ghash h data) e)).map (fun b => BitVec.ofNat 8 b)

/-! ## DEFLATE (R152, R160) -/

/-- The bits of bytes, least significant first. -/
def bitsOfBytes (bs : List Byte) : List Bool := bs.flatMap (fun b => (List.range 8).map (fun i => b.getLsbD i))

/-- The number in the first `n` bits, and the rest; none when they are not there. -/
def takeBits : Nat → List Bool → Option (Nat × List Bool)
  | 0, l => some (0, l)
  | _ + 1, [] => none
  | n + 1, b :: l => (takeBits n l).map (fun r => (b2n b + 2 * r.1, r.2))

/-- A canonical Huffman code: how many codes of each length from 1 up, and the symbols in code order. -/
structure Huff where
  counts : List Nat
  syms : List Nat
  deriving DecidableEq, Repr

/-- The code of a list of code lengths. -/
def Huff.ofLengths (ls : List Nat) : Huff :=
  let ix := ls.zipIdx
  ⟨(List.range 15).map (fun n => (ls.filter (fun l => l == n + 1)).length),
    (List.range 15).flatMap (fun n => (ix.filter (fun p => p.1 == n + 1)).map (·.2))⟩

/-- Codes left over when the lengths are used up; none when over-subscribed. -/
def Huff.room : List Nat → Nat → Option Nat
  | [], left => some left
  | c :: cs, left => if 2 * left < c then none else Huff.room cs (2 * left - c)

/-- What reading a code gives: a symbol, no such code, or no more bits. -/
inductive Read where
  | sym (s : Nat) (rest : List Bool)
  | noCode
  | exhausted
  deriving DecidableEq, Repr

/-- Reads one code. -/
def Huff.read (syms : List Nat) : List Nat → Nat → Nat → Nat → List Bool → Read
  | [], _, _, _, _ => .noCode
  | _ :: _, _, _, _, [] => .exhausted
  | c :: cs, code, first, index, b :: l =>
    let code := code + b2n b
    if code < first + c then .sym (syms.getD (index + (code - first)) 0) l
    else Huff.read syms cs (2 * code) (2 * (first + c)) (index + c) l

/-- A code is complete. -/
def Huff.complete (h : Huff) : Bool := Huff.room h.counts 1 == some 0

/-- A distance code RFC 1951 and R160 allow: complete, empty, or one code of length 1. -/
def Huff.distOk (h : Huff) : Bool :=
  h.complete || h.syms.isEmpty || (h.syms.length == 1 && h.counts.headD 0 == 1)

/-- The code lengths of a dynamic block, read with the code length code; none stands for cause 0x03 or 0x08. -/
def readLengths (h : Huff) : Nat → Nat → List Nat → List Bool → Except Nat (List Nat × List Bool)
  | 0, _, _, _ => .error 3
  | fuel + 1, want, acc, l =>
    if acc.length = want then .ok (acc.reverse, l)
    else if want < acc.length then .error 3
    else match Huff.read h.syms h.counts 0 0 0 l with
      | .noCode => .error 3
      | .exhausted => .error 8
      | .sym s rest =>
        if s < 16 then readLengths h fuel want (s :: acc) rest
        else
          let go := fun (v nb base : Nat) =>
            match takeBits nb rest with
            | none => Except.error 8
            | some (k, r) => readLengths h fuel want (List.replicate (base + k) v ++ acc) r
          if s = 16 then (match acc with | [] => .error 3 | v :: _ => go v 2 3)
          else if s = 17 then go 0 3 3
          else go 0 7 11

/-- Base length and extra bits of length codes 257 to 285 (RFC 1951). -/
def lengthBase : List (Nat × Nat) :=
  [(3, 0), (4, 0), (5, 0), (6, 0), (7, 0), (8, 0), (9, 0), (10, 0), (11, 1), (13, 1), (15, 1), (17, 1), (19, 2), (23, 2), (27, 2),
   (31, 2), (35, 3), (43, 3), (51, 3), (59, 3), (67, 4), (83, 4), (99, 4), (115, 4), (131, 5), (163, 5), (195, 5), (227, 5), (258, 0)]

/-- Base distance and extra bits of distance codes 0 to 29 (RFC 1951). -/
def distBase : List (Nat × Nat) :=
  [(1, 0), (2, 0), (3, 0), (4, 0), (5, 1), (7, 1), (9, 2), (13, 2), (17, 3), (25, 3), (33, 4), (49, 4), (65, 5), (97, 5), (129, 6),
   (193, 6), (257, 7), (385, 7), (513, 8), (769, 8), (1025, 9), (1537, 9), (2049, 10), (3073, 10), (4097, 11), (6145, 11),
   (8193, 12), (12289, 12), (16385, 13), (24577, 13)]

/-- Copies `n` bytes from `dist` back, onto the output held newest first. -/
def copyBack (dist : Nat) : Nat → List Byte → List Byte
  | 0, out => out
  | n + 1, out => copyBack dist n (out.getD (dist - 1) 0 :: out)

/-- How a segment's decoding stands: output newest first and its length, the bits left, and the cause met. -/
structure Inf where
  out : List Byte
  n : Nat
  rest : List Bool
  cause : Option Nat := none
  deriving DecidableEq, Repr

/-- The state with a cause of R160. -/
def Inf.fail (i : Inf) (c : Nat) : Inf := { i with cause := some c }

/-- Decodes the symbols of one compressed block. `total` is LINES × WIDTH, `win` the largest distance. -/
def infCodes (total win : Nat) (hl hd : Huff) : Nat → Inf → Inf
  | 0, i => i.fail 8
  | fuel + 1, i =>
    match Huff.read hl.syms hl.counts 0 0 0 i.rest with
    | .noCode => i.fail 3
    | .exhausted => i.fail 8
    | .sym s r =>
      if s < 256 then
        if i.n + 1 > total then i.fail 6
        else infCodes total win hl hd fuel { i with out := BitVec.ofNat 8 s :: i.out, n := i.n + 1, rest := r }
      else if s = 256 then { i with rest := r }
      else if 285 < s then i.fail 5
      else
        let lb := lengthBase.getD (s - 257) (3, 0)
        match takeBits lb.2 r with
        | none => i.fail 8
        | some (x, r) =>
          match Huff.read hd.syms hd.counts 0 0 0 r with
          | .noCode => i.fail 3
          | .exhausted => if hd.syms.isEmpty then i.fail 3 else i.fail 8
          | .sym d r =>
            if 29 < d then i.fail 5
            else
              let db := distBase.getD d (1, 0)
              match takeBits db.2 r with
              | none => i.fail 8
              | some (y, r) =>
                let len := lb.1 + x
                let dist := db.1 + y
                if win < dist ∨ i.n < dist then i.fail 4
                else if i.n + len > total then
                  { i with out := copyBack dist (total - i.n) i.out, n := total, rest := r, cause := some 6 }
                else infCodes total win hl hd fuel { i with out := copyBack dist len i.out, n := i.n + len, rest := r }

/-- The fixed codes of RFC 1951. -/
def fixedLit : Huff := Huff.ofLengths (List.replicate 144 8 ++ List.replicate 112 9 ++ List.replicate 24 7 ++ List.replicate 8 8)
def fixedDist : Huff := Huff.ofLengths (List.replicate 32 5)

/-- Whole bytes from the bits. -/
def takeBytes : Nat → List Bool → Option (List Byte × List Bool)
  | 0, l => some ([], l)
  | n + 1, l =>
    match takeBits 8 l with
    | none => none
    | some (v, r) => (takeBytes n r).map (fun q => (BitVec.ofNat 8 v :: q.1, q.2))

/-- A stored block. -/
def infStored (total : Nat) (i : Inf) : Inf :=
  let l := i.rest.drop (i.rest.length % 8)
  match takeBits 16 l with
  | none => i.fail 8
  | some (len, l) =>
    match takeBits 16 l with
    | none => i.fail 8
    | some (nlen, l) =>
      if len + nlen ≠ 65535 then i.fail 2
      else
        let k := min len (l.length / 8)
        match takeBytes (min k (total - i.n)) l with
        | none => i.fail 8
        | some (bs, l) =>
          let j := { i with out := bs.reverse ++ i.out, n := i.n + bs.length, rest := l }
          if total < i.n + len ∧ total - i.n ≤ k then j.fail 6
          else if bs.length < len then j.fail 8
          else j

/-- A dynamic block. -/
def infDynamic (total win : Nat) (i : Inf) : Inf :=
  match takeBits 14 i.rest with
  | none => i.fail 8
  | some (h, l) =>
    let nlen := h % 32 + 257
    let ndist := h / 32 % 32 + 1
    let ncode := h / 1024 + 4
    match (groups 3 ncode l).mapM (fun g => (takeBits 3 g).map (·.1)) with
    | none => i.fail 8
    | some ks =>
      let order := [16, 17, 18, 0, 8, 7, 9, 6, 10, 5, 11, 4, 12, 3, 13, 2, 14, 1, 15]
      let cl := Huff.ofLengths ((List.range 19).map (fun s => ((order.zip ks).find? (fun p => p.1 == s)).elim 0 (·.2)))
      if !cl.complete then i.fail 3
      else match readLengths cl (nlen + ndist + 1) (nlen + ndist) [] (l.drop (3 * ncode)) with
        | .error c => i.fail c
        | .ok (ls, r) =>
          let hl := Huff.ofLengths (ls.take nlen)
          let hd := Huff.ofLengths (ls.drop nlen)
          if !hl.complete || !hd.distOk then i.fail 3
          else infCodes total win hl hd r.length { i with rest := r }

/-- The blocks of a segment (R152). `seen` is the line of the last block header. -/
def infBlocks (total width win : Nat) : Nat → Option Nat → Inf → Inf
  | 0, _, i => i.fail 8
  | fuel + 1, seen, i =>
    if seen = some (i.n / width) then i.fail 9
    else match takeBits 3 i.rest with
      | none => i.fail 8
      | some (h, r) =>
        let i0 := { i with rest := r }
        let j :=
          if h / 2 = 0 then infStored total i0
          else if h / 2 = 1 then infCodes total win fixedLit fixedDist r.length i0
          else if h / 2 = 2 then infDynamic total win i0
          else i0.fail 1
        if j.cause.isSome then j
        else if h % 2 = 1 then
          if j.n < total then j.fail 7
          else if j.rest.any (fun b => b) || decide (32 ≤ j.rest.length) then j.fail 8
          else j
        else infBlocks total width win fuel (some (i.n / width)) j

/-- Decodes a segment's bitstream: its output in order and the cause met, if any (R152, R160). -/
def inflate (lines width winLog2 : Nat) (bs : List Byte) : List Byte × Option Nat :=
  let l := bitsOfBytes bs
  let i := infBlocks (lines * width) width (2 ^ winLog2) (l.length + 1) none ⟨[], 0, l, none⟩
  (i.out.reverse, i.cause)

/-! ## What a compressor writes (R167, R168) -/

/-- Every block of a stream is of a form TABLES allows (0: any), no distance is above the window of 4 KiB, the last block has BFINAL
set and is padded with zero bits to a byte boundary, and `total` bytes come out (R152, R167, R168). -/
def streamBlocks (tables total : Nat) : Nat → Inf → Bool
  | 0, _ => false
  | fuel + 1, i =>
    match takeBits 3 i.rest with
    | none => false
    | some (h, r) =>
      let i0 := { i with rest := r }
      let j :=
        if h / 2 = 0 then infStored total i0
        else if h / 2 = 1 then infCodes total 4096 fixedLit fixedDist r.length i0
        else if h / 2 = 2 then infDynamic total 4096 i0
        else i0.fail 1
      (tables == 0 || tables == h / 2) && j.cause.isNone &&
        (if h % 2 = 1 then j.n == total && decide (j.rest.length < 8) && !j.rest.any (fun b => b)
         else streamBlocks tables total fuel j)

/-- The output of a stream that `streamBlocks` accepts, newest byte first. -/
def streamOut (total : Nat) : Nat → Inf → List Byte
  | 0, i => i.out
  | fuel + 1, i =>
    match takeBits 3 i.rest with
    | none => i.out
    | some (h, r) =>
      let i0 := { i with rest := r }
      let j :=
        if h / 2 = 0 then infStored total i0
        else if h / 2 = 1 then infCodes total 4096 fixedLit fixedDist r.length i0
        else infDynamic total 4096 i0
      if h % 2 = 1 then j.out else streamOut total fuel j

/-- The most bytes a job of `n` input bytes can write: a literal has at most 15 bits, a match at most 48 bits for three bytes or more, a
block 16,384 symbols and at most 600 bytes of header and end-of-block code. -/
def streamMax (n : Nat) : Nat := 2 * n + 600 * (n / 16384 + 1)

/-- The bytes are a stream of `d` that a compressor with this setting of TABLES can write. -/
def isStream (tables : Nat) (d bs : List Byte) : Bool :=
  let i : Inf := ⟨[], 0, bitsOfBytes bs, none⟩
  decide (bs.length ≤ streamMax d.length) && streamBlocks tables d.length (8 * bs.length) i &&
    (streamOut d.length (8 * bs.length) i).reverse == d

/-- A number as `n` bits, most significant first: a Huffman code. -/
def codeBits (n v : Nat) : List Bool := (List.range n).map (fun i => bit v (n - 1 - i))

/-- A number as `n` bits, least significant first. -/
def lowBits (n v : Nat) : List Bool := (List.range n).map (fun i => bit v i)

/-- Bits as bytes, padded with zero bits. -/
def packBits (l : List Bool) : List Byte :=
  (groups 8 ((l.length + 7) / 8) l).map (fun g => BitVec.ofNat 8 ((g.zipIdx.map (fun e => b2n e.1 * 2 ^ e.2)).sum))

/-- A block of literals alone, in the fixed code or in a dynamic one of 8 and 9 bits. -/
def literalBlock (tables : Nat) (last : Bool) (d : List Byte) : List Bool :=
  if tables = 1 then
    last :: true :: false :: (d.flatMap (fun b => if b.toNat < 144 then codeBits 8 (48 + b.toNat) else codeBits 9 (256 + b.toNat)) ++
      codeBits 7 0)
  else
    last :: false :: true :: (lowBits 5 0 ++ lowBits 5 0 ++ lowBits 4 14 ++
      (List.range 18).flatMap (fun k => lowBits 3 (if k = 4 then 1 else if k = 6 ∨ k = 17 then 2 else 0)) ++
      List.replicate 255 false ++ [true, true, true, true, true, false] ++
      d.flatMap (fun b => if b.toNat < 255 then codeBits 8 b.toNat else codeBits 9 510) ++ codeBits 9 511)

/-- A stream of `d` with no match in it, in blocks of 16,384 bytes. -/
def plainStream (tables : Nat) : Nat → List Byte → List Bool
  | 0, _ => []
  | fuel + 1, d =>
    let last := decide (d.length ≤ 16384)
    let b := d.take 16384
    let block := if tables = 0 then
        last :: false :: false :: (List.replicate 5 false ++ lowBits 16 b.length ++ lowBits 16 (65535 - b.length) ++ bitsOfBytes b)
      else literalBlock tables last b
    block ++ if last then [] else plainStream tables fuel (d.drop 16384)

/-- What a compressor writes for its input: the stream its match search finds, which the hash that R167 leaves open decides; it is always
a stream of the input in the forms that TABLES allows (R167, R168). -/
def compressedStream (settings : Word) (d : List Byte) : List Byte :=
  let tables := bits settings.toNat 2 2
  let found := Config.compressed settings d
  if isStream tables d found then found else packBits (plainStream tables (d.length / 16384 + 1) d)

end Sys2Proof.Machine
end

