-- ==== Sys2Proof/Machine/PieceOps.lean ====
section
/-! DEFINITION. What the rules say of timing-generator roots, channels, piece descriptors, reservations and completion records
(R120 to R140, R149 to R153, R202, R203). -/

namespace Sys2Proof.Machine

/-! ## Configuration in force -/

/-- A field that takes effect at the next Dawn: the value the last Dawn put in force. -/
def State.cf (s : State) (f : Field) : Nat :=
  bits ((Sparse.find s.conf f.addr).getD (regDefault f.addr)).toNat f.lo f.width

/-- The channel is configured. -/
def State.chOn (s : State) (c : Nat) : Bool := s.cf (R.CH_CFG_EN c) == 1

/-- The channel's nozzles; none unconfigured (R125, R253). -/
def State.chWidth (s : State) (c : Nat) : Nat := if s.chOn c then 64 * (s.cf (R.CH_CFG_WIDTH c) + 1) else 0

/-- The channel's bar. -/
def State.chBar (s : State) (c : Nat) : Nat := s.cf (R.CH_CFG_BAR c)

/-- The configured channels. -/
def State.channels (s : State) : List Nat := (List.range 512).filter s.chOn

/-- The configured channels of a bar. -/
def State.barChannels (s : State) (b : Nat) : List Nat := s.channels.filter (fun c => s.chBar c == b)

/-- The configured nozzles of a bar. -/
def State.barNozzles (s : State) (b : Nat) : Nat := ((s.barChannels b).map s.chWidth).sum

/-- All configured nozzles. -/
def State.allNozzles (s : State) : Nat := (s.channels.map s.chWidth).sum

/-- The first global nozzle index of a channel: the widths of the enabled channels below it (R228). -/
def State.nbase (s : State) (c : Nat) : Nat := ((s.channels.filter (fun d => decide (d < c))).map s.chWidth).sum

/-- The largest row delay of a channel (R224). -/
def State.chDelay (s : State) (c : Nat) : Nat :=
  ((List.range (s.cf (R.CH_CFG_ROWS c) + 1)).map (fun r =>
    if r % 2 = 0 then s.cf (R.CH_ROWD_D0 c (r / 2)) else s.cf (R.CH_ROWD_D1 c (r / 2)))).foldl max 0

/-- The largest row delay of a bar. -/
def State.barDelay (s : State) (b : Nat) : Nat := ((s.barChannels b).map s.chDelay).foldl max 0

/-! ## Timing generators -/

/-- The SRC code in force, or pending when `p`. -/
def State.tgSrc (s : State) (p : Bool) (k : Nat) : Nat := if p then s.eff (R.TG_CFG_SRC k) else s.rd (R.TG_CFG_SRC k)

/-- The generator whose DIV counts: the one followed, or itself (R203). -/
def State.tgMaster (s : State) (p : Bool) (k : Nat) : Nat :=
  if 0x20 ≤ s.tgSrc p k then s.tgSrc p k - 0x20 else k

/-- The root of a generator (R202): 0–15 line generators, 16 LINESYNC_IN, 32 + k the fixed clock of generator k. -/
def State.root (s : State) (p : Bool) (k : Nat) : Nat :=
  let m := s.tgMaster p k
  let src := s.tgSrc p m
  if src = 0x11 then 32 + m else src

/-- The effective DIV of a generator (R203). -/
def State.effDiv (s : State) (p : Bool) (k : Nat) : Nat :=
  let m := s.tgMaster p k
  (if p then s.eff (R.TG_CFG_DIV m) else s.rd (R.TG_CFG_DIV m)) + 1

/-- One timing generator's state. -/
def State.tg (s : State) (k : Nat) : Tg := Sparse.get {} s.tgs k

/-- Changes one timing generator's state. -/
def State.onTg (s : State) (k : Nat) (f : Tg → Tg) : State := { s with tgs := Sparse.upd {} s.tgs k f }

/-- The line count of a generator. -/
def State.lineCount (s : State) (k : Nat) : Nat := s.rdW (R.TG_LINE_LO_LINE k) (R.TG_LINE_HI_LINE k)

/-! ## The piece descriptor (R124) -/

def Piece.num (p : Piece) : Nat := le p.desc 4 4
def Piece.startRule (p : Piece) : Nat := le p.desc 3 1
def Piece.lines (p : Piece) : Nat := le p.desc 8 4
def Piece.barMask (p : Piece) : Nat := le p.desc 0x10 2
def Piece.refTg (p : Piece) : Nat := le p.desc 0x12 1
def Piece.probe (p : Piece) : Nat := le p.desc 0x13 1
def Piece.probeDist (p : Piece) : Nat := le p.desc 0x14 4
def Piece.rejectEn (p : Piece) : Bool := bit (le p.desc 0x18 2) 0
def Piece.rejectOut (p : Piece) : Nat := bits (le p.desc 0x18 2) 1 1
def Piece.verify (p : Piece) : Bool := bit (le p.desc 0x18 2) 2
def Piece.evidence (p : Piece) : Bool := bit (le p.desc 0x18 2) 3
def Piece.rejectWidth (p : Piece) : Nat := le p.desc 0x1A 2
def Piece.rejectDist (p : Piece) : Nat := le p.desc 0x1C 4
def Piece.bandCount (p : Piece) : Nat := le p.desc 0x28 2
def Piece.liveCount (p : Piece) : Nat := le p.desc 0x2A 1
def Piece.tone (p : Piece) (b : Nat) : Nat := le p.desc (0x40 + b) 1
def Piece.screen (p : Piece) (b : Nat) : Nat := le p.desc (0x50 + b) 1

/-- The piece's bars, in rising order. -/
def Piece.bars (p : Piece) : List Nat := (List.range 16).filter (fun b => bit p.barMask b)

/-- The piece is a repeat piece. -/
def Piece.isRepeat (p : Piece) : Bool := p.startRule == 2

/-- The lines the piece prints; none while it is endless (R120, R121). -/
def Piece.total (p : Piece) : Option Nat := if p.isRepeat then p.repeats.map (· * p.lines) else some p.lines

/-- Two pieces name a common bar. -/
def Piece.shares (p q : Piece) : Bool := p.bars.any (fun b => bit q.barMask b)

/-- Lines of the piece the bar has formed. -/
def Piece.at_ (p : Piece) (b : Nat) : Nat := Sparse.get 0 p.formed b

/-- The piece has begun in some bar. -/
def Piece.printing (p : Piece) : Bool := !p.begun.isEmpty

/-- The piece is in a bar between its first and its last line there. -/
def Piece.inBar (p : Piece) (b : Nat) : Bool := p.begun.contains b && !p.ended.contains b

/-- A line of a piece is in flight in the bar. -/
def State.barActive (s : State) (b : Nat) : Bool :=
  s.pieces.any (fun p => p.inBar b) || s.flights.any (fun x => x.bar == b && !x.rinse)

/-- A line of a piece is in flight in some bar. -/
def State.anyActive (s : State) : Bool := (List.range 16).any s.barActive

/-- An admitted piece names the bar. -/
def State.barWaits (s : State) (b : Nat) : Bool :=
  s.pieces.any (fun p => p.stage != .queued && bit p.barMask b && !p.ended.contains b)

/-- The bar is idle (R206). -/
def State.barIdle (s : State) (b : Nat) : Bool := !s.barActive b && !s.barWaits b

/-- The pending pieces: queued and not yet begun (R126). -/
def State.pendingPieces (s : State) : List Piece := s.pieces.filter (fun p => !p.printing)

/-- Changes the piece of a number. -/
def State.onPiece (s : State) (num : Nat) (f : Piece → Piece) : State :=
  { s with pieces := s.pieces.map (fun p => if p.num = num then f p else p) }

/-- The piece of a number. -/
def State.piece (s : State) (num : Nat) : Option Piece := s.pieces.find? (fun p => p.num == num)

/-- Bytes that must be zero. -/
def zeros (bs : List Byte) (off n : Nat) : Bool := le bs off n == 0

/-- The checks of R124 on the descriptor alone. -/
def descOk (d : List Byte) : Bool :=
  let p : Piece := { desc := d }
  let rep := p.startRule == 2
  let probe := p.startRule == 1
  d.length == 256 && le d 0 2 == 0x4B50 && le d 2 1 == 1 && decide (p.startRule ≤ 2) && p.num != 0 &&
  decide (1 ≤ p.lines ∧ p.lines ≤ 16777215) && (rep || zeros d 0x0C 4) && p.barMask != 0 &&
  decide (p.refTg < 16) && bit p.barMask p.refTg && (if probe then decide (p.probe < 4) else p.probe == 0) &&
  (if probe then decide (1 ≤ p.probeDist ∧ p.probeDist ≤ 16777215) else p.probeDist == 0) &&
  decide (le d 0x18 2 < 16) &&
  (if p.rejectEn then p.rejectWidth != 0 else p.rejectWidth == 0) &&
  le d 0x20 8 % 16 == 0 && decide (le d 0x20 8 < 2 ^ 40) &&
  decide (1 ≤ p.bandCount ∧ p.bandCount ≤ 512) && decide (p.liveCount ≤ 64) && zeros d 0x2B 5 &&
  decide (le d 0x30 8 < 2 ^ 40) && (p.liveCount != 0 || le d 0x30 8 == 0) &&
  le d 0x38 8 % 4 == 0 && decide (le d 0x38 8 < 2 ^ 40) &&
  (List.range 16).all (fun b => if bit p.barMask b then decide (p.tone b < 16 ∧ p.screen b < 16)
    else p.tone b == 0 && p.screen b == 0) &&
  zeros d 0x60 156 && le d 0xFC 4 == crc32 (d.take 0xFC)

/-- The job store in bytes: from and to below (R133). -/
def State.jobStore (s : State) : Nat × Nat :=
  (4096 * s.rd R.JOB_BASE_BASE, 4096 * (s.rd R.JOB_BASE_BASE + s.rd R.JOB_SIZE_SIZE))

/-- The bytes lie in the job store. -/
def State.inJob (s : State) (a n : Nat) : Bool := decide (s.jobStore.1 ≤ a ∧ a + n ≤ s.jobStore.2)

/-- One band-table entry (R125): address, length, width. -/
def State.bandEntry (s : State) (p : Piece) (i : Nat) : Nat × Nat × Nat :=
  let e := s.hbmRead (le p.desc 0x20 8 + 16 * i) 16
  (le e 0 8, le e 8 4, le e 12 2)

/-- The entry meets R125. -/
def State.bandEntryOk (s : State) (p : Piece) (i : Nat) : Bool :=
  let e := s.bandEntry p i
  decide (e.1 < 2 ^ 40) && s.inJob e.1 e.2.1 && decide (64 ≤ e.2.2 ∧ e.2.2 ≤ 4096) && e.2.2 % 64 == 0 &&
    le (s.hbmRead (le p.desc 0x20 8 + 16 * i) 16) 14 2 == 0

/-- The used channels of the piece with their band-table entries (R125). -/
def State.chanMap (s : State) (p : Piece) : List (Nat × Nat) :=
  let m := s.hbmRead (le p.desc 0x38 8) 1024
  ((List.range 512).map (fun c => (c, le m (2 * c) 2))).filter (fun e => e.2 != 0xFFFF)

/-- The channel map meets R125 against the configuration. -/
def State.chansOk (s : State) (p : Piece) (cs : List (Nat × Nat)) : Bool :=
  cs.all (fun e => decide (e.2 < p.bandCount) && s.chOn e.1 && bit p.barMask (s.chBar e.1) &&
    (s.bandEntry p e.2).2.2 == s.chWidth e.1)

/-- The screens of the piece fit the depth of its bars' channels (R230). -/
def State.screensOk (s : State) (p : Piece) : Bool :=
  p.bars.all (fun b => (s.barChannels b).all (fun c =>
    if s.flag (R.SCR_CFG_K7 (p.screen b)) then s.cf (R.CH_CFG_DEPTH c) == 3 else s.cf (R.CH_CFG_DEPTH c) != 3))

/-- The piece's reference generator is that of its probe (R191). -/
def State.probeOk (s : State) (p : Piece) : Bool :=
  p.startRule != 1 || s.rd (R.PROBE_CFG_TG p.probe) == p.refTg

/-- All bars of a list have one root and one effective DIV, in force and pending (R207). -/
def State.oneRoot (s : State) (bs : List Nat) : Bool :=
  match bs with
  | [] => true
  | b :: _ => bs.all (fun c => s.root false c == s.root false b && s.effDiv false c == s.effDiv false b &&
      s.root true c == s.root true b && s.effDiv true c == s.effDiv true b)

/-! ## The container (R149 to R153) -/

/-- The header of a container. -/
structure Container where
  hdr : List Byte
  segs : List (Nat × Nat)
  deriving DecidableEq, Repr

def Container.encrypted (c : Container) : Bool := bit (le c.hdr 3 1) 0
def Container.width (c : Container) : Nat := le c.hdr 4 2
def Container.win (c : Container) : Nat := le c.hdr 6 1
def Container.slot (c : Container) : Nat := le c.hdr 7 1
def Container.lines (c : Container) : Nat := le c.hdr 8 4
def Container.segCount (c : Container) : Nat := le c.hdr 0x0C 4

/-- Reads the header and the segment table of a container (R149, R150). -/
def State.container (s : State) (addr len : Nat) : Container :=
  let h := s.hbmRead addr 64
  let n := min (le h 0x0C 4) (len / 8)
  let t := s.hbmRead (addr + 64) (8 * n)
  ⟨h, (List.range n).map (fun i => (le t (8 * i) 4, le t (8 * i + 4) 4))⟩

/-- The container check of R153 against a band-table entry and the piece's LINES. -/
def State.containerOk (s : State) (addr len width lines : Nat) : Bool :=
  let c := s.container addr len
  let enc := c.encrypted
  decide (64 ≤ len) && le c.hdr 0 2 == 0x4B42 && le c.hdr 2 1 == 1 && le c.hdr 0x3C 4 == crc32 (c.hdr.take 0x3C) &&
  decide (le c.hdr 3 1 < 2) && zeros c.hdr 0x18 36 && decide (8 ≤ c.win ∧ c.win ≤ 12) &&
  decide (1 ≤ c.lines ∧ c.lines ≤ 16777215) && decide (1 ≤ c.segCount ∧ c.segCount ≤ c.lines) &&
  (if enc then decide (c.slot < 8) && bit (s.rd R.KEY_VALID_SLOTS) c.slot else c.slot == 0 && zeros c.hdr 0x10 8) &&
  c.width == width && c.lines == lines && decide (c.segs.length = c.segCount) &&
  c.segs.all (fun g => decide (1 ≤ g.1 ∧ g.1 ≤ 4096) && g.2 % 4 == 0 && decide ((if enc then 24 else 8) ≤ g.2)) &&
  (c.segs.map (·.1)).sum == c.lines && 64 + 8 * c.segCount + (c.segs.map (·.2)).sum == len

/-! ## Reservations (R129, R131) -/

/-- The pieces that hold reservations. -/
def State.reserving (s : State) : List Piece := s.pieces.filter (fun p => p.stage != .queued)

/-- The largest of some numbers. -/
def maxOf (l : List Nat) : Nat := l.foldl max 0

/-- The reserved sequencer load of a bar, in clk/s × 128. -/
def State.seqRes (s : State) (b : Nat) : Nat :=
  maxOf (s.reserving.map (fun p => if p.ended.contains b then 0 else ((p.seqCost.find? (fun e => e.1 == b)).elim 0 (·.2))))

/-- The reserved overhead of a root, in clk/s. -/
def State.ovhRes (s : State) (g : Nat) : Nat :=
  maxOf (s.reserving.map (fun p => if p.rootCost.1 = g then p.rootCost.2 else 0))

/-- The reserved blocks of a lane. -/
def State.laneRes (s : State) (l : Nat) : Nat :=
  maxOf (s.reserving.map (fun p => (p.laneCost.find? (fun e => e.1 == l)).elim 0 (·.2)))

/-- The dx cost of some streams held in bar `h` on engine `e`. -/
def pairCost (bs : List BandRun) (h e : Nat) : Nat :=
  ((bs.filter (fun b => b.hold == h && b.engine == e)).map (·.cost)).sum

/-- The load of an engine with the streams `extra` of one more piece: the sum over holding bars of the largest cost (R129). -/
def State.engineLoad (s : State) (extra : List BandRun) (e : Nat) : Nat :=
  ((List.range 16).map (fun h =>
    max (pairCost extra h e)
      (maxOf (s.reserving.map (fun p => if p.ended.contains h then 0 else pairCost p.bands h e))))).sum

/-- The streams an engine holds. -/
def State.engineBands (s : State) (e : Nat) : Nat :=
  ((s.pieces.map (fun p => (p.bands.filter (fun b => b.live && (b.engine == e || (b.migrating && b.old == e)))).length))).sum

/-- The figure in per mille of a limit. -/
def perMille (n lim : Nat) : Nat := min 1023 (divOpenN 7 (1000 * n) lim)

/-- The load registers follow the reservations (R129, R148, R174). -/
def State.loads (s : State) : State :=
  let seq := ((List.range 16).map s.seqRes).sum / 128 + ((List.range 48).map s.ovhRes).sum
  let dx := (List.range 16).map (fun e => s.engineLoad [] e)
  let hbm := s.reserving.foldl (fun m p => max m (p.hbmCost / p.lines)) 0 + s.rd R.HBM_ALLOW_GBS * 1000000000
  let t := ((s.wr R.PQ_LOAD_SEQ (perMille seq 920000000)).wr R.PQ_LOAD_DX (perMille dx.sum 16000000000)).wr
    R.PQ_LOAD_HBM_HBM (perMille hbm 416000000000)
  (List.range 16).foldl (fun u e =>
    let held := s.engineBands e
    let u := (u.wr (R.DX_LOAD_LOAD e) (perMille (dx.getD e 0) 1000000000)).wr (R.DX_STATUS_BANDS e) held
    if s.flag (R.DX_CTRL_DRAIN e) ∧ held = 0 then u.wr (R.DX_STATUS_STATE e) 3
    else if u.rd (R.DX_STATUS_STATE e) = 3 then u.wr (R.DX_STATUS_STATE e) 0 else u) t

/-- The pool of repeat designs taken, in bytes (R138). -/
def State.poolFree (s : State) : State :=
  let used := ((s.reserving.map (·.poolCost)).sum + 4095) / 4096
  s.wr R.REPEAT_FREE_SIZE (s.cf R.REPEAT_POOL_SIZE - used)

/-- Frees the band numbers and banks of a list of streams (R162). -/
def State.freeBands (s : State) (bs : List BandRun) : State :=
  bs.foldl (fun t b => if b.live then (t.setWord (R.BAND_OWNER b.num) 0).setWord (R.BAND_CUT b.num) 0 else t) s

/-! ## Completion (R21, R127, R139, R140) -/

/-- The outcome codes of R139. -/
inductive Fate where
  | done | aborted (reason : Nat) | refused (reason : Nat) | notPrinted (reason : Nat)
  deriving DecidableEq, Repr

def Fate.outcome : Fate → Nat
  | .done => 1
  | .aborted _ => 2
  | .refused _ => 3
  | .notPrinted _ => 4

def Fate.reason : Fate → Nat
  | .done => 0
  | .aborted r => r
  | .refused r => r
  | .notPrinted r => r

/-- The event of a completion record (R140). -/
def Fate.event : Fate → Event
  | .done => Ev.PIECE_DONE
  | .aborted _ => Ev.PIECE_ABORTED
  | .refused _ => Ev.PIECE_REFUSED
  | .notPrinted _ => Ev.PIECE_REJECTED

/-- Stores words at rising addresses. -/
def State.setWords (s : State) (a : Nat) (ws : List Word) : State :=
  (ws.zipIdx).foldl (fun t e => t.setWord (a + 4 * e.2) e.1) s

/-- Stores bytes as words. -/
def State.setBytes (s : State) (a : Nat) (bs : List Byte) : State := s.setWords a (wordsFrom bs 0 (bs.length / 4))

/-- A module-owned compare unit is given back (R195); it stays module-owned. -/
def State.freeCompare (s : State) (k : Nat) : State := s.wr (R.CMP_STATUS_ARMED k) 0

/-- FLAGS of the record: REJECTED also for what is aborted or not printed (R21). -/
def Piece.recordFlags (p : Piece) (f : Fate) : Nat :=
  p.flags % 512 / 2 * 2 + b2n (p.rejected || (match f with | .aborted _ => true | .notPrinted _ => true | _ => false))

/-- The 32 bytes of a completion record (R139). -/
def State.recordBytes (s : State) (p : Piece) (f : Fate) : List Byte :=
  leBytes 4 p.num ++ leBytes 1 f.outcome ++ leBytes 1 f.reason ++ leBytes 2 (p.recordFlags f) ++
    leBytes 4 p.firstSeq ++ leBytes 4 p.blanked ++ leBytes 4 p.gap ++
    leBytes 4 (if p.startRule = 1 then p.latch else 0) ++ leBytes 8 s.tb2

/-- Lifetime counts of completion records (R448). -/
def State.countRecord (s : State) (p : Piece) (f : Fate) : State :=
  let s1 := if p.recordFlags f % 2 = 1 then s.lifeAdd 0x04C 4 1 else s
  match f with
  | .done => s1.lifeAdd 0x048 4 1
  | .aborted _ => s1.lifeAdd 0x050 4 1
  | .refused _ => s1.lifeAdd 0x054 4 1
  | .notPrinted _ => s1.lifeAdd 0x058 4 1

/-- Writes the piece's completion record, releases what it holds and sends its event (R131, R139, R140, R162). -/
def State.complete (s : State) (p : Piece) (f : Fate) : State :=
  let k := s.rd R.PQ_LOG_COUNT_COUNT
  let s1 := (s.setBytes (0x4E000000 + 32 * (k % 4096)) (s.recordBytes p f)).inc R.PQ_LOG_COUNT_COUNT
  let s2 := (s1.countRecord p f).freeBands p.bands
  let s3 := p.compare.elim s2 s2.freeCompare
  let bad := p.rejected || (match f with | .done => false | _ => true)
  let s4 := { s3 with
    pieces := s3.pieces.filter (fun q => q.num != p.num)
    verify := if p.verify ∧ p.prints.any (fun r => r.fields.any (fun (x : FieldRun) => x.verify && x.result == 0)) then s3.verify ++ [p]
      else s3.verify
    ring := s3.ring.filter (fun l => l.piece != p.num)
    evid := match p.start with
      | some st => if p.evidence then (s3.evid ++ [(p.num, st, p.lines, p.refTg)]).drop
          (s3.evid.length - 63) else s3.evid
      | none => s3.evid
    ended := (s3.ended.filter (fun (e : Ended) => decide (k < e.index + 4096))) ++ [(⟨p.num, k, p.desc⟩ : Ended)]
    rejects := (s3.rejects.filter (fun (r : Reject) => !(r.piece == p.num && r.acted))).map (fun (r : Reject) =>
      if r.piece = p.num then { r with bad := r.bad || bad } else r) }
  (s4.loads.poolFree.busy).raise f.event p.num f.reason

/-- The abort of a piece: it forms no further line in any bar, and its record is written (R103, R104, R139). -/
def State.abortPiece (s : State) (num reason : Nat) : State :=
  match s.piece num with
  | none => s
  | some p => s.complete p (.aborted reason)

/-- A piece is not printed (R123, R221). -/
def State.notPrinted (s : State) (num reason : Nat) : State :=
  match s.piece num with
  | none => s
  | some p => s.complete p (.notPrinted reason)

end Sys2Proof.Machine
end

