-- ==== Sys2Proof/Machine/BarsOps.lean ====
section
/-! DEFINITION. Timing generators, the decompression lead, SPEED_DEMAND and the common stop (R202 to R221). -/

namespace Sys2Proof.Machine

/-! ## Triggers (R202 to R205) -/

/-- The source count of a generator under a SRC code (R202); `n` stands for the generator's own fixed clock. -/
def State.sourceCount (s : State) (src n : Nat) : Nat :=
  if src < 0x10 then s.rdW (R.LG_LINE_LO_LINE src) (R.LG_LINE_HI_LINE src)
  else if src = 0x10 then s.rdW R.LSI_COUNT_LO_COUNT R.LSI_COUNT_HI_COUNT
  else if 0x20 ≤ src then s.lineCount (src - 0x20)
  else n

/-- The line count of a generator takes a new value. -/
def State.setCount (s : State) (k n : Nat) : State := s.wrW (R.TG_LINE_LO_LINE k) (R.TG_LINE_HI_LINE k) (n % 2 ^ 48)

/-- A generator raises a trigger: count, and overshoot `num`/`den` of a line. -/
def State.trigger (s : State) (k n num den : Nat) : State :=
  (s.setCount k n).onTg k (fun g => { g with trig := some ⟨s.time, num, den, n⟩, trigs := ((s.time, n) :: g.trigs).take 20 })

/-- A generator and its followers see a new source count (R203). -/
def State.feed (s : State) (k src num den : Nat) : State :=
  let div := s.rd (R.TG_CFG_DIV k) + 1
  let n := src / div
  if !s.flag (R.TG_CFG_EN k) then s
  else if s.lineCount k < n then
    (List.range 16).foldl (fun (t : State) j =>
      if s.rd (R.TG_CFG_SRC j) = 0x20 + k ∧ s.flag (R.TG_CFG_EN j) then t.trigger j n num (den * div) else t)
      (s.trigger k n num (den * div))
  else s

/-- Every generator on a source sees its new count. -/
def State.feedAll (s : State) (code src num den : Nat) : State :=
  (List.range 16).foldl (fun (t : State) k => if t.rd (R.TG_CFG_SRC k) = code then t.feed k src num den else t) s

/-- The generators of one root and effective DIV as another one (a stop group, R219). -/
def State.groupOf (s : State) (k : Nat) : List Nat :=
  (List.range 16).filter (fun j => s.root false j == s.root false k && s.effDiv false j == s.effDiv false k)

/-! ## Decompression lead (R217) -/

/-- The first line of a stream that is not yet present. -/
def BandRun.present (b : BandRun) : Nat := if b.migrating ∧ b.next ≤ b.cut then b.next else max b.next b.next2

/-- The lead of a bar over the pieces it will still form; `none`: nothing limits it. -/
def leadOver (b : Nat) : List Piece → Nat → Option Nat
  | [], _ => none
  | p :: ps, acc =>
    if !bit p.barMask b ∨ p.ended.contains b ∨ p.stage = .queued then leadOver b ps acc
    else
      let j := p.at_ b
      let short := (p.bands.filter (fun x => x.bars.contains b && decide (x.present < x.lines))).map (fun x => x.present - j)
      match short with
      | [] => leadOver b ps (acc + (p.lines - j))
      | x :: xs => some (acc + xs.foldl min x)

/-- TGk_LEAD (R217). -/
def State.lead (s : State) (b : Nat) : Nat := min 65535 ((leadOver b s.pieces 0).getD 65535)

/-- The lead registers and the LEAD_LOW condition of a bar follow (R217). -/
def State.updateLead (s : State) (b : Nat) : State :=
  let l := s.lead b
  let low := s.barActive b && decide (l < s.rd (R.TG_LEAD_WARN_LINES b))
  ((s.wr (R.TG_LEAD_LINES b) l).wrB (R.TG_STATUS_LEAD_LOW b) low).cond low Ev.LEAD_LOW b l

/-! ## SPEED_DEMAND (R218) -/

/-- The smaller of two fractions with codes; the first on a tie. -/
def minFrac (x y : Nat × Nat × Nat) : Nat × Nat × Nat := if y.1 * x.2.1 < x.1 * y.2.1 then y else x

/-- The head of a channel (R434). -/
def State.head (s : State) (c : Nat) : Head := Sparse.get {} s.heads c

/-- Its temperature as a sum of codes and their number. -/
def Head.mean (h : Head) : Nat × Nat := (h.codes.sum, h.codes.length)

/-- The head-temperature factor of a channel (R435): numerator and denominator. -/
def State.headFrac (s : State) (c : Nat) : Nat × Nat :=
  let m := (s.head c).mean
  let hard := s.rd (R.BAR_HEADLIM_HARD (s.chBar c)) * m.2
  let soft := s.rd (R.BAR_HEADLIM_SOFT (s.chBar c)) * m.2
  if s.flag (R.CH_HEADT_STALE c) then (0, 1)
  else if m.2 = 0 then (1, 1)
  else (min (hard - m.1) (hard - soft), max 1 (hard - soft))

/-- bg_scale in 1/2000: the smallest of 1 − θ, the governor's G and S (R427, R430, R439). -/
def State.bgScale (s : State) : Nat :=
  if s.flag R.THERM_STATE_BG_HELD || s.therm.dipStart.isSome then 0
  else min (2000 - 2 * s.therm.theta) (125 * s.rd R.CEIL_STATE_G)

/-- The demand as a fraction, and the factor that sets it (R218). -/
def State.demand (s : State) : Nat × Nat × Nat :=
  let bars := (List.range 16).filter s.barActive
  let host := (min 1000 (s.rd R.SD_HOST_DEMAND), 1000, 0)
  let lead := bars.foldl (fun x b => minFrac x (min (s.lead b) (s.rd (R.TG_LEAD_WARN_LINES b)), max 1 (s.rd (R.TG_LEAD_WARN_LINES b)), 1)) (1, 1, 1)
  let heat := (2000 - s.therm.theta, 2000, 2)
  let head := (bars.flatMap s.barChannels).foldl (fun x c => minFrac x ((s.headFrac c).1, (s.headFrac c).2, 3)) (1, 1, 3)
  let sup := (s.rd R.CEIL_STATE_U, 64, 4)
  let stop := (b2n (!s.stop.active), 1, 5)
  [lead, heat, head, sup, stop].foldl minFrac host

/-- SD_NOW follows (R218). -/
def State.speedDemand (s : State) : State :=
  let d := s.demand
  (s.wr R.SD_NOW_DEMAND (divOpenN 9 (1000 * d.1) d.2.1)).wr R.SD_NOW_LIMIT d.2.2

/-! ## The common stop (R219 to R221) -/

/-- The bars of a stop group with a piece in flight. -/
def State.groupBars (s : State) (k : Nat) : List Nat := (s.groupOf k).filter s.barActive

/-- The first position of a group no bar has formed: C + 2 − W_min (R219). -/
def State.stopP0 (s : State) (k : Nat) : Nat :=
  let ws := (s.groupBars k).map (fun b => s.rd (R.TG_DELAY_WHOLE b))
  s.lineCount k + 2 - ws.foldl min (ws.headD 0)

/-- The line after the last line of a piece, of the repeat in progress at `pos` for a repeat piece (R219). -/
def Piece.endFrom (p : Piece) (pos : Nat) : Nat :=
  let st := p.start.getD 0
  if p.isRepeat then st + ((pos - st) / p.lines + 1) * p.lines else st + p.lines

/-- A position falls within a piece. -/
def Piece.covers (p : Piece) (pos : Nat) : Bool :=
  match p.start with
  | none => false
  | some st => decide (st ≤ pos) && (match p.total with
    | none => true
    | some n => decide (pos < st + n))

/-- The stop position P of the group of generator `k` (R219). -/
def State.stopPos (s : State) (k : Nat) : Nat :=
  let p0 := s.stopP0 k
  match s.pieces.find? (fun (p : Piece) => p.stage != Stage.queued && (s.groupOf k).any (fun b => bit p.barMask b) && p.covers p0) with
  | none => p0
  | some p => if p.endFrom p0 - p0 ≤ s.rd R.STOP_GRACE_LINES then p.endFrom p0 else p0

/-- A stop position takes force in a group: registers, event, pieces cut at P (R219, R221). -/
def State.setStop (s : State) (k cause : Nat) : State :=
  let p := s.stopPos k
  let grp := s.groupOf k
  let s1 := grp.foldl (fun (t : State) j =>
    (t.wr (R.TG_STOP_POS j) (p % 2 ^ 32)).onTg j (fun g => { g with stopP := some p })) s
  let s2 := s1.wr R.STOP_CAUSE_SETTING cause
  let s3 := { s2 with pieces := s2.pieces.map (fun (q : Piece) =>
    if grp.any (fun b => bit q.barMask b) ∧ q.stage ≠ Stage.queued then { q with cut := some p } else q) }
  s3.raise Ev.COMMON_STOP (grp.headD k) (p % 2 ^ 32)

/-- The stop position of one group, unless a stop in force there comes no later (R220). -/
def State.stopGroup (s : State) (cause k : Nat) : State :=
  match (s.tg k).stopP with
  | some old => if s.stopPos k < old then s.setStop k cause else s
  | none => s.setStop k cause

/-- One generator of every stop group with a piece in flight, the lowest. -/
def State.stopLeaders (s : State) : List Nat :=
  (List.range 16).filter (fun k => !(s.groupBars k).isEmpty && (s.groupOf k).headD k == k)

/-- The admitted pieces that a stop keeps from starting: NOT_PRINTED with reason 0x12 (R221). -/
def State.dropUnstarted (s : State) : State :=
  ((s.pieces.filter (fun (p : Piece) => p.stage == .admitted && !p.printing && (match p.cut, p.start with
      | some c, some st => decide (c ≤ st)
      | some _, none => p.startRule != 1
      | none, _ => false))).map (·.num)).foldl (fun (t : State) n => t.notPrinted n 0x12) s

/-- Requests a common stop with a cause of STOP_CAUSE (R219, R220). -/
def State.requestStop (s : State) (cause : Nat) : State :=
  let s1 := if s.stop.active then s
    else (({ s with stop := { s.stop with active := true } }.wr R.STOP_CAUSE_FIRST cause).wr
      R.STOP_CAUSE_SETTING cause).lifeAdd (0x068 + 2 * (cause - 1)) 2 1
  ((s1.stopLeaders).foldl (fun (t : State) k => t.stopGroup cause k) s1).dropUnstarted.speedDemand

/-- A fault the module cannot hide requests a stop; a condition event's cause holds RESUME back (R1, R221). -/
def State.faultStop (s : State) (e : Event) (source : Nat) : State :=
  { s with stop := { s.stop with faults := s.stop.faults ++ [(e.code, source)] } }.requestStop 5

/-- A cause of the stop is still active (R221). -/
def State.stopHeld (s : State) : Bool :=
  s.flag R.THERM_STATE_STOP_HEAD || s.flag R.THERM_STATE_STOP_DIE || s.flag R.SUP_STATE_SUPPLY_STOP ||
    s.stop.faults.any (fun f => s.conds.contains f)

/-- The stop ends: STOPPED clears in every bar (R221). -/
def State.resumeAll (s : State) : State :=
  let s1 := { s with stop := {} }
  ((List.range 16).foldl (fun (t : State) k =>
    (t.wr (R.TG_STATUS_STOPPED k) 0).onTg k (fun g => { g with stopP := none })) s1).speedDemand

/-! ## Mode changes (R206) -/

/-- The registers of one generator that hold mode fields. -/
def modeRegs (k : Nat) : List Nat := [R.TG_CFG k, R.TG_DELAY k, R.TG_PERIOD k, R.TG_MAX_RATE k]

/-- A mode field of the generator is pending. -/
def State.modePending (s : State) (k : Nat) : Bool := (modeRegs k).any (fun a => (s.pendWord a).isSome)

/-- The generators that follow another one take its line count (R203). -/
def State.followCount (s : State) (k n : Nat) : State :=
  (List.range 16).foldl (fun (t : State) j =>
    if s.rd (R.TG_CFG_SRC j) = 0x20 + k ∧ s.lineCount j < n then t.setCount j n else t) s

/-- The pending mode fields of a generator take effect, SRC and DIV as R206 checks them. -/
def State.applyMode (s : State) (k : Nat) : State :=
  if !s.modePending k then s
  else
    let src := s.eff (R.TG_CFG_SRC k)
    let div := s.eff (R.TG_CFG_DIV k) + 1
    let cur := s.lineCount k
    let changed := src != s.rd (R.TG_CFG_SRC k) || div != s.rd (R.TG_CFG_DIV k) + 1
    let n := if src = 0x11 then cur else if 0x20 ≤ src then s.sourceCount src 0 else s.sourceCount src 0 / div
    let drop := changed && decide (n < cur)
    let keep := s.word (R.TG_CFG k)
    let s1 := (modeRegs k).foldl (fun (t : State) a => t.applyPend a) s
    let s2 := if drop then
        ((s1.wr (R.TG_CFG_SRC k) (bits keep.toNat 0 6)).wr (R.TG_CFG_DIV k) (bits keep.toNat 8 4)).wr (R.TG_STATUS_MODE_DROPPED k) 1
      else if changed then
        ((s1.setCount k n).followCount k n).onTg k (fun g => { g with acc := 0, accAt := s.time, offset := n * div })
      else s1
    (s2.wr (R.TG_STATUS_PENDING k) 0).raise Ev.MODE_APPLIED k (b2n drop)

end Sys2Proof.Machine
end

