-- ==== Sys2Proof/Machine/PosOps.lean ====
section
/-! DEFINITION. Encoders, line generators, the index check, compare units and divided outputs (R175 to R201). -/

namespace Sys2Proof.Machine

/-! ## Positions (R178) -/

/-- The size of the position space. -/
abbrev posMod : Nat := 281474976710656

/-- `x` as a signed distance from `y`, over a half range (R178). -/
def fwd (x y : Nat) : Int := signed 48 (unsigned 48 ((x : Int) - y))

/-- `x` lies ahead of `y` (R178). -/
def ahead (x y : Nat) : Bool := decide (0 < fwd x y)

/-- A position moved by a signed number of counts. -/
def posAdd (x : Nat) (d : Int) : Nat := unsigned 48 ((x : Int) + d)

/-- The true position of an encoder. -/
def State.encTrue (s : State) (n : Nat) : Nat := s.rdW (R.ENC_TRUE_LO_POS n) (R.ENC_TRUE_HI_POS n)

/-- The print position of an encoder. -/
def State.encPrint (s : State) (n : Nat) : Nat := s.rdW (R.ENC_PRINT_LO_POS n) (R.ENC_PRINT_HI_POS n)

/-- Sets the true position. -/
def State.setTrue (s : State) (n v : Nat) : State := s.wrW (R.ENC_TRUE_LO_POS n) (R.ENC_TRUE_HI_POS n) v

/-- Sets the print position. -/
def State.setPrint (s : State) (n v : Nat) : State := s.wrW (R.ENC_PRINT_LO_POS n) (R.ENC_PRINT_HI_POS n) v

/-- One encoder's state beside its registers. -/
def State.enc (s : State) (n : Nat) : Enc := Sparse.get {} s.encs n

/-- Changes one encoder's state. -/
def State.onEnc (s : State) (n : Nat) (f : Enc → Enc) : State := { s with encs := Sparse.upd {} s.encs n f }

/-! ## Counting (R175, R177) -/

/-- The quadrature count of one changed input: +1 for rising A with B low and round the same way. -/
def quadStep (a b a' b' : Bool) : Int :=
  if a != a' then (if a' != b' then 1 else -1) else if b != b' then (if a' == b' then 1 else -1) else 0

/-- The count of new levels in a mode, and whether the change is illegal (R175, R177). -/
def encDelta (mode mult : Nat) (pol a b a' b' : Bool) : Int × Bool :=
  let up := b2n (!a && a')
  let d : Int × Bool :=
    if mode = 1 then
      if a != a' && b != b' then (0, true)
      else if mult = 0 then (quadStep a b a' b', false)
      else if mult = 1 then (if a != a' then quadStep a b a' b' else 0, false)
      else (if !a && a' then quadStep a b a' b' else 0, false)
    else if mode = 2 then (if b' then -(up : Int) else up, false)
    else if mode = 3 then ((up : Int) - b2n (!b && b'), false)
    else (0, false)
  (if pol then -d.1 else d.1, d.2)

/-! ## Line generators (R180, R181, R185, R186, R188) -/

/-- The line generator follows ENC1 now by a fail-over (R188). -/
def State.lgFollows (s : State) (k : Nat) : Bool :=
  s.rd (R.LG_CFG_SRC k) == 0 && s.flag (R.LG_CFG_FOLLOW k) && s.flag (R.ENC_STATUS_FAILED_OVER 0)

/-- The encoder that feeds a line generator now. -/
def State.lgEnc (s : State) (k : Nat) : Nat := if s.lgFollows k then 1 else s.rd (R.LG_CFG_SRC k)

/-- The increment in force now, in 2^−32 lines a count. -/
def State.lgInc (s : State) (k : Nat) : Nat :=
  if s.lgFollows k then s.rdW (R.LG_INC1_LO_FRAC k) (R.LG_INC1_HI_INT k) else s.rdW (R.LG_INC_LO_FRAC k) (R.LG_INC_HI_INT k)

/-- The line count of a line generator. -/
def State.lgLine (s : State) (k : Nat) : Nat := s.rdW (R.LG_LINE_LO_LINE k) (R.LG_LINE_HI_LINE k)

/-- The accumulator takes `n` counts; no trigger (R185). -/
def State.lgAdvance (s : State) (k n : Nat) : State :=
  let acc := (Sparse.get 0 s.lgs k + n * s.lgInc k) % 2 ^ 80
  ({ s with lgs := Sparse.set 0 s.lgs k acc }).wr (R.LG_FRAC_FRAC k) (acc % 2 ^ 32)

/-- The bars fed by a line generator (R202). -/
def State.lgBars (s : State) (k : Nat) : List Nat := (List.range 16).filter (fun b => s.root false b == k)

/-- The bars fed by a line generator on an encoder. -/
def State.encBars (s : State) (n : Nat) : List Nat :=
  (List.range 16).filter (fun b => decide (s.root false b < 16) && s.lgEnc (s.root false b) == n)

/-- A bar fed by the encoder has a line of a piece in flight. -/
def State.encBusy (s : State) (n : Nat) : Bool := (s.encBars n).any s.barActive

/-- The pieces in flight in some bars. -/
def State.inFlight (s : State) (bs : List Nat) : List Piece := s.pieces.filter (fun p => bs.any p.inBar)

/-- DIR turns to reverse: REVERSED in the pieces in flight (R181). -/
def State.markReversed (s : State) (n : Nat) : State :=
  { s with pieces := s.pieces.map (fun (p : Piece) =>
    if (s.encBars n).any p.inBar then { p with flags := p.flags ||| 2 } else p) }

/-- The reversal depth of one generator (R181): registers, and the abort of what is in flight beyond REV_LIMIT. -/
def State.reversal (s : State) (n k : Nat) : State :=
  let d := (s.encPrint n : Int) - s.encTrue n
  let back := (unsigned 48 d) * s.lgInc k
  if ahead (s.encPrint n) (s.encTrue n) then
    let show256 := min 0xFFFFFF (divOpenN 20 back (2 ^ 24))
    let s1 := (s.wr (R.LG_DEPTH_DEPTH k) show256).wr (R.LG_REV_MAX_DEPTH k) (max (s.rd (R.LG_REV_MAX_DEPTH k)) show256)
    if s.rd (R.LG_REV_LIMIT_LINES k) * 2 ^ 32 < back then
      (s1.inFlight (s1.lgBars k)).foldl (fun (t : State) (p : Piece) =>
        (t.abortPiece p.num 0x21).raise Ev.REVERSAL_ABORT k p.num) s1
    else s1
  else s.wr (R.LG_DEPTH_DEPTH k) 0

/-! ## Divided outputs (R197) -/

/-- The source in force of a divided output: encoder, true position, ratio (N, M). -/
def State.encoutSrc (s : State) (n : Nat) : Nat × Bool × Nat × Nat :=
  let src := s.rd (R.ENCOUT_CFG_SRC n)
  let swap := src % 2 == 0 && s.flag (R.ENCOUT_CFG_FOLLOW n) && s.flag (R.ENC_STATUS_FAILED_OVER 0)
  if swap then (1, decide (2 ≤ src), s.rd (R.ENCOUT_RATIO1_N n), s.rd (R.ENCOUT_RATIO1_M n))
  else (src % 2, decide (2 ≤ src), s.rd (R.ENCOUT_RATIO_N n), s.rd (R.ENCOUT_RATIO_M n))

/-- One output count finds its place, or is dropped when four wait already. -/
def State.encoutEmit (s : State) (n : Nat) (forward : Bool) : State × Option Nat :=
  let o := Sparse.get {} s.encouts n
  let gap := if s.flag (R.ENCOUT_CFG_FORM n) then 2 * s.rd (R.ENCOUT_CFG_PULSE_W n) else 1
  let slots := o.slots.filter (fun t => decide (s.time < t))
  let t := match o.last with
    | some l => max s.time (l + gap)
    | none => s.time
  if s.time < t ∧ 4 ≤ slots.length then (s.inc (R.ENCOUT_OVF_COUNT n), none)
  else
    let slots := if s.time < t then slots ++ [t] else slots
    ((({ s with encouts := Sparse.set {} s.encouts n { o with last := some t, slots := slots } }).emit
      (.encout n forward t)).inc (R.ENCOUT_COUNT_COUNT n), some t)

/-- A source count divides (R197); the ticks of the counts it emits. -/
def State.encoutCount (s : State) (n : Nat) (d : Int) : State × List Nat :=
  let (_, _, num, den) := s.encoutSrc n
  let a : Int := (Sparse.get {} s.encouts n).acc + d * num
  let k := a / den
  let s1 := { s with encouts := Sparse.upd {} s.encouts n (fun o => { o with acc := (a % den).toNat }) }
  (List.range k.natAbs).foldl (fun r _ =>
    let e := r.1.encoutEmit n (decide (0 < k))
    (e.1, r.2 ++ e.2.toList)) (s1, [])

/-- Every enabled divided output on the encoder takes its count: `d` true counts, `p` print counts. The pairs of output and tick. -/
def State.encoutFeed (s : State) (enc : Nat) (d p : Int) : State × List (Nat × Nat) :=
  (List.range 2).foldl (fun r n =>
    let src := r.1.encoutSrc n
    let x := if src.2.1 then d else p
    if r.1.flag (R.ENCOUT_CFG_EN n) ∧ src.1 = enc ∧ x ≠ 0 then
      let e := r.1.encoutCount n x
      (e.1, r.2 ++ e.2.map (fun t => (n, t)))
    else r) (s, [])

/-! ## Direction, speed and the index check (R179, R183, R184, R187) -/

/-- The speed estimate starts again (R179, R184). -/
def State.resetSpeed (s : State) (n : Nat) : State :=
  ((s.onEnc n (fun e => { e with sinceReset := 0 })).wr (R.ENC_SPEED_SPEED n) 0).wr (R.ENC_STATUS_SPEED_VALID n) 0

/-- DIR changes (R179). -/
def State.turn (s : State) (n dir : Nat) : State :=
  let s1 := (((s.wr (R.ENC_STATUS_DIR n) dir).onEnc n (fun e => { e with ext := s.encTrue n, turned := true })).resetSpeed n).inc
    (R.ENC_REVERSALS_COUNT n)
  let s2 := if n = 1 then s1.onEnc 0 (fun e => { e with e1 := s1.encTrue 1 }) else s1
  (if dir = 1 then s2.markReversed n else s2).raise Ev.DIR n dir

/-- The true position has moved by one count: the extreme, DIR and the extreme-making edges (R179, R183). -/
def State.follow (s : State) (n : Nat) : State :=
  let t := s.encTrue n
  let e := s.enc n
  let dead := s.rd (R.ENC_MOTION_DEADBAND n)
  let back := s.flag (R.ENC_STATUS_DIR n)
  let beyond := if back then ahead e.ext t else ahead t e.ext
  if beyond then
    (s.onEnc n (fun e => { e with
      ext := t
      edges := (e.edges.filter (fun x => decide (s.time ≤ x.1 + 2000 * s.rd (R.ENC_MOTION_SPD_WIN n)))
        ++ (if e.edges.all (fun x => decide (x.1 + 2000 * s.rd (R.ENC_MOTION_SPD_WIN n) < s.time)) then e.edges.getLast?.toList else []))
        ++ [(s.time, t)]
      sinceReset := min 2 (e.sinceReset + 1)
      lastExt := s.time })).wr (R.ENC_STATUS_STILL n) 0
  else if (dead : Int) < (if back then fwd t e.ext else fwd e.ext t) then s.turn n (if back then 0 else 1)
  else s

/-- One count of an encoder (R178 to R181, R185, R197): the new state and the counts the divided outputs emit. -/
def State.encCount (s : State) (n : Nat) (d : Int) : State × List (Nat × Nat) :=
  let t := posAdd (s.encTrue n) d
  let s1 := (s.setTrue n t).onEnc n (fun e => { e with hist := ((s.time, t) :: e.hist).take 20 })
  let s2 := s1.follow n
  let p : Int := if ahead t (s2.encPrint n) then 1 else 0
  let s3 := if p = 1 then
      (List.range 16).foldl (fun (u : State) k =>
        if u.flag (R.LG_CFG_EN k) ∧ u.lgEnc k = n then u.lgAdvance k 1 else u) (s2.setPrint n t)
    else s2
  let s4 := (List.range 16).foldl (fun (u : State) k => if u.lgEnc k = n then u.reversal n k else u) s3
  s4.encoutFeed n d p

/-- Compares two speeds, each a fraction of counts and ticks. -/
def slower (x y : Nat × Nat) : Nat × Nat := if x.1 * y.2 ≤ y.1 * x.2 then x else y

/-- The distance and the time between two edges. -/
def span (x y : Nat × Nat) : Nat × Nat := ((fwd y.2 x.2).natAbs, y.1 - x.1)

/-- The standstill time has passed. -/
def State.still (s : State) (n : Nat) : Bool :=
  s.flag (R.ENC_STATUS_STILL n) || decide ((s.enc n).lastExt + 200000 * s.rd (R.ENC_MOTION_STILL n) ≤ s.time)

/-- The estimate in counts and ticks, `none`: no speed (R183). -/
def State.speedFrac (s : State) (n : Nat) : Option (Nat × Nat) :=
  let e := s.enc n
  if e.sinceReset < 2 ∨ s.still n then none
  else
    let win := e.edges.filter (fun x => decide (s.time ≤ x.1 + 2000 * s.rd (R.ENC_MOTION_SPD_WIN n)))
    match e.edges.reverse with
    | last :: prev :: _ =>
      let v := if 16 ≤ win.length then span (win.headD last) last else (1, last.1 - prev.1)
      some (if s.time = last.1 then v else slower v (1, s.time - last.1))
    | _ => none

/-- The speed register follows (R183). -/
def State.estimate (s : State) (n : Nat) : State :=
  match s.speedFrac n with
  | none => (s.wr (R.ENC_SPEED_SPEED n) 0).wr (R.ENC_STATUS_SPEED_VALID n) 0
  | some f => (s.wr (R.ENC_SPEED_SPEED n) (min 0xFFFFFFFF (divOpenN 21 (3200000000 * f.1) (max 1 f.2)))).wr (R.ENC_STATUS_SPEED_VALID n) 1

/-- The cross-check of R187 runs. -/
def State.crossRuns (s : State) : Bool :=
  s.flag (R.ENC_CFG_ZEN 0) && s.rd (R.ENC_IDX_NOM1_NOM1 0) != 0 && s.rd (R.ENC_CFG_MODE 1) != 0

/-- e1 is set when the cross-check starts to run (R187). -/
def State.crossTrack (s : State) : State :=
  if s.crossRuns then (if (s.enc 0).cross then s else s.onEnc 0 (fun e => { e with cross := true, e1 := s.encTrue 1 }))
  else s.onEnc 0 (fun e => { e with cross := false })

/-- ENC0 hands over to ENC1 after three mismatches (R188). -/
def State.encFailover (s : State) (n : Nat) : State :=
  if n = 0 ∧ 3 ≤ s.rd (R.ENC_IDX_RUN_MISMATCH 0) ∧ s.flag (R.ENC_CFG_BACKUP 0) ∧ !s.flag (R.ENC_STATUS_FAILED_OVER 0) then
    ((((s.wr (R.ENC_STATUS_FAILED_OVER 0) 1).inc (R.ENC_FAILOVERS_COUNT 0)).lifeAdd 0x16C 2 1)).condOn Ev.ENC_FAILOVER
  else s

/-- mismatch() of R187. -/
def State.mismatch (s : State) (n count : Nat) : State :=
  let s1 := ((((s.inc (R.ENC_MISMATCHES_COUNT n)).addSat (R.ENC_IDX_RUN_MISMATCH n) 1).wr (R.ENC_IDX_RUN_CLEAN n) 0).wr
    (R.ENC_IDX_LAST_COUNT n) count).raise Ev.INDEX_MISMATCH n count
  (if n = 0 then s1.lifeAdd 0x170 4 1 else s1).encFailover n

/-- clean() of R187, and the return of R189. -/
def State.clean (s : State) (n : Nat) : State :=
  let s1 := (s.wr (R.ENC_IDX_RUN_MISMATCH n) 0).addSat (R.ENC_IDX_RUN_CLEAN n) 1
  if n = 0 ∧ s1.flag (R.ENC_STATUS_FAILED_OVER 0) ∧ s1.rd (R.ENC_IDX_RUN_CLEAN 0) = 100 then
    (s1.wr (R.ENC_STATUS_FAILED_OVER 0) 0).condOff Ev.ENC_FAILOVER
  else s1

/-- A qualified index edge at the true position (R187, R189). -/
def State.indexEdge (s : State) (n : Nat) : State :=
  let z := s.encTrue n
  let e := s.enc n
  let s1 := (s.wrW (R.ENC_ZPOS_LO_POS n) (R.ENC_ZPOS_HI_POS n) z).onEnc n (fun e => { e with
    e1 := if n = 0 then s.encTrue 1 else e.e1
    lastZ := some z
    turned := false
    illegal := false })
  match e.lastZ with
  | none => s1
  | some lz =>
    if s.flag (R.ENC_STATUS_DIR n) ∨ e.turned ∨ (n = 1 ∧ s.flag (R.ENC_STATUS_FAILED_OVER 0)) then s1
    else
      let c := fwd z lz
      let s2 := s1.wr (R.ENC_IDX_LAST_COUNT n) (unsigned 32 c)
      if s.rd (R.ENC_IDX_TOL_TOL n) < (c - s.rd (R.ENC_IDX_NOM_NOM n)).natAbs ∨ e.illegal then s2.mismatch n (unsigned 32 c)
      else s2.clean n

/-- TOL1 of R187. -/
def State.tol1 (s : State) : Nat :=
  (s.rd (R.ENC_IDX_TOL_TOL 0) * s.rd (R.ENC_IDX_NOM1_NOM1 0) + s.rd (R.ENC_IDX_NOM_NOM 0) - 1) / max 1 (s.rd (R.ENC_IDX_NOM_NOM 0))

/-- A preset of an encoder (R182): both positions take the value; the index check starts again. -/
def State.presetEnc (s : State) (n : Nat) : State :=
  let v := s.rdW (R.ENC_PRESET_LO_POS n) (R.ENC_PRESET_HI_POS n)
  let d := fwd v (s.encTrue n)
  let s1 := (((s.setTrue n v).setPrint n v).wr (R.ENC_STATUS_CONT n) 1).onEnc n (fun e => { e with
    ext := posAdd e.ext d
    edges := e.edges.map (fun x => (x.1, posAdd x.2 d))
    hist := (s.time, v) :: e.hist.take 19
    lastZ := none
    turned := false
    illegal := false })
  let s2 := if n = 1 then s1.onEnc 0 (fun e => { e with e1 := v }) else s1
  (List.range 16).foldl (fun (u : State) k => if u.lgEnc k = n then u.wr (R.LG_DEPTH_DEPTH k) 0 else u) s2

/-! ## Pending settings (R186, R201) -/

/-- The registers of a line generator that hold RWS fields. -/
def lgRegs (k : Nat) : List Nat := [R.LG_CFG k, R.LG_INC_LO k, R.LG_INC_HI k, R.LG_INC1_LO k, R.LG_INC1_HI k]

/-- Pending settings of a generator and of the encoders take effect where nothing they feed is in flight (R186, R201). -/
def State.lgApply (s : State) (k : Nat) : State :=
  let s1 := if (s.lgBars k).any s.barActive then s else (lgRegs k).foldl (fun (t : State) a => t.applyPend a) s
  ((List.range 2).foldl (fun (t : State) n => if t.encBusy n then t else t.applyPend (R.ENC_CFG n)) s1).crossTrack

/-! ## Compare units (R192 to R196) -/

/-- The unit is module-owned: one of the top CMP_RESERVE of its bank (R195, R196). -/
def State.owned (s : State) (k : Nat) : Bool := decide (32 ≤ k % 32 + s.cf R.CMP_RESERVE_UNITS)

/-- The reference of a unit (R192). -/
def State.cmpRef (s : State) (k : Nat) : Nat :=
  if s.flag (R.CMP_CFG_REF k) then s.lineCount (s.rd (R.CMP_CFG_TG k)) else s.encPrint (k / 32)

/-- The target of a unit. -/
def State.cmpTgt (s : State) (k : Nat) : Nat := s.rdW (R.CMP_TGT_LO_TGT k) (R.CMP_TGT_HI_TGT k)

/-- The reject outputs a firing drives (R194). -/
def State.cmpRejects (s : State) (k : Nat) : State :=
  let at_ := s.cmpRef k
  let w := s.rd (R.CMP_CFG_WIDTH k)
  let s1 := if s.flag (R.CMP_CFG_REJ0 k) then s.emit (.cmpReject k 0 at_ (at_ + w)) else s
  if s.flag (R.CMP_CFG_REJ1 k) then s1.emit (.cmpReject k 1 at_ (at_ + w)) else s1

/-- A unit fires: HIT, LATE as given, the time and the count of the hit, reject outputs; then it rearms or disarms (R194). -/
def State.cmpFire (s : State) (k : Nat) (late : Bool) : State :=
  let per := s.rd (R.CMP_PERIOD_PERIOD k)
  let s1 := (((s.wr (R.CMP_STATUS_HIT k) 1).wrB (R.CMP_STATUS_LATE k) late).addSat (R.CMP_STATUS_HITS k) 1).wrW
    (R.CMP_HIT_TIME_LO_NS k) (R.CMP_HIT_TIME_HI_NS k) s.tb2
  let s2 := s1.cmpRejects k
  if per = 0 then s2.wr (R.CMP_STATUS_ARMED k) 0
  else (s2.wrW (R.CMP_TGT_LO_TGT k) (R.CMP_TGT_HI_TGT k) (posAdd (s.cmpTgt k) per)).wr (R.CMP_STATUS_ARMED k) 1

/-- A unit is judged against its reference: armed, fired late, or discarded (R193). -/
def State.cmpJudge (s : State) (k : Nat) (events : Bool) : State :=
  let d := fwd (s.cmpTgt k) (s.cmpRef k)
  let arg := s.cmpTgt k % 2 ^ 32
  let s0 := ((s.wr (R.CMP_STATUS_HIT k) 0).wr (R.CMP_STATUS_LATE k) 0).wr (R.CMP_STATUS_MISSED k) 0
  if 0 < d then s0.wr (R.CMP_STATUS_ARMED k) 1
  else if -(s.rd (R.CMP_CFG_LATE_WIN k) : Int) ≤ d then
    let s1 := s0.cmpFire k true
    if events then s1.raise Ev.COMPARE_LATE k arg else s1
  else
    let s1 := (s0.wr (R.CMP_STATUS_MISSED k) 1).wr (R.CMP_STATUS_ARMED k) 0
    if events then s1.raise Ev.COMPARE_MISSED k arg else s1

/-- A module-owned unit has fired or been discarded: the start of its piece (R195, R123). -/
def State.cmpSettle (s : State) (k : Nat) : State :=
  match s.pieces.find? (fun (p : Piece) => p.compare == some k) with
  | none => s
  | some p =>
    if s.flag (R.CMP_STATUS_MISSED k) then (s.onPiece p.num (fun q => { q with compare := none })).notPrinted p.num 0x10
    else if s.flag (R.CMP_STATUS_HIT k) then
      let late := s.flag (R.CMP_STATUS_LATE k)
      { s with
        pieces := s.pieces.map (fun (q : Piece) =>
          if q.num = p.num then { q with compare := none, start := if late then q.start.map (· + 1) else q.start } else q)
        rejects := s.rejects.map (fun (r : Reject) =>
          if late ∧ r.piece = p.num then { r with from_ := r.from_ + 1, to_ := r.to_ + 1 } else r) }
    else s

/-- The lowest free module-owned unit of a bank (R195). -/
def State.freeUnit (s : State) (bank : Nat) : Option Nat :=
  ((List.range 32).map (· + 32 * bank)).find? (fun k => s.owned k && !s.pieces.any (fun p => p.compare == some k))

end Sys2Proof.Machine
end

