-- ==== Sys2Proof/Machine/SpanOps.lean ====
section
/-! DEFINITION. Spans: control bits, status bits, latches and counts of the leaves (R110 to R113). -/

namespace Sys2Proof.Machine

/-- What a leaf holds, by channel. -/
def State.leaf (s : State) (c : Nat) : Leaf := Sparse.get {} s.spans.leaves c

/-- Changes what a leaf holds. -/
def State.onLeaf (s : State) (c : Nat) (f : Leaf → Leaf) : State :=
  { s with spans := { s.spans with leaves := Sparse.upd {} s.spans.leaves c f } }

/-- A control bit of a leaf (R111). -/
def State.ctrl (s : State) (c i : Nat) : Bool := (s.leaf c).ctrl.getLsbD i

abbrev ctrlMute : Nat := 0
abbrev ctrlDarnOff : Nat := 1
abbrev ctrlFreeze : Nat := 2
abbrev ctrlTest : Nat := 8
abbrev ctrlSpit : Nat := 9
abbrev ctrlClear : Nat := 15

/-- Clears a one-shot control bit in a leaf (R111). -/
def State.ctrlDone (s : State) (c i : Nat) : State :=
  s.onLeaf c (fun l => { l with ctrl := l.ctrl &&& ~~~(BitVec.ofNat 16 (2 ^ i)) })

/-- The channel and the nozzle in it of a global nozzle index (R228); none at or above the total. -/
def State.nozzleAt (s : State) (n : Nat) : Option (Nat × Nat) :=
  (s.channels.find? (fun c => decide (s.nbase c ≤ n ∧ n < s.nbase c + s.chWidth c))).map (fun c => (c, n - s.nbase c))

/-- Listed nozzles of a channel (R110, R112). -/
def State.mendedIn (s : State) (c : Nat) : Nat :=
  (s.darn.list.filter (fun m => decide (s.nbase c ≤ m.nozzle ∧ m.nozzle < s.nbase c + s.chWidth c))).length

/-- A fault-class condition names a resource of the leaf (R112): its bar, its lanes, or a unit every leaf uses. -/
def State.leafFault (s : State) (c : Nat) : Bool :=
  s.conds.any (fun e =>
    (e.1 == Ev.LANE_DOWN.code && (e.2 == s.cf (R.CH_LANE_HOME c) ||
      (s.cf (R.CH_LANE_DUPLEX c) == 1 && e.2 == s.cf (R.CH_LANE_SECOND c)))) ||
    (e.1 == Ev.HEAD_HARD_LIMIT.code && e.2 == c) ||
    [Ev.SEQ_RETIRED.code, Ev.MENDING_FULL.code, Ev.UNCORRECTABLE.code, Ev.VIO_LOST.code, Ev.ORDERLY_STOP.code,
      Ev.BIST_FAIL.code, Ev.DAWN_DEGRADED.code].contains e.1)

/-- The head temperature of a channel as a code: the mean of its last codes, its rounding open (R434); none without a sensor. -/
def State.headTemp (s : State) (c : Nat) : Option Nat :=
  let l := (s.head c).codes
  if l = [] then none else some (divOpenN 58 l.sum l.length)

/-- HEAD_HARD of a channel (R434). -/
def State.headHard (s : State) (c : Nat) : Bool := (s.head c).hard

/-- HEAD_SOFT of a channel (R434). -/
def State.headSoft (s : State) (c : Nat) : Bool := (s.head c).soft

/-- The channel prints a piece that is in flight in its bar. -/
def State.chActive (s : State) (c : Nat) : Bool :=
  s.pieces.any (fun p => p.inBar (s.chBar c) && p.chans.any (fun e => e.1 == c))

/-- The status bits of a leaf now (R112). -/
def State.leafNow (s : State) (c : Nat) : Nat :=
  if !s.chOn c then 0
  else
    b2n (s.chActive c) + 2 * b2n (s.leafFault c) + 4 * b2n (s.rd (R.HL_STATE_STATE (s.cf (R.CH_LANE_HOME c))) != 5) +
      8 * b2n (s.flag (R.CH_LANE_ON_SECOND c)) + 16 * b2n (s.headSoft c) + 32 * b2n (s.headHard c) +
      64 * b2n (s.mendedIn c != 0) + 128 * b2n (s.leaf c).late + 256 * b2n (!s.chActive c)

/-- A leaf latches the status bits that are 1 now, but those that have been 1 ever since Dawn (R112). -/
def Leaf.latch (l : Leaf) (now : BitVec 10) : Leaf :=
  { l with sticky := l.sticky ||| (now &&& ~~~l.quiet), quiet := l.quiet &&& now }

/-- Every leaf latches its status bits (R112). -/
def State.latch (s : State) : State :=
  (s.spans.nodes.filterMap (·.chan)).foldl (fun (t : State) c => t.onLeaf c (fun l => l.latch (BitVec.ofNat 10 (s.leafNow c)))) s

/-- After Dawn no bit is latched: those that are 1 have not become 1 since (R110). -/
def State.latchDawn (s : State) : State :=
  (s.spans.nodes.filterMap (·.chan)).foldl (fun (t : State) c =>
    t.onLeaf c (fun l => { l with sticky := 0, quiet := BitVec.ofNat 10 (s.leafNow c) })) s

/-- The outcome of a command after which the leaves latch. -/
def State.done (s : State) : Outcome := .next s.latch

/-- The leaf beneath a node, or the leaves beneath a group, by depth (R110). -/
def State.leavesUnder (s : State) : Nat → Nat → List Nat
  | 0, _ => []
  | d + 1, n =>
    match s.spans.nodes.find? (fun x => x.num == n) with
    | none => []
    | some x => match x.chan with
      | some c => [c]
      | none => (s.spans.nodes.filter (fun y => y.parent == some n)).flatMap (fun y => s.leavesUnder d y.num)

/-- Every leaf beneath a span; the tree is at most 8 deep (R66). -/
def State.leavesOf (s : State) (n : Nat) : List Nat := s.leavesUnder 9 n

/-- One commit of CTRL_SET (R111). -/
def State.ctrlSet (s : State) (n v : Nat) : State :=
  (s.leavesOf n).foldl (fun (t : State) c => t.onLeaf c (fun l => { l with
    ctrl := l.ctrl ||| BitVec.ofNat 16 v
    testFrom := if bit v ctrlTest then s.time else l.testFrom })) s

/-- One commit of CTRL_CLR (R111). -/
def State.ctrlClr (s : State) (n v : Nat) : State :=
  (s.leavesOf n).foldl (fun (t : State) c => t.onLeaf c (fun l => { l with ctrl := l.ctrl &&& ~~~(BitVec.ofNat 16 v) })) s

/-- One commit of STATUS_STICKY: the copies clear, and latch again where the bit is still 1 (R112). -/
def State.stickyClr (s : State) (n v : Nat) : State :=
  (s.leavesOf n).foldl (fun (t : State) c => t.onLeaf c (fun l =>
    let w := BitVec.ofNat 10 v
    { l with sticky := (l.sticky &&& ~~~w) ||| (BitVec.ofNat 10 (s.leafNow c) &&& w), quiet := l.quiet &&& ~~~w })) s

/-- A line of a leaf is blanked (R112, R215). -/
def State.leafBlank (s : State) (c : Nat) : State := s.onLeaf c (fun l => { l with blanked := true })

/-- A leaf fires a line with so many drops (R110, R236); the root's lifetime sums go with it. -/
def State.leafLine (s : State) (c drops : Nat) : State :=
  ((s.onLeaf c (fun l => { l with lines := l.lines + 1, drops := l.drops + drops })).lifeAdd 0x038 8 1).lifeAdd 0x040 8 drops

/-- The 1 ms snapshot: counts, COUNT_CLEAR and the LATE bit (R111 to R113). -/
def State.snapshotSpans (s : State) : State :=
  let s1 := { s with spans := { s.spans with snap := (s.spans.snap + 1) % 2 ^ 32, snapAt := some s.time } }
  (s1.spans.nodes.filterMap (·.chan)).foldl (fun (t : State) c =>
    let n := t.chWidth c
    let m := t.mendedIn c
    t.onLeaf c (fun l =>
      let clr := l.ctrl.getLsbD ctrlClear
      let lines := if clr then 0 else l.lines
      let drops := if clr then 0 else l.drops
      { l with
        ctrl := l.ctrl &&& 0x7FFF
        lines := lines
        drops := drops
        late := l.blanked
        blanked := false
        snapNozzles := n
        snapMended := m
        snapLines := lines
        snapDrops := drops })) s1

end Sys2Proof.Machine
end

