-- ==== Sys2Proof/Machine/LaneOps.lean ====
section
/-! DEFINITION. Head lanes: bring-up, fire markers, echo, loss and return, receiver trims (R254 to R284, R212 to R215). -/

namespace Sys2Proof.Machine

/-! ## Lanes -/

/-- One lane's state beside its registers. -/
def State.lane (s : State) (n : Nat) : Lane := Sparse.get {} s.lanes n

/-- Changes one lane's state. -/
def State.onLane (s : State) (n : Nat) (f : Lane → Lane) : State := { s with lanes := Sparse.upd {} s.lanes n f }

abbrev laneOff : Nat := 0
abbrev laneDetect : Nat := 1
abbrev laneTrain : Nat := 2
abbrev laneLock : Nat := 3
abbrev laneExchange : Nat := 4
abbrev laneActive : Nat := 5
abbrev laneShallow : Nat := 6
abbrev laneDeep : Nat := 7

/-- HLn_STATE.STATE. -/
def State.laneState (s : State) (n : Nat) : Nat := s.rd (R.HL_STATE_STATE n)

/-- The lane is configured (R284). -/
def State.laneOn (s : State) (n : Nat) : Bool := s.cf (R.HL_CFG_EN n) == 1 && !s.unitBad 7 n

/-- A lane enters a state. -/
def State.enter (s : State) (n st : Nat) : State :=
  (s.wr (R.HL_STATE_STATE n) st).onLane n (fun l => { l with since := s.time })

/-- The symbol period in ps of a rate code (R270). -/
def symPs (rate : Nat) : Nat := [8000, 3200, 1600, 1000].getD rate 800

/-- The symbols per second × 10 (baud) of a rate code. -/
def baud (rate : Nat) : Nat := [1250000000, 3125000000, 6250000000, 10000000000].getD rate 12500000000

/-- Sends a control message that awaits its answer (R272). -/
def State.ctrlMsg (s : State) (n msg : Nat) (payload : List Byte) : State :=
  (s.emit (.control n msg payload)).onLane n (fun l => { l with wait := some msg, sentAt := s.time })

/-- The channels with a slot on a lane: channel, slot, whether the lane is their second (R273, R275). -/
def State.slots (s : State) (n : Nat) : List (Nat × Nat × Bool) :=
  s.channels.filterMap (fun c =>
    if s.cf (R.CH_LANE_HOME c) = n then some (c, s.cf (R.CH_LANE_HSLOT c), false)
    else if s.cf (R.CH_LANE_DUPLEX c) = 1 ∧ s.cf (R.CH_LANE_SECOND c) = n then some (c, s.cf (R.CH_LANE_SSLOT c), true)
    else none)

/-- The 6 bytes of a CFG_CH entry (R272). -/
def State.cfgEntry (s : State) (e : Nat × Nat × Bool) : List Byte :=
  leBytes 2 e.1 ++ leBytes 1 e.2.1 ++ leBytes 1 (s.cf (R.CH_CFG_DEPTH e.1) + 4 * b2n e.2.2) ++ leBytes 2 (s.chWidth e.1)

/-- CFG_CRC of a lane (R272). -/
def State.cfgCrc (s : State) (n : Nat) : Nat := crc32 ((s.slots n).flatMap s.cfgEntry)

/-- The payload of CFG_END (R272). -/
def State.cfgEnd (s : State) (n : Nat) : List Byte :=
  leBytes 1 (s.rd (R.HL_STATE_RATE n)) ++ leBytes 1 n ++ leBytes 1 (s.slots n).length ++ leBytes 4 (s.cfgCrc n)

/-- Cuts a list into runs of eight. -/
def eights {α : Type} : Nat → List α → List (List α)
  | 0, _ => []
  | n + 1, l => if l.isEmpty then [] else l.take 8 :: eights n (l.drop 8)

/-- Sends CFG_CH parts and CFG_END (R273, step 3). -/
def State.sendConfig (s : State) (n : Nat) : State :=
  let parts := eights 4 (s.slots n)
  let s1 := (parts.zipIdx).foldl (fun (t : State) p =>
    t.emit (.control n 0x21 (leBytes 1 p.2 ++ leBytes 1 p.1.length ++ leBytes 1 0 ++ p.1.flatMap s.cfgEntry))) s
  (s1.ctrlMsg n 0x22 (s1.cfgEnd n)).onLane n (fun l => { l with stage := 1, cfgCrc := some (s.cfgCrc n) })

/-- The message awaiting its answer, sent again (R272). -/
def State.resendCtrl (s : State) (n : Nat) : State :=
  match (s.lane n).wait with
  | none => s
  | some msg =>
    if msg = 0x22 then
      if (s.lane n).stage = 1 then s.sendConfig n else s.ctrlMsg n 0x22 (s.cfgEnd n)
    else if msg = 0x23 then s.ctrlMsg n 0x23 (leBytes 1 (s.rd (R.HL_STATE_RATE n)))
    else if msg = 0x25 then s.ctrlMsg n 0x25 (leBytes 1 (if s.laneState n = laneDeep then 2 else if s.laneState n = laneShallow then 1 else 0))
    else s.ctrlMsg n msg []

/-- A lane begins to send training sets at a rate, fast or full (R271). -/
def State.startTrain (s : State) (n rate : Nat) (fast : Bool) : State :=
  (((s.enter n laneTrain).onLane n (fun l => { l with rateInUse := rate, fast := fast, wait := none })).emit (.training n rate fast))

/-- A lane begins its bring-up (R271). -/
def State.startDetect (s : State) (n : Nat) : State :=
  ((s.enter n laneDetect).onLane n (fun l => { l with
    rateInUse := 0, fast := false, wait := none, stage := 0, cfgCrc := none, fails := 0, rejectedAt := none })).emit (.training n 0 false)

/-- A lane sends the second CFG_END of R273, step 5. -/
def State.secondConfig (s : State) (n : Nat) : State :=
  (s.ctrlMsg n 0x22 (s.cfgEnd n)).onLane n (fun l => { l with stage := 3 })

/-- A lane enters EXCHANGE: CAP is awaited, or step 5 of R273 follows at the agreed rate. -/
def State.startExchange (s : State) (n : Nat) : State :=
  let s1 := s.enter n laneExchange
  let l := s.lane n
  if l.cfgCrc.isSome ∧ l.rateInUse = s.rd (R.HL_STATE_RATE n) then s1.secondConfig n
  else s1.onLane n (fun l => { l with stage := 0, wait := none })

/-- A lane stays down with a reason; it starts again 1 s later (R273). -/
def State.laneReject (s : State) (n reason : Nat) : State :=
  ((s.enter n laneOff).wr (R.HL_STATE_REJECT n) reason).onLane n (fun l => { l with wait := none, stage := 0, rejectedAt := some s.time })

/-- A lane is ACTIVE (R273, R276). -/
def State.laneUp (s : State) (n : Nat) : State :=
  ((((s.enter n laneActive).wr (R.HL_STATE_DONE n) 0).wr (R.HL_STATE_ABORTED n) 0).onLane n (fun l => { l with
    wait := none, stage := 0, activeAt := s.time, heldByHost := false, fails := 0, lost := false })).condOff Ev.LANE_DOWN n

/-- The reason a CAP is rejected for, 0: none (R273, step 2). -/
def State.capReason (s : State) (n : Nat) (c : Cap) : Nat :=
  let sl := s.slots n
  let common := (List.range 5).any (fun r => decide (r ≤ s.cf (R.HL_CFG_RATE n)) && bit c.rates.toNat r)
  if sl.any (fun e => decide (c.slots.toNat ≤ e.2.1)) then 1
  else if sl.any (fun e => decide (c.maxDepth.toNat < s.cf (R.CH_CFG_DEPTH e.1))) then 2
  else if sl.any (fun e => decide (c.maxNozzles.toNat < s.chWidth e.1)) then 3
  else if !bit c.hflags.toNat 0 && sl.any (fun e => e.2.2) then 4
  else if !common then 5
  else 0

/-- The highest common rate code at or below HLn_CFG.RATE (R273, step 4). -/
def State.agreeRate (s : State) (n : Nat) (c : Cap) : Nat :=
  ((List.range 5).filter (fun r => decide (r ≤ s.cf (R.HL_CFG_RATE n)) && bit c.rates.toNat r)).foldl max 0

/-- The registers a CAP fills (R284). -/
def State.capInfo (s : State) (n : Nat) (c : Cap) : State :=
  ((((((((s.wr (R.HL_HD_INFO_RATES n) c.rates.toNat).wr (R.HL_HD_INFO_SLOTS n) c.slots.toNat).wr
    (R.HL_HD_INFO_MAX_DEPTH n) c.maxDepth.toNat).wrB (R.HL_HD_INFO_DUPLEX n) (bit c.hflags.toNat 0)).wr
    (R.HL_HD_INFO_MAX_NOZZLES n) c.maxNozzles.toNat).wr (R.HL_HD_DELAY_PS n) c.d.toNat).wr
    (R.HL_HD_TA_PS n) c.taMax.toNat).wr (R.HL_HD_ID_ID n) c.hdId.toNat)

/-- The agreed rate of a lane; another rate than before discards the lane's trim sets (R273, R281). -/
def State.setRate (s : State) (n rate : Nat) : State :=
  ((s.wr (R.HL_STATE_RATE n) rate).wrB (R.HL_STATE_RATE_LOW n) (decide (rate < s.cf (R.HL_CFG_RATE n)))).onLane n (fun l => { l with
    rx := { l.rx with sets := l.rx.sets.filter (fun t => t.rate == rate) } })

/-- A CAP in EXCHANGE (R273). -/
def State.takeCap (s : State) (n : Nat) (c : Cap) : State :=
  let s1 := s.capInfo n c
  if (s.lane n).stage ≠ 0 then s1
  else if s.capReason n c ≠ 0 then s1.laneReject n (s.capReason n c)
  else ((s1.setRate n (s.agreeRate n c)).sendConfig n).onLane n (fun l => { l with since := s.time })

/-- Λ calibration begins with a burst of echo requests (R264). -/
def State.echoStart (s : State) (n : Nat) : State := s.emit (.echoes n)

/-- An ACK moves the exchange on (R273). -/
def State.takeAck (s : State) (n msg crc : Nat) : State :=
  let l := s.lane n
  if l.wait ≠ some msg then s
  else
    let s1 := s.onLane n (fun l => { l with wait := none, since := s.time })
    if msg = 0x22 then
      if l.cfgCrc ≠ some crc then s
      else if l.stage = 1 then
        if l.rateInUse < s.rd (R.HL_STATE_RATE n) then
          (s1.ctrlMsg n 0x23 (leBytes 1 (s.rd (R.HL_STATE_RATE n)))).onLane n (fun l => { l with stage := 2 })
        else s1.secondConfig n
      else (s1.onLane n (fun l => { l with stage := 4 })).echoStart n
    else if msg = 0x23 then s1.startTrain n (s.rd (R.HL_STATE_RATE n)) ((s.lane n).rx.sets.length != 0)
    else if msg = 0x24 then s1.laneUp n
    else s1

/-! ## Fire markers (R212, R213) -/

/-- The departure reference of an instant on a lane, in ps (R212). -/
def State.departRef (s : State) (n f : Nat) : Int := (f : Int) * 5000 - s.rd (R.HL_LAMBDA_PS n) - s.rd (R.HL_HD_DELAY_PS n)

/-- The nominal boundary and residual of a departure reference (R212). -/
def nominal (t phase : Nat) (sp : Int) : Int × Nat :=
  let m := (8 * sp + t - 8 * phase) / (2 * (t : Int))
  (m / 4, (m % 4).toNat)

/-- The three symbols from a boundary are free. -/
def symFree (used : List Int) (k : Int) : Bool := used.all (fun x => decide (3 ≤ (x - k).natAbs))

/-- Places one marker: nominal, or up to three symbols earlier, or the latest free boundary with residual 15 (R213). -/
def place (t phase : Nat) (used : List Int) (m : Marker) : Marker :=
  let n := nominal t phase m.sp
  match (List.range 4).find? (fun (i : Nat) => decide (n.2 + 4 * i ≤ 15) && symFree used (n.1 - i)) with
  | some i => { m with k := n.1 - i, q := n.2 + 4 * i, excess := 0 }
  | none =>
    let i := ((List.range (3 * used.length + 3)).find? (fun (i : Nat) => symFree used (n.1 - i))).getD 0
    let k := n.1 - (i : Int)
    { m with k := k, q := 15, excess := m.sp - (k * t + phase + 15 * t / 4) }

/-- Places markers in the order given. -/
def placeAll (t phase : Nat) : List Int → List Marker → List Marker
  | _, [] => []
  | used, m :: ms =>
    let x := place t phase used m
    x :: placeAll t phase (x.k :: used) ms

/-- The symbol period a lane runs at. -/
def State.laneT (s : State) (n : Nat) : Nat := symPs (s.rd (R.HL_STATE_RATE n))

/-- When a planned marker leaves, in ps. -/
def State.departs (s : State) (n : Nat) (m : Marker) : Int := m.k * s.laneT n + (s.lane n).phase

/-- The markers of a lane are planned again with new ones: those within 64 symbols of leaving stand, the rest go in descending
order of departure reference (R213). -/
def State.planLane (s : State) (n : Nat) (new : List Marker) : State :=
  let t := s.laneT n
  let fixed := (s.lane n).plan.filter (fun m => decide (s.departs n m ≤ (s.time : Int) * 5000 + 64 * t))
  let open_ := (s.lane n).plan.filter (fun m => decide ((s.time : Int) * 5000 + 64 * t < s.departs n m))
  let order := (open_ ++ new).mergeSort (fun x y => decide (y.sp ≤ x.sp))
  s.onLane n (fun l => { l with plan := fixed ++ placeAll t l.phase (fixed.map (·.k)) order })

/-- Markers that leave early count (R213). -/
def State.countSlip (s : State) (n : Nat) (m : Marker) : State :=
  if 0 < m.excess then
    (s.inc (R.HL_SLIP_COUNT n)).wr (R.HL_SLIP_MAX_PS n) (max (s.rd (R.HL_SLIP_MAX_PS n)) m.excess.toNat)
  else s

/-- The channels of a flight that wait for a marker. -/
def Flight.bound (x : Flight) (lane bar count ord : Nat) (c : FlightCh) : Bool :=
  x.bar == bar && x.count == count && c.lane == lane && c.ord == ord

/-- The channels bound to a marker leave their line; a line with none left is no longer in flight. -/
def State.dropBound (s : State) (lane bar count ord : Nat) : State :=
  { s with flights := (s.flights.map (fun (x : Flight) =>
      { x with chans := x.chans.filter (fun c => !x.bound lane bar count ord c) })).filter (fun (x : Flight) => !x.chans.isEmpty) }

/-- The planned marker of a lane, bar, line and ordinal. -/
def State.planned (s : State) (lane bar count ord : Nat) : Option Marker :=
  (s.lane lane).plan.find? (fun m => m.bar == bar && m.count == count && m.ord == ord)

/-- A marker is no longer planned. -/
def State.unplan (s : State) (lane bar count ord : Nat) : State :=
  s.onLane lane (fun l => { l with plan := l.plan.filter (fun m => !(m.bar == bar && m.count == count && m.ord == ord)) })

/-- A lane aborted by the host goes to SHALLOW when no marker of a fixed line is left (R103). -/
def State.settleAborted (s : State) (n : Nat) : State :=
  if (s.lane n).heldByHost ∧ s.laneState n = laneActive ∧ (s.lane n).plan = [] then
    (s.enter n laneShallow).ctrlMsg n 0x25 (leBytes 1 1)
  else s

/-- A marker leaves its lane (R213, R261), `late` symbols after its boundary. -/
def State.markerLeaves (s : State) (n : Nat) (m : Marker) (late : Int) : State :=
  ((((s.emit (.marker n (s.departs n m + late * s.laneT n) m.q m.bar (m.lseq % 256))).countSlip n m).unplan n m.bar m.count m.ord).dropBound
    n m.bar m.count m.ord).settleAborted n

/-! ## Lines that are not ready (R214, R215) -/

/-- LINE_BLANKED at most once per ms per bar, with the lines since the last (R215). -/
def State.blankEvent (s : State) (b : Nat) : State :=
  let g := s.tg b
  match g.blankEvent with
  | some t =>
    if t + usTicks 1000 ≤ s.time ∧ g.blankSince ≠ 0 then
      (s.onTg b (fun g => { g with blankEvent := some s.time, blankSince := 0 })).raise Ev.LINE_BLANKED b g.blankSince
    else s
  | none =>
    if g.blankSince ≠ 0 then
      (s.onTg b (fun g => { g with blankEvent := some s.time, blankSince := 0 })).raise Ev.LINE_BLANKED b g.blankSince
    else s

/-- A line of a bar is blank for some channels of some pieces (R215, R139). -/
def State.countBlank (s : State) (b : Nat) (chans pieces : List Nat) : State :=
  let s1 := (s.inc (R.TG_BLANKED_COUNT b)).lifeAdd 0x05C 4 1
  let s2 := { s1 with pieces := s1.pieces.map (fun (p : Piece) =>
    if pieces.contains p.num then { p with blanked := p.blanked + 1, flags := p.flags ||| 4 } else p) }
  let s3 := chans.foldl (fun (t : State) c => t.leafBlank c) s2
  (s3.onTg b (fun g => { g with blankSince := g.blankSince + 1 })).blankEvent b

/-- The rows of a bar's history that hold a web position range take a flag (R342). -/
def State.flagRows (s : State) (f : HistRow → HistRow) (b : Nat) (rows : List Nat) : State :=
  { s with hist := s.hist.map (fun (r : HistRow) => if r.bar = b ∧ rows.contains r.row then f r else r) }

/-! ## Loss, switch-over and return (R276 to R279) -/

/-- The lane that serves a channel now (R277). -/
def State.laneOf (s : State) (c : Nat) : Nat :=
  if s.flag (R.CH_LANE_ON_SECOND c) then s.cf (R.CH_LANE_SECOND c) else s.cf (R.CH_LANE_HOME c)

/-- A lane takes frames and markers: ACTIVE and not aborted. -/
def State.laneServes (s : State) (n : Nat) : Bool := s.laneState n == laneActive && !(s.lane n).heldByHost

/-- The other lane of a channel, when it has one. -/
def State.otherLane (s : State) (c : Nat) : Option Nat :=
  if s.cf (R.CH_LANE_DUPLEX c) = 1 then
    some (if s.flag (R.CH_LANE_ON_SECOND c) then s.cf (R.CH_LANE_HOME c) else s.cf (R.CH_LANE_SECOND c))
  else none

/-- The frame of a channel with another ordinal (R259). -/
def reframe (frame : List Byte) (ord : Nat) : List Byte :=
  let body := frame.take 4 ++ leBytes 1 ord ++ (frame.drop 5).take (frame.length - 9)
  body ++ leBytes 4 (crc32 body)

/-- The ordinal of an instant among a bar's and line's markers on a lane: one already named, or the next (R277); none when the
new marker would leave before one already named. -/
def State.joinOrd (s : State) (lane bar count fire : Nat) : Option (Nat × Bool) :=
  let ms := (s.flights.filter (fun x => x.bar == bar && x.count == count)).flatMap (fun x => x.chans.filter (fun c => c.lane == lane))
  match ms.find? (fun c => c.fire == fire) with
  | some c => some (c.ord, false)
  | none => if ms.any (fun c => decide (fire < c.fire)) then none else some ((ms.map (·.ord + 1)).foldl max 0, true)

/-- One channel of one line in flight is sent again on another lane, or is blank (R277). -/
def State.resendOn (s : State) (x : Flight) (c : FlightCh) (lane : Nat) : State :=
  let out := { s with flights := s.flights.map (fun (y : Flight) => if y.bar = x.bar ∧ y.count = x.count then
    { y with chans := y.chans.filter (fun d => d.chan != c.chan) } else y) }
  match s.joinOrd lane x.bar x.count c.fire with
  | none => if x.rinse then out else out.countBlank x.bar [c.chan] [c.piece]
  | some (ord, isNew) =>
    let fr := reframe c.frame ord
    let s1 := { out with flights := out.flights.map (fun (y : Flight) => if y.bar = x.bar ∧ y.count = x.count then
      { y with chans := y.chans ++ [{ c with lane := lane, ord := ord, frame := fr }] } else y) }
    let s2 := s1.emit (.frame lane fr)
    if isNew then s2.planLane lane [{ bar := x.bar, count := x.count, lseq := x.lseq, ord := ord, fire := c.fire, sp := s.departRef lane c.fire }]
    else s2

/-- The channels a lane serves move to their other lane where that is ACTIVE; with `again`, the frames of lines whose markers have
not left go again there (R277). The number of channels moved. -/
def State.switchFrom (s : State) (n : Nat) (again : Bool) : State × Nat :=
  let cs := s.channels.filter (fun c => s.laneOf c == n && (s.otherLane c).any s.laneServes)
  let moved := cs.foldl (fun (t : State) c => t.wrB (R.CH_LANE_ON_SECOND c) (!s.flag (R.CH_LANE_ON_SECOND c))) s
  let s1 := if again then
      (s.flights.flatMap (fun x => (x.chans.filter (fun c => c.lane == n && cs.contains c.chan)).map (fun c => (x, c)))).foldl
        (fun (t : State) e => t.resendOn e.1 e.2 ((s.otherLane e.2.chan).getD n)) moved
    else moved
  (s1, cs.length)

/-- The switch-over of a lane's channels, with its event (R277). -/
def State.switchOver (s : State) (n : Nat) (again : Bool) : State :=
  let r := s.switchFrom n again
  if r.2 = 0 then r.1
  else (r.1.lifeAdd 0x158 4 1).condOn Ev.LANE_SWITCHED n r.2

/-- Channels of pieces in flight that no ACTIVE lane serves ask for a common stop (R278). -/
def State.stopUnserved (s : State) (n : Nat) : State :=
  if s.channels.any (fun c => s.chActive c && s.laneOf c == n && !s.laneServes n) then s.faultStop Ev.LANE_DOWN n else s

/-- The lines in flight that still wait on a lane nobody serves are blank (R215, R278). -/
def State.blankOn (s : State) (n : Nat) : State :=
  (s.flights.filter (fun x => x.chans.any (fun c => c.lane == n))).foldl (fun (t : State) (x : Flight) =>
    let cs := x.chans.filter (fun c => c.lane == n)
    let t1 := if x.rinse ∨ x.blank then t else t.countBlank x.bar (cs.map (·.chan)) (cs.map (·.piece)).eraseDups
    { t1 with flights := (t1.flights.map (fun (y : Flight) => if y.bar = x.bar ∧ y.count = x.count then
        { y with chans := y.chans.filter (fun c => c.lane != n), blank := true } else y)).filter (fun (y : Flight) => !y.chans.isEmpty) }) s

/-- An ACTIVE lane is lost and enters `st` (R276 to R278). -/
def State.laneLost (s : State) (n st : Nat) : State :=
  let rate := s.rd (R.HL_STATE_RATE n)
  let s1 := (((s.wr (R.HL_STATE_DONE n) 1).inc (R.HL_LOCK_LOSS_COUNT n)).lifeAdd (0x138 + 2 * n) 2 1)
  let s2 := if st = laneTrain then s1.startTrain n rate true else s1.startDetect n
  let s3 := s2.onLane n (fun l => { l with lost := true, plan := [], fails := 0 })
  (((s3.condOn Ev.LANE_DOWN n st).switchOver n true).blankOn n).stopUnserved n

/-- The channels of a home lane move back to it (R279). -/
def State.moveBack (s : State) (n : Nat) : State :=
  let cs := s.channels.filter (fun c => s.cf (R.CH_LANE_HOME c) == n && s.flag (R.CH_LANE_ON_SECOND c))
  if cs.isEmpty then s
  else (cs.foldl (fun (t : State) c => t.wr (R.CH_LANE_ON_SECOND c) 0) s).condOff Ev.LANE_SWITCHED n cs.length

/-- The ABORT of a lane: it serves no more lines, its channels switch, and it rests in SHALLOW once the markers of fixed lines
have left (R103, R277). -/
def State.laneAbort (s : State) (n : Nat) : State :=
  (((s.wr (R.HL_STATE_ABORTED n) 1).onLane n (fun l => { l with heldByHost := true })).switchOver n false).settleAborted n

/-! ## Echo (R264, R265) -/

/-- A burst failed (R265). -/
def State.echoFail (s : State) (n kept : Nat) : State :=
  let s1 := ((s.add (R.HL_ECHO_LOST_COUNT n) (64 - kept)).wr (R.HL_STATE_CAL_OK n) 0).onLane n (fun l => { l with fails := l.fails + 1 })
  let s2 := s1.raise Ev.ECHO_DRIFT n 0x80000000
  if s.laneState n = laneExchange then s2.echoStart n
  else if 3 ≤ (s2.lane n).fails then s2.laneLost n laneTrain
  else s2

/-- Λ in ps from the kept round trips (R264). -/
def State.lambdaOf (s : State) (n : Nat) (rt : List Int) (tInt : Int) : Int :=
  let k := rt.length / 8
  let mid := ((rt.mergeSort (fun x y => decide (x ≤ y))).drop k).take (rt.length - 2 * k)
  let m : Int := mid.length
  divOpen 30 (2 * tInt * m + mid.sum + s.rdI (R.HL_WIRE_SKEW_PS n) * m) (2 * m)

/-- A burst passed: Λ, its drift, and GO in EXCHANGE (R265, R273). -/
def State.echoPass (s : State) (n : Nat) (rt : List Int) (tInt : Int) : State :=
  let old := s.rd (R.HL_LAMBDA_PS n)
  let new := s.lambdaOf n rt tInt
  let s1 := ((s.wr (R.HL_LAMBDA_PS n) (unsigned 32 new)).wr (R.HL_STATE_CAL_OK n) 1).onLane n (fun l => { l with
    fails := 0, calAt := some s.time })
  let s2 := if (s.lane n).calAt.isSome ∧ s.rd R.ECHO_CFG_DRIFT < (new - old).natAbs then
      s1.raise Ev.ECHO_DRIFT n (unsigned 32 (new - old)) else s1
  if s.laneState n = laneExchange ∧ (s.lane n).stage = 4 then
    (s2.ctrlMsg n 0x24 []).onLane n (fun l => { l with stage := 5, since := s.time })
  else s2

/-! ## Receiver trims (R280, R281, R314) -/

/-- The receiver of a head lane (0–15) or a camera lane (16–19). -/
def State.rx (s : State) (i : Nat) : Rx := if i < 16 then (s.lane i).rx else Sparse.get {} s.camRx (i - 16)

/-- Changes a receiver. -/
def State.onRx (s : State) (i : Nat) (f : Rx → Rx) : State :=
  if i < 16 then s.onLane i (fun l => { l with rx := f l.rx })
  else { s with camRx := Sparse.upd {} s.camRx (i - 16) f }

/-- The corner sensor of a receiver (R424). -/
def State.rxTemp (s : State) (i : Nat) : Int := s.rdI (R.TS_TEMP (if i < 8 then 10 else if i < 16 then 11 else 13))

/-- The rate a receiver's sets are kept for (R281, R282). -/
def State.rxRate (s : State) (i : Nat) : Nat := if i < 16 then s.rd (R.HL_STATE_RATE i) else s.rd (R.CL_CFG_MBAUD (i - 16))

/-- The largest and smallest value of a trim: phase, offset, CTLE, DFE taps. -/
def trimRange (i : Nat) : Int × Int := if i = 0 then (0, 63) else if i = 1 then (-128, 127) else if i = 2 then (0, 15) else (-32, 31)

/-- The trims a receiver is set by: phase, offset, CTLE, and five DFE taps on a head lane. -/
def trimCount (i : Nat) : Nat := if i < 16 then 8 else 3

/-- One trim step: the neighbour with the larger area, when that exceeds the present area by 2 % (R280). -/
def Rx.step (x : Rx) (i now a0 ap am : Nat) : Rx :=
  let j := x.next
  let v := x.trims.getD j 0
  let w := if am ≤ ap then v + 1 else v - 1
  let r := trimRange j
  let x1 := { x with next := (j + 1) % trimCount i, stepAt := now }
  if 102 * a0 ≤ 100 * max ap am ∧ 0 < max ap am ∧ r.1 ≤ w ∧ w ≤ r.2 then { x1 with trims := x.trims.set j w, trimAt := now } else x1

/-- The nearest set to a temperature. -/
def nearest (t : Int) : List TrimSet → Option TrimSet
  | [] => none
  | x :: xs => match nearest t xs with
    | none => some x
    | some y => if (y.temp - t).natAbs < (x.temp - t).natAbs then some y else some x

/-- Stores a set; an eighth-plus set replaces the nearest one (R281). -/
def Rx.store (x : Rx) (n : TrimSet) : Rx :=
  if x.sets.length < 8 then { x with sets := x.sets ++ [n] }
  else match nearest n.temp x.sets with
    | none => x
    | some y => { x with sets := x.sets.map (fun z => if z = y then n else z) }

/-- The trims at a temperature: interpolated between the bracketing sets, or those of the nearest (R281). -/
def Rx.interpolate (x : Rx) (t : Int) : List Int :=
  match nearest t (x.sets.filter (fun y => decide (y.temp ≤ t))), nearest t (x.sets.filter (fun y => decide (t < y.temp))) with
  | some a, some b => List.zipWith (fun u v => u + divOpen 31 ((v - u) * (t - a.temp)) (b.temp - a.temp)) a.trims b.trims
  | some a, none => a.trims
  | none, some b => b.trims
  | none, none => x.trims

/-- The trims after a training: interpolated in a fast train; those a full train finds are the receiver's to choose (R280). -/
def State.trained (s : State) (i : Nat) (fast : Bool) : State :=
  let t := s.rxTemp i
  if fast then s.onRx i (fun x => { x with trims := x.interpolate t, trimAt := s.time })
  else (s.onRx i (fun x => { x with
    trims := (List.range (trimCount i)).map (fun j => let r := trimRange j; r.1 + (Config.freeNat (32 + j) s.free : Int) % (r.2 - r.1 + 1)),
    trimAt := s.time })).drawn

/-- A set is due: 10 s unchanged, more than 4 K from every stored set (R281). -/
def State.setDue (s : State) (i : Nat) : Bool :=
  let x := s.rx i
  decide (x.trimAt + secTicks 10 ≤ s.time) && x.trims != [] && x.sets.all (fun y => decide (64 < (y.temp - s.rxTemp i).natAbs))

/-- A datapath is needed: the module is at work, and leaves Dusk; its SHALLOW lanes return to ACTIVE (R80, R81, R274). -/
def State.toDay (s : State) : State :=
  if s.pow.phase = .dusk then
    ((List.range 16).foldl (fun (t : State) n =>
      if t.laneState n = laneShallow ∧ !(t.lane n).heldByHost then (t.enter n laneActive).ctrlMsg n 0x25 [0] else t)
      { s with pow := { s.pow with phase := .day } }).busy
  else s.busy

end Sys2Proof.Machine
end

