-- ==== Sys2Proof/Machine/MemOps.lean ====
section
/-! DEFINITION. Corrections, hard faults, remaps and uncorrectable errors (R414 to R420). -/

namespace Sys2Proof.Machine

/-- The correctable-error table of a class. -/
def State.ceTable (s : State) (c : Nat) : List Ce := Sparse.get [] s.mem.ces c

/-- Changes the correctable-error table of a class. -/
def State.onCe (s : State) (c : Nat) (f : List Ce → List Ce) : State :=
  { s with mem := { s.mem with ces := Sparse.upd [] s.mem.ces c f } }

/-- Frees the entry of an address; the list keeps the order of creation (R415). -/
def dropCe (a : Word) (l : List Ce) : List Ce := l.filter (fun e => e.addr != a)

/-- A free remap entry exists for an address (R416). -/
def State.canRemap (s : State) (c : Nat) (a : Word) : Bool :=
  if c = 0 then decide (s.mem.hbmMap.length + (s.mem.withdrawn.filter (fun x => x.1 == 0)).length < 64)
  else
    let i := a.toNat / 65536
    decide ((s.mem.sramMap.filter (fun x => x.1.toNat / 65536 == i)).length +
      (s.mem.withdrawn.filter (fun x => x == (1, i))).length < 8)

/-- Installs a remap; `bist`: found by Dawn BIST (R416, R418). -/
def State.remap (s : State) (c : Nat) (a : Word) (bist : Bool := false) : State :=
  if c = 0 then
    let n := s.mem.hbmMap.length + 1
    (({ s with mem := { s.mem with hbmMap := s.mem.hbmMap ++ [(a, bist)] } }).wr R.MEM_REMAP_HBM_USED n).lifeMax 0x130 n
  else
    let n := s.mem.sramMap.length + 1
    (({ s with mem := { s.mem with sramMap := s.mem.sramMap ++ [(a, bist)] } }).wr R.MEM_REMAP_SRAM_USED n).lifeMax 0x132 n

/-- A remap finds no free entry (R417). -/
def State.remapFull (s : State) (c : Nat) (a : Word) : State :=
  let w := if s.mem.waiting.contains (c, a) then s.mem.waiting else s.mem.waiting ++ [(c, a)]
  let s1 := { s with mem := { s.mem with waiting := w } }
  let s2 := if c = 0 then s1.wr R.MEM_REMAP_HBM_FULL 1 else s1.wr R.MEM_REMAP_SRAM_FULL 1
  let flags := Sparse.get 0 s2.life 0x131
  let s3 := { s2 with life := Sparse.set 0 s2.life 0x131 (flags ||| (if c = 0 then 1 else 2)) }
  s3.condOn Ev.REMAP_FULL c (w.filter (fun x => x.1 == c)).length

/-- The entry of an address takes one more correction. -/
def Ce.again (e : Ce) (hard : Bool) (now tb2 bt : Nat) : Ce :=
  { e with hard := hard, at_ := now, bit := bt, count := min 255 (e.count + 1), last := tb2 / 1000000000 }

/-- The lowest free slot of a table; none when all 16 are in use. -/
def freeSlot (l : List Ce) : Option Nat := (List.range 16).find? (fun k => l.all (fun e => e.slot != k))

/-- A correction at an address (R414, R415). -/
def State.correct (s : State) (c : Nat) (a : Word) (bt : Nat) : State :=
  let s1 := (s.inc (R.MEM_CE_COUNT c)).lifeAdd (0x100 + 16 * c) 4 1
  let t := s1.ceTable c
  let more := fun (u : State) (h : Bool) =>
    u.onCe c (fun l => l.map (fun x => if x.addr = a then x.again h u.time u.tb2 bt else x))
  let new := fun (k : Nat) => (⟨k, a, false, s.time, bt, 1, s.tb2 / 1000000000, s.tb2 / 1000000000⟩ : Ce)
  match t.find? (fun e => e.addr == a) with
  | some e =>
    if e.hard then
      if s1.canRemap c a then (s1.remap c a).onCe c (dropCe a) else (more s1 true).remapFull c a
    else (((more s1 true).inc (R.MEM_HARD_COUNT c)).lifeAdd (0x104 + 16 * c) 4 1).raise Ev.HARD_FAULT c a.toNat
  | none =>
    match freeSlot t with
    | some k => s1.onCe c (fun l => l ++ [new k])
    | none => match t.find? (fun e => !e.hard) with
      | some old => s1.onCe c (fun l => dropCe old.addr l ++ [new old.slot])
      | none =>
        match t.head? with
        | none => s1
        | some old =>
          if s1.canRemap c old.addr then (s1.remap c old.addr).onCe c (fun l => dropCe old.addr l ++ [new old.slot])
          else ((s1.inc (R.MEM_CE_EVICT_COUNT c)).lifeAdd (0x10C + 16 * c) 4 1).remapFull c old.addr

/-- The owner's row of R419 is contained. -/
def contained : Owner → Bool
  | .table => false
  | .other => false
  | .nightSave => false
  | _ => true

/-- An uncontained uncorrectable error (R420). -/
def State.uncontained (s : State) (c : Nat) (a : Word) (key : Nat) : State :=
  let s1 := { s with mem := { s.mem with bad := s.mem.bad ++ [(c, a, key)] } }
  let s2 := if s1.condActive Ev.UNCORRECTABLE c then s1.raise Ev.UNCORRECTABLE c a.toNat else s1.condOn Ev.UNCORRECTABLE c a.toNat
  s2.faultStop Ev.UNCORRECTABLE c

/-- The data of a bad half or word has been written whole (R420). -/
def State.madeGood (s : State) (key : Nat) : State :=
  let gone := s.mem.bad.filter (fun x => x.2.2 == key)
  let left := s.mem.bad.filter (fun x => x.2.2 != key)
  gone.foldl (fun (t : State) x => if left.any (fun y => y.1 == x.1) then t else t.condOff Ev.UNCORRECTABLE x.1 x.2.1.toNat)
    { s with mem := { s.mem with bad := left } }

/-- An uncorrectable error is counted and logged (R419). -/
def State.countUe (s : State) (e : MemEv) : State :=
  (((((s.inc (R.MEM_UE_COUNT e.cls)).lifeAdd (0x108 + 16 * e.cls) 4 1).wr R.MEM_UE_LAST_CLASS e.cls).wrB
    R.MEM_UE_LAST_CONTAINED (contained e.owner)).wr R.MEM_UE_LAST_PORT e.port).wr R.MEM_UE_ADDR_ADDR e.addr.toNat

/-- What every read that meets an error does: a correction (R414), or the counts and the uncontained row of R419 and R420. -/
def State.memError (s : State) (e : MemEv) : State :=
  if e.uncorrectable then
    let s1 := s.countUe e
    if contained e.owner then s1 else s1.uncontained e.cls e.addr e.key
  else s.correct e.cls e.addr e.bit.toNat

/-- All the errors a command's reads meet. -/
def State.memErrors (s : State) (es : List MemEv) : State := es.foldl (fun (t : State) e => t.memError e) s

/-- The uncorrectable errors of one owner. -/
def badOf (es : List MemEv) (o : Owner) : List MemEv := es.filter (fun e => e.uncorrectable && e.owner == o)

end Sys2Proof.Machine
end

