-- ==== Sys2Proof/Machine/DarnOps.lean ====
section
/-! DEFINITION. The mending list, fail runs, optical gates and rinse windows (R285 to R305). -/

namespace Sys2Proof.Machine

/-! ## The mending list (R299 to R303) -/

/-- Changes the darning state. -/
def State.onDarn (s : State) (f : Darn → Darn) : State := { s with darn := f s.darn }

/-- The entry of a nozzle. -/
def State.mend (s : State) (n : Nat) : Option Mend := s.darn.list.find? (fun m => m.nozzle == n)

/-- The nozzle is listed. -/
def State.listed (s : State) (n : Nat) : Bool := (s.mend n).isSome

/-- The nozzle was listed at a list change. -/
def State.listedAt (s : State) (change n : Nat) : Bool :=
  s.darn.list.any (fun m => m.nozzle == n && decide (m.since ≤ change)) ||
    s.darn.gone.any (fun u => u.nozzle == n && decide (u.since ≤ change ∧ change < u.till))

/-- Changes the entry of a nozzle. -/
def State.onMend (s : State) (n : Nat) (f : Mend → Mend) : State :=
  s.onDarn (fun d => { d with list := d.list.map (fun m => if m.nozzle = n then f m else m) })

/-- A listing (R301, R303). -/
def State.list (s : State) (n source : Nat) (ambig : Bool) : State :=
  if 16384 ≤ s.darn.list.length then
    let k := s.rd R.MEND_OVERFLOW_COUNT + 1
    let s1 := (s.inc R.MEND_OVERFLOW_COUNT).wr R.MEND_COUNT_FULL 1
    let s2 := if s1.condActive Ev.MENDING_FULL 0 then s1 else (s1.lifeAdd 0x182 2 1).condOn Ev.MENDING_FULL 0 k
    s2.faultStop Ev.MENDING_FULL 0
  else
    let c := s.darn.change + 1
    let s1 := s.onDarn (fun d => { d with
      list := d.list ++ [{ nozzle := n, source := source, ambig := ambig, listed := s.tb2 / 1000000000 % 2 ^ 32, since := c }]
      change := c
      runs := Sparse.set 0 d.runs n 0 })
    let k := s1.darn.list.length
    (((((s1.wr R.MEND_COUNT_ENTRIES k).inc R.MEND_LISTED_COUNT).lifeAdd 0x178 4 1).lifeMax 0x180 k)).raise Ev.NOZZLE_MENDED n source

/-- The list without a slot: the last entry moves into it (R299). -/
def moveLast (l : List Mend) (n : Nat) : List Mend :=
  match l.getLast? with
  | none => l
  | some z => if z.nozzle = n then l.dropLast else l.dropLast.map (fun m => if m.nozzle = n then z else m)

/-- An entry leaves the list (R302). -/
def State.unlist (s : State) (n arg : Nat) : State :=
  match s.mend n with
  | none => s
  | some m =>
    let c := s.darn.change + 1
    let bar := (s.nozzleAt n).elim 0 (fun e => s.chBar e.1)
    let s1 := s.onDarn (fun d => { d with
      list := moveLast d.list n
      gone := d.gone ++ [⟨n, m.since, c, s.lineCount bar⟩]
      change := c
      carry := Sparse.set 0 d.carry n 0 })
    let s2 := ((s1.wr R.MEND_COUNT_ENTRIES s1.darn.list.length).inc R.MEND_REMOVED_COUNT).lifeAdd 0x17C 4 1
    ((s2.wr R.MEND_COUNT_FULL 0).condOff Ev.MENDING_FULL 0 (s2.rd R.MEND_OVERFLOW_COUNT)).raise Ev.NOZZLE_RECOVERED n arg

/-- The entries of the Ironing table a listing holds: the nozzle's own and those within two bar columns in its bar (R305). -/
def State.column (s : State) (n : Nat) : Option (Nat × Nat) :=
  (s.nozzleAt n).map (fun e => (s.chBar e.1, s.cf (R.CH_POS_XPOS e.1) + e.2))

/-- The columns lie within two of each other in one bar. -/
def near2 (x y : Option (Nat × Nat)) : Bool :=
  match x, y with
  | some a, some b => a.1 == b.1 && decide (a.2 ≤ b.2 + 2 ∧ b.2 ≤ a.2 + 2)
  | _, _ => false

/-- The nozzle's Ironing entry is held by a listing or by one that ended fewer than 4,096 lines ago (R305, R350). -/
def State.heldByList (s : State) (n : Nat) : Bool :=
  let x := s.column n
  s.darn.list.any (fun m => near2 x (s.column m.nozzle)) ||
    s.darn.gone.any (fun u => near2 x (s.column u.nozzle) && decide (x.elim 0 (fun b => s.lineCount b.1) < u.line + 4096))

/-! ## Gates (R290 to R296) -/

/-- One gate beside its registers. -/
def State.gate (s : State) (g : Nat) : Gate := Sparse.get {} s.gates g

/-- Changes one gate. -/
def State.onGate (s : State) (g : Nat) (f : Gate → Gate) : State := { s with gates := Sparse.upd {} s.gates g f }

/-- The gate is enabled. -/
def State.gateOn (s : State) (g : Nat) : Bool := s.cf (R.GATE_CFG_EN g) == 1

/-- The gate serves a bar. -/
def State.gateServes (s : State) (g b : Nat) : Bool := s.gateOn g && bit (s.cf (R.GATE_CFG_BARS g)) b

/-- A nozzle is queued for a test at priority 2 in every gate that serves its bar (R293, R300). -/
def State.queueTest (s : State) (n : Nat) : State :=
  match s.nozzleAt n with
  | none => s
  | some e => (List.range 4).foldl (fun (t : State) g =>
      if t.gateServes g (t.chBar e.1) ∧ !(t.gate g).queue.contains n then t.onGate g (fun x => { x with queue := x.queue ++ [n] }) else t) s

/-- The classes of R292 as GATEg_LAST codes them. -/
inductive GateClass where
  | good | weak | missing | slow | void
  deriving DecidableEq, Repr

def GateClass.code : GateClass → Nat
  | .good => 1
  | .weak => 2
  | .missing => 3
  | .slow => 4
  | .void => 5

/-- The extreme of a window: the first smallest or largest sample, and its index. -/
def extreme (up : Bool) : List Nat → Nat → Nat × Nat → Nat × Nat
  | [], _, best => best
  | x :: xs, i, best => extreme up xs (i + 1) (if (if up then best.1 < x else x < best.1) then (x, i) else best)

/-- The amplitude and the time of a window (R292). -/
def amplitude (up : Bool) (base width : Nat) (v : List Nat) : Int × Int :=
  let e := extreme up v 0 (v.headD 0, 0)
  (if up then (e.1 : Int) - base else (base : Int) - e.1, (e.2 : Int) - (width / 2 : Nat))

/-- The class of a test (R292); NOISE is in 1/4 codes. -/
def State.classify (s : State) (g : Nat) (x : TestShot) (pre v : List Nat) : GateClass :=
  let bad := (pre ++ v).any (fun y => y == 0 || y == 4095)
  let off := (pre.sum : Int) - (pre.length : Int) * x.base
  let a := amplitude (s.flag (R.GATE_CFG_POL g)) x.base (s.rd (R.GATE_TIMING_WIDTH g)) v
  if s.rd (R.GATE_STATE_STATE g) ≠ 3 ∨ bad ∨ pre.length * x.noise < off.natAbs then .void
  else if ((s.rd (R.GATE_CLASS_GOOD_PCT g) * x.aref : Nat) : Int) ≤ a.1 * 100 then
    (if s.rd (R.GATE_CLASS_TIME_TOL g) < a.2.natAbs then .slow else .good)
  else if ((s.rd (R.GATE_CLASS_WEAK_PCT g) * x.aref : Nat) : Int) ≤ a.1 * 100 then .weak
  else .missing

/-- The number of 64-code bins up to and with the median amplitude; the amplitude inside the bin is open (R294). -/
def medianBin (amps : List Nat) : Nat :=
  ((List.range 64).find? (fun b => decide (amps.length ≤ 2 * (amps.filter (fun a => decide (a / 64 ≤ b))).length))).getD 0

/-- AREF follows the amplitudes (R294). -/
def State.setAref (s : State) (g : Nat) : State :=
  let m := 64 * medianBin (s.gate g).amps + s.draw 40 % 64
  (s.drawn).wr (R.GATE_AREF_AREF g) m

/-- The AREF test of R295: READY or LOW_SNR. NOISE is in 1/4 codes, SNR_MIN is 2 × SNR. -/
def State.gateReady (s : State) (g : Nat) : State :=
  s.wr (R.GATE_STATE_STATE g)
    (if 2 * s.rd (R.GATE_CLASS_SNR g) * s.rd (R.GATE_LEVEL_NOISE g) ≤ 4 * s.rd (R.GATE_AREF_AREF g) then 3 else 4)

/-- An amplitude enters the histogram of the last 1,024 (R294); the gate leaves LEARNING after 64 (R295). -/
def State.addAmp (s : State) (g a : Nat) : State :=
  let s1 := s.onGate g (fun x => { x with amps := (a :: x.amps).take 1024 })
  if s.rd (R.GATE_STATE_STATE g) = 2 then
    if 64 ≤ (s1.gate g).amps.length then (s1.setAref g).gateReady g else s1
  else (s1.setAref g).gateReady g

/-- A result counts for the nozzle (R301, R302). -/
def State.judge (s : State) (g n : Nat) (c : GateClass) : State :=
  let s1 := s.onDarn (fun d => { d with tested := Sparse.set 0 d.tested n (s.time + 1) })
  match c with
  | .void => s1
  | .good =>
    if s.listed n then
      let s2 := s1.onMend n (fun m => { m with passes := min 8 (m.passes + 1) })
      match s2.mend n with
      | some m => if m.passes = 8 ∧ !m.pinned then s2.unlist n 0 else s2
      | none => s2
    else s1.onDarn (fun d => { d with runs := Sparse.set 0 d.runs n 0 })
  | _ =>
    if s.listed n then s1.onMend n (fun m => { m with passes := 0 })
    else
      let r := Sparse.get 0 s1.darn.runs n + 1
      if s.rd (R.GATE_CLASS_FAIL_N g) ≤ r then s1.list n 1 false
      else s1.onDarn (fun d => { d with runs := Sparse.set 0 d.runs n r })

/-- TEST_NOW clears in a leaf when every nozzle has had a test that was not VOID, or when no READY gate serves it (R293). -/
def State.testNowDone (s : State) (c : Nat) : State :=
  if !s.ctrl c ctrlTest then s
  else if !(List.range 4).any (fun g => s.gateServes g (s.chBar c) && s.rd (R.GATE_STATE_STATE g) == 3) then s.ctrlDone c ctrlTest
  else if (List.range (s.chWidth c)).all (fun i => decide ((s.leaf c).testFrom < Sparse.get 0 s.darn.tested (s.nbase c + i))) then
    s.ctrlDone c ctrlTest
  else s

/-- The end of a test window (R292). -/
def State.windowEnd (s : State) (g : Nat) (x : TestShot) (pre v : List Nat) : State :=
  let c := s.classify g x pre v
  let a := amplitude (s.flag (R.GATE_CFG_POL g)) x.base (s.rd (R.GATE_TIMING_WIDTH g)) v
  let s1 := s.onGate g (fun y => { y with shots := y.shots.erase x, queue := y.queue.filter (fun n => n != x.nozzle) })
  let s2 := (((s1.wr (R.GATE_LAST_NOZZLE g) x.nozzle).wr (R.GATE_LAST_CLASS g) c.code).wr (R.GATE_LAST_AMP_AMP g)
    (a.1.toNat % 4096)).wrI (R.GATE_LAST_AMP_TIME g) a.2
  let s3 := (s2.inc (R.GATE_TESTS_COUNT g)).lifeAdd 0x184 4 1
  let s4 := match c with
    | .void => s3.inc (R.GATE_VOID_COUNT g)
    | .good => s3
    | _ => s3.inc (R.GATE_FAILS_COUNT g)
  let s5 := if c ≠ .void ∨ s.rd (R.GATE_STATE_STATE g) = 2 then s4.addAmp g a.1.toNat else s4
  let s6 := s5.judge g x.nozzle c
  match s6.nozzleAt x.nozzle with
  | some e => s6.testNowDone e.1
  | none => s6

/-- The value below which `pct` of 100 of a baseline histogram lies, interpolated within its bin: numerator and denominator in
codes (R294). -/
def percentile (pct total : Nat) : List Nat → Nat → Nat → Nat × Nat
  | [], _, _ => (0, 1)
  | n :: ns, i, before =>
    if pct * total ≤ 100 * (before + n) ∧ n ≠ 0 then (16 * (100 * n * i + (pct * total - 100 * before)), 100 * n)
    else percentile pct total ns (i + 1) (before + n)

/-- BASE and NOISE of a histogram (R294); NOISE in 1/4 codes. -/
def baseline (bins : List Nat) : Nat × Nat :=
  let t := bins.sum
  let m := percentile 50 t bins 0 0
  let a := percentile 16 t bins 0 0
  let b := percentile 84 t bins 0 0
  (divOpenN 41 m.1 m.2, (divOpen 42 (2 * ((b.1 * a.2 : Nat) - (a.1 * b.2 : Nat) : Int)) (a.2 * b.2)).toNat)

/-- The interpolated trim set at a temperature: OFFSET, GAIN, AREF (R296). -/
def gateInterpolate (t : Int) (sets : List GateSet) : Option (Nat × Nat × Nat) :=
  let near := fun (l : List GateSet) => l.foldl (fun (b : Option GateSet) x => match b with
    | none => some x
    | some y => if (x.temp - t).natAbs < (y.temp - t).natAbs then some x else b) none
  match near (sets.filter (fun y => decide (y.temp ≤ t))), near (sets.filter (fun y => decide (t < y.temp))) with
  | some a, some b =>
    let mix := fun (u v : Nat) => ((u : Int) + divOpen 43 (((v : Int) - u) * (t - a.temp)) (b.temp - a.temp)).toNat
    some (mix a.offset b.offset, mix a.gain b.gain, mix a.aref b.aref)
  | some a, none => some (a.offset, a.gain, a.aref)
  | none, some b => some (b.offset, b.gain, b.aref)
  | none, none => none

/-- A gate enters SETTLING and loads its trims (R295, R296). -/
def State.gateSettle (s : State) (g : Nat) : State :=
  if !s.gateOn g then s.wr (R.GATE_STATE_STATE g) 0
  else
    let s1 := (s.wr (R.GATE_STATE_STATE g) 1).onGate g (fun y => { y with stepAt := s.time })
    match gateInterpolate (s.rdI (R.TS_TEMP 9)) (s.gate g).sets with
    | none => s1
    | some x => (((s1.wr (R.GATE_TRIM_OFFSET g) x.1).wr (R.GATE_TRIM_GAIN g) x.2.1).wr (R.GATE_AREF_AREF g) x.2.2).onGate g
        (fun y => { y with trimAt := s.time })

/-- The trims move one step (R294). -/
def State.gateAdjust (s : State) (g : Nat) : State :=
  let aref := s.rd (R.GATE_AREF_AREF g)
  let goal := s.rd R.GATE_TARGET_AMP
  let base := s.rd (R.GATE_LEVEL_BASE g)
  let gain := s.rd (R.GATE_TRIM_GAIN g)
  if s.flag (R.GATE_CFG_TRIM_HOLD g) then s
  else if aref ≠ 0 ∧ goal < 16 * ((aref : Int) - goal).natAbs then
    let g1 := (clampI 16 255 ((gain : Int) + (if aref < goal then 1 else -1))).toNat
    let s1 := (s.wr (R.GATE_TRIM_GAIN g) g1).wrB (R.GATE_STATE_TRIM_LIMIT g) (g1 == gain)
    let s2 := s1.wr (R.GATE_AREF_AREF g) (divOpenN 44 (aref * g1) (max 1 gain))
    s2.onGate g (fun x => { x with amps := [], trimAt := if g1 = gain then x.trimAt else s.time })
  else
    let d := (s.rd R.GATE_TARGET_BASE : Int) - base
    if 16 < d.natAbs then
      let off := s.rd (R.GATE_TRIM_OFFSET g)
      let o1 := (clampI 0 4095 ((off : Int) + clampI (-256) 256 d)).toNat
      ((s.wr (R.GATE_TRIM_OFFSET g) o1).wrB (R.GATE_STATE_TRIM_LIMIT g) (o1 == off)).onGate g (fun x => { x with
        trimAt := if o1 = off then x.trimAt else s.time })
    else s.wr (R.GATE_STATE_TRIM_LIMIT g) 0

/-- The state a gate moves to with a new baseline (R295). -/
def State.gateAdvance (s : State) (g : Nat) : State :=
  let st := s.rd (R.GATE_STATE_STATE g)
  let base := s.rd (R.GATE_LEVEL_BASE g)
  if st = 1 then
    if ((s.rd R.GATE_TARGET_BASE : Int) - base).natAbs ≤ 16 then
      (if s.rd (R.GATE_AREF_AREF g) = 0 then s.wr (R.GATE_STATE_STATE g) 2 else s.gateReady g)
    else s
  else if st = 3 ∨ st = 4 then s.gateReady g
  else s

/-- A test window of the gate is open (R290, R291). -/
def State.inTestWindow (s : State) (g : Nat) : Bool :=
  (s.gate g).shots.any (fun (x : TestShot) =>
    let from_ := x.fire + 10 * s.rd (R.GATE_TIMING_DELAY g)
    decide (from_ ≤ s.time ∧ s.time < from_ + 10 * s.rd (R.GATE_TIMING_WIDTH g)))

/-- The 100 ms step of a gate (R294, R295): the histogram of no sample leaves BASE and NOISE; no trim changes inside a test window. -/
def State.gateStep (s : State) (g : Nat) (bins : List Nat) : State :=
  let b := baseline bins
  let s0 := s.onGate g (fun x => { x with bins := bins, stepAt := s.time })
  let s1 := if bins.sum = 0 then s0 else ((s0.wr (R.GATE_LEVEL_BASE g) b.1).wr (R.GATE_LEVEL_NOISE g) b.2).gateAdvance g
  if s.inTestWindow g then s1 else s1.gateAdjust g

/-- A gate trim set is due: 10 s unchanged, more than 4 K from every stored set (R296). -/
def State.gateSetDue (s : State) (g : Nat) : Bool :=
  let x := s.gate g
  s.gateOn g && decide (x.trimAt + secTicks 10 ≤ s.time) &&
    x.sets.all (fun y => decide (64 < (y.temp - s.rdI (R.TS_TEMP 9)).natAbs))

/-- Stores the present trims as a set (R296). -/
def State.gateStore (s : State) (g : Nat) : State :=
  let t := s.rdI (R.TS_TEMP 9)
  let new : GateSet := ⟨t, s.rd (R.GATE_TRIM_OFFSET g), s.rd (R.GATE_TRIM_GAIN g), s.rd (R.GATE_AREF_AREF g)⟩
  let sets := (s.gate g).sets
  let out := if sets.length < 8 then sets ++ [new]
    else match sets.foldl (fun (b : Option GateSet) x => match b with
      | none => some x
      | some y => if (x.temp - t).natAbs < (y.temp - t).natAbs then some x else b) none with
      | none => sets
      | some y => sets.map (fun z => if z = y then new else z)
  (s.onGate g (fun x => { x with sets := out })).wr (R.GATE_STATE_SETS g) out.length

/-! ## Rinse windows (R285 to R288) -/

/-- The rinse state of a bar. -/
def State.rinse (s : State) (b : Nat) : Rinse := Sparse.get {} s.rinses b

/-- Changes the rinse state of a bar. -/
def State.onRinse (s : State) (b : Nat) (f : Rinse → Rinse) : State := { s with rinses := Sparse.upd {} s.rinses b f }

/-- A burst falls due for the channels of a bar (R288). -/
def State.burstDue (s : State) (b : Nat) (c : Nat) : State :=
  s.onRinse b (fun r => { r with bursts := Sparse.set {} r.bursts c ⟨s.rd (R.BAR_RINSE_SPIT_LINES b), 0⟩ })

/-- A park or idle window opens: a burst falls due in every channel of the bar (R286, R288). -/
def State.openWindow (s : State) (b kind lines : Nat) : State :=
  let s1 := s.onRinse b (fun r => { r with parkFrom := none, window := kind, left := lines, clockAt := s.time })
  ((s1.barChannels b).foldl (fun (t : State) c => t.burstDue b c) s1).wr (R.BAR_RSTAT_SPITTING b) 1

/-- A park or idle window ends (R286). -/
def State.closeWindow (s : State) (b : Nat) : State :=
  let s1 := s.onRinse b (fun r => { r with parkFrom := none, window := 0, left := 0, idleAt := s.time, bursts := [] })
  s1.wr (R.BAR_RSTAT_SPITTING b) 0

end Sys2Proof.Machine
end

