-- ==== Sys2Proof/Machine/SeqOps.lean ====
section
/-! DEFINITION. The fired-coverage history (R341, R342) and the twin sequencers (R386 to R401). -/

namespace Sys2Proof.Machine

/-! ## The fired-coverage history -/

/-- The bar is a history bar: one root and DIV with the REF_TG of an enabled pipeline (R341). -/
def State.historyBar (s : State) (b : Nat) : Bool :=
  (List.range 4).any (fun n => s.cf (R.CP_CFG_EN n) == 1 && s.root false (s.cf (R.CP_CFG_REF_TG n)) == s.root false b &&
    s.effDiv false (s.cf (R.CP_CFG_REF_TG n)) == s.effDiv false b)

/-- The row height in lines, and the bin width in bar columns. -/
def State.rowHeight (s : State) : Nat := 2 ^ s.cf R.IRON_CFG_HROWS
def State.binWidth (s : State) : Nat := 2 ^ s.cf R.IRON_CFG_HBIN

/-- VOL of a code in a bar (R341). -/
def State.vol (s : State) (b code : Nat) : Nat :=
  match code with
  | 1 => s.rd (R.BAR_VOL0_V1 b)
  | 2 => s.rd (R.BAR_VOL0_V2 b)
  | 3 => s.rd (R.BAR_VOL0_V3 b)
  | 4 => s.rd (R.BAR_VOL0_V4 b)
  | 5 => s.rd (R.BAR_VOL1_V5 b)
  | 6 => s.rd (R.BAR_VOL1_V6 b)
  | 7 => s.rd (R.BAR_VOL1_V7 b)
  | _ => 0

/-- The rows after the bar's slot for row `q` has been made to hold it. -/
def openRow (rows b q : Nat) (h : List HistRow) : List HistRow :=
  if h.any (fun r => r.bar == b && r.row == q) then h
  else h.filter (fun r => !(r.bar == b && r.row % max 1 rows == q % max 1 rows)) ++ [{ bar := b, row := q }]

/-- One count into an entry. -/
def HistRow.count (r : HistRow) (bin vol : Nat) (fired : Bool) : HistRow :=
  { r with cells := Sparse.upd (0, false) r.cells bin (fun c => (c.1 + vol, c.2 || fired)) }

/-- Codes are counted into the history of a bar: row, bin, volume, code other than 0 (R341). -/
def State.addHist (s : State) (b : Nat) (cells : List (Nat × Nat × Nat × Bool)) : State :=
  { s with hist := cells.foldl (fun (h : List HistRow) c =>
      (openRow (s.cf R.IRON_DEPTH_ROWS) b c.1 h).map (fun r =>
        if r.bar = b ∧ r.row = c.1 then r.count c.2.1 c.2.2.1 c.2.2.2 else r)) s.hist }

/-- The entry of a row and bin, 0 to 255; none when the row is not available (R341, R342). -/
def State.histEntry (s : State) (b row bin : Nat) : Option Nat :=
  (s.hist.find? (fun r => r.bar == b && r.row == row)).map (fun r =>
    let c := Sparse.get (0, false) r.cells bin
    let d := s.binWidth * s.rowHeight
    if c.2 then min 255 (max 1 ((c.1 + d - 1) / d)) else 0)

/-- The statistics of a line are added: the leaf spans' LINES and DROPS, and the history (R236). -/
def State.addStat (s : State) (b : Nat) (x : LineStat) : State :=
  (x.drops.foldl (fun (t : State) e => t.leafLine e.1 e.2) s).addHist b x.cells

/-! ## Registration sums (R354) -/

/-- Changes the registration sums of a bar. -/
def State.onReg (s : State) (b : Nat) (f : RegSum → RegSum) : State :=
  { s with iron := { s.iron with regs := Sparse.upd {} s.iron.regs b f } }

/-- The sums across the web start again, for lines from a web position on (R354). -/
def State.restartX (s : State) (b : Nat) (web : Int) : State :=
  ((s.onReg b (fun r => { r with sxx := 0, sex := 0, freshX := 0, fromX := web })).wr (R.BAR_REGSTAT_X_VALID b) 0).wr (R.BAR_REGERR_ERR_X b) 0

/-- REG has changed: its sums start again with the next line formed (R354). -/
def State.restartY (s : State) (b : Nat) : State :=
  ((s.onReg b (fun r => { r with
    syy := 0, sey := 0, freshY := 0, fromY := ((s.tg b).lastLine + 1 : Nat) - (s.rd (R.TG_DELAY_WHOLE b) : Int) })).wr
    (R.BAR_REGSTAT_Y_VALID b) 0).wr (R.BAR_REGERR_ERR_Y b) 0

/-- A pending LAT takes effect (R226, R354) for a bar whose next line is `l`. -/
def State.applyLat (s : State) (b l : Nat) : State :=
  if (s.pendWord (R.BAR_LAT b)).isSome then
    (s.applyPend (R.BAR_LAT b)).restartX b ((l : Int) - s.rd (R.TG_DELAY_WHOLE b))
  else s

/-! ## States of the twin (R386, R387) -/

abbrev sqActive : Nat := 1
abbrev sqStandby : Nat := 2
abbrev sqOut : Nat := 3
abbrev sqRetired : Nat := 4

/-- One sequencer beside its registers: 0 SQA, 1 SQB. -/
def State.sq (s : State) (n : Nat) : Seq := Sparse.get {} s.seqs n

/-- Changes one sequencer. -/
def State.onSq (s : State) (n : Nat) (f : Seq → Seq) : State := { s with seqs := Sparse.upd {} s.seqs n f }

/-- The state of a sequencer. -/
def State.sqState (s : State) (n : Nat) : Nat := if n = 0 then s.rd R.SEQ_STATE_SQA else s.rd R.SEQ_STATE_SQB

/-- A sequencer forms lines. -/
def State.sqForms (s : State) (n : Nat) : Bool := s.sqState n == sqActive || s.sqState n == sqStandby

/-- A sequencer takes a state; SOLO follows (R389). -/
def State.setSq (s : State) (n st : Nat) : State :=
  let t := if n = 0 then s.wr R.SEQ_STATE_SQA st else s.wr R.SEQ_STATE_SQB st
  t.wrB R.SEQ_STATE_SOLO (!(t.sqForms 0 && t.sqForms 1))

/-- The other sequencer. -/
def twinOf (n : Nat) : Nat := 1 - n

/-- A sequencer takes control: a new period of control begins (R103). -/
def State.takeControl (s : State) (n : Nat) : State :=
  (((s.setSq n sqActive).wr R.SEQ_STATE_ACTIVE n).wr (R.SQ_STATUS_DONE n) 0).wr (R.SQ_STATUS_ABORTED n) 0

/-! ## Hand-back (R398) -/

/-- A hand-back in progress is abandoned. -/
def State.dropHandback (s : State) : State := (s.wr R.SEQ_STATE_HANDBACK_PEND 0).wr R.SEQ_STATE_BARS 0

/-- The conditions of a hand-back hold. -/
def State.handbackMay (s : State) : Bool :=
  let p := s.rd R.SEQ_CFG_PREF
  s.flag R.SEQ_CFG_AUTO && !s.flag R.SEQ_STATE_HOLD && s.sqState p == sqStandby && s.sqState (twinOf p) == sqActive

/-- The last bar has been taken: control changes (R398). -/
def State.handbackDone (s : State) : State :=
  let p := s.rd R.SEQ_CFG_PREF
  let o := twinOf p
  let s1 := (((s.setSq o sqStandby).wr (R.SQ_STATUS_DONE o) 1).wr (R.SQ_STATUS_ABORTED o) 0).takeControl p
  (((s1.dropHandback.inc R.SEQ_HANDBACKS_COUNT).lifeAdd 0x0F4 4 1)).raise Ev.HANDBACK p

/-- Bars are taken in a hand-back in progress (R398). -/
def State.takeBars (s : State) (mask : Nat) : State :=
  if s.flag R.SEQ_STATE_HANDBACK_PEND then
    let m := s.rd R.SEQ_STATE_BARS ||| mask
    let s1 := s.wr R.SEQ_STATE_BARS m
    if m = 65535 then s1.handbackDone else s1
  else s

/-- The bars that are idle, as a mask. -/
def State.idleMask (s : State) : Nat := ((List.range 16).map (fun b => if s.barIdle b then 2 ^ b else 0)).sum

/-- During a hand-back a bar that has become idle is taken at once (R398). -/
def State.takeIdle (s : State) : State := if s.handbackMay then s.takeBars s.idleMask else s

/-- A hand-back begins, goes on with the idle bars, or is abandoned when its conditions have gone (R398, R400). -/
def State.handback (s : State) : State :=
  if s.handbackMay then (s.wr R.SEQ_STATE_HANDBACK_PEND 1).takeBars s.idleMask
  else if s.flag R.SEQ_STATE_HANDBACK_PEND then s.dropHandback
  else s

/-! ## Giving up (R391 to R399) -/

/-- A priority cycle begins (R393). -/
def State.priorityCycle (s : State) (n : Nat) : State :=
  (s.onSq n (fun q => { q with priority := true, slice := 0 })).wr (R.SQ_STATUS_DIAG n) 1

/-- A sequencer is retired (R399). -/
def State.retireSq (s : State) (n : Nat) : State :=
  ((s.setSq n sqRetired).lifeAdd (0x0DA + 16 * n) 2 1).condOn Ev.SEQ_RETIRED n

/-- The lines whose form points lie within LP before the hand-over are counted twice (R396). -/
def State.countDoubled (s : State) : State :=
  (List.range 16).foldl (fun (t : State) b =>
    let lp := s.rd (R.TG_LP_LP b) / 256
    ((s.tg b).recent.filter (fun x => decide (s.time ≤ x.formed + lp))).foldl (fun (u : State) x =>
      let u1 := u.addStat b x
      let u2 := u1.flagRows (fun r => { r with double := true }) b (x.cells.map (·.1))
      let u3 := { u2 with pieces := u2.pieces.map (fun (p : Piece) =>
        if x.pieces.contains p.num then { p with flags := p.flags ||| 256 } else p) }
      (u3.inc R.SEQ_DOUBLED_COUNT).lifeAdd 0x0FC 4 1) t) s

/-- A sequencer gives up with a cause of R394. -/
def State.giveUp (s : State) (n cause : Nat) : State :=
  let s0 := s.wr (R.SQ_STATUS_LAST_CAUSE n) cause
  if !s.sqForms n then s
  else if !s.sqForms (twinOf n) then
    (((s0.wr (R.SQ_STATUS_DIAG n) 1).onSq n (fun q => { q with failed := true })).raise Ev.FAILOVER n (cause + 512)).requestStop 5
  else
    let was := s.sqState n
    let recent := (s.sq n).giveups.filter (fun t => decide (s.time ≤ t + 3600 * secTicks (s.rd R.SEQ_LIMITS_RETIRE_H))) ++ [s.time]
    let s1 := (((s0.inc (R.SQ_GIVEUPS_COUNT n)).lifeAdd (0x0D4 + 16 * n) 2 1).onSq n (fun q => { q with
      giveups := recent, priority := false, slice := 0, joining := cause == 5, cycleFrom := s.time })).setSq n sqOut
    let s2 := ((s1.wr (R.SQ_STATUS_DIAG n) 0).wr (R.SQ_STATUS_CLEAN n) 0).wr (R.SQ_STATUS_RFAIL n) 0
    let s3 := if was = sqActive then
        (((((s2.wrB (R.SQ_STATUS_ABORTED n) (cause == 5)).wrB (R.SQ_STATUS_DONE n) (cause != 5)).takeControl (twinOf n)).inc
          R.SEQ_FAILOVERS_COUNT).lifeAdd 0x0F0 4 1).wr R.SEQ_STATE_OVERLAP 1 |>.countDoubled
      else s2
    let s4 := s3.dropHandback.raise Ev.FAILOVER n (cause + if was = sqStandby then 256 else 0)
    if s.rd R.SEQ_LIMITS_GIVEUP_N ≤ recent.length then s4.retireSq n else s4

/-- A strike against a sequencer (R391). -/
def State.strike (s : State) (n : Nat) : State :=
  let s1 := (s.inc (R.SQ_STRIKES_COUNT n)).lifeAdd (0x0D6 + 16 * n) 2 1
  let second := (s.sq n).strikes.any (fun t => decide (s.time ≤ t + secTicks (s.rd R.SEQ_LIMITS_STRIKE_S)))
  let s2 := s1.onSq n (fun q => { q with strikes := [s.time] })
  if second then s2.giveUp n 4 else s2.priorityCycle n

/-- A slice has failed (R392). -/
def State.sliceFail (s : State) (n index : Nat) : State :=
  ((s.wr (R.SQ_LAST_SLICE_INDEX n) index).inc (R.SQ_SLICE_FAIL_COUNT n)).lifeAdd (0x0D8 + 16 * n) 2 1

/-- A full cycle has passed. -/
def State.cyclePass (s : State) (n : Nat) : State := (s.inc (R.SQ_CYCLES_COUNT n)).lifeAdd (0x0DC + 16 * n) 4 1

/-- A sequencer joins as STANDBY (R397). -/
def State.joinSq (s : State) (n : Nat) : State :=
  ((s.setSq n sqStandby).onSq n (fun q => { q with joining := false, slice := 0 })).handback

/-- Sequencers aborted by the host join at the next form point (R400). -/
def State.joinAborted (s : State) : State :=
  (List.range 2).foldl (fun (t : State) n => if (t.sq n).joining ∧ t.sqState n = sqOut then t.joinSq n else t) s

/-- A mismatch of known outcome is reported (R389, R390). -/
def State.mismatchKnown (s : State) (x : Mismatch) (outcome : Nat) : State :=
  ((((s.wr R.SEQ_LAST_MISMATCH_LANE x.lane).wr R.SEQ_LAST_MISMATCH_BAR x.bar).wr R.SEQ_LAST_MISMATCH_OUTCOME outcome).wr
    R.SEQ_LAST_MISMATCH_LSEQ (x.lseq % 2 ^ 20)).raise Ev.SEQ_MISMATCH x.lane
      (x.bar + 16 * outcome + 256 * (x.lseq % 2 ^ 24))

/-- The outcome of two replays (R390). -/
def replayCode (oa ob ra rb : Nat) : Nat :=
  if ra = rb ∧ rb = ob then 1
  else if ra = rb ∧ rb = oa then 2
  else if ra ≠ oa ∧ rb ≠ ob then 5
  else if ra = oa ∧ rb = ob then 6
  else if ra ≠ oa then 3
  else 4

/-- What a replay's outcome does (R390). -/
def State.replayEffect (s : State) (code : Nat) : State :=
  match code with
  | 1 => s.strike 0
  | 2 => s.strike 1
  | 3 => s.giveUp 0 3
  | 4 => s.giveUp 1 3
  | 5 => let a := s.rd R.SEQ_STATE_ACTIVE
         (s.giveUp a 3).giveUp (twinOf a) 3
  | _ => ((s.inc R.SEQ_UNRESOLVED_COUNT).priorityCycle 0).priorityCycle 1

end Sys2Proof.Machine
end

