-- ==== Sys2Proof/Machine/RenderOps.lean ====
section
/-! DEFINITION. Where pieces start (R120, R121), calendar time (R240, R378), and the live fields: values, serial lists, glyphs
and rasters (R238 to R252). -/

namespace Sys2Proof.Machine

/-! ## Start positions (R120, R23) -/

/-- The position after the piece's last line; none while it has no start or no end. -/
def Piece.endPos (p : Piece) : Option Nat :=
  match p.start, p.total with
  | some st, some n => some (match p.cut with
    | some c => max st (min c (st + n))
    | none => st + n)
  | _, _ => none

/-- The start of a back-to-back or repeat piece behind `ahead`, the pieces before it in the queue; none: not known yet (R120). -/
def State.startBehind (s : State) (ahead : List Piece) (p : Piece) : Option Nat :=
  let near := ahead.filter (fun q => q.shares p && q.stage != Stage.queued)
  if near.isEmpty then some (s.lineCount p.refTg + 2)
  else if near.all (fun q => q.endPos.isSome) then some (maxOf (near.filterMap (·.endPos)))
  else none

/-- Gives every admitted piece its start position as soon as it is known. -/
def placeFrom (s : State) : List Piece → List Piece → List Piece
  | _, [] => []
  | done, p :: ps =>
    let p1 : Piece := if p.stage = .admitted ∧ p.start = none ∧ p.startRule ≠ 1 then { p with start := s.startBehind done p } else p
    p1 :: placeFrom s (done ++ [p1]) ps

/-- The reject position of every piece with a reject output is known once its start is (R122, R140). -/
def State.scheduleRejects (s : State) : State :=
  { s with rejects := s.rejects ++ s.pieces.filterMap (fun p =>
      match p.start with
      | some st => if p.rejectEn ∧ s.rejects.all (fun r => r.piece != p.num) then
          some { out := p.rejectOut, tg := p.refTg, from_ := st + p.rejectDist, to_ := st + p.rejectDist + p.rejectWidth, piece := p.num }
        else none
      | none => none) }

/-- Start positions follow, and with them the reject positions (R120, R122). -/
def State.placePieces (s : State) : State := { s with pieces := placeFrom s [] s.pieces }.scheduleRejects

/-! ## Calendar (R240, R378) -/

/-- One time base. -/
def State.tb (s : State) (k : Nat) : TimeBase := Sparse.get {} s.tbs k

/-- Changes one time base. -/
def State.onTb (s : State) (k : Nat) (f : TimeBase → TimeBase) : State := { s with tbs := Sparse.upd {} s.tbs k f }

/-- The UTC offset in force in seconds (R378). -/
def State.utcOffset (s : State) : Int := if s.flag R.TB0_UTC_FROM_PTP then (s.tb 0).utcOff else signed 16 (s.rd R.TB0_UTC_OFFSET)

/-- The instance that disciplines TB0, if one does (R373). -/
def State.tb0Inst (s : State) : Option Nat :=
  let src := s.rd (R.TB_CFG_SRC 0)
  if src = 1 then some 0 else if src = 2 then some 1 else none

/-- The UTC calendar second of an instant of TB0 in ns, leap seconds held or skipped (R378). -/
def State.utcOf (s : State) (ns : Nat) : Int :=
  let u := (ns : Int) / 1000000000 - s.utcOffset
  match s.tb0Inst with
  | none => u
  | some i =>
    let d := u % 86400
    if s.flag (R.PI_STATUS_LEAP61 i) ∧ d < 43200 then u - 1
    else if s.flag (R.PI_STATUS_LEAP59 i) ∧ (d = 86399 ∨ d < 43200) then u + 1
    else u

/-- TB0 is usable now (R251, R376). -/
def State.tb0Usable (s : State) : Bool := s.flag (R.TB_STATUS_USABLE 0)

/-- Year, month and day of a number of days since 1970-01-01. -/
def civil (days : Int) : Nat × Nat × Nat :=
  let z := days + 719468
  let era := z / 146097
  let doe := (z % 146097).toNat
  let yoe := (doe - doe / 1460 + doe / 36524 - doe / 146096) / 365
  let doy := doe - (365 * yoe + yoe / 4 - yoe / 100)
  let mp := (5 * doy + 2) / 153
  let d := doy - (153 * mp + 2) / 5 + 1
  let m := if mp < 10 then mp + 3 else mp - 9
  ((era * 400 + yoe + (if m ≤ 2 then 1 else 0)).toNat, m, d)

/-- A leap year. -/
def leapYear (y : Nat) : Bool := y % 4 == 0 && (y % 100 != 0 || y % 400 == 0)

/-- The day of the year, from 1. -/
def yearDay (y m d : Nat) : Nat :=
  [0, 31, 59, 90, 120, 151, 181, 212, 243, 273, 304, 334].getD (m - 1) 0 + d + (if leapYear y ∧ 2 < m then 1 else 0)

/-- The ISO weekday of a day number: 1 Monday to 7 Sunday. -/
def weekday (days : Int) : Nat := ((days + 3) % 7).toNat + 1

/-- The ISO weeks of a year, from the weekday of its 1 January. -/
def weeksIn (y jan1 : Nat) : Nat := if jan1 = 4 ∨ (jan1 = 3 ∧ leapYear y) then 53 else 52

/-- The ISO 8601 week. -/
def isoWeek (days : Int) : Nat :=
  let c := civil days
  let n := yearDay c.1 c.2.1 c.2.2
  let w := weekday days
  let jan1 := weekday (days - n + 1)
  let k := (n + 10 - w) / 7
  if k = 0 then
    let prev := c.1 - 1
    weeksIn prev (weekday (days - n + 1 - (if leapYear prev then 366 else 365)))
  else if weeksIn c.1 jan1 < k then 1
  else k

/-- The `n` low decimal digits as glyph codes (R240). -/
def digits : Nat → Nat → List Nat
  | 0, _ => []
  | n + 1, v => digits n (v / 10) ++ [0x30 + v % 10]

/-- Glyph codes up to the first 0 (R241, R243, R245). -/
def upToZero (l : List Nat) : List Nat := l.takeWhile (fun c => c != 0)

/-- The bytes of a word as glyph codes. -/
def wordCodes (w : Nat) : List Nat := [w % 256, w / 256 % 256, w / 65536 % 256, w / 16777216 % 256]

/-- The entry with the latest START among some. -/
def latestShift (s : State) (ks : List Nat) : Option Nat :=
  ks.foldl (fun (b : Option Nat) k => match b with
    | none => some k
    | some j => if s.rd (R.SHIFT_CFG_START j) < s.rd (R.SHIFT_CFG_START k) then some k else b) none

/-- The shift code at a local minute of the day (R241). -/
def State.shiftCode (s : State) (minute : Nat) : List Nat :=
  let on := (List.range 8).filter (fun k => s.flag (R.SHIFT_CFG_EN k))
  let early := on.filter (fun k => decide (s.rd (R.SHIFT_CFG_START k) ≤ minute))
  match latestShift s (if early.isEmpty then on else early) with
  | none => []
  | some k => upToZero (wordCodes (s.rd (R.SHIFT_CODE_CODES k)))

/-- The characters of one byte of a DATE format at a local second (R240). -/
def State.dateChars (s : State) (t : Int) (b : Nat) : List Nat :=
  let days := t / 86400
  let sec := (t % 86400).toNat
  let c := civil days
  if b = 0xE0 then digits 4 c.1
  else if b = 0xE1 then digits 2 c.1
  else if b = 0xE2 then digits 2 c.2.1
  else if b = 0xE3 then digits 2 c.2.2
  else if b = 0xE4 then digits 2 (sec / 3600)
  else if b = 0xE5 then digits 2 (sec / 60 % 60)
  else if b = 0xE6 then digits 2 (sec % 60)
  else if b = 0xE7 then digits 3 (yearDay c.1 c.2.1 c.2.2)
  else if b = 0xE8 then digits 2 (isoWeek days)
  else if b = 0xE9 then digits 1 (weekday days)
  else if b = 0xEA then digits 1 c.1
  else if b = 0xEB then s.shiftCode (sec / 60)
  else [b]

/-! ## Live-field records (R238) -/

/-- The record of one field. -/
def State.fieldRec (s : State) (p : Piece) (i : Nat) : List Byte := s.hbmRead (le p.desc 0x30 8 + 64 * i) 64

/-- The record meets R238, R240 and the state of its list and glyph set. -/
def State.recOk (s : State) (p : Piece) (r : List Byte) : Bool :=
  let src := le r 0 1
  let flags := le r 2 1
  let par := le r 3 1
  let len := le r 0x0F 1
  let text := ((r.drop 0x14).take 40).map (·.toNat)
  let dated := src == 1 || src == 2
  decide (src ≤ 5) && decide (le r 1 1 < 16) && decide (flags < 16) && (dated || !bit flags 1) &&
  (if src = 3 ∨ src = 5 then decide (par < 16) else if src = 4 then decide (par < 4) else par == 0) &&
  decide (le r 4 2 < p.bandCount) && decide (le r 6 2 < (s.bandEntry p (le r 4 2)).2.2) && decide (le r 8 4 < p.lines) &&
  (if src ≤ 1 then decide (1 ≤ len ∧ len ≤ 40) else len == 0) &&
  (if dated then decide (-3650 ≤ signed 16 (le r 0x10 2) ∧ signed 16 (le r 0x10 2) ≤ 3650) else le r 0x10 2 == 0) &&
  zeros r 0x12 2 && zeros r 0x3C 4 && (text.drop len).all (· == 0) &&
  (src != 1 || (text.take len).all (fun b => decide (b < 0xEC ∨ 0xF0 ≤ b))) &&
  (src != 4 || s.flag (R.SL_STATUS_ACTIVE par) || s.flag (R.SL_STATUS_PENDING par)) &&
  s.rd (R.GS_SIZE_BYTES (le r 1 1)) != 0

/-- All records of the piece (R126, R238, R335). -/
def State.recsOk (s : State) (p : Piece) : Bool :=
  let rs := (List.range p.liveCount).map (s.fieldRec p)
  rs.all (s.recOk p) && (!p.verify || rs.any (fun r => bit (le r 2 1) 2))

/-! ## Serial lists (R245, R246) -/

/-- The header of a list. -/
def State.serialHead (s : State) (a : Nat) : List Byte := s.hbmRead a 32

/-- ENTRY_LEN rounded up to a multiple of 4. -/
def serialPad (h : List Byte) : Nat := (le h 4 1 + 3) / 4 * 4

/-- The size of one entry of a list. -/
def serialStride (h : List Byte) : Nat := serialPad h + if bit (le h 3 1) 0 then 16 else 4

/-- A list passes the checks of R246. -/
def State.serialOk (s : State) (a : Nat) : Bool :=
  let h := s.serialHead a
  let enc := bit (le h 3 1) 0
  le h 0 2 == 0x4B53 && le h 2 1 == 1 && decide (le h 3 1 < 2) && decide (1 ≤ le h 4 1 ∧ le h 4 1 ≤ 40) &&
  (if enc then decide (le h 5 1 < 8) && bit (s.rd R.KEY_VALID_SLOTS) (le h 5 1) else le h 5 1 == 0 && zeros h 0x10 8) &&
  zeros h 6 2 && decide (1 ≤ le h 8 4 ∧ le h 8 4 ≤ 16777215) && zeros h 0x0C 4 && zeros h 0x18 4 &&
  le h 0x1C 4 == crc32 (h.take 0x1C) && s.inJob a (32 + le h 8 4 * serialStride h)

/-- The address of the list in force. -/
def State.serialAddr (s : State) (k : Nat) : Nat := s.rdW (R.SL_ADDR_LO_ADDR k) (R.SL_ADDR_HI_ADDR k)

/-- The pending list comes into force when none is, or when the one in force is used up (R246). -/
def State.promoteSerial (s : State) (k : Nat) : State :=
  if s.flag (R.SL_STATUS_PENDING k) ∧ (!s.flag (R.SL_STATUS_ACTIVE k) ∨ s.rd (R.SL_COUNT_COUNT k) ≤ s.rd (R.SL_NEXT_INDEX k)) then
    let a := s.rdW (R.SL_PEND_LO_ADDR k) (R.SL_PEND_HI_ADDR k)
    let h := s.serialHead a
    let s1 := (s.wrW (R.SL_ADDR_LO_ADDR k) (R.SL_ADDR_HI_ADDR k) a).wrW (R.SL_PEND_LO_ADDR k) (R.SL_PEND_HI_ADDR k) 0
    let s2 := ((s1.wr (R.SL_STATUS_PENDING k) 0).wr (R.SL_STATUS_ACTIVE k) 1).wrB (R.SL_STATUS_ENCRYPTED k) (bit (le h 3 1) 0)
    ((s2.wr (R.SL_STATUS_ENTRY_LEN k) (le h 4 1)).wr (R.SL_NEXT_INDEX k) 0).wr (R.SL_COUNT_COUNT k) (le h 8 4)
  else s

/-- The next entry of a list: its codes and whether its check failed; none: no entry (R245, R250). -/
def State.serialEntry (s : State) (k : Nat) : Option (List Nat × Bool) :=
  let n := s.rd (R.SL_NEXT_INDEX k)
  if !s.flag (R.SL_STATUS_ACTIVE k) ∨ s.rd (R.SL_COUNT_COUNT k) ≤ n then none
  else
    let a := s.serialAddr k
    let h := s.serialHead a
    let e := s.hbmRead (a + 32 + n * serialStride h) (serialStride h)
    let body := e.take (serialPad h)
    if bit (le h 3 1) 0 then
      let key := Sparse.get [] s.keys (le h 5 1)
      let iv := (h.drop 0x10).take 8 ++ leBytes 4 n
      some (upToZero ((gcmCrypt key iv body).map (·.toNat)), gcmTag key iv h body != e.drop (serialPad h))
    else some (upToZero (body.map (·.toNat)), le e (serialPad h) 4 != crc32 body)

/-- The next entry of a list is consumed. -/
def State.serialUse (s : State) (k : Nat) : State := (s.inc (R.SL_NEXT_INDEX k)).promoteSerial k

/-! ## Counters (R242) -/

/-- The characters of a counter. -/
def State.counterText (s : State) (k : Nat) : List Nat :=
  let n := s.rd (R.LFCNT_FMT_DIGITS k)
  let v := s.rd (R.LFCNT_VALUE_VALUE k)
  let d := digits n v
  let lead := d.takeWhile (fun c => c == 0x30)
  let fill := min lead.length (n - 1)
  if s.flag (R.LFCNT_FMT_PAD k) ∧ v < 10 ^ n then List.replicate fill 0x20 ++ d.drop fill else d

/-- The counter takes its step (R242). -/
def State.counterStep (s : State) (k : Nat) : State :=
  let step := s.rdI (R.LFCNT_STEP_STEP k)
  let v : Int := s.rd (R.LFCNT_VALUE_VALUE k) + step
  let lo : Int := s.rd (R.LFCNT_MIN_MIN k)
  let hi : Int := s.rd (R.LFCNT_MAX_MAX k)
  s.wrI (R.LFCNT_VALUE_VALUE k) (if 0 < step ∧ hi < v then lo else if step < 0 ∧ v < lo then hi else v)

/-! ## Rasters (R247, R248) -/

/-- A glyph: width, height, rows as numbers. -/
def State.glyph (s : State) (g code : Nat) : Nat × Nat × List Nat :=
  let base := 0x44000000 + s.rd (R.GS_BASE_BYTES g)
  let e := (s.word (base + 4 * code)).toNat
  let w := bits e 16 7
  let h := bits e 23 8
  let at_ := base + 16 * (e % 65536)
  let n := (w + 31) / 32
  if w = 0 then (0, 0, [])
  else (w, h, (List.range h).map (fun r =>
    (((List.range n).map (fun i => (s.word (at_ + 4 * (r * n + i))).toNat * 2 ^ (32 * i))).sum) % 2 ^ w))

/-- Glyphs placed left to right: the rows they add at pixel `x`. -/
def placeAcross (gap : Nat) : Nat → List (Nat × Nat × List Nat) → List Nat → List Nat
  | _, [], rows => rows
  | x, g :: gs, rows =>
    placeAcross gap (x + g.1 + gap) gs ((rows.zipIdx).map (fun e => e.1 + g.2.2.getD e.2 0 * 2 ^ x))

/-- Glyphs placed one below the other. -/
def placeDown (gap : Nat) : List (Nat × Nat × List Nat) → List Nat
  | [] => []
  | [g] => g.2.2
  | g :: gs => g.2.2 ++ List.replicate gap 0 ++ placeDown gap gs

/-- The raster of some characters: width, height, rows (R248). -/
def State.raster (s : State) (gset gap : Nat) (along : Bool) (text : List Nat) : Nat × Nat × List Nat :=
  let gs := text.map (s.glyph gset)
  let gaps := gap * (gs.length - 1)
  if along then (maxOf (gs.map (·.1)), (gs.map (·.2.1)).sum + gaps, placeDown gap gs)
  else
    let h := maxOf (gs.map (·.2.1))
    ((gs.map (·.1)).sum + gaps, h, placeAcross gap 0 gs (List.replicate h 0))

/-! ## Failures (R250) -/

/-- A field fails: counts, the verdict, and FIELD_REJECT once per piece. -/
def State.fieldFail (s : State) (num cause ord : Nat) : State :=
  match s.piece num with
  | none => s
  | some p =>
    let s1 := (((s.inc R.LF_FAILED_COUNT).wr R.LF_LAST_CAUSE cause).wr R.LF_LAST_FIELD ord).wr R.LF_LAST_PIECE_PIECE num
    let s2 := (s1.onPiece num (fun q => { q with rejected := true, fieldReject := true }))
    let s3 := { s2 with rejects := s2.rejects.map (fun (r : Reject) => if r.piece = num then { r with bad := true } else r) }
    if p.fieldReject then s3 else s3.raise Ev.FIELD_REJECT num (cause + 256 * ord)

/-! ## Rendering (R244, R249) -/

/-- The text of a field at a UTC second, and its cause of failure so far (0: none). -/
def State.fieldText (s : State) (r : List Byte) (utc : Int) (usable : Bool) : List Nat × Nat :=
  let len := le r 0x0F 1
  let text := ((r.drop 0x14).take len).map (·.toNat)
  let local_ := utc + 60 * s.rdI R.DATE_ZONE_MIN + 86400 * signed 16 (le r 0x10 2)
  let late := if !usable && bit (le r 2 1) 1 then 1 else 0
  match le r 0 1 with
  | 0 => (text, 0)
  | 1 => (text.flatMap (s.dateChars local_), late)
  | 2 => (s.shiftCode (local_ % 86400 / 60).toNat, late)
  | 3 => (s.counterText (le r 3 1), 0)
  | 4 => match s.serialEntry (le r 3 1) with
    | none => ([], 2)
    | some e => (e.1, if e.2 then 3 else 0)
  | _ => (upToZero (((List.range 8).flatMap (fun w => wordCodes (s.rd (R.LFTXT_W_CODES (le r 3 1) w)))).take 32), 0)

/-- One field drawn. `dead` names raster lines from which a read was uncorrectable (R250). -/
def State.drawField (s : State) (p : Piece) (utc : Int) (usable : Bool) (dead : Option Nat) (i : Nat) : FieldRun :=
  let r := s.fieldRec p i
  let band := le r 4 2
  let x := le r 6 2
  let line := le r 8 4
  let flags := le r 2 1
  let t := s.fieldText r utc usable
  let ra := s.raster (le r 1 1) (le r 0x0E 1) (bit flags 3) t.1
  let wMax := (s.bandEntry p band).2.2 - x
  let hMax := p.lines - line
  let clipped := decide (wMax < ra.1 ∨ hMax < ra.2.1)
  let missing := t.1.any (fun c => (s.glyph (le r 1 1) c).1 == 0)
  let cause := if t.2 ≠ 0 then t.2 else if clipped then 5 else if missing then 6 else if dead.isSome then 7 else 0
  let w := min wMax ra.1
  let h := min hMax ra.2.1
  let rows := if t.2 ≠ 0 then List.replicate h 0 else (ra.2.2.take h).map (fun v => v % 2 ^ w)
  { index := i, band := band, x := x, line := line, ink := le r 0x0C 1, paper := le r 0x0D 1, opaq := bit flags 0,
    verify := bit flags 2, w := w, h := h,
    rows := match dead with
      | some d => (rows.zipIdx).map (fun e => if d ≤ e.2 then 0 else e.1)
      | none => rows
    text := t.1, failed := cause, deadFrom := dead, bytes := h * ((w + 63) / 64) * 8 }

/-- A field's space in the field area is in use until its last line has been formed by every row of every bar (R249). -/
def State.fieldHeld (s : State) (p : Piece) (rep : Nat) (f : FieldRun) : Bool :=
  let bars := (p.chans.filter (fun c => c.2 == f.band)).map (fun c => s.chBar c.1)
  bars.any (fun b => !p.ended.contains b && decide (p.at_ b < rep * p.lines + f.line + f.h + s.barDelay b))

/-- The bytes in use in the field area of a bar. -/
def State.fieldUse (s : State) (b : Nat) : Nat :=
  (s.pieces.flatMap (fun p => p.prints.flatMap (fun r => r.fields.map (fun f =>
    if (p.bands.find? (fun x => x.entry == f.band)).any (fun x => x.hold == b) && s.fieldHeld p r.rep f then f.bytes else 0)))).sum

/-- The next print of a piece may start rendering now (R244). -/
def State.renderMay (s : State) (p : Piece) : Bool :=
  let rep := p.prints.length
  let ahead := s.pieces.takeWhile (fun q => q.num != p.num)
  let first := p.start.map (fun st => st + rep * p.lines + (p.bars.map (fun b => s.rd (R.TG_DELAY_WHOLE b))).foldl min 65535)
  p.liveCount != 0 && p.stage == .admitted &&
  (match p.total with
    | some n => decide (rep * p.lines < n)
    | none => true) &&
  (match first with
    | none => false
    | some f => (p.startRule == 1 && rep == 0) || decide (f ≤ s.lineCount p.refTg + 1 + s.rd R.LF_LEAD_LINES)) &&
  ahead.all (fun q => !q.shares p || q.liveCount == 0 || (match q.total with
    | some n => decide (n ≤ q.prints.length * q.lines)
    | none => false))

/-- The counters and the lists the fields name, each once (R242, R252). -/
def State.named (s : State) (p : Piece) (src : Nat) : List Nat :=
  (((List.range p.liveCount).map (s.fieldRec p)).filter (fun r => le r 0 1 == src)).map (fun r => le r 3 1) |>.eraseDups

/-- HOLDOVER_DATE of a print: fields from holdover time count, and the first such sample sends the event (R251). -/
def State.holdover (s : State) (p : Piece) (usable : Bool) : State :=
  let n := (((List.range p.liveCount).map (s.fieldRec p)).filter (fun r => (le r 0 1 == 1 || le r 0 1 == 2) && !bit (le r 2 1) 1)).length
  if usable ∨ n = 0 then s
  else
    let s1 := (s.add R.LF_HOLDOVER_COUNT n).onPiece p.num (fun q => { q with flags := q.flags ||| 128 })
    s1.oneOn Ev.HOLDOVER_DATE p.num 0

/-- A field whose first covered line has been formed before its raster was drawn has failed with LATE; it stays zero (R250). -/
def State.lateField (s : State) (p : Piece) (rep : Nat) (f : FieldRun) : FieldRun :=
  if (p.chans.filter (fun c => c.2 == f.band)).any (fun c => decide (rep * p.lines + f.line < p.at_ (s.chBar c.1))) then
    { f with rows := f.rows.map (fun _ => 0), failed := 4 }
  else f

/-- The render unit samples the values of the next print of a piece, writes its render record and draws its rasters (R244, R249,
R252); `dead` gives, by record ordinal, the raster line of an uncorrectable read. -/
def State.render (s : State) (p : Piece) (dead : List (Nat × Nat)) : State :=
  let rep := p.prints.length
  let smp := (if rep = 0 then p.sample else none).getD (s.utcOf (s.tb 0).ns, s.tb0Usable)
  let fields := (List.range p.liveCount).map (fun i =>
    s.lateField p rep (s.drawField p smp.1 smp.2 ((dead.find? (fun d => d.1 == i)).map (·.2)) i))
  let s1 := (s.onPiece p.num (fun q => { q with prints := q.prints ++ [⟨rep, smp.1, smp.2, fields⟩] })).add R.LF_RENDERED_COUNT fields.length
  let s2 := (s.named p 3).foldl (fun (t : State) k => t.counterStep k) s1
  let s3 := (s.named p 4).foldl (fun (t : State) k => if (s.serialEntry k).isSome then t.serialUse k else t) s2
  let s4 := s3.holdover p smp.2
  fields.foldl (fun (t : State) f => if f.failed = 0 ∨ f.failed = 4 then t else t.fieldFail p.num f.failed f.index) s4

/-- The rasters of the next print find room in the field areas of the bars that hold their bands (R249). -/
def State.renderFits (s : State) (p : Piece) : Bool :=
  let smp := p.sample.getD (s.utcOf (s.tb 0).ns, s.tb0Usable)
  let fields := (List.range p.liveCount).map (s.drawField p smp.1 smp.2 none)
  (List.range 16).all (fun b =>
    decide (s.fieldUse b + (fields.map (fun f => if (p.bands.find? (fun x => x.entry == f.band)).any (fun x => x.hold == b) then f.bytes else 0)).sum
      ≤ 1024 * s.cf (R.BAR_FIELD_KIB b)) || (fields.all (fun f => f.bytes == 0)))

end Sys2Proof.Machine
end

