-- ==== Sys2Proof/Machine/FlateOps.lean ====
section
/-! DEFINITION. Decompressors, band migration, compressors and evidence (R149 to R173, R331, R332, R421). -/

namespace Sys2Proof.Machine

/-! ## Segments (R150 to R154) -/

/-- One segment of a container: index, first line, line after its last, offset and length of its record. -/
structure Seg where
  index : Nat
  from_ : Nat
  till : Nat
  off : Nat
  bytes : Nat
  deriving DecidableEq, Repr

/-- The segments in order, from an index, a line and an offset on. -/
def segsFrom : Nat → Nat → Nat → List (Nat × Nat) → List Seg
  | _, _, _, [] => []
  | i, l, o, g :: gs => ⟨i, l, l + g.1, o, g.2⟩ :: segsFrom (i + 1) (l + g.1) (o + g.2) gs

/-- The segment that holds a line. -/
def Container.seg (c : Container) (line : Nat) : Option Seg :=
  (segsFrom 0 0 (64 + 8 * c.segs.length) c.segs).find? (fun g => decide (g.from_ ≤ line ∧ line < g.till))

/-- What decoding a segment gives: its output in order, the cause met on the way, and the verdict at its end (R151, R154, R160). -/
structure Decoded where
  out : List Byte
  cause : Option Nat
  verdict : Option Nat
  deriving DecidableEq, Repr

/-- The 12-byte IV of a segment (R154). -/
def Container.iv (c : Container) (g : Seg) : List Byte := (c.hdr.drop 0x10).take 8 ++ leBytes 4 g.index

/-- Decodes one segment of the stream at an address (R151 to R154, R160). -/
def State.decodeSeg (s : State) (addr : Nat) (c : Container) (g : Seg) : Decoded :=
  let rec_ := s.hbmRead (addr + g.off) g.bytes
  let cipher := rec_.take (g.bytes - 16)
  let key := Sparse.get [] s.keys c.slot
  let plain := if c.encrypted then gcmCrypt key (c.iv g) cipher else rec_
  let aad := c.hdr ++ leBytes 4 (g.till - g.from_) ++ leBytes 4 g.bytes
  let r := inflate (g.till - g.from_) c.width c.win (plain.take (plain.length - 4))
  let tagBad := c.encrypted && gcmTag key (c.iv g) aad cipher != rec_.drop (g.bytes - 16)
  ⟨r.1, r.2, if tagBad then some 0x0A else match r.2 with
    | some k => some k
    | none => if le plain (plain.length - 4) 4 = crc32 r.1 then none else some 0xFF⟩

/-! ## Line jobs (R14, R158) -/

/-- Which line of a stream a job decodes: the next, the next of the new engine while it migrates, or one decoded again. -/
inductive JobKind where
  | main | moved | redo
  deriving DecidableEq, Repr

/-- A line job an engine may start: piece, stream, line. -/
structure LineJob where
  piece : Piece
  band : BandRun
  line : Nat
  kind : JobKind
  deriving DecidableEq, Repr

/-- The line an engine would decode next of a stream. -/
def BandRun.jobOf (b : BandRun) (n : Nat) : Option (Nat × JobKind) :=
  if !b.live then none
  else if b.redo < b.redoEnd then (if b.engine = n then some (b.redo, .redo) else none)
  else if b.migrating then
    if b.old = n ∧ b.next ≤ b.cut then some (b.next, .main)
    else if b.engine = n ∧ b.next2 < b.lines then some (b.next2, .moved)
    else none
  else if b.engine = n ∧ b.next < b.lines then some (b.next, .main)
  else none

/-- The slot of a line is free: in its holding bar's ring no other line lies in the slot (R13, R14, R16); a repeat design lies in the pool. -/
def State.slotFree (s : State) (p : Piece) (b : BandRun) (line : Nat) : Bool :=
  let depth := max 1 (s.cf (R.BAR_RING_DEPTH b.hold))
  p.isRepeat || s.ring.all (fun r =>
    r.line % depth != line % depth || (r.piece == p.num && r.line == line) ||
      (s.piece r.piece).all (fun q => q.isRepeat || (q.bands.find? (fun x => x.entry == r.entry)).all (fun x => x.hold != b.hold)))

/-- The time from now to the earliest form point that needs a line, in 1/256 tick by the bars' line periods (R158). -/
def State.dueIn (s : State) (p : Piece) (b : BandRun) (line : Nat) : Int :=
  let start := p.start.getD (s.lineCount p.refTg + 2)
  (b.bars.map (fun x =>
    let lp := if s.flag (R.TG_STATUS_LP_VALID x) then s.rd (R.TG_LP_LP x) else 51200000000 / max 1 (s.rd (R.TG_MAX_RATE_RATE x))
    ((start + s.rd (R.TG_DELAY_WHOLE x) + line : Nat) - (s.lineCount x + 1 : Nat) : Int) * lp)).foldl min (2 ^ 80)

/-- The line jobs an engine may start, in the order of the queue. -/
def State.jobs (s : State) (n : Nat) : List LineJob :=
  s.pieces.flatMap (fun p => p.bands.filterMap (fun b =>
    match b.jobOf n with
    | none => none
    | some (l, k) => if k = .redo ∨ s.slotFree p b l then some ⟨p, b, l, k⟩ else none))

/-- The line job an engine starts: soonest form point, then lowest band number (R158). -/
def State.nextJob (s : State) (n : Nat) : Option LineJob :=
  (s.jobs n).foldl (fun (o : Option LineJob) j => match o with
    | none => some j
    | some k =>
      let x := s.dueIn j.piece j.band j.line
      let y := s.dueIn k.piece k.band k.line
      if x < y ∨ (x = y ∧ j.band.num < k.band.num) then some j else some k) none

/-- Changes one stream of a piece. -/
def State.onBand (s : State) (num entry : Nat) (f : BandRun → BandRun) : State :=
  s.onPiece num (fun p => { p with bands := p.bands.map (fun b => if b.entry = entry then f b else b) })

/-- The registers of a stream follow (R162, R164). -/
def State.setOwner (s : State) (b : BandRun) : State :=
  if !b.live then s
  else
    let k := b.num
    ((((((s.wr (R.BAND_OWNER_ENGINE k) b.engine).wr (R.BAND_OWNER_BANK k) b.bank).wr (R.BAND_OWNER_OLD_ENGINE k) b.old).wrB
      (R.BAND_OWNER_MIGRATING k) b.migrating).wr (R.BAND_OWNER_VALID k) 1).wr (R.BAND_OWNER_INDEX k) b.entry).wr
      (R.BAND_CUT_LINE k) b.cut

/-- The stream as it stands. -/
def State.band (s : State) (num entry : Nat) : Option BandRun :=
  (s.piece num).bind (fun p => p.bands.find? (fun b => b.entry == entry))

/-- The banks in use on an engine. -/
def State.banks (s : State) (e : Nat) : List Nat :=
  s.pieces.flatMap (fun p => p.bands.flatMap (fun b =>
    (if b.live && b.engine == e then [b.bank] else []) ++ (if b.live && b.migrating && b.old == e then [b.oldBank] else [])))

/-- The lowest free history bank of an engine. -/
def State.freeBank (s : State) (e : Nat) : Option Nat := (List.range 32).find? (fun k => !(s.banks e).contains k)

/-- The lowest free band number. -/
def State.freeNum (s : State) : Option Nat := (List.range 512).find? (fun k => !s.flag (R.BAND_OWNER_VALID k))

/-- A stream has advanced: a migration ends once the old engine has written CUT, and a stream that is done frees its number and
bank (R162, R164). -/
def State.settleBand (s : State) (num entry : Nat) : State :=
  match s.band num entry with
  | none => s
  | some b =>
    let b1 := if b.migrating ∧ b.cut < b.next then { b with migrating := false, next := b.next2 } else b
    let done := !b1.migrating && decide (b1.lines ≤ b1.next) && decide (b1.redoEnd ≤ b1.redo)
    if done then
      ((s.freeBands [b1]).onBand num entry (fun _ => { b1 with live := false })).loads
    else ((s.onBand num entry (fun _ => b1)).setOwner b1).loads

/-- The next line of a job's side moves on to a line. -/
def BandRun.advance (b : BandRun) (k : JobKind) (line : Nat) : BandRun :=
  match k with
  | .main => { b with next := line }
  | .moved => { b with next2 := line }
  | .redo => { b with redo := line }

/-! ## Migration (R163 to R165) -/

/-- The engine a stream moves to: the least loaded without DRAIN, with a free bank and room for its cost (R163). -/
def State.moveTarget (s : State) (n cost : Nat) : Option Nat :=
  let ok := (List.range 16).filter (fun e => e != n && !s.flag (R.DX_CTRL_DRAIN e) && (s.freeBank e).isSome &&
    decide (s.engineLoad [] e + cost ≤ 1000000000))
  ok.foldl (fun (o : Option Nat) e => match o with
    | none => some e
    | some x => if s.engineLoad [] e < s.engineLoad [] x then some e else some x) none

/-- One stream moves off its engine, if an engine qualifies (R163, R164). -/
def State.moveBand (s : State) (n num entry : Nat) : State :=
  match s.band num entry with
  | none => s
  | some b =>
    if !b.live ∨ b.engine ≠ n ∨ b.migrating ∨ b.redo < b.redoEnd then s
    else match s.moveTarget n b.cost, (s.container b.addr b.len).seg b.next with
      | some e, some g =>
        let b1 := { b with old := n, oldBank := b.bank, engine := e, bank := (s.freeBank e).getD 0, migrating := true,
                           cut := g.till - 1, next2 := g.till, leave := false }
        ((s.onBand num entry (fun _ => b1)).setOwner b1).loads
      | _, _ => s

/-- Every stream of an engine moves, as far as engines qualify (R163). -/
def State.moveAll (s : State) (n : Nat) : State :=
  ((s.pieces.flatMap (fun p => p.bands.map (fun b => (p.num, b.entry)))).foldl (fun (t : State) e => t.moveBand n e.1 e.2) s).loads

/-- The moves that are due at a segment boundary: all streams while DRAIN is set, else those still to leave (R163). -/
def State.moveDue (s : State) (n : Nat) : State :=
  if s.flag (R.DX_CTRL_DRAIN n) then s.moveAll n
  else (s.pieces.flatMap (fun p => (p.bands.filter (·.leave)).map (fun b => (p.num, b.entry)))).foldl
    (fun (t : State) e => t.moveBand n e.1 e.2) s

/-- The engine has met an error in its own context store: its streams leave it, at once where an engine qualifies (R163). -/
def State.leaveAll (s : State) (n : Nat) : State :=
  State.moveAll { s with pieces := s.pieces.map (fun (p : Piece) =>
    { p with bands := p.bands.map (fun b => if b.live ∧ b.engine = n then { b with leave := true } else b) }) } n

/-! ## The end of a segment (R160, R161, R166) -/

/-- A segment's lines are bad and its piece is rejected with BAND_BAD (R160, R161). -/
def State.spoil (s : State) (num entry : Nat) (k : JobKind) (from_ till : Nat) : State :=
  let s1 := s.onBand num entry (fun b => { b.advance k till with bad := b.bad ++ [(from_, till)] })
  let s2 := s1.onPiece num (fun p => { p with flags := p.flags ||| 64, rejected := true })
  let s3 := { s2 with rejects := s2.rejects.map (fun (r : Reject) => if r.piece = num then { r with bad := true } else r) }
  match s3.band num entry with
  | some b => if b.live then s3.wr (R.BAND_OWNER_BAD b.num) 1 else s3
  | none => s3

/-- A segment fails with a cause (R160). -/
def State.failSeg (s : State) (n : Nat) (j : LineJob) (g : Seg) (cause : Nat) : State :=
  let s1 := s.spoil j.piece.num j.band.entry j.kind g.from_ g.till
  let s2 := (s1.wr R.FLATE_LAST_CAUSE cause).wr R.FLATE_LAST_BAND j.band.num
  let arg := cause + 256 * j.band.num + 131072 * n
  let s3 := if cause = 0xFF then (s2.addSat (R.DX_ERRS_CRC n) 1).raise Ev.BAND_CRC_FAIL j.piece.num arg
    else (s2.addSat (R.DX_ERRS_BAD n) 1).raise Ev.STREAM_BAD j.piece.num arg
  let s4 := { s3 with dx := Sparse.set none s3.dx n (some ⟨j.band.num, j.piece.num, j.band.entry, g.from_, g.till, j.line, true, none⟩) }
  let s5 := s4.settleBand j.piece.num j.band.entry
  s5.moveDue n

/-- Pieces are admitted: the park and idle windows of their bars end, their start positions follow, and the module is at work
(R81, R120, R131, R286). -/
def State.admitAs (s : State) (nums : List Nat) : State :=
  let ps := s.pieces.filter (fun p => nums.contains p.num)
  let s1 := { s with pieces := s.pieces.map (fun (p : Piece) => if nums.contains p.num then { p with stage := .admitted } else p) }
  ((List.range 16).foldl (fun (t : State) b =>
    if ps.any (fun p => bit p.barMask b) ∧ ((t.rinse b).window ≠ 0 ∨ (t.rinse b).parkFrom.isSome) then t.closeWindow b else t)
    s1).placePieces.toDay

/-- Admission is paused: a common stop, test, NO_PRINT or SCAN_OPEN (R221, R457, R459, R463). -/
def State.admitPaused (s : State) : Bool :=
  s.stop.active || s.flag R.TEST_STATE_TEST || s.flag R.TEST_STATE_NO_PRINT || s.pow.scanOpen

/-- The lanes that serve a channel, home and second (R275). -/
def State.chanLanes (s : State) (c : Nat) : List Nat :=
  s.cf (R.CH_LANE_HOME c) :: (if s.cf (R.CH_LANE_DUPLEX c) = 1 then [s.cf (R.CH_LANE_SECOND c)] else [])

/-- Every channel of a piece has a lane that serves it and no head at its hard limit (R278, R435). -/
def State.mayAdmit (s : State) (cs : List (Nat × Nat)) : Bool :=
  cs.all (fun e => !s.headHard e.1 && (s.chanLanes e.1).any s.laneServes)

/-- Pieces that wait for their first lines are admitted once the first bar's are in the ring, while admission is not paused (R131). -/
def State.admitReady (s : State) : State :=
  let ready := fun (p : Piece) =>
    let first := p.bars.foldl (fun (o : Option Nat) b => match o with
      | none => some b
      | some x => if s.rd (R.TG_DELAY_WHOLE b) < s.rd (R.TG_DELAY_WHOLE x) then some b else some x) none
    first.all (fun b => (p.bands.filter (fun x => x.bars.contains b)).all (fun x =>
      decide (min x.lines (s.rd (R.TG_LEAD_WARN_LINES b)) ≤ x.present)))
  let ns := (s.pieces.filter (fun p => p.stage == .reserved && s.mayAdmit p.chans && ready p)).map (·.num)
  if s.admitPaused ∨ ns.isEmpty then s else s.admitAs ns

/-- A line is written into its slot; at the end of its segment the checks of R160 follow. -/
def State.putLine (s : State) (n : Nat) (j : LineJob) (c : Container) (g : Seg) (data : List Byte) : State :=
  let keep := s.ring.filter (fun r => !(r.piece == j.piece.num && r.entry == j.band.entry && r.line == j.line))
  let s1 := { s with ring := keep ++ [(⟨j.piece.num, j.band.entry, j.line, data, false⟩ : RingLine)] }
  let s2 := (s1.inc (R.DX_LINES_COUNT n)).onBand j.piece.num j.band.entry (fun b => b.advance j.kind (j.line + 1))
  let last := decide (j.line + 1 = g.till)
  let s3 := { s2 with dx := Sparse.set none s2.dx n (some ⟨j.band.num, j.piece.num, j.band.entry, g.from_, g.till, j.line, last, none⟩) }
  let s4 := if j.line = g.from_ then (s3.wr (R.DX_STATUS_DONE n) 0).wr (R.DX_STATUS_ABORTED n) 0 else s3
  let s5 := if !last then s4.settleBand j.piece.num j.band.entry
    else match (s4.decodeSeg j.band.addr c g).verdict with
      | some k => s4.failSeg n j g k
      | none =>
        (((s4.wr (R.DX_STATUS_DONE n) 1).inc (R.DX_SEGS_COUNT n)).settleBand j.piece.num j.band.entry).moveDue n
  s5.admitReady

/-- STATE of an engine between line jobs: DRAINED, DECODING while it has a line job, else IDLE (R158, R163). -/
def State.dxRest (s : State) (n : Nat) : State :=
  if s.flag (R.DX_CTRL_DRAIN n) ∧ s.engineBands n = 0 then s.wr (R.DX_STATUS_STATE n) 3
  else s.wr (R.DX_STATUS_STATE n) (if (s.nextJob n).isSome then 1 else 0)

/-- The engine's line job stalled by P1 (R159). -/
def State.stalledJob (s : State) (n : Nat) : Option (DxJob × List Byte) :=
  match Sparse.get none s.dx n with
  | some j => j.stalled.map (fun d => (j, d))
  | none => none

/-- One line job of an engine (R158 to R165). Keys of the errors: band number, plus 512 for the engine's own context store. -/
def State.lineJob (s : State) (n : Nat) (stalled : Bool) (evs : List MemEv) : State :=
  if (s.stalledJob n).isSome then s
  else match s.nextJob n with
    | none => s.dxRest n
    | some j =>
      let s1 := s.memErrors evs
      let c := s1.container j.band.addr j.band.len
      match c.seg j.line with
      | none => s
      | some g =>
        let d := s1.decodeSeg j.band.addr c g
        let k := j.line - g.from_
        let lost := badOf evs .bandStream
        if !lost.isEmpty then
          let t := (s1.failSeg n j g 0x0B).admitReady
          (if lost.any (fun e => decide (512 ≤ e.key)) then t.leaveAll n else t).dxRest n
        else if d.out.length < (k + 1) * c.width then ((s1.failSeg n j g (d.cause.getD 8)).admitReady).dxRest n
        else
          let data := (d.out.drop (k * c.width)).take c.width
          if stalled then
            let x : DxJob := ⟨j.band.num, j.piece.num, j.band.entry, g.from_, g.till, j.line, false, some data⟩
            State.wr { s1 with dx := Sparse.set none s1.dx n (some x) } (R.DX_STATUS_STATE n) 2
          else (s1.putLine n j c g data).dxRest n

/-- A stalled engine goes on (R159). -/
def State.dxResume (s : State) (n : Nat) : State :=
  match s.stalledJob n with
  | none => s
  | some (x, data) =>
    let s0 := { s with dx := Sparse.set none s.dx n (some { x with stalled := none }) }
    match (s0.piece x.piece), s0.band x.piece x.entry with
    | some p, some b =>
      let c := s0.container b.addr b.len
      match b.jobOf n, c.seg x.line with
      | some (l, k), some g => if l = x.line then (s0.putLine n ⟨p, b, l, k⟩ c g data).dxRest n else (s0.inc R.DX_DISCARD_COUNT).dxRest n
      | _, _ => (s0.inc R.DX_DISCARD_COUNT).dxRest n
    | _, _ => (s0.inc R.DX_DISCARD_COUNT).dxRest n

/-- The abort of an engine's segment; false: nothing to abort (R166). -/
def State.dxAbort (s : State) (n : Nat) : State × Bool :=
  match Sparse.get none s.dx n with
  | none => (s, false)
  | some x =>
    if x.checked then (s, false)
    else
      let s1 := if x.stalled.isSome then s.inc R.DX_DISCARD_COUNT else s
      let s2 := { s1 with dx := Sparse.set none s1.dx n (some { x with checked := true, stalled := none }) }
      let s3 := (s2.wr (R.DX_STATUS_DONE n) 0).wr (R.DX_STATUS_ABORTED n) 1
      match s3.band x.piece x.entry with
      | none => (s3.dxRest n, true)
      | some b =>
        let k := if b.redo < b.redoEnd then JobKind.redo else if b.migrating ∧ b.engine = n then .moved else .main
        let next := match k with
          | .main => b.next
          | .moved => b.next2
          | .redo => b.redo
        (((s3.spoil x.piece x.entry k next x.till).settleBand x.piece x.entry).dxRest n, true)

/-- A line lost to a replayed repeat is decoded again with its segment (R421). -/
def State.redecode (s : State) (num entry line : Nat) : State :=
  match s.band num entry with
  | none => s
  | some b =>
    let s1 := { s with ring := s.ring.map (fun (r : RingLine) =>
      if r.piece = num ∧ r.entry = entry ∧ r.line = line then { r with bad := true } else r) }
    match (s1.container b.addr b.len).seg line with
    | none => s1
    | some g =>
      if b.redo < b.redoEnd then s1
      else if b.live then s1.onBand num entry (fun x => { x with redo := g.from_, redoEnd := g.till })
      else match s1.freeNum, s1.moveTarget 16 0 with
        | some k, some e =>
          let b1 := { b with num := k, engine := e, bank := (s1.freeBank e).getD 0, live := true, redo := g.from_, redoEnd := g.till }
          ((s1.onBand num entry (fun _ => b1)).setOwner b1).loads
        | _, _ => s1

/-! ## Evidence (R332) -/

/-- The evidence that goes with a buffer descriptor. -/
def State.evdOf (s : State) (a : Nat) : Option Evd := s.evd.find? (fun e => e.addr == a)

/-- One evidence datagram: its header and its chunk. -/
def evdChunk (e : Evd) (job off h flags : Nat) (bs : List Byte) : List Byte :=
  leBytes 2 0x4B45 ++ leBytes 1 1 ++ leBytes 1 e.cp ++ leBytes 4 job ++ leBytes 4 e.piece ++ leBytes 4 off ++ leBytes 2 e.x0 ++
    leBytes 2 e.w ++ leBytes 2 h ++ leBytes 1 e.planes ++ leBytes 1 flags ++ leBytes 8 (unsigned 64 e.web) ++ bs

/-- Sends a marked buffer as datagrams; `again` sets RESENT. -/
def State.sendBuffer (s : State) (a : Nat) (e : Evd) (again : Bool) : State :=
  let d := s.hbmRead a 32
  let used := le d 0x10 4
  let chunk := max 1 (s.rd R.EVD_CFG_CHUNK)
  let bs := s.hbmRead (le d 8 8) used
  let n := max 1 ((used + chunk - 1) / chunk)
  (List.range n).foldl (fun (t : State) i =>
    let last := bit e.flags 0 && i + 1 == n
    let flags := (e.flags / 2 * 2) + b2n last + (if again then 8 else 0)
    let h := if last then e.h / 65536 else e.h % 65536
    let t1 := t.send ⟨t.rd R.EVD_CFG_NP, BitVec.ofNat 32 (t.rd R.EVD_IP_IP), 41003, t.rd R.EVD_CFG_PORT,
      evdChunk e (le d 0x14 4) (e.off + i * chunk) h flags ((bs.drop (i * chunk)).take chunk)⟩
    if again then t1.inc R.EVD_RESENT_COUNT else t1.inc R.EVD_SENT_COUNT) s

/-- A buffer has been marked: it is sent and marked SENT when an evidence destination is set. `h` holds lines planned, and
lines taken × 65536. -/
def State.evidence (s : State) (e : Evd) : State :=
  let s1 := { s with evd := (e :: s.evd.filter (fun x => x.addr != e.addr)) }
  if s1.rd R.EVD_IP_IP = 0 then s1 else (s1.sendBuffer e.addr e false).hbmWrite (e.addr + 3) [5]

/-- A resend asked for (R332). -/
def State.evdResend (s : State) (a : Nat) : State :=
  match s.evdOf a with
  | some e => if s.rd R.EVD_IP_IP ≠ 0 ∧ le (s.hbmRead (a + 3) 1) 0 1 = 5 then s.sendBuffer a e true else s
  | none => s

/-! ## Compressors (R167 to R173) -/

/-- One compressor. -/
def State.cxu (s : State) (n : Nat) : Cx := Sparse.get {} s.cx n

/-- Changes one compressor. -/
def State.onCx (s : State) (n : Nat) (f : Cx → Cx) : State := { s with cx := Sparse.upd {} s.cx n f }

/-- A buffer descriptor an engine may use (R169, R171). -/
def State.cxGood (s : State) (a : Nat) : Bool :=
  let d := s.hbmRead a 32
  let size := le d 4 4
  s.inJob a 32 && le d 0 2 == 0x4B43 && le d 3 1 == 0 && decide (256 ≤ size ∧ size ≤ 0x1000000) && size % 16 == 0 &&
    le d 8 8 % 16 == 0 && decide (le d 8 8 < 2 ^ 40) && s.inJob (le d 8 8) size

/-- The next buffer: none at the tail, else its descriptor. -/
def State.cxNext (s : State) (n : Nat) : Option Nat :=
  match (s.cxu n).last with
  | none => some (32 * s.rd (R.CX_HEAD_LO_ADDR_LO n) + 2 ^ 32 * s.rd (R.CX_HEAD_HI_ADDR_HI n))
  | some l =>
    let k := le (s.hbmRead (l + 0x18) 8) 0 8
    if k % 2 = 1 then none else some (k / 32 * 32 % 2 ^ 40)

/-- OUT_WAIT (R171): `w` is 1 for no buffer, 2 for a bad descriptor. -/
def State.outWait (s : State) (n w : Nat) : State :=
  let was := (s.cxu n).wait
  let s1 := ((s.onCx n (fun c => { c with wait := w })).wr (R.CX_STATUS_STATE n) 2).wrB (R.CX_STATUS_BAD_DESC n) (w == 2)
  if was = w then s1
  else (if was = 0 then s1.inc (R.CX_STALLS_COUNT n) else s1).raise Ev.CX_STALL n (w - 1)

/-- A descriptor becomes the one in use. -/
def State.cxUse (s : State) (n a : Nat) : State :=
  (((((s.onCx n (fun c => { c with last := some a, wait := 0 })).wr (R.CX_STATUS_STATE n) 1).wr (R.CX_STATUS_BAD_DESC n) 0).wr
    (R.CX_CUR_LO_ADDR_LO n) (a / 32)).wr (R.CX_CUR_HI_ADDR_HI n) (a / 2 ^ 32))

/-- What of a descriptor says where evidence goes. -/
def Crop.evd (c : Crop) (cp a off flags : Nat) : Evd :=
  ⟨a, cp, c.piece, off, c.x0, c.w, c.planned % 65536 + 65536 * c.lines, c.planes, flags, c.web⟩

/-- Writes a buffer: data first, then USED and JOB, then STATUS; then evidence (R169, R170, R332). -/
def State.markBuf (s : State) (n a status : Nat) (crop : Crop) (bs : List Byte) : State :=
  let x := s.cxu n
  let d := s.hbmRead a 32
  let job := s.rd (R.CX_JOB_JOB n) + 1
  let s1 := ((s.hbmWrite (le d 8 8) bs).hbmWrite (a + 0x10) (leBytes 4 bs.length ++ leBytes 4 job)).hbmWrite (a + 3) (leBytes 1 status)
  let out := x.outBytes + bs.length
  let s2 := (s1.onCx n (fun c => { c with off := c.off + bs.length, outBytes := out, buf := none })).wr (R.CX_OUT_KIB_COUNT n) (out / 1024)
  let flags := (if status = 1 then 0 else 1) + (if status = 3 then 2 else 0) + (if status = 4 then 4 else 0)
  s2.evidence (crop.evd (s.rd (R.CX_CFG_SRC n)) a x.off flags)

/-- A job has ended or been aborted (R172, R173). -/
def State.cxEnd (s : State) (n : Nat) (crop : Crop) (aborted : Bool) : State :=
  let inn := (s.cxu n).inBytes + crop.data.length
  let s1 := s.onCx n (fun c => { c with cur := none, left := [], off := 0, buf := none, wait := 0, inBytes := inn })
  (((((((s1.inc (R.CX_JOB_JOB n)).wr (R.CX_JOB_CRC_CRC n) (crc32 crop.data)).wr (R.CX_STATUS_STATE n) 0).wrB (R.CX_STATUS_DONE n) (!aborted)).wrB
    (R.CX_STATUS_ABORTED n) aborted).wrB (R.CX_STATUS_TRUNC n) (crop.cut && !aborted)).wr (R.CX_STATUS_BAD_DESC n) 0).wr
    (R.CX_IN_KIB_COUNT n) (inn / 1024)

/-- Fills buffers with what a finished job still has to write (R170, R171). -/
def State.cxFill (n : Nat) (crop : Crop) (bad : Bool) : Nat → State → State
  | 0, s => s
  | k + 1, s =>
    let x := s.cxu n
    let go := fun (t : State) (a : Nat) =>
      let size := le (t.hbmRead (a + 4) 4) 0 4
      let rest := x.left.drop size
      if x.left.length ≤ size then
        (t.markBuf n a (if crop.cut then 3 else 2) crop x.left).cxEnd n crop false
      else
        State.cxFill n crop bad k ((t.markBuf n a 1 crop (x.left.take size)).onCx n (fun c => { c with left := rest }))
    match x.buf with
    | some a => go s a
    | none =>
      match s.cxNext n with
      | none => s.outWait n 1
      | some a => if bad ∨ !s.cxGood a then s.outWait n 2 else go (s.cxUse n a) a

/-- Opens the buffer of a job whose crop is still arriving. -/
def State.cxOpen (s : State) (n : Nat) (bad : Bool) : State :=
  match s.cxNext n with
  | none => s.outWait n 1
  | some a => if bad ∨ !s.cxGood a then s.outWait n 2 else (s.cxUse n a).onCx n (fun c => { c with buf := some a })

/-- The settings a job runs with; bit 31 says that its input was cut. -/
def State.cxSettings (s : State) (n : Nat) (crop : Crop) : Word :=
  s.word (R.CX_CFG n) ||| (if crop.cut then 0x80000000 else 0)

/-- The job of a complete crop writes its output (R167, R168). -/
def State.cxFinish (s : State) (n : Nat) (crop : Crop) (bad : Bool) : State :=
  let out := compressedStream (s.cxSettings n crop) crop.data
  State.cxFill n crop bad (out.length / 256 + 2)
    (s.onCx n (fun c => { c with left := if c.left.isEmpty then out else c.left }))

/-- The crop a pipeline is still taking. -/
def State.cropNow (s : State) (n : Nat) : Option Crop := (Sparse.get {} s.cams (s.rd (R.CX_CFG_SRC n))).crop

/-- A compressor takes up a crop, or ends the job of a crop that is complete (R167). -/
def State.compress (s : State) (n : Nat) (evs : List MemEv) : State :=
  let x := s.cxu n
  let s1 := s.memErrors evs
  let bad := !(badOf evs .cxDescriptor).isEmpty
  if x.wait ≠ 0 then s
  else match x.cur with
    | some c => if c.whole then s1.cxFinish n c bad else s
    | none =>
      if !s.flag (R.CX_CFG_ENABLE n) then s
      else match x.crops, s.cropNow n with
        | c :: cs, _ => (s1.onCx n (fun y => { y with crops := cs, cur := some c })).cxFinish n c bad
        | [], some c => (s1.onCx n (fun y => { y with cur := some c })).cxOpen n bad
        | [], none => s

/-- A crop is complete: the job that took it up goes on with all of it, or it waits (R331, R336). -/
def State.cropDone (s : State) (cp : Nat) (crop : Crop) : State :=
  (List.range 4).foldl (fun (t : State) n =>
    if t.rd (R.CX_CFG_SRC n) = cp ∧ t.flag (R.CX_CFG_ENABLE n) then
      t.onCx n (fun x => match x.cur with
        | some c => if c.piece = crop.piece ∧ !c.whole then { x with cur := some { crop with whole := true } }
          else { x with crops := x.crops ++ [{ crop with whole := true }] }
        | none => { x with crops := x.crops ++ [{ crop with whole := true }] })
    else t) s

/-- A doorbell (R144, R171). -/
def State.cxRing (s : State) (n : Nat) : State :=
  let x := s.cxu n
  if x.wait = 0 then s.inc (R.CX_DB_IGNORED_COUNT n)
  else if x.wait = 1 ∧ (s.cxNext n).isNone then s.inc (R.CX_DB_IGNORED_COUNT n)
  else match x.cur with
    | none => s
    | some c => if c.whole then s.cxFinish n c false else s.cxOpen n false

/-- The abort of a compressor's job; false: none in progress (R173). How much of the stream the open buffer holds is free. -/
def State.cxAbort (s : State) (n : Nat) : State × Bool :=
  let x := s.cxu n
  match x.cur with
  | none => (s, false)
  | some c =>
    let taken := if c.whole then c else (s.cropNow n).getD c
    let s1 := match x.buf with
      | none => s
      | some a =>
        let out := compressedStream (s.cxSettings n taken) taken.data
        let used := s.draw 9 % (min out.length (le (s.hbmRead (a + 4) 4) 0 4) + 1)
        s.drawn.markBuf n a 4 taken (out.take used)
    let s2 := if c.whole then s1
      else { s1 with cams := Sparse.upd {} s1.cams (s1.rd (R.CX_CFG_SRC n)) (fun m => { m with crop := none }) }
    (s2.cxEnd n taken true, true)

end Sys2Proof.Machine
end

