-- ==== Sys2Proof/Machine/FormOps.lean ====
section
/-! DEFINITION. The line period and the fire instants (R208 to R211), and a nozzle's code: contone, overlay, Ironing, tone,
screening, masks and Darning (R224 to R239, R306 to R309). -/

namespace Sys2Proof.Machine

/-! ## The line period (R208) -/

/-- Direction changes of the encoder that feeds a root, which never fall back. -/
def State.rootDirs (s : State) (root : Nat) : Nat := if root < 16 then s.rd (R.ENC_REVERSALS_COUNT (s.lgEnc root)) else 0

/-- LP in 1/256 tick where the period is not complete; none: no line period (R208). -/
def State.lpInstead (s : State) (b : Nat) : Option Int :=
  let root := s.root false b
  let div := s.effDiv false b
  if root < 16 then
    let n := s.lgEnc root
    let v := s.rd (R.ENC_SPEED_SPEED n) * s.lgInc root
    if s.flag (R.ENC_STATUS_SPEED_VALID n) ∧ v ≠ 0 then some (divOpen 50 (256 * 3200000000 * div * 2 ^ 32) v) else none
  else if root = 16 then none
  else some (s.rd (R.TG_PERIOD_PERIOD (root - 32)) * div)

/-- The period from the last boundary to this one is complete (R208). -/
def State.periodWhole (s : State) (b : Nat) (tr : Trigger) : Bool :=
  let g := s.tg b
  let root := s.root false b
  decide (32 ≤ root) || (g.bound.isSome && g.lastRoot == root && decide (tr.t ≤ g.lastTick + usTicks (s.rd R.LP_GAP_US)) &&
    g.lastDirs == s.rootDirs root)

/-- The boundary of the trigger's line and the LP in use, both in 1/256 tick (R208). -/
def State.period (s : State) (b : Nat) (tr : Trigger) : Int × Option Int :=
  let root := s.root false b
  let back := fun (lp : Int) => 256 * (tr.t : Int) - divOpen 51 (tr.num * lp) tr.den
  if 32 ≤ root then
    let lp := s.lpInstead b
    (back (lp.getD 0), lp)
  else if s.periodWhole b tr then
    let old : Int := s.rd (R.TG_LP_LP b)
    let bd := back old
    (bd, some (bd - (s.tg b).bound.getD 0))
  else
    let lp := s.lpInstead b
    (back (lp.getD 0), lp)

/-- The generator takes the period of a trigger: LP, LP_VALID and OVERSPEED (R208, R216). -/
def State.takePeriod (s : State) (b : Nat) (tr : Trigger) : State :=
  let p := s.period b tr
  let lp := (p.2.getD 0).toNat
  let fast := p.2.isSome && decide (lp * s.rd (R.TG_MAX_RATE_RATE b) < 51200000000)
  let s1 := ((s.wr (R.TG_LP_LP b) lp).wrB (R.TG_STATUS_LP_VALID b) (s.periodWhole b tr)).wrB (R.TG_STATUS_OVERSPEED b) fast
  let s2 := if fast then s1.inc (R.TG_OVERSPEED_COUNT b) else s1
  s2.onTg b (fun g => { g with
    bound := some p.1, lastTick := tr.t, lastRoot := s.root false b, lastDirs := s.rootDirs (s.root false b), trig := none })

/-- The fire instant of R209 in whole ticks, halves up; `reg` is REG, 0 on the park clock (R286). -/
def fireAt (bound lp phi reg fine : Int) : Int :=
  let den := 4096 * 256
  let num := 4096 * bound + (4096 + phi + reg + 4 * fine) * lp
  (2 * num + den) / (2 * den)

/-- The fire instant of a channel, kept 1,000 ticks from the last (R211), and whether it was moved. -/
def State.fireOf (s : State) (b c : Nat) (bound lp reg : Int) : Nat × Bool :=
  let f := (fireAt bound lp (s.rd (R.TG_DELAY_PHI b)) reg (s.rd (R.CH_FINE_FINE c))).toNat
  match Sparse.find (s.tg b).fLast c with
  | some l => if f < l + 1000 then (l + 1000, true) else (f, false)
  | none => (f, false)

/-! ## Piece lines of rows (R224, R225) -/

/-- The delay of a row of a channel. -/
def State.rowDelay (s : State) (c r : Nat) : Nat :=
  if r % 2 = 0 then s.cf (R.CH_ROWD_D0 c (r / 2)) else s.cf (R.CH_ROWD_D1 c (r / 2))

/-- The rows of a channel. -/
def State.rows (s : State) (c : Nat) : Nat := s.cf (R.CH_CFG_ROWS c) + 1

/-- The line of a piece that a row of delay `d` forms at line count `l` of a bar (R224); positions at or above a stop are cut. -/
def State.lineOf (s : State) (p : Piece) (b l d : Nat) : Option Nat :=
  match p.start with
  | none => none
  | some st =>
    let z := st + s.rd (R.TG_DELAY_WHOLE b) + d
    if l < z then none
    else
      let j := l - z
      if (match p.total with
          | some n => decide (j < n)
          | none => true) && (match p.cut with
          | some c => decide (st + j < c)
          | none => true) then some j else none

/-- The band-table entry a channel prints in a piece. -/
def Piece.entryOf (p : Piece) (c : Nat) : Option Nat := (p.chans.find? (fun e => e.1 == c)).map (·.2)

/-- The piece and its line that a row of a channel forms at a line count (R224). -/
def State.rowUse (s : State) (b l c r : Nat) : Option (Piece × Nat) :=
  (s.pieces.find? (fun p => p.inBar b && (p.entryOf c).isSome && (s.lineOf p b l (s.rowDelay c r)).isSome)).bind
    (fun p => (s.lineOf p b l (s.rowDelay c r)).map (fun j => (p, j)))

/-! ## Contone and live fields (R226, R239) -/

/-- The line of a band stream in the ring: its bytes and whether it is bad; none: not there (R13, R161). -/
def State.ringLine (s : State) (p : Piece) (entry line : Nat) : Option (List Byte × Bool) :=
  if (p.bands.find? (fun x => x.entry == entry)).any (fun x => x.bad.any (fun r => decide (r.1 ≤ line ∧ line < r.2))) then some ([], true)
  else (s.ring.find? (fun r => r.piece == p.num && r.entry == entry && r.line == line)).map (fun r => (r.data, r.bad))

/-- The fields of the print a line belongs to. -/
def Piece.fieldsAt (p : Piece) (j : Nat) : List FieldRun :=
  ((p.prints.find? (fun r => r.rep == j / max 1 p.lines)).map (·.fields)).getD []

/-- One field laid over a contone value (R239). -/
def FieldRun.over_ (f : FieldRun) (entry line : Nat) (x : Int) (v : Nat) : Nat :=
  if f.band = entry ∧ f.line ≤ line ∧ line < f.line + f.h ∧ (f.x : Int) ≤ x ∧ x < (f.x + f.w : Nat) then
    if bit (f.rows.getD (line - f.line) 0) (x - f.x).toNat then f.ink else if f.opaq then f.paper else v
  else v

/-- The contone of a nozzle after the overlay. -/
def contone (data : List Byte) (fs : List FieldRun) (entry line : Nat) (x : Int) : Nat :=
  let v := if x < 0 ∨ data.length ≤ x.toNat then 0 else (data.getD x.toNat 0).toNat
  fs.foldl (fun v f => f.over_ entry line x v) v

/-! ## The datapath (R226) -/

/-- Gain and offset of an Ironing word applied to an 8-bit contone (R226, R228). -/
def irons (w v : Nat) : Nat :=
  let e := v * 4 + v / 64
  if e = 0 then 0 else (clampI 0 1023 (((e * bits w 0 8 + 64) / 128 : Nat) + signed 8 (bits w 8 8))).toNat

/-- The thresholds of a cell (R230): `n` of them from a word address. -/
def State.thresholds (s : State) (at_ n : Nat) : List Nat :=
  (List.range n).map (fun i => bits (s.word (at_ + 4 * (i / 3))).toNat (10 * (i % 3)) 10)

/-- The address of a threshold cell (R230). -/
def State.cellAddr (s : State) (a col line : Nat) : Nat :=
  let w := s.rd (R.SCR_CFG_W a) + 1
  let h := s.rd (R.SCR_CFG_H a) + 1
  0x42000000 + 0x100000 * a + (line % h * w + col % w) * (if s.flag (R.SCR_CFG_K7 a) then 12 else 4)

/-- The thresholds a drop depth uses (R230). -/
def depthTests (depth : Nat) : Nat := if depth = 1 then 1 else if depth = 2 then 3 else 7

/-- The largest drop code of a channel. -/
def State.maxCode (s : State) (c : Nat) : Nat := 2 ^ s.cf (R.CH_CFG_DEPTH c) - 1

/-- The word of a mask pattern that holds a bit, and the bit (R232). -/
def patAddr (m x y : Nat) : Nat := 0x41810000 + 0x200 * m + 8 * (y % 64) + (if 32 ≤ x % 64 then 4 else 0)
def State.patBit (s : State) (m x y : Nat) : Bool := (s.word (patAddr m x y)).getLsbD (x % 32)

/-- The seam of a nozzle: seam column, and whether its bit is inverted (R232). -/
def State.seamOf (s : State) (c i : Nat) : Option (Nat × Bool) :=
  let n := s.chWidth c
  let r := s.cf (R.CH_POS_SEAM_R c)
  if i < s.cf (R.CH_POS_SEAM_L c) then some (i, true)
  else if n ≤ i + r ∧ r ≠ 0 then some (i + r - n, false)
  else none

/-- The seam bit of a nozzle on a piece line (R232). -/
def State.seamBit (s : State) (c i j : Nat) : Bool :=
  match s.seamOf c i with
  | none => true
  | some (k, inv) => xor inv (s.patBit (s.cf (R.CH_CFG_SEAMPAT c)) k j)

/-- The row bit of a bar column on a piece line (R233). -/
def State.rowBit (s : State) (b col j : Nat) : Bool :=
  !s.flag (R.BAR_FORM_RM_EN b) || (s.patBit (s.rd (R.BAR_FORM_RM_PAT b)) col j == s.flag (R.BAR_FORM_RM_PHASE b))

/-- The addresses a nozzle's steps read, for R237: Ironing, tone, threshold words and masks. -/
def State.stepAddrs (s : State) (q : Piece) (b c i j v : Nat) : List Nat :=
  let ia := 0x41000000 + 4 * (s.nbase c + i)
  let d := irons (s.word ia).toNat v
  let col := s.cf (R.CH_POS_XPOS c) + i
  let ta := 0x41800000 + 0x1000 * q.tone b + 4 * d
  let n := depthTests (s.cf (R.CH_CFG_DEPTH c))
  [ia, ta] ++ (if d = 0 then [] else (List.range ((n + 2) / 3)).map (fun w => s.cellAddr (q.screen b) col j + 4 * w)) ++
    (match s.seamOf c i with
      | some (k, _) => [patAddr (s.cf (R.CH_CFG_SEAMPAT c)) k j]
      | none => []) ++
    (if s.flag (R.BAR_FORM_RM_EN b) then [patAddr (s.rd (R.BAR_FORM_RM_PAT b)) col j] else [])

/-- The screened code of a nozzle for a contone value (R226). -/
def State.screen (s : State) (q : Piece) (b c nb i j v : Nat) : Nat :=
  let d := irons (s.word (0x41000000 + 4 * (nb + i))).toNat v
  if d = 0 then 0
  else
    let t := (s.word (0x41800000 + 0x1000 * q.tone b + 4 * d)).toNat % 1024
    let cell := s.cellAddr (q.screen b) (s.cf (R.CH_POS_XPOS c) + i) j
    ((s.thresholds cell (depthTests (s.cf (R.CH_CFG_DEPTH c)))).filter (fun x => decide (x ≤ t))).length

/-- The mask result of a nozzle (R226). -/
def State.masked (s : State) (b c i j : Nat) : Bool := s.seamBit c i j && s.rowBit b (s.cf (R.CH_POS_XPOS c) + i) j

/-! ## Darning (R306 to R309) -/

/-- A nozzle's place: global index, channel, index in it, bar, bar column, place across the web, row delay (R306). -/
structure Noz where
  n : Nat
  c : Nat
  i : Nat
  bar : Nat
  col : Nat
  place : Int
  delay : Nat
  deriving DecidableEq, Repr

/-- Where a nozzle of a channel sits. -/
def State.nozOf (s : State) (c i : Nat) : Noz :=
  let b := s.chBar c
  let col := s.cf (R.CH_POS_XPOS c) + i
  ⟨s.nbase c + i, c, i, b, col, (col : Int) - s.rdI (R.BAR_LAT_LAT b), s.rowDelay c (i % s.rows c)⟩

/-- Where a nozzle of a global index sits. -/
def State.noz (s : State) (n : Nat) : Option Noz := (s.nozzleAt n).map (fun e => s.nozOf e.1 e.2)

/-- The nozzles of a bar at a bar column. -/
def State.nozzlesAt (s : State) (b : Nat) (col : Int) : List Noz :=
  (s.barChannels b).filterMap (fun c =>
    let x : Int := s.cf (R.CH_POS_XPOS c)
    if x ≤ col ∧ col < x + s.chWidth c then some (s.nozOf c (col - x).toNat) else none)

/-- The list change in force at the form point of a row's piece line in a bar: the present one where it is still to come (R307). -/
def State.changeOf (s : State) (q : Piece) (j : Nat) (m : Noz) : Nat :=
  let l := q.start.getD 0 + s.rd (R.TG_DELAY_WHOLE m.bar) + j + m.delay
  if l ≤ (s.tg m.bar).lastLine then (((s.rinse m.bar).forms.find? (fun e => decide (e.1 ≤ l))).map (·.2)).getD 0 else s.darn.change

/-- The earlier of the list changes of two nozzles' form points. -/
def State.pairChange (s : State) (q : Piece) (j : Nat) (x y : Noz) : Nat := min (s.changeOf q j x) (s.changeOf q j y)

/-- A nozzle may receive pixels of a piece: unlisted, unmuted, and printing the piece (R306). -/
def State.helps (s : State) (q : Piece) (change : Nat) (m : Noz) : Bool :=
  !s.listedAt change m.n && !s.ctrl m.c ctrlMute && (q.entryOf m.c).isSome

/-- The first of some nozzles whose seam bit is 1, else the first. -/
def State.seamFirst (s : State) (j : Nat) (l : List Noz) : Option Noz :=
  match l.find? (fun m => s.seamBit m.c m.i j) with
  | some m => some m
  | none => l.head?

/-- The nozzles of the partner bar at the same place, with the same row delay and the same band (R306). -/
def State.partners (s : State) (q : Piece) (n : Noz) : List Noz :=
  if s.cf (R.BAR_DARN_PARTNER_EN n.bar) = 1 then
    let b := s.cf (R.BAR_DARN_PARTNER n.bar)
    (s.nozzlesAt b (n.place + s.rdI (R.BAR_LAT_LAT b))).filter (fun m => m.delay == n.delay && q.entryOf m.c == q.entryOf n.c && bit q.barMask b)
  else []

/-- The nozzles of the companion bar at the same place (R306). -/
def State.companions (s : State) (q : Piece) (n : Noz) : List Noz :=
  if s.flag (R.BAR_DARN_COMP_EN n.bar) then
    let b := s.cf (R.BAR_DARN_COMP n.bar)
    (s.nozzlesAt b (n.place + s.rdI (R.BAR_LAT_LAT b))).filter (fun _ => bit q.barMask b)
  else []

/-- The neighbour of a nozzle at a bar column (R308). -/
def State.neighbour (s : State) (q : Piece) (j change : Nat) (n : Noz) (step : Int) : Option Noz :=
  let at_ := fun (d : Int) => (s.nozzlesAt n.bar ((n.col : Int) + d)).find? (fun m =>
    m.delay == n.delay && s.helps q change m && s.seamBit m.c m.i j)
  match at_ step with
  | some m => some m
  | none => at_ (2 * step)

/-- How a nozzle with a pixel to move is darned (R306, R307). -/
inductive DarnHow where
  | keep | partner (m : Noz) | seam (m : Noz) | neighbours (left right : Option Noz) | companion (m : Noz) | nothing
  deriving DecidableEq, Repr

/-- The choice of R306 for nozzle `n` on line `j` of piece `q`. -/
def State.darnHow (s : State) (q : Piece) (j : Nat) (n : Noz) : DarnHow :=
  let cur := s.changeOf q j n
  let now := s.listedAt cur n.n
  let ps := (s.partners q n).filter (fun m => s.helps q (s.pairChange q j n m) m)
  match s.seamFirst j ps with
  | some p => if s.listedAt (s.pairChange q j n p) n.n then .partner p else .keep
  | none =>
    let seam := (s.nozzlesAt n.bar n.col).find? (fun m => m.n != n.n && m.delay == n.delay && s.helps q cur m)
    let l := s.neighbour q j cur n (-1)
    let r := s.neighbour q j cur n 1
    match now, seam with
    | true, some m => .seam m
    | _, _ =>
      if now ∧ s.flag (R.BAR_DARN_NEIGH_EN n.bar) ∧ (l.isSome ∨ r.isSome) then .neighbours l r
      else
        let ms := (s.companions q n).filter (fun m => s.helps q (s.pairChange q j n m) m)
        match s.seamFirst j ms with
        | some m => if s.listedAt (s.pairChange q j n m) n.n then .companion m else .keep
        | none => if now then .nothing else .keep

/-- The screened code and mask result of a nozzle on a piece line; a line not there or bad screens as paper. -/
def State.nozCode (s : State) (q : Piece) (j : Nat) (m : Noz) : Nat × Bool :=
  match q.entryOf m.c with
  | none => (0, false)
  | some e =>
    let data := ((s.ringLine q e (j % max 1 q.lines)).getD ([], false)).1
    let x := (m.i : Int) - (Sparse.get 0 q.lats m.bar)
    (s.screen q m.bar m.c (s.nbase m.c) m.i j (contone data (q.fieldsAt j) e (j % max 1 q.lines) x), s.masked m.bar m.c m.i j)

/-- The codes changed by Darning in a bar line, newest first, and the state. -/
abbrev DarnAcc := State × List (Nat × Nat)

/-- The final code of a nozzle so far. -/
def finalOf (a : DarnAcc) (q : Piece) (j : Nat) (m : Noz) : Nat :=
  match a.2.find? (fun e => e.1 == m.n) with
  | some e => e.2
  | none => let c := a.1.nozCode q j m
            if c.2 then c.1 else 0

/-- A code is changed. -/
def DarnAcc.put (a : DarnAcc) (m v : Nat) : DarnAcc := (a.1, (m, v) :: a.2)

/-- The method of a listed nozzle on its last line (R299). -/
def DarnAcc.method (a : DarnAcc) (n v : Nat) : DarnAcc := (a.1.onMend n (fun m => { m with method := v }), a.2)

/-- Code moves to a neighbour in eighths (R308). -/
def darnNeighbours (a : DarnAcc) (q : Piece) (j k : Nat) (n : Noz) (l r : Option Noz) : DarnAcc :=
  let side := match l, r with
    | some x, some y =>
      let u := finalOf a q j x
      let v := finalOf a q j y
      if u < v then some x else if v < u then some y else if j % 2 = 0 then some x else some y
    | some x, none => some x
    | none, o => o
  match side with
  | none => a
  | some m =>
    let e := Sparse.get 0 a.1.darn.carry n.n + k * a.1.rd (R.BAR_DARN_NGAIN n.bar)
    let f := finalOf a q j m
    let add := min (e / 8) (a.1.maxCode m.c - f)
    let b := (a.put m.n (f + add)).put n.n 0
    (b.1.onDarn (fun d => { d with carry := Sparse.set 0 d.carry n.n (min (e - 8 * add) (8 * a.1.maxCode n.c)) }), b.2)

/-- No method serves a listed nozzle (R309). -/
def State.undarned (s : State) (n : Nat) : State :=
  let s1 := s.inc R.MEND_UNDARNED_COUNT
  match s1.mend n with
  | none => s1
  | some m => if m.told then s1 else (s1.onMend n (fun m => { m with told := true })).raise Ev.NOT_DARNABLE n

/-- A listed nozzle of the bar itself (R306). -/
def darnOwn (a : DarnAcc) (q : Piece) (j : Nat) (n : Noz) : DarnAcc :=
  let s := a.1
  let kc := s.nozCode q j n
  if s.ctrl n.c ctrlDarnOff ∨ s.ctrl n.c ctrlMute then a.method n.n 5
  else if !kc.2 ∨ kc.1 = 0 then (s.onDarn (fun d => { d with carry := Sparse.set 0 d.carry n.n 0 }), a.2)
  else match s.darnHow q j n with
    | .keep => a
    | .partner _ => (a.put n.n 0).method n.n 1
    | .seam m => ((a.put m.n (max (finalOf a q j m) kc.1)).put n.n 0).method n.n 2
    | .neighbours l r => (darnNeighbours a q j kc.1 n l r).method n.n 3
    | .companion _ => (a.put n.n 0).method n.n 4
    | .nothing => DarnAcc.method (s.undarned n.n, a.2) n.n 0

/-- A nozzle of another bar that hands its pixel to helper `m` of this bar (R306, R307). -/
def darnFor (a : DarnAcc) (q : Piece) (j : Nat) (n m : Noz) : DarnAcc :=
  let s := a.1
  let kc := s.nozCode q j n
  if s.ctrl n.c ctrlDarnOff ∨ s.ctrl n.c ctrlMute ∨ !kc.2 ∨ kc.1 = 0 then a
  else match s.darnHow q j n with
    | .partner p => if p.n = m.n then a.put m.n (max (finalOf a q j m) kc.1) else a
    | .companion p =>
      if p.n = m.n then
        a.put m.n (min (s.maxCode m.c) (finalOf a q j m + (kc.1 * s.rd (R.BAR_DARN_CGAIN n.bar) + 4) / 8))
      else a
    | _ => a

/-- The nozzles listed now or formerly; a bad byte of the listed map counts its nozzles as listed (R419). -/
def State.listedEver (s : State) : List Noz := ((s.darn.list.map (·.nozzle) ++ s.darn.gone.map (·.nozzle)).eraseDups).filterMap s.noz

/-- One listed nozzle's part in the line of a bar. -/
def darnOne (b l : Nat) (a : DarnAcc) (n : Noz) : DarnAcc :=
  let s := a.1
  if n.bar = b then
    match s.rowUse b l n.c (n.i % s.rows n.c) with
    | some (q, j) => darnOwn a q j n
    | none => a
  else if (s.cf (R.BAR_DARN_PARTNER_EN n.bar) = 1 ∧ s.cf (R.BAR_DARN_PARTNER n.bar) = b) ∨
      (s.flag (R.BAR_DARN_COMP_EN n.bar) ∧ s.cf (R.BAR_DARN_COMP n.bar) = b) then
    (s.nozzlesAt b (n.place + s.rdI (R.BAR_LAT_LAT b))).foldl (fun a m =>
      match s.rowUse b l m.c (m.i % s.rows m.c) with
      | some (q, j) => if (q.entryOf n.c).isSome ∧ bit q.barMask n.bar then darnFor a q j n m else a
      | none => a) a
  else a

/-- The darning step of one line of a bar, in increasing place across the web (R306). -/
def State.darnLine (s : State) (b l : Nat) : DarnAcc :=
  ((s.listedEver).mergeSort (fun x y => decide (x.place ≤ y.place))).foldl (darnOne b l) (s, [])

end Sys2Proof.Machine
end

