-- ==== Sys2Proof/Machine/LineOps.lean ====
section
/-! DEFINITION. One line of a bar: where pieces begin and end in it, its frames and markers, its statistics, and rinse lines
(R18, R22, R23, R209, R215, R224 to R237, R259, R285 to R291). -/

namespace Sys2Proof.Machine

/-! ## Frames (R235, R259) -/

/-- The codes of a channel line packed into bytes (R235). -/
def pack (depth : Nat) (codes : List Nat) : List Byte :=
  leBytes (codes.length * depth / 8) (codes.foldr (fun c v => c + 2 ^ depth * v) 0)

/-- The line frame of a channel (R259). -/
def lineFrame (c lseq b ord depth : Nat) (payload : List Byte) : List Byte :=
  let body := leBytes 2 c ++ leBytes 1 lseq ++ leBytes 1 b ++ leBytes 1 ord ++ leBytes 1 depth ++ leBytes 2 payload.length ++ payload
  body ++ leBytes 4 (crc32 body)

/-- A channel's line on its way to a lane: fire instant, codes, piece. -/
structure OutCh where
  chan : Nat
  fire : Nat
  codes : List Nat
  piece : Nat
  deriving DecidableEq, Repr

/-- The bytes of a channel's line frame (R259). -/
def State.frameBytes (s : State) (c : Nat) : Nat := s.chWidth c * s.cf (R.CH_CFG_DEPTH c) / 8 + 12

/-- The ordinals of the instants of one lane, in order of departure (R212). -/
def instants (l : List OutCh) : List Nat := ((l.map (·.fire)).eraseDups).mergeSort (fun x y => decide (x ≤ y))

/-- The frames of the channels of one lane and their markers (R212, R213, R259). -/
def State.sendOnLane (s : State) (b count lseq lane : Nat) (l : List OutCh) : State × List FlightCh :=
  let fs := instants l
  let made := l.map (fun x =>
    let ord := (fs.findIdx? (fun f => f == x.fire)).getD 0
    let depth := s.cf (R.CH_CFG_DEPTH x.chan)
    (⟨x.chan, lane, ord, x.fire, x.piece, lineFrame x.chan lseq b ord depth (pack depth x.codes)⟩ : FlightCh))
  let s1 := made.foldl (fun (t : State) m => t.emit (.frame lane m.frame)) s
  (s1.planLane lane ((fs.zipIdx).map (fun e =>
    { bar := b, count := count, lseq := lseq, ord := e.2, fire := e.1, sp := s.departRef lane e.1 })), made)

/-- The fire instants of a bar reach the gate that watches it, which keeps those of the last moments (R291). -/
def State.noteFires (s : State) (b : Nat) (fs : List Nat) : State :=
  (List.range 4).foldl (fun (t : State) g =>
    if t.gateServes g b then t.onGate g (fun x => { x with fires := (fs.eraseDups ++ x.fires).filter (fun f => decide (t.time ≤ f + 30000)) })
    else t) s

/-- The line of some channels goes to their lanes and is in flight (R9, R10). -/
def State.sendLine (s : State) (b count lseq lp : Nat) (rinse : Bool) (l : List OutCh) : State :=
  if l.isEmpty then s
  else
    let r := (List.range 16).foldl (fun (a : State × List FlightCh) lane =>
      let on := l.filter (fun x => s.laneOf x.chan == lane)
      if on.isEmpty then a
      else
        let e := a.1.sendOnLane b count lseq lane on
        (e.1, a.2 ++ e.2)) (s, [])
    let s1 := r.1.noteFires b (l.map (·.fire))
    { s1 with flights := s1.flights ++ [{ bar := b, count := count, lseq := lseq, formed := s.time, lp := lp, rinse := rinse,
                                          chans := r.2, pieces := (l.map (·.piece)).eraseDups }] }

/-- The instants of a bar's channels are fixed: the last instant of each, and CLAMPED once for the line (R209, R211). -/
def State.fixInstants (s : State) (b : Nat) (bound lp reg : Int) (cs : List Nat) : State × List (Nat × Nat) :=
  let fs := cs.map (fun c => (c, s.fireOf b c bound lp reg))
  let s1 := s.onTg b (fun g => { g with fLast := fs.foldl (fun m e => Sparse.set 0 m e.1 e.2.1) g.fLast })
  (if fs.any (fun e => e.2.2) then s1.inc (R.TG_CLAMPED_COUNT b) else s1, fs.map (fun e => (e.1, e.2.1)))

/-! ## Pieces in a bar (R22, R23, R206) -/

/-- The pieces that begin in a bar at a line count (R22). -/
def State.beginning (s : State) (b l : Nat) : List Piece :=
  s.pieces.filter (fun p => p.stage == .admitted && bit p.barMask b && !p.begun.contains b && !p.ended.contains b &&
    p.start.any (fun st => decide (st + s.rd (R.TG_DELAY_WHOLE b) ≤ l) && (match p.cut with
      | some c => decide (st < c)
      | none => true)))

/-- A piece begins in a bar (R22, R23, R120, R226, R398). -/
def State.beginPiece (s : State) (b l : Nat) (p : Piece) : State :=
  let g := s.tg b
  let gap := if p.refTg = b ∧ g.gapOpen ∧ p.startRule ≠ 1 then l - g.gapFrom else 0
  let s1 := s.onPiece p.num (fun q => { q with
    begun := q.begun ++ [b]
    lats := Sparse.set 0 q.lats b (s.rdI (R.BAR_LAT_LAT b))
    firstSeq := if q.bars.headD 0 = b then g.lseq else q.firstSeq
    gap := if gap = 0 then q.gap else gap
    flags := if gap = 0 then q.flags else q.flags ||| 8 })
  let s2 := if p.refTg = b then s1.onTg b (fun g => { g with gapOpen := false, endPos := none }) else s1
  (s2.wr (R.BAR_RSTAT_PARKED b) 0).takeBars (2 ^ b)

/-- The piece boundary of a bar: pending mode fields and LAT take effect, pieces begin (R19, R22, R206). -/
def State.boundary (s : State) (b l : Nat) : State :=
  let ps := s.beginning b l
  if ps.isEmpty then s
  else ps.foldl (fun (t : State) p => t.beginPiece b l p) ((s.applyMode b).applyLat b l)

/-- The lines of a piece a bar is to form, its stop position counted; none: endless. -/
def Piece.limit (p : Piece) : Option Nat :=
  match p.total, p.cut with
  | some n, some c => some (min n (c - p.start.getD 0))
  | none, some c => some (c - p.start.getD 0)
  | o, none => o

/-- The largest row delay of the channels a piece uses in a bar. -/
def State.usedDelay (s : State) (p : Piece) (b : Nat) : Nat :=
  maxOf ((p.chans.filter (fun e => s.chBar e.1 == b)).map (fun e => s.chDelay e.1))

/-- The lines formed so far in a bar count up for the pieces in it. -/
def State.countFormed (s : State) (b l : Nat) : State :=
  { s with pieces := s.pieces.map (fun (p : Piece) =>
      if p.inBar b then { p with formed := Sparse.set 0 p.formed b (l + 1 - (p.start.getD 0 + s.rd (R.TG_DELAY_WHOLE b))) } else p) }

/-- The last delay-0 line of a back-to-back piece marks where a gap may open (R23). -/
def State.markEnds (s : State) (b l : Nat) : State :=
  s.pieces.foldl (fun (t : State) p =>
    if p.inBar b ∧ p.refTg = b ∧ p.startRule ≠ 1 ∧ p.cut = none ∧ p.total = some (p.at_ b) then
      t.onTg b (fun g => { g with endPos := some (l + 1) }) else t) s

/-- A gap opens in the reference bar: PIECE_UNDERRUN once (R23). -/
def State.openGap (s : State) (b l : Nat) : State :=
  let g := s.tg b
  match g.endPos with
  | none => s
  | some e =>
    if e ≤ l ∧ !g.gapOpen ∧ !s.pieces.any (fun p => bit p.barMask b && ((p.inBar b && (s.lineOf p b l 0).isSome) ||
        (p.stage == .admitted && !p.begun.contains b))) then
      (s.onTg b (fun g => { g with gapOpen := true, gapFrom := l, endPos := none })).raise Ev.PIECE_UNDERRUN
    else s

/-- The pieces whose last line every row has formed end in the bar; one that has ended in every bar is complete (R21, R139, R225). -/
def State.endPieces (s : State) (b : Nat) : State :=
  let s1 := { s with pieces := s.pieces.map (fun (p : Piece) =>
    if p.inBar b ∧ p.limit.any (fun n => decide (n + s.usedDelay p b ≤ p.at_ b)) then { p with ended := p.ended ++ [b] } else p) }
  (s1.pieces.filter (fun p => p.inBar b == false && p.ended.contains b && p.bars.all (fun x => p.ended.contains x))).foldl
    (fun (t : State) p => t.complete p (if p.limit = p.total then .done else .aborted 0x22)) s1

/-- A slot of the ring stays while a row of a bar that prints the stream may still read it (R13, R16, R17). -/
def State.slotHeld (s : State) (r : RingLine) : Bool :=
  match s.piece r.piece with
  | none => false
  | some p => p.isRepeat || ((p.bands.find? (fun x => x.entry == r.entry)).any (fun x =>
      x.bars.any (fun b => !p.ended.contains b && decide (p.at_ b < r.line + 1 + s.barDelay b))))

/-- Slots no row will read again are free. -/
def State.freeSlots (s : State) : State := { s with ring := s.ring.filter s.slotHeld }

/-! ## Live fields at a form point (R250) -/

/-- Fields whose raster is not there at the form point of their first line fail with LATE, in the first bar that reaches it. -/
def State.lateFields (s : State) (b l : Nat) : State :=
  s.pieces.foldl (fun (t : State) p =>
    match (if p.inBar b then s.lineOf p b l 0 else none) with
    | none => t
    | some j =>
      if p.liveCount = 0 ∨ p.prints.any (fun r => r.rep == j / max 1 p.lines) then t
      else (List.range p.liveCount).foldl (fun (u : State) i =>
        let r := s.fieldRec p i
        if le r 8 4 = j % max 1 p.lines ∧ p.chans.any (fun e => s.chBar e.1 == b && e.2 == le r 4 2) ∧
            p.chans.all (fun e => e.2 != le r 4 2 || s.chBar e.1 == b || decide (p.at_ (s.chBar e.1) ≤ j)) then u.fieldFail p.num 4 i else u) t) s

/-! ## The errors of a form point's reads (R237, R419) -/

/-- A raster could not be read at a form point: the field fails, and its raster reads zero from that line on (R250). -/
def State.deadField (s : State) (b l num ord : Nat) : State :=
  let kill := fun (j : Nat) (f : FieldRun) =>
    if f.index = ord then { f with
      rows := (f.rows.zipIdx).map (fun e => if j - f.line ≤ e.2 then 0 else e.1)
      failed := if f.failed = 0 then 7 else f.failed
      deadFrom := some (j - f.line) } else f
  (s.onPiece num (fun p =>
    let j := l - s.rd (R.TG_DELAY_WHOLE b) - p.start.getD 0
    let n := max 1 p.lines
    { p with prints := p.prints.map (fun (r : Print) =>
      if r.rep = j / n then { r with fields := r.fields.map (kill (j % n)) } else r) })).fieldFail num 7 ord

/-- What uncorrectable reads of a form point change beside its codes: FORM_TBL_ERR, mending entries rebuilt, history rows lost, live
fields failed, and BAND_BAD for a slot both sequencers read. Keys: a table address; a nozzle; bar + 16 × row; field + 64 × piece;
half + 128 × channel. -/
def State.formErrors (s : State) (b l : Nat) (evs : List MemEv) : State :=
  let s1 := (s.memErrors evs).add R.FORM_TBL_ERR_COUNT (badOf evs .table).length
  let s2 := (badOf evs .mendEntry).foldl (fun (t : State) e => t.onMend e.key (fun m => { m with listed := 0, passes := 0 })) s1
  let s3 := (badOf evs .historyRow).foldl (fun (t : State) e =>
    { t with hist := t.hist.filter (fun r => !(r.bar == e.key % 16 && r.row == e.key / 16)) }) s2
  (badOf evs .liveField).foldl (fun (t : State) e => t.deadField b l (e.key / 64) (e.key % 64)) s3

/-- The nozzles of a bad byte of the listed map count as listed for the line (R419). -/
def State.withListed (s : State) (ns : List Nat) : State :=
  s.onDarn (fun d => { d with list := d.list ++ (ns.filter (fun n => !s.listed n)).map (fun n => { nozzle := n, source := 0 }) })

/-- What a row of a channel forms at a line count: piece, line, band-table entry, slot, live fields. -/
structure RowInfo where
  piece : Piece
  j : Nat
  entry : Nat
  slot : Option (List Byte × Bool)
  fields : List FieldRun
  deriving DecidableEq, Repr

/-- The rows of a channel at a line count. -/
def State.rowInfos (s : State) (b l c : Nat) : List (Option RowInfo) :=
  (List.range (s.rows c)).map (fun r => (s.rowUse b l c r).map (fun u =>
    let e := (u.1.entryOf c).getD 0
    ⟨u.1, u.2, e, s.ringLine u.1 e (u.2 % max 1 u.1.lines), u.1.fieldsAt u.2⟩))

/-- The final code of a nozzle: the datapath, Darning's changes, then what forces code 0 (R226, R227, R237, R419). -/
def State.codeOf (s : State) (b c nb : Nat) (mods : List (Nat × Nat)) (tbl halves : List Nat) (i : Nat) (o : Option RowInfo) : Nat :=
  match o with
  | none => 0
  | some x =>
    let slot := x.slot.getD ([], true)
    let px := (i : Int) - Sparse.get 0 x.piece.lats b
    let v := contone slot.1 x.fields x.entry (x.j % max 1 x.piece.lines) px
    if slot.2 ∨ s.ctrl c ctrlMute ∨ halves.contains (128 * c + px.toNat / 32) ∨
        (!tbl.isEmpty ∧ (s.stepAddrs x.piece b c i x.j v).any (fun a => tbl.contains a)) then 0
    else match mods.find? (fun e => e.1 == nb + i) with
      | some e => e.2
      | none => if s.masked b c i x.j then s.screen x.piece b c nb i x.j v else 0

/-- The codes of a channel line. -/
def State.codesOf (s : State) (b c : Nat) (rows : List (Option RowInfo)) (mods : List (Nat × Nat)) (tbl halves : List Nat) : List Nat :=
  let nb := s.nbase c
  (List.range (s.chWidth c)).map (fun i => s.codeOf b c nb mods tbl halves i (rows.getD (i % rows.length) none))

/-- The history's share of a channel line (R341): a row is opened by every line, whatever its codes. -/
def State.cellsOf (s : State) (b c : Nat) (rows : List (Option RowInfo)) (codes : List Nat) : List (Nat × Nat × Nat × Bool) :=
  let x0 := s.cf (R.CH_POS_XPOS c)
  let org := s.cf R.IRON_CFG_HORG
  let rowOf := fun (x : RowInfo) => (x.piece.start.getD 0 + x.j) / s.rowHeight
  (rows.filterMap (fun o => o.map (fun x => (rowOf x, 0, 0, false)))).eraseDups ++
    (codes.zipIdx).filterMap (fun e =>
      match rows.getD (e.2 % rows.length) none with
      | none => none
      | some x => if e.1 = 0 ∨ x0 + e.2 < org then none
        else some (rowOf x, (x0 + e.2 - org) / s.binWidth, s.vol b e.1, true))

/-! ## Rinse lines (R285 to R288, R291, R293) -/

/-- A line lies at least GUARD lines from every line in which a row of the channel has a piece line (R285). -/
def State.guarded (s : State) (b l c : Nat) : Bool :=
  let g := max 1 (s.rd (R.BAR_RINSE_GUARD b))
  let whole := s.rd (R.TG_DELAY_WHOLE b)
  let first := ((List.range (s.rows c)).map (s.rowDelay c)).foldl min 65535
  decide (Sparse.get 0 (s.rinse b).used c + g ≤ l + 1) &&
    s.pieces.all (fun p => p.stage == .queued || p.ended.contains b || (p.entryOf c).isNone || !bit p.barMask b || (match p.start with
      | none => true
      | some st => decide (l + g ≤ st + whole + first) || (match p.limit with
        | some n => decide (st + whole + n + s.chDelay c + g ≤ l + 1)
        | none => false)))

/-- The blocks a lane may carry in a line: have[l] of R129. -/
def State.haveBlocks (s : State) (lane : Nat) : Nat :=
  let r := maxOf (((s.slots lane).map (fun e => s.rd (R.TG_MAX_RATE_RATE (s.chBar e.1)))))
  baud (s.rd (R.HL_STATE_RATE lane)) / (640 * max 1 r) - 4

/-- The channels of some rinse frames that find room beside what the line sends already (R287). -/
def roomFor (s : State) : List Nat → (Nat → Nat) → List Nat
  | [], _ => []
  | c :: cs, used =>
    let lane := s.laneOf c
    let n := used lane + s.frameBytes c
    if s.laneServes lane ∧ (n + 59) / 60 ≤ s.haveBlocks lane then c :: roomFor s cs (fun x => if x = lane then n else used x)
    else roomFor s cs used

/-- The bytes a bar's line has on a lane already. -/
def State.laneUsed (s : State) (b count : Nat) (lane : Nat) : Nat :=
  (((s.flights.filter (fun x => x.bar == b && x.count == count)).flatMap (·.chans)).map (fun c =>
    if c.lane = lane then c.frame.length else 0)).sum

/-- The oldest test among some nozzles; the lowest index breaks a tie (R293). -/
def State.oldest (s : State) (ns : List Nat) : Option Nat :=
  ns.foldl (fun (o : Option Nat) n => match o with
    | none => some n
    | some m =>
      let x := Sparse.get 0 s.darn.tested n
      let y := Sparse.get 0 s.darn.tested m
      if x < y ∨ (x = y ∧ n < m) then some n else some m) none

/-- The nozzle a gate tests next among the nozzles of some channels, and whether the sweep chose it (R293). -/
def State.nextTest (s : State) (g : Nat) (cs : List Nat) : Option (Nat × Bool) :=
  let cs := cs.filter (fun c => !s.ctrl c ctrlMute)
  let mine := fun (n : Nat) => (s.nozzleAt n).any (fun e => cs.contains e.1)
  let p1 := ((s.darn.runs.map (·.1)).filter (fun n => mine n && !s.listed n))
  let p2 := (s.gate g).queue.filter mine
  let p3 := ((s.darn.list.filter (fun m => !m.pinned)).map (·.nozzle)).filter mine
  let p4 := (cs.filter (fun c => s.ctrl c ctrlTest)).flatMap (fun c => (List.range (s.chWidth c)).map (fun i => s.nbase c + i))
  match [p1, p2, p3, p4].findSome? s.oldest with
  | some n => some (n, false)
  | none =>
    let next := s.rd (R.GATE_SWEEP_NEXT g)
    let from_ := fun (lo : Nat) => (cs.filterMap (fun c =>
      let nb := s.nbase c
      if lo < nb + s.chWidth c then some (max nb lo) else none))
    match (from_ next).mergeSort (fun x y => decide (x ≤ y)), (from_ 0).mergeSort (fun x y => decide (x ≤ y)) with
    | n :: _, _ => some (n, true)
    | [], n :: _ => some (n, true)
    | [], [] => none

/-- A gate takes tests now: it is past SETTLING (R295). -/
def State.gateTests (s : State) (g b : Nat) : Bool :=
  s.gateServes g b && decide (2 ≤ s.rd (R.GATE_STATE_STATE g) ∧ s.rd (R.GATE_STATE_STATE g) ≤ 4)

/-- No fire instant of the gate's bars lies within WIDTH + REST samples (R291). -/
def State.quiet (s : State) (g f : Nat) : Bool :=
  let d := 10 * (s.rd (R.GATE_TIMING_WIDTH g) + s.rd (R.GATE_TIMING_REST g))
  (s.gate g).fires.all (fun x => decide (x + d < f ∨ f + d < x))

/-- A gate test is placed in a rinse line (R291). -/
def State.placeTest (s : State) (g b count lseq lp : Nat) (n : Nat) (sweep : Bool) (c i fire : Nat) : State :=
  let code := s.rd (R.GATE_CLASS_CODE g)
  let top := s.maxCode c
  let k := if code = 0 then top else min code top
  let s1 := s.sendLine b count lseq lp true [⟨c, fire, (List.range (s.chWidth c)).map (fun x => if x = i then k else 0), 0⟩]
  let s2 := s1.onGate g (fun x => { x with shots := x.shots ++ [⟨n, fire, s.rd (R.GATE_LEVEL_BASE g), s.rd (R.GATE_LEVEL_NOISE g),
    s.rd (R.GATE_AREF_AREF g)⟩] })
  let s3 := s2.inc (R.BAR_RLINES_COUNT b)
  if sweep then s3.wr (R.GATE_SWEEP_NEXT g) (if s.allNozzles ≤ n + 1 then 0 else n + 1) else s3

/-- A spit line's codes of a channel (R288). -/
def State.spitCodes (s : State) (b c n : Nat) : List Nat :=
  let k := min (s.rd (R.BAR_RINSE_SPIT_CODE b)) (s.maxCode c)
  (List.range (s.chWidth c)).map (fun i =>
    if !s.ctrl c ctrlMute ∧ s.patBit (s.rd (R.BAR_RINSE_SPIT_PAT b)) (s.cf (R.CH_POS_XPOS c) + i) n then k else 0)

/-- A spit line of a burst has fired: SPIT_NOW clears with the last (R288). -/
def State.spitDone (s : State) (b c : Nat) : State :=
  let s1 := s.onRinse b (fun r =>
    let u := Sparse.get {} r.bursts c
    { r with bursts := Sparse.set {} r.bursts c (if u.left ≤ 1 then {} else ⟨u.left - 1, u.n + 1⟩),
             fresh := if u.left ≤ 1 then Sparse.set 0 r.fresh c r.lines else r.fresh })
  if (Sparse.get {} (s1.rinse b).bursts c).left = 0 then s1.ctrlDone c ctrlSpit else s1

/-- The spit lines of the channels with a burst due, as far as the lanes have room (R287). -/
def State.spitLine (s : State) (b count lseq lp : Nat) (fires : List (Nat × Nat)) : State :=
  let due := (fires.map (·.1)).filter (fun c => (Sparse.get {} (s.rinse b).bursts c).left != 0)
  let cs := roomFor s due (s.laneUsed b count)
  if cs.isEmpty then s
  else
    let out := cs.map (fun c => (⟨c, ((fires.find? (fun e => e.1 == c)).map (·.2)).getD 0,
      s.spitCodes b c (Sparse.get {} (s.rinse b).bursts c).n, 0⟩ : OutCh))
    cs.foldl (fun (t : State) c => t.spitDone b c) ((s.sendLine b count lseq lp true out).inc (R.BAR_RLINES_COUNT b))

/-- Bursts that fall due: the keep-fresh interval in gap windows, and SPIT_NOW (R288). -/
def State.dueBursts (s : State) (b : Nat) : State :=
  (s.barChannels b).foldl (fun (t : State) c =>
    let r := t.rinse b
    let n := t.rd (R.BAR_FRESH_LINES b)
    if (Sparse.get {} r.bursts c).left = 0 ∧ (t.ctrl c ctrlSpit ∨
        (n ≠ 0 ∧ t.flag (R.BAR_RINSE_GAP_SPIT b) ∧ n ≤ r.lines - Sparse.get 0 r.fresh c)) then t.burstDue b c else t) s

/-- What a rinse line carries for some channels: a gate test where one is due and allowed, else spits (R287). -/
def State.rinseLine (s : State) (b count lseq : Nat) (bound lp reg : Int) (cs : List Nat) (tests spits : Bool) : State :=
  let fires := cs.map (fun c => (c, (s.fireOf b c bound lp reg).1))
  let spit := fun (t : State) => if spits then t.spitLine b count lseq lp.toNat fires else t
  let fixed := fun (t : State) (used : List Nat) => t.onTg b (fun g => { g with
    fLast := (fires.filter (fun e => used.contains e.1)).foldl (fun m e => Sparse.set 0 m e.1 e.2) g.fLast })
  let fired := fun (t : State) => ((t.flights.filter (fun x => x.bar == b && x.count == count && x.rinse)).flatMap (·.chans)).map (·.chan)
  let after := fun (t : State) => fixed t (fired t)
  match (if tests then (List.range 4).find? (fun g => s.gateTests g b) else none) with
  | none => after (spit s)
  | some g =>
    match s.nextTest g (roomFor s cs (s.laneUsed b count)) with
    | none => after (spit s)
    | some (n, sweep) =>
      match s.nozzleAt n with
      | none => after (spit s)
      | some (c, i) =>
        let f := ((fires.find? (fun e => e.1 == c)).map (·.2)).getD 0
        if s.quiet g f then after (s.placeTest g b count lseq lp.toNat n sweep c i f) else after (spit s)

/-- SPITTING follows (R288). -/
def State.spitting (s : State) (b : Nat) : State :=
  s.wrB (R.BAR_RSTAT_SPITTING b) ((s.rinse b).bursts.any (fun e => e.2.left != 0))

/-! ## The form point (R18, R209) -/

/-- A line of a bar is counted: LSEQ, the last line formed, the rinse line count, the list change in force (R10, R288, R307). -/
def State.countLine (s : State) (b : Nat) (l : Option Nat) : State :=
  let s1 := s.onTg b (fun g => { g with lseq := (g.lseq + 1) % 2 ^ 32, lastLine := l.getD g.lastLine })
  s1.onRinse b (fun r => { r with
    lines := r.lines + 1
    forms := match l with
      | some n => (n, s.darn.change) :: r.forms.take 70000
      | none => r.forms })

/-- The statistics of a line's formed channels (R236, R348, R396). -/
def State.lineStat (s : State) (b : Nat) (chs : List (Nat × List (Option RowInfo) × List Nat)) : LineStat :=
  { formed := s.time
    pieces := (chs.flatMap (fun x => x.2.1.filterMap (fun o => o.map (fun r => r.piece.num)))).eraseDups
    drops := chs.map (fun x => (x.1, (x.2.2.filter (fun k => k != 0)).length))
    cells := if s.historyBar b then chs.flatMap (fun x => s.cellsOf b x.1 x.2.1 x.2.2) else [] }

/-- Pieces with a bad line in the line count it as blank (R161). -/
def State.countBad (s : State) (ps : List Nat) : State :=
  { s with pieces := s.pieces.map (fun (p : Piece) => if ps.contains p.num then { p with blanked := p.blanked + 1, flags := p.flags ||| 4 } else p) }

/-- Pieces with contone lost to both sequencers are rejected with BAND_BAD (R419). -/
def State.rejectBand (s : State) (ps : List Nat) : State :=
  { s with
    pieces := s.pieces.map (fun (p : Piece) => if ps.contains p.num then { p with rejected := true, flags := p.flags ||| 64 } else p)
    rejects := s.rejects.map (fun (r : Reject) => if ps.contains r.piece then { r with bad := true } else r) }

/-- Forms and sends one line of a bar: the channels with piece lines first, then rinse lines (R215, R226, R285). -/
def State.makeLine (s : State) (b l : Nat) (p : Int × Option Int) (evs : List MemEv) : State :=
  let lseq := (s.tg b).lseq
  let lp := p.2.getD 0
  let infos := (s.barChannels b).map (fun c => (c, s.rowInfos b l c))
  let lined := infos.filter (fun x => x.2.any (·.isSome))
  let missing := fun (x : Nat × List (Option RowInfo)) => x.2.any (fun o => o.any (fun r => r.slot.isNone))
  let unserved := lined.filter (fun x => !s.laneServes (s.laneOf x.1))
  let good := if p.2.isNone then [] else lined.filter (fun x => !missing x && s.laneServes (s.laneOf x.1))
  let blank := lined.filter (fun x => !good.any (fun y => y.1 == x.1))
  let tbl := (badOf evs .table).map (fun e => e.key / 4 * 4)
  let halves := (badOf evs .ringBoth).map (·.key)
  let extra := (badOf evs .mendEntry).map (·.key)
  let d := (s.withListed extra).darnLine b l
  let s1 := d.1.onDarn (fun x => { x with list := x.list.filter (fun m => s.listed m.nozzle) })
  let chs := good.map (fun x => (x.1, x.2, s1.codesOf b x.1 x.2 d.2 tbl halves))
  let stat := s1.lineStat b chs
  let fx := s1.fixInstants b p.1 lp (s.rdI (R.TG_REG_REG b)) (good.map (·.1))
  let out := chs.map (fun x => (⟨x.1, ((fx.2.find? (fun e => e.1 == x.1)).map (·.2)).getD 0, x.2.2,
    ((x.2.1.findSome? (fun o => o.map (fun r => r.piece.num))).getD 0)⟩ : OutCh))
  let piecesOf := fun (l : List (Nat × List (Option RowInfo))) => (l.flatMap (fun x => x.2.filterMap (fun o => o.map (fun r => r.piece.num)))).eraseDups
  let s2 := (fx.1.sendLine b l lseq lp.toNat false out).addStat b stat
  let s3 := s2.onTg b (fun g => { g with
    recent := (stat :: g.recent).take 4
    pieceLines := g.pieceLines + b2n (s.pieces.any (fun q => q.inBar b && (s.lineOf q b l 0).isSome)) })
  let s4 := s3.countBad (good.flatMap (fun x => x.2.filterMap (fun o => match o with
    | some r => if (r.slot.getD ([], false)).2 then some r.piece.num else none
    | none => none))).eraseDups
  let hurt := lined.filter (fun x => halves.any (fun k => k / 128 == x.1))
  let s5 := (hurt.flatMap (fun x => x.2.filterMap (fun o => o.map (fun r => (r.piece, r.entry, r.j))))).foldl
    (fun (t : State) e => if e.1.isRepeat then t.redecode e.1.num e.2.1 (e.2.2 % max 1 e.1.lines) else t) (s4.rejectBand (piecesOf hurt))
  let s6 := if blank.isEmpty then s5
    else
      let t := s5.countBlank b (blank.map (·.1)) (piecesOf blank)
      if s.historyBar b then
        let cells := blank.flatMap (fun x => s.cellsOf b x.1 x.2 [])
        (t.addHist b cells).flagRows (fun r => { r with blanked := true }) b (cells.map (·.1))
      else t
  let s7 := if unserved.isEmpty ∨ s6.stop.active then s6 else s6.faultStop Ev.LANE_DOWN ((unserved.map (fun x => s.laneOf x.1)).headD 0)
  let s8 := s7.onRinse b (fun r => { r with used := lined.foldl (fun m x => Sparse.set 0 m x.1 (l + 1)) r.used })
  let rc := if p.2.isNone ∨ s.flag (R.TG_STATUS_STOPPED b) then [] else (s.barChannels b).filter (fun c => !lined.any (fun x => x.1 == c) && s.guarded b l c)
  let s9 := (s8.dueBursts b).rinseLine b l lseq p.1 lp (s.rdI (R.TG_REG_REG b)) rc (s.flag (R.BAR_RINSE_GAP_TEST b)) (s.flag (R.BAR_RINSE_GAP_SPIT b))
  ((s9.wrB (R.BAR_RSTAT_WINDOW b) (!rc.isEmpty && lined.isEmpty)).countLine b (some l)).spitting b

/-- The bars that decode and form for a bar see their leads again. -/
def State.updateLeads (s : State) : State := ((List.range 16).foldl (fun (t : State) b => t.updateLead b) s).speedDemand

/-- A repeat piece begins a new repeat in a bar at a line: in a hand-back the bar is taken there (R398). -/
def State.repeatBegins (s : State) (b l : Nat) : Bool :=
  s.pieces.any (fun (p : Piece) => p.isRepeat && p.inBar b && (match s.lineOf p b l 0 with
    | some j => j != 0 && j % max 1 p.lines == 0
    | none => false))

/-- The form point of the line after a trigger's (R18, R209). -/
def State.formLine (s : State) (b : Nat) (tr : Trigger) (evs : List MemEv) : State :=
  let l := tr.count + 1
  let s1 := ((s.formErrors b l evs).joinAborted).placePieces
  let p := s1.period b tr
  let s0 := (s1.takePeriod b tr).boundary b l
  let s2 := (if s0.repeatBegins b l then s0.takeBars (2 ^ b) else s0).countFormed b l
  let s3 := (s2.lateFields b l).makeLine b l p evs
  ((((s3.markEnds b l).openGap b l).endPieces b).freeSlots.placePieces).updateLeads

/-- One line of the park clock: a spit or test line of a park or idle window (R286). -/
def State.parkLine (s : State) (b : Nat) : State :=
  let r := s.rinse b
  let rate := max 1 (s.rd (R.BAR_IDLE_RATE b))
  let lseq := (s.tg b).lseq
  let lp : Int := divOpen 52 (256 * 200000000) rate
  let tests := (List.range 4).any (fun g => s.gateTests g b && s.flag (R.GATE_CFG_PARKTEST g))
  let s1 := ((s.dueBursts b).rinseLine b (2 ^ 48 + lseq) lseq (256 * (s.time : Int)) lp 0 (s.barChannels b) tests true).countLine b none
  let s2 := s1.onRinse b (fun x => { x with left := r.left - 1, clockAt := s.time })
  if r.left ≤ 1 then
    (if r.window = 1 then (s2.closeWindow b).wr (R.BAR_RSTAT_PARKED b) 1 else s2.closeWindow b)
  else s2.spitting b

end Sys2Proof.Machine
end

