-- ==== Sys2Proof/Machine/CamOps.lean ====
section
/-! DEFINITION. Camera lanes and pipelines: triggers and arming, CAMCTL, frames, pixel correction, the streams (R311 to R339). -/

namespace Sys2Proof.Machine

/-- One camera pipeline. -/
def State.cam (s : State) (n : Nat) : Cam := Sparse.get {} s.cams n

/-- Changes one camera pipeline. -/
def State.onCam (s : State) (n : Nat) (f : Cam → Cam) : State := { s with cams := Sparse.upd {} s.cams n f }

/-- The pipeline is enabled. -/
def State.cpOn (s : State) (n : Nat) : Bool := s.cf (R.CP_CFG_EN n) == 1 && !s.unitBad 4 n

/-- The pipeline serves an area camera. -/
def State.cpArea (s : State) (n : Nat) : Bool := s.cf (R.CP_CFG_KIND n) == 1

/-- Pixels per line. -/
def State.cpWidth (s : State) (n : Nat) : Nat := s.cf (R.CP_GEOM_WIDTH n) + 1

/-- Lines per frame. -/
def State.cpHeight (s : State) (n : Nat) : Nat := s.cf (R.CP_GEOM_HEIGHT n)

/-- Planes of the data type (R315). -/
def State.planes (s : State) (n : Nat) : Nat := if s.cf (R.CP_CFG_DT n) = 0x24 then 3 else 1

/-- The trigger source of a pipeline (R317): 0 none, 1 ENCOUT0, 2 ENCOUT1, 3 LINESYNC_OUT. -/
def State.cpTrig (s : State) (n : Nat) : Nat := s.cf (R.CP_CFG_TRIG n)

/-! ## Triggers and arming (R317, R318) -/

/-- The line position of a timing generator now, in 1/4096 line (R317). -/
def State.linePos (s : State) (k : Nat) : Int :=
  let m := s.tgMaster false k
  let src := s.tgSrc false m
  let div := s.effDiv false m
  let g := s.tg m
  if src < 0x10 then (Sparse.get 0 s.lgs src * 4096 / (2 ^ 32 * div) : Nat)
  else if src = 0x11 then
    let per := max 1 (s.rd (R.TG_PERIOD_PERIOD m))
    (((g.offset * per + g.acc + 256 * (s.time - g.accAt)) * 4096) / (per * div) : Nat)
  else (s.rdW R.LSI_COUNT_LO_COUNT R.LSI_COUNT_HI_COUNT * 4096 / div : Nat)

/-- A source has emitted a pulse: every pipeline on it that is past arming takes a trigger (R317). -/
def State.camTrigger (s : State) (src : Nat) : State :=
  (List.range 4).foldl (fun (t : State) n =>
    if t.cpOn n ∧ t.cpTrig n = src ∧ (t.cam n).release.isNone then
      t.onCam n (fun c => { c with trigs := ((t.linePos (t.cf (R.CP_CFG_REF_TG n)), t.tb2) :: c.trigs).take 8192, count := c.count + 1 })
    else t) s

/-- The pulses of the divided outputs whose tick is now are triggers (R197, R317). -/
def State.encoutTriggers (s : State) (ps : List (Nat × Nat)) : State :=
  (ps.filter (fun p => p.2 == s.time)).foldl (fun (t : State) p => t.camTrigger (p.1 + 1)) s

/-- Pulses of the divided outputs that waited for this tick (R197). -/
def State.dueTriggers (s : State) : State :=
  (List.range 2).foldl (fun (t : State) n =>
    if (Sparse.get {} t.encouts n).slots.contains t.time then t.camTrigger (n + 1) else t) s

/-- CRC-8 of R322. -/
def crc8 (bs : List Byte) : Nat := crcMsb 8 7 0 bs

/-- A CAMCTL message (R322). -/
def camMsg (cmd sid : Nat) (payload : List Byte) : List Byte :=
  let body := leBytes 1 cmd ++ leBytes 1 sid ++ leBytes 1 payload.length ++ payload
  0xA5 :: body ++ leBytes 1 (crc8 body)

/-- Sends a CAMCTL message behind what is still leaving (R322, R323). -/
def State.camSend (s : State) (n cmd sid : Nat) (payload : List Byte) : State :=
  let m := camMsg cmd sid payload
  let ticks := (2000000000 * m.length + s.rd (R.CP_BAUD_BAUD n) - 1) / max 1 (s.rd (R.CP_BAUD_BAUD n))
  (s.emit (.camctl n m)).onCam n (fun c => { c with ctlEnd := max s.time c.ctlEnd + ticks, wait := some (cmd, sid) })

/-- The enabled pipelines armed with a pipeline: those on its trigger source; itself with none (R318). -/
def State.armGroup (s : State) (n : Nat) : List Nat :=
  (List.range 4).filter (fun k => s.cpOn k && (k == n || (s.cpTrig n != 0 && s.cpTrig k == s.cpTrig n)))

/-- Arms a pipeline with those on its source: START on each, and the pin held until START_HOLD µs after the last byte (R318, R328). -/
def State.armCam (s : State) (n : Nat) : State :=
  let g := s.armGroup n
  let s1 := g.foldl (fun (t : State) k => t.camSend k 2 0 []) s
  let rel := maxOf (g.map (fun k => (s1.cam k).ctlEnd + usTicks (s1.rd (R.CP_CAMCTL_START_HOLD k))))
  g.foldl (fun (t : State) k =>
    (t.onCam k (fun c => { c with
      trigs := [], count := 0, release := some rel, base := 0, lastLines := none, a := 0, b := 0,
      freq := (t.rd (R.CP_FLK_CFG_FLK_HZ k) : Rat) / 100, strips := [], gap := true,
      frame := c.frame.map (fun f => { f with base := 2 ^ 64 }) })).wr (R.CP_STATUS_STATE k)
      (if t.rd (R.CL_STATUS_STATE k) = 2 then 2 else 1)) s1

/-- The pin is released (R318). -/
def State.armRelease (s : State) (n : Nat) : State :=
  match (s.cam n).release with
  | none => s
  | some r =>
    if s.time < r then s
    else (s.armGroup n).foldl (fun (t : State) k =>
      (t.onCam k (fun c => { c with release := none })).wr (R.CP_STATUS_STATE k) (if t.rd (R.CL_STATUS_STATE k) = 2 then 3 else 1)) s

/-! ## Packets (R312, R315, R316) -/

/-- A packet passes the lane's checks and is of the pipeline's virtual channel; with the counts of what does not. -/
def State.takePacket (s : State) (n : Nat) (p : Packet) : State × Bool :=
  if s.rd (R.CL_STATUS_STATE n) ≠ 2 then (s, false)
  else
    let s1 := s.add (R.CL_SYMERR_COUNT n) p.invalid
    if p.invalid ≠ 0 ∨ !p.sized then (s1.inc (R.CL_DISCARD_COUNT n), false)
    else if p.ecc = 2 then (s1.inc (R.CL_ECC_BAD_COUNT n), false)
    else
      let s2 := if p.ecc = 1 then s1.inc (R.CL_ECC_FIX_COUNT n) else s1
      if !s2.cpOn n ∨ p.vc.toNat ≠ s2.cf (R.CP_CFG_VC n) then (s2.inc (R.CL_DISCARD_COUNT n), false) else (s2, true)

/-! ## Where a line lies on the web (R319, R320) -/

/-- The recorded trigger of a number since arming. -/
def Cam.trigOf (c : Cam) (k : Nat) : Option (Int × Nat) := if k < c.count then c.trigs[c.count - 1 - k]? else none

/-- The web position of line `y` of a frame, and TB2 at its trigger. -/
def State.place (s : State) (n : Nat) (f : CamFrame) (y : Nat) : Option (Int × Nat) :=
  if s.cpTrig n = 0 then none
  else if s.cpArea n then
    ((s.cam n).trigOf f.base).map (fun t => (t.1 - f.delay + (y * s.rdI (R.CP_AREA_ROWPITCH n)) / 16, t.2))
  else ((s.cam n).trigOf (f.base + y)).map (fun t => (t.1 - f.delay, t.2))

/-! ## Pixels (R315, R326) -/

/-- The bytes of a line of `w` pixels. -/
def lineBytes (dt w : Nat) : Nat :=
  if dt = 0x24 then 3 * w else if dt = 0x2B then (10 * w + 7) / 8 else if dt = 0x2C then (12 * w + 7) / 8 else w

/-- The 12-bit sample `i` of a packed line (R315, R326). -/
def sampleOf (dt : Nat) (bs : List Byte) (i : Nat) : Nat :=
  let at_ := fun (k : Nat) => (bs.getD k 0).toNat
  if dt = 0x2B then (4 * at_ (5 * (i / 4) + i % 4) + bits (at_ (5 * (i / 4) + 4)) (2 * (i % 4)) 2) * 4
  else if dt = 0x2C then 16 * at_ (3 * (i / 2) + i % 2) + bits (at_ (3 * (i / 2) + 2)) (4 * (i % 2)) 4
  else 16 * at_ i

/-- A quotient rounded to the nearest, halves up. -/
def ratNear (q : Rat) : Int := (q + 1 / 2).floor

/-- The mean of some fractions. -/
def meanRat (l : List Rat) : Rat := if l.isEmpty then 0 else l.sum / l.length

/-- absb of a reflectance (R326): −256 log10, rounded, from 0 to 1023. -/
def absbOf (refl : Rat) : Nat :=
  if refl ≤ 1 / 4096 then 1023
  else if 1 ≤ refl then 0
  else min 1023 ((Nat.log 10 (refl.den ^ 512 / refl.num.toNat ^ 512) + 1) / 2)

/-- The address of the white table word of a pixel and plane (R339). -/
def whiteAddr (n x k : Nat) : Nat := 0x46080000 + 0x20000 * n + 8 * x + 4 * (k / 2)

/-- The white of a pixel and plane, in 1/16 code (R327). -/
def State.white (s : State) (n x k : Nat) : Nat := bits (s.word (whiteAddr n x k)).toNat (16 * (k % 2)) 16

/-- The reflectance of a sample; a white of 0 leaves it open (assumption 3). -/
def State.reflOf (s : State) (n i planes : Nat) (v : Rat) : Rat :=
  let w := s.white n (i / planes) (i % planes)
  if w = 0 then (Config.freeNat (1000 + i) s.free : Rat) / 4096 else v * 16 / w

/-- Corrects a line (R326): black, flicker, flat field, absorbance. A flicker divisor of 0 leaves the sample open (assumption 3). -/
def State.correctLine (s : State) (n y : Nat) (pos : Option (Int × Nat)) (bs : List Byte) : CamLine :=
  let w := s.cpWidth n
  let pl := s.planes n
  let dt := s.cf (R.CP_CFG_DT n)
  let c := s.cam n
  let t := (pos.map (·.2)).getD s.tb2
  let u := (List.range (w * pl)).map (sampleOf dt bs)
  let at_ := fun (x k : Nat) => u.getD (x * pl + k) 0
  let dark := List.range (s.rd (R.CP_BLACK_DARK_N n) + 1)
  let blk := fun (k : Nat) => if s.flag (R.CP_BLACK_DARK_EN n)
    then meanRat (dark.map (fun i => (at_ (s.rd (R.CP_BLACK_DARK_X0 n) + i) k : Rat))) else (s.rd (R.CP_BLACK_BLACK n) : Rat)
  let blks := (List.range pl).map blk
  let lit := fun (i : Nat) => max ((u.getD i 0 : Rat) - blks.getD (i % pl) 0) 0
  let flk := if s.flag (R.CP_FLK_CFG_FLK_EN n) then 1 + c.a * Config.flickerCos c.freq t + c.b * Config.flickerSin c.freq t else 1
  let v := (List.range (w * pl)).map (fun i => if flk = 0 then (Config.freeNat (5000 + i) s.free : Rat) / 4096 else lit i / flk)
  let refl := v.zipIdx.map (fun e => s.reflOf n e.2 pl e.1)
  let strip := meanRat ((List.range (s.rd (R.CP_REF_REF_N n) + 1)).map (fun i =>
    lit ((s.rd (R.CP_REF_REF_X0 n) + i) * pl + s.rd (R.CP_REF_FLK_PLANE n))))
  { pos := pos.map (·.1), frame := s.rd (R.CP_FRAMES_COUNT n), y := y, t := t, strip := strip, black := blks.headD 0, v := v,
    refl := refl.map (fun r => (min 255 (ratNear (255 * r))).toNat), absb := refl.map absbOf, gap := c.gap }

/-! ## The map onto bar columns, and bare substrate (R327, R329, R342) -/

/-- The bar columns pixels `x` to below `x2` cover, in 1/65536 column, low end first. -/
def State.pixelCols (s : State) (n b x x2 : Nat) : Int × Int :=
  let org := s.rdI (R.CP_MAP_ORG_ORG n b) * 4096
  let pitch := s.rdI (R.CP_MAP_PITCH_PITCH n b)
  let p := org + pitch * x
  let q := org + pitch * x2
  if p ≤ q then (p, q) else (q, p)

/-- The pipeline sees the bar. -/
def State.sees (s : State) (n b : Nat) : Bool := s.rd (R.CP_MAP_PITCH_PITCH n b) != 0

/-- The history bars. -/
def State.historyBars (s : State) : List Nat := (List.range 16).filter s.historyBar

/-- The history bins that overlap some columns, in 1/65536 column. -/
def State.binsOver (s : State) (r : Int × Int) : List Nat :=
  let o : Int := 65536 * s.cf R.IRON_CFG_HORG
  let w : Int := 65536 * s.binWidth
  let lo := (r.1 - o) / w
  let hi := (r.2 - o + w - 1) / w
  ((List.range (hi - lo).toNat).map (fun i => lo + i)).filterMap (fun k => if k < 0 then none else some k.toNat)

/-- The rows that overlap a span of the web in 1/4096 line. -/
def State.rowsOver (s : State) (p q : Int) : List Nat :=
  let h : Int := 4096 * s.rowHeight
  let lo := p / h
  let hi := (q + h - 1) / h
  ((List.range (hi - lo).toNat).map (fun i => lo + i)).filterMap (fun k => if k < 0 then none else some k.toNat)

/-- The lines of a frame with the web each covers (R342), in order. -/
def State.spansOf (s : State) (n : Nat) (ls : List CamLine) : List (CamLine × Option (Int × Int)) :=
  let next := ls.drop 1
  ls.zipIdx.map (fun e =>
    (e.1, match e.1.pos with
      | none => none
      | some p =>
        if s.cpArea n then some (p, p + (s.rdI (R.CP_AREA_ROWPITCH n)) / 16)
        else match (next[e.2]?).bind (·.pos) with
          | some q => some (p, q)
          | none => some (p, p + ((ls[e.2 - 1]?).bind (·.pos)).elim 4096 (fun q => if e.2 = 0 then 4096 else p - q))))

/-- A line is bare at a pixel (R327, R342). -/
def State.bareAt (s : State) (n x : Nat) (sp : Int × Int) : Bool :=
  let rows := s.rowsOver sp.1 sp.2
  let hb := s.historyBars
  let seen := hb.filter (s.sees n)
  !seen.isEmpty && hb.all (fun b => rows.all (fun q => s.hist.any (fun r => r.bar == b && r.row == q))) &&
    seen.all (fun b => (s.binsOver (s.pixelCols n b x (x + 1))).all (fun k => rows.all (fun q => s.histEntry b q k == some 0)))

/-- The white table learns from bare substrate at the end of a frame (R327). -/
def State.learnWhite (s : State) (n : Nat) (f : CamFrame) : State :=
  let pl := s.planes n
  let ls := s.spansOf n f.lines.reverse
  (List.range (s.cpWidth n)).foldl (fun (t : State) x =>
    let bare := ls.filter (fun e => e.2.any (s.bareAt n x))
    if bare.length = 0 ∨ bare.length < s.rd (R.CP_FF_FF_MIN n) then t
    else (List.range pl).foldl (fun (u : State) k =>
      let m := meanRat (bare.map (fun e => e.1.v.getD (x * pl + k) 0)) * 16
      let w : Int := u.white n x k
      let d := (m - w) / (2 ^ s.rd (R.CP_FF_FF_SHIFT n) : Nat)
      let a := whiteAddr n x k
      u.setWord a (BitVec.ofNat 32 (withBits (u.word a).toNat (16 * (k % 2)) 16
        (clampI 0 65535 (w + divOpen 62 d.num d.den)).toNat))) t) s

/-! ## Streams (R330 to R336) -/

/-- A stream of the pipeline is enabled. -/
def State.streamOn (s : State) (n k : Nat) : Bool :=
  match k with
  | 0 => s.flag (R.CP_S0_EN n)
  | 1 => s.flag (R.CP_S1_EN n)
  | 2 => s.flag (R.CP_S2_EN n)
  | _ => s.flag (R.CP_S3_EN n)

/-- Changes the frame in progress. -/
def State.onFrame (s : State) (n : Nat) (g : CamFrame → CamFrame) : State :=
  s.onCam n (fun c => { c with frame := c.frame.map g })

/-- The crop in progress ends (R331, R336). -/
def State.endCrop (s : State) (n : Nat) (cut : Bool) : State :=
  match (s.cam n).crop with
  | none => s
  | some c => (s.onCam n (fun x => { x with crop := none })).cropDone n { c with cut := cut }

/-- A stream's buffer is full: it drops the rest of the frame (R336). -/
def State.overflow (s : State) (n k : Nat) : State :=
  match (s.cam n).frame with
  | none => s
  | some f =>
    if !s.streamOn n k ∨ bit f.ovf k then s
    else
      let s1 := if f.ovf = 0 then s.inc (R.CP_OVF_COUNT n) else s
      let s2 := (s1.onFrame n (fun g => { g with ovf := g.ovf ||| 2 ^ k, s0Cut := if k = 0 then some g.lines.length else g.s0Cut })).raise
        Ev.STREAM_OVERFLOW n k
      if k = 1 then s2.endCrop n true else s2

/-- The compressors of the pipeline have stopped taking input (R171). -/
def State.cxFull (s : State) (n : Nat) : Bool :=
  (List.range 4).any (fun k => s.rd (R.CX_CFG_SRC k) == n && s.flag (R.CX_CFG_ENABLE k) && (s.cxu k).wait != 0)

/-- The pieces with evidence whose REF_TG has the root and DIV of the pipeline's: number, start, lines (R331). -/
def State.evidencePieces (s : State) (n : Nat) : List (Nat × Nat × Nat) :=
  let k := s.cf (R.CP_CFG_REF_TG n)
  let now := s.pieces.filterMap (fun p => if p.evidence then p.start.map (fun st => (p.num, st, p.lines, p.refTg)) else none)
  ((s.evid ++ now).filter (fun e => s.root false e.2.2.2 == s.root false k && s.effDiv false e.2.2.2 == s.effDiv false k)).map
    (fun e => (e.1, e.2.1, e.2.2.1))

/-- The web range of a piece's crop in 1/4096 line. -/
def State.cropRange (s : State) (n : Nat) (e : Nat × Nat × Nat) : Int × Int :=
  (4096 * ((e.2.1 : Int) - s.rd (R.CP_S1_LINES_PRE n)), 4096 * ((e.2.1 : Int) + e.2.2 + s.rd (R.CP_S1_LINES_POST n)))

/-- S1 takes a line (R331). -/
def State.s1Line (s : State) (n : Nat) (l : CamLine) : State :=
  match l.pos with
  | none => s
  | some p =>
    let ps := s.evidencePieces n
    let x0 := s.rd (R.CP_S1_X0 n)
    let w := s.rd (R.CP_S1_W n) + 1
    let pl := s.planes n
    let fresh := ps.find? (fun e => !(s.cam n).cropped.contains e.1 && decide ((s.cropRange n e).1 ≤ p ∧ p ≤ (s.cropRange n e).2))
    let s1 := match fresh with
      | some e => (s.endCrop n false).onCam n (fun c => { c with
          cropped := (e.1 :: c.cropped).take 256
          crop := some { piece := e.1, x0 := x0, w := w, planes := pl, web := p,
                         planned := min 65535 (e.2.2 + s.rd (R.CP_S1_LINES_PRE n) + s.rd (R.CP_S1_LINES_POST n)) } })
      | none => s
    match (s1.cam n).crop with
    | none => s1
    | some c =>
      let past := (ps.find? (fun e => e.1 == c.piece)).any (fun e => decide ((s.cropRange n e).2 < p))
      if past ∨ 65535 ≤ c.lines then s1.endCrop n false
      else s1.onCam n (fun x => { x with crop := some { c with
        data := c.data ++ ((l.refl.drop (c.x0 * pl)).take (c.w * pl)).map (fun v => BitVec.ofNat 8 v), lines := c.lines + 1 } })

/-- The bytes of a preview line, and the lines the ring holds (R333). -/
def State.s2Stride (s : State) (n : Nat) : Nat :=
  let sx := s.rd (R.CP_S2_SX n) + 1
  ((s.cpWidth n + sx - 1) / sx * s.planes n + 3) / 4 * 4

/-- The preview line of the boxes so far is written, in the share of R427 (R333). -/
def State.s2Flush (s : State) (n : Nat) : State :=
  match (s.cam n).frame with
  | none => s
  | some f =>
    if f.boxLines = 0 then s
    else if (s.cam n).share + s.bgScale < 2000 then
      (s.onCam n (fun c => { c with share := c.share + s.bgScale })).onFrame n (fun g => { g with boxes := [], boxLines := 0 })
    else
      let sx := s.rd (R.CP_S2_SX n) + 1
      let pl := s.planes n
      let w := s.cpWidth n
      let k := s.rd (R.CP_S2_LINES_COUNT n)
      let stride := s.s2Stride n
      let row := f.boxes.zipIdx.map (fun e => BitVec.ofNat 8 (divOpenN 63 e.1 (f.boxLines * max 1 (min sx (w - e.2 / pl * sx)))))
      let padded := row ++ List.replicate (stride - row.length) 0
      let a := 0x47000000 + 0x400000 * n + k % max 1 (4194304 / max 1 stride) * stride
      (((s.setBytes a padded).inc (R.CP_S2_LINES_COUNT n)).onCam n (fun c => { c with share := c.share + s.bgScale - 2000 })).onFrame n
        (fun g => { g with boxes := [], boxLines := 0 })

/-- S2 takes a line (R333). -/
def State.s2Line (s : State) (n : Nat) (l : CamLine) : State :=
  let sx := s.rd (R.CP_S2_SX n) + 1
  let pl := s.planes n
  let m := (s.cpWidth n + sx - 1) / sx
  let sums := (List.range (m * pl)).map (fun i =>
    ((List.range sx).map (fun d => if i / pl * sx + d < s.cpWidth n then l.refl.getD ((i / pl * sx + d) * pl + i % pl) 0 else 0)).sum)
  let s1 := s.onFrame n (fun f => { f with
    boxes := if f.boxes.isEmpty then sums else List.zipWith (· + ·) f.boxes sums, boxLines := f.boxLines + 1 })
  if (s1.cam n).frame.any (fun f => decide (s.rd (R.CP_S2_SY n) + 1 ≤ f.boxLines)) then s1.s2Flush n else s1

/-- The lines of a frame S0 has taken, in order. -/
def CamFrame.s0Lines (f : CamFrame) : List CamLine := f.lines.reverse.take (f.s0Cut.getD f.lines.length)

/-- The S0 bins of a pipeline. -/
def State.s0Bins (s : State) (n : Nat) : Nat := (s.cpWidth n + s.rd (R.CP_S0_BIN n)) / (s.rd (R.CP_S0_BIN n) + 1)

/-- The pixels of an S0 bin: first, and the one after the last. -/
def State.s0Pixels (s : State) (n i : Nat) : Nat × Nat :=
  let w := s.rd (R.CP_S0_BIN n) + 1
  (w * i, min (s.cpWidth n) (w * i + w))

/-- The mean absb of some pixels and a plane over some lines, rounded as the spec leaves open. -/
def State.meanAbsb (s : State) (n : Nat) (ls : List CamLine) (px : Nat × Nat) (k : Nat) : Nat :=
  let pl := s.planes n
  let vs := ls.flatMap (fun l => (List.range (px.2 - px.1)).map (fun d => l.absb.getD ((px.1 + d) * pl + k) 0))
  if vs.isEmpty then 0 else divOpenN 64 vs.sum vs.length

/-- The profile of a frame (R330). -/
def State.profile (s : State) (n : Nat) (f : CamFrame) : List (List Nat) :=
  (List.range (s.s0Bins n)).map (fun i => (List.range (s.planes n)).map (s.meanAbsb n f.s0Lines (s.s0Pixels n i)))

/-- The profile goes to its window (R330, R339). -/
def State.writeProfile (s : State) (n : Nat) (f : CamFrame) : State :=
  s.setWords (0x46200000 + 0x20000 * n) ((s.profile n f).map (fun p =>
    BitVec.ofNat 32 (p.getD 0 0 + 1024 * p.getD 1 0 + 1048576 * p.getD 2 0)))

/-! ## Flicker (R328) -/

/-- The amplitude of a pair in 1/4096: a neighbour of its square root where that is no whole number (assumption 8). -/
def ampOf (a b : Rat) : Nat :=
  let q := (a * a + b * b) * 16777216
  let r := Nat.sqrt q.floor.toNat
  min 4095 (if ((r * r : Nat) : Rat) = q then r else if Config.roundUp 45 q.num q.den then r + 1 else r)

/-- The flicker fit of a frame: FLICKER, and the state with the model for the next frame. -/
def State.flicker (s : State) (n : Nat) (f : CamFrame) : State × Bool :=
  if !s.flag (R.CP_FLK_CFG_FLK_EN n) then (s.onCam n (fun x => { x with a := 0, b := 0 }), false)
  else if f.lines.isEmpty then (s, false)
  else
    let c := s.cam n
    let pts := if s.cpArea n then (c.strips ++ [((f.lines.getLast?.map (·.t)).getD 0, meanRat (f.lines.map (·.strip)))]).drop (c.strips.length - 15)
      else f.lines.reverse.map (fun l => (l.t, l.strip))
    let r := Config.flickerFit c.freq c.a c.b pts
    let res := r.2.2.2
    let bad := decide ((s.rd (R.CP_FLK_CFG_FLK_MAX n) : Rat) / 4096 < res)
    let hz := (s.rd (R.CP_FLK_CFG_FLK_HZ n) : Rat) / 100
    let dur := (pts.getLast?.map (·.1)).getD 0 - (pts.head?.map (·.1)).getD 0
    let freq := max (hz * 98 / 100) (min (hz * 102 / 100) (c.freq + Config.flickerAdvance c.a c.b r.1 r.2.1 dur))
    let s1 := s.onCam n (fun x => { x with a := r.1, b := r.2.1, freq := freq, strips := if s.cpArea n then pts else [] })
    ((((s1.wr (R.CP_FLK_AMP n) (ampOf r.1 r.2.1)).wr (R.CP_FLK_RES n) (min 4095 (ratOpen 46 (res * 4096)).toNat)).wr
      (R.CP_FLK_FREQ_HZ n) (ratOpen 47 (freq * 100)).toNat), bad)

/-! ## Frames (R319, R321, R324, R325, R338) -/

/-- The belief in force for a frame record. -/
def Cam.believed (c : Cam) (k : Nat) : Option Belief := c.beliefs.find? (fun b => decide (b.from_ ≤ k))

/-- Pending exposure and gain are issued at a Frame Start (R324). -/
def State.issueSettings (s : State) (n : Nat) : State :=
  if ((s.pendWord (R.CP_EXPO n)).isSome ∨ (s.pendWord (R.CP_GAIN n)).isSome) ∧ (s.cam n).ctlEnd ≤ s.time then
    let s1 := (s.applyPend (R.CP_EXPO n)).applyPend (R.CP_GAIN n)
    let sid := s.rd (R.CP_STATUS_SID_ISSUED n) % 255 + 1
    let expo := s1.rd (R.CP_EXPO_EXPOSURE n)
    let k := s.rd (R.CP_FRAMES_COUNT n)
    let d := s.rd (R.CP_CAMCTL_D n)
    (((s1.wr (R.CP_STATUS_SID_ISSUED n) sid).wr (R.CP_STATUS_PEND n) 0).camSend n 1 sid
      (leBytes 3 expo ++ leBytes 2 (s1.rd (R.CP_GAIN_GAIN n)))).onCam n (fun c => { c with
        beliefs := ({ sid := sid, from_ := k + d, till := k + d, issued := k, expo := expo } :: c.beliefs).take 256 })
  else s

/-- A frame begins (R319, R320, R324, R325). Frame numbers run from 1 to 65535 and on from 1. -/
def State.beginFrame (s : State) (n num : Nat) : State :=
  let c := s.cam n
  let h := s.cpHeight n
  let skips := if c.lastLines.isNone ∨ num = 0 ∨ c.lastNum = 0 then 0 else (num + 65535 - c.lastNum - 1 + 65535) % 65535
  let base := match c.lastLines with
    | none => 0
    | some l => if s.cpArea n then c.base + 1 + skips else c.base + max h l + h * skips
  let s1 := (s.add (R.CP_LOST_COUNT n) skips).issueSettings n
  let c1 := s1.cam n
  let k := s1.rd (R.CP_FRAMES_COUNT n)
  let b := c1.believed k
  let tr := c1.beliefs.any (fun b => decide (b.issued ≤ k ∧ k ≤ b.till))
  let delay : Int := s1.rd (R.CP_DELAY_FRAC n) + 4096 * s1.rd (R.CP_DELAY_WHOLE n)
  let s2 := s1.onCam n (fun x => { x with
    frame := some { num := num, base := base, delay := delay, lost := skips != 0, transition := tr, belief := b,
                    preview := s1.rd (R.CP_S2_LINES_COUNT n) }
    base := base, lastNum := num, drop := false, gap := x.gap || skips != 0 })
  (((s2.wrB (R.CP_STATUS_TRANSITION n) tr).wr (R.CP_STATUS_SID n) ((b.map (·.sid)).getD 0)).wr (R.CP_STATUS_DONE n) 0).wr (R.CP_STATUS_ABORTED n) 0

/-- Flags of a frame record (R338). -/
structure FrameFlags where
  short : Bool
  long : Bool
  flicker : Bool
  aborted : Bool
  deriving DecidableEq, Repr

/-- The frame's settings ID comes from embedded data that differs from the belief (R325). -/
def CamFrame.mismatch (f : CamFrame) : Bool := f.told.any (fun t => t != (f.belief.map (·.sid)).getD 0)

/-- FLAGS of a frame record. -/
def State.frameFlags (s : State) (n : Nat) (f : CamFrame) (x : FrameFlags) : Nat :=
  b2n x.short + 2 * b2n x.long + 4 * b2n f.transition + 8 * b2n x.flicker + 16 * f.ovf + 256 * b2n x.aborted + 512 * b2n f.mismatch +
    1024 * b2n f.lost + 2048 * b2n (s.cpTrig n == 0)

/-- The 64 bytes of a frame record (R338); an aborted frame's carries no statistics (R337). -/
def State.frameRecord (s : State) (n : Nat) (f : CamFrame) (x : FrameFlags) : List Byte :=
  let ls := f.lines.reverse
  let k := s.rd (R.CP_FRAMES_COUNT n)
  let pos := fun (o : Option CamLine) => (o.bind (·.pos)).getD 0
  let sid := match f.told with
    | some t => t
    | none => (f.belief.map (·.sid)).getD 0
  let known := (s.cam n).beliefs.find? (fun b => b.sid == sid)
  let src := if f.told.isSome then 2 else if f.belief.any (·.told) then 1 else 0
  let w := s.cpWidth n
  let stat := fun (m v : Nat) => leBytes m (if x.aborted then 0 else v)
  let white := divOpenN 65 ((List.range w).map (fun i => s.white n i 0)).sum w
  let black := (ratOpen 48 (16 * meanRat (ls.map (·.black)))).toNat
  let absm := fun (p : Nat) => if p < s.planes n then s.meanAbsb n ls (0, w) p else 0
  leBytes 4 k ++ leBytes 2 f.num ++ leBytes 2 (s.frameFlags n f x) ++ leBytes 2 ls.length ++ leBytes 1 sid ++ leBytes 1 src ++
    leBytes 4 f.base ++ leBytes 8 (unsigned 64 (f.line0.elim (pos ls.head?) (·.1))) ++ leBytes 8 (unsigned 64 (pos ls.getLast?)) ++
    leBytes 8 (f.line0.elim ((ls.head?.map (·.t)).getD 0) (·.2)) ++ stat 2 black ++ stat 2 white ++ stat 2 (s.rd (R.CP_FLK_AMP n)) ++ stat 2 (s.rd (R.CP_FLK_RES n)) ++
    stat 2 (absm 0) ++ stat 2 (absm 1) ++ stat 2 (absm 2) ++ leBytes 2 ((known.map (·.issued)).getD 0) ++
    leBytes 4 ((known.map (·.expo)).getD (s.rd (R.CP_EXPO_EXPOSURE n)) % 2 ^ 24) ++ leBytes 4 f.preview

/-- The record is written (R338). -/
def State.writeRecord (s : State) (n : Nat) (f : CamFrame) (x : FrameFlags) : State :=
  let k := s.rd (R.CP_FRAMES_COUNT n)
  (((s.setBytes (0x46000000 + 0x10000 * n + 64 * (k % 1024)) (s.frameRecord n f x)).inc (R.CP_FRAMES_COUNT n)).wrB
    (R.CP_STATUS_DONE n) (!x.aborted)).wrB (R.CP_STATUS_ABORTED n) x.aborted

/-- The frame is over: its lines stay for the code check, and the next frame is placed behind it (R319, R334). -/
def State.dropFrame (s : State) (n : Nat) (f : CamFrame) (short : Bool) : State :=
  (s.onCam n (fun c => { c with
    frame := none, gap := short || bit f.ovf 3
    lastLines := some (f.lines.length + f.extra)
    kept := (f.lines ++ c.kept).take 16384 })).wr (R.CP_STATUS_TRANSITION n) 0

/-- SHORT and LONG (R321). -/
def State.frameEnds (s : State) (n : Nat) (f : CamFrame) : State × FrameFlags :=
  let short := decide (f.lines.length < s.cpHeight n)
  let long := decide (0 < f.extra)
  let s1 := if short then (s.inc (R.CP_SHORT_COUNT n)).raise Ev.FRAME_SHORT n f.lines.length else s
  let s2 := if long then (s1.inc (R.CP_LONG_COUNT n)).raise Ev.FRAME_LONG n f.extra else s1
  let told := f.told.getD 0
  let s3 := if f.mismatch then (s2.inc (R.CP_MISMATCH_COUNT n)).raise Ev.SETTINGS_MISMATCH n
    ((f.belief.map (·.sid)).getD 0 + 256 * told) else s2
  (s3, ⟨short, long, false, false⟩)

/-- An image line (R316, R326, R330 to R336). -/
def State.imageLine (s : State) (n : Nat) (p : Packet) (lineNo : Option (BitVec 16)) (full : BitVec 4) (evs : List MemEv) : State :=
  let r := s.takePacket n p
  let s0 := r.1.memErrors evs
  if !r.2 then s0
  else if p.dt.toNat ≠ s.cf (R.CP_CFG_DT n) then s0.inc (R.CL_DISCARD_COUNT n)
  else if !p.crcOk then s0.inc (R.CL_CRC_BAD_COUNT n)
  else match (s0.cam n).frame with
    | none => if (s0.cam n).drop then s0.onCam n (fun c => { c with lastLines := c.lastLines.map (· + 1) }) else s0.inc (R.CL_DISCARD_COUNT n)
    | some f =>
      if p.body.length ≠ lineBytes (s.cf (R.CP_CFG_DT n)) (s.cpWidth n) ∨ !(badOf evs .cameraBuffer).isEmpty then s0.inc (R.CP_BADLINE_COUNT n)
      else if s.cpHeight n ≤ f.lines.length then s0.onFrame n (fun g => { g with extra := g.extra + 1 })
      else
        let y := if s.cf (R.CP_CFG_LINENUM n) = 1 then (lineNo.map (·.toNat)).getD f.lines.length else f.lines.length
        let l := s0.correctLine n y (s0.place n f y) p.body
        let s1 := (List.range 4).foldl (fun (t : State) k => if bit full.toNat k then t.overflow n k else t) s0.drawn
        let s2 := if s1.cxFull n then s1.overflow n 1 else s1
        let s3 := (s2.onFrame n (fun g => { g with
          lines := l :: g.lines
          line0 := if g.lines.isEmpty then s0.place n f 0 else g.line0 })).onCam n (fun c => { c with gap := false })
        let ovf := ((s3.cam n).frame.map (·.ovf)).getD 0
        let s4 := if s3.streamOn n 1 ∧ !bit ovf 1 then s3.s1Line n l else s3
        if s4.streamOn n 2 ∧ !bit ovf 2 then s4.s2Line n l else s4

/-- An embedded-data line: byte OFS of a frame's first one is the settings ID in force (R325). -/
def State.embeddedLine (s : State) (n : Nat) (p : Packet) : State :=
  let r := s.takePacket n p
  if !r.2 then r.1
  else if p.dt.toNat ≠ 0x12 then r.1.inc (R.CL_DISCARD_COUNT n)
  else if !p.crcOk then r.1.inc (R.CL_CRC_BAD_COUNT n)
  else match (r.1.cam n).frame with
    | none => if (r.1.cam n).drop then r.1 else r.1.inc (R.CL_DISCARD_COUNT n)
    | some f =>
      match (if s.flag (R.CP_EMB_EN n) ∧ f.told.isNone then p.body[s.rd (R.CP_EMB_OFS n)]? else none) with
      | some b => (r.1.onFrame n (fun g => { g with told := some b.toNat })).wr (R.CP_STATUS_SID n) b.toNat
      | none => r.1

/-- The belief of the frame in progress follows the beliefs; a reported ID stands (R325). -/
def State.believe (s : State) (n : Nat) : State :=
  match (s.cam n).frame with
  | none => s
  | some f =>
    let b := (s.cam n).believed (s.rd (R.CP_FRAMES_COUNT n))
    let s1 := s.onFrame n (fun g => { g with belief := b })
    if f.told.isSome then s1 else s1.wr (R.CP_STATUS_SID n) ((b.map (·.sid)).getD 0)

/-- An answer on CAMCTLn_RX (R322, R323, R325). -/
def State.camReply (s : State) (n : Nat) (bs : List Byte) : State :=
  let cmd := le bs 1 1
  let len := le bs 3 1
  let good := le bs 0 1 == 0xA5 && bs.length == 5 + len && decide (len ≤ 16) && crc8 ((bs.drop 1).take (3 + len)) == le bs (4 + len) 1 &&
    (cmd == 0x81 && len == 2 || cmd == 0x82 && len == 0 || cmd == 0x83 && len == 0)
  if !s.cpOn n then s
  else if !good then s.inc (R.CP_MISMATCH_COUNT n)
  else
    let s1 := s.onCam n (fun c => { c with wait := if c.wait.any (fun w => w.1 + 0x80 == cmd) then none else c.wait })
    if cmd ≠ 0x81 then s1
    else
      let c := s1.cam n
      let k := s1.rd (R.CP_FRAMES_COUNT n)
      let now : Int := if c.frame.isSome then k else (k : Int) - 1
      let rec_ := (now + (fwd16 (le bs 4 2) c.lastNum)).toNat
      (s1.onCam n (fun x => { x with beliefs := x.beliefs.map (fun (b : Belief) =>
        if b.sid = le bs 2 1 then { b with from_ := rec_, told := true } else b) })).believe n
where
  /-- A frame number as a signed distance from another. -/
  fwd16 (x y : Nat) : Int := signed 16 (unsigned 16 ((x : Int) - y))

/-- PING every second while nothing else is due (R323). -/
def State.ping (s : State) (n : Nat) : State :=
  let c := s.cam n
  if s.cpOn n ∧ c.pinged + secTicks 1 ≤ s.time ∧ c.ctlEnd ≤ s.time ∧ c.release.isNone then
    (s.camSend n 3 (s.rd (R.CP_STATUS_SID n)) []).onCam n (fun x => { x with pinged := s.time })
  else s

/-! ## The code check (R334, R335) -/

/-- The lines the code check may read, oldest first. -/
def Cam.checkLines (c : Cam) : List CamLine :=
  (((c.frame.map (fun f => f.lines)).getD []) ++ c.kept).reverse.filter (fun l => l.pos.isSome)

/-- The index of the camera line at a web position in 1/4096 line, when no line is missing there. -/
def lineAt (ls : List CamLine) (p : Int) : Option Nat :=
  let i := (ls.takeWhile (fun l => decide (l.pos.getD 0 ≤ p))).length
  if i = 0 then none
  else match ls[i]? with
    | some l => if l.gap then none else some (i - 1)
    | none => none

/-- The lines from one index to another follow each other without a gap. -/
def wholeRun (ls : List CamLine) (a b : Nat) : Bool := ((ls.take (b + 1)).drop (a + 1)).all (fun l => !l.gap)

/-- The pixel that covers a bar column (R334). -/
def State.pixelOf (s : State) (n b : Nat) (col : Int) : Int :=
  Int.fdiv (65536 * col + 32768 - 4096 * s.rdI (R.CP_MAP_ORG_ORG n b)) (s.rdI (R.CP_MAP_PITCH_PITCH n b))

/-- The bar and first bar column of a field in a piece: the lowest channel that prints its band. -/
def State.fieldPlace (s : State) (p : Piece) (f : FieldRun) : Option (Nat × Int) :=
  (p.chans.find? (fun e => e.2 == f.band)).map (fun e =>
    (s.chBar e.1, (s.cf (R.CH_POS_XPOS e.1) : Int) + Sparse.get 0 p.lats (s.chBar e.1) + f.x))

/-- The pipeline can check the field: VBARS, and every column with SEARCH pixels each side (R334). -/
def State.mayCheck (s : State) (n : Nat) (p : Piece) (f : FieldRun) : Bool :=
  match s.fieldPlace p f with
  | none => false
  | some (b, c) =>
    let sr : Int := s.rd (R.CP_S3_SEARCH n)
    let x := s.pixelOf n b c
    let y := s.pixelOf n b (c + f.w - 1)
    s.cpOn n && s.flag (R.CP_S3_EN n) && bit (s.rd (R.CP_S3_VBARS n)) b && s.sees n b &&
      decide (0 ≤ min x y - sr ∧ max x y + sr < s.cpWidth n)

/-- The pipeline that checks the field. -/
def State.checker (s : State) (p : Piece) (f : FieldRun) : Option Nat := (List.range 4).find? (fun n => s.mayCheck n p f)

/-- The best match of a field over the offsets (R334): matches, dx, dy. -/
def bestMatch (search : Nat) (m : Int → Int → Nat) : Nat × Int × Int :=
  let offs := (List.range (2 * search + 1)).map (fun i => (i : Int) - search)
  offs.foldl (fun b dy => offs.foldl (fun (b : Nat × Int × Int) dx => if b.1 < m dx dy then (m dx dy, dx, dy) else b) b) (0, 0, 0)

/-- The outcome of a check: result code, score, dx, dy, cells, record number of the frame with the first line; none: not yet. -/
def State.checkField (s : State) (n : Nat) (p : Piece) (rep : Nat) (f : FieldRun) : Option (Nat × Nat × Int × Int × Nat × Nat) :=
  if f.failed ≠ 0 then some (5, 0, 0, 0, 0, 0)
  else match s.checker p f with
    | none => some (4, 0, 0, 0, 0, 0)
    | some k =>
      match (if k = n then s.fieldPlace p f else none), p.start with
      | some (b, col), some st =>
        let ls := (s.cam n).checkLines
        let sr := s.rd (R.CP_S3_SEARCH n)
        let pl := s.planes n
        let web := fun (r : Nat) => 4096 * ((st + rep * p.lines + f.line + r : Nat) : Int)
        let lastPos := (ls.getLast?.bind (·.pos)).getD (-1)
        if lastPos ≤ web (f.h - 1) then none
        else match lineAt ls (web 0), lineAt ls (web (f.h - 1)) with
          | some i, some j =>
            if i < sr ∨ !wholeRun ls (i - sr) (min (j + sr) (ls.length - 1)) then some (3, 0, 0, 0, 0, 0)
            else if ls.length ≤ j + sr then none
            else
              let cells := (List.range f.h).flatMap (fun r => (List.range f.w).filterMap (fun u =>
                if f.opaq ∨ bit (f.rows.getD r 0) u then some (u, r) else none))
              let thr := s.rd (R.CP_S3_CHK_THRESH n)
              let hit := fun (e : Nat × Nat) (dx dy : Int) =>
                let y := ((lineAt ls (web e.2)).getD 0 : Int) + dy
                let x := s.pixelOf n b (col + e.1) + dx
                let a := (ls[y.toNat]?).elim 0 (fun l => l.absb.getD (x.toNat * pl + s.rd (R.CP_S3_CHK_PLANE n)) 0)
                decide (thr ≤ a) == bit (f.rows.getD e.2 0) e.1
              let best := bestMatch sr (fun dx dy => (cells.filter (fun e => hit e dx dy)).length)
              let score := if cells.isEmpty then s.draw 61 % 257 else divOpenN 66 (256 * best.1) cells.length
              let fr := (ls[i]?).elim 0 (·.frame)
              some (if s.rd (R.CP_S3_CHK_PASS n) ≤ score then 1 else 2, score, best.2.1, best.2.2, cells.length, fr)
          | _, _ => some (3, 0, 0, 0, 0, 0)
      | _, _ => none

/-- VERIFY_FAIL and the verdict of a piece (R335); its record, if written, takes the flag too. -/
def State.verifyFail (s : State) (num ord result score : Nat) : State :=
  let set := fun (p : Piece) => if p.num = num then { p with flags := p.flags ||| 16, rejected := true } else p
  let told := (s.pieces ++ s.verify).any (fun p => p.num == num && bit p.flags 4)
  let s1 := { s with
    pieces := s.pieces.map set
    verify := s.verify.map set
    rejects := s.rejects.map (fun (r : Reject) => if r.piece = num then { r with bad := true } else r) }
  let s2 := match (if (s1.piece num).isNone then s1.ended.find? (fun e => e.num == num) else none) with
    | some e =>
      let a := 0x4E000000 + 32 * (e.index % 4096) + 4
      s1.setWord a (s1.word a ||| 0x110000)
    | none => s1
  if told then s2 else s2.raise Ev.CODE_FAIL num (ord + 256 * result + 65536 * score)

/-- A field of some prints has its result. -/
def setResult (rep ord result : Nat) (p : Piece) : Piece :=
  { p with prints := p.prints.map (fun (r : Print) => if r.rep = rep then
      { r with fields := r.fields.map (fun (f : FieldRun) => if f.index = ord then { f with result := result } else f) } else r) }

/-- The check of a VERIFY field of a VERIFY piece (R334, R335). -/
def State.fieldCheck (s : State) (n num ord : Nat) : State :=
  match (s.pieces ++ s.verify).find? (fun p => p.num == num) with
  | none => s
  | some p =>
    match (if p.verify then p.prints.findSome? (fun r => (r.fields.find? (fun f => f.index == ord && f.verify && f.result == 0)).map (fun f => (r.rep, f)))
        else none) with
    | none => s
    | some (rep, f) =>
      match s.checkField n p rep f with
      | none => s
      | some (res, score, dx, dy, cells, fr) =>
        let k := s.rd (R.CP_CHK_PASS_COUNT n) + s.rd (R.CP_CHK_FAIL_COUNT n)
        let rec_ := leBytes 4 num ++ leBytes 1 ord ++ leBytes 1 res ++ leBytes 2 score ++ leBytes 1 (unsigned 8 dx) ++ leBytes 1 (unsigned 8 dy) ++
          leBytes 2 cells ++ leBytes 8 s.tb2 ++ leBytes 4 fr ++ leBytes 8 0
        let s1 := (s.drawn.setBytes (0x46100000 + 0x2000 * n + 32 * (k % 256)) rec_).inc
          (if res = 1 then R.CP_CHK_PASS_COUNT n else R.CP_CHK_FAIL_COUNT n)
        let set := fun (q : Piece) => if q.num = num then setResult rep ord res q else q
        let s2 := { s1 with pieces := s1.pieces.map set, verify := s1.verify.map set }
        let s3 := if res = 1 then s2 else s2.verifyFail num ord res score
        { s3 with verify := s3.verify.filter (fun q => q.prints.any (fun r => r.fields.any (fun (x : FieldRun) => x.verify && x.result == 0))) }

end Sys2Proof.Machine
end

