-- ==== Sys2Proof/Machine/IronOps.lean ====
section
/-! DEFINITION. The Ironing loop, streak detection and registration tracking (R297, R298, R343 to R357). -/

namespace Sys2Proof.Machine

/-! ## Inks (R343, R344) -/

/-- The enabled inks. -/
def State.inks (s : State) : List Nat := (List.range 8).filter (fun k => s.cf (R.INK_CFG_EN k) == 1)

/-- The bars of an ink. -/
def State.inkBars (s : State) (k : Nat) : List Nat := (List.range 16).filter (fun b => bit (s.cf (R.INK_CFG_BARS k)) b)

/-- The ink of a bar. -/
def State.inkOf (s : State) (b : Nat) : Option Nat := s.inks.find? (fun k => (s.inkBars k).contains b)

/-- The plane of an ink. -/
def State.inkPlane (s : State) (k : Nat) : Nat := s.rd (R.INK_CFG_PLANE k)

/-- A response of an ink (R343, R359). -/
def State.resp (s : State) (k c : Nat) : Nat := bits (s.word (0x4A000000 + 0x400 * k + 4 * c)).toNat 0 10

/-- The key of a pipeline, S0 bin and ink or plane. -/
def ironKey (n i k : Nat) : Nat := n * 2 ^ 20 + i * 8 + k

/-- The last estimate of an ink in a bin, E_NOM when there is none. -/
def State.estOf (s : State) (n i k : Nat) : Rat :=
  let e := Sparse.get (0, false) s.iron.est (ironKey n i k)
  if e.1 = 0 then (s.rd (R.INK_NOM_E_NOM k) : Rat) else e.1

/-- The estimate of an ink in a bin is VALID. -/
def State.estValid (s : State) (n i k : Nat) : Bool := (Sparse.get (0, false) s.iron.est (ironKey n i k)).2

/-- The valid estimate, or E_NOM (R344, R353). -/
def State.estUse (s : State) (n i k : Nat) : Rat := if s.estValid n i k then s.estOf n i k else (s.rd (R.INK_NOM_E_NOM k) : Rat)

/-- Sets an estimate with VALID, in the window too (R347, R360). -/
def State.setEst (s : State) (n i k : Nat) (e : Rat) (valid : Bool) : State :=
  ({ s with iron := { s.iron with est := Sparse.set (0, false) s.iron.est (ironKey n i k) (e, valid) } }).setWord
    (0x4A100000 + 0x80000 * n + 32 * i + 4 * k) (BitVec.ofNat 32 (min 65535 (ratOpen 49 (16 * e)).toNat + 65536 * b2n valid))

/-- The overlap of two intervals. -/
def overlap (a b : Int × Int) : Nat := (min a.2 b.2 - max a.1 b.1).toNat

/-- The coverage of a bar seen over a span of the web and some bar columns: entries weighted by their overlap, over the total (R344). -/
def State.coverage (s : State) (b : Nat) (span cols : Int × Int) : Rat :=
  let h : Int := 4096 * s.rowHeight
  let w : Int := 65536 * s.binWidth
  let o : Int := 65536 * s.cf R.IRON_CFG_HORG
  let ws := (s.rowsOver span.1 span.2).flatMap (fun (q : Nat) => (s.binsOver cols).map (fun (k : Nat) =>
    (overlap span (h * (q : Int), h * (q : Int) + h) * overlap cols (o + w * (k : Int), o + w * (k : Int) + w), (s.histEntry b q k).getD 0)))
  let total := (ws.map (·.1)).sum
  if total = 0 then 0 else (((ws.map (fun (e : Nat × Nat) => e.1 * e.2)).sum : Nat) : Rat) / total

/-- The coverage of an ink: its bars' coverages together, at most 255 (R344). -/
def State.inkCover (s : State) (n k : Nat) (span : Int × Int) (px : Nat × Nat) : Rat :=
  min 255 (((s.inkBars k).filter (s.sees n)).map (fun b => s.coverage b span (s.pixelCols n b px.1 px.2))).sum

/-- The mean response of an ink over the lines of a frame in a bin (R344). -/
def State.rbar (s : State) (n i k : Nat) (spans : List (Int × Int)) : Rat :=
  meanRat (spans.map (fun sp => (s.resp k (ratNear (s.inkCover n k sp (s.s0Pixels n i))).toNat : Rat)))

/-! ## Admission (R345, R346) -/

/-- The spans of a frame's lines. -/
def State.frameSpans (s : State) (n : Nat) (f : CamFrame) : List (Int × Int) := (s.spansOf n f.lines.reverse).filterMap (·.2)

/-- A row the frame sees is unavailable, DOUBLE or BLANKED in some history bar. -/
def State.rowsBad (s : State) (spans : List (Int × Int)) : Bool :=
  let rows := (spans.flatMap (fun sp => s.rowsOver sp.1 sp.2)).eraseDups
  s.historyBars.any (fun b => rows.any (fun q => match s.hist.find? (fun r => r.bar == b && r.row == q) with
    | some r => r.double || r.blanked
    | none => true))

/-- Counts a frame as admitted or excluded (R345); `lost`: aborted, or its profile could not be read. -/
def State.admitFrame (s : State) (n : Nat) (f : CamFrame) (flk lost : Bool) : State × Bool :=
  if f.transition then (s.inc R.IRON_EXCL_TRANS_COUNT, false)
  else if flk then (s.inc R.IRON_EXCL_FLK_COUNT, false)
  else if f.mismatch || s.cpTrig n == 0 || bit f.ovf 0 || lost then (s.inc R.IRON_EXCL_OTHER_COUNT, false)
  else if s.rowsBad (s.frameSpans n f) then (s.inc R.IRON_EXCL_HIST_COUNT, false)
  else (s.inc R.IRON_FRAMES_COUNT, true)

/-- The middle of a bar column lies in the columns of a bin (R349). -/
def State.colInBin (s : State) (n b i : Nat) (col : Nat) : Bool :=
  let px := s.s0Pixels n i
  let r := s.pixelCols n b px.1 px.2
  decide (r.1 ≤ 65536 * (col : Int) + 32768 ∧ 65536 * (col : Int) + 32768 < r.2)

/-- A sample is excluded: its columns hold a listed nozzle of an ink that nothing serves (R346). -/
def State.sampleOut (s : State) (n i : Nat) : Bool :=
  s.darn.list.any (fun m => (s.noz m.nozzle).any (fun z =>
    (s.inkOf z.bar).isSome && s.sees n z.bar && s.colInBin n z.bar i z.col &&
      (m.method == 0 || (m.method == 5 && s.ctrl z.c ctrlDarnOff))))

/-! ## The solve (R347) -/

/-- The entry of an 8 × 8 matrix. -/
def mat (m : List Rat) (i j : Nat) : Rat := m.getD (8 * i + j) 0

/-- One elimination step on a symmetric matrix given by rows: the pivot's row removed. -/
def schur (row : List Rat) (rest : List (List Rat)) : List (List Rat) :=
  let p := row.headD 0
  rest.map (fun r => List.zipWith (fun x y => x - r.headD 0 / p * y) (r.drop 1) (row.drop 1))

/-- The pivots of a matrix, in order. -/
def pivots : Nat → List (List Rat) → List Rat
  | 0, _ => []
  | _ + 1, [] => []
  | n + 1, row :: rest => row.headD 0 :: pivots n (schur row rest)

/-- Solves a symmetric system by elimination in order. -/
def solveSym : Nat → List (List Rat) → List Rat → List Rat
  | 0, _, _ => []
  | _ + 1, [], _ => []
  | n + 1, row :: rest, v =>
    let p := row.headD 0
    let b := v.headD 0
    let xs := solveSym n (schur row rest) (List.zipWith (fun r y => y - r.headD 0 / p * b) rest (v.drop 1))
    (b - (List.zipWith (· * ·) (row.drop 1) xs).sum) / p :: xs

/-- The matrix restricted to some inks. -/
def restrict (m : List Rat) (ks : List Nat) : List (List Rat) := ks.map (fun i => ks.map (fun j => mat m i j))

/-- The inks that can be told apart: confounded ones removed one by one, first in order (R347). -/
def identify (m : List Rat) (least : Rat) : Nat → List Nat → List Nat
  | 0, ks => ks
  | n + 1, ks =>
    match (List.zip ks (pivots 8 (restrict m ks))).find? (fun e => decide (e.2 < least * mat m e.1 e.1)) with
    | some e => identify m least n (ks.filter (fun k => k != e.1))
    | none => ks

/-- Accumulates a sample in a bin and plane (R347). -/
def IronBin.add (x : IronBin) (lam : Rat) (r : List Rat) (a : Rat) : IronBin :=
  { nmat := (List.range 64).map (fun e => x.nmat.getD e 0 * lam + r.getD (e / 8) 0 * r.getD (e % 8) 0)
    bvec := (List.range 8).map (fun e => x.bvec.getD e 0 * lam + r.getD e 0 * a)
    cnt := x.cnt * lam + 1 }

/-- The accumulators of a bin and plane. -/
def State.ironBin (s : State) (n i p : Nat) : IronBin := Sparse.get {} s.iron.bins (ironKey n i p)

/-- Solves a bin in a plane (R347). -/
def State.solveBin (s : State) (n i p : Nat) : State :=
  let x := s.ironBin n i p
  let own := s.inks.filter (fun k => s.inkPlane k == p)
  if x.cnt < s.rd R.IRON_SOLVE_MIN_FRAMES then own.foldl (fun (t : State) k => if t.estValid n i k then t.setEst n i k (t.estOf n i k) false else t) s
  else
    let least := ((s.rd R.IRON_SOLVE_MINRESP : Rat) * 1023 / 256)
    let big := s.inks.filter (fun k => decide (x.cnt * least * least ≤ mat x.nmat k k))
    let ks := identify x.nmat ((s.rd R.IRON_SOLVE_PIVOT_MIN : Rat) / 256) 8 big
    let ds := s.inks.filter (fun k => !ks.contains k)
    let rhs := ks.map (fun k => x.bvec.getD k 0 - (ds.map (fun d => mat x.nmat k d * s.estOf n i d / 1023)).sum)
    let sol := (solveSym 8 (restrict x.nmat ks) rhs).map (· * 1023)
    own.foldl (fun (t : State) k =>
      let e := ((List.zip ks sol).find? (fun e => e.1 == k)).map (·.2)
      let nom : Rat := s.rd (R.INK_NOM_E_NOM k)
      match e with
      | some v => if nom / 16 ≤ v ∧ v ≤ 16 * nom then t.setEst n i k v true
        else if t.estValid n i k then t.setEst n i k (t.estOf n i k) false else t
      | none => if t.estValid n i k then t.setEst n i k (t.estOf n i k) false else t) s

/-- An admitted frame enters the accumulators of its bins, which are solved (R346, R347). -/
def State.accumulate (s : State) (n : Nat) (f : CamFrame) : State :=
  let spans := s.frameSpans n f
  let prof := s.profile n f
  let lam : Rat := 1 - 1 / (2 ^ s.rd R.IRON_CFG_FORGET : Nat)
  let planes := ((s.inks.map s.inkPlane).eraseDups).filter (fun p => decide (p < s.planes n))
  (List.range (s.s0Bins n)).foldl (fun (t : State) i =>
    if s.sampleOut n i then t
    else
      let r := (List.range 8).map (fun k => if s.inks.contains k then s.rbar n i k spans else 0)
      planes.foldl (fun (u : State) p =>
        let x := (u.ironBin n i p).add lam r ((prof.getD i []).getD p 0 : Nat)
        ({ u with iron := { u.iron with bins := Sparse.set {} u.iron.bins (ironKey n i p) x } }).solveBin n i p) t) s

/-- The accumulators of a bin are lost (R419). -/
def State.loseBin (s : State) (n i : Nat) : State :=
  let s1 := { s with iron := { s.iron with bins := Sparse.clear s.iron.bins (ironKey n i 0) (ironKey n i 8) } }
  (List.range 8).foldl (fun (t : State) k => if t.estValid n i k then t.setEst n i k (t.estOf n i k) false else t) s1

/-- An ink's responses, nominal or volumes have been written: the accumulators of every plane start again, since every ink is solved
in each (R347), and so do its estimates (R352). -/
def State.ironReset (s : State) (k : Nat) : State :=
  let s1 := { s with iron := { s.iron with bins := [] } }
  (s1.iron.est.filter (fun e => e.1 % 8 == k && e.2.2)).foldl (fun (t : State) e =>
    t.setEst (e.1 / 2 ^ 20) (e.1 % 2 ^ 20 / 8) k e.2.1 false) s1

/-! ## Streaks (R297, R298) -/

/-- The nozzles of an ink in a bin that printed in a frame and are not listed. -/
def State.streakNozzles (s : State) (n i k : Nat) (spans : List (Int × Int)) : List Nat :=
  let rows := (spans.flatMap (fun sp => s.rowsOver sp.1 sp.2)).eraseDups
  ((s.inkBars k).filter (s.sees n)).flatMap (fun b => (s.barChannels b).flatMap (fun c =>
    let x0 := s.cf (R.CH_POS_XPOS c)
    let nb := s.nbase c
    (List.range (s.chWidth c)).filterMap (fun j =>
      if s.colInBin n b i (x0 + j) ∧ !s.listed (nb + j) ∧ s.cf R.IRON_CFG_HORG ≤ x0 + j ∧
          rows.any (fun q => (s.histEntry b q ((x0 + j - s.cf R.IRON_CFG_HORG) / s.binWidth)).getD 0 != 0)
        then some (nb + j) else none)))

/-- Streak detection in one bin for one ink of an admitted frame. -/
def State.streakBin (s : State) (n i k : Nat) (spans : List (Int × Int)) (measured : Nat) (r : List Rat) : State :=
  let key := k * 2 ^ 24 + n * 2 ^ 20 + i
  let cover := meanRat (spans.map (fun sp => s.inkCover n k sp (s.s0Pixels n i)))
  let pred := (s.inks.map (fun q => s.estUse n i q * r.getD q 0 / 1023)).sum
  let weak := decide ((s.rd R.STREAK_CFG_MINCOV : Rat) ≤ cover) && decide (0 < pred) &&
    decide ((measured : Rat) * 256 < (s.rd R.STREAK_CFG_RATIO : Rat) * pred)
  let run := if weak then Sparse.get 0 s.darn.streaks key + 1 else 0
  let s1 := s.onDarn (fun d => { d with streaks := Sparse.set 0 d.streaks key run })
  if run < max 1 (s.rd R.STREAK_CFG_FRAMES) ∨ !weak then s1
  else
    let s2 := (s1.inc R.STREAK_CANDS_COUNT).onDarn (fun d => { d with streaks := Sparse.set 0 d.streaks key 0 })
    match s2.streakNozzles n i k spans with
    | [] => s2.inc R.STREAK_DARNED_COUNT
    | ns =>
      ns.foldl (fun (t : State) z =>
        (if t.flag R.STREAK_CFG_CAM_LIST then t.list z 2 (decide (1 < ns.length)) else t).queueTest z) s2

/-- Streak detection over an admitted frame. -/
def State.streaks (s : State) (n : Nat) (f : CamFrame) : State :=
  let spans := s.frameSpans n f
  let prof := s.profile n f
  (List.range (s.s0Bins n)).foldl (fun (t : State) i =>
    let r := (List.range 8).map (fun k => if s.inks.contains k then s.rbar n i k spans else 0)
    (s.inks.filter (fun k => decide (s.inkPlane k < s.planes n))).foldl (fun (u : State) k =>
      u.streakBin n i k spans ((prof.getD i []).getD (s.inkPlane k) 0) r) t) s

/-! ## Registration (R353 to R356) -/

/-- The pixels that cover a history bin of a bar: first, and the one after the last. -/
def State.binPixels (s : State) (n b x : Nat) : Nat × Nat :=
  let c0 : Int := s.cf R.IRON_CFG_HORG + s.binWidth * x
  let p := s.pixelOf n b c0
  let q := s.pixelOf n b (c0 + s.binWidth - 1)
  ((max 0 (min p q)).toNat, min (s.cpWidth n) (max p q + 1).toNat)

/-- The history bins of a bar a pipeline sees whole. -/
def State.binsSeen (s : State) (n b : Nat) : List Nat :=
  (s.binsOver (s.pixelCols n b 0 (s.cpWidth n))).filter (fun x => decide ((s.binPixels n b x).1 < (s.binPixels n b x).2))

/-- The columns of a history bin. -/
def State.binCols (s : State) (x : Nat) : Int × Int :=
  let lo : Int := 65536 * ((s.cf R.IRON_CFG_HORG + s.binWidth * x : Nat) : Int)
  (lo, lo + 65536 * s.binWidth)

/-- The prediction of one bar and of all inks at a line's span and a history bin (R353): pb and pt. -/
def State.predict (s : State) (n b k x : Nat) (sp : Int × Int) : Rat × Rat :=
  let i := (s.binPixels n b x).1 / (s.rd (R.CP_S0_BIN n) + 1)
  let rs := fun (q : Nat) (c : Rat) => (s.resp q (ratNear (min 255 c)).toNat : Rat)
  (s.estUse n i k * rs k (s.coverage b sp (s.binCols x)) / 1023,
    (s.inks.map (fun q => s.estUse n i q * rs q ((s.inkBars q).map (fun c => s.coverage c sp (s.binCols x))).sum / 1023)).sum)

/-- The sums of one bar over a frame: sxx, sex, syy, sey (R353). -/
def State.regFrame (s : State) (n b k : Nat) (ls : List (CamLine × (Int × Int))) : Rat × Rat × Rat × Rat :=
  let p := s.inkPlane k
  let bins := s.binsSeen n b
  (ls.zipIdx).foldl (fun acc e =>
    match ls[e.2 + 1]?, (if e.2 = 0 then none else ls[e.2 - 1]?) with
    | some below, some above =>
      bins.foldl (fun (a : Rat × Rat × Rat × Rat) x =>
        if x = 0 ∨ !bins.contains (x + 1) ∨ !bins.contains (x - 1) then a
        else
          let pb := fun (l : CamLine × (Int × Int)) (z : Nat) => (s.predict n b k z l.2).1
          let gx := (pb e.1 (x + 1) - pb e.1 (x - 1)) / 2
          let gy := (pb below x - pb above x) / 2
          let mv := meanRat ((List.range ((s.binPixels n b x).2 - (s.binPixels n b x).1)).map (fun d =>
            (e.1.1.absb.getD (((s.binPixels n b x).1 + d) * s.planes n + p) 0 : Rat)))
          let er := mv - (s.predict n b k x e.1.2).2
          (a.1 + gx * gx, a.2.1 + er * gx, a.2.2.1 + gy * gy, a.2.2.2 + er * gy)) acc
    | _, _ => acc) (0, 0, 0, 0)

/-- The registers of a bar's registration follow its sums; `spacing` is lines per camera line (R353). -/
def State.regReport (s : State) (b : Nat) (spacing : Rat) : State :=
  let r := Sparse.get {} s.iron.regs b
  let need := s.rd (R.BAR_REGCFG_REG_FRAMES b)
  let conf : Rat := (2 ^ s.rd (R.BAR_REGCFG_REG_CONF b) : Nat)
  let err := fun (q : Rat) => clampI (-32768) 32767 (divOpen 67 q.num q.den)
  ((((s.wrI (R.BAR_REGERR_ERR_Y b) (err (if r.syy = 0 then 0 else 4096 * spacing * r.sey / r.syy))).wrI (R.BAR_REGERR_ERR_X b)
    (err (if r.sxx = 0 then 0 else 16 * s.binWidth * r.sex / r.sxx))).wrB (R.BAR_REGSTAT_Y_VALID b)
    (decide (need ≤ r.freshY) && decide (conf ≤ r.syy))).wrB (R.BAR_REGSTAT_X_VALID b) (decide (need ≤ r.freshX) && decide (conf ≤ r.sxx))).wr
    (R.BAR_REGSTAT_FRESH b) (min 15 (max r.freshX r.freshY))

/-- An admitted frame enters the registration sums of the bars that are tracked (R353, R354). -/
def State.register (s : State) (n : Nat) (f : CamFrame) : State :=
  let ls := (s.spansOf n f.lines.reverse).filterMap (fun e => e.2.map (fun sp => (e.1, sp)))
  let first : Int := (ls.head?.map (fun e => e.2.1 / 4096)).getD 0
  let spacing : Rat := if ls.length ≤ 1 then 1
    else (((ls.getLast?.map (·.2.1)).getD 0 - (ls.head?.map (·.2.1)).getD 0 : Int) : Rat) / (4096 * (ls.length - 1 : Nat))
  (List.range 16).foldl (fun (t : State) b =>
    match s.inkOf b with
    | none => t
    | some k =>
      if !(s.flag (R.BAR_REGCFG_REG_EN b) || s.flag (R.BAR_REGCFG_LAT_EN b)) ∨ !s.sees n b ∨ s.planes n ≤ s.inkPlane k then t
      else
        let r := Sparse.get {} t.iron.regs b
        let okX := decide (r.fromX ≤ first)
        let okY := decide (r.fromY ≤ first)
        if !okX ∧ !okY then t
        else
          let d := s.regFrame n b k ls
          let t1 := t.onReg b (fun r => { r with
            sxx := if okX then r.sxx + d.1 else r.sxx, sex := if okX then r.sex + d.2.1 else r.sex
            syy := if okY then r.syy + d.2.2.1 else r.syy, sey := if okY then r.sey + d.2.2.2 else r.sey
            freshX := r.freshX + b2n okX, freshY := r.freshY + b2n okY })
          t1.regReport b spacing) s

/-- What the loops make of a frame at its end (R345 to R347, R297, R353, R419); without S0 there is no profile to solve or to search. -/
def State.ironFrame (s : State) (n : Nat) (f : CamFrame) (flk : Bool) (evs : List MemEv) : State :=
  let s1 := (badOf evs .ironAccumulator).foldl (fun (t : State) e => t.loseBin (e.key / 65536) (e.key % 65536)) s
  let r := s1.admitFrame n f flk (!(badOf evs .s0Profile).isEmpty)
  if !r.2 then r.1
  else (if s.streamOn n 0 then (r.1.streaks n f).accumulate n f else r.1).register n f

/-! ## Update points (R348 to R351, R355, R356) -/

/-- The Ironing table word of a nozzle. -/
def ironAddr (n : Nat) : Nat := 0x41000000 + 4 * n

/-- GAIN of a nozzle. -/
def State.gain (s : State) (n : Nat) : Nat := bits (s.word (ironAddr n)).toNat 0 8

/-- The pipeline and S0 bin a bar column belongs to (R349). -/
def State.binOwner (s : State) (b col : Nat) : Option (Nat × Nat) :=
  (List.range 4).findSome? (fun n =>
    if !s.cpOn n ∨ !s.streamOn n 0 ∨ !s.sees n b then none
    else
      let x := s.pixelOf n b col
      if x < 0 ∨ (s.cpWidth n : Int) ≤ x then none else some (n, x.toNat / (s.rd (R.CP_S0_BIN n) + 1)))

/-- A nozzle is held (R350). -/
def State.heldGain (s : State) (c n : Nat) : Bool := s.heldByList n || s.ctrl c ctrlFreeze || s.ctrl c ctrlMute

/-- The nozzles of a bar with the bins they belong to: pipeline, bin, nozzle, held. -/
def State.ownedNozzles (s : State) (b : Nat) : List ((Nat × Nat) × Nat × Bool) :=
  (s.barChannels b).flatMap (fun c =>
    let nb := s.nbase c
    (List.range (s.chWidth c)).filterMap (fun i =>
      (s.binOwner b (s.cf (R.CH_POS_XPOS c) + i)).map (fun o => (o, nb + i, s.heldGain c (nb + i)))))

/-- The gains of one bin move (R348, R351). -/
def State.moveBin (s : State) (b k : Nat) (o : Nat × Nat) (u : List Nat) : State :=
  if !s.estValid o.1 o.2 k ∨ u.isEmpty then s
  else
    let t : Rat := 128 * (s.rd (R.INK_NOM_E_NOM k) : Rat) / s.estOf o.1 o.2 k
    let m := meanRat (u.map (fun n => (s.gain n : Rat)))
    let dead : Rat := (s.rd R.IRON_STEP_DEAD : Rat) / 16
    let d : Int := if dead < t - m then 1 else if dead < m - t then -1 else 0
    if d = 0 then s
    else
      let s1 := u.foldl (fun (x : State) n => x.setWord (ironAddr n)
        (BitVec.ofNat 32 (withBits (x.word (ironAddr n)).toNat 0 8 (clampI 0x40 0xC0 (x.gain n + d)).toNat))) s
      if 0xC0 < t ∨ t < 0x40 then
        if s1.iron.limits.contains (b, o.1, o.2) then s1
        else (({ s1 with iron := { s1.iron with limits := s1.iron.limits ++ [(b, o.1, o.2)] } }).inc R.IRON_GAINLIM_COUNT).raise
          Ev.GAIN_AT_LIMIT b (o.2 % 65536 + 65536 * o.1)
      else s1

/-- The bins whose target has come back within the limits leave that state (R351). -/
def State.leaveLimits (s : State) (b k : Nat) : State :=
  { s with iron := { s.iron with limits := s.iron.limits.filter (fun x =>
      !(x.1 == b && s.estValid x.2.1 x.2.2 k &&
        decide (0x40 * s.estOf x.2.1 x.2.2 k ≤ 128 * (s.rd (R.INK_NOM_E_NOM k) : Rat)) &&
        decide (128 * (s.rd (R.INK_NOM_E_NOM k) : Rat) ≤ 0xC0 * s.estOf x.2.1 x.2.2 k))) } }

/-- The gains of a bar move at an update point (R348). -/
def State.moveGains (s : State) (b : Nat) : State :=
  match s.inkOf b with
  | none => s
  | some k =>
    let owned := s.ownedNozzles b
    let s1 := ((owned.map (·.1)).eraseDups).foldl (fun (t : State) o =>
      t.moveBin b k o ((owned.filter (fun e => e.1 == o && !e.2.2)).map (·.2.1))) s
    (s1.leaveLimits b k).inc (R.BAR_IUPD_COUNT b)

/-- REG keeps R210 for every channel of a bar, with the values given. -/
def State.regFits (s : State) (b : Nat) (phi reg : Int) : Bool :=
  (s.barChannels b).all (fun c => decide (0 ≤ phi + reg + 4 * s.rd (R.CH_FINE_FINE c) ∧ phi + reg + 4 * s.rd (R.CH_FINE_FINE c) < 4096))

/-- The value nearest to `want` on the way from `reg` that keeps R210. -/
def State.nearReg (s : State) (b : Nat) (want : Int) : Int :=
  let fines := (s.barChannels b).map (fun c => 4 * (s.rd (R.CH_FINE_FINE c) : Int))
  let phi : Int := s.rd (R.TG_DELAY_PHI b)
  clampI (fines.foldl (fun m f => max m (-(phi + f))) (-4096)) (fines.foldl (fun m f => min m (4095 - phi - f)) 4095) want

/-- Registration along the web at an update point (R355). -/
def State.moveReg (s : State) (b : Nat) : State :=
  if !s.flag (R.BAR_REGCFG_REG_EN b) ∨ !s.flag (R.BAR_REGSTAT_Y_VALID b) then s
  else
    let d := divNear (s.rdI (R.BAR_REGERR_ERR_Y b) * s.rd (R.BAR_REGCFG_REG_GAIN b)) 8
    if d.natAbs ≤ s.rd (R.BAR_REGCFG_REG_DEAD b) then s
    else
      let want := s.rdI (R.TG_REG_REG b) + clampI (-256) 256 d
      let v := s.nearReg b want
      let s1 := (((s.wrI (R.TG_REG_REG b) v).restartY b).addSat (R.BAR_REGUPD_REG b) 1).wrB (R.BAR_REGSTAT_REG_LIMIT b) (v != want)
      if v = want then s1 else s1.raise Ev.REGISTRATION_LIMIT b 0

/-- Registration across the web at an update point (R356). -/
def State.moveLat (s : State) (b : Nat) : State :=
  let e := s.rdI (R.BAR_REGERR_ERR_X b)
  if !s.flag (R.BAR_REGCFG_LAT_EN b) ∨ !s.flag (R.BAR_REGSTAT_X_VALID b) ∨ e.natAbs ≤ s.rd (R.BAR_REGCFG_LAT_HYST b) ∨
      (s.pendWord (R.BAR_LAT b)).isSome then s
  else
    let want := s.rdI (R.BAR_LAT_LAT b) + e.sign
    if 8 < want.natAbs then (s.wr (R.BAR_REGSTAT_LAT_LIMIT b) 1).raise Ev.REGISTRATION_LIMIT b 1
    else
      let w := BitVec.ofNat 32 (withBits (s.word (R.BAR_LAT b)).toNat 0 5 (unsigned 5 want))
      ((s.setPend (R.BAR_LAT b) w).addSat (R.BAR_REGUPD_LAT b) 1).wr (R.BAR_REGSTAT_LAT_LIMIT b) 0

/-- An update point of a bar: each 8,192nd piece line of its delay-0 rows (R348, R355, R356). -/
def State.updatePoint (s : State) (b : Nat) : State :=
  let g := s.tg b
  if g.pieceLines / 8192 ≤ g.updates then s
  else
    let s1 := s.onTg b (fun x => { x with updates := x.updates + 1 })
    let s2 := if s1.flag R.IRON_CFG_EN then s1.moveGains b else s1
    if (s2.inkOf b).isSome then (s2.moveReg b).moveLat b else s2

/-! ## The end of a frame -/

/-- A frame ends: preview flushed, flicker, SHORT and LONG, profile, record, white table, loops (R321, R326 to R338, R345). -/
def State.endFrame (s : State) (n : Nat) (evs : List MemEv) : State :=
  match (s.cam n).frame with
  | none => s
  | some _ =>
    let s0 := s.s2Flush n
    match (s0.cam n).frame with
    | none => s
    | some f =>
      let fk := s0.flicker n f
      let r := fk.1.frameEnds n f
      let s1 := if r.1.streamOn n 0 then r.1.writeProfile n f else r.1
      let s2 := s1.writeRecord n f { r.2 with flicker := fk.2 }
      let s3 := (badOf evs .historyRow).foldl (fun (t : State) e =>
        { t with hist := t.hist.filter (fun x => !(x.bar == e.key % 16 && x.row == e.key / 16)) }) s2
      let s4 := if s3.flag (R.CP_FF_FF_EN n) ∧ !f.transition ∧ !fk.2 then s3.learnWhite n f else s3
      (s4.ironFrame n f fk.2 evs).dropFrame n f (decide (f.lines.length < s.cpHeight n))

/-- The abort of a frame; false: none in progress (R321, R337, R345). -/
def State.camAbort (s : State) (n : Nat) : State × Bool :=
  match (s.cam n).frame with
  | none => (s, false)
  | some f =>
    let r := (s.endCrop n true).frameEnds n f
    let s1 := (((r.1.writeRecord n f { r.2 with aborted := true }).admitFrame n f false true).1).dropFrame n f true
    (s1.onCam n (fun c => { c with drop := true, gap := true }), true)

/-- A Frame Start (R316, R321, R324): the frame before is closed if it still lacks its end. -/
def State.frameStart (s : State) (n : Nat) (p : Packet) : State :=
  let r := s.takePacket n p
  if !r.2 then r.1
  else if p.dt.toNat ≠ 0 then r.1.inc (R.CL_DISCARD_COUNT n)
  else (r.1.endFrame n []).beginFrame n p.wc.toNat

/-- A Frame End. -/
def State.frameEnd (s : State) (n : Nat) (p : Packet) (evs : List MemEv) : State :=
  let r := s.takePacket n p
  if !r.2 then r.1
  else if p.dt.toNat ≠ 1 then r.1.inc (R.CL_DISCARD_COUNT n)
  else if (r.1.cam n).frame.isNone then (if (r.1.cam n).drop then r.1 else r.1.inc (R.CL_DISCARD_COUNT n))
  else (r.1.memErrors evs).endFrame n evs

/-- A camera lane returns to HUNT (R313, R321). -/
def State.camLaneLost (s : State) (n invalid noIdle : Nat) : State :=
  let s1 := s.add (R.CL_SYMERR_COUNT n) invalid
  if s1.rd (R.CL_STATUS_STATE n) = 2 ∧ (8 ≤ invalid ∨ 16384 ≤ noIdle) then
    let s2 := (((s1.wr (R.CL_STATUS_STATE n) 1).inc (R.CL_LOCK_LOSS_COUNT n)).lifeAdd (0x160 + 2 * n) 2 1).endFrame n []
    if s2.cpOn n then s2.wr (R.CP_STATUS_STATE n) 1 else s2
  else s1

/-- A camera lane locks, and its pipeline is armed (R313, R318). -/
def State.camLaneLock (s : State) (n sets : Nat) : State :=
  if s.rd (R.CL_STATUS_STATE n) = 1 ∧ 16 ≤ sets then
    let s1 := s.wr (R.CL_STATUS_STATE n) 2
    if s1.cpOn n then s1.armCam n else s1
  else s

end Sys2Proof.Machine
end

