-- ==== Sys2Proof/Machine/TableOps.lean ====
section
/-! DEFINITION. The table windows: which locations exist, which the host may write, what a write is refused for, and what it does
besides (R108, R109, R228 to R231, R247, R299, R310, R339, R352, R359, R360, R420, R423, R454). -/

namespace Sys2Proof.Machine

/-- A piece in the queue names a tone bank (R231). -/
def State.toneHeld (s : State) (t : Nat) : Bool := s.pieces.any (fun p => p.bars.any (fun b => p.tone b == t))

/-- A piece in the queue names a threshold array (R231). -/
def State.screenHeld (s : State) (a : Nat) : Bool := s.pieces.any (fun p => p.bars.any (fun b => p.screen b == a))

/-- A piece in the queue names a glyph set (R231). -/
def State.glyphsHeld (s : State) (g : Nat) : Bool :=
  s.pieces.any (fun p => (List.range p.liveCount).any (fun i => le (s.fieldRec p i) 1 1 == g))

/-- The words of a threshold array (R230). -/
def State.screenWords (s : State) (a : Nat) : Nat :=
  (s.rd (R.SCR_CFG_W a) + 1) * (s.rd (R.SCR_CFG_H a) + 1) * (if s.flag (R.SCR_CFG_K7 a) then 3 else 1)

/-- The address lies in `n` windows of `size` bytes that repeat every `step` from `base`. -/
def inWindows (a base step n size : Nat) : Bool := decide (base ≤ a ∧ a < base + step * n ∧ (a - base) % step < size)

/-- The assigned bits of a writable location; none: the location is read-only or is none. -/
def State.tableMask (s : State) (a : Nat) : Option Nat :=
  if inWindows a 0x41000000 0x400000 1 0x400000 then some 0xFFFF
  else if inWindows a 0x41800000 0x1000 16 0x1000 then some 0x3FF
  else if inWindows a 0x41810000 0x200 16 0x200 then some 0xFFFFFFFF
  else if inWindows a 0x42000000 0x100000 16 (4 * s.screenWords ((a - 0x42000000) / 0x100000)) then
    let k7 := s.flag (R.SCR_CFG_K7 ((a - 0x42000000) / 0x100000))
    some (if k7 ∧ a % 0x100000 / 4 % 3 = 2 then 0x3FF else 0x3FFFFFFF)
  else if inWindows a 0x44000000 0x100000 1 0x100000 then some 0xFFFFFFFF
  else if inWindows a 0x46080000 0x20000 4 0x20000 then some (if a % 8 = 4 then 0xFFFF else 0xFFFFFFFF)
  else if inWindows a 0x4A000000 0x400 8 0x400 then some 0x3FF
  else none

/-- A location of a read-only window. -/
def tableRo (a : Nat) : Bool :=
  inWindows a 0x45000000 0x20000 1 0x20000 || inWindows a 0x45080000 0x800 4 0x500 || inWindows a 0x46000000 0x10000 4 0x10000 ||
  inWindows a 0x46100000 0x2000 4 0x2000 || inWindows a 0x46200000 0x20000 4 0x20000 ||
  inWindows a 0x47000000 0x400000 4 0x400000 || inWindows a 0x4A100000 0x80000 4 0x80000 || inWindows a 0x4B000000 0x100 3 0x100 ||
  inWindows a 0x4B001000 0x200 1 0x200 || inWindows a 0x4B002000 0x7000 1 0x7000 || inWindows a 0x4C000000 0x200 1 0x200 ||
  inWindows a 0x4E000000 0x20000 1 0x20000

/-- The address is a location of a table window (R109). -/
def State.tableAt (s : State) (a : Nat) : Bool := a % 4 == 0 && ((s.tableMask a).isSome || tableRo a)

/-- A write of a table word is refused: a GAIN out of range or an index past the nozzles (R228), a resource held by a piece (R231). -/
def State.tableRefused (s : State) (a : Nat) (w : Word) : Bool :=
  if inWindows a 0x41000000 0x400000 1 0x400000 then
    decide (w.toNat % 256 < 0x40 ∨ 0xC0 < w.toNat % 256 ∨ s.allNozzles ≤ (a - 0x41000000) / 4)
  else if inWindows a 0x41800000 0x1000 16 0x1000 then s.toneHeld ((a - 0x41800000) / 0x1000)
  else if inWindows a 0x42000000 0x100000 16 0x100000 then s.screenHeld ((a - 0x42000000) / 0x100000)
  else if inWindows a 0x44000000 0x100000 1 0x100000 then
    (List.range 16).any (fun g => decide (s.rd (R.GS_BASE_BYTES g) ≤ a - 0x44000000 ∧
      a - 0x44000000 < s.rd (R.GS_BASE_BYTES g) + s.rd (R.GS_SIZE_BYTES g)) && s.glyphsHeld g)
  else false

/-- A table word is written: its assigned bits, the end of an uncontained error there (R420), and what R352 asks of a response. -/
def State.tableWrite (s : State) (a : Nat) (w : Word) : State :=
  match s.tableMask a with
  | none => s
  | some m =>
    let s1 := (s.setWord a (w &&& BitVec.ofNat 32 m)).madeGood a
    if inWindows a 0x4A000000 0x400 8 0x400 then s1.ironReset ((a - 0x4A000000) / 0x400) else s1

end Sys2Proof.Machine
end

