-- ==== Sys2Proof/Machine/Live.lean ====
section
/-! DEFINITION. What a READ sees at an address: stored words with their reserved and write-only bits zero, the span blocks, the
read-only tables, and the fields whose value follows from the rest of the state (R6, R109, R110, R448, R454). -/

namespace Sys2Proof.Machine

/-! ## The lifetime record (R448) -/

/-- The counts of the record: offset and width. -/
def lifeRows : List (Nat × Nat) :=
  [(0x018, 4), (0x01C, 4), (0x020, 4), (0x024, 4), (0x028, 4)] ++ (List.range 6).map (fun i => (0x02C + 2 * i, 2)) ++
  [(0x038, 8), (0x040, 8)] ++ (List.range 5).map (fun i => (0x048 + 4 * i, 4)) ++ [(0x05C, 4), (0x060, 4), (0x064, 4)] ++
  (List.range 5).map (fun i => (0x068 + 2 * i, 2)) ++ [(0x072, 2), (0x074, 2), (0x076, 2), (0x078, 4), (0x07C, 4)] ++
  (List.range 8).map (fun i => (0x080 + 4 * i, 4)) ++ [(0x0A0, 2), (0x0A2, 2)] ++ (List.range 8).map (fun i => (0x0A4 + 4 * i, 4)) ++
  [(0x0C4, 4), (0x0C8, 2), (0x0CA, 2), (0x0CC, 4)] ++
  (List.range 2).flatMap (fun n => [(0x0D0 + 16 * n, 4), (0x0D4 + 16 * n, 2), (0x0D6 + 16 * n, 2), (0x0D8 + 16 * n, 2),
    (0x0DA + 16 * n, 2), (0x0DC + 16 * n, 4)]) ++ (List.range 16).map (fun i => (0x0F0 + 4 * i, 4)) ++
  [(0x130, 1), (0x131, 1), (0x132, 2), (0x134, 4)] ++ (List.range 16).map (fun i => (0x138 + 2 * i, 2)) ++
  [(0x158, 4), (0x15C, 4)] ++ (List.range 4).map (fun i => (0x160 + 2 * i, 2)) ++ [(0x168, 2), (0x16A, 2), (0x16C, 2), (0x16E, 2),
    (0x170, 4), (0x174, 4), (0x178, 4), (0x17C, 4), (0x180, 2), (0x182, 2), (0x184, 4), (0x188, 4), (0x18C, 4), (0x190, 4),
    (0x194, 2), (0x196, 2), (0x198, 4), (0x19C, 4), (0x1A0, 2), (0x1A2, 2), (0x1A4, 4), (0x1A8, 4), (0x1AC, 2), (0x1AE, 2),
    (0x1B0, 4), (0x1B4, 2), (0x1B6, 2), (0x1B8, 4)]

/-- TB0_S of a record made now: 0 while TB0 has never been locked (R448). -/
def State.tb0Seconds (s : State) : Nat := if (s.tb 0).lastLocked.isNone && !(s.tb 0).everSet then 0 else (s.utcOf (s.tb 0).ns).toNat

/-- The 512 bytes of a record with a cause and a generation (R448). -/
def State.lifeBytes (s : State) (cause gen : Nat) : List Byte :=
  let body := leBytes 2 0x4B4A ++ leBytes 1 1 ++ leBytes 1 cause ++ leBytes 4 gen ++ leBytes 8 Config.dieId.toNat ++ leBytes 8 s.tb0Seconds ++
    lifeRows.flatMap (fun r => leBytes r.2 (Sparse.get 0 s.life r.1)) ++ List.replicate 64 0
  body ++ leBytes 4 (crc32 body)

/-! ## Span blocks (R110, R116) -/

/-- The configured followers of a lead, as the last Dawn built the set (R114, R119). -/
def State.setFollowers (s : State) : List Nat :=
  if s.cf R.SET_ROLE_ROLE = 1 then (List.range 15).filter (fun n => s.cf (R.SET_FOLLOW_IP_IP n) != 0) else []

/-- What the lead knows of a follower. -/
def State.follower (s : State) (n : Nat) : Follower := Sparse.get {} s.followers n

/-- One word of a follower's root block as last reported. -/
def Follower.word (f : Follower) (i : Nat) : Nat := (f.block.getD i 0).toNat

/-- The follower whose window mirrors a span number, and the number there (R115). -/
def State.mirror (s : State) (n : Nat) : Option (Nat × Nat) :=
  (s.setFollowers.find? (fun k => decide (s.cf (R.SET_FOLLOW_MAP_SPAN_BASE k) ≤ n ∧
    n < s.cf (R.SET_FOLLOW_MAP_SPAN_BASE k) + s.cf (R.SET_FOLLOW_MAP_SPAN_COUNT k)))).map
    (fun k => (k, n - s.cf (R.SET_FOLLOW_MAP_SPAN_BASE k)))

/-- The mirrored root of a follower, as a span number of the lead. -/
def State.mirrorRoot (s : State) (k : Nat) : Nat := s.cf (R.SET_FOLLOW_MAP_SPAN_BASE k) + (s.follower k).word 0 % 4096

/-- A node of the tree. -/
def State.node (s : State) (n : Nat) : Option SpanNode := s.spans.nodes.find? (fun x => x.num == n)

/-- The members of a span by rising rank, the mirrored roots behind the lead's own members of its root (R114). -/
def State.members (s : State) (x : SpanNode) : List Nat :=
  (((s.spans.nodes.filter (fun y => y.parent == some x.num)).mergeSort (fun a b => decide (a.rank ≤ b.rank))).map (·.num)) ++
    (if x.parent.isNone then s.setFollowers.map s.mirrorRoot else [])

/-- The level of a node: 0 for the root. -/
def State.levelOf (s : State) : Nat → SpanNode → Nat
  | 0, _ => 0
  | d + 1, x => match x.parent with
    | none => 0
    | some p => match s.node p with
      | none => 0
      | some y => s.levelOf d y + 1

/-- The followers whose leaves a span holds: all of them for the set span. -/
def State.followersUnder (s : State) (x : SpanNode) : List Follower :=
  if x.parent.isNone then s.setFollowers.map s.follower else []

/-- The next member of the parent by rank. -/
def State.siblingOf (s : State) (x : SpanNode) : Nat :=
  match x.parent.bind s.node with
  | none => 0xFFFF
  | some p => (((s.members p).dropWhile (fun m => m != x.num)).drop 1).headD 0xFFFF

/-- The 16 words of a span's block. -/
def State.spanBlock (s : State) (x : SpanNode) : List Nat :=
  let all := s.leavesOf x.num
  let ls : List Nat := match x.chan with
    | some c => [c]
    | none => all.filter s.chOn
  let fs := s.followersUnder x
  let live := fs.filter (fun (f : Follower) => f.word 10 != 0)
  let ctl := fun c => (s.leaf c).ctrl.toNat
  let all1 := if ls.isEmpty && live.isEmpty then 0
    else (ls.map ctl ++ live.map (·.word 5)).foldl Nat.land 0xFFFF
  let any1 := (ls.map ctl ++ fs.map (·.word 6)).foldl Nat.lor 0
  let now := (ls.map s.leafNow ++ fs.map (fun (f : Follower) => f.word 7 ||| (if f.lost then 512 else 0))).foldl Nat.lor 0
  let sticky := (ls.map (fun c => if s.chOn c then (s.leaf c).sticky.toNat else 0) ++
    fs.map (fun (f : Follower) => f.word 8 ||| (if f.sticky then 512 else 0))).foldl Nat.lor 0
  let on := ls.filter s.chOn
  let nozzles := (on.map (fun c => (s.leaf c).snapNozzles)).sum + (fs.map (·.word 10)).sum
  let mended := (on.map (fun c => (s.leaf c).snapMended)).sum + (fs.map (·.word 11)).sum
  let lines := (on.map (fun c => (s.leaf c).snapLines)).sum + (fs.map (fun (f : Follower) => f.word 12 + 2 ^ 32 * f.word 13)).sum
  let drops := (on.map (fun c => (s.leaf c).snapDrops)).sum + (fs.map (fun (f : Follower) => f.word 14 + 2 ^ 32 * f.word 15)).sum
  let mem := s.members x
  [x.num + 2 ^ 12 * b2n x.chan.isNone + 2 ^ 14 * s.levelOf 8 x + 2 ^ 17 * (if x.chan.isNone then mem.length else 0),
    x.parent.getD 0xFFFF + 2 ^ 16 * (if x.chan.isNone then mem.headD 0xFFFF else 0xFFFF),
    s.siblingOf x + 2 ^ 16 * x.chan.getD 0xFFFF, 0, 0, all1, any1, now, sticky, s.spans.snap, nozzles, mended,
    lines, lines / 2 ^ 32, drops, drops / 2 ^ 32]

/-! ## Read-only tables (R294, R299, R415, R423) -/

/-- The two words of a mending-list entry (R299). -/
def Mend.words (m : Mend) : Nat × Nat :=
  (m.nozzle + 2 ^ 20 * m.source + 2 ^ 23 * b2n m.pinned + 2 ^ 24 * b2n m.ambig + 2 ^ 25 * m.method + 2 ^ 28 * m.passes, m.listed)

/-- The words of a correctable-error entry (R423). -/
def Ce.words (e : Ce) : List Nat :=
  [e.addr.toNat, (if e.hard then 2 else 1) + 2 ^ 8 * e.count + 2 ^ 16 * e.bit, e.first, e.last]

/-- The words of a remap entry with its spare index (R423). -/
def remapWords (e : Word × Bool) (spare : Nat) : List Nat := [e.1.toNat, spare + 2 ^ 8 * b2n e.2]

/-- The spare of an SRAM remap: its place among those of its instance (R416). -/
def sramSpare (l : List (Word × Bool)) (i : Nat) : Nat :=
  ((l.take i).filter (fun x => x.1.toNat / 65536 == (l.getD i (0, false)).1.toNat / 65536)).length

/-- One word of a read-only table that the state holds in another form; none: a stored word. -/
def State.tableLive (s : State) (a : Nat) : Option Nat :=
  if inWindows a 0x45000000 0x20000 1 0x20000 then
    let m := s.darn.list[(a - 0x45000000) / 8]?
    some (m.elim 0 (fun e => if a % 8 = 0 then e.words.1 else e.words.2))
  else if inWindows a 0x45080000 0x800 4 0x500 then
    let g := Sparse.get {} s.gates ((a - 0x45080000) / 0x800)
    let i := a % 0x800 / 4
    some (if i < 64 then (g.amps.filter (fun v => v / 64 == i)).length else g.bins.getD (i - 64) 0)
  else if inWindows a 0x4B000000 0x100 3 0x100 then
    let e := (s.ceTable ((a - 0x4B000000) / 0x100)).find? (fun e => e.slot == a % 0x100 / 16)
    some (e.elim 0 (fun e => e.words.getD (a % 16 / 4) 0))
  else if inWindows a 0x4B001000 0x200 1 0x200 then
    let i := (a - 0x4B001000) / 8
    some ((s.mem.hbmMap[i]?).elim 0 (fun e => (remapWords e i).getD (a % 8 / 4) 0))
  else if inWindows a 0x4B002000 0x7000 1 0x7000 then
    let i := (a - 0x4B002000) / 8
    some ((s.mem.sramMap[i]?).elim 0 (fun e => (remapWords e (sramSpare s.mem.sramMap i)).getD (a % 8 / 4) 0))
  else if inWindows a 0x4C000000 0x200 1 0x200 then some (le (s.lifeBytes 0 (s.rd R.LIFE_GEN_GEN)) (a - 0x4C000000) 4)
  else none

/-! ## Registers that follow from the rest of the state -/

/-- The piece names a location in [lo, hi) (R135, WINn_STATUS). -/
def State.refersTo (s : State) (lo hi : Nat) (p : Piece) : Bool :=
  let meets := fun (a n : Nat) => decide (a < hi ∧ lo < a + n)
  meets (le p.desc 0x20 8) (16 * p.bandCount) || meets (le p.desc 0x38 8) 1024 ||
    (p.liveCount != 0 && meets (le p.desc 0x30 8) (64 * p.liveCount)) ||
    (List.range p.bandCount).any (fun i => meets (s.bandEntry p i).1 (s.bandEntry p i).2.1)

/-- The region of a data window in bytes. -/
def State.winRegion (s : State) (n : Nat) : Nat × Nat :=
  (4096 * s.rd (R.WIN_BASE_BASE n), 4096 * (s.rd (R.WIN_BASE_BASE n) + s.rd (R.WIN_SIZE_SIZE n)))

/-- The window is open, as a data window, or as a pieces window. -/
def State.dataWin (s : State) (n : Nat) : Bool := s.flag (R.WIN_CFG_OPEN n) && !s.flag (R.WIN_CFG_KIND n)
def State.pieceWin (s : State) (n : Nat) : Bool := s.flag (R.WIN_CFG_OPEN n) && s.flag (R.WIN_CFG_KIND n)

/-- WINn_STATUS.REFS: only an open data window has a region. -/
def State.winRefs (s : State) (n : Nat) : Nat :=
  if s.dataWin n then (s.pieces.filter (s.refersTo (s.winRegion n).1 (s.winRegion n).2)).length else 0

/-- The hottest head: code and channel (R434). -/
def State.headHot (s : State) : Nat × Nat :=
  s.channels.foldl (fun (b : Nat × Nat) c =>
    match s.headTemp c with
    | none => b
    | some k => if b.1 = 255 ∨ b.1 < k then (k, c) else b) (255, 0)

/-- One bit for each number below `n` that passes a test. -/
def bitsOf (n : Nat) (p : Nat → Bool) : Nat := ((List.range n).map (fun i => if p i then 2 ^ i else 0)).sum

/-- The STATE code of SYS_STATE (R86). -/
def State.sysState (s : State) : Nat :=
  match s.pow.phase with
  | .maint => 4
  | .dusk => 2
  | _ => 1

/-! ## Loop-backs (R384, R460) -/

/-- The depth of a loop-back: 0–15 head lanes, 16–19 camera lanes, 20 the MFP pair, 21–22 network ports. -/
def State.loopDepth (s : State) (i : Nat) : Nat :=
  if i < 16 then s.rd (R.HL_LB_DEPTH i) else if i < 20 then s.rd (R.CL_LB_DEPTH (i - 16))
  else if i = 20 then s.rd R.MFP_LB_EN else s.rd (R.NP_LB_DEPTH (i - 21))

/-- Symbols per second, in 10^6, of a lane in loop-back at depth 3 or 4: the configured rate. -/
def State.loopMbaud (s : State) (i : Nat) : Nat :=
  if i < 16 then [1250, 3125, 6250, 10000].getD (s.cf (R.HL_CFG_RATE i)) 12500 else s.cf (R.CL_CFG_MBAUD (i - 16))

/-- What a running loop-back has counted beyond its register: the symbols of PRBS31 at depths 3 and 4 of a lane; every other count
is a free value, since the spec fixes neither the pace of the blocks and frames nor what fails. -/
def State.loopMore (s : State) (i site : Nat) (bits : Bool) : Nat :=
  if s.loopDepth i = 0 then 0
  else if bits ∧ 3 ≤ s.loopDepth i ∧ i < 20 then s.loopMbaud i * (s.time - Sparse.get 0 s.loops i) / 200000000
  else s.draw (site + 100 * i)

/-- The registers a loop-back counts in, with what they read now. -/
def State.loopFields (s : State) (i : Nat) : List (Field × Nat) :=
  let f := fun (r : Field) (site : Nat) (b : Bool) => (r, s.rd r + s.loopMore i site b)
  if i < 16 then [f (R.HL_LB_BITS_MBITS i) 3000 true, f (R.HL_LB_ERR_COUNT i) 3001 false]
  else if i < 20 then [f (R.CL_LB_BITS_MBITS (i - 16)) 3000 true, f (R.CL_LB_ERR_COUNT (i - 16)) 3001 false]
  else if i = 20 then [(R.MFP_LB_ERR_PAIR, min 65535 (s.rd R.MFP_LB_ERR_PAIR + s.loopMore i 3001 false))]
  else if 4 ≤ s.loopDepth i then []
  else [f (R.NP_LB_FRAMES_COUNT (i - 21)) 3000 false, f (R.NP_LB_ERR_COUNT (i - 21)) 3001 false]

/-- The loop-back whose counts the register at an address shows. -/
def loopAt (a : Nat) : Option Nat :=
  if inWindows a (R.HL_LB_BITS 0) 16 16 8 then some ((a - R.HL_LB_BITS 0) / 16)
  else if inWindows a (R.CL_LB_BITS 0) 16 4 8 then some (16 + (a - R.CL_LB_BITS 0) / 16)
  else if a = R.MFP_LB_ERR then some 20
  else if inWindows a (R.NP_LB_FRAMES 0) 256 2 8 then some (21 + (a - R.NP_LB_FRAMES 0) / 256)
  else none

/-- What a loop-back has counted is kept, and it starts again from now. -/
def State.loopMark (s : State) (i : Nat) : State :=
  State.drawn { (s.loopFields i).foldl (fun (t : State) e => t.wr e.1 e.2) s with loops := Sparse.put s.loops i s.time }

/-- The fields of the register at an address that are computed when read. -/
def State.liveFields (s : State) (a : Nat) : List (Field × Nat) :=
  let idx := fun (base step : Nat) => (a - base) / step
  let fam := fun (base step n : Nat) => inWindows a base step n 4
  if a = R.SYS_STATE then [(R.SYS_STATE_STATE, s.sysState)]
  else if a = R.PWR_CTRL then [(R.PWR_CTRL_RESTART_PEND, b2n s.pow.restart)]
  else if a = R.MFP_PEND then [(R.MFP_PEND_PEND, bitsOf 16 (fun n => (s.pendWord (R.MFP_CFG n)).isSome))]
  else if a = R.MFP_LEVEL then
    [(R.MFP_LEVEL_LEVEL, (s.draw 96) % 2 ^ 16 &&& bitsOf 16 (fun n =>
      s.rd (R.MFP_CFG_FUNC n) != 0x28))]
  else if fam (R.SUB_PEND 0) 16 4 then
    [(R.SUB_PEND_PEND (idx (R.SUB_PEND 0) 16), (s.sub (idx (R.SUB_PEND 0) 16)).queue.length)]
  else if fam (R.SET_FOLLOW_MAP 0) 8 15 then
    let n := idx (R.SET_FOLLOW_MAP 0) 8
    [(R.SET_FOLLOW_MAP_LINK_OK n, b2n (s.setFollowers.contains n && (s.follower n).heard && !(s.follower n).lost))]
  else if fam (R.TB_NOW_LO 0) 64 4 then
    [(R.TB_NOW_LO_NS (idx (R.TB_NOW_LO 0) 64), (s.tb (idx (R.TB_NOW_LO 0) 64)).ns % 2 ^ 32)]
  else if fam (R.TB_NOW_HI 0) 64 4 then
    [(R.TB_NOW_HI_NS (idx (R.TB_NOW_HI 0) 64), (s.tb (idx (R.TB_NOW_HI 0) 64)).ns / 2 ^ 32)]
  else if a = R.PQ_COUNT then
    [(R.PQ_COUNT_PENDING, s.pendingPieces.length),
      (R.PQ_COUNT_ADMITTED, (s.pendingPieces.filter (fun p => p.stage == .admitted)).length)]
  else if fam (R.WIN_STATUS 0) 16 64 then
    [(R.WIN_STATUS_REFS (idx (R.WIN_STATUS 0) 16), s.winRefs (idx (R.WIN_STATUS 0) 16))]
  else if a = R.FORM_USE then [(R.FORM_USE_TONE, bitsOf 16 s.toneHeld), (R.FORM_USE_SCREEN, bitsOf 16 s.screenHeld)]
  else if a = R.GSET_USE then [(R.GSET_USE_SETS, bitsOf 16 s.glyphsHeld)]
  else if fam (R.TG_STATUS 0) 64 16 then
    [(R.TG_STATUS_ACTIVE (idx (R.TG_STATUS 0) 64), b2n (s.barActive (idx (R.TG_STATUS 0) 64))),
      (R.TG_STATUS_PENDING (idx (R.TG_STATUS 0) 64), b2n (s.modePending (idx (R.TG_STATUS 0) 64)))]
  else if fam (R.CH_NBASE 0) 32 512 then [(R.CH_NBASE_NBASE (idx (R.CH_NBASE 0) 32), s.nbase (idx (R.CH_NBASE 0) 32))]
  else if fam (R.CP_STATUS 0) 512 4 then
    let n := idx (R.CP_STATUS 0) 512
    [(R.CP_STATUS_PEND n, b2n ((s.pendWord (R.CP_EXPO n)).isSome || (s.pendWord (R.CP_GAIN n)).isSome))]
  else if fam (R.CMP_STATUS 0) 32 64 then [(R.CMP_STATUS_OWNER (idx (R.CMP_STATUS 0) 32), b2n (s.owned (idx (R.CMP_STATUS 0) 32)))]
  else if fam (R.MEM_P_GBS 0) 4 6 then [(R.MEM_P_GBS_RATE (idx (R.MEM_P_GBS 0) 4), s.draw (71 + idx (R.MEM_P_GBS 0) 4) % 2 ^ 16)]
  else if a = R.HEAD_HOT then
    [(R.HEAD_HOT_CODE, s.headHot.1), (R.HEAD_HOT_CHAN, s.headHot.2),
      (R.HEAD_HOT_STALE, b2n (s.channels.any (fun c => s.flag (R.CH_HEADT_STALE c))))]
  else if a = R.NVM_DEFER then
    [(R.NVM_DEFER_QUEUED, s.nvm.held.length), (R.NVM_DEFER_STATE_PEND, b2n s.nvm.stPend), (R.NVM_DEFER_WINDOW, b2n (!s.nvm.windowShut))]
  else if a = R.TEST_STATE then
    [(R.TEST_STATE_WIPE_BUSY, b2n (s.pow.wipeStep != 0)), (R.TEST_STATE_SCAN_OPEN, b2n s.pow.scanOpen)]
  else if a = R.LIFE_STATUS then [(R.LIFE_STATUS_HELD, b2n (!s.nvm.held.isEmpty))]
  else if a = R.THERM_STATE then
    let served := s.inService
    [(R.THERM_STATE_SERVICE, b2n served), (R.THERM_STATE_TRIP_ARMED, b2n (!served))]
  else match loopAt a with
    | some i => (s.loopFields i).filter (fun e => e.1.addr == a)
    | none => []

/-- A word with fields set. -/
def withFields (w : Nat) (l : List (Field × Nat)) : Nat := l.foldl (fun v e => withBits v e.1.lo e.1.width e.2) w

/-- The word a READ returns from an address of the module's own; none: nothing is there (R109). -/
def State.readWord (s : State) (a : Nat) : Option Word :=
  if a % 4 ≠ 0 then none
  else if 0x40000000 ≤ a then
    if s.tableAt a then some (if s.pow.scanOpen then 0 else match s.tableLive a with
      | some v => BitVec.ofNat 32 v
      | none => s.word a) else none
  else if 0x01000000 ≤ a ∧ a < 0x01040000 then
    (s.node ((a - 0x01000000) / 64)).map (fun x => BitVec.ofNat 32 ((s.spanBlock x).getD (a % 64 / 4) 0))
  else match famOf a with
    | none => none
    | some f => some (BitVec.ofNat 32 (withFields
        ((s.word a).toNat &&& accMask f.rows (fun x => x != .wo)) (s.liveFields a)))

/-- What reading a register does to it: the maxima that a read ends (R181, R426). -/
def State.readEnds (s : State) (a : Nat) : State :=
  if inWindows a (R.LG_REV_MAX 0) 64 16 4 then s.setWord a (BitVec.ofNat 32 (s.rd (R.LG_DEPTH_DEPTH ((a - R.LG_REV_MAX 0) / 64))))
  else if a = R.SUP_VIN then s.wr R.SUP_VIN_VIN_MIN_MV (s.rd R.SUP_VIN_VIN_MV)
  else s

end Sys2Proof.Machine
end

