-- ==== Sys2Proof/Machine/Mgmt.lean ====
section
/-! DEFINITION. What every management message goes through: discard, refusal, repeat and reply (R88 to R97). -/

namespace Sys2Proof.Machine

/-- Management is open on a network port (R107); the maintenance state ignores MGMT_EN (R74). -/
def State.mgmtOpen (s : State) (np : Nat) : Bool :=
  match s.pow.phase with
  | .maint => true
  | _ => if np = 0 then s.flag R.MGMT_EN_NP0 else s.flag R.MGMT_EN_NP1

/-- The datagram is discarded without reply (R89). -/
def State.discards (s : State) (m : Msg) : Bool :=
  m.magic != 0x4B46 || m.len + 16 != m.udpLen || !m.udpOk || m.fragment || bit m.flags.toNat 0 || !s.mgmtOpen m.np

/-- The largest UDP payload of a port's frames (R92, R362). -/
def State.udpMax (s : State) (np : Nat) : Nat :=
  match s.pow.phase with
  | .maint => 1472
  | _ => s.rd (R.NP_CFG_FRAME np) - 46

/-- Sends a reply: same TYPE and SEQ, REPLY set, to the source through the port of the request (R93, R364, R366). -/
def State.sendReply (s : State) (m : Msg) (type status : Nat) (payload : List Byte) : State :=
  (s.emit (.udp none ⟨m.np, m.ip, m.dst.toNat, m.port.toNat,
    header type m.seq.toNat status 1 payload.length ++ payload⟩)).inc (R.NP_TX_FRAMES_COUNT m.np)

/-- The reply store without what is older than 1 s (R96). -/
def State.fresh (s : State) : List Held := s.held.filter (fun h => decide (s.time < h.at_ + secTicks 1))

/-- The replies of one source. -/
def ofSource (ip : Word) (port : BitVec 16) (h : Held) : Bool := h.ip == ip && h.port == port

/-- The most recent sources, newest first (R96). -/
def recentSources : List Held → List (Word × BitVec 16) → List (Word × BitVec 16)
  | [], acc => acc
  | h :: t, acc => if acc.contains (h.ip, h.port) then recentSources t acc else recentSources t (acc ++ [(h.ip, h.port)])

/-- Keeps the last 16 replies of each of the 32 most recent sources (R96). -/
def trimHeld (l : List Held) : List Held :=
  let src := (recentSources l.reverse []).take 32
  (src.flatMap (fun q => ((l.filter (ofSource q.1 q.2)).reverse.take 16).reverse)).mergeSort (fun x y => decide (x.at_ ≤ y.at_))

/-- Holds a reply (R96). -/
def State.hold (s : State) (m : Msg) (type status : Nat) (payload : List Byte) : State :=
  { s with held := trimHeld (s.fresh ++ [⟨m.ip, m.port, m.seq, type, status, payload, s.time⟩]) }

/-- A WRITE that is not answered OK counts once (R106). -/
def State.countRefused (s : State) (type status : Nat) : State :=
  if type = 2 ∧ status ≠ 0 then (s.inc R.CFG_REFUSED_COUNT).lifeAdd 0x190 4 1 else s

/-- Answers a request: the count of R106, the reply of R93 unless quiet, and the reply store of R96. -/
def State.answer (s : State) (m : Msg) (type : Nat) (stored quiet : Bool) (status : Nat) (payload : List Byte) : State :=
  let s1 := s.countRefused type status
  let s2 := if quiet then s1 else s1.sendReply m type status payload
  if stored then s2.hold m type status payload else s2

/-- One word of CFG_WRITES (R106). -/
def State.cfgWrite (s : State) : State := (s.inc R.CFG_WRITES_COUNT).lifeAdd 0x188 4 1

/-- One word of CFG_IGNORED (R106). -/
def State.cfgIgnored (s : State) : State := (s.inc R.CFG_IGNORED_COUNT).lifeAdd 0x18C 4 1

/-- What a request is, beside its header. -/
structure Request where
  type : Nat
  port : Nat
  /-- its reply is held (R96) -/
  stored : Bool
  /-- its payload length is right (R91) -/
  okLen : Bool
  /-- the length of the OK reply's payload (R92) -/
  replyLen : Nat
  /-- served in the maintenance state (R74) -/
  maint : Bool
  /-- served while a wipe runs or SCAN_OPEN is set (R462, R463) -/
  wiped : Bool
  deriving DecidableEq, Repr

/-- The module serves messages that reach a network port for a UDP port now. -/
def State.hears (s : State) (np port : Nat) : Bool :=
  match s.pow.phase with
  | .day | .dusk | .nightEntry => !s.farLoop np
  | .maint => port == 41002
  | _ => false

/-- A refusal that the module's state gives every message of a kind (R74, R82, R462, R463); none: it is served. -/
def State.stateRefusal (s : State) (q : Request) : Option Nat :=
  if s.pow.phase = .maint ∧ !q.maint then some Status.maintenance
  else if s.pow.phase = .nightEntry ∧ q.type ≠ 1 then some Status.powerState
  else if (s.pow.scanOpen ∨ s.pow.wipeStep ≠ 0) ∧ !q.wiped then some Status.refusedState
  else none

/-- The request is being answered by a follower already (R117). -/
def State.forwarded (s : State) (m : Msg) : Bool :=
  s.fwds.any (fun (f : Fwd) => f.msg.ip == m.ip && f.msg.port == m.port && f.msg.seq == m.seq)

/-- Serves one request: discards or refuses it, answers a repeat from the reply store, or runs `body`, which gives the new
state, and the STATUS and the reply's payload unless a follower is still to answer (R89 to R96, R117). The order of the checks is
assumption 6. -/
def State.serveLater (s : State) (m : Msg) (q : Request) (body : State → State × Option (Nat × List Byte)) : State :=
  if !s.hears m.np q.port then s
  else
    let s := s.inc (R.NP_RX_FRAMES_COUNT m.np)
    let quiet := q.type == 0x10 && bit m.flags.toNat 1
    if s.discards m then s.inc R.MGMT_DISCARD_COUNT
    else if m.version ≠ 1 then s.answer m q.type q.stored quiet Status.badVersion []
    else if m.dst.toNat ≠ q.port then s.answer m q.type q.stored quiet Status.badType []
    else if s.forwarded m then s
    else match (if q.stored then s.fresh.find? (fun h => ofSource m.ip m.port h && h.seq == m.seq) else none) with
      | some h => (s.sendReply m h.type h.status h.payload).inc R.MGMT_DUP_COUNT
      | none =>
        match s.stateRefusal q with
        | some st => s.answer m q.type q.stored quiet st []
        | none =>
          if !q.okLen ∨ s.udpMax m.np < 16 + q.replyLen then s.answer m q.type q.stored quiet Status.badLength []
          else
            let r := body s
            match r.2 with
            | some a => r.1.answer m q.type q.stored quiet a.1 a.2
            | none => r.1

/-- Serves one request that is answered at once. -/
def State.serve (s : State) (m : Msg) (q : Request) (body : State → State × Nat × List Byte) : State :=
  s.serveLater m q (fun t => ((body t).1, some (body t).2))

end Sys2Proof.Machine
end

