-- ==== Sys2Proof/Machine/PieceFlow.lean ====
section
/-! DEFINITION. How data and pieces come in, are admitted and bound, and how a reject output acts (R11, R21, R120 to R140, R190 to
R196). -/

namespace Sys2Proof.Machine

/-! ## Receive windows (R133 to R137) -/

/-- Adds [a, b) to an interval map. -/
def addInterval (a b : Nat) (m : Written) : Written :=
  let meets := fun (e : Nat × Nat) => decide (e.1 ≤ b ∧ a ≤ e.2)
  let l := m.filter meets
  let from_ := (l.map (·.1)).foldl min a
  let till := (l.map (·.2)).foldl max b
  ((m.filter (fun e => !meets e)) ++ [(from_, till)]).mergeSort (fun x y => decide (x.1 ≤ y.1))

/-- Bytes written to HBM by intake or DMA: the written maps of the open data windows that hold them follow (R135). -/
def State.jobWrite (s : State) (a : Nat) (bs : List Byte) : State :=
  let s1 := s.hbmWrite a bs
  { s1 with windows := (List.range 64).foldl (fun (m : Sparse Written) n =>
      let r := s.winRegion n
      let lo := max a r.1
      let hi := min (a + bs.length) r.2
      if s.dataWin n ∧ lo < hi then Sparse.upd [] m n (addInterval lo hi) else m) s1.windows }

/-- Every byte of [a, a + n) lies in one open data window and has been written (R135). -/
def State.complete_ (s : State) (a n : Nat) : Bool :=
  (List.range 64).any (fun w => s.dataWin w && decide ((s.winRegion w).1 ≤ a ∧ a + n ≤ (s.winRegion w).2) &&
    (Sparse.get [] s.windows w).any (fun e => decide (e.1 ≤ a ∧ a + n ≤ e.2)))

/-- Opens a window: its written map is empty (R137). -/
def State.winOpen (s : State) (n : Nat) : State :=
  { s.wr (R.WIN_CFG_OPEN n) 1 with windows := Sparse.set [] s.windows n [] }

/-- A data window may open as BASE, SIZE and DMA stand (R137). -/
def State.winFits (s : State) (n : Nat) : Bool :=
  s.flag (R.WIN_CFG_KIND n) || (s.rd (R.WIN_SIZE_SIZE n) != 0 && s.inJob (s.winRegion n).1 ((s.winRegion n).2 - (s.winRegion n).1) &&
    s.rd (R.DMA_STATUS_STATE (s.rd (R.WIN_CFG_DMA n))) == 4)

/-! ## The piece queue (R126, R127) -/

/-- The descriptor a number in use was queued with (R127). -/
def State.inUse (s : State) (num : Nat) : Option (List Byte) :=
  match s.piece num with
  | some p => some p.desc
  | none => (s.ended.find? (fun (e : Ended) => e.num == num && decide (s.rd R.PQ_LOG_COUNT_COUNT < e.index + 4097))).map (·.desc)

/-- The checks of R126 beyond the descriptor's own: R125, R191, R207, R230, R238. -/
def State.queueOk (s : State) (p : Piece) : Bool :=
  s.inJob (le p.desc 0x20 8) (16 * p.bandCount) && s.inJob (le p.desc 0x38 8) 1024 &&
  (p.liveCount == 0 || s.inJob (le p.desc 0x30 8) (64 * p.liveCount)) &&
  (List.range p.bandCount).all (s.bandEntryOk p) && s.chansOk p (s.chanMap p) && s.screensOk p && s.probeOk p && s.oneRoot p.bars &&
  s.recsOk p

/-- The lines a repeat piece is to print in repeats; none while endless (R121). -/
def Piece.asked (p : Piece) : Option Nat := if p.isRepeat ∧ le p.desc 0x0C 4 ≠ 0 then some (le p.desc 0x0C 4) else none

/-- A PUT to a pieces window: the piece is queued, or refused (R126, R127). -/
def State.queuePiece (s : State) (d : List Byte) : State × Nat :=
  let p : Piece := { desc := d }
  if d.length ≠ 256 then (s, Status.badLength)
  else match s.inUse p.num with
    | some old => (s, if old = d then Status.ok else Status.refusedValue)
    | none =>
      if !descOk d || !s.queueOk p then (s, Status.refusedValue)
      else if 4096 ≤ s.pendingPieces.length then (s, Status.refusedState)
      else ({ s with pieces := s.pieces ++ [{ p with repeats := p.asked }] }, Status.ok)

/-- A PUT (R126, R134): the new state and its STATUS. -/
def State.put (s : State) (payload : List Byte) : State × Nat × List Byte :=
  let w := le payload 0 2
  let off := le payload 4 4
  let d := payload.drop 8
  let t := s.toDay
  if 64 ≤ w ∨ !s.flag (R.WIN_CFG_OPEN w) then (t, Status.windowClosed, [])
  else if s.flag (R.WIN_CFG_KIND w) then
    if off ≠ 0 then (t, Status.badLength, [])
    else
      let r := t.queuePiece d
      (r.1, r.2, [])
  else if 4096 * s.rd (R.WIN_SIZE_SIZE w) < off + d.length then (t, Status.windowRange, [])
  else (t.jobWrite ((s.winRegion w).1 + off) d, Status.ok, [])

/-- The message of a PUT (R90 to R92). -/
def putRequest (payload : List Byte) : Request :=
  { type := 0x10, port := 41003, stored := false, okLen := decide (9 ≤ payload.length), replyLen := 0, maint := false, wiped := false }

/-- A PUT message, to a data window or to a pieces window. -/
def State.servePut (s : State) (m : Msg) (payload : List Byte) : State := s.serve m (putRequest payload) (fun t => t.put payload)

/-! ## Admission (R11, R121, R128 to R132) -/

/-- The maximum line rate of a bar in lines/s. -/
def State.maxRate (s : State) (b : Nat) : Nat := s.rd (R.TG_MAX_RATE_RATE b)

/-- The distinct band streams of a piece that its channels print, with holding bar and cost (R16, R129). -/
def State.streamsOf (s : State) (p : Piece) (cs : List (Nat × Nat)) : List BandRun :=
  ((cs.map (·.2)).eraseDups).map (fun e =>
    let bars := ((cs.filter (fun c => c.2 == e)).map (fun c => s.chBar c.1)).eraseDups.mergeSort (fun x y => decide (x ≤ y))
    let hold := bars.foldl (fun h b => if s.rd (R.TG_DELAY_WHOLE b) < s.rd (R.TG_DELAY_WHOLE h) then b else h) (bars.headD 0)
    let be := s.bandEntry p e
    { entry := e, addr := be.1, len := be.2.1, width := be.2.2, lines := p.lines, bars := bars, hold := hold,
      cost := (be.2.2 / 4 + 128) * maxOf (bars.map s.maxRate) })

/-- The engine a stream is placed on: the least loaded that takes new streams, with fewer than 32 of the piece's (R129, R163). -/
def State.engineFor (s : State) (placed : List BandRun) : Option Nat :=
  ((List.range 16).filter (fun e => !s.flag (R.DX_CTRL_DRAIN e) &&
      decide ((placed.filter (fun b => b.engine == e)).length < 32))).foldl
    (fun (o : Option Nat) e => match o with
      | none => some e
      | some x => if s.engineLoad placed e < s.engineLoad placed x then some e else some x) none

/-- Places the streams of a piece in order; none: an engine is missing. -/
def State.placeStreams (s : State) (bs : List BandRun) : Option (List BandRun) :=
  bs.foldl (fun (o : Option (List BandRun)) b => o.bind (fun l => (s.engineFor l).map (fun e => l ++ [{ b with engine := e }]))) (some [])

/-- The first-line test of R129 on one engine. -/
def State.firstLineOk (s : State) (bs : List BandRun) (e : Nat) : Bool :=
  let on := bs.filter (fun b => b.engine == e)
  let first := (on.map (fun b => b.width / 4 + 128 + 2048)).sum
  on.all (fun b =>
    let lw := (b.bars.map (fun x => s.rd (R.TG_LEAD_WARN_LINES x))).foldl min 65535
    decide (first * maxOf (b.bars.map s.maxRate) ≤ lw * (1000000000 - s.engineLoad bs e)) && decide (s.engineLoad bs e ≤ 1000000000))

/-- The blocks a line needs on a lane: every channel it serves, home or second (R129). -/
def State.laneNeed (s : State) (l : Nat) : Nat := (((s.slots l).map (fun e => s.frameBytes e.1)).sum + 59) / 60

/-- The ring depth of a shared stream's holding bar meets R16. -/
def State.depthOk (s : State) (b : BandRun) : Bool :=
  b.bars.length == 1 || decide (maxOf (b.bars.map (fun x =>
      s.rd (R.TG_DELAY_WHOLE x) - s.rd (R.TG_DELAY_WHOLE b.hold) + s.barDelay x)) +
    s.rd (R.TG_LEAD_WARN_LINES b.hold) + 2 ≤ s.cf (R.BAR_RING_DEPTH b.hold))

/-- What a piece would reserve, and the DETAIL bits of the tests of R129 that fail. -/
structure Costs where
  bands : List BandRun
  seq : List (Nat × Nat)
  root : Nat × Nat
  lanes : List (Nat × Nat)
  hbm : Nat
  pool : Nat
  detail : Nat

/-- The tests of R129. -/
def State.costs (s : State) (p : Piece) (cs : List (Nat × Nat)) : Costs :=
  let streams := s.streamsOf p cs
  let placed := s.placeStreams streams
  let bands := placed.getD streams
  let seq := p.bars.map (fun b => (b, s.barNozzles b * s.maxRate b))
  let root := (s.root false (p.bars.headD 0), 640 * maxOf (p.bars.map s.maxRate))
  let seqSum := ((List.range 16).map (fun b => max (s.seqRes b) ((seq.find? (fun e => e.1 == b)).elim 0 (·.2)))).sum +
    128 * ((List.range 48).map (fun g => max (s.ovhRes g) (if g = root.1 then root.2 else 0))).sum
  let lanes := ((cs.flatMap (fun e => s.chanLanes e.1)).eraseDups).map (fun l => (l, s.laneNeed l))
  let hbm := (p.bars.map (fun b => 2 * s.barNozzles b * s.maxRate b)).sum * p.lines +
    (bands.map (fun b => (b.width * p.lines + b.len) * maxOf (b.bars.map s.maxRate))).sum
  let pool := if p.isRepeat then p.lines * (bands.map (·.width)).sum else 0
  let bad := fun (i : Nat) (ok : Bool) => if ok then 0 else 2 ^ i
  { bands := bands, seq := seq, root := root, lanes := lanes, hbm := hbm, pool := pool,
    detail := bad 0 (decide (seqSum ≤ 128 * 920000000)) +
      bad 1 (placed.isSome && (List.range 16).all (fun e => decide (s.engineLoad bands e ≤ 1000000000))) +
      bad 2 ((List.range 16).all (fun e => s.firstLineOk bands e || (bands.all (fun b => b.engine != e)))) +
      bad 3 (lanes.all (fun e => decide (max (s.laneRes e.1) e.2 ≤ s.haveBlocks e.1))) +
      bad 4 (decide (hbm ≤ (416 - s.rd R.HBM_ALLOW_GBS) * 1000000000 * p.lines)) +
      bad 5 (p.bars.all (fun h => decide (((bands.filter (fun b => b.hold == h)).map (·.width)).sum ≤ 1024 * s.cf (R.BAR_RING_LINE_KIB h))) &&
        bands.all s.depthOk) +
      bad 6 (decide (pool ≤ 4096 * s.cf R.REPEAT_POOL_SIZE)) }

/-- The configuration checks made at admission (R121, R125, R130, R191, R207, R230). -/
def State.configOk (s : State) (p : Piece) (cs : List (Nat × Nat)) : Bool :=
  let ahead := s.pieces.takeWhile (fun q => q.num != p.num)
  let last := fun (b : Nat) => (ahead.filter (fun q => bit q.barMask b)).getLast?
  s.chansOk p cs && p.bars.all (fun b => !(s.barChannels b).isEmpty) && s.probeOk p && s.oneRoot p.bars && s.screensOk p &&
    !(p.isRepeat && p.bars.any (fun b => (last b).any (fun q => q.startRule == 1)))

/-- The first band-table entry that fails its container check (R11, R153). -/
def State.badStream (s : State) (p : Piece) : Option Nat :=
  (List.range p.bandCount).find? (fun i => let e := s.bandEntry p i; !s.containerOk e.1 e.2.1 e.2.2 p.lines)

/-- An endless repeat ahead of a piece that passes R11 ends with the repeat in progress (R121). -/
def State.endRepeats (s : State) (p : Piece) : State :=
  let ahead := (s.pieces.takeWhile (fun q => q.num != p.num)).map (·.num)
  { s with pieces := s.pieces.map (fun (q : Piece) =>
      if ahead.contains q.num ∧ q.isRepeat ∧ q.repeats = none ∧ q.shares p then
        { q with repeats := some ((maxOf (q.formed.map (·.2)) - 1) / q.lines + 1) } else q) }

/-- A piece is refused at admission (R130). -/
def State.refusePiece (s : State) (p : Piece) (reason detail : Nat) : State :=
  (((s.wr R.PQ_REFUSED_REASON reason).wr R.PQ_REFUSED_DETAIL detail).wr R.PQ_REFUSED_PIECE_PIECE p.num).complete p (.refused reason)

/-- Numbers and banks for placed streams, lowest first; none: too few are free (R162). -/
def State.number (s : State) (bs : List BandRun) : Option (List BandRun) :=
  let nums := (List.range 512).filter (fun k => !s.flag (R.BAND_OWNER_VALID k))
  let free := fun (e : Nat) => (List.range 32).filter (fun k => !(s.banks e).contains k)
  if nums.length < bs.length then none
  else
    let r := (bs.zipIdx).map (fun x =>
      let nth := ((bs.take x.2).filter (fun b => b.engine == x.1.engine)).length
      (free x.1.engine)[nth]?.map (fun k => { x.1 with num := nums.getD x.2 0, bank := k, live := true }))
    r.foldl (fun (o : Option (List BandRun)) b => o.bind (fun l => b.map (fun x => l ++ [x]))) (some [])

/-- The reservations of a piece are taken and its streams placed (R131, R162). It is admitted at once unless it will start into idle
bars or an open gap. -/
def State.reserve (s : State) (p : Piece) (cs : List (Nat × Nat)) (c : Costs) (bands : List BandRun) : State :=
  let idle := (s.pieces.all (fun q => q.num == p.num || q.stage == .queued || !q.shares p)) || (s.tg p.refTg).gapOpen
  let s1 := s.onPiece p.num (fun q => { q with
    stage := .reserved, chans := cs, bands := bands, seqCost := c.seq, rootCost := c.root, laneCost := c.lanes
    hbmCost := c.hbm, poolCost := c.pool })
  let s2 := (bands.foldl (fun (t : State) b => t.setOwner b) s1).loads.poolFree.busy
  if idle then s2.admitReady else s2.admitAs [p.num]

/-- A piece behind others of its bars that still wait (R128). -/
def State.behind (s : State) (p : Piece) : Bool :=
  (s.pieces.takeWhile (fun q => q.num != p.num)).any (fun q => q.stage == .queued && q.shares p)

/-- The admission check of one piece, in its turn and while admission is not paused (R11, R128 to R132); of one that holds its
reservations, whether its first lines are there (R131). -/
def State.admission (s : State) (num : Nat) : State :=
  match s.piece num with
  | none => s
  | some p =>
    let entries := (List.range p.bandCount).map (s.bandEntry p)
    if p.stage = .reserved then s.admitReady
    else if p.stage ≠ .queued ∨ !entries.all (fun e => s.complete_ e.1 e.2.1) then s
    else match s.badStream p with
      | some i => if s.admitPaused ∨ s.behind p then s else s.refusePiece p 2 (i % 256)
      | none =>
        let s1 := s.endRepeats p
        let cs := s1.chanMap p
        if s.admitPaused ∨ s1.behind p then s1
        else if !s1.configOk p cs then s1.refusePiece p 3 0
        else if !s1.mayAdmit cs then s1
        else
          let c := s1.costs p cs
          if c.detail ≠ 0 then s1.refusePiece p 1 c.detail
          else if 4096 * s1.rd R.REPEAT_FREE_SIZE < c.pool then s1
          else match s1.number c.bands with
            | none => s1
            | some bands => s1.reserve p cs c bands

/-! ## Probes (R122, R123, R190, R195, R196) -/

/-- The bank whose units serve a generator: that of the encoder that feeds its line generator, else 0 (R195). -/
def State.unitBank (s : State) (tg : Nat) : Nat := if s.root false tg < 16 then s.lgEnc (s.root false tg) else 0

/-- An edge binds no piece (R122). -/
def State.unbound (s : State) (p line : Nat) : State :=
  let s1 := s.inc R.PROBE_UNBOUND_COUNT
  if s.flag (R.PQ_PROBE_CFG_REJECT_EN p) then
    let at_ := line + s.rd (R.PQ_PROBE_DIST_DIST p)
    s1.emit (.reject (s.rd (R.PQ_PROBE_CFG_OUT p)) (s.rd (R.PROBE_CFG_TG p)) at_ (at_ + s.rd (R.PQ_PROBE_CFG_WIDTH p)))
  else s1

/-- The oldest admitted, unbound probe-triggered piece of a probe (R122). -/
def State.bindable (s : State) (p : Nat) : Option Piece :=
  s.pieces.find? (fun q => q.stage == .admitted && q.startRule == 1 && q.probe == p && q.start.isNone)

/-- A module-owned unit is armed for the start of a piece (R195). -/
def State.armStart (s : State) (k : Nat) (p : Piece) (start : Nat) : State :=
  let w := (p.bars.map (fun b => s.rd (R.TG_DELAY_WHOLE b))).foldl min 65535
  let s1 := (s.setWord (R.CMP_CFG k) 0).wr (R.CMP_CFG_REF k) 1 |>.wr (R.CMP_CFG_TG k) p.refTg
  let s2 := (s1.wrW (R.CMP_TGT_LO_TGT k) (R.CMP_TGT_HI_TGT k) (unsigned 48 ((start : Int) + w - 1))).wr (R.CMP_PERIOD_PERIOD k) 0
  (s2.cmpJudge k true).cmpSettle k

/-- A piece is bound to an edge (R122, R123, R195, R244). -/
def State.bind (s : State) (k : Nat) (p : Piece) (line t : Nat) (smp : Int × Bool) : State :=
  let start := line + p.probeDist
  let s1 := s.onPiece p.num (fun q => { q with start := some start, latch := line, latchTime := t, sample := some smp })
  let ahead := s.pieces.takeWhile (fun q => q.num != p.num)
  if ahead.any (fun q => q.shares p && q.endPos.any (fun e => decide (start < e))) then
    (s1.scheduleRejects).notPrinted p.num 0x11
  else (((s1.onPiece p.num (fun q => { q with compare := some k })).scheduleRejects).armStart k p start).placePieces

/-- The position of an encoder at a tick (R190). -/
def State.encAt (s : State) (n t : Nat) : Nat :=
  match (s.enc n).hist.find? (fun e => decide (e.1 ≤ t)) with
  | some e => e.2
  | none => (((s.enc n).hist.getLast?).map (·.2)).getD (s.encTrue n)

/-- The latch of an edge at a tick (R190): line and the ticks since its trigger. -/
def State.lineAtTick (s : State) (tg t : Nat) : Nat × Nat :=
  match (s.tg tg).trigs.find? (fun e => decide (e.1 ≤ t)) with
  | some e => (e.2, min 0xFFFFFF (t - e.1))
  | none => (s.lineCount tg, 0xFFFFFF)

/-- The latch registers of a probe (R190). -/
def State.latchProbe (s : State) (p t : Nat) : State :=
  let l := s.lineAtTick (s.rd (R.PROBE_CFG_TG p)) t
  let s1 := (s.wrW (R.PROBE_E0_LO_POS p) (R.PROBE_E0_HI_POS p) (s.encAt 0 t)).wrW (R.PROBE_E1_LO_POS p) (R.PROBE_E1_HI_POS p) (s.encAt 1 t)
  let s2 := (s1.wrW (R.PROBE_LINE_LO_POS p) (R.PROBE_LINE_HI_POS p) l.1).wr (R.PROBE_PHASE_TICKS p) l.2
  (s2.wrW (R.PROBE_TIME_LO_NS p) (R.PROBE_TIME_HI_NS p) (s.tb2 - 5 * (s.time - t))).inc (R.PROBE_COUNT_COUNT p)

/-- An accepted level change of a probe, sampled `age` ticks ago (R190, R122). -/
def State.probeEdge (s : State) (p : Nat) (rising : Bool) (age : Nat) : State :=
  let t := s.time - age
  let edge := s.rd (R.PROBE_CFG_EDGE p)
  if !s.flag (R.PROBE_CFG_EN p) ∨ !(if rising then bit edge 0 else bit edge 1) then s
  else if (Sparse.get none s.probes p).any (fun l => decide (t < l + usTicks (s.rd (R.PROBE_HOLDOFF_US p)))) then
    s.inc (R.PROBE_IGNORED_COUNT p)
  else
    let s1 := ({ s with probes := Sparse.set none s.probes p (some t) }).toDay.latchProbe p t
    let line := (s.lineAtTick (s.rd (R.PROBE_CFG_TG p)) t).1
    match (if s.flag R.TEST_STATE_TEST then none else s1.bindable p) with
    | none => s1.unbound p line
    | some q => match s1.freeUnit (s1.unitBank q.refTg) with
      | none => (s1.inc R.CMP_SHORT_COUNT).unbound p line
      | some k => s1.bind k q line t (s1.utcOf ((s1.tb 0).ns - 5 * age), s1.tb0Usable)

/-! ## Reject outputs (R21, R122, R140) -/

/-- Some VERIFY field of the piece has no result yet (R334, R335). -/
def Piece.unverified (p : Piece) : Bool :=
  p.verify && (p.prints.any (fun r => r.fields.any (fun (f : FieldRun) => f.verify && f.result == 0)) ||
    (match p.total with
      | some n => decide (p.prints.length * p.lines < n)
      | none => true))

/-- The verification of a piece comes too late (R21): its flags, and those of its record if it is written. -/
def State.verifyLate (s : State) (num : Nat) : State :=
  let set := fun (p : Piece) => if p.num = num then { p with flags := p.flags ||| 32, rejected := true } else p
  let s1 := { s with pieces := s.pieces.map set, verify := s.verify.map set }
  match (if (s.piece num).isNone then s.ended.find? (fun (e : Ended) => e.num == num) else none) with
  | some e =>
    let a := 0x4E000000 + 32 * (e.index % 4096) + 4
    s1.setWord a (s1.word a ||| 0x210000)
  | none => s1

/-- A reject position is reached: the piece is accepted, or the output acts (R21, R140). -/
def State.rejectAct (s : State) (num : Nat) : State :=
  match s.rejects.find? (fun (r : Reject) => r.piece == num && !r.acted) with
  | none => s
  | some r =>
    if s.lineCount r.tg < r.from_ then s
    else
      let ps := s.pieces ++ s.verify
      let late := !r.bad && ps.any (fun p => p.num == num && !p.rejected && p.unverified)
      let bad := r.bad || late || ps.any (fun p => p.num == num && p.rejected)
      let s1 := if late then s.verifyLate num else s
      let l := s1.rejects.map (fun (x : Reject) => if x.piece = num then { x with acted := true } else x)
      let here := s.pieces.any (fun p => p.num == num)
      let s2 := { s1 with rejects := l.filter (fun (x : Reject) => here || x.piece != num) }
      if bad then (s2.emit (.reject r.out r.tg r.from_ r.to_)).raise Ev.PIECE_REJECTED num 0 else s2

end Sys2Proof.Machine
end

