-- ==== Sys2Proof/Machine/DmaOps.lean ====
section
/-! DEFINITION. The DMA channels (R141 to R147). -/

namespace Sys2Proof.Machine

abbrev dmaIdle : Nat := 0
abbrev dmaRunning : Nat := 1
abbrev dmaTail : Nat := 2
abbrev dmaPaused : Nat := 3
abbrev dmaIntake : Nat := 4

/-- DMAn_STATUS.STATE. -/
def State.dmaState (s : State) (n : Nat) : Nat := s.rd (R.DMA_STATUS_STATE n)

/-- What a channel holds beside its registers. -/
def State.dmaCh (s : State) (n : Nat) : Dma := Sparse.get {} s.dma n

/-- Changes what a channel holds beside its registers. -/
def State.onDma (s : State) (n : Nat) (f : Dma → Dma) : State := { s with dma := Sparse.upd {} s.dma n f }

/-- The address of the descriptor in progress. -/
def State.dmaCur (s : State) (n : Nat) : Nat := 32 * s.rd (R.DMA_CUR_LO_ADDR_LO n) + 2 ^ 32 * s.rd (R.DMA_CUR_HI_ADDR_HI n)

/-- The register-space address behind a memory address of the table windows (R141). -/
def tableOf (a : Nat) : Option Nat := if 0x8040000000 ≤ a ∧ a < 0x8080000000 then some (a - 0x8000000000) else none

/-- [a, a + n) lies in the job store or in table locations (R141). -/
def State.dmaReach (s : State) (a n : Nat) : Bool :=
  s.inJob a n || (match tableOf a, tableOf (a + n - 1) with
    | some x, some y => (List.range (y / 4 - x / 4 + 1)).all (fun i => s.tableAt (4 * (x / 4 + i)))
    | _, _ => false)

/-- Bytes read by a channel. -/
def State.dmaRead (s : State) (a n : Nat) : List Byte :=
  match tableOf a with
  | none => s.hbmRead a n
  | some x =>
    let ws := (List.range ((x % 4 + n + 3) / 4)).map (fun i => (s.readWord (4 * (x / 4 + i))).getD 0)
    ((wordBytes ws).drop (x % 4)).take n

/-- Bytes written by a channel: into the job store, or into the table words a host could write (R141). -/
def State.dmaWrite (s : State) (a : Nat) (bs : List Byte) : State :=
  match tableOf a with
  | none => s.jobWrite a bs
  | some x =>
    let n := (x % 4 + bs.length + 3) / 4
    let old := wordBytes ((List.range n).map (fun i => (s.readWord (4 * (x / 4 + i))).getD 0))
    let new := old.take (x % 4) ++ bs ++ old.drop (x % 4 + bs.length)
    (List.range n).foldl (fun (t : State) i =>
      let w := BitVec.ofNat 32 (le new (4 * i) 4)
      let y := 4 * (x / 4 + i)
      if t.tableRefused y w then t else t.tableWrite y w) s

/-- A descriptor (R142). -/
structure Desc where
  bytes : List Byte
  deriving DecidableEq, Repr

def Desc.swap (d : Desc) : Nat := le d.bytes 2 1 % 4
def Desc.zero (d : Desc) : Bool := bit (le d.bytes 2 1) 2
def Desc.len (d : Desc) : Nat := le d.bytes 4 4
def Desc.src (d : Desc) : Nat := le d.bytes 8 8
def Desc.dst (d : Desc) : Nat := le d.bytes 0x10 8
def Desc.link (d : Desc) : Nat := le d.bytes 0x18 8
def Desc.last (d : Desc) : Bool := bit d.link 0
def Desc.next (d : Desc) : Nat := d.link / 32 * 32

/-- The descriptor at an address. -/
def State.desc (s : State) (a : Nat) : Desc := ⟨s.hbmRead a 32⟩

/-- The unit of a swap in bytes. -/
def Desc.unit (d : Desc) : Nat := if d.swap = 0 then 1 else if d.swap = 1 then 2 else 4

/-- Source and destination overlap. -/
def Desc.overlaps (d : Desc) : Bool := !d.zero && decide (d.src < d.dst + d.len ∧ d.dst < d.src + d.len)

/-- The copy runs from the high end (R146). -/
def Desc.backward (d : Desc) : Bool := d.swap == 0 && d.overlaps && decide (d.src < d.dst)

/-- The ERROR code a descriptor is stopped with at fetch; 0: good (R146). -/
def State.descError (s : State) (d : Desc) : Nat :=
  if le d.bytes 0 2 ≠ 0x4B44 ∨ 8 ≤ le d.bytes 2 1 ∨ d.len = 0 ∨ 0x10000000 < d.len ∨ d.link / 2 % 16 ≠ 0 ∨ 2 ^ 40 ≤ d.link ∨
      (d.zero ∧ d.src ≠ 0) then 1
  else if (!d.zero && !s.dmaReach d.src d.len) || !s.dmaReach d.dst d.len || (!d.last && !s.inJob d.next 32) then 2
  else if d.len % d.unit ≠ 0 ∨ d.src % d.unit ≠ 0 ∨ d.dst % d.unit ≠ 0 then 3
  else if d.swap ≠ 0 ∧ d.overlaps ∧ d.src ≠ d.dst then 4
  else 0

/-- The bytes of a run swapped (R142). -/
def swapRun (swap : Nat) (bs : List Byte) : List Byte :=
  if swap = 1 then (groups 2 bs.length bs).flatMap List.reverse
  else if swap = 2 then (groups 4 bs.length bs).flatMap List.reverse
  else if swap = 3 then (groups 4 bs.length bs).flatMap (fun w => w.drop 2 ++ w.take 2)
  else bs

/-- Moves the bytes of a descriptor from `a` to `b` of its LEN, counted in the order they are moved (R143, R145, R146). -/
def State.moveBytes (s : State) (d : Desc) (a b : Nat) : State :=
  let off := if d.backward then d.len - b else a
  let data := if d.zero then List.replicate (b - a) 0 else swapRun d.swap (s.dmaRead (d.src + off) (b - a))
  if a < b then s.dmaWrite (d.dst + off) data else s

/-- Writes STATUS of a descriptor (R142). -/
def State.descStatus (s : State) (a v : Nat) : State := if s.inJob a 32 then s.jobWrite (a + 3) [BitVec.ofNat 8 v] else s

/-- A descriptor stops its channel with an ERROR code (R146). -/
def State.dmaStop (s : State) (n code : Nat) : State :=
  let s1 := (s.descStatus (s.dmaCur n) 3).onDma n (fun _ => {})
  let s2 := (((s1.wr (R.DMA_STATUS_DONE n) 0).wr (R.DMA_STATUS_ABORTED n) 1).wr (R.DMA_STATUS_ERROR n) code).wr (R.DMA_STATUS_STATE n) dmaIdle
  if code = 4 then s2.raise Ev.OVERLAP n 0 else s2.raise Ev.DESC_INVALID n (if code = 1 then 0 else code)

/-- A channel fetches and checks a descriptor (R143, R146). -/
def State.dmaFetch (s : State) (n a : Nat) : State :=
  let d := s.desc a
  let s1 := (s.wr (R.DMA_CUR_LO_ADDR_LO n) (a / 32)).wr (R.DMA_CUR_HI_ADDR_HI n) (a / 2 ^ 32)
  if !s.inJob a 32 then s1.dmaStop n 2
  else if s.descError d ≠ 0 then s1.dmaStop n (s.descError d)
  else (((s1.wr (R.DMA_REMAIN_BYTES n) d.len).wrB (R.DMA_STATUS_BACKWARD n) d.backward).wr (R.DMA_STATUS_STATE n) dmaRunning).onDma n
    (fun _ => { fetched := true, moved := 0, tail := false })

/-- HEAD of a channel. -/
def State.dmaHead (s : State) (n : Nat) : Nat := 32 * s.rd (R.DMA_HEAD_LO_ADDR_LO n) + 2 ^ 32 * s.rd (R.DMA_HEAD_HI_ADDR_HI n)

/-- RUN in IDLE: an operation starts at HEAD, in PAUSED when PAUSE is 1 (R143, R145). -/
def State.dmaStart (s : State) (n : Nat) : State :=
  let s1 := (((s.wr (R.DMA_STATUS_DONE n) 0).wr (R.DMA_STATUS_ABORTED n) 0).wr (R.DMA_STATUS_ERROR n) 0).toDay
  if s.flag (R.DMA_CTRL_PAUSE n) then (s1.onDma n (fun _ => {})).wr (R.DMA_STATUS_STATE n) dmaPaused
  else s1.dmaFetch n (s.dmaHead n)

/-- Moves the bytes of the descriptor in progress up to `m` of them. -/
def State.dmaMoveTo (s : State) (n m : Nat) : State :=
  let d := s.desc (s.dmaCur n)
  let a := (s.dmaCh n).moved
  let b := max a (min d.len (m / d.unit * d.unit))
  ((s.moveBytes d a b).wr (R.DMA_REMAIN_BYTES n) (d.len - b)).onDma n (fun c => { c with moved := b })

/-- The tail's LINK is read again: a new operation starts at NEXT, or the doorbell is ignored (R144, R145). -/
def State.dmaRing (s : State) (n : Nat) : State :=
  let d := s.desc (s.dmaCur n)
  if d.last then (s.inc (R.DMA_DB_IGNORED_COUNT n)).wr (R.DMA_STATUS_STATE n) dmaTail
  else (s.wr (R.DMA_STATUS_DONE n) 0).toDay.dmaFetch n d.next

/-- The descriptor in progress is done (R143). -/
def State.dmaDone (s : State) (n : Nat) : State :=
  let a := s.dmaCur n
  let s1 := s.dmaMoveTo n (s.desc a).len
  let d := s1.desc a
  let s2 := (s1.descStatus a 1).inc (R.DMA_DESCS_COUNT n)
  if d.last then
    (((s2.wr (R.DMA_STATUS_DONE n) 1).wr (R.DMA_STATUS_STATE n) dmaTail).wr (R.DMA_REMAIN_BYTES n) 0).busy
  else s2.dmaFetch n d.next

/-- A descriptor's data move ends, or meets an uncorrectable read (R143, R146, R419). -/
def State.descDone (s : State) (n : Nat) (evs : List MemEv) : State :=
  if s.dmaState n ≠ dmaRunning then s
  else
    let s1 := s.memErrors evs
    if (badOf evs .dmaSource).isEmpty then s1.dmaDone n
    else
      let left := s.rd (R.DMA_REMAIN_BYTES n)
      (s1.drawn.dmaMoveTo n ((s.dmaCh n).moved + s.draw 70 % (left + 1))).dmaStop n 5

/-- PAUSE is written 1: bytes of the descriptor moved when the burst in progress ends (R145). -/
def State.dmaPause (s : State) (n moved : Nat) : State :=
  let s1 := s.wr (R.DMA_CTRL_PAUSE n) 1
  if s.dmaState n = dmaRunning then (s1.dmaMoveTo n moved).wr (R.DMA_STATUS_STATE n) dmaPaused
  else if s.dmaState n = dmaTail then
    (s1.wr (R.DMA_STATUS_STATE n) dmaPaused).onDma n (fun c => { c with tail := true })
  else s1

/-- PAUSE is written 0 (R145). -/
def State.dmaResume (s : State) (n : Nat) : State :=
  let s1 := s.wr (R.DMA_CTRL_PAUSE n) 0
  if s.dmaState n ≠ dmaPaused then s1
  else if (s.dmaCh n).tail then (s1.onDma n (fun c => { c with tail := false })).dmaRing n
  else if (s.dmaCh n).fetched then s1.toDay.wr (R.DMA_STATUS_STATE n) dmaRunning
  else s1.toDay.dmaFetch n (s.dmaHead n)

/-- A doorbell (R144). -/
def State.dmaBell (s : State) (n : Nat) : State :=
  if s.dmaState n = dmaTail then s.dmaRing n else s.inc (R.DMA_DB_IGNORED_COUNT n)

/-- MODE is written (R145). -/
def State.dmaMode (s : State) (n v : Nat) : State :=
  (s.wr (R.DMA_CFG_MODE n) v).wr (R.DMA_STATUS_STATE n) (if v = 1 then dmaIntake else dmaIdle)

/-- A write of MODE is refused (R145). -/
def State.dmaModeRefused (s : State) (n v : Nat) : Bool :=
  (s.dmaState n != dmaIdle && s.dmaState n != dmaIntake) ||
    (s.dmaState n == dmaIntake && v == 0 && (List.range 64).any (fun w => s.dataWin w && s.rd (R.WIN_CFG_DMA w) == n))

/-- ABORT of a channel: the new state and the STATUS (R103, R147). -/
def State.dmaAbort (s : State) (n : Nat) : State × Nat :=
  let st := s.dmaState n
  if st = dmaIntake then (s, Status.refusedState)
  else if st = dmaIdle ∨ st = dmaTail ∨ (s.dmaCh n).tail then (s, Status.alreadyDone)
  else
    let left := s.rd (R.DMA_REMAIN_BYTES n)
    let s1 := if st = dmaRunning then s.drawn.dmaMoveTo n ((s.dmaCh n).moved + s.draw 70 % (left + 1)) else s
    let s2 := if (s.dmaCh n).fetched then s1.descStatus (s.dmaCur n) 2 else s1
    (((((s2.wr (R.DMA_STATUS_ABORTED n) 1).wr (R.DMA_STATUS_DONE n) 0).wr (R.DMA_STATUS_ERROR n) 0).wr
      (R.DMA_STATUS_STATE n) dmaIdle).onDma n (fun _ => {}), Status.ok)

end Sys2Proof.Machine
end

