-- ==== Sys2Proof/Machine/NetOps.lean ====
section
/-! DEFINITION. The network ports and the time bases: links, ARP and ICMP, the PTP ports, the servo of R374 and holdover, time pulses
and snapshots (R361 to R384). -/

namespace Sys2Proof.Machine

/-! ## Links (R361 to R363, R384) -/

/-- The port's mode: fixed in the maintenance state (R74). -/
def State.netMode (s : State) (n : Nat) : Nat :=
  match s.pow.phase with
  | .maint => if n = 0 then 2 else 1
  | _ => s.rd (R.NP_CFG_MODE n)

/-- The link is up. -/
def State.linkOn (s : State) (n : Nat) : Bool := s.flag (R.NP_STATUS_LINK n)

/-- The port's loop-back takes it off the network (R384). -/
def State.looped (s : State) (n : Nat) : Bool := let d := s.rd (R.NP_LB_DEPTH n); decide (1 ≤ d ∧ d ≤ 3)

/-- The MAC address a port is configured with (R364). -/
def State.macOf (s : State) (n : Nat) : BitVec 48 :=
  match s.pow.phase with
  | .maint => Config.factoryMac n
  | _ => BitVec.ofNat 48 (s.rd (R.NP_MAC_LO_MAC n) + 2 ^ 32 * s.rd (R.NP_MAC_HI_MAC n))

/-! ## The time bases -/

/-- The instance that disciplines a time base, if one does (R373). -/
def State.tbInst (s : State) (k : Nat) : Option Nat :=
  let src := s.rd (R.TB_CFG_SRC k)
  if k = 2 then none else if src = 1 then some 0 else if src = 2 then some 1 else none

/-- The time bases an instance disciplines. -/
def State.instTbs (s : State) (i : Nat) : List Nat := (List.range 4).filter (fun k => s.tbInst k == some i)

/-- The time base is locked (R376). -/
def State.tbLocked (s : State) (k : Nat) : Bool :=
  match s.tbInst k with
  | none => (s.tb k).everSet
  | some _ =>
    match s.rd (R.TB_STATUS_STATE k) with
    | 2 => true
    | 0 => false
    | _ => match (s.tb k).lastLocked with
      | some t => decide (s.time < t + secTicks (s.rd (R.TB_CFG_HOLD_OK k)))
      | none => false

/-- A refused jump is pending (R376, R378). -/
def State.tbRefused (s : State) (k : Nat) : Bool := (s.tb k).refused || (s.tb k).utcPend.isSome

/-- Brings LOCKED, REFUSED and USABLE up to date, sends or clears PTP_UNLOCKED, and clears HOLDOVER_DATE once TB0 is usable (R251, R376). -/
def State.tbFlags (s : State) (k : Nat) : State :=
  let lock := s.tbLocked k
  let was := s.flag (R.TB_STATUS_LOCKED k)
  let s1 := ((s.wrB (R.TB_STATUS_LOCKED k) lock).wrB (R.TB_STATUS_REFUSED k) (s.tbRefused k)).wrB (R.TB_STATUS_USABLE k)
    (lock && !s.tbRefused k)
  let s2 := if k = 0 ∧ lock ∧ !s.tbRefused k then s1.oneOff Ev.HOLDOVER_DATE 0 else s1
  if lock then s2.condOff Ev.PTP_UNLOCKED k
  else if was && (s.tbInst k).isSome then s2.condOn Ev.PTP_UNLOCKED k else s2

/-- Sets the STATE of a time base: 0 FREE, 1 ACQUIRING, 2 LOCKED, 3 HOLDOVER. -/
def State.setTb (s : State) (k code : Nat) : State :=
  let s1 := if s.rd (R.TB_STATUS_STATE k) = 2 ∧ code ≠ 2 then s.onTb k (fun t => { t with lastLocked := some s.time }) else s
  let s2 := if code = 2 then s1.onTb k (fun t => { t with freeDone := true, lastLocked := some s.time }) else s1
  (s2.wr (R.TB_STATUS_STATE k) code).tbFlags k

/-- The value of a time base in 2^−32 ns. -/
def TimeBase.fine (t : TimeBase) : Int := (t.ns : Int) * 2 ^ 32 + t.frac

/-- A time base at a value in 2^−32 ns; it does not pass below 0 nor beyond 64 bits. -/
def TimeBase.atFine (t : TimeBase) (v : Int) : TimeBase :=
  let w := (clampI 0 (2 ^ 96 - 1) v).toNat
  { t with ns := w / 2 ^ 32, frac := w % 2 ^ 32 }

/-- Sets the rate of a time base from an offset in ns/s: the rate is 2^−32 ns per tick of nominally 5 ns, TBk_ADJ 1/1000 ppb. -/
def State.tbRate (s : State) (k : Nat) (x : Rat) : State :=
  let r := ratOpen 80 (x * (5 * 2 ^ 32) / 1000000000)
  (s.onTb k (fun t => { t with rate := r, rates := (0, r) :: t.rates })).wrI (R.TB_ADJ_RATE k) (ratOpen 82 (x * 1000))

/-- The segments of disciplined running that make up its last `left` ticks. -/
def lastRates : Nat → List (Nat × Int) → List (Nat × Int)
  | _, [] => []
  | left, (n, r) :: t => if left ≤ n then [(left, r)] else (n, r) :: lastRates (left - n) t

/-- The mean rate over the last 64 s of disciplined running (R375). -/
def TimeBase.meanRate (t : TimeBase) : Int :=
  let l := lastRates (secTicks 64) t.rates
  let n := (l.map (·.1)).sum
  if n = 0 then t.rate else divOpen 83 ((l.map (fun e => (e.1 : Int) * e.2)).sum) n

/-- A disciplined time base enters HOLDOVER, its rate frozen (R375). -/
def State.enterHoldover (s : State) (k : Nat) : State :=
  if (s.tbInst k).isSome ∧ (s.rd (R.TB_STATUS_STATE k) = 1 ∨ s.rd (R.TB_STATUS_STATE k) = 2) then
    (s.onTb k (fun t => { t with rate := t.meanRate })).setTb k 3
  else s

/-! ## Time pulses and snapshots (R381 to R383) -/

/-- The scheduled time `n` of a time pulse. -/
def State.tpAt (s : State) (p n : Nat) : Nat :=
  s.rdW (R.TP_START_LO_NS p) (R.TP_START_HI_NS p) + n * s.rdW (R.TP_PERIOD_LO_NS p) (R.TP_PERIOD_HI_NS p)

/-- The period of a time pulse; 0: one-shot. -/
def State.tpPeriod (s : State) (p : Nat) : Nat := s.rdW (R.TP_PERIOD_LO_NS p) (R.TP_PERIOD_HI_NS p)

/-- The ordinal of the first scheduled time after an instant; none is left of a one-shot that has passed. -/
def State.tpAfter (s : State) (p t : Nat) : Nat :=
  let start := s.tpAt p 0
  if t < start then 0 else if s.tpPeriod p = 0 then 1 else (t - start) / s.tpPeriod p + 1

/-- Arms a time pulse at the first scheduled time not yet reached (R381). -/
def State.tpArm (s : State) (p : Nat) : State :=
  { s with tps := Sparse.set 0 s.tps p (s.tpAfter p (s.tb (s.rd (R.TP_CFG_TB p))).ns) }

/-- The next scheduled time has been reached. -/
def State.tpDue (s : State) (p : Nat) : Bool :=
  let n := Sparse.get 0 s.tps p
  s.flag (R.TP_CFG_EN p) && decide (n = 0 ∨ s.tpPeriod p ≠ 0) && decide (s.tpAt p n ≤ (s.tb (s.rd (R.TP_CFG_TB p))).ns)

/-- Latches the time bases and the true positions in one tick (R383). -/
def State.snapshotTime (s : State) : State :=
  let s1 := (List.range 4).foldl (fun (t : State) k => t.wrW (R.SNAP_TB_LO_NS k) (R.SNAP_TB_HI_NS k) (s.tb k).ns) s
  ((s1.wrW R.SNAP_ENC0_LO_POS R.SNAP_ENC0_HI_POS (s.encTrue 0)).wrW R.SNAP_ENC1_LO_POS R.SNAP_ENC1_HI_POS (s.encTrue 1)).inc
    R.SNAP_SEQ_COUNT

/-- A pulse fires; the next scheduled time is `n`. -/
def State.tpFire (s : State) (p n : Nat) (late : Bool) : State :=
  let s1 := ({ s with tps := Sparse.set 0 s.tps p n }.emit (.timePulse p late)).inc (R.TP_COUNT_COUNT p)
  let s2 := if late then s1.inc (R.TP_LATE_COUNT p) else s1
  let s3 := if s.tpPeriod p = 0 then s2.wrB (R.TP_CFG_EN p) false else s2
  if s.flag (R.TP_CFG_SNAP p) then s3.snapshotTime else s3

/-- A time base takes a new value in 2^−32 ns as a step; a pulse stepped over fires once and late (R382). -/
def State.stepTb (s : State) (k : Nat) (v : Int) : State :=
  let s1 := s.onTb k (fun t => t.atFine v)
  (List.range 4).foldl (fun (t : State) p =>
    if t.rd (R.TP_CFG_TB p) = k ∧ t.tpDue p then t.tpFire p (t.tpAfter p (t.tb k).ns) true else t) s1

/-! ## The servo (R374, R377, R378) -/

/-- A step of so many ns is free (R377). -/
def State.freeStep (s : State) (k : Nat) (o : Rat) : Bool :=
  let t := s.tb k
  !t.freeDone && (t.freeAll || decide (|o| ≤ (t.freeUntil : Rat)))

/-- An offset exceeds JUMP (R374); 0xFFFFFFFF never refuses. -/
def State.jumps (s : State) (k : Nat) (o : Rat) : Bool :=
  let us := s.rd (R.TB_JUMP_US k)
  us != 0xFFFFFFFF && decide ((1000 * us : Rat) < |o|)

/-- The refused offset in µs, signed and saturating (R374). -/
def jumpUs (o : Rat) : Nat := unsigned 32 (clampI (-2147483648) 2147483647 (ratOpen 84 (o / 1000)))

/-- A jump is refused: TIME_JUMP_REFUSED, and holdover (R374, R375, R448). -/
def State.refuseJump (s : State) (k : Nat) (o : Rat) : State :=
  let us := jumpUs o
  let on := s.condActive Ev.TIME_JUMP_REFUSED k
  let s1 := (s.wr (R.TB_PEND_US k) us).condOn Ev.TIME_JUMP_REFUSED k us
  ((if on then s1 else s1.lifeAdd 0x1A2 2 1).enterHoldover k).tbFlags k

/-- No refused jump is pending any more: the event clears (R374, R377). -/
def State.clearJump (s : State) (k : Nat) : State :=
  if s.tbRefused k then s.tbFlags k else ((s.wr (R.TB_PEND_US k) 0).condOff Ev.TIME_JUMP_REFUSED k).tbFlags k

/-- The slew of R374: the new sum and the rate offset in ns/s. -/
def slew (tc : Rat) (integ o : Rat) : Rat × Rat :=
  let i := integ + o / tc
  (i, -(max (-500000) (min 500000 (o / tc + i / tc))))

/-- A disciplined time base takes one offset in ns (R374). -/
def State.applyOffset (s : State) (i k : Nat) (o : Rat) : State :=
  let t := s.tb k
  if t.refused ∧ s.jumps k o then s
  else
    let s1 := if t.refused then (s.onTb k (fun t => { t with refused := false, pend := 0 })).clearJump k else s
    if s1.jumps k o ∧ !s1.freeStep k o then
      (s1.onTb k (fun t => { t with refused := true, pend := o })).refuseJump k o
    else
      let st := s1.rd (R.TB_STATUS_STATE k)
      let s2 := if st = 3 ∨ st = 0 then s1.setTb k 1 else s1
      let s3 :=
        if (1000 * s2.rd (R.TB_CFG_STEP k) : Rat) < |o| then
          (s2.onTb k (fun t => { t with integ := 0 })).stepTb k ((s2.tb k).fine - ratOpen 85 (o * 2 ^ 32))
        else
          let r := slew (2 ^ s2.rd (R.PI_SERVO_TCLOG i)) (s2.tb k).integ o
          (s2.onTb k (fun t => { t with integ := r.1 })).tbRate k r.2
      let lock : Rat := s3.rd (R.PI_SERVO_LOCK_NS i)
      let s4 := s3.onTb k (fun t => { t with
        good := if |o| < lock then t.good + 1 else 0
        bad := if 4 * lock < |o| then t.bad + 1 else 0 })
      let s5 := if 16 ≤ (s4.tb k).good then s4.setTb k 2 else s4
      if 4 ≤ (s5.tb k).bad then s5.setTb k 1 else s5

/-- An instance has computed an offset in ns: PIi_OFFSET, and every time base it disciplines (R374, R385). -/
def State.instOffset (s : State) (i : Nat) (o : Rat) : State :=
  (s.instTbs i).foldl (fun (t : State) k => t.applyOffset i k o)
    (s.wr (R.PI_OFFSET_NS i) (unsigned 32 (clampI (-2147483648) 2147483647 (ratOpen 86 o))))

/-- ACCEPT steps the time base by the pending offset and takes the pending UTC offset (R377, R378). -/
def State.acceptJump (s : State) (k : Nat) : State :=
  let t := s.tb k
  let s1 := if t.refused then s.stepTb k (t.fine - ratOpen 85 (t.pend * 2 ^ 32)) else s
  let s2 := s1.onTb k (fun u => { u with refused := false, pend := 0, utcPend := none, utcOff := t.utcPend.getD u.utcOff })
  (s2.setTb k 1).clearJump k

/-- The UTC day is within a minute of its end or start, where a leap second falls (R378). -/
def State.nearMidnight (s : State) : Bool :=
  let d := ((s.tb 0).ns / 1000000000 : Nat) - s.utcOffset
  decide (d % 86400 < 60 ∨ 86340 ≤ d % 86400)

/-- The change of currentUtcOffset by `d` seconds is the leap second announced. -/
def State.leapChange (s : State) (i : Nat) (d : Int) : Bool :=
  s.nearMidnight && ((s.flag (R.PI_STATUS_LEAP61 i) && d == 1) || (s.flag (R.PI_STATUS_LEAP59 i) && d == -1))

/-- TB0 follows the UTC offset of its instance (R378). -/
def State.utcFollow (s : State) (i : Nat) (leap : Bool) : State :=
  if s.tbInst 0 = some i then
    if s.flag (R.PI_STATUS_UTC_VALID i) then
      let new := s.rdI (R.PI_STATUS_UTC_OFFSET i)
      let old := s.utcOffset
      let take := fun (t : State) => ((t.onTb 0 (fun b => { b with utcOff := new, utcPend := none })).wrB R.TB0_UTC_FROM_PTP true)
      let o : Rat := (new - old) * 1000000000
      if new = old ∨ leap ∨ !s.jumps 0 o ∨ s.freeStep 0 o then
        let s1 := take s
        if s.tbRefused 0 then s1.clearJump 0 else s1
      else
        let s1 := s.onTb 0 (fun b => { b with utcOff := old, utcPend := some new })
        (s1.wrB R.TB0_UTC_FROM_PTP true).refuseJump 0 o
    else s.wrB R.TB0_UTC_FROM_PTP false
  else s

/-- TB0 has taken another source: the UTC offset in force follows it (R378). -/
def State.utcSource (s : State) (k : Nat) : State :=
  if k ≠ 0 then s
  else match s.tbInst 0 with
    | none => s.wrB R.TB0_UTC_FROM_PTP false
    | some i => s.utcFollow i true

/-! ## The PTP ports (R368 to R372) -/

/-- One PTP port of an instance. -/
def State.ptpPort (s : State) (i n : Nat) : PtpPort := Sparse.get {} s.ptp (2 * i + n)

/-- The ports an instance runs on (R369). -/
def State.ptpPorts (s : State) (i : Nat) : List Nat :=
  if s.flag (R.PI_CFG_EN i) then (if s.flag (R.PI_CFG_ROLE i) then [0, 1] else [s.rd (R.PI_CFG_PORT i)]) else []

/-- NPn_PTP shows the first instance that runs on the port. -/
def State.ptpShow (s : State) (n : Nat) : State :=
  match (List.range 2).find? (fun i => (s.ptpPorts i).contains n) with
  | some i => (s.wr (R.NP_PTP_INST n) (i + 1)).wr (R.NP_PTP_STATE n) (s.ptpPort i n).state
  | none => (s.wr (R.NP_PTP_INST n) 0).wr (R.NP_PTP_STATE n) 3

/-- Changes one PTP port. -/
def State.onPtp (s : State) (i n : Nat) (f : PtpPort → PtpPort) : State :=
  State.ptpShow { s with ptp := Sparse.upd {} s.ptp (2 * i + n) f } n

/-- The port is SLAVE or UNCALIBRATED. -/
def PtpPort.slave (p : PtpPort) : Bool := p.state == 8 || p.state == 9

/-- The port of an instance that takes its time from a master. -/
def State.slavePort (s : State) (i : Nat) : Option Nat := (s.ptpPorts i).find? (fun n => (s.ptpPort i n).slave)

/-- The module's clockIdentity: the EUI-64 of NP0's factory MAC address. -/
def clockId : BitVec 64 :=
  let m := (Config.factoryMac 0).toNat
  BitVec.ofNat 64 (m / 2 ^ 24 * 2 ^ 40 + 0xFFFE * 2 ^ 24 + m % 2 ^ 24)

/-- The PTP port number of an instance's port. -/
def State.portNo (s : State) (i n : Nat) : BitVec 16 := if s.flag (R.PI_CFG_ROLE i) then BitVec.ofNat 16 (n + 1) else 1

/-- Ticks of an interval of 2^`l` s, `l` a signed nibble. -/
def logTicks (l : Nat) : Nat :=
  if l < 8 then 200000000 * 2 ^ l else 200000000 / 2 ^ (16 - l)

/-- The attributes of a grandmaster in the order clause 9.3 compares them, lower better. -/
def gmRank (a : AnnounceData) : List Nat :=
  [a.priority1.toNat, a.clockClass.toNat, a.accuracy.toNat, a.variance.toNat, a.priority2.toNat, a.gmId.toNat]

/-- Lexicographic order of two rows of numbers. -/
def lexLt : List Nat → List Nat → Bool
  | x :: xs, y :: ys => decide (x < y) || (x == y && lexLt xs ys)
  | _, _ => false

/-- The first dataset, received on port `m`, is better than the second, received on port `n`, by the comparison of clause 9.3.4; the
second part says it is better by topology only. -/
def better (a : Foreign) (m : Nat) (b : Foreign) (n : Nat) : Bool × Bool :=
  if a.data.gmId ≠ b.data.gmId then (lexLt (gmRank a.data) (gmRank b.data), false)
  else if a.data.steps.toNat + 1 < b.data.steps.toNat then (true, false)
  else if b.data.steps.toNat + 1 < a.data.steps.toNat then (false, false)
  else if a.data.steps.toNat < b.data.steps.toNat then (true, decide (b.src.toNat ≤ clockId.toNat))
  else if b.data.steps.toNat < a.data.steps.toNat then (false, decide (a.src.toNat ≤ clockId.toNat))
  else (lexLt [a.src.toNat, a.srcPort.toNat, m] [b.src.toNat, b.srcPort.toNat, n], true)

/-- The best of some foreign masters with their ports. -/
def bestOf : List (Foreign × Nat) → Option (Foreign × Nat)
  | [] => none
  | x :: xs => match bestOf xs with
    | none => some x
    | some y => some (if (better x.1 x.2 y.1 y.2).1 then x else y)

/-- The foreign masters of a port that are qualified: two Announce messages within four intervals. -/
def State.qualified (s : State) (i n : Nat) : List (Foreign × Nat) :=
  ((s.ptpPort i n).foreign.filter (fun (f : Foreign) =>
    decide (2 ≤ f.count ∧ s.time < f.at_ + 4 * logTicks (s.rd (R.PI_INTV_LOG_ANN i))))).map (fun f => (f, n))

/-- The grandmaster data of an instance's parent in PIi_STATUS, PIi_GM and PIi_GMQ (R385). -/
def State.parentData (s : State) (i : Nat) (a : AnnounceData) : State :=
  let leap := s.leapChange i (a.utcOffset - s.utcOffset)
  let s1 := ((((((s.wrB (R.PI_STATUS_PARENT i) true).wrB (R.PI_STATUS_UTC_VALID i) a.utcValid).wrB (R.PI_STATUS_LEAP61 i) a.leap61).wrB
    (R.PI_STATUS_LEAP59 i) a.leap59).wrB (R.PI_STATUS_TRACEABLE i) a.traceable).wrI (R.PI_STATUS_UTC_OFFSET i) a.utcOffset)
  let s2 := ((s1.wr (R.PI_GM_LO_ID i) (a.gmId.toNat % 2 ^ 32)).wr (R.PI_GM_HI_ID i) (a.gmId.toNat / 2 ^ 32))
  (((s2.wr (R.PI_GMQ_CLASS i) a.clockClass.toNat).wr (R.PI_GMQ_ACCURACY i) a.accuracy.toNat).wr (R.PI_GMQ_STEPS i) a.steps.toNat).utcFollow i leap

/-- An instance has no parent any more; its time bases go into holdover (R375). -/
def State.noParent (s : State) (i : Nat) : State :=
  (s.instTbs i).foldl (fun (t : State) k => t.enterHoldover k) (s.wrB (R.PI_STATUS_PARENT i) false)

/-- The state a port takes: toward the best master SLAVE, else MASTER or PASSIVE, LISTENING with no master heard (R369). -/
def State.ptpDecide (s : State) (i n : Nat) (best : Option (Foreign × Nat)) : State :=
  let p := s.ptpPort i n
  if !s.linkOn n then s.onPtp i n (fun _ => {})
  else match best with
    | none => s.onPtp i n (fun p => { p with state := 4, parent := none })
    | some (f, m) =>
      if m = n then
        if p.slave ∧ p.parent = some (f.src, f.srcPort) then s
        else s.onPtp i n (fun p => { p with
          state := 8, parent := some (f.src, f.srcPort), sync := none, two := none, dreq := none, lastAnnounce := f.at_ })
      else
        let passive := match bestOf (s.qualified i n) with
          | none => false
          | some (g, _) => (better f m g n).2
        s.onPtp i n (fun p => { p with state := if passive then 7 else 6, parent := none })

/-- The best master clock algorithm over an instance's ports (R368, R369). -/
def State.bmca (s : State) (i : Nat) : State :=
  let ports := s.ptpPorts i
  let best := bestOf ((ports.filter s.linkOn).flatMap (fun n => s.qualified i n))
  let was := s.slavePort i
  let s1 := ports.foldl (fun (t : State) n => t.ptpDecide i n best) s
  let s2 := if was.isSome ∧ s1.slavePort i ≠ was then s1.noParent i else s1
  match best with
  | some (f, _) => s2.parentData i f.data
  | none => s2.wrB (R.PI_STATUS_PARENT i) false

/-- An instance restarts: its ports pass through LISTENING and its time bases enter holdover (R369, R375). -/
def State.ptpRestart (s : State) (i : Nat) : State :=
  let s1 := (List.range 2).foldl (fun (t : State) n =>
    t.onPtp i n (fun _ => if (s.ptpPorts i).contains n ∧ s.linkOn n then { state := 4 } else {})) s
  s1.noParent i

/-- The link of a port has come up or gone down: the PTP ports on it. -/
def State.ptpLink (s : State) (n : Nat) (up : Bool) : State :=
  (List.range 2).foldl (fun (t : State) i =>
    if (t.ptpPorts i).contains n then
      if up then t.onPtp i n (fun _ => { state := 4 })
      else (if t.slavePort i = some n then (t.onPtp i n (fun _ => {})).noParent i else t.onPtp i n (fun _ => {})).bmca i
    else t) s

/-- A received PTP message is for its instance: the port runs it and the domain and sdoId are its own (R368). -/
def State.ptpMine (s : State) (h : PtpHdr) : Bool :=
  s.carries h.np && (s.ptpPorts h.inst).contains h.np.val && decide (h.domain.toNat = s.rd (R.PI_CFG_DOMAIN h.inst)) &&
    decide (h.sdo.toNat = s.rd (R.PI_CFG_MAJOR_SDO h.inst))

/-- The message comes from the parent of a SLAVE or UNCALIBRATED port. -/
def State.fromParent (s : State) (h : PtpHdr) : Bool :=
  let p := s.ptpPort h.inst h.np
  p.slave && p.parent == some (h.srcId, h.srcPort)

/-- Serves a received PTP message of an instance, or discards and counts it (R368). -/
def State.ptpServe (s : State) (h : PtpHdr) (ok : Bool) (f : State → State) : State :=
  let s1 := s.inc (R.NP_RX_FRAMES_COUNT h.np)
  if !s.carries h.np ∨ !s.powered ∨ s.pow.phase = .maint then s
  else if s.ptpMine h && ok then f s1
  else s1.inc (R.PI_RX_ERR_COUNT h.inst)

/-- The offset of an exchange is known: the port becomes SLAVE and the instance computes (R372, R374). Mean in 2^−16 ns. -/
def State.ptpOffset (s : State) (i n : Nat) (t1c t2 : Int) (mean : Rat) : State :=
  let o : Rat := ((t2 : Rat) - t1c - mean) / 65536 - (s.rdI (R.NP_ASYM_PS n) : Rat) / 1000
  (s.onPtp i n (fun p => { p with state := 9 })).instOffset i o

/-- NPn_MEANDELAY in ps from a mean in 2^−16 ns. -/
def State.setMean (s : State) (n : Nat) (mean : Rat) : State :=
  s.wr (R.NP_MEANDELAY_PS n) (unsigned 32 (clampI (-2147483648) 4294967295 (ratOpen 87 (mean * 1000 / 65536))))

/-- The Sync and its t1 are complete: peer-to-peer computes at once, end-to-end waits for Delay_Resp (R372). -/
def State.syncDone (s : State) (i n : Nat) (t1c t2 : Int) : State :=
  let s1 := s.onPtp i n (fun p => { p with sync := some (t1c, t2), two := none })
  if s.flag (R.PI_CFG_DELAY i) then
    match (s.ptpPort i n).peerDelay with
    | some m => s1.ptpOffset i n t1c t2 m
    | none => s1
  else s1

/-- A Sync or Follow_Up of the parent (R371, R372). -/
def State.syncRx (s : State) (h : PtpHdr) (followUp : Bool) (t1 t2 : Int) : State :=
  let i := h.inst.val
  let n := h.np.val
  if !s.fromParent h then s
  else if followUp then
    match (s.ptpPort i n).two with
    | some (q, r2, c) => if q = h.seq then s.syncDone i n (t1 + c + h.correction) r2 else s
    | none => s
  else
    let s1 := (s.instTbs i).foldl (fun (t : State) k => t.onTb k (fun b => { b with lastSync := some s.time })) s
    if h.twoStep then s1.onPtp i n (fun p => { p with two := some (h.seq, t2, h.correction) })
    else s1.syncDone i n (t1 + h.correction) t2

/-- A Delay_Resp for this port's own Delay_Req completes an end-to-end exchange (R372). -/
def State.delayRespRx (s : State) (h : PtpHdr) (t4 : Int) : State :=
  let i := h.inst.val
  let n := h.np.val
  let p := s.ptpPort i n
  match p.sync, p.dreq with
  | some (t1c, t2), some (q, t3) =>
    if s.fromParent h ∧ q = h.seq ∧ s.flag (R.PI_CFG_DELAY i) = false then
      let mean : Rat := (((t2 - t1c) + (t4 - t3 - h.correction) : Int) : Rat) / 2
      ((s.onPtp i n (fun p => { p with dreq := none })).setMean n mean).ptpOffset i n t1c t2 mean
    else s
  | _, _ => s

/-- A peer delay from t1 (request sent), t2 and t3 (at the peer), t4 (response received) and the corrections (R372). -/
def State.peerDone (s : State) (i n : Nat) (t1 t2 t3 t4 c : Int) : State :=
  let m : Rat := (((t4 - t1) - (t3 - t2) - c : Int) : Rat) / 2
  (s.onPtp i n (fun p => { p with pdreq := none, pdResp := none, peerDelay := some m })).setMean n m

/-- A Pdelay_Resp or its follow-up (R372). -/
def State.pdelayRespRx (s : State) (h : PtpHdr) (followUp : Bool) (t2 t3 t4 : Int) : State :=
  let i := h.inst.val
  let n := h.np.val
  let p := s.ptpPort i n
  match p.pdreq with
  | some (q, t1) =>
    if q ≠ h.seq ∨ s.flag (R.PI_CFG_DELAY i) = false then s
    else if followUp then
      match p.pdResp with
      | some (r2, r4, c) => s.peerDone i n t1 r2 t3 r4 (c + h.correction)
      | none => s
    else if h.twoStep then s.onPtp i n (fun p => { p with pdResp := some (t2, t4, h.correction) })
    else s.peerDone i n t1 0 0 t4 h.correction
  | none => s

/-- Sends a PTP message. -/
def State.ptpTx (s : State) (i n type : Nat) (seq : BitVec 16) (t c : Int) (req : Option (BitVec 64 × BitVec 16))
    (ann : Option AnnounceData) : State :=
  (s.emit (.ptp n i type seq t c req ann)).inc (R.NP_TX_FRAMES_COUNT n)

/-- A Pdelay_Req is answered: the turnaround in the correctionField with ONESTEP, else a follow-up (R371). Neither the time the response
leaves nor, so, the turnaround is given by the spec: a free value. -/
def State.pdelayReqRx (s : State) (h : PtpHdr) (t2 : Int) : State :=
  let i := h.inst.val
  let n := h.np.val
  if s.flag (R.PI_CFG_DELAY i) then
    let turn : Int := s.draw 81
    let who := some (h.srcId, h.srcPort)
    if s.flag (R.PI_CFG_ONESTEP i) then (s.ptpTx i n 3 h.seq 0 (h.correction + turn) who none).drawn
    else ((s.ptpTx i n 3 h.seq t2 0 who none).ptpTx i n 10 h.seq (t2 + turn) h.correction who none).drawn
  else s

/-- A MASTER port answers a Delay_Req (R368). -/
def State.delayReqRx (s : State) (h : PtpHdr) (t4 : Int) : State :=
  if (s.ptpPort h.inst h.np).state = 6 ∧ s.flag (R.PI_CFG_DELAY h.inst) = false then
    s.ptpTx h.inst h.np 9 h.seq t4 h.correction (some (h.srcId, h.srcPort)) none
  else s

/-- Notes an Announce: the foreign master's data and its run of Announces within four intervals. -/
def noteForeign (l : List Foreign) (now win : Nat) (src : BitVec 64) (port : BitVec 16) (a : AnnounceData) : List Foreign :=
  let old := l.find? (fun f => f.src == src && f.srcPort == port)
  let n := match old with
    | some f => if now < f.at_ + win then f.count + 1 else 1
    | none => 1
  l.filter (fun f => !(f.src == src && f.srcPort == port)) ++ [⟨src, port, a, n, now⟩]

/-- An Announce feeds the best master clock algorithm (R369). -/
def State.announceRx (s : State) (h : PtpHdr) (a : AnnounceData) : State :=
  let i := h.inst.val
  let n := h.np.val
  if h.srcId = clockId ∨ 255 ≤ a.steps.toNat then s
  else
    let s1 := s.onPtp i n (fun p => { p with
      foreign := noteForeign p.foreign s.time (4 * logTicks (s.rd (R.PI_INTV_LOG_ANN i))) h.srcId h.srcPort a
      lastAnnounce := if p.parent = some (h.srcId, h.srcPort) then s.time else p.lastAnnounce })
    s1.bmca i

/-- announceReceiptTimeout has expired on a port with a parent (R369). -/
def State.announceOver (s : State) (i n : Nat) : Bool :=
  let p := s.ptpPort i n
  p.slave && (s.ptpPorts i).contains n &&
    decide (p.lastAnnounce + s.rd (R.PI_INTV_ANN_TO i) * logTicks (s.rd (R.PI_INTV_LOG_ANN i)) ≤ s.time)

/-- The parent is dropped and the best master is chosen again. -/
def State.announceLost (s : State) (i n : Nat) : State :=
  (s.onPtp i n (fun p => { p with
    foreign := p.foreign.filter (fun f => p.parent != some (f.src, f.srcPort)) })).bmca i

/-- The dataset a MASTER port announces: the parent's grandmaster data, one step further (R369). -/
def State.announced (s : State) (i : Nat) : Option AnnounceData :=
  match s.slavePort i with
  | none => none
  | some m =>
    let p := s.ptpPort i m
    (p.foreign.find? (fun f => p.parent == some (f.src, f.srcPort))).map (fun f => { f.data with steps := f.data.steps + 1 })

/-- Kinds of periodic message: 0 Sync, 1 Announce, 2 Delay_Req, 3 Pdelay_Req; the message may leave now (R369, R371). -/
def State.ptpMay (s : State) (i n kind : Nat) : Bool :=
  let p := s.ptpPort i n
  let due := fun (l : Nat) => match Sparse.find p.sent kind with
    | some t => decide (t + logTicks l ≤ s.time)
    | none => true
  (s.ptpPorts i).contains n && s.carries n && (match kind with
    | 0 => p.state == 6 && due (s.rd (R.PI_INTV_LOG_SYNC i))
    | 1 => p.state == 6 && due (s.rd (R.PI_INTV_LOG_ANN i)) && (s.announced i).isSome
    | 2 => p.slave && !s.flag (R.PI_CFG_DELAY i)
    | _ => p.state != 3 && s.flag (R.PI_CFG_DELAY i) && due (s.rd (R.PI_INTV_LOG_DREQ i)))

/-- Sends a periodic message that leaves the land at `t` (R371). -/
def State.ptpPeriodic (s : State) (i n kind : Nat) (t : Int) : State :=
  let q := BitVec.ofNat 16 (Sparse.get 0 (s.ptpPort i n).seqs kind)
  let s1 := s.onPtp i n (fun p => { p with sent := Sparse.put p.sent kind s.time, seqs := Sparse.upd 0 p.seqs kind (· + 1) })
  match kind with
  | 0 => if s.flag (R.PI_CFG_ONESTEP i) then s1.ptpTx i n 0 q t 0 none none
      else (s1.ptpTx i n 0 q 0 0 none none).ptpTx i n 8 q t 0 none none
  | 1 => s1.ptpTx i n 11 q 0 0 none (s.announced i)
  | 2 => (s1.ptpTx i n 1 q 0 0 none none).onPtp i n (fun p => { p with dreq := some (q, t) })
  | _ => (s1.ptpTx i n 2 q 0 0 none none).onPtp i n (fun p => { p with pdreq := some (q, t), pdResp := none })

/-! ## Links, ARP and ICMP -/

/-- A link goes down (R363). -/
def State.linkLost (s : State) (n cause : Nat) : State :=
  if s.linkOn n then
    let s1 := (((s.wr (R.NP_STATUS_LINK n) 0).wr (R.NP_STATUS_FEC_LOCK n) 0).wr (R.NP_STATUS_AN_DONE n) 0).inc (R.NP_LINK_DOWNS_COUNT n)
    ((s1.lifeAdd (0x168 + 2 * n) 2 1).condOn Ev.LINK_DOWN n cause).ptpLink n false
  else s

/-- The PCS of a port reports its lock, its RS-FEC alignment and Clause 37: the link comes up when all that its mode needs is there, and
the port sends a gratuitous ARP (R363, R366). -/
def State.linkReport (s : State) (n : Nat) (lock fec an : Bool) : State :=
  let mode := s.netMode n
  let useFec := mode = 3 ∧ s.flag (R.NP_CFG_FEC n)
  let useAn := mode = 1 ∧ s.flag (R.NP_CFG_AN37 n)
  if mode = 0 ∨ s.linkOn n ∨ s.looped n then s
  else
    let s1 := (s.wrB (R.NP_STATUS_FEC_LOCK n) (fec && decide useFec)).wrB (R.NP_STATUS_AN_DONE n) (an && decide useAn)
    if lock ∧ (useFec → fec) ∧ (useAn → an) then
      let s2 := (s1.wr (R.NP_STATUS_LINK n) 1).onPort n (fun p => { p with mac := some (s.macOf n) })
      let s3 := if s.farLoop n then s2 else (s2.emit (.gratuitousArp n)).inc (R.NP_TX_FRAMES_COUNT n)
      (s3.condOff Ev.LINK_DOWN n).ptpLink n true
    else s1

/-- A configuration change restarts the link (R361). -/
def State.linkRestart (s : State) (n : Nat) : State := s.linkLost n (if s.rd (R.NP_CFG_MODE n) = 0 then 3 else 1)

/-- Lists an address in a port's cache of 64; the oldest entry makes room (R366). -/
def arpPut (l : List ArpEntry) (e : ArpEntry) : List ArpEntry :=
  let m := l.filter (fun x => x.ip != e.ip)
  (if m.length < 64 then m else m.drop 1) ++ [e]

/-- An ARP reply fills the cache and releases what waited for it (R366). -/
def State.arpAnswer (s : State) (n : Nat) (mac : BitVec 48) (ip : Word) : State :=
  let waits := ((s.port n).resolve.filter (fun r => r.ip == ip)).flatMap (·.wait)
  let s1 := s.onPort n (fun p => { p with arp := arpPut p.arp ⟨ip, mac, s.time⟩, resolve := p.resolve.filter (fun r => r.ip != ip) })
  waits.foldl (fun (t : State) d => (t.emit (.udp (some mac) d)).inc (R.NP_TX_FRAMES_COUNT n)) s1

/-- An unanswered request is repeated at 1 s and 2 s; at 3 s its datagrams are dropped, and an expired entry goes (R366). -/
def State.arpAgain (s : State) (n : Nat) (ip : Word) : State :=
  match (s.port n).resolve.find? (fun r => r.ip == ip) with
  | none => s
  | some r =>
    if s.time < r.first + secTicks r.sent then s
    else if r.sent < 3 then
      let s1 := s.onPort n (fun p => { p with resolve := p.resolve.map (fun x =>
        if x.ip = ip then { x with sent := x.sent + 1, last := s.time } else x) })
      if s.carries n then (s1.emit (.arpRequest n ip)).inc (R.NP_TX_FRAMES_COUNT n) else s1
    else
      (s.onPort n (fun p => { p with resolve := p.resolve.filter (fun x => x.ip != ip), arp := p.arp.filter (fun x => x.ip != ip) })).add
        (R.NP_TX_DROP_COUNT n) r.wait.length

/-- The addresses a port sends to by configuration (R364). -/
def State.destinations (s : State) (n : Nat) : List Word :=
  let subs := ((List.range 4).filter (fun k => s.rd (R.SUB_CFG_NP k) == n && s.rd (R.SUB_IP_IP k) != 0)).map (fun k => s.rd (R.SUB_IP_IP k))
  let evd := if s.rd R.EVD_CFG_NP = n ∧ s.rd R.EVD_IP_IP ≠ 0 then [s.rd R.EVD_IP_IP] else []
  let set := if n = 1 ∧ s.cf R.SET_ROLE_ROLE = 2 then [s.rd R.SET_LEAD_IP_IP] else []
  (subs ++ evd ++ set).map (fun v => BitVec.ofNat 32 v)

/-- An entry that has reached its age expires; one in use is resolved again, traffic going on (R366). -/
def State.arpExpire (s : State) (n : Nat) (ip : Word) : State :=
  match (s.port n).arp.find? (fun e => e.ip == ip) with
  | none => s
  | some e =>
    if !s.arpOld e ∨ (s.port n).resolve.any (fun r => r.ip == ip) then s
    else if (s.destinations n).any (fun d => s.nextHop n d == some ip) then s.resolve n ip [] true
    else s.onPort n (fun p => { p with arp := p.arp.filter (fun x => x.ip != ip) })

/-- A received frame is discarded and counted (R362, R365, R367). -/
def State.rxDiscard (s : State) (n len : Nat) (fcsOk : Bool) (vid : Option (BitVec 12)) (accepted : Bool) : State :=
  let tagged := s.flag (R.NP_CFG_VLAN_EN n)
  let bad := decide (s.rd (R.NP_CFG_FRAME n) + (if tagged then 4 else 0) < len ∨ len < 64) || !fcsOk
  let mine := if tagged then vid == some (BitVec.ofNat 12 (s.rd (R.NP_VLAN_VID n))) else vid.isNone
  if bad then s.inc (R.NP_RX_BAD_COUNT n)
  else if !mine ∨ !accepted then (s.inc (R.NP_RX_FRAMES_COUNT n)).inc (R.NP_RX_DISCARD_COUNT n)
  else s

end Sys2Proof.Machine
end

