-- ==== Sys2Proof/Machine/NvmOps.lean ====
section
/-! DEFINITION. The configuration flash: its layout and headers, the state store, the journal and the commit (R59 to R70, R76 to R78,
R436 to R438, R448 to R453), and the steps of a wipe that follow their writes (R462). -/

namespace Sys2Proof.Machine

/-! ## Layout and headers (R60 to R63) -/

/-- The slot size S. -/
def State.slotSize (s : State) : Nat :=
  match s.rd R.NVM_INFO_SIZE_LOG2 with
  | 24 => 0x200000
  | 25 => 0xA00000
  | _ => 0x1000000

/-- The largest image body. -/
def State.bodyMax (s : State) : Nat :=
  match s.rd R.NVM_INFO_SIZE_LOG2 with
  | 24 => 0x1FF000
  | 25 => 0x9FF000
  | _ => 0xC00000

/-- Where a slot, a state-store half and the journal begin. -/
def State.slotBase (s : State) (k : Nat) : Nat := k * s.slotSize
def State.storeBase (s : State) (h : Nat) : Nat := 2 * s.slotSize + h * 0x400000
def State.journalBase (s : State) : Nat := 2 * s.slotSize + 0x800000

/-- A header of R61. -/
structure Header where
  kind : Nat
  flags : Nat
  gen : Nat
  len : Nat
  crc : Nat
  imageGen : Nat
  /-- offsets 0x34 to 0x3B are 0 -/
  spare0 : Bool
  deriving DecidableEq, Repr

/-- The 64 bytes of a header. -/
def headerBytes (h : Header) (written : Nat) (tool : List Byte) : List Byte :=
  let b := leBytes 4 0x4B464E56 ++ leBytes 1 h.kind ++ leBytes 1 1 ++ leBytes 2 h.flags ++ leBytes 4 h.gen ++ leBytes 4 h.len ++
    leBytes 4 h.crc ++ leBytes 4 0x512 ++ leBytes 8 written ++ (tool ++ List.replicate 16 0).take 16 ++ leBytes 4 h.imageGen ++
    leBytes 8 0
  b ++ leBytes 4 (crc32 b)

/-- The header at a flash address when its MAGIC, HDR_CRC and PRODUCT are right. -/
def State.headerAt (s : State) (a : Nat) : Option Header :=
  let b := s.flashRead a 64
  if le b 0 4 = 0x4B464E56 ∧ le b 0x3C 4 = crc32 (b.take 0x3C) ∧ le b 0x14 4 = 0x512 then
    some ⟨le b 4 1 + 256 * le b 5 1, le b 6 2, le b 8 4, le b 0xC 4, le b 0x10 4, le b 0x30 4, zeros b 0x34 8⟩
  else none

/-- The header meets R61 for a kind and a largest body, FORMAT 1 included. -/
def Header.good (h : Header) (kind maxLen : Nat) : Bool :=
  h.kind == kind + 256 && h.gen != 0 && h.gen != 0xFFFFFFFF && h.len % 4 == 0 && decide (8 ≤ h.len ∧ h.len ≤ maxLen) &&
    h.spare0 && (kind == 2 && h.flags == 0 || kind == 1 && decide (h.flags < 4) && h.imageGen == 0)

/-- A record of R63. -/
def record (type : Nat) (v : List Byte) : List Byte :=
  leBytes 2 type ++ leBytes 2 0 ++ leBytes 4 v.length ++ v ++ List.replicate ((4 - v.length % 4) % 4) 0

/-- The records of a body: type, FLAGS, value; none when the form of R63 is broken. The first number bounds the records. -/
def recordsOf : Nat → List Byte → Option (List (Nat × Nat × List Byte))
  | 0, _ => none
  | n + 1, b =>
    let len := le b 4 4
    let size := 8 + len + (4 - len % 4) % 4
    if b.length < 8 ∨ b.length < size ∨ 1 < le b 2 2 ∨ ((b.drop (8 + len)).take (size - 8 - len)).any (· != 0) then none
    else if le b 0 2 = 1 then (if len = 0 ∧ b.length = 8 then some [] else none)
    else (recordsOf n (b.drop size)).map (fun l => (le b 0 2, le b 2 2, (b.drop 8).take len) :: l)

/-- The form of a record of a configuration image that R64 and R65 ask of its type. -/
def recordForm (r : Nat × Nat × List Byte) : Bool :=
  match r.1 with
  | 2 => r.2.2.length % 8 == 0
  | 3 => r.2.2.length % 8 == 0
  | 4 => r.2.2.length % 8 == 0
  | 5 => decide (8 ≤ r.2.2.length) && r.2.2.length % 4 == 0 && le r.2.2 0 4 % 4 == 0 && decide (0x40000000 ≤ le r.2.2 0 4) && zeros r.2.2 4 4
  | 6 => true
  | _ => r.2.1 == 1

/-- The slot the next Dawn would try first (R68): the valid one of higher GENERATION, slot A on a tie. -/
def State.nextSlot (s : State) : Nat :=
  let a := s.flag R.NVM_SLOTS_A_VALID
  let b := s.flag R.NVM_SLOTS_B_VALID
  if b ∧ (!a ∨ s.rd R.GEN_A_GEN < s.rd R.GEN_B_GEN) then 1 else 0

/-- The target of a commit (R77). -/
def State.commitTarget (s : State) : Nat :=
  let a := s.flag R.NVM_SLOTS_A_VALID
  let b := s.flag R.NVM_SLOTS_B_VALID
  if a ∧ b then (if s.rd R.GEN_B_GEN ≤ s.rd R.GEN_A_GEN then 1 else 0) else if a then 1 else 0

/-- The GENERATION a new image takes (R77). -/
def State.newGen (s : State) : Nat :=
  ((List.range 2).filterMap (fun k => (s.headerAt (s.slotBase k)).map (·.gen))).foldl max 0 + 1

/-! ## The state store (R69, R156, R282, R304, R357, R418) -/

/-- An entry of LANE_TRIMS. -/
def trimEntry (kind lane : Nat) (t : TrimSet) : List Byte :=
  leBytes 1 kind ++ leBytes 1 lane ++ leBytes 2 (unsigned 16 t.temp) ++ leBytes 2 t.rate ++
    leBytes 1 (unsigned 8 (t.trims.getD 0 0)) ++ leBytes 1 (unsigned 8 (t.trims.getD 1 0)) ++ leBytes 1 (unsigned 8 (t.trims.getD 2 0)) ++
    (List.range 5).flatMap (fun i => leBytes 1 (unsigned 6 (t.trims.getD (3 + i) 0))) ++ leBytes 2 t.area ++ leBytes 4 0

/-- The IV of a key entry (R156). -/
def keyIv (gen slot : Nat) : List Byte := leBytes 4 gen ++ leBytes 1 slot ++ List.replicate 7 0

/-- The die's wrapping key. -/
def wrapKey : List Byte := (List.range 32).map Config.wrappingKey

/-- An entry of KEYS (R156). -/
def keyEntry (gen slot : Nat) (key : List Byte) : List Byte :=
  let aad := leBytes 1 slot ++ leBytes 3 0
  let iv := keyIv gen slot
  let c := gcmCrypt wrapKey iv key
  aad ++ iv ++ c ++ gcmTag wrapKey iv aad c

/-- The key slots that hold a key. -/
def State.keySlots (s : State) : List Nat := (List.range 8).filter (fun k => bit (s.rd R.KEY_VALID_SLOTS) k)

/-- The records of the state store but for the keys. -/
def State.storeRecords (s : State) : List Byte :=
  let total := (s.channels.map s.chWidth).sum
  let sets := fun (l : Sparse GateSet) => l.flatMap (fun e => leBytes 1 e.1 ++ leBytes 1 0 ++ leBytes 2 (unsigned 16 e.2.temp) ++
    leBytes 2 e.2.offset ++ leBytes 1 e.2.gain ++ leBytes 1 0 ++ leBytes 2 e.2.aref ++ leBytes 2 0)
  let gates := (List.range 4).flatMap (fun g => (s.gate g).sets.map (fun x => (g, x)))
  let rx := (List.range 16).flatMap (fun n => (s.lane n).rx.sets.flatMap (trimEntry 0 n)) ++
    (List.range 4).flatMap (fun n => (Sparse.get ({} : Rx) s.camRx n).sets.flatMap (trimEntry 1 n))
  record 0x8010 (leBytes 4 s.darn.list.length ++ s.darn.list.flatMap (fun m => leBytes 4 m.words.1 ++ leBytes 4 m.words.2)) ++
  record 0x8011 (sets gates) ++
  record 0x8020 (leBytes 4 total ++ (List.range total).map (fun n => BitVec.ofNat 8 (s.gain n))) ++
  record 0x8021 ((List.range 16).flatMap (fun b => leBytes 2 (unsigned 16 (s.rdI (R.TG_REG_REG b))) ++
    leBytes 1 (unsigned 8 (s.rdI (R.BAR_LAT_LAT b))) ++ leBytes 1 0)) ++
  record 0x8030 (leBytes 2 s.mem.hbmMap.length ++ leBytes 2 s.mem.sramMap.length ++
    s.mem.hbmMap.zipIdx.flatMap (fun e => (remapWords e.1 e.2).flatMap (leBytes 4)) ++
    s.mem.sramMap.zipIdx.flatMap (fun e => (remapWords e.1 (sramSpare s.mem.sramMap e.2)).flatMap (leBytes 4))) ++
  record 0x8040 rx

/-- The contents of the store as compared for a change (R69). -/
def State.storePlain (s : State) : List Byte :=
  s.storeRecords ++ (s.keySlots.flatMap (fun k => leBytes 1 k ++ Sparse.get [] s.keys k))

/-- The body of a store written with a GENERATION; with no key there is no KEYS record. -/
def State.storeBody (s : State) (gen : Nat) : List Byte :=
  s.storeRecords ++ (if s.keySlots.isEmpty then [] else
    record 0x8050 (s.keySlots.flatMap (fun k => keyEntry gen k (Sparse.get [] s.keys k)))) ++ record 1 []

/-! ## What may be written now (R436, R439, R463) -/

/-- No erase or program step may start: the write window, a dip, or SCAN_OPEN. -/
def State.nvmShut (s : State) : Bool := s.nvm.windowShut || s.therm.dipStart.isSome || s.pow.scanOpen

/-- Changes what the flash side holds. -/
def State.onNvm (s : State) (f : Nvm → Nvm) : State := { s with nvm := f s.nvm }

/-- TEMP_DEFER is active while the window holds a write back (R436, R78). -/
def State.tempDefer (s : State) : State :=
  let on := s.nvm.windowShut && (!s.nvm.held.isEmpty || s.nvm.stPend || s.nvm.commit.deferred)
  (if on then s.wr R.NVM_ERR_TEMP_DEFER 1 else s).cond on Ev.TEMP_DEFER

/-- A failure of the flash: its bit, its event and the count of R448. -/
def State.nvmFail (s : State) (f : Field) (e : Event) : State := ((s.wr f 1).lifeAdd 0x196 2 1).raise e

/-- The failure that a result of an operation stands for. -/
def State.flashFail (s : State) (r : FlashResult) : State :=
  match r with
  | .ok => s
  | .eraseFail => s.nvmFail R.NVM_ERR_ERASE_FAIL Ev.ERASE_FAIL
  | .programFail => s.nvmFail R.NVM_ERR_PROGRAM_FAIL Ev.PROGRAM_FAIL
  | .verifyFail => s.nvmFail R.NVM_ERR_VERIFY_FAIL Ev.VERIFY_FAIL

/-- What a page of `n` bytes holds after a program that failed: the spec does not say. -/
def State.halfProgram (s : State) (a n : Nat) : State :=
  (s.flashProgram a ((List.range n).map (fun i => BitVec.ofNat 8 (Config.freeNat (2000 + i) s.free)))).drawn

/-- Flash erase commands issued (R448). -/
def State.erases (s : State) (n : Nat) : State := s.lifeAdd 0x19C 4 n

/-! ## The journal (R448, R451 to R453) -/

/-- The next GEN: 1 to 0xFFFFFFFE. -/
def State.nextGen (s : State) : Nat := if s.rd R.LIFE_GEN_GEN = 0xFFFFFFFE then 1 else s.rd R.LIFE_GEN_GEN + 1

/-- A record takes its GEN and its CRC. -/
def sealRecord (b : List Byte) (gen : Nat) : List Byte :=
  let c := b.take 4 ++ leBytes 4 gen ++ (b.drop 8).take 0x1F4
  c ++ leBytes 4 (crc32 c)

/-- A record starts to be written in the next slot. -/
def State.journalStart (s : State) (cause : Nat) (b : List Byte) : State :=
  s.onNvm (fun n => { n with jWrite := some (n.jNext, cause, sealRecord b s.nextGen) })

/-- Where a record held drops out: the oldest periodic one, else the oldest. -/
def dropHeld (l : List (Nat × List Byte)) : List (Nat × List Byte) :=
  match l.findIdx? (fun x => x.1 == 1) with
  | some i => l.eraseIdx i
  | none => l.drop 1

/-- A record is held in SRAM, at most 64 of them (R436). -/
def State.journalHold (s : State) (cause : Nat) (b : List Byte) : State :=
  let s1 := if s.nvm.held.length < 64 then s
    else ((s.onNvm (fun n => { n with held := dropHeld n.held })).addSat R.NVM_DEFER_LOST 1).lifeAdd 0x1A4 4 1
  (s1.onNvm (fun n => { n with held := n.held ++ [(cause, b)] })).tempDefer

/-- A record is made and written, or held (R436, R439, R440). -/
def State.journalMake (s : State) (cause : Nat) : State :=
  let b := s.lifeBytes cause 0
  let s1 := s.onNvm (fun n => { n with due := n.due.filter (· != cause), lastPeriodic := if cause = 1 then s.time else n.lastPeriodic })
  let open_ := !s.nvmShut || (cause == 6 && !s.nvm.windowShut && !s.pow.scanOpen)
  if open_ ∧ s.nvm.jWrite.isNone ∧ (s.nvm.held.isEmpty ∨ cause = 6) then s1.journalStart cause b else s1.journalHold cause b

/-- A block of the journal holds only erased bytes. -/
def State.blockErased (s : State) (blk : Nat) : Bool :=
  let a := s.journalBase + 0x10000 * blk
  s.flash.all (fun c => decide (c.1 < a) || decide (a + 0x10000 ≤ c.1))

/-- The block after the one being filled is kept erased (R453). -/
def State.keepErased (s : State) (slot : Nat) : State :=
  let blk := (slot / 128 + 1) % 64
  if s.nvm.jErase.isSome ∨ s.blockErased blk then s else (s.onNvm (fun n => { n with jErase := some blk })).erases 1

/-! ## Writes (R69, R77, R436) -/

/-- The half the next store goes to: the one that does not hold the newest. -/
def State.otherHalf (s : State) : Nat := if s.rd R.STATE_GEN_GEN = 0 then 0 else 1 - s.rd R.NVM_SLOTS_ST_HALF

/-- A state-store write starts, with the contents of this moment; during a wipe both halves are erased (R436, R462). -/
def State.storeStart (s : State) : State :=
  let body := s.storeBody (s.rd R.STATE_GEN_GEN + 1)
  let n := if s.pow.wipeStep = 3 then 128 else 1 + (body.length + 0x1000 + 0xFFFF) / 0x10000
  (s.onNvm (fun v => { v with stPend := false, stDue := false, stWrite := some s.otherHalf, stBodyNew := body })).erases n

/-- NVM_OP of a commit step. -/
def CommitStep.op : CommitStep → Nat
  | .idle => 0
  | .eraseHeader => 2
  | .eraseBlocks _ => 2
  | .program _ => 3
  | .verify => 4
  | .header => 6

/-- A commit moves to a step, deferred when no step may start (R78, R436, R439). -/
def State.commitTo (s : State) (st : CommitStep) : State :=
  let hold := s.nvmShut && st != .verify && st != .idle
  let s1 := s.onNvm (fun n => { n with commit := { n.commit with step := st, deferred := hold } })
  let s2 := if hold then s1 else match st with
    | .eraseHeader => s1.erases 1
    | .eraseBlocks _ => s1.erases 1
    | _ => s1
  (s2.wr R.NVM_OP_OP (if hold then 5 else st.op)).tempDefer

/-- What waits for the flash starts as soon as it may, not in Night: held journal records, the state store, the commit (R85, R436). -/
def State.flashKick (s : State) : State :=
  if s.nvmShut ∨ s.nvm.jWrite.isSome ∨ s.pow.phase = .night then s
  else match s.nvm.held with
    | (c, b) :: rest => (State.journalStart (s.onNvm (fun n => { n with held := rest })) c b).tempDefer
    | [] =>
      let s1 := if s.nvm.stPend ∧ s.nvm.stWrite.isNone then s.storeStart else s
      (if s1.nvm.commit.deferred then s1.commitTo s1.nvm.commit.step else s1).tempDefer

/-- A wipe clears the keys and goes on to its store write (R462). -/
def State.wipeKeys (s : State) : State :=
  let s1 := { s with keys := [], pow := { s.pow with wipeStep := 3 } }.wr R.KEY_VALID_SLOTS 0
  if s1.nvmShut then s1.onNvm (fun n => { n with stPend := true }) else s1.storeStart

/-- A wipe zero-fills HBM and SRAM and sets SCAN_OPEN (R462). -/
def State.wipeEnd (s : State) : State :=
  { s with hbm := [], regs := s.regs.filter (fun e => decide (e.1 < 0x40000000)), pow := { s.pow with wipeStep := 0, scanOpen := true } }

/-- A journal write has ended (R453). -/
def State.journalDone (s : State) (slot cause : Nat) (b : List Byte) (r : FlashResult) : State :=
  let next := (slot + 1) % 8192
  let a := s.journalBase + 512 * slot
  if r = .ok then
    let s1 := (((s.flashProgram a b).wr R.LIFE_POS_SLOT slot).wr R.LIFE_GEN_GEN (le b 4 4)).inc R.LIFE_RECORDS_COUNT
    let s2 := (s1.onNvm (fun n => { n with jWrite := none, jNext := next })).keepErased slot
    (if cause = 9 ∧ s2.pow.wipeStep = 1 then s2.wipeKeys else s2).flashKick
  else ((s.halfProgram a 512).onNvm (fun n => { n with jNext := next, jWrite := some (next, cause, b) })).flashFail r

/-- The erase of the ring's next block has ended. -/
def State.ringErased (s : State) (blk : Nat) (r : FlashResult) : State :=
  let a := s.journalBase + 0x10000 * blk
  let s1 := s.onNvm (fun n => { n with jErase := none })
  if r = .ok then s1.flashErase a (a + 0x10000) else s1.flashFail r

/-- A state-store write has ended (R69, R87). -/
def State.storeDone (s : State) (half : Nat) (r : FlashResult) : State :=
  let a := s.storeBase half
  let wipe := s.pow.wipeStep = 3
  let s0 := s.onNvm (fun n => { n with stWrite := none, stLast := s.time })
  let s1 := s0.flashErase (if wipe then s.storeBase 0 else a) (if wipe then s.storeBase 2 else a + 0x400000)
  if r = .ok then
    let gen := s.rd R.STATE_GEN_GEN + 1
    let body := s.nvm.stBodyNew
    let h := headerBytes ⟨2, 0, gen, body.length, crc32 body, s.rd R.IMAGE_GEN_GEN, true⟩ s.tb0Seconds []
    let s2 := ((s1.flashProgram (a + 0x1000) body).flashProgram a h).onNvm (fun n => { n with stBody := s.storePlain })
    let s3 := ((s2.wr R.STATE_GEN_GEN gen).wr R.NVM_SLOTS_ST_HALF half).lifeAdd 0x198 4 1
    if wipe then s3.wipeEnd else s3.flashKick
  else (s1.nvmFail R.NVM_ERR_STATE_WRITE_FAIL Ev.STATE_WRITE_FAIL).flashKick

/-! ## The commit (R77, R78) -/

/-- A commit is in progress. -/
def State.committing (s : State) : Bool := s.nvm.commit.step != .idle

/-- The staging area: the top 12 MiB of usable HBM (R76). -/
def stageBase : Nat := 0x3C0000000 - 0xC00000

/-- GEN and validity of a slot. -/
def State.setSlot (s : State) (k gen : Nat) (ok : Bool) : State :=
  let s1 := if k = 0 then (s.wrB R.NVM_SLOTS_A_VALID ok).wr R.GEN_A_GEN (if ok then gen else 0)
    else (s.wrB R.NVM_SLOTS_B_VALID ok).wr R.GEN_B_GEN (if ok then gen else 0)
  s1.wr R.NVM_SLOTS_NEXT s1.nextSlot

/-- A commit ends without a new image. -/
def State.commitFail (s : State) (r : FlashResult) : State :=
  (((s.onNvm (fun n => { n with commit := {} })).wr R.NVM_OP_OP 0).flashFail r).tempDefer

/-- One operation of a commit has ended well. -/
def State.commitNext (s : State) : State :=
  let c := s.nvm.commit
  let base := s.slotBase c.target
  let blocks := (c.len + 0x1000 + 0xFFFF) / 0x10000
  match c.step with
  | .idle => s
  | .eraseHeader => ((s.flashErase base (base + 0x1000)).setSlot c.target 0 false).commitTo (.eraseBlocks blocks)
  | .eraseBlocks left =>
    let a := base + 0x10000 * (blocks - left)
    (s.flashErase a (a + 0x10000)).commitTo (if left ≤ 1 then .program 0 else .eraseBlocks (left - 1))
  | .program page =>
    let n := min 256 (c.len - 256 * page)
    (s.flashProgram (base + 0x1000 + 256 * page) (s.hbmRead (stageBase + 256 * page) n)).commitTo
      (if c.len ≤ 256 * (page + 1) then .verify else .program (page + 1))
  | .verify =>
    if crc32 (s.flashRead (base + 0x1000) c.len) = c.crc.toNat then s.commitTo .header else s.commitFail .verifyFail
  | .header =>
    let h := headerBytes ⟨1, c.flags, c.gen, c.len, c.crc.toNat, 0, true⟩ s.tb0Seconds c.tool
    let s1 := ((s.flashProgram base h).onNvm (fun n => { n with commit := {}, untried := none })).wr R.NVM_OP_OP 0
    (((s1.setSlot c.target c.gen true).wr R.NVM_SLOTS_OTHER_CHK 1).lifeAdd 0x194 2 1).raise Ev.COMMIT_DONE c.target c.gen

/-- A flash operation has ended: that of a journal record, of the ring, of the state store, or of the commit, in this order. -/
def State.flashDone (s : State) (r : FlashResult) : State :=
  match s.nvm.jWrite, s.nvm.jErase, s.nvm.stWrite with
  | some (slot, c, b), _, _ => s.journalDone slot c b r
  | none, some blk, _ => (s.ringErased blk r).flashKick
  | none, none, some h => s.storeDone h r
  | none, none, none =>
    if !s.committing ∨ s.nvm.commit.deferred then s
    else if r = .ok then s.commitNext.flashKick
    else s.commitFail r

/-- The flash is halted by a trip, a reset or a lost supply: the operation in progress has begun and runs to its end, or is discarded;
with an SPI byte in progress which one is open, and on an idle bus it has begun (R438). Nothing of a commit goes on (R78), and what
SRAM held is lost. -/
def State.flashHalt (s : State) (spiIdle : Bool := false) : State :=
  let begun := spiIdle || s.draw 90 % 2 == 1
  let s1 := match s.nvm.jWrite, s.nvm.jErase, s.nvm.stWrite with
    | some (slot, _, b), _, _ => if begun then s.flashProgram (s.journalBase + 512 * slot) b else s
    | none, some blk, _ => if begun then s.ringErased blk .ok else s
    | none, none, some h => if begun then s.flashErase (s.storeBase h) (s.storeBase h + 0x400000) else s
    | none, none, none => if begun ∧ s.committing ∧ !s.nvm.commit.deferred then s.commitNext else s
  State.drawn { s1 with nvm := { lastHostFault := s.nvm.lastHostFault, lastPeriodic := s.nvm.lastPeriodic, windowShut := s.nvm.windowShut } }

/-- The state store is due: written when its contents have changed since the last write (R69). -/
def State.storeWrite (s : State) : State :=
  if s.storePlain = s.nvm.stBody then s.onNvm (fun n => { n with stDue := false, stLast := s.time })
  else if s.nvmShut ∨ s.nvm.stWrite.isSome ∨ s.nvm.jWrite.isSome ∨ !s.nvm.held.isEmpty then
    (s.onNvm (fun n => { n with stDue := false, stPend := true })).tempDefer
  else s.storeStart

/-- A background check of the untried slot has failed, or passed (R465). -/
def State.untriedDone (s : State) (k : Nat) (ok : Bool) : State :=
  let s1 := (s.onNvm (fun n => { n with untried := none })).wr R.NVM_SLOTS_OTHER_CHK 1
  if ok then s1 else s1.setSlot k 0 false

end Sys2Proof.Machine
end

