-- ==== Sys2Proof/Machine/ThermOps.lean ====
section
/-! DEFINITION. Temperature, heads, supply dips and the current ceiling (R424 to R445). -/

namespace Sys2Proof.Machine

/-- Changes the heat and supply state. -/
def State.onTherm (s : State) (f : Therm → Therm) : State := { s with therm := f s.therm }

/-- The highest of some readings with its sensor, the lowest sensor on a tie. -/
def hottest : Nat → List Int → Int × Nat
  | i, [] => (-640, i)
  | i, t :: ts => let r := hottest (i + 1) ts; if t < r.1 then r else (t, i)

/-- A lifetime extreme of a signed or unsigned 16-bit reading. -/
def State.lifeExtreme (s : State) (off : Nat) (seen : Bool) (v : Nat) (better : Bool) : State :=
  if seen ∧ !better then s else { s with life := Sparse.set 0 s.life off v }

/-- Since when a test has held. -/
def since (b : Bool) (now : Nat) (old : Option Nat) : Option Nat := if b then some (old.getD now) else none

/-- SUPPLY_STOP follows its two causes (R440, R445). -/
def State.supplyFlag (s : State) : State := s.wrB R.SUP_STATE_SUPPLY_STOP (s.therm.supplyDip || s.therm.supplyCeil)

/-- BG_HELD once the last bar has STOPPED for an orderly stop, and the writes of R430 fall due. -/
def State.orderlyDone (s : State) : State :=
  if s.flag R.THERM_STATE_STOP_DIE ∧ !(List.range 16).any s.barActive ∧ !s.flag R.THERM_STATE_BG_HELD then
    ((s.wr R.THERM_STATE_BG_HELD 1).onNvm (fun n => { n with stDue := true })).journalDue 5
  else s

/-- The heat half of a sample with the core on; the HBM sensor counts in Day and Dusk only: T_hot, θ, THROTTLE, the dwell and the end of the orderly stop's cause (R425 to R430). -/
def State.heatSample (s : State) (ts : List Int) (hbm : Int) : State :=
  let h := hottest 0 (if s.pow.phase = .maint then ts else ts ++ [hbm])
  let th := (clampI 0 1000 (divOpen 89 ((h.1 - 1520) * 1000) 160)).toNat
  let s1 := ((((s.wrI R.THERM_HBM_TEMP hbm).wrI R.THERM_HOT_TEMP h.1).wr R.THERM_HOT_SENSOR h.2).wr R.THERM_HOT_THETA th).onTherm
    (fun t => { t with hot := h.1, hotSensor := h.2, theta := th, hotSince := since (decide (1760 ≤ h.1)) s.time t.hotSince })
  let s2 := if 1520 < h.1 then (s1.wr R.THERM_STATE_THROTTLE 1).oneOn Ev.THROTTLE h.2 th
    else if h.1 < 1472 then (s1.wr R.THERM_STATE_THROTTLE 0).oneOff Ev.THROTTLE th else s1
  let s3 := if h.1 < 1360 then (s2.wr R.THERM_STATE_STOP_DIE 0).wr R.THERM_STATE_BG_HELD 0 else s2
  s3.wrB R.THERM_STATE_TRIP_ARMED (!s.inService)

/-- The supply half of a sample (R58, R448). -/
def State.supplySample (s : State) (vin iin vinMin vaux : Nat) : State :=
  let low := if s.therm.sampleAt.isNone then vinMin else min vinMin (s.rd R.SUP_VIN_VIN_MIN_MV)
  let p := min 65535 (divOpenN 88 (vin * iin) 10000)
  let s1 := ((((s.wr R.SUP_VIN_VIN_MV vin).wr R.SUP_VIN_VIN_MIN_MV low).wr R.SUP_IIN_IIN_MA iin).wr R.SUP_PIN_PIN_10MW p).wr
    R.SUP_VAUX_VAUX_MV vaux
  let s2 := if s.awake then
      ((s1.lifeExtreme 0x0C8 s.therm.vSeen vinMin (decide (vinMin < Sparse.get 0 s.life 0x0C8))).lifeMax 0x0CA iin).onTherm
        (fun t => { t with vSeen := true })
    else s1
  let e := Sparse.get 0 s2.lifeRem 0x064 + p
  ({ s2 with lifeRem := Sparse.set 0 s2.lifeRem 0x064 (e % 360000000) }).lifeAdd 0x064 4 (e / 360000000)

/-- The 1 ms sample: every power state has the island's readings; Day and Dusk have the rest (R424, R425, R436). -/
def State.thermSample (s : State) (ts : List Int) (hbm : Int) (vin iin vinMin vaux : Nat) : State :=
  let h := hottest 0 ts
  let t8 := ts.getD 8 0
  let s1 := (ts.zipIdx).foldl (fun (t : State) e => t.wrI (R.TS_TEMP e.2) e.1) s
  let seen := s.therm.tSeen
  let s2 := (s1.lifeExtreme 0x0A0 seen (unsigned 16 h.1) (decide (signed 16 (Sparse.get 0 s.life 0x0A0) < h.1))).lifeExtreme 0x0A2 seen
    (unsigned 16 h.1) (decide (h.1 < signed 16 (Sparse.get 0 s.life 0x0A2)))
  let s3 := s2.onTherm (fun t => { t with isl := h.1, islSensor := h.2, tSeen := true
                                          tripSince := since (decide (1760 ≤ h.1)) s.time t.tripSince })
  let s4 := if s.powered then (s3.supplySample vin iin vinMin vaux) else s3
  let s5 := if s.powered then s4.heatSample ts hbm else s4
  let s6 := s5.onTherm (fun t => { t with sampleAt := some s.time })
  let s7 := if t8 < -400 ∨ 1520 < t8 then s6.onNvm (fun n => { n with windowShut := true }) else s6
  if s.powered then s7.tempDefer.speedDemand else s7

/-- The orderly stop of R430 is due. -/
def State.orderlyNow (s : State) : Bool :=
  s.inService && !s.flag R.THERM_STATE_STOP_DIE && (match s.therm.hotSince with
    | some t => decide (t + usTicks 100000 ≤ s.time)
    | none => false)

/-- The orderly stop (R430); in Dusk it is complete at once, without the event. -/
def State.orderlyStop (s : State) : State :=
  let s1 := (s.wr R.THERM_STATE_STOP_DIE 1).addSat R.THERM_COUNTS_ORDERLY 1
  let s2 := if s.pow.phase ≠ .day then s1 else s1.raise Ev.ORDERLY_STOP s.therm.hotSensor (unsigned 32 s.therm.hot)
  (s2.requestStop 3).orderlyDone

/-- The write window reopens (R436). -/
def State.windowReopen (s : State) : State :=
  let t8 := s.rdI (R.TS_TEMP 8)
  if s.nvm.windowShut ∧ -352 ≤ t8 ∧ t8 ≤ 1472 then (s.onNvm (fun n => { n with windowShut := false })).flashKick else s

/-! ## Heads (R434, R435) -/

/-- Changes the head of a channel. -/
def State.onHead (s : State) (c : Nat) (f : Head → Head) : State := { s with heads := Sparse.upd {} s.heads c f }

/-- The condition events and STOP_HEAD follow the head bits; a code of 0xFF stands for stale (R434, R435). -/
def State.headFlags (s : State) (c : Nat) : State :=
  let arg := if s.flag (R.CH_HEADT_STALE c) then 255 else (s.headTemp c).getD 255
  let s1 := (s.cond (s.head c).soft Ev.HEAD_SOFT_LIMIT c arg).cond (s.head c).hard Ev.HEAD_HARD_LIMIT c arg
  if s1.channels.any s1.headHard then s1 else s1.wr R.THERM_STATE_STOP_HEAD 0

/-- A HEAD_HARD channel of a bar with a piece in flight requests the stop (R435). -/
def State.headStop (s : State) : State :=
  if !s.flag R.THERM_STATE_STOP_HEAD ∧ s.channels.any (fun c => s.headHard c && s.barActive (s.chBar c)) then
    (s.wr R.THERM_STATE_STOP_HEAD 1).requestStop 2
  else s

/-- A code received for the head of a channel; 0xFF: no sensor (R268, R269, R434). -/
def State.headCode (s : State) (c code : Nat) : State :=
  let s1 := { (s.wr (R.CH_HEADT_CODE c) code).wr (R.CH_HEADT_STALE c) 0 with reports := Sparse.set 0 s.reports c s.time }
  if code = 255 then (s1.onHead c (fun _ => {})).headFlags c
  else
    let soft := s.rd (R.BAR_HEADLIM_SOFT (s.chBar c))
    let hard := s.rd (R.BAR_HEADLIM_HARD (s.chBar c))
    (s1.onHead c (fun h =>
      let l := (code :: h.codes).take 16
      let m := l.sum
      let n := l.length
      { codes := l
        soft := if soft * n ≤ m then true else if m < (soft - 6) * n then false else h.soft
        hard := if m < (hard - 6) * n then false else h.hard
        since := since (decide (hard * n ≤ m)) s.time h.since })).headFlags c

/-- A head has been at its hard limit for 100 ms (R434). -/
def State.headDue (s : State) (c : Nat) : Bool :=
  s.chOn c && !s.headHard c && (match (s.head c).since with
    | some t => decide (t + usTicks 100000 ≤ s.time)
    | none => false)

/-- A channel becomes HEAD_HARD (R434, R435). -/
def State.headLimit (s : State) (c : Nat) : State := ((s.onHead c (fun h => { h with hard := true })).headFlags c).headStop.speedDemand

/-- No report has reached a channel for 5 ms: STALE; for 100 ms: HEAD_HARD at once (R269, R434). -/
def State.headSilent (s : State) (c : Nat) : State :=
  let age := s.time - Sparse.get 0 s.reports c
  if !s.chOn c ∨ age < usTicks 5000 then s
  else
    let s1 := s.wr (R.CH_HEADT_STALE c) 1
    (if usTicks 100000 ≤ age ∧ (s.head c).codes ≠ [] then s1.headLimit c else s1.speedDemand)

/-! ## Dips (R439 to R443) -/

/-- ACFAIL_N, the VIN warning and VIO are watched: with the core on, and in Night, whose events are sent at exit (R85). -/
def State.watched (s : State) : Bool := s.powered || s.pow.phase == .night

/-- ACFAIL_N is assigned to a pin (R46). -/
def State.acfailPin (s : State) : Bool := (List.range 4).any (fun n => s.rd (R.MFP_CFG_FUNC n) == 0x16)

/-- The bin of a duration in ticks (R443). -/
def dipBin (t : Nat) : Nat :=
  if t < usTicks 100 then 0 else if t < usTicks 500 then 1 else if t < usTicks 1000 then 2 else if t ≤ usTicks 2000 then 3
  else if t < usTicks 5000 then 4 else if t < usTicks 20000 then 5 else if t < usTicks 100000 then 6 else 7

/-- A dip counts in a bin of the histogram (R443, R448). -/
def State.binDip (s : State) (i : Nat) : State := (s.inc (R.DIP_HIST_COUNT i)).lifeAdd (0x0A4 + 4 * i) 4 1

/-- ACFAIL_N asserts or VIN falls below 10.2 V (R439). -/
def State.dipBegin (s : State) (acfail : Bool) (mv : Nat) : State :=
  let ac := acfail && s.acfailPin
  let low := decide (mv < 10200)
  if !ac ∧ !low then s
  else
    let s1 := s.onTherm (fun t => { t with acfail := t.acfail || ac, vinWarn := t.vinWarn || low, dipStart := some (t.dipStart.getD s.time)
                                           dipUnder := t.dipUnder || decide (mv < 9000) })
    let s2 := ((s1.wrB R.SUP_STATE_ACFAIL s1.therm.acfail).wrB R.SUP_STATE_VIN_WARN s1.therm.vinWarn).wr R.SUP_STATE_DIP 1
    let s3 := if ac then s2.condOn Ev.ACFAIL else s2
    if low then s3.condOn Ev.VIN_WARNING else s3

/-- The dip in progress has lasted longer than RIDE. -/
def State.dipLong (s : State) : Bool := match s.therm.dipStart with
  | some t => decide (t + usTicks (s.rd R.SUP_CFG_RIDE_US) < s.time)
  | none => false

/-- A dip's inputs have both released: its duration, its bin, and what waited for it (R439, R443). -/
def State.dipOver (s : State) (ridden : Bool) : State :=
  match s.therm.dipStart with
  | none => s
  | some t =>
    let d := s.time - t
    let s1 := ((s.onTherm (fun x => { x with dipStart := none, dipUnder := false, dipStopped := false
                                             dipEnded := if x.dipStopped then some s.time else x.dipEnded })).wr R.SUP_STATE_DIP 0).wr
      R.SUP_LAST_DIP_US (min 16777215 (d / 200))
    let s2 := s1.binDip (dipBin d)
    let s3 := if ridden then ((s2.addSat R.SUP_DIPS_RIDDEN 1).lifeAdd 0x0C4 4 1).raise Ev.DIP_RIDDEN 0 (d / 200) else s2
    s3.flashKick

/-- ACFAIL_N releases or VIN rises above the warning threshold; the dip, when both have (R439). -/
def State.dipRelease (s : State) (ac vin : Bool) : State :=
  let s1 := s.onTherm (fun t => { t with acfail := t.acfail && !ac, vinWarn := t.vinWarn && !vin })
  let s2 := (s1.wrB R.SUP_STATE_ACFAIL s1.therm.acfail).wrB R.SUP_STATE_VIN_WARN s1.therm.vinWarn
  let s3 := if ac then s2.condOff Ev.ACFAIL else s2
  if vin then s3.condOff Ev.VIN_WARNING else s3

/-- The dip in progress may be ridden: within RIDE, VIN never below 9.0 V, no supply stop (R439). -/
def State.dipRidable (s : State) : Bool := s.therm.dipStart.isSome && !s.dipLong && !s.therm.dipUnder && !s.therm.dipStopped

/-- A supply stop (R440): the common stop, the journal record and the count. -/
def State.supplyStop (s : State) : State :=
  let s1 := (s.onTherm (fun t => { t with dipStopped := true, supplyDip := true, dipEnded := none })).supplyFlag
  ((s1.addSat R.SUP_DIPS_STOPS 1).requestStop 4).journalDue 6

/-! ## The ceiling (R444, R445) -/

/-- One run of the governor: G in 1/16 and U in 1/64 (R444). -/
def governor (iin ceil g u : Nat) : Nat × Nat :=
  if ceil < iin then (if 0 < g then (g - 1, u) else (g, u - 1))
  else if 16 * iin < 15 * ceil then (if u < 64 then (g, u + 1) else (min 16 (g + 1), u))
  else (g, u)

/-- The governor runs (R444), and the times of R445 follow. -/
def State.governorRun (s : State) : State :=
  let iin := s.rd R.SUP_IIN_IIN_MA
  let ceil := s.rd R.VIN_CEIL_CEIL_MA
  let r := governor iin ceil (s.rd R.CEIL_STATE_G) (s.rd R.CEIL_STATE_U)
  let on := decide (r.1 < 16 ∨ r.2 < 64)
  let s1 := (((s.wr R.CEIL_STATE_G r.1).wr R.CEIL_STATE_U r.2).wrB R.PIN_ERR_CEIL_ACTIVE on).cond on Ev.CEIL_ACTIVE
  let s2 := s1.onTherm (fun t => { t with
    govAt := some s.time
    ceilSince := since (decide (ceil < iin) && decide (r = (0, 0))) s.time t.ceilSince
    ceilLowSince := since (decide (16 * iin ≤ 15 * ceil)) s.time t.ceilLowSince })
  let clear := s2.therm.supplyCeil && (match s2.therm.ceilLowSince with
    | some t => decide (t + secTicks 1 ≤ s.time)
    | none => false)
  (if clear then (s2.onTherm (fun t => { t with supplyCeil := false })).supplyFlag else s2).speedDemand

/-- The ceiling cannot be held (R445). -/
def State.ceilLost (s : State) : Bool :=
  !s.therm.supplyCeil && (match s.therm.ceilSince with
    | some t => decide (t + usTicks (1000 * s.rd R.CEIL_CFG_HOLD_MS) ≤ s.time)
    | none => false)

/-- The supply stop of the ceiling (R445). -/
def State.ceilStop (s : State) : State :=
  (s.onTherm (fun t => { t with supplyCeil := true })).supplyFlag.requestStop 4

end Sys2Proof.Machine
end

