-- ==== Sys2Proof/Machine/PowerOps.lean ====
section
/-! DEFINITION. Dusk and Night, restarts, resets, lost supplies and trips (R36, R38, R43, R44, R79 to R85, R199, R431, R432, R442). -/

namespace Sys2Proof.Machine

/-- Changes the power condition. -/
def State.onPow (s : State) (f : Power → Power) : State := { s with pow := f s.pow }

/-- FAULT_N is low (R43, R74, R102, R431, R462); while VAUX is absent the land floats. -/
def State.faultLow (s : State) : Bool :=
  match s.pow.phase with
  | .day | .dusk | .nightEntry | .night => s.rd R.FAULT_LATCH_GROUPS != 0 || s.pow.scanOpen
  | .noVaux => false
  | _ => true

/-! ## Dusk (R80, R81) -/

/-- What R81 asks of the datapaths holds now. -/
def State.idle (s : State) : Bool :=
  !(List.range 16).any s.barActive && !s.pieces.any (fun (p : Piece) => p.stage == Stage.admitted) &&
    (List.range 16).all (fun n => s.rd (R.DMA_STATUS_STATE n) != 1) &&
    (List.range 16).all (fun n => s.rd (R.DX_STATUS_STATE n) != 1 && s.rd (R.DX_STATUS_STATE n) != 2) &&
    (List.range 4).all (fun n => s.rd (R.CX_STATUS_STATE n) == 0) &&
    (List.range 4).all (fun n => (s.cam n).frame.isNone) &&
    (match s.nvm.commit.step with
      | .eraseHeader => s.nvm.commit.deferred
      | .eraseBlocks _ => s.nvm.commit.deferred
      | .program _ => s.nvm.commit.deferred
      | .header => s.nvm.commit.deferred
      | _ => true)

/-- The lanes in one of some states go to SHALLOW or DEEP under a POWER message (R274). -/
def State.lanesDown (s : State) (from_ : List Nat) (st code : Nat) : State :=
  (List.range 16).foldl (fun (t : State) n =>
    if from_.contains (t.laneState n) then (t.enter n st).ctrlMsg n 0x25 [BitVec.ofNat 8 code] else t) s

/-- The module enters Dusk (R80, R81). -/
def State.toDusk (s : State) : State := (s.onPow (fun p => { p with phase := .dusk })).lanesDown [laneActive] laneShallow 1

/-- Dusk is due. -/
def State.duskDue (s : State) : Bool :=
  s.pow.phase == .day && s.flag R.PWR_CTRL_DUSK_AUTO && s.idle &&
    decide (s.pow.lastBusy + usTicks (s.rd R.DUSK_DELAY_US) ≤ s.time)

/-! ## Night (R82 to R85, R199, R379) -/

/-- Night may be requested (R82). -/
def State.nightMay (s : State) : Bool := s.awake && s.idle && !s.pow.restart

/-- Entry to Night begins: a journal record, and the state store when R69 calls for it (R82). -/
def State.nightBegin (s : State) : State :=
  ((s.onPow (fun p => { p with phase := .nightEntry, nightReqAt := s.time })).journalDue 3).onNvm (fun n => { n with stDue := true })

/-- The writes of step 1 have finished, or 30 s have passed. -/
def State.nightWritten (s : State) : Bool :=
  (!s.nvm.due.contains 3 && !s.nvm.stDue && s.nvm.jWrite.isNone && s.nvm.stWrite.isNone) ||
    decide (s.pow.nightReqAt + secTicks 30 ≤ s.time)

/-- The links of both ports are down, without an event: no port is up in Night (R80, R363). -/
def State.portsDown (s : State) : State :=
  (List.range 2).foldl (fun (t : State) n =>
    (((t.wr (R.NP_STATUS_LINK n) 0).wr (R.NP_STATUS_FEC_LOCK n) 0).wr (R.NP_STATUS_AN_DONE n) 0).ptpLink n false) s

/-- The camera lanes leave lock; nothing is counted as a loss. -/
def State.camsDown (s : State) : State :=
  (List.range 4).foldl (fun (t : State) n =>
    let u := if t.rd (R.CL_STATUS_STATE n) = 2 then t.wr (R.CL_STATUS_STATE n) 1 else t
    if u.rd (R.CP_STATUS_STATE n) = 0 then u else u.wr (R.CP_STATUS_STATE n) 1) s

/-- The core rails go off: the island counts on from ENC0's true position, and the time bases stop (R82, R85, R199). -/
def State.nightStart (s : State) : State :=
  let s1 := (s.lanesDown [laneActive, laneShallow] laneDeep 2).portsDown.camsDown
  s1.onPow (fun p => { p with
    phase := .night, nightAt := s.time, coreStopped := s.time, islEnc := BitVec.ofNat 48 (s.encTrue 0), islTrust := p.vio })

/-- The disciplined and free time bases resume after the core was stopped for so many µs, not locked; TB2 goes on (R377, R379). -/
def State.timeResume (s : State) (us : Nat) (fresh : Bool) : State :=
  (List.range 4).foldl (fun (t : State) k =>
    let u := t.onTb k (fun b => { b with
      ns := (if fresh then 0 else b.ns + 1000 * us) % 2 ^ 64, frac := if fresh then 0 else b.frac
      good := 0, bad := 0, refused := false, pend := 0, integ := 0, lastLocked := none, everSet := false, lastSync := none
      freeAll := fresh, freeUntil := 1000000 + us / 5, freeDone := false, utcPend := none })
    ((u.wr (R.TB_STATUS_STATE k) 0).wr (R.TB_PEND_US k) 0).tbFlags k) s

/-- After a Night each generator's line count is its source's, without triggers; a fixed line clock restarts at 0 (R222). -/
def State.mergeLines (s : State) : State :=
  (List.range 16).foldl (fun (t : State) k =>
    let src := t.rd (R.TG_CFG_SRC k)
    if src = 0x11 then t.onTg k (fun g => { g with acc := 0, accAt := t.time })
    else if 0x20 ≤ src then t
    else
      let n := t.sourceCount src 0 / (t.rd (R.TG_CFG_DIV k) + 1)
      if t.lineCount k < n then (t.setCount k n).followCount k n else t) s

/-- The motion the island counted is merged into ENC0 (R199). -/
def State.mergeMotion (s : State) (isl : Nat) : State :=
  let net := fwd isl (s.encTrue 0)
  let old := s.encPrint 0
  let s1 := s.setTrue 0 isl
  let s2 := if ahead isl old then s1.setPrint 0 isl else s1
  let adv := if ahead isl old then (fwd isl old).toNat else 0
  let dead : Int := s.rd (R.ENC_MOTION_DEADBAND 0)
  let back := s.flag (R.ENC_STATUS_DIR 0)
  let dir : Nat := if net < -dead then 1 else if dead < net then 0 else b2n back
  let s3 := ((s2.wr (R.ENC_STATUS_DIR 0) dir).resetSpeed 0).onEnc 0 (fun e => { e with
    ext := isl, hist := [(s.time, isl)], edges := [], lastZ := none, turned := false, illegal := false })
  let s4 := (List.range 16).foldl (fun (t : State) k =>
    if t.flag (R.LG_CFG_EN k) ∧ t.lgEnc k = 0 then
      let u := t.lgAdvance k adv
      u.wrW (R.LG_LINE_LO_LINE k) (R.LG_LINE_HI_LINE k) (Sparse.get 0 u.lgs k / 2 ^ 32 % 2 ^ 48)
    else t) s3
  let s5 := s4.mergeLines
  (List.range 64).foldl (fun (t : State) k =>
    let moved := if s.flag (R.CMP_CFG_REF k) then s.cmpRef k != s5.cmpRef k else decide (k < 32) && adv != 0
    if t.flag (R.CMP_STATUS_ARMED k) && moved then t.cmpJudge k false else t) s5

/-- The wake source is enabled and has acted (R83). -/
def State.wakes (s : State) (src : WakeSrc) (isl us : Nat) : Bool :=
  match src with
  | .mfp pins => (pins &&& BitVec.ofNat 4 (s.rd R.NIGHT_WAKE_WAKE_MFP)) != 0
  | .enc0 => s.flag R.NIGHT_WAKE_WAKE_ENC && decide (s.rd R.WAKE_COUNTS_COUNTS ≤ (fwd isl (s.encTrue 0)).natAbs)
  | .timer => s.flag R.NIGHT_WAKE_WAKE_TIMER && decide (1000000 * s.rd R.WAKE_TIME_S ≤ us)

/-- WAKE_SRC of a wake. -/
def State.wakeSrc (s : State) (src : WakeSrc) : State :=
  match src with
  | .mfp pins => (s.wr R.WAKE_SRC_SRC 1).wr R.WAKE_SRC_MFP (pins &&& BitVec.ofNat 4 (s.rd R.NIGHT_WAKE_WAKE_MFP)).toNat
  | .enc0 => (s.wr R.WAKE_SRC_SRC 2).wr R.WAKE_SRC_MFP 0
  | .timer => (s.wr R.WAKE_SRC_SRC 3).wr R.WAKE_SRC_MFP 0

/-- Night exit (R84, R85): motion and time merged, lanes relocked with a fast train, the module in Day. -/
def State.nightExit (s : State) (src : WakeSrc) (isl us : Nat) : State :=
  let s1 := (((s.onPow (fun p => { p with phase := .day, lastBusy := s.time, islEnc := BitVec.ofNat 48 isl })).timeResume us false).mergeMotion
    isl).wakeSrc src
  let s2 := (List.range 16).foldl (fun (t : State) n =>
    if t.laneState n = laneDeep then t.startTrain n (t.rd (R.HL_STATE_RATE n)) true else t) s1
  let s3 := if s.pow.islTrust then s2 else s2.wr (R.ENC_STATUS_CONT 0) 0
  let secs := us / 1000000
  let s4 := s3.wr R.NIGHT_LAST_S secs
  (({ s4 with life := Sparse.set 0 s4.life 0x1B8 secs }.journalDue 4).raise Ev.NIGHT_EXIT).flushEvents.flashKick

/-! ## Restarts, resets, supplies and trips -/

/-- The core stops; a Dawn with this cause is to follow. The island keeps its count, and a flash operation in progress is cut (R438). -/
def State.coreStop (s : State) (phase : Phase) (cause : Nat) (spiIdle : Bool := false) : State :=
  let isl := match s.pow.phase with
    | .day | .dusk | .nightEntry => BitVec.ofNat 48 (s.encTrue 0)
    | _ => s.pow.islEnc
  (s.onPow (fun p => { p with
    phase := phase, cause := if p.fresh then 0 else cause, coreStopped := s.time, islEnc := isl, restart := false
    wipeStep := 0, dipLost := p.dipLost || s.therm.dipStart.isSome })).flashHalt spiIdle

/-- A pending restart may begin (R79). -/
def State.restartDue (s : State) : Bool := s.pow.restart && s.powered && !(List.range 16).any s.barActive && !s.committing

/-- RESET_N low (R44). -/
def State.reset_ (s : State) : State :=
  match s.pow.phase with
  | .noVaux | .shutdown | .tripped | .off => s
  | _ => s.coreStop .off 2

/-- VIN below 8.7 V (R442). -/
def State.shutdownCore (s : State) (spiIdle : Bool := false) : State :=
  match s.pow.phase with
  | .noVaux | .shutdown | .tripped => s
  | .off => s.onPow (fun p => { p with phase := .shutdown, cause := if p.fresh then 0 else 1 })
  | _ => s.coreStop .shutdown 1 spiIdle

/-- VAUX is lost: everything stops, the island too, and the position is lost (R38). -/
def State.vauxLost (s : State) : State :=
  let t := s.coreStop .noVaux 0
  { flash := t.flash, out := t.out, free := t.free, pending := t.pending, time := t.time, pow := { phase := .noVaux, vio := t.pow.vio } }

/-- VIO leaves its range (R36, R200, R448). -/
def State.vioLost (s : State) : State :=
  let s1 := s.onPow (fun p => { p with vio := false, islTrust := false })
  let s2 := ((((s1.wr R.PIN_ERR_VIO_LOST 1).wr R.PINS_VIO_VIO_OK 0).wr (R.ENC_STATUS_CONT 0) 0).wr (R.ENC_STATUS_CONT 1) 0).lifeAdd 0x16E 2 1
  s2.condOn Ev.VIO_LOST

/-- A trip: the island turns off the core rails and records kind, sensor and reading (R431, R432). -/
def State.trip (s : State) (kind sensor : Nat) (reading : Int) (spiIdle : Bool := false) : State :=
  let s1 := s.coreStop .tripped (if kind = 2 then 5 else 4) spiIdle
  s1.onPow (fun p => { p with
    cause := if kind = 2 then 5 else 4
    tripKind := kind, tripSensor := sensor, tripTemp := reading, tripNew := true
    trips := if kind = 1 then min 255 (p.trips + 1) else p.trips
    backstops := if kind = 2 then min 255 (p.backstops + 1) else p.backstops })

/-- A hardware trip is due: out of service, 100 ms at 110 °C (R429, R431). -/
def State.tripDue (s : State) : Bool :=
  !s.inService && (match s.pow.phase with
    | .noVaux | .shutdown | .tripped => false
    | _ => true) && (match s.therm.tripSince with
    | some t => decide (t + usTicks 100000 ≤ s.time)
    | none => false)

/-- A trip restart may begin: the island's T_hot below 85 °C, the supplies valid (R431). -/
def State.tripCool (s : State) : Bool := s.pow.phase == .tripped && decide (s.therm.isl < 1360) && s.pow.vio

end Sys2Proof.Machine
end

