-- ==== Sys2Proof/Machine/SetOps.lean ====
section
/-! DEFINITION. Module sets: the mirror windows, reports, requests sent on to followers (R114 to R118); and the multi-function pins
(R46 to R50). -/

namespace Sys2Proof.Machine

/-! ## Mirror windows (R115, R117) -/

/-- The address lies in the span space. -/
def inSpans (a : Nat) : Bool := decide (0x01000000 ≤ a ∧ a < 0x01040000)

/-- The follower whose mirror window holds an address. -/
def State.mirrorOf (s : State) (a : Nat) : Option (Nat × Nat) := if inSpans a then s.mirror ((a - 0x01000000) / 64) else none

/-- The root of the tree. -/
def State.rootNode (s : State) : Option SpanNode := s.spans.nodes.find? (fun x => x.parent.isNone)

/-- The address lies in the block of the set span. -/
def State.inSetSpan (s : State) (a : Nat) : Bool :=
  inSpans a && !s.setFollowers.isEmpty && s.rootNode.any (fun x => x.num == (a - 0x01000000) / 64)

/-- A word of a follower's span block as the lead shows it: numbers moved by SPAN_BASE, MIRROR set, LEVEL one more, the mirrored
root's parent and next sibling those of the set span (R110, R114). -/
def State.mirrorWord (s : State) (k : Nat) (a : Nat) (w : Word) : Word :=
  let base := s.cf (R.SET_FOLLOW_MAP_SPAN_BASE k)
  let n := (a - 0x01000000) / 64
  let up := fun (x : Nat) => if x = 0xFFFF then 0xFFFF else x + base
  let isRoot := n == s.mirrorRoot k
  let v := w.toNat
  BitVec.ofNat 32 (match a % 64 / 4 with
  | 0 => withBits (withBits (withBits v 0 12 (v % 4096 + base)) 13 1 1) 14 3 (bits v 14 3 + 1)
  | 1 => withBits (withBits v 0 16 (if isRoot then (s.rootNode.map (·.num)).getD 0xFFFF else up (v % 65536))) 16 16 (up (bits v 16 16))
  | 2 => withBits v 0 16 (if isRoot then
      (match s.rootNode with
        | some x => (((s.members x).dropWhile (fun m => m != n)).drop 1).headD 0xFFFF
        | none => 0xFFFF)
      else up (v % 65536))
  | _ => v)

/-! ## Reports (R116, R118) -/

/-- The configured follower with an address, the lowest. -/
def State.followerOf (s : State) (ip : Word) : Option Nat := s.setFollowers.find? (fun k => s.cf (R.SET_FOLLOW_IP_IP k) == ip.toNat)

/-- Changes what the lead knows of a follower. -/
def State.onFollower (s : State) (k : Nat) (f : Follower → Follower) : State := { s with followers := Sparse.upd {} s.followers k f }

/-- A report of a follower arrives (R116, R118). -/
def State.reportIn (s : State) (k : Nat) (payload : List Byte) : State :=
  (s.onFollower k (fun f => { f with
    snap := BitVec.ofNat 32 (le payload 0 4), block := wordsFrom payload 4 16, at_ := s.time, heard := true, lost := false })).condOff
    Ev.SET_MEMBER_LOST k

/-- No report for 5 ms (R118). -/
def State.memberDue (s : State) (k : Nat) : Bool :=
  s.setFollowers.contains k && !(s.follower k).lost && decide ((s.follower k).at_ + usTicks 5000 ≤ s.time)

/-- A follower is lost (R118). -/
def State.memberLost (s : State) (k : Nat) : State :=
  (s.onFollower k (fun f => { f with lost := true, sticky := true })).condOn Ev.SET_MEMBER_LOST k

/-- The report of a follower is due: 1 ms after the last (R116). -/
def State.reportDue (s : State) : Bool :=
  s.awake && s.cf R.SET_ROLE_ROLE == 2 && s.rootNode.isSome && (match s.spans.reportAt with
    | some t => decide (t + usTicks 1000 ≤ s.time)
    | none => true)

/-- The report is sent, from NP1 to the lead. The SEQ of a SET_REPORT is the module's to choose. -/
def State.sendReport (s : State) : State :=
  match s.rootNode with
  | none => s
  | some x =>
    let body := leBytes 4 s.spans.snap ++ (s.spanBlock x).flatMap (leBytes 4)
    let s1 := (s.send ⟨1, BitVec.ofNat 32 (s.rd R.SET_LEAD_IP_IP), 41002, 41002, header 0x50 (s.draw 2) 0 0 body.length ++ body⟩).drawn
    { s1 with spans := { s1.spans with reportAt := some s.time } }

/-- The snapshot of R113 is due. -/
def State.snapDue (s : State) : Bool :=
  s.awake && (match s.spans.snapAt with
    | some t => decide (t + usTicks 1000 ≤ s.time)
    | none => true)

/-! ## Requests sent on (R117) -/

/-- Sends a request to a follower. -/
def State.sendOn (s : State) (k type seq : Nat) (payload : List Byte) : State :=
  s.send ⟨1, BitVec.ofNat 32 (s.cf (R.SET_FOLLOW_IP_IP k)), 41002, 41002, header type seq 0 0 payload.length ++ payload⟩

/-- A READ or WRITE of a mirrored span goes to its follower with the address translated; at once answered when the follower is lost. -/
def State.forward (s : State) (m : Msg) (type k addr addr' count : Nat) (words : List Word) : State × Option (Nat × List Byte) :=
  if (s.follower k).lost then (s, some (Status.remoteTimeout, []))
  else
    let s1 := s.sendOn k type m.seq.toNat (leBytes 4 addr' ++ leBytes 4 count ++ wordBytes words)
    ({ s1 with fwds := s1.fwds ++ [⟨m, type, addr, count, true, [k], s.time⟩] }, none)

/-- What a WRITE to the set span carries to every follower: the words of the set span's block, to the follower's root span. -/
def State.forwardSet (s : State) (m : Msg) (addr : Nat) (words : List Word) : State × Option (Nat × List Byte) :=
  let part := (words.zipIdx).filter (fun e => s.inSetSpan (addr + 4 * e.2))
  let first := addr + 4 * (part.head?.map (·.2)).getD 0
  let s1 := s.setFollowers.foldl (fun (t : State) k =>
    t.sendOn k 2 m.seq.toNat (leBytes 4 (0x01000000 + 64 * ((t.follower k).word 0 % 4096) + first % 64) ++ leBytes 4 part.length ++
      wordBytes (part.map (·.1)))) s
  ({ s1 with fwds := s1.fwds ++ [⟨m, 2, addr, words.length, false, s.setFollowers, s.time⟩] }, none)

/-- A WRITE acts on every follower: one of its words lies in a writable register of the set span. -/
def State.reachesFollowers (s : State) (addr n : Nat) : Bool :=
  (List.range n).any (fun i => s.inSetSpan (addr + 4 * i) && [0x0C, 0x10, 0x20].contains ((addr + 4 * i) % 64))

/-- The reply of a mirrored request as the host sees it. -/
def State.mirrorReply (s : State) (f : Fwd) (k status : Nat) (payload : List Byte) : List Byte :=
  if f.type = 1 ∧ status = 0 then
    leBytes 4 f.addr ++ leBytes 4 f.count ++
      wordBytes ((wordsFrom payload 8 f.count).zipIdx.map (fun e => s.mirrorWord k (f.addr + 4 * e.2) e.1))
  else payload

/-- Ends a request that was sent on. -/
def State.endFwd (s : State) (f : Fwd) (status : Nat) (payload : List Byte) : State :=
  State.answer { s with fwds := s.fwds.filter (· != f) } f.msg f.type (f.type == 2) false status payload

/-- The request a follower's answer belongs to. -/
def State.fwdOf (s : State) (k : Nat) (seq : Word) : Option Fwd :=
  s.fwds.find? (fun (f : Fwd) => f.waiting.contains k && f.msg.seq == seq)

/-- A follower answers. -/
def State.followerAnswer (s : State) (k : Nat) (seq : Word) (status : Nat) (payload : List Byte) : State :=
  match s.fwdOf k seq with
  | none => s
  | some f =>
    if f.mirror then s.endFwd f status (s.mirrorReply f k status payload)
    else
      let g := { f with waiting := f.waiting.filter (· != k) }
      if g.waiting.isEmpty then s.endFwd f Status.ok (leBytes 4 0xFFFFFFFF)
      else { s with fwds := s.fwds.map (fun x => if x = f then g else x) }

/-- A follower has not answered within 2 ms. -/
def State.followerSilent (s : State) (k : Nat) (seq : Word) : State :=
  match s.fwdOf k seq with
  | none => s
  | some f => if f.at_ + usTicks 2000 ≤ s.time then s.endFwd f Status.remoteTimeout [] else s

/-! ## Pins (R46 to R50) -/

/-- The function code may stand on the pin (R46). -/
def funcAllowed (n code : Nat) : Bool :=
  if code = 1 ∨ code = 2 ∨ code = 0x16 then decide (n < 4)
  else if code = 0x28 then decide (12 ≤ n)
  else code == 0 || decide (3 ≤ code ∧ code ≤ 6) || decide (8 ≤ code ∧ code ≤ 0x19) || decide (0x20 ≤ code ∧ code ≤ 0x27)

/-- A FUNC value breaks R46, or R47 against the effective state of the other pins (R49). GATEn has a pin of its own. -/
def State.funcBad (s : State) (n code : Nat) : Bool :=
  !funcAllowed n code ||
    (code != 0 && code != 0x28 && (List.range 16).any (fun j => j != n && s.eff (R.MFP_CFG_FUNC j) == code))

/-- A FUNC write was refused (R49). -/
def State.pinConflict (s : State) (n code : Nat) : State := (s.wr R.PIN_ERR_CONFLICT 1).raise Ev.PIN_CONFLICT n code

/-- A FUNC value is written: pending, or nothing pending where it names the value in force (R58). -/
def State.funcPend (s : State) (n : Nat) (w : Word) : State :=
  if bits w.toNat 0 6 = s.rd (R.MFP_CFG_FUNC n) then { s with pendw := Sparse.clear s.pendw (R.MFP_CFG n) (R.MFP_CFG n + 1) }
  else s.setPend (R.MFP_CFG n) w

/-- All pending FUNC values take effect together when no bar has a line of a piece in flight (R50). -/
def State.funcApply (s : State) : State :=
  if (List.range 16).any s.barActive then s else (List.range 16).foldl (fun (t : State) n => t.applyPend (R.MFP_CFG n)) s

end Sys2Proof.Machine
end

