-- ==== Sys2Proof/Machine/RegCheck.lean ====
section
/-! DEFINITION. Which values a register refuses (R97 and the rules and register tables of every chapter). -/

namespace Sys2Proof.Machine

/-- The index of a register in a family of `n` registers, `step` apart from `base`. -/
def idxOf (a base step n : Nat) : Option Nat :=
  if base ≤ a ∧ a < base + step * n ∧ (a - base) % step = 0 then some ((a - base) / step) else none

/-- A test of the register of a family that stands at the address; false elsewhere. -/
def whenAt (a base step n : Nat) (f : Nat → Bool) : Bool := (idxOf a base step n).elim false f

/-! ## Ranges -/

/-- The values one field of a family of registers may take. -/
structure Bound where
  f : Field
  step : Nat
  n : Nat
  lo : Int
  hi : Int
  neg : Bool := false
  deriving DecidableEq, Repr

/-- A word keeps the bound. -/
def Bound.ok (r : Bound) (a : Nat) (w : Nat) : Bool :=
  match idxOf a r.f.addr r.step r.n with
  | none => true
  | some _ =>
    let v : Int := if r.neg then signed r.f.width (bits w r.f.lo r.f.width) else bits w r.f.lo r.f.width
    decide (r.lo ≤ v ∧ v ≤ r.hi)

/-- Largest values that no bound from above names. -/
abbrev top : Int := 2 ^ 32

/-- Bounds of SYS, NVM, PINS, POS and BARS. -/
def boundsA : List Bound :=
  [⟨R.VIN_CEIL_CEIL_MA, 4, 1, 1000, 4600, false⟩, ⟨R.WAKE_COUNTS_COUNTS, 4, 1, 1, top, false⟩,
   ⟨R.STATE_INTERVAL_MIN, 4, 1, 30, 1440, false⟩, ⟨R.SET_ROLE_ROLE, 4, 1, 0, 2, false⟩,
   ⟨R.ENC_CFG_QMULT 0, 128, 2, 0, 2, false⟩, ⟨R.ENC_CFG_BACKUP 1, 128, 1, 0, 0, false⟩,
   ⟨R.ENC_MOTION_STILL 0, 128, 2, 1, top, false⟩, ⟨R.ENC_MOTION_SPD_WIN 0, 128, 2, 1, top, false⟩,
   ⟨R.ENC_IDX_NOM1_NOM1 1, 128, 1, 0, 0, false⟩, ⟨R.PROBE_CFG_EDGE 0, 64, 4, 1, 3, false⟩,
   ⟨R.ENCOUT_CFG_PULSE_W 0, 32, 2, 1, 255, false⟩, ⟨R.TG_PERIOD_PERIOD 0, 64, 16, 256000, top, false⟩,
   ⟨R.TG_MAX_RATE_RATE 0, 64, 16, 1, 200000, false⟩, ⟨R.LATE_WIN_WIN, 4, 1, 0, 128, false⟩, ⟨R.LP_GAP_US, 4, 1, 1, top, false⟩,
   ⟨R.SD_CFG_KHZ, 4, 1, 1, 100, false⟩, ⟨R.SD_HOST_DEMAND, 4, 1, 0, 1000, false⟩, ⟨R.LSO_CFG_WIDTH, 4, 1, 1, 255, false⟩]

/-- Bounds of FORM, HLINK, DARN and IRON. -/
def boundsB : List Bound :=
  [⟨R.CH_CFG_DEPTH 0, 32, 512, 1, 3, false⟩, ⟨R.CH_POS_SEAM_L 0, 32, 512, 0, 64, false⟩, ⟨R.CH_POS_SEAM_R 0, 32, 512, 0, 64, false⟩,
   ⟨R.BAR_LAT_LAT 0, 16, 16, -8, 8, true⟩, ⟨R.BAR_RING_DEPTH 0, 16, 16, 1, top, false⟩, ⟨R.LFCNT_FMT_DIGITS 0, 32, 16, 1, 10, false⟩,
   ⟨R.SHIFT_CFG_START 0, 8, 8, 0, 1439, false⟩, ⟨R.DATE_ZONE_MIN, 4, 1, -720, 840, true⟩, ⟨R.LF_LEAD_LINES, 4, 1, 1, top, false⟩,
   ⟨R.HL_CFG_RATE 0, 64, 16, 0, 4, false⟩, ⟨R.HL_CFG_DEEMPH 0, 64, 16, 0, 6, false⟩, ⟨R.ECHO_CFG_PERIOD, 4, 1, 1, 255, false⟩,
   ⟨R.REVERT_S, 4, 1, 1, top, false⟩, ⟨R.GATE_TIMING_WIDTH 0, 64, 4, 1, top, false⟩, ⟨R.GATE_TIMING_REST 0, 64, 4, 32, top, false⟩,
   ⟨R.GATE_CLASS_FAIL_N 0, 64, 4, 1, 4, false⟩, ⟨R.GATE_CLASS_SNR 0, 64, 4, 1, top, false⟩,
   ⟨R.BAR_RINSE_SPIT_CODE 0, 32, 16, 1, 7, false⟩, ⟨R.BAR_RINSE_SPIT_LINES 0, 32, 16, 1, top, false⟩,
   ⟨R.BAR_IDLE_RATE 0, 32, 16, 100, top, false⟩, ⟨R.STREAK_CFG_FRAMES, 4, 1, 1, top, false⟩, ⟨R.IRON_CFG_HBIN, 4, 1, 0, 4, false⟩,
   ⟨R.IRON_CFG_FORGET, 4, 1, 1, 12, false⟩, ⟨R.IRON_DEPTH_ROWS, 4, 1, 256, 1048575, false⟩,
   ⟨R.IRON_SOLVE_MIN_FRAMES, 4, 1, 1, top, false⟩, ⟨R.INK_CFG_PLANE 0, 8, 8, 0, 2, false⟩, ⟨R.INK_NOM_E_NOM 0, 8, 8, 1, top, false⟩,
   ⟨R.BAR_REGCFG_REG_GAIN 0, 32, 16, 1, 8, false⟩, ⟨R.BAR_REGCFG_REG_FRAMES 0, 32, 16, 1, top, false⟩,
   ⟨R.BAR_REGCFG_LAT_HYST 0, 32, 16, 8, top, false⟩]

/-- Bounds of CAM. -/
def boundsC : List Bound :=
  [⟨R.CP_GEOM_HEIGHT 0, 512, 4, 1, top, false⟩, ⟨R.CP_FF_FF_MIN 0, 512, 4, 1, top, false⟩, ⟨R.CP_REF_FLK_PLANE 0, 512, 4, 0, 2, false⟩,
   ⟨R.CP_FLK_CFG_FLK_HZ 0, 512, 4, 1000, top, false⟩, ⟨R.CP_S3_CHK_PLANE 0, 512, 4, 0, 2, false⟩,
   ⟨R.CP_S3_CHK_PASS 0, 512, 4, 0, 256, false⟩, ⟨R.CP_CAMCTL_START_HOLD 0, 512, 4, 1, top, false⟩,
   ⟨R.CP_BAUD_BAUD 0, 512, 4, 115200, 12000000, false⟩, ⟨R.CL_CFG_MBAUD 0, 32, 4, 2500, 12500, false⟩,
   ⟨R.EVD_CFG_CHUNK, 4, 1, 64, 8192, false⟩]

/-- Bounds of NET, SEQ, DMA, FLATE, MEM, THERM and TEST. -/
def boundsD : List Bound :=
  [⟨R.NP_CFG_FRAME 0, 256, 2, 1518, 9216, false⟩, ⟨R.NP_VLAN_VID 0, 256, 2, 1, 4094, false⟩, ⟨R.NP_LB_DEPTH 0, 256, 2, 0, 4, false⟩,
   ⟨R.ARP_CFG_AGE, 4, 1, 1, top, false⟩, ⟨R.PI_INTV_LOG_SYNC 0, 64, 2, -7, 4, true⟩, ⟨R.PI_INTV_LOG_ANN 0, 64, 2, -3, 4, true⟩,
   ⟨R.PI_INTV_LOG_DREQ 0, 64, 2, -7, 4, true⟩, ⟨R.PI_INTV_ANN_TO 0, 64, 2, 2, 10, false⟩, ⟨R.PI_SERVO_TCLOG 0, 64, 2, 0, 10, false⟩,
   ⟨R.PI_SERVO_LOCK_NS 0, 64, 2, 1, top, false⟩, ⟨R.TB_CFG_SRC 0, 64, 4, 0, 2, false⟩, ⟨R.TB_CFG_STEP 0, 64, 4, 1, 1000, false⟩,
   ⟨R.TB_ADJ_RATE 0, 64, 4, -500000000, 500000000, true⟩, ⟨R.TP_WIDTH_US 0, 32, 4, 1, top, false⟩,
   ⟨R.SEQ_CFG_SLICE_MAX, 4, 1, 1, 15, false⟩, ⟨R.SEQ_LIMITS_STRIKE_S, 4, 1, 1, top, false⟩, ⟨R.SEQ_LIMITS_GIVEUP_N, 4, 1, 1, top, false⟩,
   ⟨R.SEQ_LIMITS_RETIRE_H, 4, 1, 1, top, false⟩, ⟨R.SEQ_LIMITS_RECOVER_MAX, 4, 1, 1, top, false⟩, ⟨R.HBM_ALLOW_GBS, 4, 1, 0, 416, false⟩,
   ⟨R.CX_CFG_TABLES 0, 64, 4, 0, 2, false⟩, ⟨R.CX_CFG_DEPTH 0, 64, 4, 1, 31, false⟩, ⟨R.MEM_SCRUB_HBM_H, 4, 1, 1, 168, false⟩,
   ⟨R.MEM_SCRUB_SRAM_S, 4, 1, 1, 3600, false⟩, ⟨R.MEM_SCRUB_CE_AGE_H, 4, 1, 1, top, false⟩, ⟨R.MEM_RETRAIN_PERIOD_S, 4, 1, 10, 3600, false⟩,
   ⟨R.MEM_ROWPROT_ACT_LIMIT, 4, 1, 256, 32768, false⟩, ⟨R.MEM_ROWPROT_SPACING, 4, 1, 1, top, false⟩,
   ⟨R.SUP_CFG_RIDE_US, 4, 1, 100, 2000, false⟩, ⟨R.CEIL_CFG_HOLD_MS, 4, 1, 1, top, false⟩, ⟨R.SLICE_CFG_DX_S, 4, 1, 1, top, false⟩,
   ⟨R.SLICE_CFG_CX_S, 4, 1, 1, top, false⟩, ⟨R.SLICE_CFG_CP_S, 4, 1, 1, top, false⟩, ⟨R.HL_LB_DEPTH 0, 16, 16, 0, 4, false⟩]

/-- A word breaks a range its register table states. -/
def rangeBad (a w : Nat) : Bool := !((boundsA ++ boundsB ++ boundsC ++ boundsD).all (fun (r : Bound) => r.ok a w))

/-! ## Rules of one word. `s` is the state the words before it leave, `t` the state with it written too. -/

/-- A piece or a serial list names a key slot (R155, R246). -/
def State.keyNamed (s : State) (k : Nat) : Bool :=
  s.pieces.any (fun (p : Piece) => (List.range p.bandCount).any (fun i =>
    let e := s.bandEntry p i
    let c := s.container e.1 e.2.1
    c.encrypted && c.slot == k)) ||
  (List.range 4).any (fun l =>
    let names := fun (h : List Byte) => bit (le h 3 1) 0 && le h 5 1 == k
    (s.flag (R.SL_STATUS_ACTIVE l) && names (s.serialHead (s.serialAddr l))) ||
    (s.flag (R.SL_STATUS_PENDING l) && names (s.serialHead (s.rdW (R.SL_PEND_LO_ADDR l) (R.SL_PEND_HI_ADDR l)))))

/-- A data window would stand open in breach of R137. -/
def State.windowBad (t : State) (k : Nat) : Bool :=
  t.dataWin k && (t.rd (R.WIN_SIZE_SIZE k) == 0 || !t.inJob (t.winRegion k).1 ((t.winRegion k).2 - (t.winRegion k).1) ||
    t.dmaState (t.rd (R.WIN_CFG_DMA k)) != dmaIntake)

/-- SYS, NVM, DMA and FLATE: `np` is the port that carried the WRITE, `first` and `n` its ADDR and COUNT. -/
def State.jobBad (s t : State) (np first n a w : Nat) : Bool :=
  (a == R.MGMT_EN && !bit w np) ||
  whenAt a (R.DMA_HEAD_LO 0) 64 16 (fun k => s.dmaState k != dmaIdle) ||
  whenAt a (R.DMA_HEAD_HI 0) 64 16 (fun k => s.dmaState k != dmaIdle) ||
  whenAt a (R.DMA_CTRL 0) 64 16 (fun k => bit w 0 && s.dmaState k != dmaIdle) ||
  whenAt a (R.DMA_CFG 0) 64 16 (fun k => s.dmaModeRefused k (w % 2)) ||
  whenAt a (R.WIN_BASE 0) 16 64 (fun k => s.flag (R.WIN_CFG_OPEN k) && s.rd (R.WIN_BASE_BASE k) != t.rd (R.WIN_BASE_BASE k)) ||
  whenAt a (R.WIN_SIZE 0) 16 64 (fun k => s.flag (R.WIN_CFG_OPEN k) && s.rd (R.WIN_SIZE_SIZE k) != t.rd (R.WIN_SIZE_SIZE k)) ||
  whenAt a (R.WIN_CFG 0) 16 64 (fun k =>
    (s.flag (R.WIN_CFG_OPEN k) && (s.rd (R.WIN_CFG_KIND k) != t.rd (R.WIN_CFG_KIND k) || s.rd (R.WIN_CFG_DMA k) != t.rd (R.WIN_CFG_DMA k) ||
      s.winRefs k != 0)) || t.windowBad k) ||
  whenAt a (R.DX_CTRL 0) 32 16 (fun k => !bit w 0 && s.unitBad 2 k) ||
  (decide (R.KEY_W 0 0 ≤ a ∧ a < R.KEY_W 8 0) &&
    (n != 8 || (first - R.KEY_W 0 0) % 32 != 0 || s.keyNamed ((a - R.KEY_W 0 0) / 32))) ||
  (a == R.KEY_CLEAR && (List.range 8).any (fun k => bit w k && s.keyNamed k)) ||
  whenAt a (R.CX_CFG 0) 64 4 (fun k => s.rd (R.CX_STATUS_STATE k) != 0 && (s.word a).toNat % 1024 != (t.word a).toNat % 1024) ||
  whenAt a (R.CX_HEAD_LO 0) 64 4 (fun k => s.rd (R.CX_STATUS_STATE k) != 0) ||
  whenAt a (R.CX_HEAD_HI 0) 64 4 (fun k => s.rd (R.CX_STATUS_STATE k) != 0)

/-- A ratio outside 1 ≤ N ≤ M (R197). -/
def ratioBad (w : Nat) : Bool := w % 65536 == 0 || decide (w / 65536 < w % 65536)

/-- PINS and POS. -/
def State.posBad (s t : State) (a w : Nat) : Bool :=
  whenAt a (R.MFP_CFG 0) 4 16 (fun k => s.funcBad k (w % 64)) ||
  whenAt a (R.ENC_IDX_NOM 0) 128 2 (fun k => s.flag (R.ENC_CFG_ZEN k) && t.rd (R.ENC_IDX_NOM_NOM k) == 0) ||
  whenAt a (R.ENC_CTRL 0) 128 2 (fun k => bit w 0 && (s.encBusy k ||
    (List.range 64).any (fun u => u / 32 == k && s.flag (R.CMP_STATUS_ARMED u) && !s.flag (R.CMP_CFG_REF u)))) ||
  whenAt a (R.LG_CFG 0) 64 16 (fun _ => bit w 1 && bit w 2) ||
  whenAt a (R.CMP_CFG 0) 32 64 (fun k => s.owned k || (s.flag (R.CMP_STATUS_ARMED k) &&
    (s.rd (R.CMP_CFG_REF k) != t.rd (R.CMP_CFG_REF k) || s.rd (R.CMP_CFG_TG k) != t.rd (R.CMP_CFG_TG k)))) ||
  whenAt a (R.CMP_TGT_LO 0) 32 64 (fun k => s.owned k || s.flag (R.CMP_STATUS_ARMED k)) ||
  whenAt a (R.CMP_TGT_HI 0) 32 64 (fun k => s.owned k || s.flag (R.CMP_STATUS_ARMED k)) ||
  whenAt a (R.CMP_PERIOD 0) 32 64 s.owned ||
  whenAt a (R.CMP_CTRL 0) 32 64 (fun k => s.owned k || (bit w 0 && bit w 1)) ||
  whenAt a (R.ENCOUT_RATIO 0) 32 2 (fun _ => ratioBad w) || whenAt a (R.ENCOUT_RATIO1 0) 32 2 (fun _ => ratioBad w)

/-- A generator follows another, in force or pending (R202). -/
def State.tgFollows (s : State) (k : Nat) : Bool := decide (0x20 ≤ s.rd (R.TG_CFG_SRC k)) || decide (0x20 ≤ s.eff (R.TG_CFG_SRC k))

/-- A generator is followed, in force or pending. -/
def State.tgFollowed (s : State) (k : Nat) : Bool :=
  (List.range 16).any (fun j => j != k && (s.rd (R.TG_CFG_SRC j) == 0x20 + k || s.eff (R.TG_CFG_SRC j) == 0x20 + k))

/-- A SRC code that R202 refuses for a generator. -/
def State.srcBad (s : State) (k src : Nat) : Bool :=
  if src ≤ 0x11 then false
  else if 0x20 ≤ src ∧ src < 0x30 then src == 0x20 + k || s.tgFollows (src - 0x20) || s.tgFollowed k
  else true

/-- R207 is broken for a piece that is admitted or holds reservations. -/
def State.groupsBroken (t : State) : Bool :=
  t.pieces.any (fun (p : Piece) => p.stage != Stage.queued && [false, true].any (fun q =>
    match p.bars with
    | [] => false
    | b :: bs => bs.any (fun c => t.root q c != t.root q b || t.effDiv q c != t.effDiv q b)))

/-- R210 is broken in a bar, with PHI in force or pending. -/
def State.phiBad (t : State) (b : Nat) : Bool :=
  !t.regFits b (t.rd (R.TG_DELAY_PHI b)) (t.rdI (R.TG_REG_REG b)) || !t.regFits b (t.eff (R.TG_DELAY_PHI b)) (t.rdI (R.TG_REG_REG b))

/-- R14 for the ring of one bar: DEPTH in force, the largest row delay and the lead warning level. -/
def State.ringShort (t : State) (b : Nat) : Bool :=
  !(t.barChannels b).isEmpty && decide (t.cf (R.BAR_RING_DEPTH b) < t.barDelay b + t.rd (R.TG_LEAD_WARN_LINES b) + 2)

/-- BARS. -/
def State.barsBad (s t : State) (a w : Nat) : Bool :=
  whenAt a (R.TG_CFG 0) 64 16 (fun k => s.srcBad k (w % 64) ||
    ((w % 64 != s.eff (R.TG_CFG_SRC k) || bits w 8 4 != s.eff (R.TG_CFG_DIV k)) &&
      (List.range 64).any (fun u => s.flag (R.CMP_STATUS_ARMED u) && s.flag (R.CMP_CFG_REF u) && s.rd (R.CMP_CFG_TG u) == k)) ||
    (t.groupsBroken && !s.groupsBroken)) ||
  whenAt a (R.TG_DELAY 0) 64 16 (fun k => t.phiBad k) ||
  whenAt a (R.TG_REG 0) 64 16 (fun k => t.phiBad k ||
    decide (256 < (t.rdI (R.TG_REG_REG k) - s.rdI (R.TG_REG_REG k)).natAbs)) ||
  whenAt a (R.TG_LEAD_WARN 0) 64 16 (fun k => t.rd (R.TG_LEAD_WARN_LINES k) == 0 || (t.ringShort k && !s.ringShort k)) ||
  whenAt a (R.CH_FINE 0) 4 512 (fun c => s.chOn c && t.phiBad (s.chBar c)) ||
  (a == R.STOP_CTRL && bit w 1 && (bit w 0 || s.stopHeld))

/-- A glyph set's size, or its end beyond the glyph store (R253). -/
def State.setBad (t : State) (k : Nat) : Bool :=
  (t.rd (R.GS_SIZE_BYTES k) != 0 && decide (t.rd (R.GS_SIZE_BYTES k) < 1024)) ||
    decide (0x100000 < t.rd (R.GS_BASE_BYTES k) + t.rd (R.GS_SIZE_BYTES k)) 

/-- A MEND_CMD that R300 refuses. -/
def State.mendBad (s : State) (n op : Nat) : Bool :=
  decide (s.allNozzles ≤ n) || (op == 1 && s.listed n) || ((op == 2 || op == 3 || op == 4) && !s.listed n) || op == 0 || decide (5 < op)

/-- FORM, DARN, CAM and IRON. -/
def State.formBad (s t : State) (a w : Nat) : Bool :=
  whenAt a (R.SCR_CFG 0) 4 16 s.screenHeld ||
  whenAt a (R.GS_BASE 0) 8 16 (fun k => s.glyphsHeld k || t.setBad k) || whenAt a (R.GS_SIZE 0) 8 16 (fun k => s.glyphsHeld k || t.setBad k) ||
  whenAt a (R.GATE_CLASS 0) 64 4 (fun k => decide (t.rd (R.GATE_CLASS_GOOD_PCT k) < t.rd (R.GATE_CLASS_WEAK_PCT k))) ||
  (a == R.MEND_CMD && s.mendBad (bits w 0 20) (bits w 20 3)) ||
  whenAt a (R.CP_CFG 0) 512 4 (fun _ => !(([0x2A, 0x2B, 0x2C, 0x24] : List Nat).contains (bits w 12 6))) ||
  whenAt a (R.CP_S1 0) 512 4 (fun k => decide (t.rd (R.CP_GEOM_WIDTH k) < t.rd (R.CP_S1_X0 k) + t.rd (R.CP_S1_W k))) ||
  (a == R.EVD_CFG && (bits w 17 14 % 4 != 0 || decide (s.udpMax (bits w 16 1) < bits w 17 14 + 32))) ||
  (a == R.IRON_CFG && decide (2 ^ t.rd R.IRON_CFG_HBIN ≤ t.rd R.IRON_CFG_HORG))

/-- A netmask of ones followed by zeros. -/
def maskOk (m : Nat) : Bool := (List.range 33).any (fun i => m == 2 ^ 32 - 2 ^ i)

/-- Both instances run a PTP port on one network port in one domain (R369). -/
def State.sharePort (t : State) : Bool :=
  t.rd (R.PI_CFG_DOMAIN 0) == t.rd (R.PI_CFG_DOMAIN 1) && (t.ptpPorts 0).any (fun n => (t.ptpPorts 1).contains n)

/-- TB2, or a time base disciplined by an instance (R380). -/
def State.tbHeld (s : State) (k : Nat) : Bool := k == 2 || s.rd (R.TB_CFG_SRC k) != 0

/-- NET: `np` carried the WRITE. -/
def State.netBad (s t : State) (np a w : Nat) : Bool :=
  whenAt a (R.NP_CFG 0) 256 2 (fun k => (k == np && w % 262144 != (s.word a).toNat % 262144) || (bit w 2 && w % 4 != 3)) ||
  whenAt a (R.NP_MAC_HI 0) 256 2 (fun _ => bit w 8) || whenAt a (R.NP_MASK 0) 256 2 (fun _ => !maskOk w) ||
  whenAt a (R.NP_LB 0) 256 2 (fun k => k == np) ||
  whenAt a (R.PI_CFG 0) 64 2 (fun i => t.flag (R.PI_CFG_EN 0) && t.flag (R.PI_CFG_EN 1) && t.sharePort && i < 2) ||
  whenAt a (R.TB_JUMP 0) 64 4 (fun k => decide (t.rd (R.TB_JUMP_US k) < t.rd (R.TB_CFG_STEP k))) ||
  whenAt a (R.TB_SET_HI 0) 64 4 s.tbHeld || whenAt a (R.TB_ADJ 0) 64 4 s.tbHeld ||
  whenAt a (R.TB_CTRL 0) 64 4 (fun k => bit w 0 && !s.tbRefused k) ||
  (a == R.TB0_UTC && s.flag R.TB0_UTC_FROM_PTP)

/-- Some channel has no other lane able to serve it (R104). -/
def State.lastLane (s : State) (k : Nat) : Bool :=
  s.laneServes k && s.channels.any (fun c => s.laneOf c == k && !((s.otherLane c).any s.laneServes))

/-- Not possible in the present state: REFUSED_STATE (R82, R104, R284, R459, R460, R464). -/
def State.stateBad (s t : State) (a w : Nat) : Bool :=
  (a == R.PWR_CTRL && bit w 1 && (bit w 2 || !s.nightMay)) ||
  whenAt a (R.HL_CTRL 0) 64 16 (fun k => bit w 1 && s.lastLane k) ||
  (a == R.TEST_CTRL && ((bit w 0 && (List.range 16).any s.barActive) || (bit w 2 && !s.flag R.TEST_STATE_TEST) ||
    (bit w 1 && (s.pow.scanOpen || (List.range 23).any (fun i => s.loopDepth i != 0))))) ||
  whenAt a (R.HL_LB 0) 16 16 (fun k => t.rd (R.HL_LB_DEPTH k) != 0 && !s.flag R.TEST_STATE_TEST) ||
  whenAt a (R.CL_LB 0) 16 4 (fun k => t.rd (R.CL_LB_DEPTH k) != 0 && !s.flag R.TEST_STATE_TEST) ||
  (a == R.MFP_LB && bit w 8 && !s.flag R.TEST_STATE_TEST)

/-- The STATUS a word of a WRITE is refused with; none: it passes. -/
def State.wordRefused (s t : State) (np first n a : Nat) (w : Word) : Option Nat :=
  if 0x40000000 ≤ a then (if s.tableRefused a w then some Status.refusedValue else none)
  else
    let v := w.toNat
    if rangeBad a v ∨ s.jobBad t np first n a v ∨ s.posBad t a v ∨ s.barsBad t a v ∨ s.formBad t a v ∨ s.netBad t np a v ∨
        (a = R.MFP_LB ∧ v % 16 = bits v 4 4) then some Status.refusedValue
    else if s.stateBad t a v then some Status.refusedState
    else none

/-! ## Rules of the state a WRITE leaves (R97) -/

/-- INC of a line generator, or INC1, in the pair that counts: over 1.0 (R185). -/
def incForm (hi lo : Nat) : Bool := hi == 0 || lo == 0

/-- R185 is broken for a line generator. -/
def State.lgBad (t : State) (k : Nat) : Bool :=
  let lo := t.eff (R.LG_INC_LO_FRAC k)
  let hi := t.eff (R.LG_INC_HI_INT k)
  !incForm hi lo || !incForm (t.eff (R.LG_INC1_HI_INT k)) (t.eff (R.LG_INC1_LO_FRAC k)) ||
    (lo == 0 && hi == 0 && (t.flag (R.LG_CFG_EN k) || t.eff (R.LG_CFG_EN k) == 1))

/-- A pending serial list fails the checks of R246. -/
def State.listBad (t : State) (k : Nat) : Bool :=
  let a := t.rdW (R.SL_PEND_LO_ADDR k) (R.SL_PEND_HI_ADDR k)
  a != 0 && !t.serialOk a

/-- WIDTH is not below PERIOD (R381); a pulse without a period is one shot. -/
def State.pulseBad (t : State) (p : Nat) : Bool := t.tpPeriod p != 0 && decide (t.tpPeriod p ≤ 1000 * t.rd (R.TP_WIDTH_US p))

/-- A register of a rule that the state `t` breaks. -/
def State.finalBad (t : State) (a : Nat) : Bool :=
  (List.range 16).any (fun k => (lgRegs k).contains a && t.lgBad k) ||
  whenAt a (R.LFCNT_MIN 0) 32 16 (fun k => decide (t.rd (R.LFCNT_MAX_MAX k) < t.rd (R.LFCNT_MIN_MIN k))) ||
  whenAt a (R.LFCNT_MAX 0) 32 16 (fun k => decide (t.rd (R.LFCNT_MAX_MAX k) < t.rd (R.LFCNT_MIN_MIN k))) ||
  whenAt a (R.SL_PEND_LO 0) 32 4 t.listBad || whenAt a (R.SL_PEND_HI 0) 32 4 t.listBad ||
  whenAt a (R.TP_PERIOD_LO 0) 32 4 t.pulseBad || whenAt a (R.TP_PERIOD_HI 0) 32 4 t.pulseBad || whenAt a (R.TP_WIDTH 0) 32 4 t.pulseBad ||
  whenAt a (R.BAR_HEADLIM 0) 4 16 (fun b => decide (t.rd (R.BAR_HEADLIM_HARD b) ≤ t.rd (R.BAR_HEADLIM_SOFT b)))

end Sys2Proof.Machine
end

