-- ==== Sys2Proof/Machine/TimeOps.lean ====
section
/-! DEFINITION. What one tick of 5 ns does (R2, R373, R447 to R450): it is what a step does when no command waits. -/

namespace Sys2Proof.Machine

/-- One tick of a lifetime count of seconds (R448). -/
def State.tickSecond (s : State) (off : Nat) : State :=
  let n := Sparse.get 0 s.lifeRem off + 1
  if n = 200000000 then State.lifeAdd { s with lifeRem := Sparse.set 0 s.lifeRem off 0 } off 4 1
  else { s with lifeRem := Sparse.set 0 s.lifeRem off n }

/-- The bin of TEMP_HIST for a temperature in 1/16 °C (R449). -/
def tempBin (t : Int) : Nat :=
  if t < 400 then 0 else if t < 720 then 1 else if t < 1040 then 2 else if t < 1360 then 3 else if t < 1520 then 4
  else if t < 1680 then 5 else if t < 1760 then 6 else 7

/-- A tick of the island: LIFE_S, and at the end of each second its bin (R449, R450). -/
def State.tickIsland (s : State) : State :=
  let t := s.tickSecond 0x018
  if Sparse.get 0 t.lifeRem 0x018 = 0 then t.lifeAdd (0x080 + 4 * tempBin t.therm.isl) 4 1 else t

/-- A tick of one time base (R373): 5 ns and its rate; the fields of disciplined running and of holdover. -/
def State.tickTb (s : State) (k : Nat) : State :=
  let code := s.rd (R.TB_STATUS_STATE k)
  let s1 := s.onTb k (fun t =>
    let u := t.atFine (t.fine + 5 * 2 ^ 32 + t.rate)
    { u with
      rates := if code = 1 ∨ code = 2 then (match u.rates with
        | [] => [(1, t.rate)]
        | (n, r) :: l => (n + 1, r) :: l) else u.rates
      holdTicks := if code = 3 then (u.holdTicks + 1) % 200000000 else u.holdTicks })
  let s2 := if code = 3 ∧ (s1.tb k).holdTicks = 0 then s1.inc (R.TB_HOLD_S k) else s1
  if s1.tbLocked k = s.flag (R.TB_STATUS_LOCKED k) then s2 else s2.tbFlags k

/-- A tick of the seconds on, in Dusk, throttled and at the ceiling (R428, R445, R448). -/
def State.tickSeconds (s : State) : State :=
  let s2 := match s.pow.phase with
    | .day | .nightEntry => s.tickSecond 0x01C
    | .dusk => s.tickSecond 0x020
    | _ => s
  let s3 := if s2.therm.theta = 0 then s2 else s2.tickSecond 0x07C
  let s4 := if s2.therm.theta != 0 && Sparse.get 0 s3.lifeRem 0x07C == 0 then s3.inc R.THERM_THROTTLED_S else s3
  if s4.flag R.PIN_ERR_CEIL_ACTIVE then s4.tickSecond 0x0CC else s4

/-- A tick of an ACTIVE sequencer (R396). -/
def State.tickSq (s : State) (n : Nat) : State :=
  if s.sqState n = sqActive then
    let u := (s.onSq n (fun (q : Seq) => { q with active := q.active + 1 })).tickSecond (0x0D0 + 16 * n)
    if (u.sq n).active % 200000000 == 0 then u.inc (R.SQ_ACTIVE_S_S n) else u
  else s

/-- A tick of the running core. -/
def State.tickCore (s : State) : State :=
  let s1 := (List.range 4).foldl (fun (t : State) k => t.tickTb k) s
  let s7 := ((s1.tickSeconds.tickSq 0).tickSq 1).takeIdle.dueTriggers
  match s7.pow.phase with
  | .day => if s7.idle then s7 else s7.busy
  | _ => s7

/-- One tick of the parts of the module that run; the leaves latch (R112). -/
def State.tickRun (s : State) : State :=
  let t := { s with time := s.time + 1 }
  match s.pow.phase with
  | .noVaux => t
  | .night => t.tickIsland.tickSecond 0x024
  | .day | .dusk | .nightEntry => t.tickIsland.tickCore
  | .maint => (List.range 4).foldl (fun (u : State) k => u.tickTb k) t.tickIsland
  | _ => t.tickIsland

/-- One tick. -/
def State.tick (s : State) : State := s.tickRun.latch

end Sys2Proof.Machine
end

