-- ==== Sys2Proof/Machine/TestOps.lean ====
section
/-! DEFINITION. Built-in self-test, test, loop-backs and the JTAG port (R384, R455 to R463). -/

namespace Sys2Proof.Machine

/-! ## Built-in self-test (R456 to R458) -/

/-- The INDEX a failure shows: the SRAM instance, none for HBM, else the engine, pipeline or lane. -/
def bistIndex (u i : Nat) : Nat := if u = 5 then i / 65536 else if u = 6 then 0 else i

/-- A failure is recorded: BIST_FAILED, BIST_LAST, BIST_SIG, the counts, and the unit is out of use until the next Dawn (R456). -/
def State.bistNote (s : State) (u i sig : Nat) : State :=
  let s1 := s.wr R.BIST_FAILED_UNITS (s.rd R.BIST_FAILED_UNITS ||| 2 ^ u)
  let s2 := ((s1.wr R.BIST_LAST_UNIT u).wr R.BIST_LAST_INDEX (bistIndex u i)).wr R.BIST_SIG_SIG sig
  let s3 := (s2.inc R.BIST_FAILS_COUNT).lifeAdd 0x1AC 2 1
  if s3.unitBad u i then s3 else { s3 with unitsBad := s3.unitsBad ++ [(u, i)] }

/-- An address of SRAM (`u` 5) or HBM (`u` 6) that a test finds bad takes a spare, if one is free (R418). -/
def State.bistRemap (s : State) (u : Nat) (a : Word) (dawn : Bool) : State :=
  let c := if u = 6 then 0 else 2
  if (if c = 0 then s.mem.hbmMap else s.mem.sramMap).any (fun (e : Word × Bool) => e.1 == a) then s
  else if s.canRemap c a then s.remap c a dawn else s.remapFull c a

/-- A head lane is out of use: it is OFF and reported down, and its channels move (R73, R457). -/
def State.laneFailed (s : State) (n : Nat) : State :=
  if s.laneState n = laneActive then (s.laneLost n laneDetect).enter n laneOff
  else
    let t := (s.enter n laneOff).onLane n (fun (l : Lane) => { l with lost := true, plan := [], wait := none })
    if s.cf (R.HL_CFG_EN n) = 1 then (t.condOn Ev.LANE_DOWN n laneOff).switchOver n false else t

/-- What a failure does to a unit while the module is in service or in test (R457). -/
def State.unitFails (s : State) (u i : Nat) : State :=
  match u with
  | 0 => s.giveUp 0 1
  | 1 => s.giveUp 1 1
  | 2 => ((s.wr (R.DX_CTRL_DRAIN i) 1).moveAll i).dxRest i
  | 3 => s.wr (R.CX_CFG_ENABLE i) 0
  | 4 => (s.camAbort i).1.wr (R.CP_STATUS_STATE i) 0
  | 5 => s.bistRemap 5 (BitVec.ofNat 32 i) false
  | 6 => s.bistRemap 6 (BitVec.ofNat 32 i) false
  | 7 => s.laneFailed i
  | 8 => s.wr (R.CL_STATUS_STATE i) 0
  | _ => s.wr R.TEST_STATE_NO_PRINT 1

/-- A unit fails a self-test after Dawn: recorded, sent, and treated (R456, R457). -/
def State.bistFail (s : State) (u i sig : Nat) : State := ((s.bistNote u i sig).raise Ev.BIST_FAIL u sig).unitFails u i

/-- An on-demand run and what it finds, for the units of BIST_UNITS (R459). -/
def State.bistRun (s : State) (fails : List BistFail) : State :=
  let s1 := ((s.inc R.BIST_RUNS_COUNT).lifeAdd 0x1A8 4 1).wr R.BIST_FAILED_UNITS 0
  (fails.filter (fun (f : BistFail) => bit (s.rd R.BIST_UNITS_UNITS) f.unit)).foldl
    (fun (t : State) (f : BistFail) => t.bistFail f.unit f.index f.sig.toNat) s1

/-- How many units of a code there are that run slices (R458). -/
def sliceUnits (u : Nat) : Nat := if u = 2 then 16 else 4

/-- A slice of a decompressor (2), a compressor (3) or a pipeline (4) may run now: the unit exists, is at rest and has not failed, and
its period has passed (R458). -/
def State.sliceMay (s : State) (u i : Nat) : Bool :=
  decide (i < sliceUnits u) && s.awake && !s.unitBad u i &&
  (match u with
    | 2 => s.rd (R.DX_STATUS_STATE i) != 1 && s.rd (R.DX_STATUS_STATE i) != 2
    | 3 => (s.cxu i).cur.isNone
    | _ => (s.cam i).frame.isNone) &&
  decide (Sparse.get 0 s.slices (16 * u + i) +
    secTicks (s.rd (if u = 2 then R.SLICE_CFG_DX_S else if u = 3 then R.SLICE_CFG_CX_S else R.SLICE_CFG_CP_S)) ≤ s.time)

/-- One slice, with the signature it failed with, if it failed. -/
def State.runSlice (s : State) (u i : Nat) (fail : Option Word) : State :=
  let s1 := State.inc { s with slices := Sparse.put s.slices (16 * u + i) s.time } R.SLICES_COUNT
  match fail with
  | none => s1
  | some sig => s1.bistFail u i sig.toNat

/-! ## Loop-backs (R384, R460) -/

/-- A loop-back has been written: its counts run from now; a head lane leaves its bring-up states while DEPTH is not 0 and starts
again from DETECT at 0; a network port goes down to the network at depths 1 to 3. `old` and `new` are the depths. -/
def State.loopWrite (s : State) (i old new : Nat) : State :=
  if old = new then s
  else
    let t := s
    if i < 16 then
      if new = 0 then (if t.laneOn i then t.startDetect i else t)
      else if old = 0 then (t.enter i laneOff).onLane i (fun (l : Lane) => { l with plan := [], wait := none, stage := 0 }) else t
    else if i < 21 then t
    else if 1 ≤ new ∧ new ≤ 3 then t.linkLost (i - 21) 2 else t

/-! ## The JTAG port (R461, R462) -/

/-- The bits of a number, least significant first. -/
def bitList (w v : Nat) : List Bool := (List.range w).map (fun i => bit v i)

/-- The instructions of the boundary scan act as themselves: in test, in the maintenance state, or with SCAN_OPEN. -/
def State.scanTest (s : State) : Bool := s.flag R.TEST_STATE_TEST || s.pow.phase == .maint || s.pow.scanOpen

/-- Bits pass through the bypass register, which captures 0. -/
def State.jtagBypass (s : State) (code : Nat) (ins : List Bool) : State :=
  let out := (false :: ins).take ins.length
  State.emit { s with jtag := { s.jtag with ir := code, bypass := ins.getLast?.getD false } } (.jtag code out)

/-- Bits pass through the boundary register: the captured ones leave, the new ones stay. -/
def State.jtagBoundary (s : State) (code : Nat) (shift captured : BitVec 24) : State :=
  State.emit { s with jtag := { s.jtag with ir := code, cells := shift } } (.jtag code (bitList 24 captured.toNat))

/-- A register of the port that only shows a value. -/
def State.jtagShow (s : State) (code w v : Nat) : State :=
  State.emit { s with jtag := { s.jtag with ir := code } } (.jtag code (bitList w v))

/-- The word of TSTATUS. -/
def State.tstatus (s : State) : Nat :=
  b2n (s.flag R.TEST_STATE_TEST) + 2 * b2n (s.pow.phase == .maint) + 4 * b2n (s.pow.wipeStep != 0) + 8 * b2n s.pow.scanOpen +
    16 * (if s.pow.scanOpen then 5 else s.pow.wipeStep)

/-- An update of WIPE (R462). -/
def State.wipeStart (s : State) (v : Nat) : State :=
  if v = 0xA5C3 ∧ (s.flag R.TEST_STATE_TEST ∨ s.pow.phase = .maint) ∧ s.pow.wipeStep = 0 ∧ !s.pow.scanOpen then
    State.journalDue { s with pow := { s.pow with wipeStep := 1 } } 9
  else s

/-- A memory access through the port: the register captures the last access, and its update writes four bytes of HBM or reads them;
what another address answers is open. -/
def State.jtagMem (s : State) (dr : Nat) : State :=
  let a := bits dr 0 40
  let s1 := s.jtagShow 0x21 80 s.jtag.mem
  let inHbm := decide (a + 4 ≤ 0x3C0000000)
  if bit dr 72 then
    let s2 := if inHbm then s1.hbmWrite a (leBytes 4 (bits dr 40 32)) else s1
    { s2 with jtag := { s2.jtag with mem := dr % 2 ^ 73 } }
  else
    let v := if inHbm then leNat (s1.hbmRead a 4) else s1.draw 91 % 2 ^ 32
    State.drawn { s1 with jtag := { s1.jtag with mem := a + 2 ^ 40 * v } }

end Sys2Proof.Machine
end

