-- ==== Sys2Proof/Machine/RegAct.lean ====
section
/-! DEFINITION. What a word of a WRITE stores, and what it does besides (R6 and the register tables of every chapter). -/

namespace Sys2Proof.Machine

/-- What a register write may carry beside its words: bytes a DMA burst had moved when the channel stopped, and what a self-test finds. -/
structure Extra where
  moved : Option Nat := none
  fails : List BistFail := []
  deriving DecidableEq, Repr

/-- One WRITE being carried out: its address, its words, and what goes with it. -/
structure WriteCtx where
  np : Nat
  addr : Nat
  words : List Word
  extra : Extra := {}
  deriving DecidableEq, Repr

/-- Runs an action on the register of a family that stands at the address. -/
def onIdx (a base step n : Nat) (f : Nat → State → State) (s : State) : State :=
  match idxOf a base step n with
  | some k => f k s
  | none => s

/-! ## Storing -/

/-- The bits of FAULT_LATCH that stay: a fault-class condition of the group still has its cause (R102). -/
def State.latchKept (s : State) : Nat :=
  bitsOf 17 (fun g => s.conds.any (fun (c : Nat × Nat) => c.1 / 256 == g &&
    [Ev.SET_MEMBER_LOST.code, Ev.HEAD_HARD_LIMIT.code, Ev.VIO_LOST.code, Ev.SEQ_RETIRED.code, Ev.MENDING_FULL.code,
      Ev.LANE_DOWN.code, Ev.UNCORRECTABLE.code, Ev.ORDERLY_STOP.code].contains c.1))

/-- The bits a write sets at once: RW fields, and the WO words that a later word uses (TBk_SET_LO, EVD_RESEND_LO). TB2's SRC is RO (R373). -/
def rwMask (rows : List FieldRow) (a : Nat) : Nat :=
  let m := accMask rows (· == .rw)
  if a = R.TB_CFG 2 then m - 3
  else if (List.range 4).any (fun k => a == R.TB_SET_LO k) ∨ a = R.EVD_RESEND_LO then accMask rows (· == .wo)
  else m

/-- The bits of a W1C register that a write clears. -/
def State.cleared (s : State) (rows : List FieldRow) (a : Nat) (w : Word) : Nat :=
  let m := (w &&& BitVec.ofNat 32 (accMask rows (· == .w1c))).toNat
  if a = R.FAULT_LATCH then m - (m &&& s.latchKept) else m

/-- A word of a WRITE is stored (R6). -/
def State.storeWord (s : State) (a : Nat) (w : Word) : State :=
  if 0x40000000 ≤ a then s.tableWrite a w
  else if inSpans a then s
  else match famOf a with
    | none => s
    | some f =>
      let old := s.word a
      let s1 := s.setWord a ((mix (rwMask f.rows a) old w) &&& ~~~(BitVec.ofNat 32 (s.cleared f.rows a w)))
      if accMask f.rows (· == .rws) = 0 then s1
      else match idxOf a (R.MFP_CFG 0) 4 16 with
        | some n => s1.funcPend n w
        | none => s1.setPend a w

/-! ## Acting. `s0` is the state before the WRITE; `s` holds every word of it. -/

/-- SYS, PINS, TEST and the spans. -/
def State.actSys (s0 : State) (x : WriteCtx) (a : Nat) (w : Nat) (s : State) : State :=
  if a = R.PWR_CTRL then
    let s1 := if bit w 2 then s.onPow (fun p => { p with restart := true }) else s
    if bit w 1 then s1.nightBegin else s1
  else if a = R.TEST_CTRL then
    let s1 := if bit w 0 then s.wr R.TEST_STATE_TEST 1 else s
    let s2 := if bit w 2 then s1.bistRun x.extra.fails else s1
    let s3 := if bit w 3 then s2.journalDue 8 else s2
    if bit w 1 then s3.wr R.TEST_STATE_TEST 0 else s3
  else if a = R.MFP_LB then (if s0.rd R.MFP_LB_EN = s.rd R.MFP_LB_EN then s else s.loopMark 20)
  else if inSpans a then
    let n := (a - 0x01000000) / 64
    if a % 64 = 0x0C then s.ctrlSet n w else if a % 64 = 0x10 then s.ctrlClr n w
    else if a % 64 = 0x20 then s.stickyClr n w else s
  else s

/-- A subscriber's address or port changes: its queue is discarded and its numbers start at 1 (R99). -/
def State.subChanged (s0 : State) (k : Nat) (s : State) : State :=
  if s0.rd (R.SUB_IP_IP k) = s.rd (R.SUB_IP_IP k) ∧ s0.rd (R.SUB_CFG_PORT k) = s.rd (R.SUB_CFG_PORT k) then s
  else s.onSub k (fun _ => {})

/-- Subscriber slots and loop-backs. -/
def State.actMgmt (s0 : State) (_ : WriteCtx) (a : Nat) (_ : Nat) (s : State) : State :=
  let loop := fun (i : Nat) (u : State) =>
    if s0.loopDepth i = u.loopDepth i then u else (u.loopMark i).loopWrite i (s0.loopDepth i) (u.loopDepth i)
  ((onIdx a (R.SUB_IP 0) 16 4 s0.subChanged (onIdx a (R.SUB_CFG 0) 16 4 s0.subChanged s)) |>
    onIdx a (R.HL_LB 0) 16 16 loop) |>
    onIdx a (R.CL_LB 0) 16 4 (fun k => loop (16 + k)) |>
    onIdx a (R.NP_LB 0) 256 2 (fun k => loop (21 + k))

/-- DMA channels and windows (R137, R143 to R145). -/
def State.actDma (s0 : State) (x : WriteCtx) (a : Nat) (w : Nat) (s : State) : State :=
  onIdx a (R.DMA_CFG 0) 64 16 (fun k u => u.dmaMode k (w % 2)) s |>
    onIdx a (R.DMA_CTRL 0) 64 16 (fun k u =>
      let was := s0.flag (R.DMA_CTRL_PAUSE k)
      if bit w 0 then u.dmaStart k
      else if bit w 1 ∧ !was then
        (match x.extra.moved with
          | some m => u.dmaPause k m
          | none => (u.dmaPause k (u.draw 60)).drawn)
      else if !bit w 1 ∧ was then u.dmaResume k else u) |>
    onIdx a (R.DMA_DOORBELL 0) 64 16 (fun k u => u.dmaBell k) |>
    onIdx a (R.WIN_CFG 0) 16 64 (fun k u => if u.flag (R.WIN_CFG_OPEN k) then u.winOpen k else u)

/-- The eight words of a key slot have been written (R155). -/
def State.keyStore (s : State) (k : Nat) (ws : List Word) : State :=
  let s1 := State.wr { s with keys := Sparse.put s.keys k (wordBytes ws) } R.KEY_VALID_SLOTS (s.rd R.KEY_VALID_SLOTS ||| 2 ^ k)
  (s1.onNvm (fun n => { n with stDue := true })).lifeAdd 0x1A0 2 1

/-- Key slots are erased (R155). -/
def State.keyErase (s : State) (slots : Nat) : State :=
  let s1 := State.wr { s with keys := s.keys.filter (fun e => !bit slots e.1) } R.KEY_VALID_SLOTS
    (s.rd R.KEY_VALID_SLOTS - (s.rd R.KEY_VALID_SLOTS &&& slots))
  (s1.onNvm (fun n => { n with stDue := true })).lifeAdd 0x1A0 2 1

/-- Decompressors, keys, compressors, evidence. -/
def State.actFlate (_ : State) (x : WriteCtx) (a : Nat) (w : Nat) (s : State) : State :=
  onIdx a (R.DX_CTRL 0) 32 16 (fun k u => (if u.flag (R.DX_CTRL_DRAIN k) then u.moveAll k else u).dxRest k) s |>
    onIdx a (R.KEY_W 0 0) 32 8 (fun k u => u.keyStore k (x.words.take 8)) |>
    (fun (u : State) => if a = R.KEY_CLEAR then u.keyErase w else u) |>
    onIdx a (R.CX_CFG 0) 64 4 (fun k u => if u.unitBad 3 k then u.wr (R.CX_CFG_ENABLE k) 0 else u) |>
    onIdx a (R.CX_HEAD_LO 0) 64 4 (fun k u => u.onCx k (fun c => { c with last := none })) |>
    onIdx a (R.CX_HEAD_HI 0) 64 4 (fun k u => u.onCx k (fun c => { c with last := none })) |>
    onIdx a (R.CX_DOORBELL 0) 64 4 (fun k u => u.cxRing k) |>
    (fun (u : State) => if a = R.EVD_RESEND_HI then
      u.evdResend (bits (u.word R.EVD_RESEND_LO).toNat 5 27 * 32 + 2 ^ 32 * (w % 256)) else u)

/-- The pending SKEW and FILT of LINESYNC_IN apply when no generator it feeds has a line of a piece in flight (R222). -/
def State.lsiApply (s : State) : State :=
  if (List.range 16).any (fun k => s.root false k == 16 && s.barActive k) then s else s.applyPend R.LSI_CFG

/-- POS and BARS. -/
def State.actPos (s0 : State) (_ : WriteCtx) (a : Nat) (w : Nat) (s : State) : State :=
  onIdx a (R.ENC_CTRL 0) 128 2 (fun k u => if bit w 0 then u.presetEnc k else u) s |>
    onIdx a (R.ENC_IDX_NOM1 0) 128 2 (fun _ u => u.crossTrack) |>
    onIdx a (R.CMP_CTRL 0) 32 64 (fun k u =>
      if bit w 0 then u.cmpJudge k true else if bit w 1 then u.wr (R.CMP_STATUS_ARMED k) 0 else u) |>
    onIdx a (R.TG_REG 0) 64 16 (fun k u => if s0.rd (R.TG_REG_REG k) = u.rd (R.TG_REG_REG k) then u else u.restartY k) |>
    onIdx a (R.TG_LEAD_WARN 0) 64 16 (fun k u => u.updateLead k) |>
    (fun (u : State) => if a = R.SD_HOST then u.speedDemand else u) |>
    (fun (u : State) => if a = R.LSI_CFG then u.lsiApply else u) |>
    (fun (u : State) => if a = R.STOP_CTRL then (if bit w 0 then u.requestStop 1 else if bit w 1 then u.resumeAll else u) else u)

/-- A lane aborted by the host returns to service (R279). -/
def State.laneResume (s : State) (k : Nat) : State :=
  if (s.lane k).heldByHost then
    let t := (s.onLane k (fun l => { l with heldByHost := false })).toDay
    if t.laneState k = laneShallow then (t.laneUp k).ctrlMsg k 0x25 [0]
    else if t.laneState k = laneActive then t.laneUp k else t
  else s

/-- A full bring-up from DETECT (R284). -/
def State.laneRetrain (s : State) (k : Nat) : State :=
  if s.laneState k = laneActive then s.laneLost k laneDetect else if s.laneOn k then s.startDetect k else s

/-- HLn_CTRL (R265, R279, R284). -/
def State.laneCtrl (s : State) (k w : Nat) : State :=
  let s1 := if bit w 0 then s.laneResume k else s
  let s2 := if bit w 1 then s1.laneRetrain k else s1
  if bit w 2 ∧ s2.laneState k = laneActive then s2.echoStart k else s2

/-- One command of MEND_CMD (R300). -/
def State.mendCmd (s : State) (n op : Nat) : State :=
  match op with
  | 1 => s.list n 0 false
  | 2 => s.unlist n 1
  | 3 => s.onMend n (fun m => { m with pinned := true })
  | 4 => s.onMend n (fun m => { m with pinned := false, passes := 0 })
  | 5 => s.queueTest n
  | _ => s

/-- A pending serial list is named, or removed by 0 in both words (R246). -/
def State.pendSerial (s : State) (k : Nat) : State :=
  (s.wrB (R.SL_STATUS_PENDING k) (s.rdW (R.SL_PEND_LO_ADDR k) (R.SL_PEND_HI_ADDR k) != 0)).promoteSerial k

/-- HLINK, DARN, CAM, IRON and FORM. -/
def State.actForm (_ : State) (_ : WriteCtx) (a : Nat) (w : Nat) (s : State) : State :=
  onIdx a (R.HL_CTRL 0) 64 16 (fun k u => u.laneCtrl k w) s |>
    (fun (u : State) => if a = R.MEND_CMD then u.mendCmd (bits w 0 20) (bits w 20 3) else u) |>
    onIdx a (R.CP_CTRL 0) 512 4 (fun k u => if bit w 0 then u.armCam k else u) |>
    onIdx a (R.INK_NOM 0) 8 8 (fun k u => u.ironReset k) |>
    onIdx a (R.BAR_VOL0 0) 32 16 (fun b u => (u.inkOf b).elim u u.ironReset) |>
    onIdx a (R.BAR_VOL1 0) 32 16 (fun b u => (u.inkOf b).elim u u.ironReset) |>
    onIdx a (R.SL_PEND_LO 0) 32 4 (fun k u => u.pendSerial k) |> onIdx a (R.SL_PEND_HI 0) 32 4 (fun k u => u.pendSerial k)
/-- The network ports, PTP, the time bases and the time pulses (R361, R369, R376, R380, R381, R383). -/
def State.actNet (s0 : State) (_ : WriteCtx) (a : Nat) (w : Nat) (s : State) : State :=
  onIdx a (R.NP_CFG 0) 256 2 (fun k u => if (s0.word a).toNat % 262144 = w % 262144 then u else u.linkRestart k) s |>
    onIdx a (R.PI_CFG 0) 64 2 (fun k u => u.ptpRestart k) |>
    onIdx a (R.TB_CFG 0) 64 4 (fun k u =>
      if s0.rd (R.TB_CFG_SRC k) = u.rd (R.TB_CFG_SRC k) then u
      else ((u.onTb k (fun t => { t with refused := false, pend := 0, good := 0, bad := 0, integ := 0, utcPend := none })).setTb k 0).clearJump k |>.utcSource k) |>
    onIdx a (R.TB_SET_HI 0) 64 4 (fun k u =>
      (u.stepTb k (((u.word (R.TB_SET_LO k)).toNat + 2 ^ 32 * w : Nat) * 2 ^ 32)).onTb k (fun t => { t with everSet := true }) |>.tbFlags k) |>
    onIdx a (R.TB_ADJ 0) 64 4 (fun k u => u.tbRate k ((u.rdI (R.TB_ADJ_RATE k) : Rat) / 1000)) |>
    onIdx a (R.TB_CTRL 0) 64 4 (fun k u => if bit w 0 then u.acceptJump k else u) |>
    onIdx a (R.TP_CFG 0) 32 4 (fun k u => if bit w 0 then u.tpArm k else u) |>
    (fun (u : State) => if a = R.SNAP_CTRL ∧ bit w 0 then u.snapshotTime else u)

/-- A retired sequencer goes to OUT (R399). -/
def State.unretire (s : State) (n : Nat) : State :=
  if s.sqState n = sqRetired then
    ((((s.setSq n sqOut).wr (R.SQ_STATUS_CLEAN n) 0).wr (R.SQ_STATUS_RFAIL n) 0).onSq n (fun q => { q with
      giveups := [], slice := 0, priority := false, joining := false, cycleFrom := s.time })).condOff Ev.SEQ_RETIRED n
  else s

/-- SEQ (R398 to R400). -/
def State.actSeq (_ : State) (_ : WriteCtx) (a : Nat) (w : Nat) (s : State) : State :=
  if a = R.SEQ_CFG then s.handback
  else if a = R.SEQ_CTRL then
    let s1 := if bit w 0 then (s.wr R.SEQ_STATE_HOLD 0).handback else s
    let s2 := if bit w 1 then s1.unretire 0 else s1
    if bit w 2 then s2.unretire 1 else s2
  else s

/-- What a word of a WRITE does beside being stored. -/
def State.actWord (s0 : State) (x : WriteCtx) (a : Nat) (w : Word) (s : State) : State :=
  if 0x40000000 ≤ a then s
  else
    let v := w.toNat
    s0.actSeq x a v (s0.actNet x a v (s0.actForm x a v (s0.actPos x a v (s0.actFlate x a v (s0.actDma x a v
      (s0.actMgmt x a v (s0.actSys x a v s)))))))

end Sys2Proof.Machine
end

