-- ==== Sys2Proof/Machine/WriteCommit.lean ====
section
/-! DEFINITION. READ and WRITE (R91 to R97, R106, R109, R117): the checks word by word, the commit at one instant, the counts. -/

namespace Sys2Proof.Machine

/-- The words of a WRITE with their addresses. -/
def WriteCtx.pairs (x : WriteCtx) : List (Nat × Word) := x.words.zipIdx.map (fun e => (x.addr + 4 * e.2, e.1))

/-- The STATUS one word is refused with in state `s`, which the words before it leave; none: it passes. -/
def State.wordStatus (s : State) (x : WriteCtx) (a : Nat) (w : Word) : Option Nat :=
  if (s.readWord a).isNone then some Status.badAddress
  else s.wordRefused (s.storeWord a w) x.np x.addr x.words.length a w

/-- Checks the words in order, each against the state that those before it would leave (R97): the first bad word with its STATUS,
or the state that all of them would leave. -/
def State.checkFrom (s0 : State) (x : WriteCtx) : Nat → List (Nat × Word) → State → Except (Nat × Nat) State
  | _, [], s => .ok s
  | i, (a, w) :: l, s =>
    match s.wordStatus x a w with
    | some st => .error (st, i)
    | none => s0.checkFrom x (i + 1) l (s0.actWord x a w (s.storeWord a w))

/-- The whole check of a WRITE (R97): word by word, then the rules of the state it leaves. -/
def State.checkWrite (s : State) (x : WriteCtx) : Option (Nat × Nat) :=
  match s.checkFrom x 0 x.pairs s with
  | .error e => some e
  | .ok t => (x.pairs.findIdx? (fun e => t.finalBad e.1)).map (fun i => (Status.refusedValue, i))

/-- What R106 counts for one word: `t` is the state before the commit. -/
def State.countWord (t : State) (s : State) (e : Nat × Word) : State :=
  if 0x40000000 ≤ e.1 then (if (t.tableMask e.1).isSome then s.cfgWrite else s.cfgIgnored)
  else match famOf e.1 with
    | none => s
    | some f =>
      let ro := BitVec.ofNat 32 (accMask f.rows (· == .ro))
      if f.rows.any (fun r => r.acc != .ro) then
        (if e.2 &&& ro = (t.readWord e.1).getD 0 &&& ro then s.cfgWrite else s.cfgWrite.cfgIgnored)
      else s.cfgIgnored

/-- The changes that R106 counts beside the words: each subscriber slot changed, each key write and KEY_CLEAR. -/
def State.countExtra (t : State) (x : WriteCtx) (s : State) : State :=
  let hits := fun (a : Nat) => x.pairs.any (fun e => e.1 == a)
  let subs := (List.range 4).filter (fun k =>
    [R.SUB_IP k, R.SUB_CFG k, R.SUB_GROUPS k].any (fun a => hits a && t.word a != s.word a))
  let keys := ((List.range 8).filter (fun k => hits (R.KEY_W k 0))).length + b2n (hits R.KEY_CLEAR)
  (List.range (subs.length + keys)).foldl (fun (u : State) _ => u.cfgWrite) s

/-- The commit: every word stored, then every word's action, at one instant; the counts; CONFIG_WRITE (R97, R106). -/
def State.commitWrite (s : State) (x : WriteCtx) : State :=
  let s1 := x.pairs.foldl (fun (t : State) e => t.storeWord e.1 e.2) s
  let s2 := x.pairs.foldl (fun (t : State) e => s.actWord x e.1 e.2 t) s1
  let s3 := s.countExtra x (x.pairs.foldl (fun (t : State) e => s.countWord t e) s2)
  if s3.flag R.MGMT_EN_CFG_WRITE_EVT then s3.raise Ev.CONFIG_WRITE x.addr x.words.length else s3

/-- What a refusal leaves behind: CONFLICT and its event (R49), NIGHT_REFUSED (R82). -/
def State.afterRefusal (s : State) (x : WriteCtx) (st i : Nat) : State :=
  let a := x.addr + 4 * i
  let w := (x.words.getD i 0).toNat
  if st ≠ Status.refusedValue ∧ a = R.PWR_CTRL ∧ bit w 1 then s.wr R.PWR_ERR_NIGHT_REFUSED 1
  else match idxOf a (R.MFP_CFG 0) 4 16 with
    | some n => if st = Status.refusedValue then s.pinConflict n (w % 64) else s
    | none => s

/-- A WRITE that stays in this module: checked, then committed. -/
def State.writeHere (s : State) (x : WriteCtx) : State × Nat × List Byte :=
  match s.checkWrite x with
  | some (st, i) => (s.afterRefusal x st i, st, leBytes 4 i)
  | none => (s.commitWrite x, Status.ok, leBytes 4 0xFFFFFFFF)

/-- The mirror window that holds every word of a range: the follower, and the address there (R115, R117). -/
def State.mirrored (s : State) (addr n : Nat) : Option (Nat × Nat) :=
  match s.mirrorOf addr with
  | none => none
  | some (k, num) =>
    if addr % 4 = 0 ∧ (List.range n).all (fun i => (s.mirrorOf (addr + 4 * i)).any (fun e => e.1 == k)) then
      some (k, 0x01000000 + 64 * num + addr % 64)
    else none

/-- The words PWR_CTRL takes in the maintenance state, during a wipe and with SCAN_OPEN: only RESTART (R74, R462). -/
def State.restartOnly (s : State) (ws : List Word) : List Word :=
  if s.pow.phase = .maint ∨ s.pow.scanOpen ∨ s.pow.wipeStep ≠ 0 then
    ws.map (fun w => (w &&& 4) ||| ((s.readWord R.PWR_CTRL).getD 0 &&& ~~~4))
  else ws

/-- A WRITE (R97, R117). -/
def State.write (s : State) (m : Msg) (addr : Nat) (ws : List Word) (ex : Extra) : State × Option (Nat × List Byte) :=
  match s.mirrored addr ws.length with
  | some (k, a') => s.forward m 2 k addr a' ws.length ws
  | none =>
    let r := s.writeHere ⟨m.np, addr, s.restartOnly ws, ex⟩
    if r.2.1 = Status.ok ∧ s.reachesFollowers addr ws.length then r.1.forwardSet m addr ws
    else (r.1, some r.2)

/-- A WRITE of one word to PWR_CTRL: the one WRITE served in the maintenance state, during a wipe and with SCAN_OPEN (R74, R462). -/
def restartWrite (addr n : Nat) : Bool := addr == R.PWR_CTRL && n == 1

/-- Serves a WRITE of words at an address. -/
def State.serveWrite (s : State) (m : Msg) (addr : Nat) (ws : List Word) (ex : Extra := {}) : State :=
  s.serveLater m ⟨2, 41002, true, decide (1 ≤ ws.length ∧ ws.length ≤ 2048), 4, restartWrite addr ws.length,
    restartWrite addr ws.length⟩ (fun t => t.write m addr ws ex)

/-- Serves a WRITE as its payload stands (R91). -/
def State.serveWritePayload (s : State) (m : Msg) (payload : List Byte) : State :=
  let n := le payload 4 4
  let ok := decide (8 ≤ payload.length) && decide (1 ≤ n ∧ n ≤ 2048) && payload.length == 8 + 4 * n
  let addr := le payload 0 4
  s.serveLater m ⟨2, 41002, true, ok, 4, ok && restartWrite addr n, ok && restartWrite addr n⟩
    (fun t => t.write m addr (wordsFrom payload 8 n) {})

/-- The words of a READ, none when an address of the range holds nothing (R109). -/
def State.readRange (s : State) (addr : Nat) : Nat → Option (List Word)
  | 0 => some []
  | n + 1 =>
    match s.readWord addr with
    | none => none
    | some w => (s.readRange (addr + 4) n).map (w :: ·)

/-- A READ (R109, R117). Every READ uses a draw: some of what it shows is open. -/
def State.read (s : State) (m : Msg) (addr n : Nat) : State × Option (Nat × List Byte) :=
  match s.mirrored addr n with
  | some (k, a') => s.forward m 1 k addr a' n []
  | none =>
    match s.readRange addr n with
    | none => (s, some (Status.badAddress, []))
    | some ws =>
      (State.drawn ((List.range n).foldl (fun (t : State) i => t.readEnds (addr + 4 * i)) s),
        some (Status.ok, leBytes 4 addr ++ leBytes 4 n ++ wordBytes ws))

/-- Serves a READ (R91). -/
def State.serveRead (s : State) (m : Msg) (payload : List Byte) : State :=
  let n := le payload 4 4
  s.serveLater m ⟨1, 41002, false, payload.length == 8 && decide (1 ≤ n ∧ n ≤ 2048), 8 + 4 * n, true, true⟩
    (fun t => t.read m (le payload 0 4) n)

end Sys2Proof.Machine
end

