-- ==== Sys2Proof/Machine/ImageOps.lean ====
section
/-! DEFINITION. Configuration images: applying the records and the checks an image must pass (R14, R15, R46, R47, R63 to R66, R115,
R137, R185, R210, R223, R275, R289, R306, R317, R343, R369). -/

namespace Sys2Proof.Machine

/-! ## Records (R64, R65) -/

/-- What the records of an image have built so far: the state, the MFPs its PINS records name, the words of its TABLE records. -/
structure Build where
  s : State
  pins : List Nat := []
  tables : List (Nat × Word) := []
  nodes : List SpanNode := []
  deriving DecidableEq, Repr

/-- An address whose value rules are judged on the configuration the whole image has built, not entry by entry. -/
def judgedLast (a : Nat) : Bool :=
  a == R.MGMT_EN || (idxOf a (R.WIN_CFG 0) 16 64).isSome || (idxOf a (R.DX_CTRL 0) 32 16).isSome ||
  [R.TG_CFG 0, R.TG_DELAY 0, R.TG_REG 0, R.TG_LEAD_WARN 0, R.TG_PERIOD 0].any (fun b => (idxOf a b 64 16).isSome) ||
  (idxOf a (R.CH_FINE 0) 4 512).isSome || [R.GS_BASE 0, R.GS_SIZE 0].any (fun b => (idxOf a b 8 16).isSome) ||
  (idxOf a (R.CP_S1 0) 512 4).isSome || a == R.EVD_CFG || (idxOf a (R.PI_CFG 0) 64 2).isSome ||
  [R.TB_JUMP 0, R.TB_ADJ 0].any (fun b => (idxOf a b 64 4).isSome) || (idxOf a (R.ENC_IDX_NOM 0) 128 2).isSome ||
  [R.CMP_CFG 0, R.CMP_TGT_LO 0, R.CMP_TGT_HI 0, R.CMP_PERIOD 0].any (fun b => (idxOf a b 32 64).isSome)

/-- A REGS entry writes the RW and RWS fields of its register; none when R65 or R66 makes the image invalid. -/
def State.regEntry (s : State) (a : Nat) (w : Word) : Option State :=
  match famOf a with
  | none => none
  | some f =>
    let v := w.toNat
    let sets := accMask f.rows (fun x => x == .rw || x == .rws)
    if sets = 0 ∨ v &&& accMask f.rows (fun _ => true) ≠ v ∨ v &&& accMask f.rows (· == .wo) ≠ 0 then none
    else
      let t := s.setWord a (mix (if a = R.TB_CFG 2 then sets - 3 else sets) (s.word a) w)
      if rangeBad a v then none
      else if !judgedLast a ∧ (s.wordRefused t 2 a 1 a w).isSome then none
      else some t

/-- Folds a step that may fail over a list. -/
def foldOpt {α β : Type} (f : α → β → Option α) : α → List β → Option α
  | a, [] => some a
  | a, x :: xs => (f a x).bind (fun b => foldOpt f b xs)

/-- The 8-byte entries of a record; none when its length is no multiple of 8. -/
def entries8 (v : List Byte) : Option (List (List Byte)) := if v.length % 8 = 0 then some (groups 8 (v.length / 8) v) else none

/-- One PINS entry. -/
def Build.pin (b : Build) (e : List Byte) : Option Build :=
  let n := le e 0 1
  if 16 ≤ n ∨ !zeros e 1 3 ∨ b.pins.contains n then none
  else (b.s.regEntry (R.MFP_CFG n) (BitVec.ofNat 32 (le e 4 4))).map (fun t => { b with s := t, pins := n :: b.pins })

/-- One REGS entry. -/
def Build.reg (b : Build) (e : List Byte) : Option Build :=
  if 0x40000000 ≤ le e 0 4 then none
  else (b.s.regEntry (le e 0 4) (BitVec.ofNat 32 (le e 4 4))).map (fun t => { b with s := t })

/-- One SPANS entry. -/
def Build.span (b : Build) (e : List Byte) : Option Build :=
  let par := le e 2 2
  let ch := le e 4 2
  if 4096 ≤ le e 0 2 ∨ (4096 ≤ par ∧ par ≠ 0xFFFF) ∨ (512 ≤ ch ∧ ch ≠ 0xFFFF) then none
  else some { b with nodes := b.nodes ++
    [⟨le e 0 2, if par = 0xFFFF then none else some par, if ch = 0xFFFF then none else some ch, le e 6 2⟩] }

/-- One TABLE record; its words are judged when the whole image has been applied. -/
def Build.table (b : Build) (v : List Byte) : Option Build :=
  let a := le v 0 4
  if v.length < 8 ∨ v.length % 4 ≠ 0 ∨ a % 4 ≠ 0 ∨ a < 0x40000000 ∨ !zeros v 4 4 then none
  else
    let ws := wordsFrom v 8 ((v.length - 8) / 4)
    some { b with s := b.s.setWords a ws, tables := b.tables ++ ws.zipIdx.map (fun e => (a + 4 * e.2, e.1)) }

/-- One record (R64, R65). -/
def Build.record (b : Build) (r : Nat × Nat × List Byte) : Option Build :=
  match r.1 with
  | 2 => (entries8 r.2.2).bind (foldOpt Build.pin b)
  | 3 => (entries8 r.2.2).bind (foldOpt Build.reg b)
  | 4 => (entries8 r.2.2).bind (foldOpt Build.span b)
  | 5 => b.table r.2.2
  | 6 => some b
  | _ => if r.2.1 = 1 then some b else none

/-! ## The span tree (R66, R115) -/

/-- Ancestors of a node, itself included, within the depth. -/
def pathUp (l : List SpanNode) : Nat → SpanNode → List Nat
  | 0, x => [x.num]
  | d + 1, x => match x.parent.bind (fun p => l.find? (fun y => y.num == p)) with
    | none => [x.num]
    | some y => x.num :: pathUp l d y

/-- The nodes break R66. -/
def treeBad (l : List SpanNode) (chans : List Nat) : Bool :=
  let nums := l.map (·.num)
  let leaves := l.filterMap (·.chan)
  decide (nums.eraseDups.length ≠ nums.length) || decide ((l.filter (fun x => x.parent.isNone)).length ≠ 1) ||
  decide (leaves.eraseDups.length ≠ leaves.length) || !chans.all leaves.contains ||
  l.any (fun x =>
    let kids := l.filter (fun y => y.parent == some x.num)
    decide (32 < kids.length) || decide ((kids.map (·.rank)).eraseDups.length ≠ kids.length) || (x.chan.isSome && !kids.isEmpty) ||
    x.parent.any (fun p => !nums.contains p) || decide (6 < (pathUp l 6 x).length))

/-- The mirror windows of a lead break R115. -/
def State.mirrorsBad (t : State) : Bool :=
  let fs := t.setFollowers
  let lo := fun (k : Nat) => t.rd (R.SET_FOLLOW_MAP_SPAN_BASE k)
  let hi := fun (k : Nat) => lo k + t.rd (R.SET_FOLLOW_MAP_SPAN_COUNT k)
  fs.any (fun k => decide (4096 < hi k) || t.spans.nodes.any (fun x => decide (lo k ≤ x.num ∧ x.num < hi k)) ||
    fs.any (fun j => j != k && decide (lo k < hi j ∧ lo j < hi k)))

/-! ## Channels (R223, R275) -/

/-- The columns of a channel. -/
def State.xEnd (t : State) (c : Nat) : Nat := t.cf (R.CH_POS_XPOS c) + t.chWidth c

/-- Channel `d` matches the right seam of `c` (R223). -/
def State.seamMatch (t : State) (c d : Nat) : Bool :=
  let w := t.cf (R.CH_POS_SEAM_R c)
  c != d && t.cf (R.CH_POS_XPOS d) + w == t.xEnd c && t.cf (R.CH_POS_SEAM_L d) == w &&
    t.cf (R.CH_CFG_SEAMPAT c) == t.cf (R.CH_CFG_SEAMPAT d)

/-- The channels of a bar break R223. -/
def State.seamsBad (t : State) (b : Nat) : Bool :=
  let cs := t.barChannels b
  cs.any (fun c =>
    let l := t.cf (R.CH_POS_SEAM_L c)
    let r := t.cf (R.CH_POS_SEAM_R c)
    decide (262144 < t.xEnd c) || decide (64 < l ∨ 64 < r) || decide (t.chWidth c < 2 * l ∨ t.chWidth c < 2 * r) ||
    (r != 0 && (cs.filter (t.seamMatch c)).length != 1) ||
    (l != 0 && !cs.any (fun d => t.cf (R.CH_POS_SEAM_R d) == l && t.seamMatch d c)) ||
    cs.any (fun d => decide (c < d) &&
      (let shared := min (t.xEnd c) (t.xEnd d) - max (t.cf (R.CH_POS_XPOS c)) (t.cf (R.CH_POS_XPOS d))
       let seam := (if t.cf (R.CH_POS_SEAM_R c) != 0 && t.seamMatch c d then t.cf (R.CH_POS_SEAM_R c) else 0) +
         (if t.cf (R.CH_POS_SEAM_R d) != 0 && t.seamMatch d c then t.cf (R.CH_POS_SEAM_R d) else 0)
       decide (seam < shared))))

/-- The lanes of the channels break R275. -/
def State.lanesBad (t : State) : Bool :=
  let cs := t.channels
  let off := fun (n : Nat) => t.cf (R.HL_CFG_EN n) != 1
  cs.any (fun c => off (t.cf (R.CH_LANE_HOME c)) || (t.cf (R.CH_LANE_DUPLEX c) == 1 &&
    (off (t.cf (R.CH_LANE_SECOND c)) || t.cf (R.CH_LANE_SECOND c) == t.cf (R.CH_LANE_HOME c)))) ||
  (List.range 16).any (fun n =>
    let slots := (t.slots n).map (fun (e : Nat × Nat × Bool) => e.2.1)
    decide (32 < slots.length) || decide (slots.eraseDups.length ≠ slots.length))

/-! ## Bars, gates, cameras, inks (R14, R289, R306, R317, R343) -/

/-- The gates break R289. -/
def State.gatesBad (t : State) : Bool :=
  (List.range 4).any (fun g => t.flag (R.GATE_CFG_EN g) && (t.rd (R.MFP_CFG_FUNC (12 + g)) != 0x28 || t.rd (R.GATE_CFG_BARS g) == 0)) ||
  (List.range 4).any (fun g => (List.range 4).any (fun h => decide (g < h) &&
    (t.rd (R.GATE_CFG_BARS g) &&& t.rd (R.GATE_CFG_BARS h)) != 0))

/-- The geometry of a bar's channels, for the comparison of R306. -/
def State.geometry (t : State) (b : Nat) : List (List Nat) :=
  (t.barChannels b).map (fun c => [t.cf (R.CH_POS_XPOS c), t.chWidth c, t.rows c, t.chDelay c, t.cf (R.CH_POS_SEAM_L c), t.cf (R.CH_POS_SEAM_R c)])

/-- The darning settings of a bar break R306. -/
def State.darnBad (t : State) (b : Nat) : Bool :=
  let p := t.rd (R.BAR_DARN_PARTNER b)
  (t.flag (R.BAR_DARN_PARTNER_EN b) && (t.rd (R.BAR_DARN_PARTNER p) != b || !t.flag (R.BAR_DARN_PARTNER_EN p) ||
    t.rd (R.BAR_FORM_RM_PAT b) != t.rd (R.BAR_FORM_RM_PAT p) || t.geometry b != t.geometry p ||
    !t.flag (R.BAR_FORM_RM_EN b) || !t.flag (R.BAR_FORM_RM_EN p) || t.rd (R.BAR_FORM_RM_PHASE b) == t.rd (R.BAR_FORM_RM_PHASE p))) ||
  (t.flag (R.BAR_DARN_COMP_EN b) && t.rd (R.BAR_DARN_COMP b) == b)

/-- A pipeline breaks R317. -/
def State.camBad (t : State) (n : Nat) : Bool :=
  let trig := t.rd (R.CP_CFG_TRIG n)
  t.flag (R.CP_CFG_EN n) &&
  (((trig == 1 || trig == 2) && (!t.flag (R.ENCOUT_CFG_FORM (trig - 1)) || decide (2 ≤ t.rd (R.ENCOUT_CFG_SRC (trig - 1))))) ||
    (trig != 0 && !t.flag (R.CP_CFG_KIND n) && !(List.range 16).any (fun m => t.rd (R.MFP_CFG_FUNC m) == 0x20 + n)) ||
    (trig == 0 && (t.flag (R.CP_S0_EN n) || t.flag (R.CP_S1_EN n) || t.flag (R.CP_S3_EN n))))

/-- The inks break R343. -/
def State.inksBad (t : State) : Bool :=
  let on := (List.range 8).filter (fun k => t.flag (R.INK_CFG_EN k))
  let bars := fun (k : Nat) => (List.range 16).filter (fun b => bit (t.rd (R.INK_CFG_BARS k)) b)
  on.any (fun k => (bars k).isEmpty || (bars k).any (fun b => !t.historyBar b) ||
    (bars k).any (fun b => (bars k).any (fun c => t.root false b != t.root false c || t.effDiv false b != t.effDiv false c)) ||
    on.any (fun j => decide (k < j) && (t.rd (R.INK_CFG_BARS k) &&& t.rd (R.INK_CFG_BARS j)) != 0))

/-! ## HBM (R15, R133, R341) -/

/-- KiB of the rings and field areas of all bars. -/
def State.ringKib (t : State) : Nat :=
  ((List.range 16).map (fun b => t.cf (R.BAR_RING_DEPTH b) * t.cf (R.BAR_RING_LINE_KIB b) + t.cf (R.BAR_FIELD_KIB b))).sum

/-- Bins of a bar's history. -/
def State.histBins (t : State) (b : Nat) : Nat :=
  ((maxOf ((t.barChannels b).map t.xEnd) - t.cf R.IRON_CFG_HORG) + t.binWidth - 1) / t.binWidth

/-- 4 KiB units held for the history and the accumulators: the spec does not size the accumulators of R347, so their part is open. -/
def State.histUnits (t : State) : Nat :=
  let h := (((List.range 16).filter t.historyBar).map (fun b => t.histBins b * t.cf R.IRON_DEPTH_ROWS)).sum
  (h + 4095) / 4096 + (if t.inks.isEmpty then 0 else t.draw 92)

/-- 4 KiB units below the job store, and its length; staging is the top 12 MiB of 15 GiB. -/
def State.layout (t : State) : Nat × Int :=
  let base := (t.ringKib + 3) / 4 + t.cf R.REPEAT_POOL_SIZE + t.histUnits
  (base, (0x3C0000000 - 0xC00000) / 4096 - base)

/-! ## The checks after END -/

/-- A generator's SRC, EN or ratio rules, judged on the whole. -/
def State.sourcesBad (t : State) : Bool :=
  (List.range 16).any (fun k =>
    t.srcBad k (t.rd (R.TG_CFG_SRC k)) || t.lgBad k || t.phiBad k || t.ringShort k || t.rd (R.TG_LEAD_WARN_LINES k) == 0)

/-- Rules of single blocks that name several registers. -/
def State.blocksBad (t : State) : Bool :=
  (List.range 2).any (fun n => t.flag (R.ENC_CFG_ZEN n) && t.rd (R.ENC_IDX_NOM_NOM n) == 0) ||
  (List.range 16).any t.setBad ||
  (List.range 4).any (fun n => decide (t.rd (R.CP_GEOM_WIDTH n) < t.rd (R.CP_S1_X0 n) + t.rd (R.CP_S1_W n))) ||
  t.rd R.EVD_CFG_CHUNK % 4 != 0 || decide (t.rd (R.NP_CFG_FRAME (t.rd R.EVD_CFG_NP)) < t.rd R.EVD_CFG_CHUNK + 78) ||
  (t.flag (R.PI_CFG_EN 0) && t.flag (R.PI_CFG_EN 1) && t.sharePort) ||
  (List.range 4).any (fun k => decide (t.rd (R.TB_JUMP_US k) < t.rd (R.TB_CFG_STEP k)) || (t.rd (R.TB_ADJ_RATE k) != 0 && t.tbHeld k)) ||
  [R.LFCNT_MIN, R.BAR_HEADLIM].any (fun r => (List.range 16).any (fun k => t.finalBad (r k))) ||
  (List.range 4).any (fun p => t.pulseBad p)

/-- A TABLE record names a location the host may not write, or a value the location refuses. -/
def State.tableBad (t : State) (e : Nat × Word) : Bool :=
  (t.tableMask e.1).isNone || t.tableRefused e.1 e.2

/-- The configuration that the records have built is invalid (R66). -/
def Build.bad (b : Build) : Bool :=
  let t := b.s
  (if b.nodes.isEmpty then !t.channels.isEmpty else treeBad b.nodes t.channels) || t.mirrorsBad ||
  decide (1048576 < t.allNozzles) || t.sourcesBad || t.blocksBad || t.lanesBad || t.gatesBad || t.inksBad ||
  (List.range 16).any (fun k => t.seamsBad k || t.darnBad k) || (List.range 4).any t.camBad || decide (t.layout.2 < 0) ||
  b.tables.any t.tableBad

/-- The job store is laid out (R133), and the repeat pool is free. -/
def State.layOut (t : State) : State :=
  let l := t.layout
  ((((t.wr R.JOB_BASE_BASE l.1).wr R.JOB_SIZE_SIZE l.2.toNat).wr R.IRON_HIST_SIZE_SIZE t.histUnits).wr R.REPEAT_FREE_SIZE
    (t.cf R.REPEAT_POOL_SIZE)).drawn

/-- A channel is in intake mode as its MODE field says. -/
def State.intakes (t : State) : State :=
  (List.range 16).foldl (fun (u : State) n => if u.flag (R.DMA_CFG_MODE n) then u.wr (R.DMA_STATUS_STATE n) dmaIntake else u) t

/-- Applies the body of an image to a state whose fields all have their fixed values: none when it is invalid at any check. -/
def State.applyImage (s : State) (body : List Byte) : Option State :=
  match recordsOf (body.length + 1) body with
  | none => none
  | some rs =>
    (foldOpt Build.record { s := s } rs).bind (fun b =>
      let t := { b.s with conf := b.s.regs, spans := { b.s.spans with nodes := b.nodes } }
      let c := { b with s := t }
      if c.bad then none
      else
        let m := b.tables.foldl (fun (x : State) e => x.setWord e.1 (e.2 &&& BitVec.ofNat 32 ((t.tableMask e.1).getD 0))) t
        let u := m.layOut.intakes
        if (List.range 64).any (fun k => u.dataWin k && u.windowBad k) then none else some u)

end Sys2Proof.Machine
end

