-- ==== Sys2Proof/Machine/DawnOps.lean ====
section
/-! DEFINITION. Dawn (R67 to R75, R156, R200, R282, R304, R357, R379, R387, R418, R433, R451, R453, R455 to R457, R465). -/

namespace Sys2Proof.Machine

/-! ## The newest journal record (R451) -/

/-- The bytes of a journal slot, once its MAGIC is right. -/
def State.recordAt (s : State) (slot : Nat) : Option (List Byte) :=
  let a := s.journalBase + 512 * slot
  if le (s.flashRead a 3) 0 3 = 0x014B4A then some (s.flashRead a 512) else none

/-- A record's form, GEN and CRC are good. -/
def recordGood (b : List Byte) : Bool :=
  decide (1 ≤ le b 4 4 ∧ le b 4 4 ≤ 0xFFFFFFFE) && le b 0x1FC 4 == crc32 (b.take 0x1FC)

/-- The valid record of this module in a slot. -/
def State.ownRecord (s : State) (slot : Nat) : Option (List Byte) :=
  (s.recordAt slot).filter (fun b => recordGood b && le b 8 8 == Config.dieId.toNat)

/-- A record that is valid but for its DIE_ID. -/
def State.foreignRecord (s : State) (slot : Nat) : Bool :=
  (s.recordAt slot).any (fun b => recordGood b && le b 8 8 != Config.dieId.toNat)

/-- The slot of highest GEN among some, with its record. -/
def State.bestRecord (s : State) (slots : List Nat) : Option (Nat × List Byte) :=
  slots.foldl (fun best k => match s.ownRecord k, best with
    | none, b => b
    | some r, none => some (k, r)
    | some r, some x => if le x.2 4 4 < le r 4 4 then some (k, r) else some x) none

/-- The newest valid record: the block by its first records, then the record in it. -/
def State.newestRecord (s : State) : Option (Nat × List Byte) :=
  (s.bestRecord ((List.range 64).map (128 * ·))).bind (fun e => s.bestRecord ((List.range 128).map (e.1 + ·)))

/-- The offsets of the counts the island takes (R450). -/
def islandCount (off : Nat) : Bool := off == 0x018 || off == 0x024 || decide (0x080 ≤ off ∧ off < 0x0A4)

/-- The counts of the record become the base; those of the island go on while VAUX is kept (R450, R451). -/
def State.lifeRestore (s : State) (fresh : Bool) : State :=
  match s.newestRecord with
  | none => { (s.wr R.LIFE_STATUS_FRESH 1).wrB R.LIFE_STATUS_FOREIGN ((List.range 64).any (fun k => s.foreignRecord (128 * k))) with
      life := [], lifeRem := [], therm := { s.therm with tSeen := false, vSeen := false } }
  | some (slot, b) =>
    let life := lifeRows.foldl (fun (l : Sparse Nat) r =>
      if islandCount r.1 then (if fresh then Sparse.set 0 l r.1 (min (2 ^ (8 * r.2) - 1) (Sparse.get 0 l r.1 + le b r.1 r.2)) else l)
      else Sparse.set 0 l r.1 (le b r.1 r.2)) s.life
    let ext := if fresh then Sparse.set 0 (Sparse.set 0 life 0x0A0 (le b 0x0A0 2)) 0x0A2 (le b 0x0A2 2) else life
    let t := (s.wr R.LIFE_POS_SLOT slot).wr R.LIFE_GEN_GEN (le b 4 4)
    { t with
      life := ext, therm := { s.therm with tSeen := true, vSeen := true }
      nvm := { s.nvm with jNext := (slot / 128 + 1) % 64 * 128 } }

/-- One Dawn is counted (R448). -/
def State.countDawn (s : State) (cause : Nat) : State :=
  let s1 := (s.lifeAdd 0x028 4 1).lifeAdd 0x1A8 4 1
  if cause ≤ 5 then s1.lifeAdd (0x02C + 2 * cause) 2 1 else s1.lifeAdd 0x072 2 1

/-- The island's trip register is shown, and a new trip recorded (R433). -/
def State.tripShow (s : State) (p : Power) : State :=
  let s1 := ((s.wr R.THERM_LAST_TRIP_KIND p.tripKind).wr R.THERM_LAST_TRIP_SENSOR p.tripSensor).wrI R.THERM_LAST_TRIP_TEMP p.tripTemp
  let s2 := (s1.wr R.THERM_COUNTS_TRIPS p.trips).wr R.THERM_COUNTS_BACKSTOPS p.backstops
  if p.tripNew then
    let s3 := s2.lifeAdd (if p.tripKind = 2 then 0x076 else 0x074) 2 1
    { s3 with life := Sparse.set 0 s3.life 0x1B0 (s3.word R.THERM_LAST_TRIP).toNat }
  else s2

/-! ## What Dawn starts from (steps 0 to 5) -/

/-- The state after steps 0 to 3: every field at its fixed value; the island's counts, the flash, the time bases and what stands outside
the core are kept (R8, R71, R200, R379, R463). -/
def State.dawnBase (s : State) (d : DawnIn) : State :=
  let p := s.pow
  let cause := if p.fresh then 0 else p.cause
  let b : State := {
    time := s.time, flash := s.flash, out := s.out, free := s.free, pending := s.pending, jtag := s.jtag, life := s.life
    lifeRem := s.lifeRem, mem := { trainFrom := s.time }, tbs := s.tbs.map (fun e => (e.1, { e.2 with rate := 0, rates := [] }))
    nvm := { lastHostFault := s.nvm.lastHostFault, lastPeriodic := s.nvm.lastPeriodic, windowShut := s.nvm.windowShut, stLast := s.time }
    therm := { hot := s.therm.hot, hotSensor := s.therm.hotSensor, isl := s.therm.isl, islSensor := s.therm.islSensor
               tripSince := s.therm.tripSince, tSeen := s.therm.tSeen, vSeen := s.therm.vSeen }
    pow := { p with
      phase := .day, fresh := false, cause := 0, restart := false, scanOpen := false, wipeStep := 0, dipLost := false, tripNew := false
      lastBusy := s.time } }
  let b1 := ((((b.wr R.NVM_INFO_SIZE_LOG2 d.sizeLog2).wrB R.NVM_INFO_ADDR4 d.addr4).wrB R.NVM_INFO_SUSPEND d.suspend).wr
    R.NVM_INFO_SCK_MHZ d.sckMhz.toNat).wr R.PINS_VIO_CLASS (if d.vioMv < 2300 then 0 else 1)
  let b2 := ((b1.wr R.DAWN_CAUSE_CAUSE cause).wr R.DAWN_TIME_US d.us).lifeRestore p.fresh
  let b3 := (b2.countDawn cause).tripShow p
  let b4 := if p.scanOpen then b3.lifeAdd 0x1AE 2 1 else b3
  if p.dipLost then b4.binDip 7 else b4

/-- ENC0 after Dawn (R200): the island count while VAUX was kept, else 0. -/
def State.dawnEnc (b s : State) : State :=
  let pos := if s.pow.fresh then 0 else s.pow.islEnc.toNat
  let b1 := ((b.setTrue 0 pos).setPrint 0 pos).wrB (R.ENC_STATUS_CONT 0) (!s.pow.fresh && s.flag (R.ENC_STATUS_CONT 0))
  let b2 := b1.onEnc 0 (fun e => { e with ext := pos, hist := [(s.time, pos)], a := (s.enc 0).a, b := (s.enc 0).b })
  b2.onEnc 1 (fun e => { e with hist := [(s.time, 0)], a := (s.enc 1).a, b := (s.enc 1).b })

/-- What Dawn BIST has found is recorded, and memory failures take their spares (R418, R456). -/
def State.dawnBist (b : State) (fails : List BistFail) : State :=
  fails.foldl (fun (t : State) (f : BistFail) =>
    let t1 := t.bistNote f.unit f.index f.sig.toNat
    if f.unit.val = 5 ∨ f.unit.val = 6 then t1.bistRemap f.unit (BitVec.ofNat 32 f.index) true else t1) b

/-- A failure of memory that no spare takes and correction cannot bear. -/
def State.memoryLost (b : State) (fails : List BistFail) : Bool :=
  fails.any (fun (f : BistFail) => (f.unit.val == 5 || f.unit.val == 6) && !f.singleBit &&
    b.mem.waiting.contains (if f.unit.val = 6 then 0 else 2, BitVec.ofNat 32 f.index))

/-! ## Slots and state store (step 5b) -/

/-- The header of a slot that meets R61. -/
def State.slotHeader (s : State) (k : Nat) : Option Header := (s.headerAt (s.slotBase k)).filter (fun h => h.good 1 s.bodyMax)

/-- The body behind a header, when its CRC is right. -/
def State.bodyAt (s : State) (a : Nat) (h : Header) : Option (List Byte) :=
  let b := s.flashRead (a + 0x1000) h.len
  if crc32 b = h.crc then some b else none

/-- Applies a slot's image; none when it is invalid (R67). -/
def State.applySlot (b : State) (k : Nat) : Option (Header × State) :=
  (b.slotHeader k).bind (fun h => ((b.bodyAt (b.slotBase k) h).bind b.applyImage).map (fun t => (h, t)))

/-- The slot Dawn tries first (R68). -/
def State.firstSlot (b : State) : Option Nat :=
  match b.slotHeader 0, b.slotHeader 1 with
  | some x, some y => some (if x.gen < y.gen then 1 else 0)
  | some _, none => some 0
  | none, some _ => some 1
  | none, none => none

/-- What applying an image has come to: the slot, whether it is the second tried, its header, the state it built. -/
structure Applied where
  slot : Nat
  second : Bool
  header : Header
  s : State
  deriving DecidableEq, Repr

/-- Tries the slots in order (R68). -/
def State.tryImages (b : State) : Option Applied :=
  b.firstSlot.bind (fun k => match b.applySlot k with
    | some (h, t) => some ⟨k, false, h, t⟩
    | none => (b.applySlot (1 - k)).map (fun e => ⟨1 - k, true, e.1, e.2⟩))

/-- NVM_SLOTS, GEN_A, GEN_B and the untried slot after an image has been applied (R465). -/
def State.showSlots (s b : State) (x : Applied) : State :=
  let other := 1 - x.slot
  let s1 := s.setSlot x.slot x.header.gen true
  match (if x.second then none else b.slotHeader other) with
  | some h => ((s1.setSlot other h.gen true).wr R.NVM_SLOTS_OTHER_CHK 0).onNvm (fun n => { n with untried := some other })
  | none => (s1.setSlot other 0 false).wr R.NVM_SLOTS_OTHER_CHK 1

/-- A valid state-store half: its header and its records. -/
def State.storeHalf (s : State) (h : Nat) : Option (Header × List (Nat × Nat × List Byte)) :=
  ((s.headerAt (s.storeBase h)).filter (fun x => x.good 2 0x3FF000)).bind (fun x =>
    ((s.bodyAt (s.storeBase h) x).bind (fun b => recordsOf (b.length + 1) b)).map (fun r => (x, r)))

/-- The newest valid half (R70). -/
def State.newestStore (s : State) : Option (Nat × Header × List (Nat × Nat × List Byte)) :=
  match s.storeHalf 0, s.storeHalf 1 with
  | some x, some y => if x.1.gen < y.1.gen then some (1, y) else some (0, x)
  | some x, none => some (0, x)
  | none, some y => some (1, y)
  | none, none => none

/-! ## The overlay (step 6, R70) -/

/-- One entry of MENDING (R299, R304). -/
def State.restoreMend (s : State) (e : List Byte) : State :=
  let w := le e 0 4
  let n := bits w 0 20
  if s.allNozzles ≤ n ∨ s.listed n ∨ 16384 ≤ s.darn.list.length then s
  else s.onDarn (fun d => { d with list := d.list ++ [{
    nozzle := n, source := bits w 20 3, pinned := bit w 23, ambig := bit w 24, method := bits w 25 3, passes := bits w 28 4, listed := le e 4 4 }] })

/-- One entry of GATE_TRIMS (R296, R304). -/
def State.restoreGate (s : State) (e : List Byte) : State :=
  let g := le e 0 1
  if 4 ≤ g ∨ 8 ≤ (s.gate g).sets.length then s
  else s.onGate g (fun x => { x with sets := x.sets ++ [⟨signed 16 (le e 2 2), le e 4 2, le e 6 1, le e 8 2⟩] })

/-- The learnt gains (R357). -/
def State.restoreGains (s : State) (v : List Byte) : State :=
  (List.range (min (le v 0 4) s.allNozzles)).foldl (fun (t : State) n =>
    let g := le v (4 + n) 1
    if g < 0x40 ∨ 0xC0 < g then t
    else t.setWord (ironAddr n) (BitVec.ofNat 32 (withBits (t.word (ironAddr n)).toNat 0 8 g))) s

/-- REG and LAT of a bar (R357). -/
def State.restoreReg (s : State) (b : Nat) (e : List Byte) : State :=
  let reg := signed 16 (le e 0 2)
  let lat := signed 8 (le e 2 1)
  let s1 := if s.regFits b (s.rd (R.TG_DELAY_PHI b)) reg then s.wrI (R.TG_REG_REG b) reg else s
  if -8 ≤ lat ∧ lat ≤ 8 then s1.wrI (R.BAR_LAT_LAT b) lat else s1

/-- One remap entry: `c` 0 HBM, 2 SRAM; an address that BIST has remapped too keeps one entry (R418). -/
def State.restoreRemap (s : State) (c : Nat) (e : List Byte) : State :=
  let a := BitVec.ofNat 32 (le e 0 4)
  if (if c = 0 then s.mem.hbmMap else s.mem.sramMap).any (fun (x : Word × Bool) => x.1 == a) then s
  else if s.canRemap c a then s.remap c a (bit (le e 5 1) 0) else s.remapFull c a

/-- One entry of LANE_TRIMS (R282). -/
def State.restoreTrim (s : State) (e : List Byte) : State :=
  let lane := le e 1 1
  let t : TrimSet := ⟨signed 16 (le e 2 2), le e 4 2,
    [(le e 6 1 : Int), signed 8 (le e 7 1), (le e 8 1 : Int)] ++ (List.range 5).map (fun i => signed 6 (le e (9 + i) 1)), le e 14 2⟩
  if le e 0 1 = 0 then
    if 16 ≤ lane ∨ s.cf (R.HL_CFG_EN lane) ≠ 1 ∨ 8 ≤ (s.lane lane).rx.sets.length then s
    else s.onLane lane (fun l => { l with rx := { l.rx with sets := l.rx.sets ++ [t] } })
  else if 4 ≤ lane ∨ s.cf (R.CL_CFG_EN lane) ≠ 1 ∨ t.rate ≠ s.cf (R.CL_CFG_MBAUD lane) ∨
      8 ≤ (Sparse.get ({} : Rx) s.camRx lane).sets.length then s
  else { s with camRx := Sparse.upd {} s.camRx lane (fun x => { x with sets := x.sets ++ [{ t with trims := t.trims.take 3 }] }) }

/-- One entry of KEYS (R156): dropped when its tag fails or its slot appears a second time. -/
def State.restoreKey (s : State) (e : List Byte) : State :=
  let k := le e 0 1
  let c := (e.drop 0x10).take 32
  let iv := (e.drop 4).take 12
  if 8 ≤ k ∨ bit (s.rd R.KEY_VALID_SLOTS) k ∨ gcmTag wrapKey iv (e.take 4) c ≠ (e.drop 0x30).take 16 then s
  else State.wr { s with keys := Sparse.put s.keys k (gcmCrypt wrapKey iv c) } R.KEY_VALID_SLOTS (s.rd R.KEY_VALID_SLOTS ||| 2 ^ k)

/-- The entries of a record from an offset, `k` bytes each. -/
def entriesOf (k off : Nat) (v : List Byte) : List (List Byte) := groups k ((v.length - off) / k) ((v.drop off).take ((v.length - off) / k * k))

/-- One record of the store, under the FLAGS of the image applied (R70). -/
def State.overlay (flags : Nat) (s : State) (r : Nat × Nat × List Byte) : State :=
  let v := r.2.2
  match r.1 with
  | 0x8010 => if bit flags 1 then s else
      let t := ((entriesOf 8 4 v).take (le v 0 4)).foldl State.restoreMend s
      t.wr R.MEND_COUNT_ENTRIES t.darn.list.length
  | 0x8011 => (entriesOf 12 0 v).foldl State.restoreGate s
  | 0x8020 => if bit flags 0 then s else s.restoreGains v
  | 0x8021 => if bit flags 0 then s else ((entriesOf 4 0 v).take 16).zipIdx.foldl (fun (t : State) e => t.restoreReg e.2 e.1) s
  | 0x8030 =>
    let h := le v 0 2
    let es := entriesOf 8 4 v
    ((es.drop h).take (le v 2 2)).foldl (fun (t : State) e => t.restoreRemap 2 e) ((es.take h).foldl (fun (t : State) e => t.restoreRemap 0 e) s)
  | 0x8040 => (entriesOf 20 0 v).foldl State.restoreTrim s
  | 0x8050 => (entriesOf 64 0 v).foldl State.restoreKey s
  | _ => s

/-- The store is overlaid; without one STATE_LOST is set (R70, R73). -/
def State.restoreStore (s : State) (flags : Nat) : State :=
  match s.newestStore with
  | none => s.wr R.DAWN_CAUSE_STATE_LOST 1
  | some (h, x, rs) =>
    let t := rs.foldl (State.overlay flags) s
    ((t.wr R.NVM_SLOTS_ST_HALF h).wr R.STATE_GEN_GEN x.gen).onNvm (fun n => { n with stBody := t.storePlain })

/-! ## Lanes, sequencers, ports (step 7) -/

/-- A configured head lane comes up, or stays in DETECT. -/
def State.dawnLane (ups : List LaneUp) (s : State) (n : Nat) : State :=
  if !s.laneOn n then s
  else match ups.find? (fun (u : LaneUp) => u.lane.val == n) with
    | none => s.startDetect n
    | some u =>
      let s1 := s.capInfo n u.cap
      if s.capReason n u.cap ≠ 0 then s1.laneReject n (s.capReason n u.cap)
      else
        let s2 := ((((s1.setRate n (s.agreeRate n u.cap)).wr (R.HL_LAMBDA_PS n) u.lambda.toNat).wr (R.HL_STATE_CAL_OK n) 1).wr
          (R.HL_EYE_WIDTH n) u.eyeW.toNat).wr (R.HL_EYE_HEIGHT n) u.eyeH.toNat
        let s3 := (s2.onLane n (fun l => { l with
          cfgCrc := some (s.cfgCrc n), rateInUse := s.agreeRate n u.cap, calAt := some s.time
          phase := s2.draw 93 % s2.laneT n })).drawn
        s3.laneUp n

/-- A configured lane that is not ACTIVE at the end of step 7 is reported down, and its channels move (R73). -/
def State.dawnShort (s : State) (n : Nat) : State :=
  if s.cf (R.HL_CFG_EN n) = 1 ∧ s.laneState n ≠ laneActive then
    ((((s.wr R.DAWN_CAUSE_LANE_SHORT 1).onLane n (fun l => { l with lost := true })).condOn Ev.LANE_DOWN n (s.laneState n)).switchOver n false)
  else s

/-- The sequencers after Dawn BIST (R387). -/
def State.dawnSq (s : State) (bad : Nat → Bool) : State :=
  let p := if bad 0 then 1 else if bad 1 then 0 else s.rd R.SEQ_CFG_PREF
  let q := twinOf p
  let s1 := s.takeControl p
  s1.setSq q (if bad q then sqRetired else sqStandby)

/-- The units that Dawn BIST has failed, as R457 treats them. -/
def State.dawnUnits (s : State) (fails : List BistFail) : State :=
  fails.foldl (fun (t : State) (f : BistFail) =>
    let u := match f.unit.val with
      | 2 => ((t.wr (R.DX_CTRL_DRAIN f.index) 1).dxRest f.index)
      | 3 => t.wr (R.CX_CFG_ENABLE f.index) 0
      | 9 => t.wr R.TEST_STATE_NO_PRINT 1
      | 10 => t.wr R.TEST_STATE_NO_PRINT 1
      | _ => t
    u.raise Ev.BIST_FAIL f.unit.val f.sig.toNat) s

/-- Gates, cameras, time pulses, time bases, serial lists and followers begin. -/
def State.dawnBegin (s : State) : State :=
  let s1 := (List.range 4).foldl (fun (t : State) g => if t.gateOn g then t.gateSettle g else t) s
  let s2 := (List.range 4).foldl (fun (t : State) n =>
    let u := if t.cf (R.CL_CFG_EN n) = 1 ∧ !t.unitBad 8 n then t.wr (R.CL_STATUS_STATE n) 1 else t
    if u.cpOn n then u.wr (R.CP_STATUS_STATE n) 1 else u) s1
  let s3 := (List.range 4).foldl (fun (t : State) k =>
    if t.rd (R.TB_ADJ_RATE k) = 0 then t else t.tbRate k ((t.rdI (R.TB_ADJ_RATE k) : Rat) / 1000)) s2
  let s4 := (List.range 4).foldl (fun (t : State) p => if t.flag (R.TP_CFG_EN p) then t.tpArm p else t) s3
  let s5 := (List.range 4).foldl (fun (t : State) k =>
    if t.rdW (R.SL_PEND_LO_ADDR k) (R.SL_PEND_HI_ADDR k) = 0 then t else t.pendSerial k) s4
  let s6 := s5.setFollowers.foldl (fun (t : State) k => t.onFollower k (fun f => { f with at_ := s.time })) s5
  let s7 := s6.channels.foldl (fun (t : State) c => { t with reports := Sparse.set 0 t.reports c s.time }) s6
  s7.crossTrack.speedDemand

/-! ## The end of Dawn (step 8) -/

/-- The maintenance state (R74). -/
def State.toMaint (b : State) (why : Nat) : State :=
  let m := ((b.wr R.DAWN_CAUSE_MAINT 1).wr R.DAWN_CAUSE_MAINT_WHY why).wr R.NVM_SLOTS_OTHER_CHK 1
  m.onPow (fun p => { p with phase := .maint })

/-- Dawn completes in Day. -/
def State.toService (b : State) (x : Applied) (s : State) (d : DawnIn) : State :=
  let s1 := ((((x.s.wr R.IMAGE_GEN_GEN x.header.gen).wr R.DAWN_CAUSE_SLOT x.slot).wrB R.DAWN_CAUSE_FALLBACK x.second).showSlots b x).restoreStore
    x.header.flags
  let s2 := ((s1.timeResume d.islandUs s.pow.fresh).dawnSq (fun n => d.bist.any (fun (f : BistFail) => f.unit.val == n))).dawnUnits d.bist
  let s3 := (List.range 16).foldl (State.dawnLane d.lanes) s2
  let s4 := (List.range 16).foldl State.dawnShort s3
  let s5 := s4.dawnBegin.wrB R.DAWN_CAUSE_BIST_DEGRADED (!d.bist.isEmpty)
  let s6 := (s5.raise Ev.DAWN_COMPLETE).journalDue 2
  let w := (s6.word R.DAWN_CAUSE).toNat
  let s7 := if s6.flag R.DAWN_CAUSE_STATE_LOST ∨ s6.flag R.DAWN_CAUSE_LANE_SHORT ∨ s6.flag R.DAWN_CAUSE_BIST_DEGRADED then
    s6.raise Ev.DAWN_DEGRADED 0 w else s6
  let s8 := if s.pow.tripNew then s7.raise Ev.TRIP_RECORDED s.pow.tripKind (unsigned 32 s.pow.tripTemp) else s7
  (s8.keepErased (s8.nvm.jNext + 8064)).latchDawn

/-- Dawn (R71): everything from step 0 to step 8. -/
def State.dawn (s : State) (d : DawnIn) : State :=
  match d.hotTrip with
  | some (sensor, reading) => s.trip 1 sensor reading.toInt
  | none =>
    let b := ((s.dawnBase d).dawnEnc s).dawnBist d.bist
    let sq := fun (n : Nat) => d.bist.any (fun (f : BistFail) => f.unit.val == n)
    if b.memoryLost d.bist then b.toMaint 3
    else if sq 0 ∧ sq 1 then b.toMaint 2
    else match b.tryImages with
      | none => b.toMaint 1
      | some x => b.toService x s d

/-- Dawn may start: the core is off, or its supplies have returned, and VIO is valid (R38, R71). -/
def State.dawnMay (s : State) : Bool :=
  s.pow.vio && (match s.pow.phase with
    | .off => true
    | .shutdown => true
    | .noVaux => true
    | _ => false)

end Sys2Proof.Machine
end

