-- ==== Sys2Proof/Machine/MsgOps.lean ====
section
/-! DEFINITION. The management messages beside READ, WRITE and PUT: subscribers and acknowledgements (R99, R100), ABORT (R103,
R104), the NVM messages (R76, R77, R91), and SET_REPORT (R90, R91, R116). -/

namespace Sys2Proof.Machine

/-! ## Messages that are never answered (R90, R91) -/

/-- Serves a message that gets no reply: a version or a port that is wrong is answered all the same, a payload that is wrong is
discarded and counted (R89 to R91; assumption 6). -/
def State.serveQuiet (s : State) (m : Msg) (type : Nat) (okLen : Bool) (body : State → State) : State :=
  if !s.hears m.np 41002 then s
  else
    let s := s.inc (R.NP_RX_FRAMES_COUNT m.np)
    if s.discards m then s.inc R.MGMT_DISCARD_COUNT
    else if m.version ≠ 1 then s.answer m type false false Status.badVersion []
    else if m.dst.toNat ≠ 41002 then s.answer m type false false Status.badType []
    else if (s.stateRefusal ⟨type, 41002, false, okLen, 0, false, false⟩).isSome then s
    else if !okLen then s.inc R.MGMT_DISCARD_COUNT
    else body s

/-! ## Subscribers (R99, R100) -/

/-- The slot an address and port hold. -/
def State.slotOf (s : State) (ip : Word) (port : BitVec 16) : Option Nat :=
  (List.range 4).find? (fun k => s.rd (R.SUB_IP_IP k) != 0 && s.rd (R.SUB_IP_IP k) == ip.toNat &&
    s.rd (R.SUB_CFG_PORT k) == port.toNat)

/-- A SUBSCRIBE: the sender's slot, or the first free one, takes its masks and its network port. -/
def State.subscribe (s : State) (m : Msg) (payload : List Byte) : State × Nat × List Byte :=
  let masks := fun (t : State) (k : Nat) =>
    (((t.wr (R.SUB_CFG_CLASSES k) (le payload 0 1 % 8)).wr (R.SUB_CFG_NP k) m.np).wr (R.SUB_GROUPS_GROUPS k) (le payload 4 4 % 131072)).cfgWrite
  match s.slotOf m.ip m.port with
  | some k => (masks s k, Status.ok, leBytes 4 k)
  | none =>
    match (List.range 4).find? (fun k => s.rd (R.SUB_IP_IP k) == 0) with
    | none => (s, Status.noSlot, [])
    | some k => (masks (((s.wr (R.SUB_IP_IP k) m.ip.toNat).wr (R.SUB_CFG_PORT k) m.port.toNat).onSub k (fun _ => {})) k,
        Status.ok, leBytes 4 k)

/-- A slot is freed: its address is 0, its queue is gone. -/
def State.freeSlot (s : State) (k : Nat) : State := (s.wr (R.SUB_IP_IP k) 0).onSub k (fun _ => {})

/-- An UNSUBSCRIBE. -/
def State.unsubscribe (s : State) (m : Msg) : State :=
  match s.slotOf m.ip m.port with
  | some k => (s.freeSlot k).cfgWrite
  | none => s

/-- An EVENT_ACK: every event up to NUMBER leaves the sender's queue. -/
def State.eventAck (s : State) (m : Msg) (payload : List Byte) : State :=
  match s.slotOf m.ip m.port with
  | none => s
  | some k => s.onSub k (fun q => { q with queue := q.queue.filter (fun r => decide (le payload 0 4 < r.no)) })

/-- Unacknowledged events whose last sending is 100 ms old go again. -/
def State.resendEvents (s : State) (k : Nat) : State :=
  s.sendEvents k (fun r => r.sentAt.any (fun t => decide (t + usTicks 100000 ≤ s.time)))

/-- A slot has had an event pending without acknowledgement for SUB_TIMEOUT. -/
def State.dropDue (s : State) (k : Nat) : Bool :=
  s.rd (R.SUB_IP_IP k) != 0 && s.rd R.SUB_TIMEOUT_S != 0 &&
    (s.sub k).queue.head?.any (fun r => decide (r.t + 1000000000 * s.rd R.SUB_TIMEOUT_S ≤ s.tb2))

/-- The slot is freed, and the other slots are told. -/
def State.dropSub (s : State) (k : Nat) : State := (s.freeSlot k).raise Ev.SUBSCRIBER_DROPPED k (s.rd (R.SUB_IP_IP k))

/-! ## ABORT (R102 to R104) -/

/-- The STATUS of a unit's abort that was in time or not. -/
def State.abortEnd (r : State × Bool) : State × Nat := (r.1, if r.2 then Status.ok else Status.alreadyDone)

/-- ABORT of a head lane: BAD_TARGET, ALREADY_DONE, REFUSED_STATE for the last lane of its channels, or done. -/
def State.abortLane (s : State) (n : Nat) : State × Nat :=
  if 16 ≤ n ∨ !s.laneOn n then (s, Status.badTarget)
  else if !s.laneServes n then (s, Status.alreadyDone)
  else if s.lastLane n then (s, Status.refusedState)
  else (s.laneAbort n, Status.ok)

/-- ABORT of a sequencer (R400): the active one gives up with cause ABORT, and HOLD is set. -/
def State.abortSeq (s : State) (n : Nat) : State × Nat :=
  if 2 ≤ n then (s, Status.badTarget)
  else if s.sqState n ≠ sqActive then (s, Status.alreadyDone)
  else if !s.sqForms (twinOf n) then (s, Status.refusedState)
  else ((s.giveUp n 5).wr R.SEQ_STATE_HOLD 1, Status.ok)

/-- ABORT of a piece. -/
def State.abortPc (s : State) (num : Nat) : State × Nat :=
  if (s.piece num).isSome then (s.abortPiece num 0x20, Status.ok)
  else if (s.inUse num).isSome then (s, Status.alreadyDone)
  else (s, Status.badTarget)

/-- ABORT of a unit (R103). -/
def State.abortUnit (s : State) (unit n : Nat) : State × Nat :=
  match unit with
  | 1 => if n < 16 then s.dmaAbort n else (s, Status.badTarget)
  | 2 => if n < 16 then State.abortEnd (s.dxAbort n) else (s, Status.badTarget)
  | 3 => if n < 4 ∧ (s.flag (R.CX_CFG_ENABLE n) ∨ (s.cxu n).cur.isSome) then State.abortEnd (s.cxAbort n) else (s, Status.badTarget)
  | 4 => if n < 4 ∧ s.cpOn n then State.abortEnd (s.camAbort n) else (s, Status.badTarget)
  | 5 => s.abortLane n
  | 6 => s.abortSeq n
  | 7 => s.abortPc n
  | _ => (s, Status.badTarget)

/-- Serves an ABORT message. -/
def State.serveAbort (s : State) (m : Msg) (payload : List Byte) : State :=
  s.serve m ⟨0x30, 41002, true, payload.length == 8, 0, false, false⟩ (fun t =>
    let r := t.abortUnit (le payload 0 1) (le payload 4 4)
    (r.1, r.2, []))

/-- The payload of an ABORT that names a unit. -/
def abortOf (unit : Nat) (index : Word) : List Byte := leBytes 1 unit ++ leBytes 3 0 ++ leBytes 4 index.toNat

/-! ## The NVM messages (R76, R77, R91) -/

/-- NVM_DATA: the bytes go into the staging area. -/
def State.stage (s : State) (payload : List Byte) : State × Nat × List Byte :=
  let off := le payload 0 4
  let d := payload.drop 4
  let t := s.toDay
  if t.committing then (t, Status.nvmBusy, [])
  else if 0xC00000 < off + d.length then (t, Status.stageRange, [])
  else
    (((t.hbmWrite (stageBase + off) d).wr R.STAGE_LEN_BYTES (max (t.rd R.STAGE_LEN_BYTES) (off + d.length))).wr R.NVM_OP_OP 1,
      Status.ok, [])

/-- The staged body passes R61 and R63 to R66. -/
def State.bodyOk (s : State) (len flags : Nat) (body : List Byte) : Bool :=
  len % 4 == 0 && decide (8 ≤ len ∧ len ≤ s.bodyMax ∧ flags < 4) &&
    (({ free := s.free, time := s.time } : State).applyImage body).isSome

/-- NVM_COMMIT: the checks, then the commit starts. -/
def State.commit (s : State) (payload : List Byte) : State × Nat × List Byte :=
  let len := le payload 0 4
  let flags := le payload 8 2
  let body := s.hbmRead stageBase (min len 0xC00000)
  if s.committing then (s, Status.nvmBusy, [])
  else if 0xC00000 < len ∨ crc32 body ≠ le payload 4 4 then (s.nvmFail R.NVM_ERR_CRC_MISMATCH Ev.CRC_MISMATCH, Status.crcMismatch, [])
  else if !s.bodyOk len flags body then (s.nvmFail R.NVM_ERR_IMAGE_INVALID Ev.IMAGE_INVALID, Status.imageInvalid, [])
  else if 0xFFFFFFFF ≤ s.newGen then ((s.wr R.NVM_ERR_GEN_EXHAUSTED 1).raise Ev.GEN_EXHAUSTED, Status.genExhausted, [])
  else
    let gen := s.newGen
    let c : Commit := ⟨.idle, s.commitTarget, gen, len, BitVec.ofNat 32 (le payload 4 4), flags, (payload.drop 12).take 16, false⟩
    let s1 := s.onNvm (fun n => { n with commit := c })
    (((s1.wr R.NVM_OP_TARGET s.commitTarget).wr R.STAGE_LEN_BYTES 0).cfgWrite.commitTo .eraseHeader, Status.ok, leBytes 4 gen)

/-- Where a region of NVM_READ begins in the flash, and its bytes. -/
def State.region (s : State) (k : Nat) : Nat × Nat := if k = 2 then (s.journalBase, 0x400000) else (s.slotBase k, s.slotSize)

/-- NVM_READ. -/
def State.nvmRead (s : State) (payload : List Byte) : Nat × List Byte :=
  let k := le payload 0 1
  let off := le payload 4 4
  let n := le payload 8 4
  if 2 < k ∨ (s.region k).2 < off + n then (Status.stageRange, [])
  else (Status.ok, leBytes 4 off ++ leBytes 4 n ++ s.flashRead ((s.region k).1 + off) n)

/-! ## SET_REPORT (R90, R91, R116) -/

/-- Serves a SET_REPORT: taken from a configured follower, BAD_TYPE from anyone else. -/
def State.serveReport (s : State) (m : Msg) (payload : List Byte) : State :=
  match s.followerOf m.ip with
  | some k => s.serveQuiet m 0x50 (payload.length == 68) (fun t => t.reportIn k payload)
  | none => s.serve m ⟨0x50, 41002, false, true, 0, true, true⟩ (fun t => (t, Status.badType, []))

end Sys2Proof.Machine
end

