-- ==== Sys2Proof/Machine/Bars.lean ====
section
/-! DEFINITION. Markers, late and blank lines, mode changes, the common stop and the rinse windows (chapter 08, R285 to R288). -/

namespace Sys2Proof.Machine

/-- A sequencer's internal check trips: it gives up with cause CHECK (R394). -/
def State.checkTrip (s : State) (n : Nat) (trips : Bool) : State :=
  if trips ∧ s.sqForms n then (s.inc (R.SQ_CHECKS_COUNT n)).giveUp n 2 else s

/-- FORM_POINT (R209): the line after that of the trigger the bar's generator has raised. -/
def execFormPoint (bar : Fin 16) (evs : List MemEv) (checks : BitVec 2) (s : State) : Outcome :=
  match (if s.awake || s.pow.phase == .nightEntry then (s.tg bar).trig else none) with
  | none => .next s
  | some tr =>
    let s1 := s.formLine bar tr evs
    ((s1.checkTrip 0 (bit checks.toNat 0)).checkTrip 1 (bit checks.toNat 1)).headStop.done

/-- MODE_APPLIED (R206): at once while the bar is idle; at a piece boundary the form point applies it. -/
def execModeApplied (k : Fin 16) (s : State) : Outcome :=
  if s.awake ∧ s.barIdle k ∧ s.modePending k then (s.applyMode k).done else .next s

/-- LAT_APPLY (R226): while the bar is idle, or at the boundary of a piece that begins with the next line. -/
def execLatApply (bar : Fin 16) (s : State) : Outcome :=
  let l := s.lineCount bar + 1
  if s.awake ∧ (s.barIdle bar ∨ !(s.beginning bar l).isEmpty) then (s.applyLat bar l).done else .next s

/-- The planned marker whose departure has come. -/
def State.departing (s : State) (lane bar count ord : Nat) : Option Marker :=
  match (if s.awake then s.planned lane bar count ord else none) with
  | none => none
  | some m => if s.departs lane m < 5000 * (s.time + 1 : Nat) then some m else none

/-- MARKER_DEPART (R213); where only the standby's copy of a frame is complete it is forwarded, and the active sequencer takes a
strike (R388, R391). -/
def execMarkerDepart (lane bar : Fin 16) (count : Nat) (ord : Fin 32) (lag : Bool) (s : State) : Outcome :=
  match s.departing lane bar count ord with
  | none => .next s
  | some m =>
    let s1 := s.markerLeaves lane m 0
    (if lag ∧ s1.sqForms 0 ∧ s1.sqForms 1 then s1.strike (s1.rd R.SEQ_STATE_ACTIVE) else s1).done

/-- The line of a bar in flight. -/
def State.flight (s : State) (bar count : Nat) : Option Flight := s.flights.find? (fun x => x.bar == bar && x.count == count)

/-- The late window of a line in ticks (R214). -/
def State.lateWin (s : State) (x : Flight) : Nat := s.rd R.LATE_WIN_WIN * x.lp / 65536

/-- The history rows that a line in flight was counted into. -/
def State.rowsOf (s : State) (x : Flight) : List Nat :=
  (((s.tg x.bar).recent.find? (fun y => y.formed == x.formed)).map (fun y => (y.cells.map (·.1)).eraseDups)).getD []

/-- LATE_MARKER (R214): the marker leaves late, inside the late window, with the same residual. -/
def execLateMarker (lane bar : Fin 16) (count : Nat) (ord : Fin 32) (late : Nat) (s : State) : Outcome :=
  match s.departing lane bar count ord, s.flight bar count with
  | some m, some x =>
    if s.lateWin x < late then .next s
    else
      let n := (x.chans.filter (x.bound lane bar count ord)).length
      let s1 := if x.rinse then s
        else ((s.add (R.TG_LATE_COUNT bar) n).lifeAdd 0x060 4 n).flagRows (fun r => { r with late := true }) bar (s.rowsOf x)
      (s1.markerLeaves lane m ((late * 5000 + s.laneT lane - 1) / s.laneT lane : Nat)).done
  | _, _ => .next s

/-- The channels of a line that wait on a lane are blank: no marker is sent for them (R215). -/
def State.blankLane (s : State) (x : Flight) (lane : Nat) : State :=
  let cs := x.chans.filter (fun c => c.lane == lane)
  let ns := cs.map (·.chan)
  let s1 := if x.rinse then s
    else
      (if x.blank then ns.foldl (fun (t : State) c => t.leafBlank c) s else s.countBlank x.bar ns (cs.map (·.piece)).eraseDups).flagRows
        (fun r => { r with blanked := true }) x.bar (s.rowsOf x)
  let s2 := s1.onLane lane (fun l => { l with plan := l.plan.filter (fun m => !(m.bar == x.bar && m.count == x.count)) })
  State.settleAborted { s2 with flights := (s2.flights.map (fun (y : Flight) => if y.bar = x.bar ∧ y.count = x.count then
      { y with chans := y.chans.filter (fun c => c.lane != lane), blank := true } else y)).filter (fun (y : Flight) => !y.chans.isEmpty) } lane

/-- LINE_BLANKED (R215): the late window has ended and the frame is not complete. -/
def execLineBlanked (bar : Fin 16) (count : Nat) (lane : Fin 16) (s : State) : Outcome :=
  match (if s.awake then s.flight bar count else none) with
  | none => .next s
  | some x =>
    let ms := (s.lane lane).plan.filter (fun m => m.bar == bar.val && m.count == count)
    if x.chans.any (fun c => c.lane == lane.val) ∧
        ms.all (fun m => decide (s.departs lane m + 5000 * s.lateWin x ≤ 5000 * s.time)) then (s.blankLane x lane).done
    else .next s

/-! ## The common stop -/

/-- STOP_REQ (R219): a WRITE of STOP_CTRL with REQ. -/
def execStopReq (m : Msg) (v : Word) (s : State) : Outcome := (s.serveWrite m R.STOP_CTRL [v ||| 1]).done

/-- The last line of a stop group has been fired: STOPPED in each of its bars, whose park delay begins; the end of the stop when no
other group is still stopping (R221, R286, R430). -/
def State.groupStopped (s : State) (k : Nat) : State :=
  let s1 := (s.groupOf k).foldl (fun (t : State) b =>
    let u := t.wr (R.TG_STATUS_STOPPED b) 1
    if u.flag (R.BAR_RSTAT_PARKED b) ∨ (u.rinse b).window ≠ 0 then u
    else u.onRinse b (fun r => { r with parkFrom := some u.time })) s
  if (List.range 16).any (fun b => (s1.tg b).stopP.isSome && !s1.flag (R.TG_STATUS_STOPPED b)) then s1
  else (s1.journalDue 5).orderlyDone

/-- STOP_COMPLETE (R221). -/
def execStopComplete (tg : Fin 16) (s : State) : Outcome :=
  if s.awake ∧ s.stop.active ∧ (s.tg tg).stopP.isSome ∧ !s.flag (R.TG_STATUS_STOPPED tg) ∧ (s.groupBars tg).isEmpty then
    (s.groupStopped tg).done
  else .next s

/-- STOP_RESUME (R221): a WRITE of STOP_CTRL with RESUME. -/
def execStopResume (m : Msg) (v : Word) (s : State) : Outcome := (s.serveWrite m R.STOP_CTRL [v ||| 2]).done

/-! ## Rinse windows -/

/-- PARK (R286): PARK_DELAY after STOPPED the park window opens; with no park lines the bar is parked at once. -/
def execPark (bar : Fin 16) (s : State) : Outcome :=
  let due := (s.rinse bar).parkFrom.any (fun t => decide (t + usTicks (1000 * s.rd (R.BAR_PARK_DELAY_MS bar)) ≤ s.time))
  if !s.awake ∨ !due then .next s
  else
    let n := s.rd (R.BAR_PARK_LINES bar)
    if n = 0 then ((s.closeWindow bar).wr (R.BAR_RSTAT_PARKED bar) 1).done else (s.toDay.openWindow bar 1 n).done

/-- IDLE_WINDOW (R286): every SPIT_S seconds while the bar is parked and no admitted piece names it. -/
def execIdleWindow (bar : Fin 16) (s : State) : Outcome :=
  let r := s.rinse bar
  let period := s.rd (R.BAR_IDLE_SPIT_S bar)
  let n := s.rd (R.BAR_RINSE_SPIT_LINES bar)
  if s.awake ∧ s.flag (R.BAR_RSTAT_PARKED bar) ∧ !s.barWaits bar ∧ period ≠ 0 ∧ n ≠ 0 ∧ r.window = 0 ∧
      r.idleAt + secTicks period ≤ s.time then (s.toDay.openWindow bar 2 n).done
  else .next s

/-- PARK_CLOCK_TRIGGER (R286): the park clock, at RATE lines/s, triggers the next line of an open window. -/
def execParkClockTrigger (bar : Fin 16) (s : State) : Outcome :=
  let r := s.rinse bar
  if s.awake ∧ r.window ≠ 0 ∧ 200000000 ≤ (s.time - r.clockAt) * s.rd (R.BAR_IDLE_RATE bar) then (s.toDay.parkLine bar).done else .next s

end Sys2Proof.Machine
end

