-- ==== Sys2Proof/Machine/Position.lean ====
section
/-! DEFINITION. Encoders, line generators, the index check, compare units and divided outputs (chapter 07). -/

namespace Sys2Proof.Machine

/-- New levels of an encoder's inputs (R175 to R181): a count, an illegal transition, or nothing. -/
def State.encLevels (s : State) (n : Nat) (a b : Bool) : State :=
  let e := s.enc n
  let d := encDelta (s.rd (R.ENC_CFG_MODE n)) (s.rd (R.ENC_CFG_QMULT n)) (s.flag (R.ENC_CFG_POL n)) e.a e.b a b
  let s1 := s.onEnc n (fun e => { e with a := a, b := b, illegal := e.illegal || d.2 })
  if d.2 then s1.inc (R.ENC_ILLEGAL_COUNT n)
  else if d.1 = 0 then s1
  else
    let r := s1.encCount n d.1
    r.1.encoutTriggers r.2

/-- New levels of ENC0's inputs while the core is off: the island counts (R198, R199). -/
def State.islandLevels (s : State) (a b : Bool) : State :=
  let e := s.enc 0
  let d := encDelta (s.rd (R.ENC_CFG_MODE 0)) (s.rd (R.ENC_CFG_QMULT 0)) (s.flag (R.ENC_CFG_POL 0)) e.a e.b a b
  (s.onEnc 0 (fun e => { e with a := a, b := b })).onPow (fun p => { p with islEnc := BitVec.ofNat 48 (posAdd p.islEnc.toNat d.1) })

/-- ENCODER_EDGE (R179): in Day, Dusk and the entry to Night a count; else the island's count of ENC0. -/
def execEncoderEdge (enc : Fin 2) (a b : Bool) (s : State) : Outcome :=
  if s.coreOn then (s.encLevels enc a b).done
  else if s.pow.phase = .noVaux ∨ enc ≠ 0 then .next s
  else (s.islandLevels a b).done

/-- LG_TRIGGER (R185): the accumulator has passed a line boundary. -/
def execLgTrigger (k : Fin 16) (s : State) : Outcome :=
  let acc := Sparse.get 0 s.lgs k
  let line := acc / 2 ^ 32 % 2 ^ 48
  if s.coreOn ∧ s.flag (R.LG_CFG_EN k) ∧ s.lgLine k < line then
    ((s.wrW (R.LG_LINE_LO_LINE k) (R.LG_LINE_HI_LINE k) line).feedAll k line (acc % 2 ^ 32) (2 ^ 32)).done
  else .next s

/-- SPEED_ESTIMATE (R183). -/
def execSpeedEstimate (enc : Fin 2) (s : State) : Outcome := if s.coreOn then (s.estimate enc).done else .next s

/-- STANDSTILL (R184). -/
def execStandstill (enc : Fin 2) (s : State) : Outcome :=
  if s.coreOn ∧ s.still enc ∧ !s.flag (R.ENC_STATUS_STILL enc) then ((s.resetSpeed enc).wr (R.ENC_STATUS_STILL enc) 1).done
  else .next s

/-- INDEX_EDGE (R187): an edge that qualifies. -/
def execIndexEdge (enc : Fin 2) (a b : Bool) (s : State) : Outcome :=
  if s.coreOn ∧ s.flag (R.ENC_CFG_ZEN enc) ∧ (!s.flag (R.ENC_CFG_ZQUAL enc) ∨ (a ∧ b)) then (s.indexEdge enc).done else .next s

/-- The encoder has passed NOM + TOL counts forward since the last index (R187). -/
def State.indexOver (s : State) (n : Nat) : Option Nat :=
  match (s.enc n).lastZ with
  | none => none
  | some z =>
    if s.flag (R.ENC_CFG_ZEN n) ∧ !s.flag (R.ENC_STATUS_DIR n) ∧ !(n = 1 ∧ s.flag (R.ENC_STATUS_FAILED_OVER 0)) ∧
        ((s.rd (R.ENC_IDX_NOM_NOM n) + s.rd (R.ENC_IDX_TOL_TOL n) : Nat) : Int) < fwd (s.encTrue n) z then some z
    else none

/-- INDEX_MISSING (R187). -/
def execIndexMissing (enc : Fin 2) (s : State) : Outcome :=
  match (if s.coreOn then s.indexOver enc else none) with
  | none => .next s
  | some z =>
    let s1 := (s.mismatch enc 0xFFFFFFFF).onEnc enc (fun e => { e with lastZ := some (posAdd z (s.rd (R.ENC_IDX_NOM_NOM enc))) })
    (if enc = 0 then s1.onEnc 0 (fun e => { e with e1 := s1.encTrue 1 }) else s1).done

/-- INDEX_CROSS_CHECK (R187). -/
def execIndexCrossCheck (s : State) : Outcome :=
  let e1 := (s.enc 0).e1
  let nom1 := s.rd (R.ENC_IDX_NOM1_NOM1 0)
  if s.coreOn ∧ s.crossRuns ∧ (s.enc 0).cross ∧ !s.flag (R.ENC_STATUS_DIR 1) ∧ ((nom1 + s.tol1 : Nat) : Int) < fwd (s.encTrue 1) e1 then
    ((s.mismatch 0 0xFFFFFFFE).onEnc 0 (fun e => { e with e1 := posAdd e1 nom1 })).done
  else .next s

/-- PRESET (R182): a WRITE of ENCn_CTRL. -/
def execPreset (m : Msg) (enc : Fin 2) (v : Word) (s : State) : Outcome := (s.serveWrite m (R.ENC_CTRL enc) [v ||| 1]).done

/-- ISLAND_CHECK (R198): the island's count is compared with ENC0's true position; a difference also clears CONT (R200). -/
def execIslandCheck (island : Pos) (s : State) : Outcome :=
  if s.awake then
    let s1 := if island.toNat = s.encTrue 0 then s else (s.inc (R.ENC_ISL_DIFF_COUNT 0)).wr (R.ENC_STATUS_CONT 0) 0
    (s1.onPow (fun p => { p with islEnc := BitVec.ofNat 48 (s.encTrue 0) })).done
  else .next s

/-- LG_APPLY (R186, R201). -/
def execLgApply (k : Fin 16) (s : State) : Outcome := if s.coreOn then (s.lgApply k).done else .next s

/-- ENCOUT_APPLY (R201). -/
def execEncoutApply (n : Fin 2) (s : State) : Outcome :=
  if s.coreOn ∧ !(List.range 16).any s.barActive then
    (((s.applyPend (R.ENCOUT_CFG n)).applyPend (R.ENCOUT_RATIO n)).applyPend (R.ENCOUT_RATIO1 n)).done
  else .next s

/-- COMPARE_ARM (R193): a WRITE of CMPk_CTRL with ARM. -/
def execCompareArm (m : Msg) (k : Fin 64) (v : Word) (s : State) : Outcome := (s.serveWrite m (R.CMP_CTRL k) [v ||| 1]).done

/-- COMPARE_DISARM (R193): a WRITE of CMPk_CTRL with DISARM. -/
def execCompareDisarm (m : Msg) (k : Fin 64) (v : Word) (s : State) : Outcome :=
  (s.serveWrite m (R.CMP_CTRL k) [(v &&& 0xFFFFFFFE) ||| 2]).done

/-- COMPARE_FIRE (R194, R195): the reference has reached the target of an armed unit. -/
def execCompareFire (k : Fin 64) (s : State) : Outcome :=
  if s.coreOn ∧ s.flag (R.CMP_STATUS_ARMED k) ∧ !ahead (s.cmpTgt k) (s.cmpRef k) then
    ((s.toDay.cmpFire k false).cmpSettle k).done
  else .next s

/-! ## Timing sources (chapter 08) -/

/-- FIXED_CLOCK_TRIGGER (R204): the accumulator, at 256 a tick, has reached PERIOD. -/
def execFixedClockTrigger (k : Fin 16) (s : State) : Outcome :=
  let g := s.tg k
  let per := max 1 (s.rd (R.TG_PERIOD_PERIOD k))
  let total := g.acc + 256 * (s.time - g.accAt)
  if s.coreOn ∧ s.flag (R.TG_CFG_EN k) ∧ s.rd (R.TG_CFG_SRC k) = 0x11 ∧ per ≤ total then
    let n := g.offset + total / per
    ((s.onTg k (fun x => { x with acc := total % per, accAt := s.time, offset := n })).feed k n (total % per) per).done
  else .next s

/-- The triggers just raised from LINESYNC_IN place their boundaries at the sample tick less LSI_SKEW (R205). -/
def State.skewTriggers (s : State) (t : Nat) : State :=
  (List.range 16).foldl (fun (u : State) k =>
    if u.root false k = 16 then u.onTg k (fun g => { g with
      trig := g.trig.map (fun (x : Trigger) => if x.t = t then { x with t := t - u.rd R.LSI_CFG_SKEW } else x) }) else u) s

/-- LINESYNC_IN (R205): an accepted edge. -/
def execLinesyncIn (age : Nat) (s : State) : Outcome :=
  if !s.coreOn then .next s
  else
    let t := s.time - age
    let n := (s.rdW R.LSI_COUNT_LO_COUNT R.LSI_COUNT_HI_COUNT + 1) % 2 ^ 48
    let s1 := (s.lsiApply.wrW R.LSI_COUNT_LO_COUNT R.LSI_COUNT_HI_COUNT n)
    let s2 := State.feedAll { s1 with time := t } 0x10 n 0 1
    (State.skewTriggers { s2 with time := s.time } t).done

/-- The tick of the pulse that the last trigger of LSO_CFG.TG asks for, and whether its moment had passed at the trigger (R205). -/
def State.lsoTick (s : State) : Option (Int × Nat × Bool) :=
  let g := s.tg (s.rd R.LSO_CFG_TG)
  match g.bound with
  | none => none
  | some b =>
    if g.pulsed = some b then none
    else
      let t := divOpen 57 b 256 + s.rd R.LSO_DELAY_TICKS
      some (b, if t < g.lastTick then g.lastTick else t.toNat, decide (t < g.lastTick))

/-- LINESYNC_OUT (R205): the pulse, which is also a camera trigger (R318). -/
def execLinesyncOut (s : State) : Outcome :=
  match (if s.coreOn ∧ s.flag R.LSO_CFG_EN then s.lsoTick else none) with
  | none => .next s
  | some (b, t, late) =>
    if s.time < t then .next s
    else
      let s1 := (s.emit (.linesync t)).onTg (s.rd R.LSO_CFG_TG) (fun g => { g with pulsed := some b })
      ((if late then s1.inc R.LSO_LATE_COUNT else s1).camTrigger 3).done

end Sys2Proof.Machine
end

