-- ==== Sys2Proof/Machine/Lanes.lean ====
section
/-! DEFINITION. The head link and the receivers' trims (chapter 10, R280, R281, R314). -/

namespace Sys2Proof.Machine

/-- TRAINING_SET_RX (R271, R276): DETECT to TRAIN, TRAIN to LOCK; in ACTIVE a training set loses the lane. -/
def execTrainingSetRx (lane : Fin 16) (_rates _rate _flags : Byte) (tsB : Bool) (count sentB : Nat) (trained : Bool) (s : State) :
    Outcome :=
  let l := s.lane lane
  if !s.coreOn ∨ count = 0 then .next s
  else if s.laneState lane = laneDetect ∧ 8 ≤ count then (s.startTrain lane l.rateInUse false).done
  else if s.laneState lane = laneTrain ∧ trained ∧ tsB ∧ 8 ≤ count ∧ 16 ≤ sentB then
    ((if l.rateInUse = 0 then s else s.trained lane l.fast).enter lane laneLock).done
  else if s.laneState lane = laneActive then (s.laneLost lane laneTrain).done
  else .next s

/-- BLOCK_LOCK (R258, R271): the phase of the transmit grid of this period of lock is open. -/
def execBlockLock (lane : Fin 16) (headers : Nat) (s : State) : Outcome :=
  if s.coreOn ∧ s.laneState lane = laneLock ∧ 64 ≤ headers then
    let p := s.draw 93 % symPs (s.lane lane).rateInUse
    ((s.drawn.onLane lane (fun l => { l with phase := p })).startExchange lane).done
  else .next s

/-- The time limit of a lane's state in µs, none: it has none (R271). -/
def State.laneLimit (s : State) (n : Nat) : Option Nat :=
  let l := s.lane n
  if s.laneState n = laneTrain then some (if l.rateInUse = 0 then 20000 else if l.fast then 8000 else 400000)
  else if s.laneState n = laneLock then some 2000
  else if s.laneState n = laneExchange then some 10000
  else none

/-- LANE_STATE_TIMEOUT (R271). -/
def execLaneStateTimeout (lane : Fin 16) (s : State) : Outcome :=
  let l := s.lane lane
  if s.coreOn ∧ (s.laneLimit lane).any (fun t => decide (l.since + usTicks t ≤ s.time)) then
    (if s.laneState lane = laneLock then s.startTrain lane l.rateInUse l.fast else s.startDetect lane).done
  else .next s

/-- CAP (R273). -/
def execCap (lane : Fin 16) (c : Cap) (s : State) : Outcome :=
  if s.coreOn ∧ s.laneState lane = laneExchange then (s.takeCap lane c).done else .next s

/-- ACK (R273). -/
def execAck (lane : Fin 16) (msg : Byte) (crc : Word) (s : State) : Outcome :=
  if s.coreOn then (s.takeAck lane msg.toNat crc.toNat).done else .next s

/-- REJECT (R273): of the message that awaits its answer. -/
def execReject (lane : Fin 16) (msg reason : Byte) (s : State) : Outcome :=
  if !s.coreOn ∨ (s.lane lane).wait ≠ some msg.toNat then .next s
  else
    let s1 := if s.laneState lane = laneActive then s.laneLost lane laneDetect else s
    (s1.laneReject lane (reason.toNat % 8)).done

/-- CTRL_RESEND (R272). -/
def execCtrlResend (lane : Fin 16) (s : State) : Outcome :=
  let l := s.lane lane
  if s.coreOn ∧ l.wait.isSome ∧ l.sentAt + usTicks 1000 ≤ s.time then (s.resendCtrl lane).done else .next s

/-- LANE_RESTART (R273). -/
def execLaneRestart (lane : Fin 16) (s : State) : Outcome :=
  if s.coreOn ∧ s.laneOn lane ∧ (s.lane lane).rejectedAt.any (fun t => decide (t + secTicks 1 ≤ s.time)) then (s.startDetect lane).done
  else .next s

/-- The counts of a STATUS report, and HEAD_CRC_REPORT at most once per 100 ms (R268, R269). -/
def State.headCounts (s : State) (n crc miss dup : Nat) : State :=
  let s1 := ((s.add (R.HL_HD_CRC_COUNT n) crc).add (R.HL_HD_MISS_COUNT n) miss).add (R.HL_HD_DUP_COUNT n) dup
  let sum := (s.lane n).crcSum + crc + miss
  if crc + miss ≠ 0 ∧ (s.lane n).crcAt.all (fun t => decide (t + usTicks 100000 ≤ s.time)) then
    (s1.onLane n (fun l => { l with crcSum := 0, crcAt := some s.time })).raise Ev.HEAD_CRC_REPORT n sum
  else s1.onLane n (fun l => { l with crcSum := sum })

/-- STATUS_RX (R268, R269, R434). -/
def execStatusRx (lane : Fin 16) (payload : List Byte) (s : State) : Outcome :=
  if payload.length ≠ 60 then .fault .illFormed
  else if !s.coreOn ∨ le payload 0 1 ≠ 1 ∨ (s.laneState lane ≠ laneActive ∧ s.laneState lane ≠ laneShallow) then .next s
  else
    let s1 := (s.headCounts lane (le payload 2 2) (le payload 4 2) (le payload 6 2)).wr (R.HL_EYE_HD_WIDTH lane) (le payload 0x0A 1)
    let s2 := (s.slots lane).foldl (fun (t : State) e => t.headCode e.1 (le payload (0x0C + e.2.1) 1)) s1
    s2.headStop.speedDemand.done

/-- HEAD_STALE (R269). -/
def execHeadStale (ch : Fin 512) (s : State) : Outcome := if s.awake then (s.headSilent ch).done else .next s

/-- ECHO_BURST (R264, R265): the replies that came in time, at least 48 of 64 for a burst that passes. -/
def execEchoBurst (lane : Fin 16) (rt : List Int) (tInt : Int) (s : State) : Outcome :=
  let asked := s.laneState lane = laneActive ∨ (s.laneState lane = laneExchange ∧ (s.lane lane).stage = 4)
  if 64 < rt.length then .fault .illFormed
  else if !s.coreOn ∨ !asked then .next s
  else if rt.length < 48 then (s.echoFail lane rt.length).done
  else (s.echoPass lane rt tInt).done

/-- CAL (R265): a WRITE of HLn_CTRL with CAL. -/
def execCal (m : Msg) (lane : Fin 16) (v : Word) (s : State) : Outcome := (s.serveWrite m (R.HL_CTRL lane) [v ||| 4]).done

/-- LANE_DOWN (R276). -/
def execLaneDown (lane : Fin 16) (s : State) : Outcome :=
  if s.coreOn ∧ s.laneState lane = laneActive then (s.laneLost lane laneTrain).done else .next s

/-- LANE_REVERT (R279). -/
def execLaneRevert (lane : Fin 16) (s : State) : Outcome :=
  if s.awake ∧ s.laneServes lane ∧ s.flag (R.HL_STATE_CAL_OK lane) ∧ (s.lane lane).activeAt + secTicks (s.rd R.REVERT_S) ≤ s.time then
    (s.moveBack lane).done
  else .next s

/-- LANE_RESUME (R279): a WRITE of HLn_CTRL with RESUME. -/
def execLaneResume (m : Msg) (lane : Fin 16) (v : Word) (s : State) : Outcome := (s.serveWrite m (R.HL_CTRL lane) [v ||| 1]).done

/-- RETRAIN (R284): a WRITE of HLn_CTRL with RETRAIN. -/
def execRetrain (m : Msg) (lane : Fin 16) (v : Word) (s : State) : Outcome := (s.serveWrite m (R.HL_CTRL lane) [v ||| 2]).done

/-- A receiver is in the state its trims are kept in: ACTIVE, SHALLOW or LOCKED (R280, R314). -/
def State.rxUp (s : State) (i : Nat) : Bool :=
  if i < 16 then s.laneState i == laneActive || s.laneState i == laneShallow else s.rd (R.CL_STATUS_STATE (i - 16)) == 2

/-- TRIM_STEP (R280): one trim every 1 s, and the eye at the trims in force. -/
def execTrimStep (lane : Fin 20) (a0 ap am : Nat) (eyeW eyeH : Byte) (s : State) : Outcome :=
  let i := lane.val
  if !s.awake ∨ !s.rxUp i ∨ s.time < (s.rx i).stepAt + secTicks 1 then .next s
  else
    let s1 := s.onRx i (fun x => x.step i s.time a0 ap am)
    (if i < 16 then (s1.wr (R.HL_EYE_WIDTH i) eyeW.toNat).wr (R.HL_EYE_HEIGHT i) eyeH.toNat
      else s1.wr (R.CL_STATUS_EYE_W (i - 16)) eyeW.toNat).done

/-- TRIM_SET_STORE (R281). -/
def execTrimSetStore (lane : Fin 20) (area : BitVec 16) (s : State) : Outcome :=
  let i := lane.val
  if s.awake ∧ s.rxUp i ∧ s.setDue i then
    (s.onRx i (fun x => x.store ⟨s.rxTemp i, s.rxRate i, x.trims, area.toNat⟩)).done
  else .next s

end Sys2Proof.Machine
end

