-- ==== Sys2Proof/Machine/Darning.lean ====
section
/-! DEFINITION. The optical gates and the host's hand on the mending list (chapter 11). -/

namespace Sys2Proof.Machine

/-- The test of a gate whose window has closed; the earliest fire first (R291). -/
def State.endedShot (s : State) (g : Nat) : Option TestShot :=
  let ended := (s.gate g).shots.filter (fun (x : TestShot) =>
    decide (x.fire + 10 * (s.rd (R.GATE_TIMING_DELAY g) + s.rd (R.GATE_TIMING_WIDTH g)) ≤ s.time))
  ended.foldl (fun (b : Option TestShot) x => match b with
    | none => some x
    | some y => if x.fire < y.fire then some x else b) none

/-- GATE_WINDOW_END (R292, R301 to R303). A window has 32 samples before it and WIDTH samples in it. -/
def execGateWindowEnd (gate : Fin 4) (v : GateSamples) (s : State) : Outcome :=
  if v.pre.length ≠ 32 ∨ v.win.length ≠ s.rd (R.GATE_TIMING_WIDTH gate) then .fault .illFormed
  else match (if s.coreOn then s.endedShot gate else none) with
    | none => .next s
    | some x => (s.windowEnd gate x (v.pre.map (·.toNat)) (v.win.map (·.toNat))).done

/-- GATE_TRIM (R294, R295): every 100 ms, with the 256 bins of the samples outside windows. -/
def execGateTrim (gate : Fin 4) (bins : List Nat) (s : State) : Outcome :=
  if bins.length ≠ 256 then .fault .illFormed
  else if s.coreOn ∧ s.gateOn gate ∧ (s.gate gate).stepAt + usTicks 100000 ≤ s.time then (s.gateStep gate bins).done
  else .next s

/-- GATE_TRIM_STORE (R296). -/
def execGateTrimStore (gate : Fin 4) (s : State) : Outcome :=
  if s.coreOn ∧ s.gateSetDue gate then (s.gateStore gate).done else .next s

/-- The word of MEND_CMD for a nozzle and an OP. -/
def mendWord (nozzle : BitVec 20) (op : Nat) : Word := BitVec.ofNat 32 (nozzle.toNat + op * 2 ^ 20)

/-- MEND_ADD (R300). -/
def execMendAdd (m : Msg) (nozzle : BitVec 20) (s : State) : Outcome := (s.serveWrite m R.MEND_CMD [mendWord nozzle 1]).done

/-- MEND_REMOVE (R300, R302). -/
def execMendRemove (m : Msg) (nozzle : BitVec 20) (s : State) : Outcome := (s.serveWrite m R.MEND_CMD [mendWord nozzle 2]).done

/-- MEND_PIN (R300). -/
def execMendPin (m : Msg) (nozzle : BitVec 20) (s : State) : Outcome := (s.serveWrite m R.MEND_CMD [mendWord nozzle 3]).done

/-- MEND_UNPIN (R300). -/
def execMendUnpin (m : Msg) (nozzle : BitVec 20) (s : State) : Outcome := (s.serveWrite m R.MEND_CMD [mendWord nozzle 4]).done

/-- MEND_TEST (R293, R300). -/
def execMendTest (m : Msg) (nozzle : BitVec 20) (s : State) : Outcome := (s.serveWrite m R.MEND_CMD [mendWord nozzle 5]).done

end Sys2Proof.Machine
end

