-- ==== Sys2Proof/Machine/Camera.lean ====
section
/-! DEFINITION. The camera lanes and the inspection pipelines (chapter 12). -/

namespace Sys2Proof.Machine

/-- CL_LOCK (R313, R318). -/
def execClLock (lane : Fin 4) (sets : Nat) (s : State) : Outcome :=
  if s.coreOn then (s.camLaneLock lane sets).done else .next s

/-- CL_LOCK_LOSS (R313, R321). -/
def execClLockLoss (lane : Fin 4) (invalid noIdle : Nat) (s : State) : Outcome :=
  if s.coreOn then (s.camLaneLost lane invalid noIdle).done else .next s

/-- CP_ARM (R318): a WRITE of CPn_CTRL with ARM set. -/
def execCpArm (m : Msg) (n : Fin 4) (v : Word) (s : State) : Outcome := (s.serveWrite m (R.CP_CTRL n) [v ||| 1]).done

/-- ARM_RELEASE (R318). -/
def execArmRelease (n : Fin 4) (s : State) : Outcome := if s.coreOn then (s.armRelease n).done else .next s

/-- FRAME_START (R316, R319, R321, R324): a camera frame returns the module to Day (R81). -/
def execFrameStart (n : Fin 4) (p : Packet) (s : State) : Outcome :=
  if s.coreOn then ((if (s.takePacket n p).2 then s.toDay else s).frameStart n p).done else .next s

/-- IMAGE_LINE (R316, R326 to R336). -/
def execImageLine (n : Fin 4) (p : Packet) (lineNo : Option (BitVec 16)) (full : BitVec 4) (evs : List MemEv) (s : State) : Outcome :=
  if s.coreOn then (s.imageLine n p lineNo full evs).done else .next s

/-- EMBEDDED_LINE (R325). -/
def execEmbeddedLine (n : Fin 4) (p : Packet) (s : State) : Outcome := if s.coreOn then (s.embeddedLine n p).done else .next s

/-- FRAME_END (R338, R345 to R354, R297). -/
def execFrameEnd (n : Fin 4) (p : Packet) (evs : List MemEv) (s : State) : Outcome :=
  if s.coreOn then (s.frameEnd n p evs).done else .next s

/-- FIELD_CHECK (R334, R335). -/
def execFieldCheck (n : Fin 4) (piece : Word) (field : Fin 64) (s : State) : Outcome :=
  if s.coreOn then (s.fieldCheck n piece.toNat field).done else .next s

/-- CAMCTL_REPLY (R322, R323, R325). -/
def execCamctlReply (n : Fin 4) (bytes : List Byte) (s : State) : Outcome := if s.coreOn then (s.camReply n bytes).done else .next s

/-- PING (R323). -/
def execPing (n : Fin 4) (s : State) : Outcome := if s.coreOn then (s.ping n).done else .next s

end Sys2Proof.Machine
end

