-- ==== Sys2Proof/Machine/Flate.lean ====
section
/-! DEFINITION. Decompressors, keys, compressors and evidence (chapter 06, R332). -/

namespace Sys2Proof.Machine

/-- LINE_JOB (R158 to R161). -/
def execLineJob (n : Fin 16) (stalled : Bool) (evs : List MemEv) (s : State) : Outcome :=
  if s.awake ∧ (s.stalledJob n).isNone ∧ (s.nextJob n).isSome then ((s.toDay.lineJob n stalled evs).updateLeads).done else .next s

/-- DX_STALL_RESUME (R159). -/
def execDxStallResume (n : Fin 16) (s : State) : Outcome :=
  if s.awake ∧ (s.stalledJob n).isSome then ((s.dxResume n).updateLeads).done else .next s

/-- DRAIN (R163): a WRITE of DXn_CTRL. -/
def execDrain (m : Msg) (n : Fin 16) (v : Word) (s : State) : Outcome := (s.serveWrite m (R.DX_CTRL n) [v]).done

/-- KEY_WRITE (R155): the WRITE of words from the first of a key slot; any number but eight is refused. -/
def execKeyWrite (m : Msg) (slot : Fin 8) (words : List Word) (s : State) : Outcome :=
  (s.serveWrite m (R.KEY_W slot 0) words).done

/-- KEY_CLEAR (R155). -/
def execKeyClear (m : Msg) (v : Word) (s : State) : Outcome := (s.serveWrite m R.KEY_CLEAR [v]).done

/-- COMPRESS_JOB (R167 to R172). -/
def execCompressJob (n : Fin 4) (evs : List MemEv) (s : State) : Outcome := if s.awake then (s.compress n evs).done else .next s

/-- CX_DOORBELL (R171). -/
def execCxDoorbell (m : Msg) (n : Fin 4) (v : Word) (s : State) : Outcome := (s.serveWrite m (R.CX_DOORBELL n) [v]).done

/-- EVD_RESEND (R332): a WRITE of EVD_RESEND_HI. -/
def execEvdResend (m : Msg) (v : Word) (s : State) : Outcome := (s.serveWrite m R.EVD_RESEND_HI [v]).done

end Sys2Proof.Machine
end

