-- ==== Sys2Proof/Machine/Forming.lean ====
section
/-! DEFINITION. Rendering of live fields, serial lists and the update points of the Ironing loop (chapters 09 and 13). -/

namespace Sys2Proof.Machine

/-- RENDER_START (R244): the errors of its reads name a raster by record ordinal + 64 × the first raster line lost (R250). -/
def execRenderStart (piece : Word) (evs : List MemEv) (s : State) : Outcome :=
  match (if s.awake then s.piece piece.toNat else none) with
  | none => .next s
  | some p =>
    if s.renderMay p ∧ s.renderFits p then
      ((s.memErrors evs).render p ((badOf evs .liveField).map (fun e => (e.key % 64, e.key / 64)))).done
    else .next s

/-- SERIAL_PEND_WRITE (R246): a WRITE of both words of SLk_PEND. -/
def execSerialPendWrite (m : Msg) (list : Fin 4) (lo hi : Word) (s : State) : Outcome :=
  (s.serveWrite m (R.SL_PEND_LO list) [lo, hi]).done

/-- UPDATE_POINT (R348, R355, R356). -/
def execUpdatePoint (bar : Fin 16) (s : State) : Outcome := if s.awake then (s.updatePoint bar).done else .next s

end Sys2Proof.Machine
end

