-- ==== Sys2Proof/Machine/Manage.lean ====
section
/-! DEFINITION. Management messages, subscribers, spans, sets and pin functions (chapters 02 and 04). -/

namespace Sys2Proof.Machine

/-- READ (R109, R117). -/
def execRead (m : Msg) (payload : List Byte) (s : State) : Outcome := (s.serveRead m payload).done

/-- WRITE (R97, R117). -/
def execWrite (m : Msg) (payload : List Byte) (s : State) : Outcome := (s.serveWritePayload m payload).done

/-- FOLLOWER_REPLY (R117). -/
def execFollowerReply (follower : Fin 15) (seq : Word) (status : BitVec 16) (payload : List Byte) (s : State) : Outcome :=
  if s.awake then (s.followerAnswer follower seq status.toNat payload).done else .next s

/-- REMOTE_TIMEOUT (R117). -/
def execRemoteTimeout (follower : Fin 15) (seq : Word) (s : State) : Outcome :=
  if s.awake then (s.followerSilent follower seq).done else .next s

/-- EVENT_ACK (R100). -/
def execEventAck (m : Msg) (payload : List Byte) (s : State) : Outcome :=
  (s.serveQuiet m 0x21 (payload.length == 4) (fun t => t.eventAck m payload)).done

/-- SUBSCRIBE (R99). -/
def execSubscribe (m : Msg) (payload : List Byte) (s : State) : Outcome :=
  (s.serve m ⟨0x22, 41002, true, payload.length == 8, 4, false, false⟩ (fun t => t.subscribe m payload)).done

/-- UNSUBSCRIBE (R99). -/
def execUnsubscribe (m : Msg) (payload : List Byte) (s : State) : Outcome :=
  (s.serve m ⟨0x23, 41002, true, payload.isEmpty, 0, false, false⟩ (fun t => (t.unsubscribe m, Status.ok, []))).done

/-- EVENT_RESEND (R100). -/
def execEventResend (slot : Fin 4) (s : State) : Outcome := if s.awake then (s.resendEvents slot).done else .next s

/-- SUBSCRIBER_DROPPED (R100). -/
def execSubscriberDropped (slot : Fin 4) (s : State) : Outcome :=
  if s.awake ∧ s.dropDue slot then (s.dropSub slot).done else .next s

/-- ABORT_DMA (R103, R147). -/
def execAbortDma (m : Msg) (index : Word) (s : State) : Outcome := (s.serveAbort m (abortOf 1 index)).done

/-- ABORT_DECOMPRESSOR (R103, R166). -/
def execAbortDecompressor (m : Msg) (index : Word) (s : State) : Outcome := (s.serveAbort m (abortOf 2 index)).done

/-- ABORT_COMPRESSOR (R103, R173). -/
def execAbortCompressor (m : Msg) (index : Word) (s : State) : Outcome := (s.serveAbort m (abortOf 3 index)).done

/-- ABORT_PIPELINE (R103, R337). -/
def execAbortPipeline (m : Msg) (index : Word) (s : State) : Outcome := (s.serveAbort m (abortOf 4 index)).done

/-- ABORT_LANE (R103, R104). -/
def execAbortLane (m : Msg) (index : Word) (s : State) : Outcome := (s.serveAbort m (abortOf 5 index)).done

/-- ABORT_SEQUENCER (R103, R104, R400). -/
def execAbortSequencer (m : Msg) (index : Word) (s : State) : Outcome := (s.serveAbort m (abortOf 6 index)).done

/-- ABORT_PIECE, with the payload as it stands (R91, R103). -/
def execAbortPiece (m : Msg) (payload : List Byte) (s : State) : Outcome := (s.serveAbort m payload).done

/-- SET_REPORT (R90, R91, R116). -/
def execSetReport (m : Msg) (payload : List Byte) (s : State) : Outcome := (s.serveReport m payload).done

/-- SET_REPORT_SEND (R116). -/
def execSetReportSend (s : State) : Outcome := if s.reportDue then s.sendReport.done else .next s

/-- SET_MEMBER_LOST (R118). -/
def execSetMemberLost (follower : Fin 15) (s : State) : Outcome :=
  if s.awake ∧ s.memberDue follower then (s.memberLost follower).done else .next s

/-- SPAN_SNAPSHOT (R113). -/
def execSpanSnapshot (s : State) : Outcome := if s.snapDue then s.snapshotSpans.done else .next s

/-- FAULT_LATCH_CLEAR (R102). -/
def execFaultLatchClear (m : Msg) (v : Word) (s : State) : Outcome := (s.serveWrite m R.FAULT_LATCH [v]).done

/-- CTRL_SET (R111). -/
def execCtrlSet (m : Msg) (span : BitVec 12) (v : Word) (s : State) : Outcome :=
  (s.serveWrite m (0x01000000 + 64 * span.toNat + 0x0C) [v]).done

/-- CTRL_CLR (R111). -/
def execCtrlClr (m : Msg) (span : BitVec 12) (v : Word) (s : State) : Outcome :=
  (s.serveWrite m (0x01000000 + 64 * span.toNat + 0x10) [v]).done

/-- STATUS_STICKY_CLEAR (R112). -/
def execStatusStickyClear (m : Msg) (span : BitVec 12) (v : Word) (s : State) : Outcome :=
  (s.serveWrite m (0x01000000 + 64 * span.toNat + 0x20) [v]).done

/-- FUNC_WRITE (R49). -/
def execFuncWrite (m : Msg) (mfp : Fin 16) (v : Word) (s : State) : Outcome := (s.serveWrite m (R.MFP_CFG mfp) [v]).done

/-- FUNC_APPLY (R50): no line of a piece in flight. -/
def execFuncApply (s : State) : Outcome :=
  if s.awake ∧ !(List.range 16).any s.barActive then s.funcApply.done else .next s

end Sys2Proof.Machine
end

