-- ==== Sys2Proof/Machine/Network.lean ====
section
/-! DEFINITION. The network ports, PTP, the time bases, time pulses and snapshots (chapter 14). -/

namespace Sys2Proof.Machine

/-- LINK_UP (R363, R366): event datagrams held for the link leave (R100). -/
def execLinkUp (np : Fin 2) (pcsLock fecLock anDone : Bool) (s : State) : Outcome :=
  if s.powered then ((s.linkReport np pcsLock fecLock anDone).flushEvents).done else .next s

/-- LINK_DOWN (R363): causes 2 and 3 follow from the WRITE that makes them, before this command. -/
def execLinkDown (np : Fin 2) (cause : Fin 4) (s : State) : Outcome :=
  if s.powered ∧ (cause.val < 2 ∨ (cause.val = 2 ∧ s.looped np) ∨ (cause.val = 3 ∧ s.netMode np = 0)) then (s.linkLost np cause).done
  else .next s

/-- PORT_CFG_WRITE (R361). -/
def execPortCfgWrite (m : Msg) (n : Fin 2) (v : Word) (s : State) : Outcome := (s.serveWrite m (R.NP_CFG n) [v]).done

/-- The port's link carries frames. -/
def State.netUp (s : State) (np : Nat) : Bool := s.powered && s.carries np

/-- ARP_REQUEST (R366): a reply goes to the source address of the request's frame. -/
def execArpRequest (np : Fin 2) (sha : BitVec 48) (spa tpa : Word) (frameSrc : BitVec 48) (s : State) : Outcome :=
  if s.netUp np then
    let s1 := s.inc (R.NP_RX_FRAMES_COUNT np)
    (if tpa = s.ownIp np then (s1.emit (.arpReply np frameSrc sha spa)).inc (R.NP_TX_FRAMES_COUNT np) else s1).done
  else .next s

/-- ARP_REPLY (R366). -/
def execArpReply (np : Fin 2) (sha : BitVec 48) (spa : Word) (s : State) : Outcome :=
  if s.netUp np then ((s.inc (R.NP_RX_FRAMES_COUNT np)).arpAnswer np sha spa).done else .next s

/-- ARP_RETRY (R366). -/
def execArpRetry (np : Fin 2) (ip : Word) (s : State) : Outcome := if s.powered then (s.arpAgain np ip).done else .next s

/-- ICMP_ECHO (R362, R365, R367): answered where it fits the frame and is for the port's own address. -/
def execIcmpEcho (np : Fin 2) (srcMac : BitVec 48) (src dst : Word) (ident seq : BitVec 16) (data : List Byte) (s : State) : Outcome :=
  if !s.netUp np then .next s
  else if s.rd (R.NP_CFG_FRAME np) < 28 + data.length + 18 then (s.inc (R.NP_RX_BAD_COUNT np)).done
  else
    let s1 := s.inc (R.NP_RX_FRAMES_COUNT np)
    (if dst = s.ownIp np then (s1.emit (.icmpReply np srcMac src ident seq data)).inc (R.NP_TX_FRAMES_COUNT np)
      else s1.inc (R.NP_RX_DISCARD_COUNT np)).done

/-- SYNC (R371, R372, R374). -/
def execSync (h : PtpHdr) (followUp : Bool) (t1 t2 : Int) (s : State) : Outcome :=
  (s.ptpServe h true (fun (t : State) => t.syncRx h followUp t1 t2)).done

/-- DELAY_RESP (R372, R374): one for another requesting port is not used. -/
def execDelayResp (h : PtpHdr) (t4 : Int) (reqId : BitVec 64) (reqPort : BitVec 16) (s : State) : Outcome :=
  (s.ptpServe h true (fun (t : State) => if reqId = clockId ∧ reqPort = s.portNo h.inst h.np then t.delayRespRx h t4 else t)).done

/-- PDELAY_REQ (R371). -/
def execPdelayReq (h : PtpHdr) (t2 : Int) (s : State) : Outcome := (s.ptpServe h true (fun (t : State) => t.pdelayReqRx h t2)).done

/-- PDELAY_RESP (R371, R372). -/
def execPdelayResp (h : PtpHdr) (followUp : Bool) (t2 t3 t4 : Int) (s : State) : Outcome :=
  (s.ptpServe h true (fun (t : State) => t.pdelayRespRx h followUp t2 t3 t4)).done

/-- DELAY_REQ (R368). -/
def execDelayReq (h : PtpHdr) (t4 : Int) (s : State) : Outcome := (s.ptpServe h true (fun (t : State) => t.delayReqRx h t4)).done

/-- ANNOUNCE (R369). -/
def execAnnounce (h : PtpHdr) (a : AnnounceData) (s : State) : Outcome := (s.ptpServe h true (fun (t : State) => t.announceRx h a)).done

/-- ANNOUNCE_TIMEOUT (R369). -/
def execAnnounceTimeout (np inst : Fin 2) (s : State) : Outcome :=
  if s.coreOn ∧ s.announceOver inst np then (s.announceLost inst np).done else .next s

/-- PTP_SEND (R369, R371). -/
def execPtpSend (np inst : Fin 2) (kind : Fin 4) (t : Int) (s : State) : Outcome :=
  if s.coreOn ∧ s.ptpMay inst np kind then (s.ptpPeriodic inst np kind t).done else .next s

/-- No Sync has reached the instance of a time base for four sync intervals (R375). -/
def State.syncOver (s : State) (k : Nat) : Bool :=
  match s.tbInst k with
  | none => false
  | some i => (s.tb k).lastSync.any (fun t => decide (t + 4 * logTicks (s.rd (R.PI_INTV_LOG_SYNC i)) ≤ s.time))

/-- HOLDOVER (R375). -/
def execHoldover (tb : Fin 4) (s : State) : Outcome := if s.coreOn ∧ s.syncOver tb then (s.enterHoldover tb).done else .next s

/-- PI_CFG_WRITE (R369). -/
def execPiCfgWrite (m : Msg) (i : Fin 2) (v : Word) (s : State) : Outcome := (s.serveWrite m (R.PI_CFG i) [v]).done

/-- TB_SET (R380): a WRITE of TBk_SET_LO and TBk_SET_HI. -/
def execTbSet (m : Msg) (k : Fin 4) (lo hi : Word) (s : State) : Outcome := (s.serveWrite m (R.TB_SET_LO k) [lo, hi]).done

/-- TB_ADJ (R380). -/
def execTbAdj (m : Msg) (k : Fin 4) (v : Word) (s : State) : Outcome := (s.serveWrite m (R.TB_ADJ k) [v]).done

/-- ACCEPT (R377): a WRITE of TBk_CTRL with ACCEPT set. -/
def execAccept (m : Msg) (k : Fin 4) (v : Word) (s : State) : Outcome := (s.serveWrite m (R.TB_CTRL k) [v ||| 1]).done

/-- TIME_PULSE (R381). -/
def execTimePulse (p : Fin 4) (s : State) : Outcome :=
  if s.coreOn ∧ s.tpDue p then (s.tpFire p (Sparse.get 0 s.tps p + 1) false).done else .next s

/-- SNAPSHOT (R383): a WRITE of SNAP_CTRL with TAKE set. -/
def execSnapshot (m : Msg) (v : Word) (s : State) : Outcome := (s.serveWrite m R.SNAP_CTRL [v ||| 1]).done

/-- NP_LOOPBACK (R384). -/
def execNpLoopback (m : Msg) (n : Fin 2) (v : Word) (s : State) : Outcome := (s.serveWrite m (R.NP_LB n) [v]).done

/-- PTP_UNLOCKED (R376). -/
def execPtpUnlocked (tb : Fin 4) (s : State) : Outcome :=
  if s.powered ∧ s.flag (R.TB_STATUS_LOCKED tb) ∧ !s.tbLocked tb then (s.tbFlags tb).done else .next s

/-- NP_RX_DISCARD (R362, R365, R367). -/
def execNpRxDiscard (np : Fin 2) (frameLen : Nat) (fcsOk : Bool) (vid : Option (BitVec 12)) (accepted : Bool) (s : State) : Outcome :=
  if s.netUp np then (s.rxDiscard np frameLen fcsOk vid accepted).done else .next s

/-- ARP_AGE (R366). -/
def execArpAge (np : Fin 2) (ip : Word) (s : State) : Outcome := if s.netUp np then (s.arpExpire np ip).done else .next s

end Sys2Proof.Machine
end

