-- ==== Sys2Proof/Machine/Sequencers.lean ====
section
/-! DEFINITION. The twin sequencers: comparison, replay, slices, hand-over, recovery and the host's hand (chapter 15). -/

namespace Sys2Proof.Machine

/-- LANE_CRC_COMPARE (R389). -/
def execLaneCrcCompare (lane bar : Fin 16) (lseq crcA crcB : Word) (ueA ueB : Bool) (s : State) : Outcome :=
  if !s.coreOn ∨ !s.sqForms 0 ∨ !s.sqForms 1 then .next s
  else
    let s1 := s.inc R.SEQ_COMPARED_COUNT
    if crcA = crcB then s1.done
    else
      let x : Mismatch := ⟨lane, bar, lseq.toNat, crcA.toNat, crcB.toNat⟩
      let s2 := (s1.inc R.SEQ_MISMATCHES_COUNT).lifeAdd 0x0F8 4 1
      (if ueA ∨ ueB then (s2.inc R.SEQ_DATA_COUNT).mismatchKnown x 0 else { s2 with mismatches := s2.mismatches ++ [x] }).done

/-- The mismatch whose replay runs next: of the lowest lane, the oldest (R390). -/
def State.nextReplay (s : State) : Option Mismatch :=
  s.mismatches.foldl (fun (b : Option Mismatch) x => match b with
    | none => some x
    | some y => if x.lane < y.lane then some x else b) none

/-- REPLAY (R390): a sequencer that has left ACTIVE and STANDBY meanwhile replays nothing, and the mismatch has no outcome. -/
def execReplay (lane : Fin 16) (ra rb : Word) (s : State) : Outcome :=
  match (if s.coreOn then s.nextReplay else none) with
  | none => .next s
  | some x =>
    if x.lane ≠ lane then .next s
    else
      let s1 := { s with mismatches := s.mismatches.erase x }
      if s.sqForms 0 ∧ s.sqForms 1 then
        let code := replayCode x.a x.b ra.toNat rb.toNat
        ((s1.mismatchKnown x code).replayEffect code).done
      else s1.done

/-- The next slice of a sequencer; the last of a cycle ends it (R392, R393). -/
def State.sliceNext (s : State) (n : Nat) : State :=
  let q := s.sq n
  if q.slice < 8191 then s.onSq n (fun q => { q with slice := q.slice + 1 })
  else
    let s1 := s.onSq n (fun q => { q with slice := 0, priority := false })
    if q.failed then s1 else (s1.cyclePass n).wr (R.SQ_STATUS_DIAG n) 0

/-- SLICE (R392 to R394): in ACTIVE or STANDBY, in Day. -/
def execSlice (sq : Fin 2) (sig ref : Word) (s : State) : Outcome :=
  if s.pow.phase ≠ .day ∨ !s.sqForms sq then .next s
  else if sig = ref then (s.sliceNext sq).done
  else
    let t := (s.sliceFail sq (s.sq sq).slice).giveUp sq 1
    (if t.sqForms sq then t.sliceNext sq else t).done

/-- OVERLAP_END (R395). -/
def execOverlapEnd (s : State) : Outcome := if s.coreOn then (s.wr R.SEQ_STATE_OVERLAP 0).done else .next s

/-- RECOVERY_CYCLE (R397, R399): a full cycle takes 8,192 × 320 clk, a failed one ends at its failing slice. -/
def execRecoveryCycle (sq : Fin 2) (pass : Bool) (index : BitVec 13) (s : State) : Outcome :=
  let q := s.sq sq
  let slices := if pass then 8192 else index.toNat + 1
  if s.pow.phase ≠ .day ∨ s.sqState sq ≠ sqOut ∨ q.joining ∨ s.time < q.cycleFrom + 64 * slices then .next s
  else
    let s1 := s.onSq sq (fun q => { q with cycleFrom := s.time })
    if pass then
      let c := s.rd (R.SQ_STATUS_CLEAN sq) + 1
      let s2 := (s1.cyclePass sq).wr (R.SQ_STATUS_CLEAN sq) (min 3 c)
      (if 3 ≤ c then (s2.wr (R.SQ_STATUS_RFAIL sq) 0).joinSq sq else s2).done
    else
      let s2 := ((s1.sliceFail sq index.toNat).wr (R.SQ_STATUS_CLEAN sq) 0).addSat (R.SQ_STATUS_RFAIL sq) 1
      (if s.rd R.SEQ_LIMITS_RECOVER_MAX ≤ s2.rd (R.SQ_STATUS_RFAIL sq) then s2.retireSq sq else s2).done

/-- PREF_WRITE (R398, R400). -/
def execPrefWrite (m : Msg) (v : Word) (s : State) : Outcome := (s.serveWrite m R.SEQ_CFG [v]).done

/-- RELEASE (R400): a WRITE of SEQ_CTRL with RELEASE set. -/
def execRelease (m : Msg) (v : Word) (s : State) : Outcome := (s.serveWrite m R.SEQ_CTRL [v ||| 1]).done

/-- UNRETIRE_A (R399): a WRITE of SEQ_CTRL with UNRETIRE_A set. -/
def execUnretireA (m : Msg) (v : Word) (s : State) : Outcome := (s.serveWrite m R.SEQ_CTRL [v ||| 2]).done

/-- UNRETIRE_B (R399): a WRITE of SEQ_CTRL with UNRETIRE_B set. -/
def execUnretireB (m : Msg) (v : Word) (s : State) : Outcome := (s.serveWrite m R.SEQ_CTRL [v ||| 4]).done

end Sys2Proof.Machine
end

