-- ==== Sys2Proof/Machine/Memory.lean ====
section
/-! DEFINITION. The memory controller at work: scrubbing, ageing, refresh, retraining and row protection (chapter 16). -/

namespace Sys2Proof.Machine

/-- Blocks of usable HBM (R402). -/
abbrev hbmBlocks : Nat := 251658240

/-- The scrubber passes one block or word; the HBM pass ends with the last usable block (R413). -/
def State.scrubOn (s : State) (cls : Nat) (passEnd : Bool) : State :=
  if cls = 0 then
    let p := s.rd R.MEM_SCRUB_POS_BLOCK + 1
    if p = hbmBlocks then (s.wr R.MEM_SCRUB_POS_BLOCK 0).inc R.MEM_HBM_PASSES_COUNT else s.wr R.MEM_SCRUB_POS_BLOCK p
  else if passEnd then s.inc R.MEM_SRAM_PASSES_COUNT
  else s

/-- SCRUB_READ (R413 to R420, R458): stopped while bg_scale is 0 (R427). -/
def execScrubRead (cls : Fin 3) (passEnd : Bool) (ev : Option MemEv) (spares : List (Fin 2 × Nat)) (s : State) : Outcome :=
  if !s.coreOn ∨ s.bgScale = 0 then .next s
  else
    let s1 := (s.scrubOn cls passEnd).memErrors (ev.toList.map (fun (e : MemEv) => { e with cls := cls, port := 5 }))
    let gone := if cls = 0 ∨ !passEnd then [] else spares.map (fun x => (x.1.val, x.2))
    State.done { s1 with mem := { s1.mem with withdrawn := s1.mem.withdrawn ++ gone } }

/-- CE_AGE (R415): a SEEN entry is freed. -/
def execCeAge (cls : Fin 3) (entry : Fin 16) (s : State) : Outcome :=
  match (if s.coreOn then (s.ceTable cls).find? (fun (e : Ce) => e.slot == entry.val && !e.hard) else none) with
  | none => .next s
  | some e =>
    if e.at_ + secTicks (3600 * s.rd R.MEM_SCRUB_CE_AGE_H) ≤ s.time then (s.onCe cls (dropCe e.addr)).done else .next s

/-- REFRESH (R407, R408): a refresh falls due; a bank with a request at its head owes it, up to eight, and with none it makes all it
owes. A refresh closes the bank's row. -/
def execRefresh (pc : Fin 32) (bank : Fin 16) (busy : Bool) (s : State) : Outcome :=
  if !s.coreOn then .next s
  else
    let k := 16 * pc.val + bank.val
    let owed := Sparse.get 0 s.mem.owed k + 1
    if busy ∧ owed ≤ 8 then State.done { s with mem := { s.mem with owed := Sparse.set 0 s.mem.owed k owed } }
    else
      let made := if busy then owed - 8 else owed
      let m := s.mem
      let m1 := { m with owed := Sparse.set 0 m.owed k (owed - made), refreshes := Sparse.upd 0 m.refreshes k (· + made) }
      State.done { s with mem := { m1 with openRows := Sparse.set 0 m1.openRows k 0 } }

/-- Ticks from one retraining pause to the next: PERIOD_S ÷ 16 s at the rate of bg_scale (R409, R427); none while it is 0. -/
def State.retrainEvery (s : State) : Option Nat :=
  if s.bgScale = 0 then none else some (secTicks (s.rd R.MEM_RETRAIN_PERIOD_S) * 2000 / (16 * s.bgScale))

/-- A due pause may begin: the leads, the sequencers at rest, no form point within 2 µs, no other pause (R409). -/
def State.retrainMay (s : State) (formingDone : Bool) (ticksToForm : Nat) : Bool :=
  ((List.range 16).filter s.barActive).all (fun b => decide (128 ≤ s.lead b)) && formingDone && decide (usTicks 2 ≤ ticksToForm) &&
    (s.rd R.MEM_RETRAINS_COUNT == 0 || decide (s.mem.lastRetrain + 300 ≤ s.time))

/-- RETRAIN_PAUSE (R409): the pause begins, or waits; a wait beyond PERIOD_S ÷ 16 is counted once. -/
def execRetrainPause (formingDone : Bool) (ticksToForm : Nat) (s : State) : Outcome :=
  match (if s.coreOn then s.retrainEvery else none) with
  | none => .next s
  | some every =>
    let due := s.mem.trainFrom + every
    if s.time < due then .next s
    else
      let late := !s.mem.waited && decide (due + secTicks (s.rd R.MEM_RETRAIN_PERIOD_S) / 16 < s.time)
      let s1 := if late then s.inc R.MEM_RETRAIN_WAIT_COUNT else s
      if s.retrainMay formingDone ticksToForm then
        let n := s.rd R.MEM_RETRAINS_COUNT % 16
        let from_ := if s.time < due + every then due else s.time
        let s2 := (((s1.inc R.MEM_RETRAINS_COUNT).wr R.MEM_RETRAIN_STAT_LAST n).wr R.MEM_RETRAIN_STAT_WAITING 0)
        State.done { s2 with mem := { s2.mem with lastRetrain := s.time, trainFrom := from_, waited := false } }
      else
        let s2 := s1.wr R.MEM_RETRAIN_STAT_WAITING 1
        State.done { s2 with mem := { s2.mem with waited := s2.mem.waited || late } }

/-- A throttled requester at a row: one number. -/
def throttleKey (pc bank row port req : Nat) : Nat := (((pc * 16 + bank) * 32768 + row) * 6 + port) * 32 + req

/-- ACT_LIMIT (R410): for P0 the neighbours are refreshed; any other requester is throttled until the row's refresh window of 32 ms ends,
an instant the spec leaves open. A requester already held at the row makes no activation of it. -/
def execActLimit (pc : Fin 32) (bank : Fin 16) (row : BitVec 15) (port : Fin 6) (req : BitVec 5) (s : State) : Outcome :=
  let key := throttleKey pc bank row.toNat port req.toNat
  let live := s.mem.throttles.filter (fun x => decide (s.time < x.2))
  if !s.coreOn ∨ live.any (fun x => x.1 == key) then .next s
  else
    let s1 := (((s.wr R.MEM_ROWPROT_LAST_PC pc).wr R.MEM_ROWPROT_LAST_BANK bank).wr R.MEM_ROWPROT_LAST_PORT port).wr
      R.MEM_ROWPROT_LAST_REQ req.toNat
    let m := { s1.mem with openRows := Sparse.set 0 s1.mem.openRows (16 * pc.val + bank.val) (row.toNat + 1) }
    if port.val = 0 then State.done (State.inc { s1 with mem := m } R.MEM_NREFRESH_COUNT)
    else
      let until_ := s.time + 1 + s.draw 94 % 6400000
      let s2 : State := { s1 with mem := { m with throttles := live ++ [(key, until_)] } }
      (s2.inc (R.MEM_P_THROTTLES_COUNT port)).drawn.done

end Sys2Proof.Machine
end

