-- ==== Sys2Proof/Machine/Pieces.lean ====
section
/-! DEFINITION. Pieces, receive windows and DMA channels (chapter 05), probe edges (R190) and reject outputs (R140). -/

namespace Sys2Proof.Machine

/-- PUT (R134). -/
def execPut (m : Msg) (payload : List Byte) (s : State) : Outcome := (s.servePut m payload).done

/-- PUT_PIECE (R126): the PUT that a pieces window takes. -/
def execPutPiece (m : Msg) (payload : List Byte) (s : State) : Outcome := (s.servePut m payload).done

/-- ADMISSION_CHECK (R129 to R132). -/
def execAdmissionCheck (piece : Word) (s : State) : Outcome := if s.awake then (s.admission piece.toNat).done else .next s

/-- PROBE_EDGE (R190): in Night it is not latched (R83). -/
def execProbeEdge (probe : Fin 4) (rising : Bool) (age : Nat) (s : State) : Outcome :=
  if s.awake then (s.probeEdge probe rising age).done else .next s

/-- REJECT_OUTPUT (R140). -/
def execRejectOutput (piece : Word) (s : State) : Outcome := if s.awake then (s.rejectAct piece.toNat).done else .next s

/-- DMA_RUN (R143): a WRITE of DMAn_CTRL with RUN set. -/
def execDmaRun (m : Msg) (n : Fin 16) (v : Word) (s : State) : Outcome := (s.serveWrite m (R.DMA_CTRL n) [v ||| 1]).done

/-- DESCRIPTOR_DONE (R143, R146). -/
def execDescriptorDone (n : Fin 16) (evs : List MemEv) (s : State) : Outcome :=
  if s.awake then (s.descDone n evs).done else .next s

/-- DMA_DOORBELL (R144). -/
def execDmaDoorbell (m : Msg) (n : Fin 16) (v : Word) (s : State) : Outcome := (s.serveWrite m (R.DMA_DOORBELL n) [v]).done

/-- DMA_PAUSE (R145): a WRITE of DMAn_CTRL with PAUSE 1, and what the burst in progress has moved by its end. -/
def execDmaPause (m : Msg) (n : Fin 16) (moved : Nat) (s : State) : Outcome :=
  (s.serveWrite m (R.DMA_CTRL n) [2] { moved := some moved }).done

/-- DMA_RESUME (R145): a WRITE of DMAn_CTRL with PAUSE 0. -/
def execDmaResume (m : Msg) (n : Fin 16) (s : State) : Outcome := (s.serveWrite m (R.DMA_CTRL n) [0]).done

/-- DMA_MODE (R145). -/
def execDmaMode (m : Msg) (n : Fin 16) (v : Word) (s : State) : Outcome := (s.serveWrite m (R.DMA_CFG n) [v]).done

/-- WINDOW_OPEN (R137): a WRITE of WINn_CFG with OPEN set. -/
def execWindowOpen (m : Msg) (n : Fin 64) (v : Word) (s : State) : Outcome :=
  (s.serveWrite m (R.WIN_CFG n) [v ||| 1]).done

/-- WINDOW_CLOSE (R137): a WRITE of WINn_CFG with OPEN clear. -/
def execWindowClose (m : Msg) (n : Fin 64) (v : Word) (s : State) : Outcome :=
  (s.serveWrite m (R.WIN_CFG n) [v &&& 0xFFFFFFFE]).done

end Sys2Proof.Machine
end

