-- ==== Sys2Proof/Machine/Power.lean ====
section
/-! DEFINITION. Dawn, resets, lost supplies, Dusk, Night and restarts (chapters 02 and 03); heat, dips and the current ceiling
(chapter 17). A command whose conditions do not hold changes nothing. -/

namespace Sys2Proof.Machine

/-- DAWN_START (R71, R73). -/
def execDawnStart (d : DawnIn) (s : State) : Outcome := if s.dawnMay then (s.dawn d).done else .next s

/-- UNTRIED_SLOT_CHECK (R465): BODY_CRC and the record form, not the checks of R66. -/
def execUntriedSlotCheck (s : State) : Outcome :=
  match s.nvm.untried with
  | none => .next s
  | some k =>
    if !s.awake then .next s
    else
      let ok := ((s.slotHeader k).bind (fun h => (s.bodyAt (s.slotBase k) h).bind (fun b => recordsOf b.length b))).any (fun l => l.all recordForm)
      (s.untriedDone k ok).done

/-- RESET_N (R44). -/
def execResetN (lowNs : Nat) (took : Bool) (s : State) : Outcome :=
  if 10000 ≤ lowNs ∨ (1000 ≤ lowNs ∧ took) then s.reset_.done else .next s

/-- VAUX_LOST (R38). -/
def execVauxLost (s : State) : Outcome := if s.pow.phase = .noVaux then .next s else s.vauxLost.done

/-- VIO_LOST (R36). -/
def execVioLost (s : State) : Outcome :=
  if !s.pow.vio then .next s
  else if s.watched then s.vioLost.done
  else ((s.onPow (fun p => { p with vio := false, islTrust := false })).wr (R.ENC_STATUS_CONT 0) 0).done

/-- VIO_RETURN (R36): the position counted meanwhile stays untrusted. -/
def execVioReturn (s : State) : Outcome :=
  if s.pow.vio then .next s
  else
    let s1 := s.onPow (fun p => { p with vio := true })
    (if s.watched then (s1.wr R.PINS_VIO_VIO_OK 1).condOff Ev.VIO_LOST else s1).done

/-- CORE_SHUTDOWN (R442): VIN below 8.7 V. -/
def execCoreShutdown (spiBits : Fin 8) (s : State) : Outcome := (s.shutdownCore (spiBits == 0)).done

/-- DUSK_ENTRY (R81). -/
def execDuskEntry (s : State) : Outcome := if s.duskDue then s.toDusk.done else .next s

/-- NIGHT_REQ (R82): a WRITE of PWR_CTRL with NIGHT_REQ set. -/
def execNightReq (m : Msg) (v : Word) (s : State) : Outcome := (s.serveWrite m R.PWR_CTRL [v ||| 2]).done

/-- NIGHT_ENTRY_DONE (R82). -/
def execNightEntryDone (s : State) : Outcome :=
  if s.pow.phase = .nightEntry ∧ s.nightWritten then s.nightStart.done else .next s

/-- NIGHT_WAKE (R83, R84): an exit to Day, or during entry a return to Dusk; a restore that fails leads to a Dawn (R419). -/
def execNightWake (src : WakeSrc) (islandUs : Nat) (motion : Int) (restoreFail : Bool) (s : State) : Outcome :=
  match s.pow.phase with
  | .nightEntry =>
    if s.wakes src (posAdd (s.encTrue 0) motion) islandUs then s.toDusk.done else .next s
  | .night =>
    let isl := posAdd s.pow.islEnc.toNat motion
    if !s.wakes src isl islandUs then .next s
    else if restoreFail then ((s.onPow (fun p => { p with islEnc := BitVec.ofNat 48 isl })).coreStop .off 6).done
    else (s.nightExit src isl islandUs).done
  | _ => .next s

/-- RESTART (R79): a WRITE of PWR_CTRL with RESTART set. -/
def execRestart (m : Msg) (v : Word) (s : State) : Outcome := (s.serveWrite m R.PWR_CTRL [v ||| 4]).done

/-- RESTART_DAWN (R79): the core restarts; DAWN_START follows. -/
def execRestartDawn (s : State) : Outcome := if s.restartDue then (s.coreStop .off 3).done else .next s

/-! ## Heat -/

/-- THERMAL_SAMPLE (R424 to R427): at most one in 1 ms. -/
def execThermalSample (ts : List Int) (hbm : Int) (vin iin vinMin vaux : Nat) (s : State) : Outcome :=
  if ts.length ≠ 16 then .fault .illFormed
  else if s.pow.phase = .noVaux ∨ s.therm.sampleAt.any (fun t => decide (s.time < t + usTicks 1000)) then .next s
  else (s.thermSample ts hbm vin iin vinMin vaux).done

/-- ORDERLY_STOP (R430). -/
def execOrderlyStop (s : State) : Outcome := if s.orderlyNow then s.orderlyStop.done else .next s

/-- HARDWARE_TRIP (R431). -/
def execHardwareTrip (spiBits : Fin 8) (s : State) : Outcome :=
  if s.tripDue then (s.trip 1 s.therm.islSensor s.therm.isl (spiBits == 0)).done else .next s

/-- BACKSTOP_TRIP (R432): a reading of 125 °C, in 1/16 °C. -/
def execBackstopTrip (sensor : Fin 16) (reading : Int) (spiBits : Fin 8) (s : State) : Outcome :=
  match s.pow.phase with
  | .noVaux => .next s
  | .shutdown => .next s
  | .tripped => .next s
  | _ => if 2000 ≤ reading then (s.trip 2 sensor reading (spiBits == 0)).done else .next s

/-- TRIP_RESTART (R431). -/
def execTripRestart (d : DawnIn) (s : State) : Outcome := if s.tripCool then (s.dawn d).done else .next s

/-- HEAD_HARD_LIMIT (R434, R435). -/
def execHeadHardLimit (ch : Fin 512) (s : State) : Outcome :=
  if s.coreOn ∧ s.headDue ch then (s.headLimit ch).done else .next s

/-- NVM_WINDOW_OPEN (R436). -/
def execNvmWindowOpen (s : State) : Outcome := if s.powered then s.windowReopen.done else .next s

/-! ## Dips and the ceiling -/

/-- DIP_START (R439). -/
def execDipStart (acfail : Bool) (vinMv : Nat) (s : State) : Outcome :=
  if s.watched then (s.dipBegin acfail vinMv).speedDemand.done else .next s

/-- DIP_RIDDEN (R439): both inputs have released within RIDE. -/
def execDipRidden (s : State) : Outcome :=
  if s.watched ∧ s.dipRidable then ((s.dipRelease true true).dipOver true).speedDemand.done else .next s

/-- DIP_END (R439): the dip ends with its last input. -/
def execDipEnd (acfailReleased vinReleased : Bool) (s : State) : Outcome :=
  if !s.watched then .next s
  else
    let s1 := s.dipRelease acfailReleased vinReleased
    (if s1.therm.acfail ∨ s1.therm.vinWarn then s1 else (s1.dipOver s1.dipRidable).speedDemand).done

/-- SUPPLY_STOP (R440). -/
def execSupplyStop (vinMv : Nat) (s : State) : Outcome :=
  if !s.coreOn ∨ s.therm.dipStart.isNone ∨ s.therm.dipStopped then .next s
  else
    let s1 := s.onTherm (fun t => { t with dipUnder := t.dipUnder || decide (vinMv < 9000) })
    if s1.dipLong ∨ s1.therm.dipUnder then s1.supplyStop.done else s1.done

/-- SUPPLY_STOP_CLEAR (R440). -/
def execSupplyStopClear (s : State) : Outcome :=
  if s.therm.supplyDip ∧ s.therm.dipEnded.any (fun t => decide (t + secTicks 1 ≤ s.time)) then
    (s.onTherm (fun t => { t with supplyDip := false, dipEnded := none })).supplyFlag.done
  else .next s

/-- CEIL_GOVERNOR (R444): one run in 1 ms. -/
def execCeilGovernor (s : State) : Outcome :=
  if s.coreOn ∧ !s.therm.govAt.any (fun t => decide (s.time < t + usTicks 1000)) then s.governorRun.done else .next s

/-- CEIL_ACTIVE (R445): the supply stop of the ceiling. -/
def execCeilActive (s : State) : Outcome := if s.coreOn ∧ s.ceilLost then s.ceilStop.done else .next s

end Sys2Proof.Machine
end

