-- ==== Sys2Proof/Machine/Storage.lean ====
section
/-! DEFINITION. The configuration flash: staging, commit, read-back, journal and state store (chapters 03, 17 and 18). -/

namespace Sys2Proof.Machine

/-- NVM_DATA (R76). -/
def execNvmData (m : Msg) (payload : List Byte) (s : State) : Outcome :=
  (s.serve m ⟨0x40, 41002, false, decide (8 ≤ payload.length) && payload.length % 4 == 0, 0, true, false⟩ (fun t => t.stage payload)).done

/-- NVM_COMMIT (R77). -/
def execNvmCommit (m : Msg) (payload : List Byte) (s : State) : Outcome :=
  (s.serve m ⟨0x41, 41002, true, payload.length == 28, 4, true, false⟩ (fun t => t.commit payload)).done

/-- FLASH_OP_DONE (R77, R87, R453). -/
def execFlashOpDone (r : FlashResult) (s : State) : Outcome := if s.powered then (s.flashDone r).done else .next s

/-- NVM_READ (R91). -/
def execNvmRead (m : Msg) (payload : List Byte) (s : State) : Outcome :=
  let n := le payload 8 4
  (s.serve m ⟨0x42, 41002, false, payload.length == 12 && decide (4 ≤ n ∧ n ≤ 8192) && n % 4 == 0, 8 + n, true, false⟩
    (fun t => (t, t.nvmRead payload))).done

/-- JOURNAL_WRITE (R452): a record that has fallen due, or the one of the 10-minute timer, which stops in Night. -/
def execJournalWrite (cause : Fin 10) (s : State) : Outcome :=
  let timer := cause.val == 1 && decide (s.nvm.lastPeriodic + secTicks 600 ≤ s.time)
  if s.powered ∧ (s.nvm.due.contains cause.val ∨ timer) then (s.journalMake cause).done else .next s

/-- STATE_STORE_WRITE (R69). -/
def execStateStoreWrite (s : State) : Outcome :=
  let timer := decide (s.nvm.stLast + secTicks (60 * s.rd R.STATE_INTERVAL_MIN) ≤ s.time)
  if (s.awake ∨ s.pow.phase = .nightEntry) ∧ (s.nvm.stDue ∨ timer) then s.storeWrite.done else .next s

end Sys2Proof.Machine
end

