-- ==== Sys2Proof/Machine/Testing.lean ====
section
/-! DEFINITION. Test, self-test in service, the loop-backs and the JTAG port (chapter 18). -/

namespace Sys2Proof.Machine

/-- ENTER (R459): a WRITE of TEST_CTRL with ENTER set. -/
def execEnter (m : Msg) (v : Word) (s : State) : Outcome := (s.serveWrite m R.TEST_CTRL [v ||| 1]).done

/-- LEAVE (R459): a WRITE of TEST_CTRL with LEAVE set. -/
def execLeave (m : Msg) (v : Word) (s : State) : Outcome := (s.serveWrite m R.TEST_CTRL [v ||| 2]).done

/-- BIST (R456, R457, R459): a WRITE of TEST_CTRL with BIST set, and what the run finds. -/
def execBist (m : Msg) (v : Word) (fails : List BistFail) (s : State) : Outcome :=
  (s.serveWrite m R.TEST_CTRL [v ||| 4] { fails := fails }).done

/-- JOURNAL (R452): a WRITE of TEST_CTRL with JOURNAL set. -/
def execJournal (m : Msg) (v : Word) (s : State) : Outcome := (s.serveWrite m R.TEST_CTRL [v ||| 8]).done

/-- BIST_SLICE (R456 to R458). -/
def execBistSlice (unit : Fin 3) (index : Fin 16) (fail : Option Word) (s : State) : Outcome :=
  if s.sliceMay (2 + unit) index then (s.runSlice (2 + unit) index fail).done else .next s

/-- HL_LOOPBACK (R460). -/
def execHlLoopback (m : Msg) (n : Fin 16) (v : Word) (s : State) : Outcome := (s.serveWrite m (R.HL_LB n) [v]).done

/-- CL_LOOPBACK (R460). -/
def execClLoopback (m : Msg) (n : Fin 4) (v : Word) (s : State) : Outcome := (s.serveWrite m (R.CL_LB n) [v]).done

/-- MFP_LOOPBACK (R460). -/
def execMfpLoopback (m : Msg) (v : Word) (s : State) : Outcome := (s.serveWrite m R.MFP_LB [v]).done

/-- The JTAG port answers: VAUX is valid (R38). -/
def State.jtagOn (s : State) : Bool := s.pow.phase != .noVaux

/-- EXTEST (R461). -/
def execExtest (shift captured : BitVec 24) (s : State) : Outcome :=
  if !s.jtagOn then .next s
  else if s.scanTest then .next (s.jtagBoundary 0 shift captured)
  else .next (s.jtagBypass 0 (bitList 24 shift.toNat))

/-- IDCODE (R461). -/
def execIdcode (s : State) : Outcome := if s.jtagOn then .next (s.jtagShow 1 32 0x1F51222F) else .next s

/-- SAMPLE_PRELOAD (R461). -/
def execSamplePreload (shift captured : BitVec 24) (s : State) : Outcome :=
  if s.jtagOn then .next (s.jtagBoundary 2 shift captured) else .next s

/-- CLAMP (R461): as BYPASS where it is not available. -/
def execClamp (tdi : Bool) (s : State) : Outcome := if s.jtagOn then .next (s.jtagBypass 3 [tdi]) else .next s

/-- HIGHZ (R461): as BYPASS where it is not available. -/
def execHighz (tdi : Bool) (s : State) : Outcome := if s.jtagOn then .next (s.jtagBypass 4 [tdi]) else .next s

/-- TSTATUS (R461). -/
def execTstatus (s : State) : Outcome := if s.jtagOn then .next (s.jtagShow 0x10 32 s.tstatus) else .next s

/-- WIPE (R461, R462): acted on at Update-DR; what its register captures is open. -/
def execWipe (v : Word) (s : State) : Outcome :=
  if s.jtagOn then ((s.jtagShow 0x11 32 (s.draw 97)).drawn.wipeStart v.toNat).done else .next s

/-- SCAN (R461): what the chains hold is open. -/
def execScan (bits_ : List Bool) (s : State) : Outcome :=
  if !s.jtagOn then .next s
  else if s.pow.scanOpen then .next (s.jtagShow 0x20 bits_.length (s.draw 95)).drawn
  else .next (s.jtagBypass 0x20 bits_)

/-- MEMACC (R461). -/
def execMemacc (dr : BitVec 80) (s : State) : Outcome :=
  if !s.jtagOn then .next s
  else if s.pow.scanOpen then .next (s.jtagMem dr.toNat)
  else .next (s.jtagBypass 0x21 (bitList 80 dr.toNat))

/-- BYPASS (R461): any other code acts as it. -/
def execBypass (code : Byte) (tdi : Bool) (s : State) : Outcome :=
  if s.jtagOn then .next (s.jtagBypass code.toNat [tdi]) else .next s

end Sys2Proof.Machine
end

