-- ==== Sys2Proof/Machine/Dispatch.lean ====
section
/-! DEFINITION. One arm per command, each a direct call of its meaning. -/

namespace Sys2Proof.Machine

def exec (i : Instr) (s : State) : Host.Outcome State Fault Refusal :=
  match i with
  | .dawnStart d => Sys2Proof.Machine.execDawnStart d s
  | .untriedSlotCheck => Sys2Proof.Machine.execUntriedSlotCheck s
  | .resetN lowNs took => Sys2Proof.Machine.execResetN lowNs took s
  | .vauxLost => Sys2Proof.Machine.execVauxLost s
  | .vioLost => Sys2Proof.Machine.execVioLost s
  | .coreShutdown spiBits => Sys2Proof.Machine.execCoreShutdown spiBits s
  | .duskEntry => Sys2Proof.Machine.execDuskEntry s
  | .nightReq m v => Sys2Proof.Machine.execNightReq m v s
  | .nightEntryDone => Sys2Proof.Machine.execNightEntryDone s
  | .nightWake src islandUs motion restoreFail => Sys2Proof.Machine.execNightWake src islandUs motion restoreFail s
  | .restart m v => Sys2Proof.Machine.execRestart m v s
  | .restartDawn => Sys2Proof.Machine.execRestartDawn s
  | .read m payload => Sys2Proof.Machine.execRead m payload s
  | .write m payload => Sys2Proof.Machine.execWrite m payload s
  | .followerReply follower seq status payload => Sys2Proof.Machine.execFollowerReply follower seq status payload s
  | .remoteTimeout follower seq => Sys2Proof.Machine.execRemoteTimeout follower seq s
  | .put m payload => Sys2Proof.Machine.execPut m payload s
  | .putPiece m payload => Sys2Proof.Machine.execPutPiece m payload s
  | .eventAck m payload => Sys2Proof.Machine.execEventAck m payload s
  | .subscribe m payload => Sys2Proof.Machine.execSubscribe m payload s
  | .unsubscribe m payload => Sys2Proof.Machine.execUnsubscribe m payload s
  | .eventResend slot => Sys2Proof.Machine.execEventResend slot s
  | .subscriberDropped slot => Sys2Proof.Machine.execSubscriberDropped slot s
  | .abortDma m index => Sys2Proof.Machine.execAbortDma m index s
  | .abortDecompressor m index => Sys2Proof.Machine.execAbortDecompressor m index s
  | .abortCompressor m index => Sys2Proof.Machine.execAbortCompressor m index s
  | .abortPipeline m index => Sys2Proof.Machine.execAbortPipeline m index s
  | .abortLane m index => Sys2Proof.Machine.execAbortLane m index s
  | .abortSequencer m index => Sys2Proof.Machine.execAbortSequencer m index s
  | .abortPiece m payload => Sys2Proof.Machine.execAbortPiece m payload s
  | .nvmData m payload => Sys2Proof.Machine.execNvmData m payload s
  | .nvmCommit m payload => Sys2Proof.Machine.execNvmCommit m payload s
  | .flashOpDone r => Sys2Proof.Machine.execFlashOpDone r s
  | .nvmRead m payload => Sys2Proof.Machine.execNvmRead m payload s
  | .setReport m payload => Sys2Proof.Machine.execSetReport m payload s
  | .setReportSend => Sys2Proof.Machine.execSetReportSend s
  | .setMemberLost follower => Sys2Proof.Machine.execSetMemberLost follower s
  | .spanSnapshot => Sys2Proof.Machine.execSpanSnapshot s
  | .faultLatchClear m v => Sys2Proof.Machine.execFaultLatchClear m v s
  | .ctrlSet m span v => Sys2Proof.Machine.execCtrlSet m span v s
  | .ctrlClr m span v => Sys2Proof.Machine.execCtrlClr m span v s
  | .statusStickyClear m span v => Sys2Proof.Machine.execStatusStickyClear m span v s
  | .funcWrite m mfp v => Sys2Proof.Machine.execFuncWrite m mfp v s
  | .funcApply => Sys2Proof.Machine.execFuncApply s
  | .admissionCheck piece => Sys2Proof.Machine.execAdmissionCheck piece s
  | .probeEdge probe rising age => Sys2Proof.Machine.execProbeEdge probe rising age s
  | .rejectOutput piece => Sys2Proof.Machine.execRejectOutput piece s
  | .dmaRun m n v => Sys2Proof.Machine.execDmaRun m n v s
  | .descriptorDone n evs => Sys2Proof.Machine.execDescriptorDone n evs s
  | .dmaDoorbell m n v => Sys2Proof.Machine.execDmaDoorbell m n v s
  | .dmaPause m n moved => Sys2Proof.Machine.execDmaPause m n moved s
  | .dmaResume m n => Sys2Proof.Machine.execDmaResume m n s
  | .dmaMode m n v => Sys2Proof.Machine.execDmaMode m n v s
  | .windowOpen m n v => Sys2Proof.Machine.execWindowOpen m n v s
  | .windowClose m n v => Sys2Proof.Machine.execWindowClose m n v s
  | .lineJob n stalled evs => Sys2Proof.Machine.execLineJob n stalled evs s
  | .dxStallResume n => Sys2Proof.Machine.execDxStallResume n s
  | .drain m n v => Sys2Proof.Machine.execDrain m n v s
  | .keyWrite m slot words => Sys2Proof.Machine.execKeyWrite m slot words s
  | .keyClear m v => Sys2Proof.Machine.execKeyClear m v s
  | .compressJob n evs => Sys2Proof.Machine.execCompressJob n evs s
  | .cxDoorbell m n v => Sys2Proof.Machine.execCxDoorbell m n v s
  | .evdResend m v => Sys2Proof.Machine.execEvdResend m v s
  | .encoderEdge enc a b => Sys2Proof.Machine.execEncoderEdge enc a b s
  | .lgTrigger k => Sys2Proof.Machine.execLgTrigger k s
  | .speedEstimate enc => Sys2Proof.Machine.execSpeedEstimate enc s
  | .standstill enc => Sys2Proof.Machine.execStandstill enc s
  | .indexEdge enc a b => Sys2Proof.Machine.execIndexEdge enc a b s
  | .indexMissing enc => Sys2Proof.Machine.execIndexMissing enc s
  | .indexCrossCheck => Sys2Proof.Machine.execIndexCrossCheck s
  | .preset m enc v => Sys2Proof.Machine.execPreset m enc v s
  | .islandCheck island => Sys2Proof.Machine.execIslandCheck island s
  | .lgApply k => Sys2Proof.Machine.execLgApply k s
  | .encoutApply n => Sys2Proof.Machine.execEncoutApply n s
  | .compareArm m k v => Sys2Proof.Machine.execCompareArm m k v s
  | .compareDisarm m k v => Sys2Proof.Machine.execCompareDisarm m k v s
  | .compareFire k => Sys2Proof.Machine.execCompareFire k s
  | .fixedClockTrigger k => Sys2Proof.Machine.execFixedClockTrigger k s
  | .linesyncIn age => Sys2Proof.Machine.execLinesyncIn age s
  | .linesyncOut => Sys2Proof.Machine.execLinesyncOut s
  | .formPoint bar evs checks => Sys2Proof.Machine.execFormPoint bar evs checks s
  | .modeApplied k => Sys2Proof.Machine.execModeApplied k s
  | .markerDepart lane bar count ord lag => Sys2Proof.Machine.execMarkerDepart lane bar count ord lag s
  | .lateMarker lane bar count ord late => Sys2Proof.Machine.execLateMarker lane bar count ord late s
  | .lineBlanked bar count lane => Sys2Proof.Machine.execLineBlanked bar count lane s
  | .stopReq m v => Sys2Proof.Machine.execStopReq m v s
  | .stopComplete tg => Sys2Proof.Machine.execStopComplete tg s
  | .stopResume m v => Sys2Proof.Machine.execStopResume m v s
  | .renderStart piece evs => Sys2Proof.Machine.execRenderStart piece evs s
  | .serialPendWrite m list lo hi => Sys2Proof.Machine.execSerialPendWrite m list lo hi s
  | .trainingSetRx lane rates rate flags tsB count sentB trained => Sys2Proof.Machine.execTrainingSetRx lane rates rate flags tsB count sentB trained s
  | .blockLock lane headers => Sys2Proof.Machine.execBlockLock lane headers s
  | .laneStateTimeout lane => Sys2Proof.Machine.execLaneStateTimeout lane s
  | .cap lane c => Sys2Proof.Machine.execCap lane c s
  | .ack lane msg crc => Sys2Proof.Machine.execAck lane msg crc s
  | .reject lane msg reason => Sys2Proof.Machine.execReject lane msg reason s
  | .ctrlResend lane => Sys2Proof.Machine.execCtrlResend lane s
  | .laneRestart lane => Sys2Proof.Machine.execLaneRestart lane s
  | .statusRx lane payload => Sys2Proof.Machine.execStatusRx lane payload s
  | .headStale ch => Sys2Proof.Machine.execHeadStale ch s
  | .echoBurst lane rt tInt => Sys2Proof.Machine.execEchoBurst lane rt tInt s
  | .cal m lane v => Sys2Proof.Machine.execCal m lane v s
  | .laneDown lane => Sys2Proof.Machine.execLaneDown lane s
  | .laneRevert lane => Sys2Proof.Machine.execLaneRevert lane s
  | .laneResume m lane v => Sys2Proof.Machine.execLaneResume m lane v s
  | .retrain m lane v => Sys2Proof.Machine.execRetrain m lane v s
  | .trimStep lane a0 ap am eyeW eyeH => Sys2Proof.Machine.execTrimStep lane a0 ap am eyeW eyeH s
  | .trimSetStore lane area => Sys2Proof.Machine.execTrimSetStore lane area s
  | .park bar => Sys2Proof.Machine.execPark bar s
  | .idleWindow bar => Sys2Proof.Machine.execIdleWindow bar s
  | .gateWindowEnd gate v => Sys2Proof.Machine.execGateWindowEnd gate v s
  | .gateTrim gate bins => Sys2Proof.Machine.execGateTrim gate bins s
  | .gateTrimStore gate => Sys2Proof.Machine.execGateTrimStore gate s
  | .mendAdd m nozzle => Sys2Proof.Machine.execMendAdd m nozzle s
  | .mendRemove m nozzle => Sys2Proof.Machine.execMendRemove m nozzle s
  | .mendPin m nozzle => Sys2Proof.Machine.execMendPin m nozzle s
  | .mendUnpin m nozzle => Sys2Proof.Machine.execMendUnpin m nozzle s
  | .mendTest m nozzle => Sys2Proof.Machine.execMendTest m nozzle s
  | .clLock lane sets => Sys2Proof.Machine.execClLock lane sets s
  | .clLockLoss lane invalid noIdle => Sys2Proof.Machine.execClLockLoss lane invalid noIdle s
  | .cpArm m n v => Sys2Proof.Machine.execCpArm m n v s
  | .armRelease n => Sys2Proof.Machine.execArmRelease n s
  | .frameStart n p => Sys2Proof.Machine.execFrameStart n p s
  | .imageLine n p lineNo full evs => Sys2Proof.Machine.execImageLine n p lineNo full evs s
  | .embeddedLine n p => Sys2Proof.Machine.execEmbeddedLine n p s
  | .frameEnd n p evs => Sys2Proof.Machine.execFrameEnd n p evs s
  | .fieldCheck n piece field => Sys2Proof.Machine.execFieldCheck n piece field s
  | .camctlReply n bytes => Sys2Proof.Machine.execCamctlReply n bytes s
  | .ping n => Sys2Proof.Machine.execPing n s
  | .updatePoint bar => Sys2Proof.Machine.execUpdatePoint bar s
  | .latApply bar => Sys2Proof.Machine.execLatApply bar s
  | .linkUp np pcsLock fecLock anDone => Sys2Proof.Machine.execLinkUp np pcsLock fecLock anDone s
  | .linkDown np cause => Sys2Proof.Machine.execLinkDown np cause s
  | .portCfgWrite m n v => Sys2Proof.Machine.execPortCfgWrite m n v s
  | .arpRequest np sha spa tpa frameSrc => Sys2Proof.Machine.execArpRequest np sha spa tpa frameSrc s
  | .arpReply np sha spa => Sys2Proof.Machine.execArpReply np sha spa s
  | .arpRetry np ip => Sys2Proof.Machine.execArpRetry np ip s
  | .icmpEcho np srcMac src dst ident seq data => Sys2Proof.Machine.execIcmpEcho np srcMac src dst ident seq data s
  | .sync h followUp t1 t2 => Sys2Proof.Machine.execSync h followUp t1 t2 s
  | .delayResp h t4 reqId reqPort => Sys2Proof.Machine.execDelayResp h t4 reqId reqPort s
  | .pdelayReq h t2 => Sys2Proof.Machine.execPdelayReq h t2 s
  | .pdelayResp h followUp t2 t3 t4 => Sys2Proof.Machine.execPdelayResp h followUp t2 t3 t4 s
  | .delayReq h t4 => Sys2Proof.Machine.execDelayReq h t4 s
  | .announce h a => Sys2Proof.Machine.execAnnounce h a s
  | .announceTimeout np inst => Sys2Proof.Machine.execAnnounceTimeout np inst s
  | .ptpSend np inst kind t => Sys2Proof.Machine.execPtpSend np inst kind t s
  | .holdover tb => Sys2Proof.Machine.execHoldover tb s
  | .piCfgWrite m inst v => Sys2Proof.Machine.execPiCfgWrite m inst v s
  | .tbSet m k lo hi => Sys2Proof.Machine.execTbSet m k lo hi s
  | .tbAdj m k v => Sys2Proof.Machine.execTbAdj m k v s
  | .accept m k v => Sys2Proof.Machine.execAccept m k v s
  | .timePulse p => Sys2Proof.Machine.execTimePulse p s
  | .snapshot m v => Sys2Proof.Machine.execSnapshot m v s
  | .npLoopback m n v => Sys2Proof.Machine.execNpLoopback m n v s
  | .laneCrcCompare lane bar lseq crcA crcB ueA ueB => Sys2Proof.Machine.execLaneCrcCompare lane bar lseq crcA crcB ueA ueB s
  | .replay lane ra rb => Sys2Proof.Machine.execReplay lane ra rb s
  | .slice sq sig ref => Sys2Proof.Machine.execSlice sq sig ref s
  | .overlapEnd => Sys2Proof.Machine.execOverlapEnd s
  | .recoveryCycle sq pass index => Sys2Proof.Machine.execRecoveryCycle sq pass index s
  | .prefWrite m v => Sys2Proof.Machine.execPrefWrite m v s
  | .release m v => Sys2Proof.Machine.execRelease m v s
  | .unretireA m v => Sys2Proof.Machine.execUnretireA m v s
  | .unretireB m v => Sys2Proof.Machine.execUnretireB m v s
  | .scrubRead cls passEnd ev spares => Sys2Proof.Machine.execScrubRead cls passEnd ev spares s
  | .ceAge cls entry => Sys2Proof.Machine.execCeAge cls entry s
  | .refresh pc bank busy => Sys2Proof.Machine.execRefresh pc bank busy s
  | .retrainPause formingDone ticksToForm => Sys2Proof.Machine.execRetrainPause formingDone ticksToForm s
  | .actLimit pc bank row port req => Sys2Proof.Machine.execActLimit pc bank row port req s
  | .thermalSample ts hbm vin iin vinMin vaux => Sys2Proof.Machine.execThermalSample ts hbm vin iin vinMin vaux s
  | .orderlyStop => Sys2Proof.Machine.execOrderlyStop s
  | .hardwareTrip spiBits => Sys2Proof.Machine.execHardwareTrip spiBits s
  | .backstopTrip sensor reading spiBits => Sys2Proof.Machine.execBackstopTrip sensor reading spiBits s
  | .tripRestart d => Sys2Proof.Machine.execTripRestart d s
  | .headHardLimit ch => Sys2Proof.Machine.execHeadHardLimit ch s
  | .nvmWindowOpen => Sys2Proof.Machine.execNvmWindowOpen s
  | .dipStart acfail vinMv => Sys2Proof.Machine.execDipStart acfail vinMv s
  | .dipRidden => Sys2Proof.Machine.execDipRidden s
  | .supplyStop vinMv => Sys2Proof.Machine.execSupplyStop vinMv s
  | .ceilGovernor => Sys2Proof.Machine.execCeilGovernor s
  | .ceilActive => Sys2Proof.Machine.execCeilActive s
  | .journalWrite cause => Sys2Proof.Machine.execJournalWrite cause s
  | .stateStoreWrite => Sys2Proof.Machine.execStateStoreWrite s
  | .enter m v => Sys2Proof.Machine.execEnter m v s
  | .leave m v => Sys2Proof.Machine.execLeave m v s
  | .bist m v fails => Sys2Proof.Machine.execBist m v fails s
  | .journal m v => Sys2Proof.Machine.execJournal m v s
  | .bistSlice unit index fail => Sys2Proof.Machine.execBistSlice unit index fail s
  | .hlLoopback m n v => Sys2Proof.Machine.execHlLoopback m n v s
  | .clLoopback m n v => Sys2Proof.Machine.execClLoopback m n v s
  | .mfpLoopback m v => Sys2Proof.Machine.execMfpLoopback m v s
  | .extest shift captured => Sys2Proof.Machine.execExtest shift captured s
  | .idcode => Sys2Proof.Machine.execIdcode s
  | .samplePreload shift captured => Sys2Proof.Machine.execSamplePreload shift captured s
  | .clamp tdi => Sys2Proof.Machine.execClamp tdi s
  | .highz tdi => Sys2Proof.Machine.execHighz tdi s
  | .tstatus => Sys2Proof.Machine.execTstatus s
  | .wipe v => Sys2Proof.Machine.execWipe v s
  | .scan bits => Sys2Proof.Machine.execScan bits s
  | .memacc dr => Sys2Proof.Machine.execMemacc dr s
  | .bypass code tdi => Sys2Proof.Machine.execBypass code tdi s
  | .dipEnd acfailReleased vinReleased => Sys2Proof.Machine.execDipEnd acfailReleased vinReleased s
  | .supplyStopClear => Sys2Proof.Machine.execSupplyStopClear s
  | .vioReturn => Sys2Proof.Machine.execVioReturn s
  | .ptpUnlocked tb => Sys2Proof.Machine.execPtpUnlocked tb s
  | .parkClockTrigger bar => Sys2Proof.Machine.execParkClockTrigger bar s
  | .npRxDiscard np frameLen fcsOk vid accepted => Sys2Proof.Machine.execNpRxDiscard np frameLen fcsOk vid accepted s
  | .arpAge np ip => Sys2Proof.Machine.execArpAge np ip s

end Sys2Proof.Machine
end

