-- ==== Sys2Proof/Safety.lean ====
section
/-! DEFINITION. What counts as a safe run, and the words in which the statements speak: what stays the same, when a message is served,
and which commands are WRITEs of which registers. -/

namespace Sys2Proof.Machine

/-! ## Outcomes and invariants -/

/-- An outcome that lets the machine go on. -/
def Goes (o : Outcome) : Prop := ∃ t, o = .next t

/-- HBM and the flash are in canonical form: addresses strictly rising, no byte equal to what an unlisted one reads as. -/
def State.memoryWf (s : State) : Prop := Memory.wf 0 s.hbm = true ∧ Memory.wf 0xFF s.flash = true

/-- The channels of the leaves of the span tree (R110). -/
def State.leafChannels (s : State) : List Nat := s.spans.nodes.filterMap (·.chan)

/-- Every status bit that a leaf shows now is in its latched copy, or among the bits that have been 1 ever since Dawn; and of those
bits all are 1 still (R110, R112). -/
def State.latched (s : State) : Prop :=
  ∀ c ∈ s.leafChannels, BitVec.ofNat 10 (s.leafNow c) &&& ~~~((s.leaf c).sticky ||| (s.leaf c).quiet) = 0 ∧
    (s.leaf c).quiet &&& ~~~(BitVec.ofNat 10 (s.leafNow c)) = 0

/-! ## What stays the same -/

/-- HBM and the flash read the same at every address. -/
def SameMemory (s t : State) : Prop :=
  ∀ a, Sparse.get 0 t.hbm a = Sparse.get 0 s.hbm a ∧ Sparse.get 0xFF t.flash a = Sparse.get 0xFF s.flash a

/-- Every register and table location but those listed holds the same word. -/
def SameWords (s t : State) (except : List Nat) : Prop := ∀ a, a ∉ except → t.word a = s.word a

/-- The words that raising an event, and what leaves by a port with it, may change: FAULT_LATCH, EVT_LOST, NPn_TX_FRAMES, NPn_TX_DROP. -/
def eventWords : List Nat :=
  [R.FAULT_LATCH, R.EVT_LOST, R.NP_TX_FRAMES 0, R.NP_TX_FRAMES 1, R.NP_TX_DROP 0, R.NP_TX_DROP 1]

/-- `s` with what raising events, counting and latching statuses may change taken from `t`: registers, lifetime counts, the records the
journal owes, subscriber queues, what was sent, the ports, the draws of free values, active conditions and the leaves. A frame
`t = { s.noticed t with … }` says that `t` is `s` in every other part but those named: both memories, the keys and the queue among them. -/
def State.noticed (s t : State) : State :=
  { s with
    regs := t.regs, life := t.life, subs := t.subs, out := t.out, ports := t.ports, free := t.free, conds := t.conds
    nvm := { s.nvm with due := t.nvm.due, lastHostFault := t.nvm.lastHostFault }
    spans := { s.spans with leaves := t.spans.leaves } }

/-! ## Messages that are served (R89 to R96) -/

/-- The state once a management datagram has been received and counted. -/
def State.heard (s : State) (m : Msg) : State := s.inc (R.NP_RX_FRAMES_COUNT m.np)

/-- The module serves a request as its type says: it is heard, not discarded, well formed, no repeat, and no state of the module
refuses it. -/
def State.takes (s : State) (m : Msg) (q : Request) : Prop :=
  s.hears m.np q.port = true ∧ s.discards m = false ∧ m.version = 1 ∧ m.dst.toNat = q.port ∧ s.forwarded m = false ∧
    (q.stored = true → s.fresh.find? (fun h => ofSource m.ip m.port h && h.seq == m.seq) = none) ∧
    s.stateRefusal q = none ∧ q.okLen = true ∧ 16 + q.replyLen ≤ s.udpMax m.np

/-- The request that a WRITE of `n` words at an address is. -/
def writeReq (addr n : Nat) : Request :=
  ⟨2, 41002, true, decide (1 ≤ n ∧ n ≤ 2048), 4, restartWrite addr n, restartWrite addr n⟩

/-- The WRITE as the checks and the commit see it. -/
def State.writeCtx (s : State) (m : Msg) (addr : Nat) (ws : List Word) (ex : Extra) : WriteCtx :=
  ⟨m.np, addr, s.restartOnly ws, ex⟩

/-- The WRITE is served and stays in this module. -/
def State.takesWrite (s : State) (m : Msg) (addr : Nat) (ws : List Word) : Prop :=
  s.takes m (writeReq addr ws.length) ∧ (s.heard m).mirrored addr ws.length = none

/-- The reply to a request as it leaves by the port of the request (R93). -/
def replyOf (m : Msg) (type status : Nat) (payload : List Byte) : Output :=
  .udp none ⟨m.np, m.ip, m.dst.toNat, m.port.toNat, header type m.seq.toNat status 1 payload.length ++ payload⟩

/-- The request that an ABORT with a payload of eight bytes is. -/
def abortReq : Request := ⟨0x30, 41002, true, true, 0, false, false⟩

/-- The commands that are a WRITE of certain registers: the message, the address, the words, and what goes with them. -/
def writeOf : Instr → Option (Msg × Nat × List Word × Extra)
  | .nightReq m v => some (m, R.PWR_CTRL, [v ||| 2], {})
  | .restart m v => some (m, R.PWR_CTRL, [v ||| 4], {})
  | .faultLatchClear m v => some (m, R.FAULT_LATCH, [v], {})
  | .ctrlSet m span v => some (m, 0x01000000 + 64 * span.toNat + 0x0C, [v], {})
  | .ctrlClr m span v => some (m, 0x01000000 + 64 * span.toNat + 0x10, [v], {})
  | .statusStickyClear m span v => some (m, 0x01000000 + 64 * span.toNat + 0x20, [v], {})
  | .funcWrite m mfp v => some (m, R.MFP_CFG mfp, [v], {})
  | .dmaRun m n v => some (m, R.DMA_CTRL n, [v ||| 1], {})
  | .dmaDoorbell m n v => some (m, R.DMA_DOORBELL n, [v], {})
  | .dmaPause m n moved => some (m, R.DMA_CTRL n, [2], { moved := some moved })
  | .dmaResume m n => some (m, R.DMA_CTRL n, [0], {})
  | .dmaMode m n v => some (m, R.DMA_CFG n, [v], {})
  | .windowOpen m n v => some (m, R.WIN_CFG n, [v ||| 1], {})
  | .windowClose m n v => some (m, R.WIN_CFG n, [v &&& 0xFFFFFFFE], {})
  | .drain m n v => some (m, R.DX_CTRL n, [v], {})
  | .keyWrite m slot words => some (m, R.KEY_W slot 0, words, {})
  | .keyClear m v => some (m, R.KEY_CLEAR, [v], {})
  | .cxDoorbell m n v => some (m, R.CX_DOORBELL n, [v], {})
  | .evdResend m v => some (m, R.EVD_RESEND_HI, [v], {})
  | .preset m enc v => some (m, R.ENC_CTRL enc, [v ||| 1], {})
  | .compareArm m k v => some (m, R.CMP_CTRL k, [v ||| 1], {})
  | .compareDisarm m k v => some (m, R.CMP_CTRL k, [(v &&& 0xFFFFFFFE) ||| 2], {})
  | .stopReq m v => some (m, R.STOP_CTRL, [v ||| 1], {})
  | .stopResume m v => some (m, R.STOP_CTRL, [v ||| 2], {})
  | .serialPendWrite m list lo hi => some (m, R.SL_PEND_LO list, [lo, hi], {})
  | .cal m lane v => some (m, R.HL_CTRL lane, [v ||| 4], {})
  | .laneResume m lane v => some (m, R.HL_CTRL lane, [v ||| 1], {})
  | .retrain m lane v => some (m, R.HL_CTRL lane, [v ||| 2], {})
  | .mendAdd m nozzle => some (m, R.MEND_CMD, [mendWord nozzle 1], {})
  | .mendRemove m nozzle => some (m, R.MEND_CMD, [mendWord nozzle 2], {})
  | .mendPin m nozzle => some (m, R.MEND_CMD, [mendWord nozzle 3], {})
  | .mendUnpin m nozzle => some (m, R.MEND_CMD, [mendWord nozzle 4], {})
  | .mendTest m nozzle => some (m, R.MEND_CMD, [mendWord nozzle 5], {})
  | .cpArm m n v => some (m, R.CP_CTRL n, [v ||| 1], {})
  | .portCfgWrite m n v => some (m, R.NP_CFG n, [v], {})
  | .piCfgWrite m i v => some (m, R.PI_CFG i, [v], {})
  | .tbSet m k lo hi => some (m, R.TB_SET_LO k, [lo, hi], {})
  | .tbAdj m k v => some (m, R.TB_ADJ k, [v], {})
  | .accept m k v => some (m, R.TB_CTRL k, [v ||| 1], {})
  | .snapshot m v => some (m, R.SNAP_CTRL, [v ||| 1], {})
  | .npLoopback m n v => some (m, R.NP_LB n, [v], {})
  | .prefWrite m v => some (m, R.SEQ_CFG, [v], {})
  | .release m v => some (m, R.SEQ_CTRL, [v ||| 1], {})
  | .unretireA m v => some (m, R.SEQ_CTRL, [v ||| 2], {})
  | .unretireB m v => some (m, R.SEQ_CTRL, [v ||| 4], {})
  | .enter m v => some (m, R.TEST_CTRL, [v ||| 1], {})
  | .leave m v => some (m, R.TEST_CTRL, [v ||| 2], {})
  | .bist m v fails => some (m, R.TEST_CTRL, [v ||| 4], { fails := fails })
  | .journal m v => some (m, R.TEST_CTRL, [v ||| 8], {})
  | .hlLoopback m n v => some (m, R.HL_LB n, [v], {})
  | .clLoopback m n v => some (m, R.CL_LB n, [v], {})
  | .mfpLoopback m v => some (m, R.MFP_LB, [v], {})
  | _ => none

/-- The WRITE is served, passes its checks and stays in this module. -/
def State.writes (s : State) (m : Msg) (addr : Nat) (ws : List Word) (ex : Extra) : Prop :=
  s.takesWrite m addr ws ∧ (s.heard m).checkWrite ((s.heard m).writeCtx m addr ws ex) = none ∧
    (s.heard m).reachesFollowers addr ws.length = false

/-- The command is a WRITE of registers that the module carries out itself. -/
def State.accepts (s : State) (c : Instr) : Prop :=
  ∃ m addr ws ex, writeOf c = some (m, addr, ws, ex) ∧ s.writes m addr ws ex

/-- The management message a command is, with the UDP port that serves its type (R88, R90). -/
def messageOf (c : Instr) : Option (Msg × Nat) :=
  match writeOf c with
  | some w => some (w.1, 41002)
  | none => match c with
    | .read m _ => some (m, 41002)
    | .write m _ => some (m, 41002)
    | .put m _ => some (m, 41003)
    | .putPiece m _ => some (m, 41003)
    | .eventAck m _ => some (m, 41002)
    | .subscribe m _ => some (m, 41002)
    | .unsubscribe m _ => some (m, 41002)
    | .abortDma m _ => some (m, 41002)
    | .abortDecompressor m _ => some (m, 41002)
    | .abortCompressor m _ => some (m, 41002)
    | .abortPipeline m _ => some (m, 41002)
    | .abortLane m _ => some (m, 41002)
    | .abortSequencer m _ => some (m, 41002)
    | .abortPiece m _ => some (m, 41002)
    | .nvmData m _ => some (m, 41002)
    | .nvmCommit m _ => some (m, 41002)
    | .nvmRead m _ => some (m, 41002)
    | .setReport m _ => some (m, 41002)
    | _ => none

end Sys2Proof.Machine
end

