-- ==== Sys2Proof/WellFormed.lean ====
section
/-! DEFINITION. Which commands have operands that a wire of the module can carry. A command that fails a check here faults
(illFormed) in every state. -/

namespace Sys2Proof

/-- The operands of a command have the lengths that the spec gives what they stand for: 16 temperature readings (R427), 60 bytes of
STATUS payload (R268), at most 64 echo replies (R264), 32 samples before a gate window (R292) and 256 histogram bins (R294). -/
def Instr.wellFormed : Instr → Bool
  | .thermalSample ts _ _ _ _ _ => ts.length == 16
  | .statusRx _ payload => payload.length == 60
  | .echoBurst _ rt _ => decide (rt.length ≤ 64)
  | .gateWindowEnd _ v => v.pre.length == 32
  | .gateTrim _ bins => bins.length == 256
  | _ => true

end Sys2Proof
end

