-- ==== Sys2Proof/Certificates/Slice0/Obligations.lean ====
section
/-! DEFINITION. The statements for the provers. A command's statement says on which states and operands it completes, the state it then
leaves, and its frame: what that state keeps. -/

section
open Sys2Proof Sys2Proof.Machine

/-- For every command c, every queue cs and every state s: a step of s with c at the front of its queue and cs behind it is exec of c on
s with the queue cs. Model's own interface (the queue of waiting commands stands for what reaches the module from outside, log entry 9). -/
def Obligations.StepRunsFront : Prop :=
  ∀ (c : Instr) (cs : List Instr) (s : State),
    Sys2Proof.Machine.step { s with pending := c :: cs } = Sys2Proof.Machine.exec c { s with pending := cs }

/-- With an empty queue a step always answers a next state, one tick later. The tick leaves both memories, the key slots, the queue, the
pieces, lanes, encoders and generators as they were: time, the time bases, the sequencers' active time, the remainders of the counts of
seconds, an exposure that falls due, the Dusk timer and, in a hand-back, a bar that has become idle (R398) are all it moves beside
registers, reports and what latches. That a step on an empty queue is a tick is the model's own choice (log entry 1); the clock of 5 ns
is R373's. -/
def Obligations.EmptyQueueTicks : Prop :=
  ∀ s : State, s.pending = [] → ∃ t, Sys2Proof.Machine.step s = .next t ∧ t.time = s.time + 1 ∧ SameMemory s t ∧
    t = { s.noticed t with
          time := t.time, pow := { s.pow with lastBusy := t.pow.lastBusy }, tbs := t.tbs, cams := t.cams, seqs := t.seqs,
          lifeRem := t.lifeRem }

/-- For every state, a well-formed command answers a next state (a gate window brings as many samples as WINDOW of its gate asks for,
R292), and a command that is not well formed faults as illFormed and as nothing else. Ordinary data never ends a run. -/
def Obligations.WellFormedCommandsGoOn : Prop :=
  (∀ (c : Instr) (s : State), c.wellFormed = true →
    (∀ g v, c = .gateWindowEnd g v → v.win.length = s.rd (R.GATE_TIMING_WIDTH g)) → Goes (Sys2Proof.Machine.exec c s)) ∧
  ∀ (c : Instr) (s : State), c.wellFormed = false → Sys2Proof.Machine.exec c s = .fault .illFormed

/-- At reset the queue is empty, no message is held and no event waits, no piece exists, the core is off and its next Dawn has cause 0
(cold start), nothing is listed in HBM or in the flash, and every register and table location reads the value its row gives after Dawn.
That registers hold their after-Dawn values already before the first Dawn is the model's choice (log entry 10); the erased flash is log
entry 5. -/
def Obligations.ResetState : Prop :=
  State.reset.pending = [] ∧ State.reset.held = [] ∧ State.reset.pieces = [] ∧ State.reset.pow.phase = .off ∧
    State.reset.pow.cause = 0 ∧ State.reset.time = 0 ∧ State.reset.memoryWf ∧ State.reset.latched ∧
    (∀ a, State.reset.word a = regDefault a) ∧ (∀ a, Sparse.get 0 State.reset.hbm a = 0) ∧
    ∀ a, Sparse.get 0xFF State.reset.flash a = 0xFF

/-- Headline. For every state in which each STATUS bit that a leaf of the span tree shows is either set in that leaf's sticky copy or
has been 1 ever since Dawn, every step that answers a next state leaves such a state: whatever command runs, and the passing of a tick,
a bit that a leaf comes to show is latched in the same instant (R112). That bits which are 1 when Dawn ends are not latched is deduced
from the after-Dawn value 0 of STATUS_STICKY (R110; log entry 11). -/
def Obligations.StepKeepsLatched : Prop :=
  ∀ s t : State, s.latched → Sys2Proof.Machine.step s = .next t → t.latched

/-- Headline. For every state in which HBM and the flash are lists with strictly rising addresses and no byte equal to what an unlisted
address reads as, every step that answers a next state leaves them so: equal memories are equal data. -/
def Obligations.StepKeepsMemory : Prop :=
  ∀ s t : State, s.memoryWf → Sys2Proof.Machine.step s = .next t → t.memoryWf

/-- Writing a run of bytes to HBM: each address inside the run reads its byte, every other address reads as before. Programming the
flash clears bits and never sets one: an address inside the run reads its old byte AND the new one, every other address as before;
erasing makes the range read 0xFF and nothing else changes (R59). -/
def Obligations.ByteMemories : Prop :=
  (∀ (s : State) (a : Nat) (bs : List Byte) (i : Nat),
    Sparse.get 0 (s.hbmWrite a bs).hbm i =
      if a ≤ i ∧ i < a + bs.length then bs.getD (i - a) 0 else Sparse.get 0 s.hbm i) ∧
  (∀ (s : State) (a : Nat) (bs : List Byte) (i : Nat),
    Sparse.get 0xFF (s.flashProgram a bs).flash i =
      if a ≤ i ∧ i < a + bs.length then Sparse.get 0xFF s.flash i &&& bs.getD (i - a) 0 else Sparse.get 0xFF s.flash i) ∧
  ∀ (s : State) (a b i : Nat),
    Sparse.get 0xFF (s.flashErase a b).flash i = if a ≤ i ∧ i < b then 0xFF else Sparse.get 0xFF s.flash i

/-- Writing a field of a register leaves the value modulo its width in it, every field that shares no bit with it reads as before, and
every other register and table location holds its word. -/
def Obligations.FieldsAreSeparate : Prop :=
  ∀ (s : State) (f : Field) (v : Nat), f.lo + f.width ≤ 32 →
    (s.wr f v).rd f = v % 2 ^ f.width ∧
    (∀ g : Field, g.lo + g.width ≤ 32 → (g.addr ≠ f.addr ∨ g.lo + g.width ≤ f.lo ∨ f.lo + f.width ≤ g.lo) → (s.wr f v).rd g = s.rd g) ∧
    ∀ a, a ≠ f.addr → (s.wr f v).word a = s.word a

/-- DAWN_START while the core is off with its supplies valid, and TRIP_RESTART of a tripped module whose island is cool, run a Dawn:
when no sensor trips it, it ends in Day or in the maintenance state, with nothing of a restart, a trip not yet recorded, a dip or a wipe
left over, HBM reading zero everywhere, the flash unchanged, no message held and no piece reject waiting; the trip record, the island
count, time, the queue and the test port are kept. A sensor at its trip point turns it into a hardware trip. -/
def Obligations.DawnCompletes : Prop :=
  ∀ (s : State) (d : DawnIn),
    (∀ c, (c = .dawnStart d ∧ s.dawnMay = true) ∨ (c = .tripRestart d ∧ s.tripCool = true) → d.hotTrip = none →
      ∃ t, Sys2Proof.Machine.exec c s = .next t ∧ (t.pow.phase = .day ∨ t.pow.phase = .maint) ∧
        t.pow = { s.pow with
          phase := t.pow.phase, fresh := false, cause := 0, restart := false, scanOpen := false, wipeStep := 0, dipLost := false,
          tripNew := false, lastBusy := s.time } ∧
        t.hbm = [] ∧ t.flash = s.flash ∧ t.held = [] ∧ t.rejects = [] ∧ t.fwds = [] ∧ t.time = s.time ∧ t.pending = s.pending ∧
        t.jtag = s.jtag) ∧
    (∀ c k (x : BitVec 16), (c = .dawnStart d ∧ s.dawnMay = true) ∨ (c = .tripRestart d ∧ s.tripCool = true) → d.hotTrip = some (k, x) →
      ∃ t, Sys2Proof.Machine.exec c s = .next t ∧ t.pow.phase = .tripped ∧ t.pow.tripKind = 1 ∧ t.pow.tripSensor = k.val ∧
        t.pow.tripTemp = x.toInt ∧ t.pow.cause = 4 ∧ t.pow.tripNew = true)

/-- RESET_N low for 10 µs, or for at least 1 µs where it takes, stops a running core for a Dawn of cause 2; below 1 µs it does nothing.
VIN below 8.7 V shuts the core down for a Dawn of cause 1. A restart that is pending begins when no line is in flight and no commit
runs, for a Dawn of cause 3. Before the first Dawn the cause stays 0. In each the island takes over ENC0's true position as it stands,
and nothing changes but the power state, the flash operation that is halted, and what the flash engine held. -/
def Obligations.CoreStops : Prop :=
  (∀ (s : State) (low : Nat) (took : Bool), (10000 ≤ low ∨ (1000 ≤ low ∧ took = true)) → s.powered = true →
    ∃ t, Sys2Proof.Machine.exec (.resetN low took) s = .next t ∧ t.pow.phase = .off ∧ t.pow.cause = (if s.pow.fresh then 0 else 2) ∧
      t.pow.restart = false ∧ (s.pow.phase ≠ .maint → t.pow.islEnc = BitVec.ofNat 48 (s.encTrue 0)) ∧
      t = { s.noticed t with
          flash := t.flash,
          pow := { s.pow with
            cause := t.pow.cause, coreStopped := t.pow.coreStopped, dipLost := t.pow.dipLost, islEnc := t.pow.islEnc,
            phase := t.pow.phase, restart := t.pow.restart, wipeStep := t.pow.wipeStep },
          nvm := t.nvm }) ∧
  (∀ (s : State) (low : Nat) (took : Bool), low < 1000 → Sys2Proof.Machine.exec (.resetN low took) s = .next s) ∧
  (∀ (s : State) (b : Fin 8), s.powered = true ∨ s.pow.phase = .night →
    ∃ t, Sys2Proof.Machine.exec (.coreShutdown b) s = .next t ∧ t.pow.phase = .shutdown ∧
      t.pow.cause = (if s.pow.fresh then 0 else 1) ∧
      ((s.awake = true ∨ s.pow.phase = .nightEntry) → t.pow.islEnc = BitVec.ofNat 48 (s.encTrue 0)) ∧
      (s.pow.phase = .night → t.pow.islEnc = s.pow.islEnc) ∧
      t = { s.noticed t with
          flash := t.flash,
          pow := { s.pow with
            cause := t.pow.cause, coreStopped := t.pow.coreStopped, dipLost := t.pow.dipLost, islEnc := t.pow.islEnc,
            phase := t.pow.phase, restart := t.pow.restart, wipeStep := t.pow.wipeStep },
          nvm := t.nvm }) ∧
  (∀ s : State, s.restartDue = true →
    ∃ t, Sys2Proof.Machine.exec .restartDawn s = .next t ∧ t.pow.phase = .off ∧ t.pow.cause = (if s.pow.fresh then 0 else 3) ∧
      t.pow.restart = false ∧ (s.pow.phase ≠ .maint → t.pow.islEnc = BitVec.ofNat 48 (s.encTrue 0)) ∧
      t = { s.noticed t with
          flash := t.flash,
          pow := { s.pow with
            cause := t.pow.cause, coreStopped := t.pow.coreStopped, dipLost := t.pow.dipLost, islEnc := t.pow.islEnc,
            phase := t.pow.phase, restart := t.pow.restart, wipeStep := t.pow.wipeStep },
          nvm := t.nvm })

/-- Out of service, 100 ms at 110 °C trip the module: it is tripped with kind 1, the hottest sensor and its reading, the count of trips
one up and at most 255, and a Dawn of cause 4 to come. A reading of 125 °C trips it in every power state with the core on, with kind 2,
that sensor and reading, and cause 5. A reading below 125 °C changes nothing. Nothing else changes but the power state, the flash
operation halted and what the flash engine held. -/
def Obligations.Trips : Prop :=
  (∀ (s : State) (b : Fin 8), s.tripDue = true →
    ∃ t, Sys2Proof.Machine.exec (.hardwareTrip b) s = .next t ∧ t.pow.phase = .tripped ∧ t.pow.cause = 4 ∧ t.pow.tripKind = 1 ∧
      t.pow.tripSensor = s.therm.islSensor ∧ t.pow.tripTemp = s.therm.isl ∧ t.pow.tripNew = true ∧
      t.pow.trips = min 255 (s.pow.trips + 1) ∧ t.pow.backstops = s.pow.backstops ∧
      t = { s.noticed t with flash := t.flash, pow := t.pow, nvm := t.nvm }) ∧
  (∀ (s : State) (k : Fin 16) (x : Int) (b : Fin 8), s.powered = true ∨ s.pow.phase = .night ∨ s.pow.phase = .off → 2000 ≤ x →
    ∃ t, Sys2Proof.Machine.exec (.backstopTrip k x b) s = .next t ∧ t.pow.phase = .tripped ∧ t.pow.cause = 5 ∧ t.pow.tripKind = 2 ∧
      t.pow.tripSensor = k.val ∧ t.pow.tripTemp = x ∧ t.pow.tripNew = true ∧
      t.pow.backstops = min 255 (s.pow.backstops + 1) ∧ t.pow.trips = s.pow.trips ∧
      t = { s.noticed t with flash := t.flash, pow := t.pow, nvm := t.nvm }) ∧
  (∀ (s : State) (k : Fin 16) (x : Int) (b : Fin 8), x < 2000 → Sys2Proof.Machine.exec (.backstopTrip k x b) s = .next s)

/-- When VAUX is lost every part of the state is as it is before VAUX comes: no position, no registers, no keys, no HBM; the VIO level,
time, what was sent, the queue and the draws of free values go on, and the flash keeps every byte when no flash operation runs.
VAUX_LOST without VAUX changes nothing. -/
def Obligations.VauxLost : Prop :=
  (∀ s : State, s.pow.phase ≠ .noVaux →
    ∃ t, Sys2Proof.Machine.exec .vauxLost s = .next t ∧
      t = { State.reset with
        flash := t.flash, out := t.out, free := t.free, pending := s.pending, time := s.time,
        pow := { phase := .noVaux, vio := s.pow.vio } } ∧
      (s.nvm.jWrite = none → s.nvm.jErase = none → s.nvm.stWrite = none → s.nvm.commit.step = .idle → t.flash = s.flash)) ∧
  ∀ s : State, s.pow.phase = .noVaux → Sys2Proof.Machine.exec .vauxLost s = .next s

/-- With the core on, the loss of VIO sets PIN_ERR.VIO_LOST, clears VIO_OK and the CONT bits of both encoders, counts one loss in the
lifetime record and makes the VIO_LOST condition active; its return sets VIO_OK and ends the condition, and PIN_ERR and the CONT bits
keep their values: the position counted meanwhile stays untrusted. No other register changes but those that events count in. -/
def Obligations.VioSupply : Prop :=
  (∀ s : State, s.powered = true → s.pow.vio = true →
    ∃ t, Sys2Proof.Machine.exec .vioLost s = .next t ∧ t.pow.vio = false ∧ t.rd R.PIN_ERR_VIO_LOST = 1 ∧
      t.rd R.PINS_VIO_VIO_OK = 0 ∧ t.rd (R.ENC_STATUS_CONT 0) = 0 ∧ t.rd (R.ENC_STATUS_CONT 1) = 0 ∧
      t.condActive Ev.VIO_LOST 0 = true ∧
      t = { s.noticed t with pow := { s.pow with islTrust := t.pow.islTrust, vio := t.pow.vio } } ∧
      SameWords s t ([R.PIN_ERR, R.PINS_VIO, R.ENC_STATUS 0, R.ENC_STATUS 1] ++ eventWords)) ∧
  (∀ s : State, s.powered = true → s.pow.vio = false →
    ∃ t, Sys2Proof.Machine.exec .vioReturn s = .next t ∧ t.pow.vio = true ∧ t.rd R.PINS_VIO_VIO_OK = 1 ∧
      t.condActive Ev.VIO_LOST 0 = false ∧ t.rd R.PIN_ERR_VIO_LOST = s.rd R.PIN_ERR_VIO_LOST ∧
      t = { s.noticed t with pow := { s.pow with vio := t.pow.vio } } ∧
      SameWords s t ([R.PINS_VIO] ++ eventWords))

/-- DUSK_ENTRY when it is due puts the module in Dusk and every ACTIVE head lane in SHALLOW. NIGHT_ENTRY_DONE, once the writes of the
entry have finished, puts it in Night: ACTIVE and SHALLOW lanes go to DEEP, both links are down, and the island counts on from ENC0's
true position. A wake by an enabled source takes a module in Night back to Day, with WAKE_SRC and NIGHT_LAST_S showing which and how
long; a restore that fails leads to a Dawn of cause 6; and a wake during the entry returns to Dusk. -/
def Obligations.DuskAndNight : Prop :=
  (∀ s : State, s.duskDue = true →
    ∃ t, Sys2Proof.Machine.exec .duskEntry s = .next t ∧ t.pow = { s.pow with phase := .dusk } ∧
      (∀ n : Fin 16, t.laneState n = if s.laneState n = laneActive then laneShallow else s.laneState n) ∧
      t = { s with
          regs := t.regs, pow := { s.pow with phase := t.pow.phase }, spans := { s.spans with leaves := t.spans.leaves },
          lanes := t.lanes, out := t.out }) ∧
  (∀ s : State, s.pow.phase = .nightEntry → s.nightWritten = true →
    ∃ t, Sys2Proof.Machine.exec .nightEntryDone s = .next t ∧
      t.pow = { s.pow with phase := .night, nightAt := s.time, coreStopped := s.time, islEnc := t.pow.islEnc, islTrust := s.pow.vio } ∧
      (∀ n : Fin 16, t.laneState n = if s.laneState n = laneActive ∨ s.laneState n = laneShallow then laneDeep else s.laneState n) ∧
      t.rd (R.NP_STATUS_LINK 0) = 0 ∧ t.rd (R.NP_STATUS_LINK 1) = 0 ∧ t.pow.islEnc = BitVec.ofNat 48 (s.encTrue 0) ∧
      t = { s.noticed t with
          pow := { s.pow with
            coreStopped := t.pow.coreStopped, islEnc := t.pow.islEnc, islTrust := t.pow.islTrust, nightAt := t.pow.nightAt,
            phase := t.pow.phase },
          tbs := t.tbs, ptp := t.ptp, lanes := t.lanes }) ∧
  (∀ (s : State) (w : WakeSrc) (us : Nat) (mo : Int), s.pow.phase = .night →
    s.wakes w (posAdd s.pow.islEnc.toNat mo) us = true →
    ∃ t, Sys2Proof.Machine.exec (.nightWake w us mo false) s = .next t ∧ t.pow.phase = .day ∧ t.pow.lastBusy = s.time ∧
      t.rd R.WAKE_SRC_SRC = (match w with
        | .mfp _ => 1
        | .enc0 => 2
        | .timer => 3) ∧ t.rd R.NIGHT_LAST_S = us / 1000000 % 2 ^ 32 ∧
      t = { s.noticed t with
          flash := t.flash,
          pow := { s.pow with
            cause := t.pow.cause, coreStopped := t.pow.coreStopped, dipLost := t.pow.dipLost, islEnc := t.pow.islEnc,
            lastBusy := t.pow.lastBusy, phase := t.pow.phase, restart := t.pow.restart, wipeStep := t.pow.wipeStep },
          nvm := t.nvm, tbs := t.tbs, tgs := t.tgs, encs := t.encs, lgs := t.lgs, lanes := t.lanes }) ∧
  (∀ (s : State) (w : WakeSrc) (us : Nat) (mo : Int), s.pow.phase = .night →
    s.wakes w (posAdd s.pow.islEnc.toNat mo) us = true →
    ∃ t, Sys2Proof.Machine.exec (.nightWake w us mo true) s = .next t ∧ t.pow.phase = .off ∧
      t.pow.cause = (if s.pow.fresh then 0 else 6) ∧ t.pow.islEnc = BitVec.ofNat 48 (posAdd s.pow.islEnc.toNat mo)) ∧
  (∀ (s : State) (w : WakeSrc) (us : Nat) (mo : Int) (r : Bool), s.pow.phase = .nightEntry →
    s.wakes w (posAdd (s.encTrue 0) mo) us = true →
    ∃ t, Sys2Proof.Machine.exec (.nightWake w us mo r) s = .next t ∧ t.pow = { s.pow with phase := .dusk })

/-- UNTRIED_SLOT_CHECK in Day or Dusk ends the wait of the untried slot: OTHER_CHK reads 1 and no slot is untried. No register changes
but the slot's state and generation; the flash is only read. -/
def Obligations.UntriedSlot : Prop :=
  ∀ (s : State) (k : Nat), s.awake = true → s.nvm.untried = some k →
    ∃ t, Sys2Proof.Machine.exec .untriedSlotCheck s = .next t ∧ t.nvm.untried = none ∧ t.rd R.NVM_SLOTS_OTHER_CHK = 1 ∧
      t = { s with
          regs := t.regs, nvm := { s.nvm with untried := t.nvm.untried }, spans := { s.spans with leaves := t.spans.leaves } } ∧
      SameWords s t [R.NVM_SLOTS, R.GEN_A, R.GEN_B]

/-- THERMAL_SAMPLE with its 16 readings, when VAUX is there and 1 ms has passed since the last: each TS register holds its reading, and
the island's T_hot is their highest. In Day and Dusk the HBM sensor counts too, THERM_HOT shows the highest, THROTTLE is set above 95 °C
and clears below 92 °C, and below 85 °C the cause of an orderly stop ends. With the core on SUP_VIN and SUP_IIN show the supply. Only
the heat and supply registers, SPEED_DEMAND and TEMP_DEFER change. -/
def Obligations.ThermalSamples : Prop :=
  ∀ (s : State) (ts : List Int) (hbm : Int) (vin iin vmin vaux : Nat), ts.length = 16 → s.pow.phase ≠ .noVaux →
    s.therm.sampleAt.any (fun x => decide (s.time < x + usTicks 1000)) = false →
    ∃ t, Sys2Proof.Machine.exec (.thermalSample ts hbm vin iin vmin vaux) s = .next t ∧
      (∀ k : Fin 16, t.rd (R.TS_TEMP k) = unsigned 16 (ts.getD k 0)) ∧
      t.therm.isl = (hottest 0 ts).1 ∧ t.therm.islSensor = (hottest 0 ts).2 ∧ t.therm.sampleAt = some s.time ∧
      (s.awake = true → t.therm.hot = (hottest 0 (ts ++ [hbm])).1 ∧ t.rd R.THERM_HOT_TEMP = unsigned 16 t.therm.hot ∧
        t.rd R.THERM_HOT_SENSOR = (hottest 0 (ts ++ [hbm])).2 ∧
        t.rd R.THERM_STATE_THROTTLE =
          (if 1520 < t.therm.hot then 1 else if t.therm.hot < 1472 then 0 else s.rd R.THERM_STATE_THROTTLE) ∧
        t.rd R.THERM_STATE_STOP_DIE = if t.therm.hot < 1360 then 0 else s.rd R.THERM_STATE_STOP_DIE) ∧
      (s.powered = true → t.rd R.SUP_VIN_VIN_MV = vin % 2 ^ 16 ∧ t.rd R.SUP_IIN_IIN_MA = iin % 2 ^ 16) ∧
      t = { s.noticed t with
          nvm := { s.nvm with due := t.nvm.due, lastHostFault := t.nvm.lastHostFault, windowShut := t.nvm.windowShut },
          therm := { s.therm with
            hot := t.therm.hot, hotSensor := t.therm.hotSensor, hotSince := t.therm.hotSince, isl := t.therm.isl,
            islSensor := t.therm.islSensor, sampleAt := t.therm.sampleAt, tSeen := t.therm.tSeen, theta := t.therm.theta,
            tripSince := t.therm.tripSince, vSeen := t.therm.vSeen },
          lifeRem := t.lifeRem } ∧
      SameWords s t ((List.range 16).map R.TS ++ [R.THERM_HBM, R.THERM_HOT, R.THERM_STATE, R.SUP_VIN, R.SUP_IIN, R.SUP_PIN,
        R.SUP_VAUX, R.NVM_ERR, R.SD_NOW] ++ eventWords)

/-- ORDERLY_STOP when it is due sets STOP_DIE, counts one more orderly stop up to 65,535, and a common stop is active whose first cause
is 3 unless one was active before; with no bar active afterwards BG_HELD is set. HEAD_HARD_LIMIT when it is due makes the channel's head
HEAD_HARD with its condition active, and where its bar has a piece in flight STOP_HEAD is set. Both leave the memories, the keys, the
lanes and the encoders alone. -/
def Obligations.HeatStops : Prop :=
  (∀ s : State, s.orderlyNow = true →
    ∃ t, Sys2Proof.Machine.exec .orderlyStop s = .next t ∧ t.rd R.THERM_STATE_STOP_DIE = 1 ∧ t.stop.active = true ∧
      t.rd R.THERM_COUNTS_ORDERLY = min 65535 (s.rd R.THERM_COUNTS_ORDERLY + 1) ∧
      t.rd R.STOP_CAUSE_FIRST = (if s.stop.active then s.rd R.STOP_CAUSE_FIRST else 3) ∧
      (t.anyActive = false → t.rd R.THERM_STATE_BG_HELD = 1) ∧
      t = { s.noticed t with
          pow := { s.pow with lastBusy := t.pow.lastBusy },
          nvm := { s.nvm with due := t.nvm.due, lastHostFault := t.nvm.lastHostFault, stDue := t.nvm.stDue }, pieces := t.pieces,
          ended := t.ended, rejects := t.rejects, tgs := t.tgs, ring := t.ring, stop := { s.stop with active := t.stop.active },
          evid := t.evid, verify := t.verify }) ∧
  (∀ (s : State) (ch : Fin 512), s.awake = true → s.headDue ch = true →
    ∃ t, Sys2Proof.Machine.exec (.headHardLimit ch) s = .next t ∧ t.headHard ch = true ∧
      t.condActive Ev.HEAD_HARD_LIMIT ch = true ∧
      (s.barActive (s.chBar ch) = true → t.rd R.THERM_STATE_STOP_HEAD = 1) ∧
      t = { s.noticed t with
          pow := { s.pow with lastBusy := t.pow.lastBusy }, pieces := t.pieces, ended := t.ended, rejects := t.rejects,
          tgs := t.tgs, ring := t.ring, stop := { s.stop with active := t.stop.active }, heads := t.heads, evid := t.evid,
          verify := t.verify })

/-- DIP_START by ACFAIL_N on a pin that carries it, or by VIN below 10.2 V, opens a dip (DIP set, its start kept) and shows the inputs.
A dip whose inputs release within RIDE, with VIN never below 9.0 V and no supply stop, is ridden: DIP clears, its length stands in
SUP_LAST_DIP, its bin and RIDDEN count one. When only one of two inputs releases the dip goes on. Only the supply registers,
SPEED_DEMAND and what the flash engine waits with change. -/
def Obligations.Dips : Prop :=
  (∀ (s : State) (ac : Bool) (mv : Nat), s.powered = true → (ac = true ∧ s.acfailPin = true) ∨ mv < 10200 →
    ∃ t, Sys2Proof.Machine.exec (.dipStart ac mv) s = .next t ∧ t.therm.dipStart = some (s.therm.dipStart.getD s.time) ∧
      t.rd R.SUP_STATE_DIP = 1 ∧ t.rd R.SUP_STATE_ACFAIL = b2n (s.therm.acfail || (ac && s.acfailPin)) ∧
      t.rd R.SUP_STATE_VIN_WARN = b2n (s.therm.vinWarn || decide (mv < 10200)) ∧
      (mv < 10200 → t.condActive Ev.VIN_WARNING 0 = true) ∧
      t = { s.noticed t with
          therm := { s.therm with
            acfail := t.therm.acfail, dipStart := t.therm.dipStart, dipUnder := t.therm.dipUnder, vinWarn := t.therm.vinWarn } } ∧
      SameWords s t ([R.SUP_STATE, R.SD_NOW] ++ eventWords)) ∧
  (∀ (s : State) (t0 : Nat), s.powered = true → s.dipRidable = true → s.therm.dipStart = some t0 →
    ∃ t, Sys2Proof.Machine.exec .dipRidden s = .next t ∧ t.therm.dipStart = none ∧ t.rd R.SUP_STATE_DIP = 0 ∧
      t.rd R.SUP_STATE_ACFAIL = 0 ∧ t.rd R.SUP_STATE_VIN_WARN = 0 ∧
      t.rd R.SUP_LAST_DIP_US = min 16777215 ((s.time - t0) / 200) ∧
      t.rd R.SUP_DIPS_RIDDEN = min 65535 (s.rd R.SUP_DIPS_RIDDEN + 1) ∧
      t.rd (R.DIP_HIST_COUNT (dipBin (s.time - t0))) = (s.rd (R.DIP_HIST_COUNT (dipBin (s.time - t0))) + 1) % 2 ^ 32 ∧
      t = { s.noticed t with
          nvm := { s.nvm with
            commit := t.nvm.commit, due := t.nvm.due, held := t.nvm.held, jWrite := t.nvm.jWrite,
            lastHostFault := t.nvm.lastHostFault, stBodyNew := t.nvm.stBodyNew, stDue := t.nvm.stDue, stPend := t.nvm.stPend,
            stWrite := t.nvm.stWrite },
          therm := { s.therm with
            acfail := t.therm.acfail, dipEnded := t.therm.dipEnded, dipStart := t.therm.dipStart, dipStopped := t.therm.dipStopped,
            dipUnder := t.therm.dipUnder, vinWarn := t.therm.vinWarn } } ∧
      SameWords s t ([R.SUP_STATE, R.SD_NOW, R.SUP_LAST_DIP, R.SUP_DIPS, R.DIP_HIST (dipBin (s.time - t0)), R.NVM_ERR, R.NVM_OP] ++
        eventWords)) ∧
  (∀ (s : State) (ac vin : Bool), s.powered = true →
    ∃ t, Sys2Proof.Machine.exec (.dipEnd ac vin) s = .next t ∧ t.therm.acfail = (s.therm.acfail && !ac) ∧
      t.therm.vinWarn = (s.therm.vinWarn && !vin) ∧ t.rd R.SUP_STATE_ACFAIL = b2n t.therm.acfail ∧
      t.rd R.SUP_STATE_VIN_WARN = b2n t.therm.vinWarn ∧
      (t.therm.acfail = true ∨ t.therm.vinWarn = true →
        t.therm.dipStart = s.therm.dipStart ∧ t.rd R.SUP_STATE_DIP = s.rd R.SUP_STATE_DIP) ∧
      (∀ t0, t.therm.acfail = false → t.therm.vinWarn = false → s.therm.dipStart = some t0 →
        t.therm.dipStart = none ∧ t.rd R.SUP_STATE_DIP = 0 ∧ t.rd R.SUP_LAST_DIP_US = min 16777215 ((s.time - t0) / 200)) ∧
      t = { s.noticed t with
          nvm := { s.nvm with
            commit := t.nvm.commit, due := t.nvm.due, held := t.nvm.held, jWrite := t.nvm.jWrite,
            lastHostFault := t.nvm.lastHostFault, stBodyNew := t.nvm.stBodyNew, stDue := t.nvm.stDue, stPend := t.nvm.stPend,
            stWrite := t.nvm.stWrite },
          therm := { s.therm with
            acfail := t.therm.acfail, dipEnded := t.therm.dipEnded, dipStart := t.therm.dipStart, dipStopped := t.therm.dipStopped,
            dipUnder := t.therm.dipUnder, vinWarn := t.therm.vinWarn } })

/-- SUPPLY_STOP of a dip longer than RIDE or with VIN below 9.0 V sets SUPPLY_STOP, counts a stop up to 65,535, makes a common stop
active and lets a journal record of cause 6 fall due; 1 s after that dip has ended the cause clears. CEIL_GOVERNOR moves G or U by one
step as R444 computes it, with CEIL_ACTIVE set exactly while one of them is below 1. CEIL_ACTIVE after HOLD_MS with both at 0 sets
SUPPLY_STOP and makes a common stop active. NVM_WINDOW_OPEN in the reopening range of TS8 opens the write window. -/
def Obligations.SupplyStops : Prop :=
  (∀ (s : State) (mv : Nat), s.awake = true → s.therm.dipStart.isSome = true → s.therm.dipStopped = false →
    (s.dipLong = true ∨ s.therm.dipUnder = true ∨ mv < 9000) →
    ∃ t, Sys2Proof.Machine.exec (.supplyStop mv) s = .next t ∧ t.therm.dipStopped = true ∧ t.therm.supplyDip = true ∧
      t.rd R.SUP_STATE_SUPPLY_STOP = 1 ∧ t.rd R.SUP_DIPS_STOPS = min 65535 (s.rd R.SUP_DIPS_STOPS + 1) ∧ t.stop.active = true ∧
      6 ∈ t.nvm.due ∧
      t = { s.noticed t with
          pow := { s.pow with lastBusy := t.pow.lastBusy },
          therm := { s.therm with
            dipEnded := t.therm.dipEnded, dipStopped := t.therm.dipStopped, dipUnder := t.therm.dipUnder, supplyDip := t.therm.supplyDip
              },
          pieces := t.pieces, ended := t.ended, rejects := t.rejects, tgs := t.tgs, ring := t.ring,
          stop := { s.stop with active := t.stop.active }, evid := t.evid, verify := t.verify }) ∧
  (∀ (s : State) (e : Nat), s.therm.supplyDip = true → s.therm.dipEnded = some e → e + secTicks 1 ≤ s.time →
    ∃ t, Sys2Proof.Machine.exec .supplyStopClear s = .next t ∧ t.therm.supplyDip = false ∧ t.therm.dipEnded = none ∧
      t.rd R.SUP_STATE_SUPPLY_STOP = b2n s.therm.supplyCeil ∧
      t = { s with
          regs := t.regs, therm := { s.therm with dipEnded := t.therm.dipEnded, supplyDip := t.therm.supplyDip },
          spans := { s.spans with leaves := t.spans.leaves } } ∧
      SameWords s t [R.SUP_STATE]) ∧
  (∀ s : State, s.awake = true → s.therm.govAt.any (fun x => decide (s.time < x + usTicks 1000)) = false →
    ∃ t, Sys2Proof.Machine.exec .ceilGovernor s = .next t ∧
      (t.rd R.CEIL_STATE_G, t.rd R.CEIL_STATE_U) =
        governor (s.rd R.SUP_IIN_IIN_MA) (s.rd R.VIN_CEIL_CEIL_MA) (s.rd R.CEIL_STATE_G) (s.rd R.CEIL_STATE_U) ∧
      t.rd R.PIN_ERR_CEIL_ACTIVE = b2n (decide (t.rd R.CEIL_STATE_G < 16 ∨ t.rd R.CEIL_STATE_U < 64)) ∧
      t.therm.govAt = some s.time ∧
      t = { s.noticed t with
          therm := { s.therm with
            ceilLowSince := t.therm.ceilLowSince, ceilSince := t.therm.ceilSince, govAt := t.therm.govAt, supplyCeil :=
              t.therm.supplyCeil } } ∧
      SameWords s t ([R.CEIL_STATE, R.PIN_ERR, R.SD_NOW, R.SUP_STATE] ++ eventWords)) ∧
  (∀ s : State, s.awake = true → s.ceilLost = true →
    ∃ t, Sys2Proof.Machine.exec .ceilActive s = .next t ∧ t.therm.supplyCeil = true ∧ t.rd R.SUP_STATE_SUPPLY_STOP = 1 ∧
      t.stop.active = true ∧
      t = { s.noticed t with
          pow := { s.pow with lastBusy := t.pow.lastBusy }, therm := { s.therm with supplyCeil := t.therm.supplyCeil },
          pieces := t.pieces, ended := t.ended, rejects := t.rejects, tgs := t.tgs, ring := t.ring,
          stop := { s.stop with active := t.stop.active }, evid := t.evid, verify := t.verify }) ∧
  (∀ s : State, s.powered = true → s.nvm.windowShut = true → -352 ≤ s.rdI (R.TS_TEMP 8) → s.rdI (R.TS_TEMP 8) ≤ 1472 →
    ∃ t, Sys2Proof.Machine.exec .nvmWindowOpen s = .next t ∧ t.nvm.windowShut = false ∧
      t = { s.noticed t with
          nvm := { s.nvm with
            commit := t.nvm.commit, due := t.nvm.due, held := t.nvm.held, jWrite := t.nvm.jWrite,
            lastHostFault := t.nvm.lastHostFault, stBodyNew := t.nvm.stBodyNew, stDue := t.nvm.stDue, stPend := t.nvm.stPend,
            stWrite := t.nvm.stWrite, windowShut := t.nvm.windowShut } } ∧
      SameWords s t ([R.NVM_ERR, R.NVM_OP] ++ eventWords))

/-- A WRITE or a READ that is served and whose address is not a multiple of 4 is answered BAD_ADDRESS; every register and table word but
the counters of received, sent and refused messages holds what it held, and neither memory changes. -/
def Obligations.MisalignedAccess : Prop :=
  (∀ (s : State) (m : Msg) (payload : List Byte), le payload 0 4 % 4 ≠ 0 → payload.length = 8 + 4 * le payload 4 4 →
    s.takesWrite m (le payload 0 4) (wordsFrom payload 8 (le payload 4 4)) →
    ∃ t, Sys2Proof.Machine.exec (.write m payload) s = .next t ∧
      t.out = s.out ++ [replyOf m 2 Status.badAddress (leBytes 4 0)] ∧ SameMemory s t ∧
      SameWords s t [R.NP_RX_FRAMES m.np, R.NP_TX_FRAMES m.np, R.CFG_REFUSED]) ∧
  (∀ (s : State) (m : Msg) (payload : List Byte), le payload 0 4 % 4 ≠ 0 →
    s.takes m ⟨1, 41002, false, payload.length == 8 && decide (1 ≤ le payload 4 4 ∧ le payload 4 4 ≤ 2048), 8 + 4 * le payload 4 4,
      true, true⟩ →
    ∃ t, Sys2Proof.Machine.exec (.read m payload) s = .next t ∧
      t.out = s.out ++ [replyOf m 1 Status.badAddress []] ∧ SameMemory s t ∧
      SameWords s t [R.NP_RX_FRAMES m.np, R.NP_TX_FRAMES m.np])

/-- For every command that is a management message: where the module hears its port and R89 discards the datagram, the state is the old
one with one received frame and one discarded message more, and no reply leaves; where the module does not hear (Night, the core off, in
the maintenance state any port but 41002, a network port in far-end loop-back), nothing happens at all. -/
def Obligations.DiscardedDatagrams : Prop :=
  (∀ (s : State) (c : Instr) (m : Msg) (port : Nat), messageOf c = some (m, port) → s.hears m.np port = true → s.discards m = true →
    Sys2Proof.Machine.exec c s = .next ((s.heard m).inc R.MGMT_DISCARD_COUNT).latch) ∧
  (∀ (s : State) (c : Instr) (m : Msg) (port : Nat), messageOf c = some (m, port) → s.hears m.np port = false →
    Sys2Proof.Machine.exec c s = .next s.latch)

/-- For every register WRITE command: where its SEQ is that of a reply held for its source for less than 1 s, the held reply is sent
again and MGMT_DUP counts one; nothing else changes, so the WRITE is not carried out a second time (R96). -/
def Obligations.RepeatedRequests : Prop :=
  ∀ (s : State) (c : Instr) (m : Msg) (addr : Nat) (ws : List Word) (ex : Extra) (h : Held),
    writeOf c = some (m, addr, ws, ex) → s.hears m.np 41002 = true → s.discards m = false → m.version = 1 → m.dst.toNat = 41002 →
    s.forwarded m = false → s.fresh.find? (fun x => ofSource m.ip m.port x && x.seq == m.seq) = some h →
    ∃ t, Sys2Proof.Machine.exec c s = .next t ∧ t.out = s.out ++ [replyOf m h.type h.status h.payload] ∧
      t.rd R.MGMT_DUP_COUNT = (s.rd R.MGMT_DUP_COUNT + 1) % 2 ^ 32 ∧
      t = { s with regs := t.regs, out := t.out, spans := { s.spans with leaves := t.spans.leaves } } ∧
      SameWords s t [R.NP_RX_FRAMES m.np, R.NP_TX_FRAMES m.np, R.MGMT_DUP]

/-- For every command that is a WRITE of registers (NIGHT_REQ, RESTART, FAULT_LATCH_CLEAR, CTRL_SET, CTRL_CLR, STATUS_STICKY_CLEAR,
FUNC_WRITE, DMA_RUN, DMA_DOORBELL, DMA_PAUSE, DMA_RESUME, DMA_MODE, WINDOW_OPEN, WINDOW_CLOSE, DRAIN, KEY_WRITE, KEY_CLEAR, CX_DOORBELL,
EVD_RESEND, PRESET, COMPARE_ARM, COMPARE_DISARM, STOP_REQ, STOP_RESUME, SERIAL_PEND_WRITE, CAL, LANE_RESUME, RETRAIN, the five MEND
commands, CP_ARM, PORT_CFG_WRITE, PI_CFG_WRITE, TB_SET, TB_ADJ, ACCEPT, SNAPSHOT, PREF_WRITE, RELEASE, UNRETIRE_A, UNRETIRE_B, ENTER,
LEAVE, BIST, JOURNAL and the four loop-backs): where it is served, passes every check and stays in this module, the module commits all
its words with their actions to the state that has received the message, answers OK with 0xFFFFFFFF and holds the reply. The same words
sent as a WRITE message do the same. -/
def Obligations.RegisterWrites : Prop :=
  (∀ (s : State) (c : Instr) (m : Msg) (addr : Nat) (ws : List Word) (ex : Extra), writeOf c = some (m, addr, ws, ex) →
    s.writes m addr ws ex →
    Sys2Proof.Machine.exec c s =
      .next (((s.heard m).commitWrite ((s.heard m).writeCtx m addr ws ex)).answer m 2 true false Status.ok (leBytes 4 0xFFFFFFFF)).latch)
        ∧
  (∀ (s : State) (m : Msg) (payload : List Byte), payload.length = 8 + 4 * le payload 4 4 →
    s.writes m (le payload 0 4) (wordsFrom payload 8 (le payload 4 4)) {} →
    Sys2Proof.Machine.exec (.write m payload) s =
      .next (((s.heard m).commitWrite
        ((s.heard m).writeCtx m (le payload 0 4) (wordsFrom payload 8 (le payload 4 4)) {})).answer m 2 true false Status.ok
          (leBytes 4 0xFFFFFFFF)).latch)

/-- For every command that is a WRITE of registers, and for the WRITE message: where a check refuses word i with a STATUS, the reply
carries that STATUS and i, CFG_REFUSED counts one, and no word is applied: every register and table word holds what it held but the
counters of messages, PWR_ERR for a NIGHT_REQ in a wrong state and PIN_ERR for a FUNC value that conflicts, with the words its event
counts in. -/
def Obligations.RefusedWrites : Prop :=
  (∀ (s : State) (c : Instr) (m : Msg) (addr : Nat) (ws : List Word) (ex : Extra) (st i : Nat), writeOf c = some (m, addr, ws, ex) →
    s.takesWrite m addr ws → (s.heard m).checkWrite ((s.heard m).writeCtx m addr ws ex) = some (st, i) → st ≠ 0 →
    ∃ t, Sys2Proof.Machine.exec c s = .next t ∧ replyOf m 2 st (leBytes 4 i) ∈ t.out ∧
      t.rd R.CFG_REFUSED_COUNT = (s.rd R.CFG_REFUSED_COUNT + 1) % 2 ^ 32 ∧
      t = { s.noticed t with held := t.held } ∧
      SameWords s t ([R.NP_RX_FRAMES m.np, R.CFG_REFUSED, R.PWR_ERR, R.PIN_ERR] ++ eventWords)) ∧
  (∀ (s : State) (m : Msg) (payload : List Byte) (st i : Nat), payload.length = 8 + 4 * le payload 4 4 →
    s.takesWrite m (le payload 0 4) (wordsFrom payload 8 (le payload 4 4)) →
    (s.heard m).checkWrite ((s.heard m).writeCtx m (le payload 0 4) (wordsFrom payload 8 (le payload 4 4)) {}) = some (st, i) → st ≠ 0 →
    ∃ t, Sys2Proof.Machine.exec (.write m payload) s = .next t ∧ replyOf m 2 st (leBytes 4 i) ∈ t.out ∧
      t = { s.noticed t with held := t.held } ∧
      SameWords s t ([R.NP_RX_FRAMES m.np, R.CFG_REFUSED, R.PWR_ERR, R.PIN_ERR] ++ eventWords))

/-- A READ that is served, stays in this module and touches only defined words is answered OK with its address, its count and the words;
a READ that touches one that is not defined is answered BAD_ADDRESS as a whole. Neither memory changes, and of the state only the
counters of messages, the registers a read resets (LGn_REV_MAX and VIN_MIN) and the count of free values. -/
def Obligations.Reads : Prop :=
  (∀ (s : State) (m : Msg) (payload : List Byte) (ws : List Word),
    s.takes m ⟨1, 41002, false, payload.length == 8 && decide (1 ≤ le payload 4 4 ∧ le payload 4 4 ≤ 2048), 8 + 4 * le payload 4 4,
      true, true⟩ →
    (s.heard m).mirrored (le payload 0 4) (le payload 4 4) = none →
    (s.heard m).readRange (le payload 0 4) (le payload 4 4) = some ws →
    ∃ t, Sys2Proof.Machine.exec (.read m payload) s = .next t ∧
      t.out = s.out ++ [replyOf m 1 Status.ok (leBytes 4 (le payload 0 4) ++ leBytes 4 (le payload 4 4) ++ wordBytes ws)] ∧
      t = { s with regs := t.regs, out := t.out, free := s.free + 1, spans := { s.spans with leaves := t.spans.leaves } } ∧
      SameWords s t ([R.NP_RX_FRAMES m.np, R.NP_TX_FRAMES m.np, R.SUP_VIN] ++ (List.range 16).map R.LG_REV_MAX)) ∧
  (∀ (s : State) (m : Msg) (payload : List Byte),
    s.takes m ⟨1, 41002, false, payload.length == 8 && decide (1 ≤ le payload 4 4 ∧ le payload 4 4 ≤ 2048), 8 + 4 * le payload 4 4,
      true, true⟩ →
    (s.heard m).mirrored (le payload 0 4) (le payload 4 4) = none →
    (s.heard m).readRange (le payload 0 4) (le payload 4 4) = none →
    ∃ t, Sys2Proof.Machine.exec (.read m payload) s = .next t ∧ t.out = s.out ++ [replyOf m 1 Status.badAddress []] ∧
      SameWords s t [R.NP_RX_FRAMES m.np, R.NP_TX_FRAMES m.np])

/-- SUBSCRIBE from a new source fills the first free slot with its address, port, network port and masks and an empty queue, and is
answered with the slot; UNSUBSCRIBE frees the sender's slot; EVENT_ACK removes every event up to its NUMBER from the sender's queue and
sends no reply; EVENT_RESEND stamps anew what it sends again, while the link of the slot's port is up; SUBSCRIBER_DROPPED when due frees
the slot. Each keeps the rest of the module as it was. -/
def Obligations.Subscriptions : Prop :=
  (∀ (s : State) (m : Msg) (payload : List Byte) (k : Nat), s.takes m ⟨0x22, 41002, true, payload.length == 8, 4, false, false⟩ →
    s.slotOf m.ip m.port = none → (List.range 4).find? (fun j => s.rd (R.SUB_IP_IP j) == 0) = some k →
    ∃ t, Sys2Proof.Machine.exec (.subscribe m payload) s = .next t ∧ t.rd (R.SUB_IP_IP k) = m.ip.toNat ∧
      t.rd (R.SUB_CFG_PORT k) = m.port.toNat ∧ t.rd (R.SUB_CFG_NP k) = m.np.val ∧ t.rd (R.SUB_CFG_CLASSES k) = le payload 0 1 % 8 ∧
      t.rd (R.SUB_GROUPS_GROUPS k) = le payload 4 4 % 131072 ∧ t.sub k = {} ∧
      t.out = s.out ++ [replyOf m 0x22 Status.ok (leBytes 4 k)] ∧
      t = { s.noticed t with held := t.held } ∧
      SameWords s t [R.NP_RX_FRAMES m.np, R.NP_TX_FRAMES m.np, R.SUB_IP k, R.SUB_CFG k, R.SUB_GROUPS k, R.CFG_WRITES]) ∧
  (∀ (s : State) (m : Msg) (payload : List Byte) (k : Nat), s.takes m ⟨0x23, 41002, true, payload.isEmpty, 0, false, false⟩ →
    s.slotOf m.ip m.port = some k →
    ∃ t, Sys2Proof.Machine.exec (.unsubscribe m payload) s = .next t ∧ t.rd (R.SUB_IP_IP k) = 0 ∧ t.sub k = {} ∧
      t.out = s.out ++ [replyOf m 0x23 Status.ok []] ∧
      t = { s.noticed t with held := t.held } ∧
      SameWords s t [R.NP_RX_FRAMES m.np, R.NP_TX_FRAMES m.np, R.SUB_IP k, R.CFG_WRITES]) ∧
  (∀ (s : State) (m : Msg) (payload : List Byte) (k : Nat), s.hears m.np 41002 = true → s.discards m = false → m.version = 1 →
    m.dst.toNat = 41002 → s.stateRefusal ⟨0x21, 41002, false, true, 0, false, false⟩ = none → payload.length = 4 →
    s.slotOf m.ip m.port = some k →
    ∃ t, Sys2Proof.Machine.exec (.eventAck m payload) s = .next t ∧
      (t.sub k).queue = (s.sub k).queue.filter (fun r => decide (le payload 0 4 < r.no)) ∧ (t.sub k).next = (s.sub k).next ∧
      (∀ j, j ≠ k → t.sub j = s.sub j) ∧ t.out = s.out ∧
      t = { s with regs := t.regs, subs := t.subs, spans := { s.spans with leaves := t.spans.leaves } } ∧
      SameWords s t [R.NP_RX_FRAMES m.np]) ∧
  (∀ (s : State) (k : Fin 4) (old : List EvRec), s.awake = true → s.carries (s.rd (R.SUB_CFG_NP k)) = true →
    old = ((s.sub k).queue.filter (fun r => r.sentAt.any (fun x => decide (x + usTicks 100000 ≤ s.time)))).take 60 → old ≠ [] →
    ∃ t, Sys2Proof.Machine.exec (.eventResend k) s = .next t ∧
      (∀ j, j ≠ k.val → t.sub j = s.sub j) ∧ (t.sub k).next = (s.sub k).next ∧ (t.sub k).queue.map (·.no) = (s.sub k).queue.map (·.no) ∧
      (∀ r, old.getLast? = some r → { r with sentAt := some s.time } ∈ (t.sub k).queue) ∧
      t = s.noticed t ∧
      SameWords s t eventWords) ∧
  (∀ (s : State) (k : Fin 4), s.awake = true → s.dropDue k = true →
    ∃ t, Sys2Proof.Machine.exec (.subscriberDropped k) s = .next t ∧ t.rd (R.SUB_IP_IP k) = 0 ∧ (t.sub k).queue = [] ∧
      t = s.noticed t ∧
      SameWords s t ([R.SUB_IP k] ++ eventWords))

/-- Where the WRITE is accepted: CTRL_SET sets and CTRL_CLR clears the written control bits in every leaf beneath the span and in no
other; STATUS_STICKY clears the written latched bits there but those whose cause still stands; FAULT_LATCH clears the written bits but
those of a group whose fault-class cause is still active. SPAN_SNAPSHOT when due raises the snapshot number by one and gives each leaf
the LATE bit of its interval; FUNC_APPLY with no line in flight puts every pending FUNC in force. -/
def Obligations.SpanCommands : Prop :=
  (∀ (s : State) (m : Msg) (span : BitVec 12) (v : Word), s.accepts (.ctrlSet m span v) →
    ∃ t, Sys2Proof.Machine.exec (.ctrlSet m span v) s = .next t ∧
      ∀ c, (t.leaf c).ctrl = if c ∈ s.leavesOf span.toNat then (s.leaf c).ctrl ||| BitVec.ofNat 16 v.toNat else (s.leaf c).ctrl) ∧
  (∀ (s : State) (m : Msg) (span : BitVec 12) (v : Word), s.accepts (.ctrlClr m span v) →
    ∃ t, Sys2Proof.Machine.exec (.ctrlClr m span v) s = .next t ∧
      ∀ c, (t.leaf c).ctrl = if c ∈ s.leavesOf span.toNat then (s.leaf c).ctrl &&& ~~~(BitVec.ofNat 16 v.toNat) else (s.leaf c).ctrl) ∧
  (∀ (s : State) (m : Msg) (span : BitVec 12) (v : Word), s.accepts (.statusStickyClear m span v) →
    ∃ t, Sys2Proof.Machine.exec (.statusStickyClear m span v) s = .next t ∧
      ∀ c, c ∈ s.leavesOf span.toNat → ∀ i : Fin 10, v.getLsbD i = true → (BitVec.ofNat 10 (t.leafNow c)).getLsbD i = false →
        (t.leaf c).sticky.getLsbD i = false) ∧
  (∀ (s : State) (m : Msg) (v : Word), s.accepts (.faultLatchClear m v) →
    ∃ t, Sys2Proof.Machine.exec (.faultLatchClear m v) s = .next t ∧
      ∀ i : Fin 17, (t.word R.FAULT_LATCH).getLsbD i =
        ((s.word R.FAULT_LATCH).getLsbD i && (!v.getLsbD i || (BitVec.ofNat 17 s.latchKept).getLsbD i))) ∧
  (∀ (s : State) (m : Msg) (mfp : Fin 16) (v : Word), s.accepts (.funcWrite m mfp v) →
    ∃ t, Sys2Proof.Machine.exec (.funcWrite m mfp v) s = .next t ∧ t.eff (R.MFP_CFG_FUNC mfp) = bits v.toNat 0 6 ∧
      t.rd (R.MFP_CFG_FUNC mfp) = s.rd (R.MFP_CFG_FUNC mfp)) ∧
  (∀ s : State, s.snapDue = true → s.leafChannels.Nodup →
    ∃ t, Sys2Proof.Machine.exec .spanSnapshot s = .next t ∧ t.spans.snap = (s.spans.snap + 1) % 2 ^ 32 ∧
      t.spans.snapAt = some s.time ∧
      (∀ c ∈ s.leafChannels, (t.leaf c).late = (s.leaf c).blanked ∧ (t.leaf c).blanked = false ∧
        (t.leaf c).snapLines = (t.leaf c).lines ∧ (t.leaf c).ctrl = (s.leaf c).ctrl &&& 0x7FFF ∧
        (t.leaf c).lines = if (s.leaf c).ctrl.getLsbD 15 then 0 else (s.leaf c).lines) ∧
      t = { s with
          spans := { s.spans with leaves := t.spans.leaves, snap := t.spans.snap, snapAt := t.spans.snapAt } }) ∧
  (∀ s : State, s.awake = true → s.anyActive = false →
    ∃ t, Sys2Proof.Machine.exec .funcApply s = .next t ∧
      (∀ k : Fin 16, t.pendWord (R.MFP_CFG k) = none ∧
        ∀ w, s.pendWord (R.MFP_CFG k) = some w → t.rd (R.MFP_CFG_FUNC k) = bits w.toNat 0 6) ∧
      t = { s with
          regs := t.regs, pendw := t.pendw, spans := { s.spans with leaves := t.spans.leaves } } ∧
      SameWords s t ((List.range 16).map R.MFP_CFG))

/-- A SET_REPORT of a configured follower is stored, marks it heard and ends its SET_MEMBER_LOST; SET_REPORT_SEND when due notes its
time; SET_MEMBER_LOST when due marks the follower lost with its condition active. FOLLOWER_REPLY to a mirrored request is answered to
the host with the follower's STATUS, the last reply to a group WRITE with OK; a request 2 ms old is answered REMOTE_TIMEOUT. The request
sent on is over in each. -/
def Obligations.ModuleSets : Prop :=
  (∀ (s : State) (m : Msg) (payload : List Byte) (k : Nat), s.followerOf m.ip = some k → s.hears m.np 41002 = true → s.discards m = false
    →
    m.version = 1 → m.dst.toNat = 41002 → s.stateRefusal ⟨0x50, 41002, false, true, 0, false, false⟩ = none → payload.length = 68 →
    ∃ t, Sys2Proof.Machine.exec (.setReport m payload) s = .next t ∧ (t.follower k).at_ = s.time ∧ (t.follower k).heard = true ∧
      (t.follower k).lost = false ∧ (t.follower k).snap = BitVec.ofNat 32 (le payload 0 4) ∧
      (t.follower k).block = wordsFrom payload 4 16 ∧ t.condActive Ev.SET_MEMBER_LOST k = false ∧
      (∀ j, j ≠ k → t.follower j = s.follower j) ∧
      t = { s.noticed t with held := t.held, followers := t.followers } ∧
      SameWords s t ([R.NP_RX_FRAMES m.np] ++ eventWords)) ∧
  (∀ s : State, s.reportDue = true →
    ∃ t, Sys2Proof.Machine.exec .setReportSend s = .next t ∧ t.spans.reportAt = some s.time ∧
      t = { s.noticed t with
          spans := { s.spans with leaves := t.spans.leaves, reportAt := t.spans.reportAt } } ∧
      SameWords s t eventWords) ∧
  (∀ (s : State) (k : Fin 15), s.awake = true → s.memberDue k = true →
    ∃ t, Sys2Proof.Machine.exec (.setMemberLost k) s = .next t ∧ (t.follower k).lost = true ∧ (t.follower k).sticky = true ∧
      t.condActive Ev.SET_MEMBER_LOST k = true ∧ (∀ j, j ≠ k.val → t.follower j = s.follower j) ∧
      t = { s.noticed t with followers := t.followers } ∧
      SameWords s t eventWords) ∧
  (∀ (s : State) (k : Fin 15) (seq : Word) (st : BitVec 16) (payload : List Byte) (f : Fwd), s.awake = true → s.fwdOf k seq = some f →
    (f.mirror = true →
      ∃ t, Sys2Proof.Machine.exec (.followerReply k seq st payload) s = .next t ∧ f ∉ t.fwds ∧
        t.out = s.out ++ [replyOf f.msg f.type st.toNat (s.mirrorReply f k st.toNat payload)] ∧
        t = { s with
          regs := t.regs, held := t.held, fwds := t.fwds, spans := { s.spans with leaves := t.spans.leaves }, life := t.life,
          out := t.out }) ∧
    (f.mirror = false → f.waiting = [k.val] →
      ∃ t, Sys2Proof.Machine.exec (.followerReply k seq st payload) s = .next t ∧ f ∉ t.fwds ∧
        t.out = s.out ++ [replyOf f.msg f.type Status.ok (leBytes 4 0xFFFFFFFF)])) ∧
  (∀ (s : State) (k : Fin 15) (seq : Word) (f : Fwd), s.awake = true → s.fwdOf k seq = some f → f.at_ + usTicks 2000 ≤ s.time →
    ∃ t, Sys2Proof.Machine.exec (.remoteTimeout k seq) s = .next t ∧ f ∉ t.fwds ∧
      t.out = s.out ++ [replyOf f.msg f.type Status.remoteTimeout []] ∧
      t = { s with
          regs := t.regs, held := t.held, fwds := t.fwds, spans := { s.spans with leaves := t.spans.leaves }, life := t.life,
          out := t.out })

/-- An ABORT that is served before the commit point of its unit: a DMA channel, a decompressor, a compressor and a camera pipeline show
ABORTED and not DONE, and a channel is idle, a compressor without a job, a pipeline without a frame; a head lane shows ABORTED and is
held by the host; a sequencer in control loses it to its twin, shows ABORTED and HOLD is set; a piece that is not completed leaves the
queue with a completion record. A unit that does not exist is answered BAD_TARGET and one at or past its commit point ALREADY_DONE, and
nothing changes but the counts of messages and the reply store. -/
def Obligations.AbortUnits : Prop :=
  (∀ (s : State) (m : Msg) (i : Word), s.takes m abortReq → i.toNat < 16 → s.dmaState i.toNat ≠ dmaIntake → s.dmaState i.toNat ≠ dmaIdle →
    s.dmaState i.toNat ≠ dmaTail → (s.dmaCh i.toNat).tail = false →
    ∃ t, Sys2Proof.Machine.exec (.abortDma m i) s = .next t ∧ t.rd (R.DMA_STATUS_ABORTED i.toNat) = 1 ∧
      t.rd (R.DMA_STATUS_DONE i.toNat) = 0 ∧ t.dmaState i.toNat = dmaIdle ∧
      t = { s.noticed t with
          hbm := t.hbm, held := t.held, windows := t.windows, dma := t.dma, mem := { s.mem with bad := t.mem.bad },
          iron := { s.iron with bins := t.iron.bins, est := t.iron.est } }) ∧
  (∀ (s : State) (m : Msg) (i : Word) (x : DxJob), s.takes m abortReq → i.toNat < 16 → Sparse.get none s.dx i.toNat = some x →
    x.checked = false →
    ∃ t, Sys2Proof.Machine.exec (.abortDecompressor m i) s = .next t ∧ t.rd (R.DX_STATUS_ABORTED i.toNat) = 1 ∧
      t.rd (R.DX_STATUS_DONE i.toNat) = 0 ∧
      t = { s with
          regs := t.regs, held := t.held, spans := { s.spans with leaves := t.spans.leaves }, pieces := t.pieces,
          rejects := t.rejects, dx := t.dx, life := t.life, out := t.out }) ∧
  (∀ (s : State) (m : Msg) (i : Word), s.takes m abortReq → i.toNat < 4 → (s.cxu i.toNat).cur.isSome = true →
    ∃ t, Sys2Proof.Machine.exec (.abortCompressor m i) s = .next t ∧ t.rd (R.CX_STATUS_ABORTED i.toNat) = 1 ∧
      t.rd (R.CX_STATUS_DONE i.toNat) = 0 ∧ t.rd (R.CX_STATUS_STATE i.toNat) = 0 ∧ (t.cxu i.toNat).cur = none ∧
      t = { s.noticed t with
          hbm := t.hbm, held := t.held, cx := t.cx, cams := t.cams, evd := t.evd }) ∧
  (∀ (s : State) (m : Msg) (i : Word), s.takes m abortReq → i.toNat < 4 → s.cpOn i.toNat = true → (s.cam i.toNat).frame.isSome = true →
    ∃ t, Sys2Proof.Machine.exec (.abortPipeline m i) s = .next t ∧ t.rd (R.CP_STATUS_ABORTED i.toNat) = 1 ∧
      t.rd (R.CP_STATUS_DONE i.toNat) = 0 ∧ (t.cam i.toNat).frame = none ∧
      t = { s.noticed t with held := t.held, cx := t.cx, cams := t.cams }) ∧
  (∀ (s : State) (m : Msg) (i : Word), s.takes m abortReq → i.toNat < 16 → s.laneOn i.toNat = true → s.laneServes i.toNat = true →
    s.lastLane i.toNat = false →
    ∃ t, Sys2Proof.Machine.exec (.abortLane m i) s = .next t ∧ t.rd (R.HL_STATE_ABORTED i.toNat) = 1 ∧
      (t.lane i.toNat).heldByHost = true ∧ t.laneServes i.toNat = false ∧
      t = { s.noticed t with
          hbm := t.hbm, pow := { s.pow with lastBusy := t.pow.lastBusy }, held := t.held, pieces := t.pieces, ended := t.ended,
          rejects := t.rejects, tgs := t.tgs, ring := t.ring, windows := t.windows, dma := t.dma, dx := t.dx, cx := t.cx,
          stop := { s.stop with active := t.stop.active }, mem := { s.mem with bad := t.mem.bad }, lanes := t.lanes,
          flights := t.flights, hist := t.hist, cams := t.cams, iron := { s.iron with bins := t.iron.bins, est := t.iron.est },
          evd := t.evd, evid := t.evid, seqs := t.seqs, verify := t.verify }) ∧
  (∀ (s : State) (m : Msg) (i : Word), s.takes m abortReq → i.toNat < 2 → s.sqState i.toNat = sqActive →
    s.sqForms (twinOf i.toNat) = true →
    ∃ t, Sys2Proof.Machine.exec (.abortSequencer m i) s = .next t ∧ t.rd R.SEQ_STATE_ACTIVE = twinOf i.toNat ∧
      t.rd R.SEQ_STATE_HOLD = 1 ∧ t.rd (R.SQ_STATUS_ABORTED i.toNat) = 1 ∧ t.sqState (twinOf i.toNat) = sqActive ∧
      (t.sqState i.toNat = sqOut ∨ t.sqState i.toNat = sqRetired) ∧
      t.rd R.SEQ_FAILOVERS_COUNT = (s.rd R.SEQ_FAILOVERS_COUNT + 1) % 2 ^ 32 ∧
      t = { s.noticed t with
          pow := { s.pow with lastBusy := t.pow.lastBusy }, held := t.held, pieces := t.pieces, ended := t.ended,
          rejects := t.rejects, tgs := t.tgs, ring := t.ring, stop := { s.stop with active := t.stop.active }, hist := t.hist,
          evid := t.evid, seqs := t.seqs, verify := t.verify }) ∧
  (∀ (s : State) (m : Msg) (i : Word), s.takes m abortReq → (s.piece i.toNat).isSome = true →
    ∃ t, Sys2Proof.Machine.exec (.abortPiece m (abortOf 7 i)) s = .next t ∧ t.piece i.toNat = none ∧
      t.rd R.PQ_LOG_COUNT_COUNT = (s.rd R.PQ_LOG_COUNT_COUNT + 1) % 2 ^ 32 ∧
      t = { s.noticed t with
          pow := { s.pow with lastBusy := t.pow.lastBusy }, held := t.held, pieces := t.pieces, ended := t.ended,
          rejects := t.rejects, ring := t.ring, evid := t.evid, verify := t.verify }) ∧
  (∀ (s : State) (m : Msg) (i : Word) (c : Instr), s.takes m abortReq →
    ((c = .abortDma m i ∨ c = .abortDecompressor m i ∨ c = .abortLane m i) ∧ 16 ≤ i.toNat) ∨
      ((c = .abortCompressor m i ∨ c = .abortPipeline m i) ∧ 4 ≤ i.toNat) ∨ (c = .abortSequencer m i ∧ 2 ≤ i.toNat) →
    Sys2Proof.Machine.exec c s = .next ((s.heard m).answer m 0x30 true false Status.badTarget []).latch) ∧
  (∀ (s : State) (m : Msg) (i : Word) (c : Instr), s.takes m abortReq →
    (c = .abortDma m i ∧ i.toNat < 16 ∧ s.dmaState i.toNat = dmaIdle) ∨
      (c = .abortDecompressor m i ∧ i.toNat < 16 ∧ Sparse.get none s.dx i.toNat = none) ∨
      (c = .abortLane m i ∧ i.toNat < 16 ∧ s.laneOn i.toNat = true ∧ s.laneServes i.toNat = false) ∨
      (c = .abortSequencer m i ∧ i.toNat < 2 ∧ s.sqState i.toNat ≠ sqActive) →
    Sys2Proof.Machine.exec c s = .next ((s.heard m).answer m 0x30 true false Status.alreadyDone []).latch)

/-- NVM_DATA within the staging area puts its bytes there and nowhere else, raises STAGE_LEN to the end of the longest data and is
answered OK; during a commit it is answered NVM_BUSY and beyond the area STAGE_RANGE, with the staging area unchanged. NVM_COMMIT of a
staged body that passes its checks starts the commit of the next generation with the erase of the target's header; a wrong CRC and an
image that breaks a rule are answered as such and start nothing. NVM_READ of a range inside its region returns the flash's bytes and
changes nothing. -/
def Obligations.StagingAndReading : Prop :=
  (∀ (s : State) (m : Msg) (payload : List Byte),
    s.takes m ⟨0x40, 41002, false, decide (8 ≤ payload.length) && payload.length % 4 == 0, 0, true, false⟩ →
    ∃ t, Sys2Proof.Machine.exec (.nvmData m payload) s = .next t ∧
      (s.committing = true → t.hbm = s.hbm ∧ replyOf m 0x40 Status.nvmBusy [] ∈ t.out) ∧
      (s.committing = false → 0xC00000 < le payload 0 4 + (payload.length - 4) →
        t.hbm = s.hbm ∧ replyOf m 0x40 Status.stageRange [] ∈ t.out) ∧
      (s.committing = false → le payload 0 4 + (payload.length - 4) ≤ 0xC00000 →
        (∀ a, Sparse.get 0 t.hbm a =
          if stageBase + le payload 0 4 ≤ a ∧ a < stageBase + le payload 0 4 + (payload.length - 4)
          then payload.getD (4 + (a - (stageBase + le payload 0 4))) 0 else Sparse.get 0 s.hbm a) ∧
        t.rd R.STAGE_LEN_BYTES = max (s.rd R.STAGE_LEN_BYTES) (le payload 0 4 + (payload.length - 4)) ∧
        t.rd R.NVM_OP_OP = 1 ∧ replyOf m 0x40 Status.ok [] ∈ t.out) ∧
      t = { s with
          regs := t.regs, hbm := t.hbm, pow := { s.pow with lastBusy := t.pow.lastBusy, phase := t.pow.phase }, held := t.held,
          spans := { s.spans with leaves := t.spans.leaves }, lanes := t.lanes, life := t.life, out := t.out }) ∧
  (∀ (s : State) (m : Msg) (payload : List Byte), s.takes m ⟨0x41, 41002, true, payload.length == 28, 4, true, false⟩ →
    s.committing = false →
    ∃ t, Sys2Proof.Machine.exec (.nvmCommit m payload) s = .next t ∧
      (le payload 0 4 ≤ 0xC00000 → crc32 (s.hbmRead stageBase (le payload 0 4)) ≠ le payload 4 4 →
        t.nvm.commit = s.nvm.commit ∧ t.rd R.NVM_ERR_CRC_MISMATCH = 1 ∧ replyOf m 0x41 Status.crcMismatch [] ∈ t.out) ∧
      (le payload 0 4 ≤ 0xC00000 → crc32 (s.hbmRead stageBase (le payload 0 4)) = le payload 4 4 →
        (s.heard m).bodyOk (le payload 0 4) (le payload 8 2) (s.hbmRead stageBase (le payload 0 4)) = false →
        t.nvm.commit = s.nvm.commit ∧ t.rd R.NVM_ERR_IMAGE_INVALID = 1 ∧ replyOf m 0x41 Status.imageInvalid [] ∈ t.out) ∧
      (le payload 0 4 ≤ 0xC00000 → crc32 (s.hbmRead stageBase (le payload 0 4)) = le payload 4 4 →
        (s.heard m).bodyOk (le payload 0 4) (le payload 8 2) (s.hbmRead stageBase (le payload 0 4)) = true → s.newGen < 0xFFFFFFFF →
        t.nvm.commit.step = .eraseHeader ∧ t.nvm.commit.target = s.commitTarget ∧ t.nvm.commit.gen = s.newGen ∧
        t.nvm.commit.len = le payload 0 4 ∧ t.nvm.commit.deferred = s.nvmShut ∧ t.rd R.STAGE_LEN_BYTES = 0 ∧
        replyOf m 0x41 Status.ok (leBytes 4 s.newGen) ∈ t.out) ∧
      t = { s.noticed t with nvm := { s.nvm with due := t.nvm.due, lastHostFault := t.nvm.lastHostFault, commit := t.nvm.commit },
                             held := t.held }) ∧
  (∀ (s : State) (m : Msg) (payload : List Byte),
    s.takes m ⟨0x42, 41002, false, payload.length == 12 && decide (4 ≤ le payload 8 4 ∧ le payload 8 4 ≤ 8192) && le payload 8 4 % 4 == 0,
      8 + le payload 8 4, true, false⟩ →
    le payload 0 1 ≤ 2 → le payload 4 4 + le payload 8 4 ≤ (s.region (le payload 0 1)).2 →
    ∃ t, Sys2Proof.Machine.exec (.nvmRead m payload) s = .next t ∧
      t.out = s.out ++ [replyOf m 0x42 Status.ok (leBytes 4 (le payload 4 4) ++ leBytes 4 (le payload 8 4) ++
        s.flashRead ((s.region (le payload 0 1)).1 + le payload 4 4) (le payload 8 4))] ∧
      t = { s with regs := t.regs, out := t.out, spans := { s.spans with leaves := t.spans.leaves } } ∧
      SameWords s t [R.NP_RX_FRAMES m.np, R.NP_TX_FRAMES m.np])

/-- FLASH_OP_DONE with success: of a journal write the record stands in its slot of the ring and the next record takes the next slot; of
the ring's erase the block reads erased; of a state-store write the store's generation is one up and its half is the newest; of the last
step of a commit the target slot is valid with the new generation and no commit runs; of the erase of the target's header the slot is
invalid. With failure of a commit's step no commit runs and NVM_OP reads 0. The flash changes only where the operation acts. -/
def Obligations.FlashOperations : Prop :=
  (∀ (s : State) (slot c : Nat) (b : List Byte), s.powered = true → s.nvm.jWrite = some (slot, c, b) →
    ∃ t, Sys2Proof.Machine.exec (.flashOpDone .ok) s = .next t ∧ t.flash = (s.flashProgram (s.journalBase + 512 * slot) b).flash ∧
      t.nvm.jNext = (slot + 1) % 8192 ∧ t.rd R.LIFE_POS_SLOT = slot % 2 ^ 13 ∧ t.rd R.LIFE_GEN_GEN = le b 4 4 % 2 ^ 32 ∧ t.hbm = s.hbm) ∧
  (∀ (s : State) (blk : Nat), s.powered = true → s.nvm.jWrite = none → s.nvm.jErase = some blk →
    ∃ t, Sys2Proof.Machine.exec (.flashOpDone .ok) s = .next t ∧ t.nvm.jErase = none ∧
      (∀ a, Sparse.get 0xFF t.flash a =
        if s.journalBase + 0x10000 * blk ≤ a ∧ a < s.journalBase + 0x10000 * blk + 0x10000 then 0xFF else Sparse.get 0xFF s.flash a) ∧
      t.hbm = s.hbm ∧ t.keys = s.keys) ∧
  (∀ (s : State) (h : Nat), s.powered = true → s.nvm.jWrite = none → s.nvm.jErase = none → s.nvm.stWrite = some h →
    s.pow.wipeStep ≠ 3 →
    ∃ t, Sys2Proof.Machine.exec (.flashOpDone .ok) s = .next t ∧ t.rd R.STATE_GEN_GEN = (s.rd R.STATE_GEN_GEN + 1) % 2 ^ 32 ∧
      t.rd R.NVM_SLOTS_ST_HALF = h % 2 ∧ t.nvm.stLast = s.time ∧ t.hbm = s.hbm ∧ t.keys = s.keys ∧
      ∀ a, a < s.storeBase h ∨ (s.storeBase h + 0x400000 ≤ a ∧ s.storeBase h + 0x1000 + s.nvm.stBodyNew.length ≤ a) →
        Sparse.get 0xFF t.flash a = Sparse.get 0xFF s.flash a) ∧
  (∀ s : State, s.powered = true → s.nvm.jWrite = none → s.nvm.jErase = none → s.nvm.stWrite = none → s.nvm.commit.deferred = false →
    (s.nvm.commit.step = .header →
      ∃ t, Sys2Proof.Machine.exec (.flashOpDone .ok) s = .next t ∧ t.nvm.commit = {} ∧ t.nvm.untried = none ∧
        t.rd R.NVM_OP_OP = 0 ∧
        (s.nvm.commit.target = 0 → t.rd R.NVM_SLOTS_A_VALID = 1 ∧ t.rd R.GEN_A_GEN = s.nvm.commit.gen % 2 ^ 32) ∧
        (s.nvm.commit.target = 1 → t.rd R.NVM_SLOTS_B_VALID = 1 ∧ t.rd R.GEN_B_GEN = s.nvm.commit.gen % 2 ^ 32)) ∧
    (s.nvm.commit.step = .eraseHeader →
      ∃ t, Sys2Proof.Machine.exec (.flashOpDone .ok) s = .next t ∧
        t.flash = (s.flashErase (s.slotBase s.nvm.commit.target) (s.slotBase s.nvm.commit.target + 0x1000)).flash ∧
        (s.nvm.commit.target = 0 → t.rd R.NVM_SLOTS_A_VALID = 0) ∧ (s.nvm.commit.target = 1 → t.rd R.NVM_SLOTS_B_VALID = 0)) ∧
    ∀ r, r ≠ .ok → s.nvm.commit.step ≠ .idle →
      ∃ t, Sys2Proof.Machine.exec (.flashOpDone r) s = .next t ∧ t.nvm.commit = {} ∧ t.rd R.NVM_OP_OP = 0 ∧ t.flash = s.flash)

/-- JOURNAL_WRITE of a cause that is due takes it off what is due: with the flash free its record is the one being written, in the next
slot of the ring; otherwise, unless it is the record of a supply stop that may still be written, it is the last of the records held.
STATE_STORE_WRITE when due writes nothing when the contents are those last written, waits as the pending write when the flash may not
start or a journal record comes first, and else is being written into the half that does not hold the newest store, with the contents of
this moment. -/
def Obligations.DueWrites : Prop :=
  (∀ (s : State) (k : Fin 10), s.powered = true → k.val ∈ s.nvm.due →
    ∃ t, Sys2Proof.Machine.exec (.journalWrite k) s = .next t ∧ k.val ∉ t.nvm.due ∧
      (s.nvmShut = false → s.nvm.jWrite = none → s.nvm.held = [] →
        t.nvm.jWrite = some (s.nvm.jNext, k.val, sealRecord (s.lifeBytes k.val 0) s.nextGen) ∧ t.nvm.held = []) ∧
      ((s.nvm.jWrite.isSome = true ∨ (k.val ≠ 6 ∧ (s.nvmShut = true ∨ s.nvm.held ≠ []))) →
        t.nvm.jWrite = s.nvm.jWrite ∧ t.nvm.held.getLast? = some (k.val, s.lifeBytes k.val 0)) ∧
      t = { s.noticed t with
          nvm := { s.nvm with
            due := t.nvm.due, held := t.nvm.held, jWrite := t.nvm.jWrite, lastHostFault := t.nvm.lastHostFault,
            lastPeriodic := t.nvm.lastPeriodic } } ∧
      SameWords s t ([R.NVM_DEFER, R.NVM_ERR] ++ eventWords)) ∧
  (∀ s : State, s.awake = true ∨ s.pow.phase = .nightEntry → s.nvm.stDue = true →
    ∃ t, Sys2Proof.Machine.exec .stateStoreWrite s = .next t ∧ t.nvm.stDue = false ∧
      (s.storePlain = s.nvm.stBody → t.nvm.stLast = s.time ∧ t.nvm.stWrite = s.nvm.stWrite) ∧
      (s.storePlain ≠ s.nvm.stBody → s.nvmShut = true → t.nvm.stPend = true ∧ t.nvm.stWrite = s.nvm.stWrite) ∧
      (s.storePlain ≠ s.nvm.stBody → s.nvmShut = false → s.nvm.stWrite = none → s.nvm.jWrite = none → s.nvm.held = [] →
        t.nvm.stWrite = some s.otherHalf ∧ t.nvm.stBodyNew = s.storeBody (s.rd R.STATE_GEN_GEN + 1) ∧ t.nvm.stPend = false) ∧
      t = { s.noticed t with
          nvm := { s.nvm with
            due := t.nvm.due, lastHostFault := t.nvm.lastHostFault, stBodyNew := t.nvm.stBodyNew, stDue := t.nvm.stDue,
            stLast := t.nvm.stLast, stPend := t.nvm.stPend, stWrite := t.nvm.stWrite } } ∧
      SameWords s t ([R.NVM_ERR] ++ eventWords))

/-- PUT and PUT_PIECE are one message. Into an open data window that holds it, the data goes to the window's base plus the offset and to
no other address, the range becomes written, and the reply is OK; a closed window and a number of 64 or above are answered
WINDOW_CLOSED, data past the end WINDOW_RANGE, and memory keeps every byte. Into a pieces window, a good descriptor of a number not in
use joins the end of the queue while fewer than 4,096 pieces are pending, and is answered OK; the same descriptor again is answered OK
and queues nothing, another one under its number REFUSED_VALUE. A PUT that asks for no reply gets none. -/
def Obligations.Puts : Prop :=
  ∀ (s : State) (m : Msg) (payload : List Byte) (c : Instr), c = .put m payload ∨ c = .putPiece m payload →
    s.takes m (putRequest payload) →
    ∃ t, Sys2Proof.Machine.exec c s = .next t ∧
      t = { s with
          regs := t.regs, hbm := t.hbm, pow := { s.pow with lastBusy := t.pow.lastBusy, phase := t.pow.phase }, held := t.held,
          spans := { s.spans with leaves := t.spans.leaves }, pieces := t.pieces, windows := t.windows, lanes := t.lanes,
          life := t.life, out := t.out } ∧
      (64 ≤ le payload 0 2 ∨ s.rd (R.WIN_CFG_OPEN (le payload 0 2)) = 0 →
        (bit m.flags.toNat 1 = false → replyOf m 0x10 Status.windowClosed [] ∈ t.out) ∧ t.hbm = s.hbm ∧ t.pieces = s.pieces) ∧
      (le payload 0 2 < 64 → s.rd (R.WIN_CFG_OPEN (le payload 0 2)) = 1 → s.rd (R.WIN_CFG_KIND (le payload 0 2)) = 0 →
        4096 * s.rd (R.WIN_SIZE_SIZE (le payload 0 2)) < le payload 4 4 + (payload.length - 8) →
        (bit m.flags.toNat 1 = false → replyOf m 0x10 Status.windowRange [] ∈ t.out) ∧ t.hbm = s.hbm ∧ t.windows = s.windows) ∧
      (∀ base, le payload 0 2 < 64 → s.rd (R.WIN_CFG_OPEN (le payload 0 2)) = 1 → s.rd (R.WIN_CFG_KIND (le payload 0 2)) = 0 →
        le payload 4 4 + (payload.length - 8) ≤ 4096 * s.rd (R.WIN_SIZE_SIZE (le payload 0 2)) →
        base = 4096 * s.rd (R.WIN_BASE_BASE (le payload 0 2)) + le payload 4 4 →
        (bit m.flags.toNat 1 = false → replyOf m 0x10 Status.ok [] ∈ t.out) ∧ t.pieces = s.pieces ∧ t.complete_ base (payload.length - 8)
          = true ∧
        ∀ a, Sparse.get 0 t.hbm a =
          if base ≤ a ∧ a < base + (payload.length - 8) then payload.getD (8 + (a - base)) 0 else Sparse.get 0 s.hbm a) ∧
      (∀ p : Piece, le payload 0 2 < 64 → s.rd (R.WIN_CFG_OPEN (le payload 0 2)) = 1 → s.rd (R.WIN_CFG_KIND (le payload 0 2)) = 1 →
        le payload 4 4 = 0 → payload.length = 264 → p = { desc := payload.drop 8 } → t.hbm = s.hbm ∧
        (∀ old, s.inUse p.num = some old → t.pieces = s.pieces ∧
          (bit m.flags.toNat 1 = false → replyOf m 0x10 (if old = p.desc then Status.ok else Status.refusedValue) [] ∈ t.out)) ∧
        (s.inUse p.num = none → descOk p.desc = true → (s.heard m).toDay.queueOk p = true → s.pendingPieces.length < 4096 →
          t.pieces = s.pieces ++ [{ p with repeats := p.asked }] ∧ (bit m.flags.toNat 1 = false → replyOf m 0x10 Status.ok [] ∈ t.out)) ∧
        (s.inUse p.num = none → (descOk p.desc = false ∨ (s.heard m).toDay.queueOk p = false) →
          t.pieces = s.pieces ∧ (bit m.flags.toNat 1 = false → replyOf m 0x10 Status.refusedValue [] ∈ t.out)))

/-- ADMISSION_CHECK, while admission is not paused, of a queued piece whose streams are all complete and that is not behind a waiting
piece of its bars: one that fits in what is left leaves the queue's waiting part with its channel map and its numbered bands; one whose
configuration no longer suits or whose cost fails a test is gone from the queue, with its number in the completion log. A piece that is
admitted already, or whose streams are not complete, stays as it is. -/
def Obligations.Admissions : Prop :=
  (∀ (s : State) (num : Word) (p : Piece), s.awake = true → s.piece num.toNat = some p → p.stage = .queued →
    (∀ i < p.bandCount, s.complete_ (s.bandEntry p i).1 (s.bandEntry p i).2.1 = true) → s.badStream p = none →
    s.admitPaused = false → (s.endRepeats p).behind p = false →
    (∀ bands, (s.endRepeats p).configOk p (s.chanMap p) = true → (s.endRepeats p).mayAdmit (s.chanMap p) = true →
      ((s.endRepeats p).costs p (s.chanMap p)).detail = 0 →
      ((s.endRepeats p).costs p (s.chanMap p)).pool ≤ 4096 * s.rd R.REPEAT_FREE_SIZE →
      (s.endRepeats p).number ((s.endRepeats p).costs p (s.chanMap p)).bands = some bands →
      ∃ t, Sys2Proof.Machine.exec (.admissionCheck num) s = .next t ∧
        (t.piece num.toNat).any (fun q => q.stage != .queued && q.desc == p.desc && q.chans == s.chanMap p && q.bands == bands) = true ∧
        t = { s.noticed t with
          pow := { s.pow with lastBusy := t.pow.lastBusy, phase := t.pow.phase }, pieces := t.pieces, ended := t.ended,
          rejects := t.rejects, ring := t.ring, rinses := t.rinses, lanes := t.lanes, evid := t.evid, verify := t.verify }) ∧
    ((s.endRepeats p).configOk p (s.chanMap p) = false ∨
      ((s.endRepeats p).mayAdmit (s.chanMap p) = true ∧ ((s.endRepeats p).costs p (s.chanMap p)).detail ≠ 0) →
      ∃ t, Sys2Proof.Machine.exec (.admissionCheck num) s = .next t ∧ t.piece num.toNat = none ∧
        t.ended.getLast? = some ⟨num.toNat, s.rd R.PQ_LOG_COUNT_COUNT, p.desc⟩ ∧
        t = { s.noticed t with
          pow := { s.pow with lastBusy := t.pow.lastBusy, phase := t.pow.phase }, pieces := t.pieces, ended := t.ended,
          rejects := t.rejects, ring := t.ring, rinses := t.rinses, lanes := t.lanes, evid := t.evid, verify := t.verify })) ∧
  (∀ (s : State) (num : Word) (p : Piece), s.awake = true → s.piece num.toNat = some p →
    (p.stage = .admitted ∨ (p.stage = .queued ∧ ∃ i < p.bandCount, s.complete_ (s.bandEntry p i).1 (s.bandEntry p i).2.1 = false)) →
    Sys2Proof.Machine.exec (.admissionCheck num) s = .next s.latch)

/-- An accepted edge of an enabled probe latches both encoders' true positions, the line count and the ticks since its trigger and TB2,
as they were at the edge, and counts one; one within the holdoff is only counted in IGNORED; one of another polarity or of a disabled
probe changes nothing. With no piece to bind it is unbound. A piece that it can bind starts the probe distance behind the latched line,
with a compare unit of its own while that unit is armed, unless a piece ahead ends behind that start. REJECT_OUTPUT drives the output of
a piece that is bad over its lines and marks the reject as acted. -/
def Obligations.Edges : Prop :=
  (∀ (s : State) (k : Fin 4) (rising : Bool) (age : Nat), s.awake = true →
    (s.rd (R.PROBE_CFG_EN k) = 0 ∨ (if rising then bit (s.rd (R.PROBE_CFG_EDGE k)) 0 else bit (s.rd (R.PROBE_CFG_EDGE k)) 1) = false) →
    Sys2Proof.Machine.exec (.probeEdge k rising age) s = .next s.latch) ∧
  (∀ (s : State) (k : Fin 4) (rising : Bool) (age l : Nat), s.awake = true → s.rd (R.PROBE_CFG_EN k) = 1 →
    (if rising then bit (s.rd (R.PROBE_CFG_EDGE k)) 0 else bit (s.rd (R.PROBE_CFG_EDGE k)) 1) = true →
    Sparse.get none s.probes k = some l → s.time - age < l + usTicks (s.rd (R.PROBE_HOLDOFF_US k)) →
    ∃ t, Sys2Proof.Machine.exec (.probeEdge k rising age) s = .next t ∧
      t.rd (R.PROBE_IGNORED_COUNT k) = (s.rd (R.PROBE_IGNORED_COUNT k) + 1) % 2 ^ 32 ∧
      t = { s with regs := t.regs, spans := { s.spans with leaves := t.spans.leaves } } ∧
      SameWords s t [R.PROBE_IGNORED k]) ∧
  (∀ (s : State) (k : Fin 4) (rising : Bool) (age : Nat), s.awake = true → s.rd (R.PROBE_CFG_EN k) = 1 →
    (if rising then bit (s.rd (R.PROBE_CFG_EDGE k)) 0 else bit (s.rd (R.PROBE_CFG_EDGE k)) 1) = true →
    (∀ l, Sparse.get none s.probes k = some l → l + usTicks (s.rd (R.PROBE_HOLDOFF_US k)) ≤ s.time - age) →
    (s.rd R.TEST_STATE_TEST = 1 ∨ s.bindable k = none →
      ∃ t, Sys2Proof.Machine.exec (.probeEdge k rising age) s = .next t ∧ Sparse.get none t.probes k = some (s.time - age) ∧
        t.rdW (R.PROBE_E0_LO_POS k) (R.PROBE_E0_HI_POS k) = s.encAt 0 (s.time - age) % 2 ^ 48 ∧
        t.rdW (R.PROBE_E1_LO_POS k) (R.PROBE_E1_HI_POS k) = s.encAt 1 (s.time - age) % 2 ^ 48 ∧
        t.rdW (R.PROBE_LINE_LO_POS k) (R.PROBE_LINE_HI_POS k) = (s.lineAtTick (s.rd (R.PROBE_CFG_TG k)) (s.time - age)).1 % 2 ^ 48 ∧
        t.rd (R.PROBE_PHASE_TICKS k) = (s.lineAtTick (s.rd (R.PROBE_CFG_TG k)) (s.time - age)).2 % 2 ^ 24 ∧
        t.rdW (R.PROBE_TIME_LO_NS k) (R.PROBE_TIME_HI_NS k) = (s.tb2 - 5 * (s.time - (s.time - age))) % 2 ^ 64 ∧
        t.rd (R.PROBE_COUNT_COUNT k) = (s.rd (R.PROBE_COUNT_COUNT k) + 1) % 2 ^ 32 ∧
        t.rd R.PROBE_UNBOUND_COUNT = (s.rd R.PROBE_UNBOUND_COUNT + 1) % 2 ^ 32 ∧ t.pieces = s.pieces ∧
        t = { s.noticed t with
          pow := { s.pow with lastBusy := t.pow.lastBusy, phase := t.pow.phase }, pieces := t.pieces, ended := t.ended,
          rejects := t.rejects, ring := t.ring, probes := t.probes, lanes := t.lanes, evid := t.evid, verify := t.verify }) ∧
    (∀ p u, s.rd R.TEST_STATE_TEST ≠ 1 → s.bindable k = some p → s.freeUnit (s.unitBank p.refTg) = some u →
      (s.pieces.takeWhile (fun q => q.num != p.num)).any (fun q => q.shares p &&
        q.endPos.any (fun e => decide ((s.lineAtTick (s.rd (R.PROBE_CFG_TG k)) (s.time - age)).1 + p.probeDist < e))) = false →
      ∃ t, Sys2Proof.Machine.exec (.probeEdge k rising age) s = .next t ∧
        (t.rd (R.CMP_STATUS_ARMED u) = 1 → (t.piece p.num).any (fun q => q.compare == some u &&
          q.start == some ((s.lineAtTick (s.rd (R.PROBE_CFG_TG k)) (s.time - age)).1 + p.probeDist)) = true) ∧
        Sparse.get none t.probes k = some (s.time - age) ∧
        t = { s.noticed t with
          pow := { s.pow with lastBusy := t.pow.lastBusy, phase := t.pow.phase }, pieces := t.pieces, ended := t.ended,
          rejects := t.rejects, ring := t.ring, probes := t.probes, lanes := t.lanes, evid := t.evid, verify := t.verify })) ∧
  (∀ (s : State) (num : Word) (r : Reject), s.awake = true → s.rejects.find? (fun x => x.piece == num.toNat && !x.acted) = some r →
    r.from_ ≤ s.lineCount r.tg →
    ∃ t, Sys2Proof.Machine.exec (.rejectOutput num) s = .next t ∧ (∀ x ∈ t.rejects, x.piece = num.toNat → x.acted = true) ∧
      (r.bad = true → Output.reject r.out r.tg r.from_ r.to_ ∈ t.out) ∧
      (r.bad = false → (∀ p ∈ s.pieces ++ s.verify, p.num = num.toNat → p.rejected = false ∧ p.unverified = false) → t.out = s.out) ∧
      t = { s.noticed t with pieces := t.pieces, rejects := t.rejects, verify := t.verify })

/-- DESCRIPTOR_DONE of a running channel whose reads meet no error counts one descriptor. One with END set leaves the channel in
TAIL_WAIT with DONE and nothing remaining. A descriptor whose source and destination are both in HBM, that runs forward and has moved
nothing yet, leaves the destination holding the source's bytes in the swap asked for (zeros with ZERO set), and every other byte of HBM
but the descriptor's own STATUS as it was. A channel that is not running stays as it is. -/
def Obligations.DescriptorEnds : Prop :=
  (∀ (s : State) (n : Fin 16), s.awake = true → s.dmaState n = dmaRunning →
    ∃ t, Sys2Proof.Machine.exec (.descriptorDone n []) s = .next t ∧
      t.rd (R.DMA_DESCS_COUNT n) = (s.rd (R.DMA_DESCS_COUNT n) + 1) % 2 ^ 32 ∧
      (((s.dmaMoveTo n (s.desc (s.dmaCur n)).len).desc (s.dmaCur n)).last = true → t.dmaState n = dmaTail ∧
        t.rd (R.DMA_STATUS_DONE n) = 1 ∧ t.rd (R.DMA_REMAIN_BYTES n) = 0) ∧
      (∀ d data, d = s.desc (s.dmaCur n) → tableOf d.dst = none → tableOf d.src = none → d.backward = false →
        (s.dmaCh n).moved = 0 → d.len % d.unit = 0 →
        data = (if d.zero then List.replicate d.len 0 else swapRun d.swap (s.hbmRead d.src d.len)) →
        ∀ a, a ≠ s.dmaCur n + 3 → ((s.dmaMoveTo n d.len).desc (s.dmaCur n)).last = true → Sparse.get 0 t.hbm a =
          if d.dst ≤ a ∧ a < d.dst + d.len then data.getD (a - d.dst) 0 else Sparse.get 0 s.hbm a) ∧
      t = { s.noticed t with
          hbm := t.hbm, pow := { s.pow with lastBusy := t.pow.lastBusy }, pieces := t.pieces, ended := t.ended,
          rejects := t.rejects, tgs := t.tgs, ring := t.ring, windows := t.windows, dma := t.dma,
          stop := { s.stop with active := t.stop.active, faults := t.stop.faults },
          mem := { s.mem with
            bad := t.mem.bad, ces := t.mem.ces, hbmMap := t.mem.hbmMap, sramMap := t.mem.sramMap,
            waiting := t.mem.waiting },
          iron := { s.iron with bins := t.iron.bins, est := t.iron.est }, evid := t.evid, verify := t.verify }) ∧
  (∀ (s : State) (n : Fin 16) (evs : List MemEv), s.awake = true → s.dmaState n ≠ dmaRunning →
    Sys2Proof.Machine.exec (.descriptorDone n evs) s = .next s.latch)

/-- LINE_JOB of an engine with a job, without a stall or an error: where the segment decodes far enough and passes its checks, the
line's bytes are in the ring for the piece's band and DX_LINES counts one; where it does not, FLATE_LAST shows the cause and the band
and the piece is rejected. Stalled, the engine keeps the bytes and is in state 2, and the ring is as it was; DX_STALL_RESUME then puts
them in the ring, or counts them in DX_DISCARD where the piece, the band or the job is gone. -/
def Obligations.LineJobs : Prop :=
  (∀ (s : State) (n : Fin 16) (j : LineJob) (c : Container) (g : Seg), s.awake = true → s.stalledJob n = none →
    s.toDay.nextJob n = some j → (s.nextJob n).isSome = true → c = s.container j.band.addr j.band.len → c.seg j.line = some g →
    ((j.line - g.from_ + 1) * c.width ≤ (s.decodeSeg j.band.addr c g).out.length →
      (j.line + 1 = g.till → (s.decodeSeg j.band.addr c g).verdict = none) →
      ∃ t, Sys2Proof.Machine.exec (.lineJob n false []) s = .next t ∧
        (⟨j.piece.num, j.band.entry, j.line,
          ((s.decodeSeg j.band.addr c g).out.drop ((j.line - g.from_) * c.width)).take c.width, false⟩ : RingLine) ∈ t.ring ∧
        t.rd (R.DX_LINES_COUNT n) = (s.rd (R.DX_LINES_COUNT n) + 1) % 2 ^ 32 ∧
        t = { s.noticed t with
          pow := { s.pow with lastBusy := t.pow.lastBusy, phase := t.pow.phase }, pieces := t.pieces, ended := t.ended,
          rejects := t.rejects, tgs := t.tgs, ring := t.ring, dx := t.dx,
          stop := { s.stop with active := t.stop.active, faults := t.stop.faults },
          mem := { s.mem with
            bad := t.mem.bad, ces := t.mem.ces, hbmMap := t.mem.hbmMap, sramMap := t.mem.sramMap,
            waiting := t.mem.waiting },
          rinses := t.rinses, lanes := t.lanes, evid := t.evid, verify := t.verify }) ∧
    ((s.decodeSeg j.band.addr c g).out.length < (j.line - g.from_ + 1) * c.width →
      ∀ stalled, ∃ t, Sys2Proof.Machine.exec (.lineJob n stalled []) s = .next t ∧
        t.rd R.FLATE_LAST_CAUSE = (s.decodeSeg j.band.addr c g).cause.getD 8 % 256 ∧ t.rd R.FLATE_LAST_BAND = j.band.num % 512 ∧
        (t.piece j.piece.num).any (·.rejected) = true ∧ t.ring.length = s.ring.length ∧
        t = { s.noticed t with
          pow := { s.pow with lastBusy := t.pow.lastBusy, phase := t.pow.phase }, pieces := t.pieces, ended := t.ended,
          rejects := t.rejects, tgs := t.tgs, ring := t.ring, dx := t.dx,
          stop := { s.stop with active := t.stop.active, faults := t.stop.faults },
          mem := { s.mem with
            bad := t.mem.bad, ces := t.mem.ces, hbmMap := t.mem.hbmMap, sramMap := t.mem.sramMap,
            waiting := t.mem.waiting },
          rinses := t.rinses, lanes := t.lanes, evid := t.evid, verify := t.verify }) ∧
    ((j.line - g.from_ + 1) * c.width ≤ (s.decodeSeg j.band.addr c g).out.length →
      ∃ t, Sys2Proof.Machine.exec (.lineJob n true []) s = .next t ∧ t.ring = s.ring ∧ t.rd (R.DX_STATUS_STATE n) = 2 ∧
        (t.stalledJob n).map (·.2) = some (((s.decodeSeg j.band.addr c g).out.drop ((j.line - g.from_) * c.width)).take c.width) ∧
        t = { s.noticed t with
          pow := { s.pow with lastBusy := t.pow.lastBusy, phase := t.pow.phase }, pieces := t.pieces, ended := t.ended,
          rejects := t.rejects, tgs := t.tgs, ring := t.ring, dx := t.dx,
          stop := { s.stop with active := t.stop.active, faults := t.stop.faults },
          mem := { s.mem with
            bad := t.mem.bad, ces := t.mem.ces, hbmMap := t.mem.hbmMap, sramMap := t.mem.sramMap,
            waiting := t.mem.waiting },
          rinses := t.rinses, lanes := t.lanes, evid := t.evid, verify := t.verify })) ∧
  (∀ (s : State) (n : Fin 16) (x : DxJob) (data : List Byte), s.awake = true → s.stalledJob n = some (x, data) →
    (∀ p b k g, s.piece x.piece = some p → s.band x.piece x.entry = some b → b.jobOf n = some (x.line, k) →
      (s.container b.addr b.len).seg x.line = some g →
      (x.line + 1 = g.till → (s.decodeSeg b.addr (s.container b.addr b.len) g).verdict = none) →
      ∃ t, Sys2Proof.Machine.exec (.dxStallResume n) s = .next t ∧ (⟨p.num, b.entry, x.line, data, false⟩ : RingLine) ∈ t.ring ∧
        t.rd (R.DX_LINES_COUNT n) = (s.rd (R.DX_LINES_COUNT n) + 1) % 2 ^ 32 ∧
        t = { s.noticed t with
          pow := { s.pow with lastBusy := t.pow.lastBusy, phase := t.pow.phase }, pieces := t.pieces, rejects := t.rejects,
          ring := t.ring, dx := t.dx, rinses := t.rinses, lanes := t.lanes }) ∧
    (s.piece x.piece = none ∨ s.band x.piece x.entry = none →
      ∃ t, Sys2Proof.Machine.exec (.dxStallResume n) s = .next t ∧ t.ring = s.ring ∧ t.stalledJob n = none ∧
        t.rd R.DX_DISCARD_COUNT = (s.rd R.DX_DISCARD_COUNT + 1) % 2 ^ 32 ∧
        t = { s.noticed t with
          pow := { s.pow with lastBusy := t.pow.lastBusy, phase := t.pow.phase }, pieces := t.pieces, rejects := t.rejects,
          ring := t.ring, dx := t.dx, rinses := t.rinses, lanes := t.lanes }))

/-- COMPRESS_JOB of an enabled compressor with nothing begun, whose next waiting crop fits in the next buffer of its chain, with no
evidence destination set: the output is written to the buffer, then its length and the job number, then JOB_END (JOB_END_TRUNCATED for a
crop cut short); the crop is done, the job number is one up, and STATUS shows DONE in state 0. Where the chain ends or the descriptor is
bad, the engine waits in state 2 with BAD_DESC telling which, counts a stall, and writes nothing. -/
def Obligations.CompressJobs : Prop :=
  ∀ (s : State) (n : Fin 4) (c : Crop) (cs : List Crop) (out : List Byte), s.awake = true → s.rd (R.CX_CFG_ENABLE n) = 1 →
    (s.cxu n).wait = 0 → (s.cxu n).cur = none → (s.cxu n).crops = c :: cs → (s.cxu n).left = [] → (s.cxu n).buf = none →
    out = compressedStream (s.cxSettings n c) c.data →
    (∀ a, s.cxNext n = some a → s.cxGood a = true → out.length ≤ le (s.hbmRead (a + 4) 4) 0 4 → s.rd R.EVD_IP_IP = 0 →
      ∃ t, Sys2Proof.Machine.exec (.compressJob n []) s = .next t ∧
        t.hbm = (((s.hbmWrite (le (s.hbmRead a 32) 8 8) out).hbmWrite (a + 0x10)
          (leBytes 4 out.length ++ leBytes 4 (s.rd (R.CX_JOB_JOB n) + 1))).hbmWrite (a + 3) (leBytes 1 (if c.cut then 3 else 2))).hbm ∧
        (t.cxu n).cur = none ∧ (t.cxu n).crops = cs ∧ (t.cxu n).wait = 0 ∧ t.rd (R.CX_STATUS_STATE n) = 0 ∧
        t.rd (R.CX_STATUS_DONE n) = 1 ∧ t.rd (R.CX_STATUS_ABORTED n) = 0 ∧
        t.rd (R.CX_JOB_JOB n) = (s.rd (R.CX_JOB_JOB n) + 1) % 2 ^ 32 ∧ t.rd (R.CX_JOB_CRC_CRC n) = crc32 c.data % 2 ^ 32 ∧
        t = { s.noticed t with
          hbm := t.hbm, pow := { s.pow with lastBusy := t.pow.lastBusy }, pieces := t.pieces, ended := t.ended,
          rejects := t.rejects, tgs := t.tgs, ring := t.ring, cx := t.cx,
          stop := { s.stop with active := t.stop.active, faults := t.stop.faults },
          mem := { s.mem with
            bad := t.mem.bad, ces := t.mem.ces, hbmMap := t.mem.hbmMap, sramMap := t.mem.sramMap,
            waiting := t.mem.waiting },
          evd := t.evd, evid := t.evid, verify := t.verify } ∧
        SameWords s t ([R.CX_STATUS n, R.CX_CUR_LO n, R.CX_CUR_HI n, R.CX_JOB n, R.CX_JOB_CRC n, R.CX_IN_KIB n, R.CX_OUT_KIB n] ++
          eventWords)) ∧
    (s.cxNext n = none ∨ (∃ a, s.cxNext n = some a ∧ s.cxGood a = false) →
      ∃ t, Sys2Proof.Machine.exec (.compressJob n []) s = .next t ∧ t.hbm = s.hbm ∧ t.rd (R.CX_STATUS_STATE n) = 2 ∧
        t.rd (R.CX_STATUS_BAD_DESC n) = (if s.cxNext n = none then 0 else 1) ∧
        t.rd (R.CX_STALLS_COUNT n) = (s.rd (R.CX_STALLS_COUNT n) + 1) % 2 ^ 32 ∧ (t.cxu n).cur = some c ∧ (t.cxu n).crops = cs ∧
        t = { s.noticed t with
          hbm := t.hbm, pow := { s.pow with lastBusy := t.pow.lastBusy }, pieces := t.pieces, ended := t.ended,
          rejects := t.rejects, tgs := t.tgs, ring := t.ring, cx := t.cx,
          stop := { s.stop with active := t.stop.active, faults := t.stop.faults },
          mem := { s.mem with
            bad := t.mem.bad, ces := t.mem.ces, hbmMap := t.mem.hbmMap, sramMap := t.mem.sramMap,
            waiting := t.mem.waiting },
          evd := t.evd, evid := t.evid, verify := t.verify } ∧
        SameWords s t ([R.CX_STATUS n, R.CX_STALLS n] ++ eventWords))

/-- RENDER_START of a piece that may be rendered and whose fields fit adds one print to the piece, whose number is the count of prints
before it and whose fields are drawn from the values of that moment, or of the bound probe edge for a first print. Where no record names
a serial list and only one counter is named, that counter moves by STEP, wrapping from MAX to MIN and from MIN to MAX. A piece that may
not be rendered stays as it is. -/
def Obligations.Rendering : Prop :=
  (∀ (s : State) (num : Word) (p : Piece) (smp : Int × Bool), s.awake = true → s.piece num.toNat = some p → s.renderMay p = true →
    s.renderFits p = true → smp = (if p.prints.length = 0 then p.sample else none).getD (s.utcOf (s.tb 0).ns, s.tb0Usable) →
    ∃ t, Sys2Proof.Machine.exec (.renderStart num []) s = .next t ∧
      (t.piece num.toNat).map (·.prints) = some (p.prints ++ [⟨p.prints.length, smp.1, smp.2,
        (List.range p.liveCount).map (fun i => s.lateField p p.prints.length (s.drawField p smp.1 smp.2 none i))⟩]) ∧
      (s.named p 4 = [] → s.named p 3 = [] → SameWords s t ([R.LF_RENDERED, R.LF_HOLDOVER, R.LF_FAILED, R.LF_LAST, R.LF_LAST_PIECE] ++
        eventWords)) ∧
      (∀ k, k < 16 → s.named p 4 = [] → s.named p 3 = [k] →
        t.rd (R.LFCNT_VALUE_VALUE k) = unsigned 32
          (if 0 < s.rdI (R.LFCNT_STEP_STEP k) ∧
              (s.rd (R.LFCNT_MAX_MAX k) : Int) < s.rd (R.LFCNT_VALUE_VALUE k) + s.rdI (R.LFCNT_STEP_STEP k) then s.rd (R.LFCNT_MIN_MIN k)
            else if s.rdI (R.LFCNT_STEP_STEP k) < 0 ∧
              (s.rd (R.LFCNT_VALUE_VALUE k) : Int) + s.rdI (R.LFCNT_STEP_STEP k) < s.rd (R.LFCNT_MIN_MIN k) then s.rd (R.LFCNT_MAX_MAX k)
            else s.rd (R.LFCNT_VALUE_VALUE k) + s.rdI (R.LFCNT_STEP_STEP k))) ∧
      t = { s.noticed t with
          pow := { s.pow with lastBusy := t.pow.lastBusy }, pieces := t.pieces, ended := t.ended, rejects := t.rejects,
          tgs := t.tgs, ring := t.ring, stop := { s.stop with active := t.stop.active, faults := t.stop.faults },
          mem := { s.mem with
            bad := t.mem.bad, ces := t.mem.ces, hbmMap := t.mem.hbmMap, sramMap := t.mem.sramMap,
            waiting := t.mem.waiting },
          evid := t.evid, verify := t.verify }) ∧
  (∀ (s : State) (num : Word) (p : Piece) (evs : List MemEv), s.piece num.toNat = some p → s.renderMay p = false ∨ s.renderFits p = false
    →
    Sys2Proof.Machine.exec (.renderStart num evs) s = .next s)

/-- UPDATE_POINT of a bar that owes one uses it up. Every gain that was within 0x40 to 0xC0 stays within, and moves by at most one step.
With the loop off no gain moves. A piece-line registration error beyond REG_DEAD, where a valid error and R210 allow, moves TGb_REG by
the rounded share of the error, at most 256, and ends the validity of the error. A bar that owes no update point stays as it is. -/
def Obligations.UpdatePoints : Prop :=
  (∀ (s : State) (b : Fin 16), s.awake = true → (s.tg b).updates < (s.tg b).pieceLines / 8192 →
    ∃ t, Sys2Proof.Machine.exec (.updatePoint b) s = .next t ∧ (t.tg b).updates = (s.tg b).updates + 1 ∧
      (((s.ownedNozzles b).map (·.2.1)).Nodup →
        ∀ n, 0x40 ≤ s.gain n → s.gain n ≤ 0xC0 → 0x40 ≤ t.gain n ∧ t.gain n ≤ 0xC0 ∧ t.gain n ≤ s.gain n + 1 ∧ s.gain n ≤ t.gain n + 1) ∧
      (s.rd R.IRON_CFG_EN = 0 → ∀ n, t.gain n = s.gain n) ∧
      (∀ d, (s.inkOf b).isSome = true → s.rd (R.BAR_REGCFG_REG_EN b) = 1 → s.rd (R.BAR_REGSTAT_Y_VALID b) = 1 →
        d = divNear (s.rdI (R.BAR_REGERR_ERR_Y b) * s.rd (R.BAR_REGCFG_REG_GAIN b)) 8 → s.rd (R.BAR_REGCFG_REG_DEAD b) < d.natAbs →
        s.nearReg b (s.rdI (R.TG_REG_REG b) + clampI (-256) 256 d) = s.rdI (R.TG_REG_REG b) + clampI (-256) 256 d →
        t.rdI (R.TG_REG_REG b) = s.rdI (R.TG_REG_REG b) + clampI (-256) 256 d ∧ t.rd (R.BAR_REGSTAT_Y_VALID b) = 0 ∧
        t.rd (R.BAR_REGSTAT_REG_LIMIT b) = 0) ∧
      t = { s.noticed t with
          pendw := t.pendw, tgs := t.tgs, iron := { s.iron with limits := t.iron.limits, regs := t.iron.regs } }) ∧
  (∀ (s : State) (b : Fin 16), s.awake = true → (s.tg b).pieceLines / 8192 ≤ (s.tg b).updates →
    Sys2Proof.Machine.exec (.updatePoint b) s = .next s.latch)

/-- With the core at work, new levels of an encoder's inputs move its true position by their count in the encoder's mode, modulo 2^48;
the print position becomes the true one when that lies ahead, and else keeps its value; DIR changes exactly with a count of reversals;
each enabled line generator fed by the encoder adds its increment to its accumulator when the print position moved, and no other
accumulator moves. An illegal transition moves nothing and is counted. With the core off, only ENC0's island count moves. -/
def Obligations.EncoderCounts : Prop :=
  (∀ (s : State) (n : Fin 2) (a b : Bool) (d : Int × Bool), s.coreOn = true →
    d = encDelta (s.rd (R.ENC_CFG_MODE n)) (s.rd (R.ENC_CFG_QMULT n)) (s.flag (R.ENC_CFG_POL n)) (s.enc n).a (s.enc n).b a b →
    ∃ t, Sys2Proof.Machine.exec (.encoderEdge n a b) s = .next t ∧ (t.enc n).a = a ∧ (t.enc n).b = b ∧
      t.encTrue n = (if d.2 then s.encTrue n else posAdd (s.encTrue n) d.1) ∧
      t.encPrint n = (if d.2 = false ∧ d.1 ≠ 0 ∧ ahead (posAdd (s.encTrue n) d.1) (s.encPrint n) = true
        then posAdd (s.encTrue n) d.1 else s.encPrint n) ∧
      t.rd (R.ENC_ILLEGAL_COUNT n) = (s.rd (R.ENC_ILLEGAL_COUNT n) + b2n d.2) % 2 ^ 32 ∧
      t.rd (R.ENC_REVERSALS_COUNT n) = (s.rd (R.ENC_REVERSALS_COUNT n) +
        (if t.rd (R.ENC_STATUS_DIR n) = s.rd (R.ENC_STATUS_DIR n) then 0 else 1)) % 2 ^ 32 ∧
      (∀ m : Fin 2, m ≠ n → t.encTrue m = s.encTrue m ∧ t.encPrint m = s.encPrint m) ∧
      (∀ k : Fin 16, Sparse.get 0 t.lgs k =
        if t.encPrint n ≠ s.encPrint n ∧ s.rd (R.LG_CFG_EN k) = 1 ∧ s.lgEnc k = n
        then (Sparse.get 0 s.lgs k + s.lgInc k) % 2 ^ 80 else Sparse.get 0 s.lgs k) ∧
      t = { s.noticed t with
          pow := { s.pow with islEnc := t.pow.islEnc, lastBusy := t.pow.lastBusy }, pieces := t.pieces, ended := t.ended,
          rejects := t.rejects, ring := t.ring, encs := t.encs, lgs := t.lgs, encouts := t.encouts, cams := t.cams,
          evid := t.evid, verify := t.verify }) ∧
  (∀ (s : State) (a b : Bool), s.coreOn = false → s.pow.phase ≠ .noVaux →
    ∃ t, Sys2Proof.Machine.exec (.encoderEdge 0 a b) s = .next t ∧
      t.pow.islEnc = BitVec.ofNat 48 (posAdd s.pow.islEnc.toNat
        (encDelta (s.rd (R.ENC_CFG_MODE 0)) (s.rd (R.ENC_CFG_QMULT 0)) (s.flag (R.ENC_CFG_POL 0)) (s.enc 0).a (s.enc 0).b a b).1) ∧
      t = { s with encs := t.encs, pow := { s.pow with islEnc := t.pow.islEnc }, spans := { s.spans with leaves := t.spans.leaves } })

/-- LG_TRIGGER brings the line count of an enabled generator to the whole part of its accumulator, FIXED_CLOCK_TRIGGER takes whole
periods off a clock's accumulator, LINESYNC_IN adds one to LSI_COUNT; each timing generator that the source feeds has its line count
raised to the source's count divided by DIV plus one, never lowered. LINESYNC_OUT sends the pulse of the boundary it is due for, once,
and counts one whose moment had passed. -/
def Obligations.LineSources : Prop :=
  (∀ (s : State) (k : Fin 16) (line : Nat), line = Sparse.get 0 s.lgs k / 2 ^ 32 % 2 ^ 48 → s.coreOn = true → s.rd (R.LG_CFG_EN k) = 1 →
    s.lgLine k < line →
    ∃ t, Sys2Proof.Machine.exec (.lgTrigger k) s = .next t ∧ t.lgLine k = line ∧
      (∀ j : Fin 16, s.rd (R.TG_CFG_SRC j) = k → s.rd (R.TG_CFG_EN j) = 1 →
        t.lineCount j = max (s.lineCount j) (line / (s.rd (R.TG_CFG_DIV j) + 1))) ∧
      t = { s with
          regs := t.regs, spans := { s.spans with leaves := t.spans.leaves }, tgs := t.tgs } ∧
      SameWords s t ([R.LG_LINE_LO k, R.LG_LINE_HI k] ++ (List.range 16).map R.TG_LINE_LO ++ (List.range 16).map R.TG_LINE_HI)) ∧
  (∀ (s : State) (k : Fin 16) (per total n : Nat), per = max 1 (s.rd (R.TG_PERIOD_PERIOD k)) →
    total = (s.tg k).acc + 256 * (s.time - (s.tg k).accAt) → n = (s.tg k).offset + total / per → s.coreOn = true →
    s.rd (R.TG_CFG_EN k) = 1 → s.rd (R.TG_CFG_SRC k) = 0x11 → per ≤ total →
    ∃ t, Sys2Proof.Machine.exec (.fixedClockTrigger k) s = .next t ∧ (t.tg k).acc = total % per ∧ (t.tg k).offset = n ∧
      (t.tg k).accAt = s.time ∧
      (n / (s.rd (R.TG_CFG_DIV k) + 1) < 2 ^ 48 → t.lineCount k = max (s.lineCount k) (n / (s.rd (R.TG_CFG_DIV k) + 1))) ∧
      t = { s with
          regs := t.regs, spans := { s.spans with leaves := t.spans.leaves }, tgs := t.tgs } ∧
      SameWords s t ((List.range 16).map R.TG_LINE_LO ++ (List.range 16).map R.TG_LINE_HI)) ∧
  (∀ (s : State) (age n : Nat), n = (s.rdW R.LSI_COUNT_LO_COUNT R.LSI_COUNT_HI_COUNT + 1) % 2 ^ 48 → s.coreOn = true →
    ∃ t, Sys2Proof.Machine.exec (.linesyncIn age) s = .next t ∧ t.rdW R.LSI_COUNT_LO_COUNT R.LSI_COUNT_HI_COUNT = n ∧ t.time = s.time ∧
      (∀ j : Fin 16, s.rd (R.TG_CFG_SRC j) = 0x10 → s.rd (R.TG_CFG_EN j) = 1 →
        t.lineCount j = max (s.lineCount j) (n / (s.rd (R.TG_CFG_DIV j) + 1))) ∧
      t = { s with
          time := t.time, regs := t.regs, pendw := t.pendw, spans := { s.spans with leaves := t.spans.leaves }, tgs := t.tgs } ∧
      SameWords s t ([R.LSI_CFG, R.LSI_COUNT_LO, R.LSI_COUNT_HI] ++ (List.range 16).map R.TG_LINE_LO ++ (List.range 16).map
        R.TG_LINE_HI)) ∧
  (∀ (s : State) (b : Int) (x : Nat) (late : Bool), s.coreOn = true → s.rd R.LSO_CFG_EN = 1 → s.lsoTick = some (b, x, late) → x ≤ s.time →
    ∃ t, Sys2Proof.Machine.exec .linesyncOut s = .next t ∧ t.out = s.out ++ [.linesync x] ∧ t.lsoTick = none ∧
      t.rd R.LSO_LATE_COUNT = (s.rd R.LSO_LATE_COUNT + b2n late) % 2 ^ 32 ∧
      t = { s with
          regs := t.regs, spans := { s.spans with leaves := t.spans.leaves }, tgs := t.tgs, cams := t.cams, out := t.out } ∧
      SameWords s t [R.LSO_LATE])

/-- SPEED_ESTIMATE shows 0 and not valid where no speed stands, else a valid speed. STANDSTILL after its time sets STILL and shows 0.
LG_APPLY with no line in flight in the bars of a generator leaves none of its settings pending, each pending word in force; ENCOUT_APPLY
with no line in flight does so for a divided output. -/
def Obligations.SpeedAndPending : Prop :=
  (∀ (s : State) (n : Fin 2), s.coreOn = true →
    ∃ t, Sys2Proof.Machine.exec (.speedEstimate n) s = .next t ∧
      t.rd (R.ENC_STATUS_SPEED_VALID n) = b2n (s.speedFrac n).isSome ∧ (s.speedFrac n = none → t.rd (R.ENC_SPEED_SPEED n) = 0) ∧
      t = { s with regs := t.regs, spans := { s.spans with leaves := t.spans.leaves } } ∧
      SameWords s t [R.ENC_SPEED n, R.ENC_STATUS n]) ∧
  (∀ (s : State) (n : Fin 2), s.coreOn = true → s.rd (R.ENC_STATUS_STILL n) = 0 →
    (s.enc n).lastExt + 200000 * s.rd (R.ENC_MOTION_STILL n) ≤ s.time →
    ∃ t, Sys2Proof.Machine.exec (.standstill n) s = .next t ∧ t.rd (R.ENC_STATUS_STILL n) = 1 ∧ t.rd (R.ENC_SPEED_SPEED n) = 0 ∧
      t.rd (R.ENC_STATUS_SPEED_VALID n) = 0 ∧ t.speedFrac n = none ∧ t.rd (R.ENC_STATUS_DIR n) = s.rd (R.ENC_STATUS_DIR n) ∧
      t = { s with
          regs := t.regs, spans := { s.spans with leaves := t.spans.leaves }, encs := t.encs } ∧
      SameWords s t [R.ENC_SPEED n, R.ENC_STATUS n]) ∧
  (∀ (s : State) (k : Fin 16), s.coreOn = true → (s.lgBars k).any s.barActive = false →
    ∃ t, Sys2Proof.Machine.exec (.lgApply k) s = .next t ∧ (∀ a ∈ lgRegs k, t.pendWord a = none) ∧
      (∀ w, s.pendWord (R.LG_INC_LO k) = some w → t.word (R.LG_INC_LO k) = w) ∧
      (∀ w, s.pendWord (R.LG_CFG k) = some w → t.rd (R.LG_CFG_EN k) = bits w.toNat 0 1 ∧ t.rd (R.LG_CFG_SRC k) = bits w.toNat 1 1) ∧
      t.lgs = s.lgs ∧
      t = { s with
          regs := t.regs, pendw := t.pendw, spans := { s.spans with leaves := t.spans.leaves }, encs := t.encs } ∧
      SameWords s t (lgRegs k ++ [R.ENC_CFG 0, R.ENC_CFG 1])) ∧
  (∀ (s : State) (n : Fin 2), s.coreOn = true → (List.range 16).any s.barActive = false →
    ∃ t, Sys2Proof.Machine.exec (.encoutApply n) s = .next t ∧
      (∀ a ∈ [R.ENCOUT_CFG n, R.ENCOUT_RATIO n, R.ENCOUT_RATIO1 n], t.pendWord a = none) ∧
      (∀ w, s.pendWord (R.ENCOUT_RATIO n) = some w → t.word (R.ENCOUT_RATIO n) = w) ∧
      t = { s with
          regs := t.regs, pendw := t.pendw, spans := { s.spans with leaves := t.spans.leaves } } ∧
      SameWords s t [R.ENCOUT_CFG n, R.ENCOUT_RATIO n, R.ENCOUT_RATIO1 n])

/-- A qualified index edge latches ZPOS; a revolution judged out of tolerance, an index missing, and a revolution of ENC1 without an
index of ENC0 each count one mismatch, set IDX_LAST, end the clean run and lengthen the mismatch run, and the third in a row with BACKUP
set fails over; a revolution within tolerance ends the mismatch run, and the hundredth clean one ends a fail-over. An edge that follows
no known index, or a change of DIR, is not judged. -/
def Obligations.IndexChecks : Prop :=
  (∀ (s : State) (n : Fin 2) (a b : Bool), s.coreOn = true → s.rd (R.ENC_CFG_ZEN n) = 1 →
    (s.rd (R.ENC_CFG_ZQUAL n) = 0 ∨ (a = true ∧ b = true)) →
    ∃ t, Sys2Proof.Machine.exec (.indexEdge n a b) s = .next t ∧ t.rdW (R.ENC_ZPOS_LO_POS n) (R.ENC_ZPOS_HI_POS n) = s.encTrue n ∧
      (t.enc n).lastZ = some (s.encTrue n) ∧
      ((s.enc n).lastZ = none ∨ s.rd (R.ENC_STATUS_DIR n) = 1 ∨ (s.enc n).turned = true →
        SameWords s t [R.ENC_ZPOS_LO n, R.ENC_ZPOS_HI n]) ∧
      (∀ z c, (s.enc n).lastZ = some z → s.rd (R.ENC_STATUS_DIR n) = 0 → (s.enc n).turned = false →
        (n = 1 → s.rd (R.ENC_STATUS_FAILED_OVER 0) = 0) → c = fwd (s.encTrue n) z →
        t.rd (R.ENC_IDX_LAST_COUNT n) = unsigned 32 c ∧
        (s.rd (R.ENC_IDX_TOL_TOL n) < (c - s.rd (R.ENC_IDX_NOM_NOM n)).natAbs ∨ (s.enc n).illegal = true →
          t.rd (R.ENC_MISMATCHES_COUNT n) = (s.rd (R.ENC_MISMATCHES_COUNT n) + 1) % 2 ^ 32 ∧
          t.rd (R.ENC_IDX_RUN_MISMATCH n) = min 255 (s.rd (R.ENC_IDX_RUN_MISMATCH n) + 1) ∧ t.rd (R.ENC_IDX_RUN_CLEAN n) = 0 ∧
          (n = 0 → 2 ≤ s.rd (R.ENC_IDX_RUN_MISMATCH 0) → s.rd (R.ENC_CFG_BACKUP 0) = 1 → t.rd (R.ENC_STATUS_FAILED_OVER 0) = 1)) ∧
        ((c - s.rd (R.ENC_IDX_NOM_NOM n)).natAbs ≤ s.rd (R.ENC_IDX_TOL_TOL n) → (s.enc n).illegal = false →
          t.rd (R.ENC_IDX_RUN_MISMATCH n) = 0 ∧ t.rd (R.ENC_IDX_RUN_CLEAN n) = min 255 (s.rd (R.ENC_IDX_RUN_CLEAN n) + 1) ∧
          t.rd (R.ENC_MISMATCHES_COUNT n) = s.rd (R.ENC_MISMATCHES_COUNT n) ∧
          (n = 0 → s.rd (R.ENC_IDX_RUN_CLEAN 0) = 99 → t.rd (R.ENC_STATUS_FAILED_OVER 0) = 0))) ∧
      t = { s.noticed t with encs := t.encs } ∧
      SameWords s t ([R.ENC_ZPOS_LO n, R.ENC_ZPOS_HI n, R.ENC_IDX_LAST n, R.ENC_IDX_RUN n, R.ENC_MISMATCHES n, R.ENC_STATUS 0,
        R.ENC_FAILOVERS 0] ++ eventWords)) ∧
  (∀ (s : State) (n : Fin 2) (z : Nat), s.coreOn = true → s.indexOver n = some z →
    ∃ t, Sys2Proof.Machine.exec (.indexMissing n) s = .next t ∧ (t.enc n).lastZ = some (posAdd z (s.rd (R.ENC_IDX_NOM_NOM n))) ∧
      t.rd (R.ENC_IDX_LAST_COUNT n) = 0xFFFFFFFF ∧ t.rd (R.ENC_MISMATCHES_COUNT n) = (s.rd (R.ENC_MISMATCHES_COUNT n) + 1) % 2 ^ 32 ∧
      t.rd (R.ENC_IDX_RUN_CLEAN n) = 0 ∧ (n = 0 → (t.enc 0).e1 = s.encTrue 1) ∧
      t = { s.noticed t with encs := t.encs } ∧
      SameWords s t ([R.ENC_IDX_LAST n, R.ENC_IDX_RUN n, R.ENC_MISMATCHES n, R.ENC_STATUS 0, R.ENC_FAILOVERS 0] ++ eventWords)) ∧
  (∀ s : State, s.coreOn = true → s.crossRuns = true → (s.enc 0).cross = true → s.rd (R.ENC_STATUS_DIR 1) = 0 →
    ((s.rd (R.ENC_IDX_NOM1_NOM1 0) + s.tol1 : Nat) : Int) < fwd (s.encTrue 1) (s.enc 0).e1 →
    ∃ t, Sys2Proof.Machine.exec .indexCrossCheck s = .next t ∧
      (t.enc 0).e1 = posAdd (s.enc 0).e1 (s.rd (R.ENC_IDX_NOM1_NOM1 0)) ∧ t.rd (R.ENC_IDX_LAST_COUNT 0) = 0xFFFFFFFE ∧
      t.rd (R.ENC_MISMATCHES_COUNT 0) = (s.rd (R.ENC_MISMATCHES_COUNT 0) + 1) % 2 ^ 32 ∧ t.rd (R.ENC_IDX_RUN_CLEAN 0) = 0 ∧
      t = { s.noticed t with encs := t.encs } ∧
      SameWords s t ([R.ENC_IDX_LAST 0, R.ENC_IDX_RUN 0, R.ENC_MISMATCHES 0, R.ENC_STATUS 0, R.ENC_FAILOVERS 0] ++ eventWords))

/-- A Dawn that no sensor trips, with VAUX kept: ENC0's true and print positions are the island count and CONT keeps its value; with
VAUX new: every position is 0 and CONT is 0; after either, ENC1's positions are 0. CONT of ENC0 is cleared where VIO is lost, with the
core on or off, and where ISLAND_CHECK finds a difference, which also counts one in ISL_DIFF; ISLAND_CHECK sets the island count to
ENC0's true position. -/
def Obligations.PositionsKept : Prop :=
  (∀ (s : State) (d : DawnIn) (c : Instr), (c = .dawnStart d ∧ s.dawnMay = true) ∨ (c = .tripRestart d ∧ s.tripCool = true) →
    d.hotTrip = none →
    ∃ t, Sys2Proof.Machine.exec c s = .next t ∧
      (s.pow.fresh = false → t.encTrue 0 = s.pow.islEnc.toNat ∧ t.encPrint 0 = s.pow.islEnc.toNat ∧
        t.rd (R.ENC_STATUS_CONT 0) = s.rd (R.ENC_STATUS_CONT 0)) ∧
      (s.pow.fresh = true → t.encTrue 0 = 0 ∧ t.encPrint 0 = 0 ∧ t.rd (R.ENC_STATUS_CONT 0) = 0 ∧ t.rd (R.ENC_STATUS_CONT 1) = 0) ∧
      t.encTrue 1 = 0 ∧ t.encPrint 1 = 0) ∧
  (∀ s : State, s.pow.vio = true → ∃ t, Sys2Proof.Machine.exec .vioLost s = .next t ∧ t.rd (R.ENC_STATUS_CONT 0) = 0) ∧
  (∀ (s : State) (isl : Pos), s.awake = true →
    ∃ t, Sys2Proof.Machine.exec (.islandCheck isl) s = .next t ∧ t.pow = { s.pow with islEnc := BitVec.ofNat 48 (s.encTrue 0) } ∧
      (isl.toNat ≠ s.encTrue 0 → t.rd (R.ENC_STATUS_CONT 0) = 0 ∧
        t.rd (R.ENC_ISL_DIFF_COUNT 0) = (s.rd (R.ENC_ISL_DIFF_COUNT 0) + 1) % 2 ^ 32) ∧
      (isl.toNat = s.encTrue 0 → t.regs = s.regs) ∧
      t = { s with
          regs := t.regs, pow := { s.pow with islEnc := t.pow.islEnc }, spans := { s.spans with leaves := t.spans.leaves } } ∧
      SameWords s t [R.ENC_STATUS 0, R.ENC_ISL_DIFF 0])

/-- The unit shows HIT and not LATE, counts the hit and holds TB2 of the firing; REJ0 and REJ1 drive their reject outputs for WIDTH
units from the reference; with PERIOD 0 it is no longer armed, else its target moves on by PERIOD and it stays armed. A unit that is not
armed, or whose target is still ahead, stays as it is. -/
def Obligations.CompareFires : Prop :=
  (∀ (s : State) (k : Fin 64), s.coreOn = true → s.rd (R.CMP_STATUS_ARMED k) = 1 → ahead (s.cmpTgt k) (s.cmpRef k) = false →
    ∃ t, Sys2Proof.Machine.exec (.compareFire k) s = .next t ∧ t.rd (R.CMP_STATUS_HIT k) = 1 ∧ t.rd (R.CMP_STATUS_LATE k) = 0 ∧
      t.rd (R.CMP_STATUS_HITS k) = min 65535 (s.rd (R.CMP_STATUS_HITS k) + 1) ∧
      t.rdW (R.CMP_HIT_TIME_LO_NS k) (R.CMP_HIT_TIME_HI_NS k) = s.tb2 % 2 ^ 64 ∧
      (s.rd (R.CMP_PERIOD_PERIOD k) = 0 → t.rd (R.CMP_STATUS_ARMED k) = 0 ∧ t.cmpTgt k = s.cmpTgt k) ∧
      (s.rd (R.CMP_PERIOD_PERIOD k) ≠ 0 → t.rd (R.CMP_STATUS_ARMED k) = 1 ∧
        t.cmpTgt k = posAdd (s.cmpTgt k) (s.rd (R.CMP_PERIOD_PERIOD k))) ∧
      (s.rd (R.CMP_CFG_REJ0 k) = 1 → Output.cmpReject k 0 (s.cmpRef k) (s.cmpRef k + s.rd (R.CMP_CFG_WIDTH k)) ∈ t.out) ∧
      (s.rd (R.CMP_CFG_REJ1 k) = 1 → Output.cmpReject k 1 (s.cmpRef k) (s.cmpRef k + s.rd (R.CMP_CFG_WIDTH k)) ∈ t.out) ∧
      t = { s.noticed t with
          pow := { s.pow with lastBusy := t.pow.lastBusy, phase := t.pow.phase }, pieces := t.pieces, ended := t.ended,
          rejects := t.rejects, ring := t.ring, lanes := t.lanes, evid := t.evid, verify := t.verify }) ∧
  (∀ (s : State) (k : Fin 64), s.rd (R.CMP_STATUS_ARMED k) = 0 ∨ ahead (s.cmpTgt k) (s.cmpRef k) = true →
    Sys2Proof.Machine.exec (.compareFire k) s = .next s)

/-- With a trigger of the bar's generator waiting, FORM_POINT takes it: no trigger waits, the last line formed is the one after the
trigger's, the bar's line sequence number is one up modulo 2^32, and TGk_LP shows the period found. Every channel of a piece line it
puts in flight fires at least 1,000 ticks after its channel's last fire instant. Without a trigger nothing changes. -/
def Obligations.FormPoints : Prop :=
  (∀ (s : State) (b : Fin 16) (tr : Trigger) (evs : List MemEv) (checks : BitVec 2), s.awake = true ∨ s.pow.phase = .nightEntry →
    (s.tg b).trig = some tr →
    ∃ t, Sys2Proof.Machine.exec (.formPoint b evs checks) s = .next t ∧ (t.tg b).trig = none ∧ (t.tg b).lastTick = tr.t ∧
      (t.tg b).lastLine = tr.count + 1 ∧ (t.tg b).lseq = ((s.tg b).lseq + 1) % 2 ^ 32 ∧
      (∀ x ∈ t.flights, x ∉ s.flights → x.bar = b ∧ x.count = tr.count + 1 ∧
        (x.rinse = false → ∀ c ∈ x.chans, ∀ l, Sparse.find (s.tg b).fLast c.chan = some l → l + 1000 ≤ c.fire)) ∧
      t = { s.noticed t with
          pendw := t.pendw, pow := { s.pow with lastBusy := t.pow.lastBusy }, pieces := t.pieces, ended := t.ended,
          rejects := t.rejects, tgs := t.tgs, ring := t.ring,
          stop := { s.stop with active := t.stop.active, faults := t.stop.faults },
          mem := { s.mem with
            bad := t.mem.bad, ces := t.mem.ces, hbmMap := t.mem.hbmMap, sramMap := t.mem.sramMap,
            waiting := t.mem.waiting },
          darn := { s.darn with carry := t.darn.carry, list := t.darn.list }, gates := t.gates, rinses := t.rinses,
          lanes := t.lanes, flights := t.flights, hist := t.hist, iron := { s.iron with regs := t.iron.regs }, evid := t.evid,
          seqs := t.seqs, verify := t.verify }) ∧
  (∀ (s : State) (b : Fin 16) (evs : List MemEv) (checks : BitVec 2), (s.tg b).trig = none →
    Sys2Proof.Machine.exec (.formPoint b evs checks) s = .next s)

/-- A planned marker whose departure has come leaves at the departure planned, with its residual, its bar and the low 8 bits of its line
sequence number, and is planned no more. LATE_MARKER within the late window sends it later by whole symbols, and counts the channels it
fires late. LINE_BLANKED after the late window leaves no marker and no channel of that line on that lane, sets LATE in the leaves of
those channels, and counts one blank line of the bar when the line was not counted blank yet. -/
def Obligations.LinesLeave : Prop :=
  (∀ (s : State) (lane bar : Fin 16) (count : Nat) (ord : Fin 32) (lag : Bool) (m : Marker), s.departing lane bar count ord = some m →
    ∃ t, Sys2Proof.Machine.exec (.markerDepart lane bar count ord lag) s = .next t ∧
      Output.marker lane (s.departs lane m) m.q m.bar (m.lseq % 256) ∈ t.out ∧ t.planned lane bar count ord = none ∧
      t = { s.noticed t with
          pow := { s.pow with lastBusy := t.pow.lastBusy }, pieces := t.pieces, ended := t.ended, rejects := t.rejects,
          tgs := t.tgs, ring := t.ring, stop := { s.stop with active := t.stop.active }, lanes := t.lanes, flights := t.flights,
          hist := t.hist, evid := t.evid, seqs := t.seqs, verify := t.verify }) ∧
  (∀ (s : State) (lane bar : Fin 16) (count : Nat) (ord : Fin 32) (late : Nat) (m : Marker) (x : Flight),
    s.departing lane bar count ord = some m → s.flight bar count = some x → late ≤ s.lateWin x →
    ∃ t, Sys2Proof.Machine.exec (.lateMarker lane bar count ord late) s = .next t ∧
      Output.marker lane (s.departs lane m + ((late * 5000 + s.laneT lane - 1) / s.laneT lane : Nat) * s.laneT lane) m.q m.bar
        (m.lseq % 256) ∈ t.out ∧ t.planned lane bar count ord = none ∧
      t.rd (R.TG_LATE_COUNT bar) = (s.rd (R.TG_LATE_COUNT bar) +
        (if x.rinse then 0 else (x.chans.filter (x.bound lane bar count ord)).length)) % 2 ^ 32 ∧
      t = { s with
          regs := t.regs, spans := { s.spans with leaves := t.spans.leaves }, lanes := t.lanes, flights := t.flights,
          hist := t.hist, life := t.life, out := t.out } ∧
      SameWords s t ([R.TG_LATE bar, R.HL_SLIP lane, R.HL_SLIP_MAX lane, R.HL_STATE lane] ++ eventWords)) ∧
  (∀ (s : State) (bar lane : Fin 16) (count : Nat) (x : Flight), s.awake = true → s.flight bar count = some x →
    x.chans.any (fun c => c.lane == lane.val) = true →
    (∀ m ∈ (s.lane lane).plan, m.bar = bar → m.count = count → s.departs lane m + 5000 * s.lateWin x ≤ 5000 * s.time) →
    ∃ t, Sys2Proof.Machine.exec (.lineBlanked bar count lane) s = .next t ∧
      (∀ m ∈ (t.lane lane).plan, ¬(m.bar = bar ∧ m.count = count)) ∧
      (∀ y ∈ t.flights, y.bar = bar → y.count = count → ∀ c ∈ y.chans, c.lane ≠ lane) ∧
      (x.rinse = false → ∀ c ∈ x.chans, c.lane = lane → (t.leaf c.chan).blanked = true) ∧
      t.rd (R.TG_BLANKED_COUNT bar) = (s.rd (R.TG_BLANKED_COUNT bar) + b2n (!x.rinse && !x.blank)) % 2 ^ 32 ∧
      t = { s.noticed t with
          pieces := t.pieces, tgs := t.tgs, lanes := t.lanes, flights := t.flights, hist := t.hist } ∧
      SameWords s t ([R.TG_BLANKED bar, R.HL_STATE lane] ++ eventWords))

/-- MODE_APPLIED on an idle bar leaves no mode field pending and PENDING clear; with no change of SRC or DIV the line count stays; a
change whose new count is below the line count drops SRC and DIV with MODE_DROPPED set; one above it raises the count of the generator
and of those that follow it: no line count ever falls. LAT_APPLY on an idle bar puts a pending LAT in force. STOP_COMPLETE, with no bar
of the group in flight, sets STOPPED in every bar of the group. -/
def Obligations.ModesAndStops : Prop :=
  (∀ (s : State) (k : Fin 16), s.awake = true → s.barIdle k = true → s.modePending k = true →
    ∃ t, Sys2Proof.Machine.exec (.modeApplied k) s = .next t ∧ t.modePending k = false ∧ t.rd (R.TG_STATUS_PENDING k) = 0 ∧
      (∀ j : Fin 16, s.lineCount j ≤ t.lineCount j) ∧
      (s.eff (R.TG_CFG_SRC k) = s.rd (R.TG_CFG_SRC k) → s.eff (R.TG_CFG_DIV k) = s.rd (R.TG_CFG_DIV k) →
        t.lineCount k = s.lineCount k ∧ t.rd (R.TG_STATUS_MODE_DROPPED k) = s.rd (R.TG_STATUS_MODE_DROPPED k)) ∧
      (∀ n, s.eff (R.TG_CFG_SRC k) ≠ s.rd (R.TG_CFG_SRC k) → s.eff (R.TG_CFG_SRC k) ≤ 0x10 →
        n = s.sourceCount (s.eff (R.TG_CFG_SRC k)) 0 / (s.eff (R.TG_CFG_DIV k) + 1) →
        (n < s.lineCount k → t.rd (R.TG_CFG_SRC k) = s.rd (R.TG_CFG_SRC k) ∧ t.rd (R.TG_CFG_DIV k) = s.rd (R.TG_CFG_DIV k) ∧
          t.rd (R.TG_STATUS_MODE_DROPPED k) = 1 ∧ t.lineCount k = s.lineCount k) ∧
        (s.lineCount k ≤ n → t.rd (R.TG_CFG_SRC k) = s.eff (R.TG_CFG_SRC k) ∧ t.rd (R.TG_CFG_DIV k) = s.eff (R.TG_CFG_DIV k) ∧
          t.lineCount k = n)) ∧
      t = { s.noticed t with pendw := t.pendw, tgs := t.tgs } ∧
      SameWords s t (modeRegs k ++ (List.range 16).map R.TG_LINE_LO ++ (List.range 16).map R.TG_LINE_HI ++ [R.TG_STATUS k] ++
        eventWords)) ∧
  (∀ (s : State) (b : Fin 16) (w : Word), s.awake = true → s.barIdle b = true → s.pendWord (R.BAR_LAT b) = some w →
    ∃ t, Sys2Proof.Machine.exec (.latApply b) s = .next t ∧ t.rd (R.BAR_LAT_LAT b) = bits w.toNat 0 5 ∧ t.pendWord (R.BAR_LAT b) = none ∧
      t.rd (R.BAR_REGSTAT_X_VALID b) = 0 ∧
      t = { s with
          regs := t.regs, pendw := t.pendw, spans := { s.spans with leaves := t.spans.leaves },
          iron := { s.iron with regs := t.iron.regs } } ∧
      SameWords s t [R.BAR_LAT b, R.BAR_REGSTAT b, R.BAR_REGERR b]) ∧
  (∀ (s : State) (k : Fin 16), s.awake = true → s.stop.active = true → (s.tg k).stopP.isSome = true →
    s.rd (R.TG_STATUS_STOPPED k) = 0 → s.groupBars k = [] →
    ∃ t, Sys2Proof.Machine.exec (.stopComplete k) s = .next t ∧ (∀ b ∈ s.groupOf k, t.rd (R.TG_STATUS_STOPPED b) = 1) ∧
      (∀ b ∈ s.groupOf k, s.rd (R.BAR_RSTAT_PARKED b) = 0 → (s.rinse b).window = 0 → (t.rinse b).parkFrom = some s.time) ∧
      t.stop = s.stop ∧
      t = { s with
          regs := t.regs, nvm := { s.nvm with due := t.nvm.due, lastHostFault := t.nvm.lastHostFault, stDue := t.nvm.stDue },
          spans := { s.spans with leaves := t.spans.leaves }, rinses := t.rinses } ∧
      SameWords s t ([R.TG_STATUS 0, R.TG_STATUS 1, R.TG_STATUS 2, R.TG_STATUS 3, R.TG_STATUS 4, R.TG_STATUS 5, R.TG_STATUS 6,
        R.TG_STATUS 7,
        R.TG_STATUS 8, R.TG_STATUS 9, R.TG_STATUS 10, R.TG_STATUS 11, R.TG_STATUS 12, R.TG_STATUS 13, R.TG_STATUS 14, R.TG_STATUS 15,
        R.THERM_STATE] ++ eventWords))

/-- PARK after its delay opens the park window for LINES lines, or parks the bar at once when that is 0. IDLE_WINDOW of a parked bar
that nothing waits for opens the idle window. PARK_CLOCK_TRIGGER at its period takes one line from the window, and the last line closes
it, parking the bar after a park window. -/
def Obligations.RinseWindows : Prop :=
  (∀ (s : State) (b : Fin 16) (x : Nat), s.awake = true → (s.rinse b).parkFrom = some x →
    x + usTicks (1000 * s.rd (R.BAR_PARK_DELAY_MS b)) ≤ s.time →
    ∃ t, Sys2Proof.Machine.exec (.park b) s = .next t ∧ (t.rinse b).parkFrom = none ∧
      (s.rd (R.BAR_PARK_LINES b) = 0 → t.rd (R.BAR_RSTAT_PARKED b) = 1 ∧ (t.rinse b).window = 0 ∧ t.pow = s.pow) ∧
      (s.rd (R.BAR_PARK_LINES b) ≠ 0 → t.rd (R.BAR_RSTAT_SPITTING b) = 1 ∧ (t.rinse b).window = 1 ∧
        (t.rinse b).left = s.rd (R.BAR_PARK_LINES b)) ∧
      t = { s with
          regs := t.regs, pow := { s.pow with lastBusy := t.pow.lastBusy, phase := t.pow.phase },
          spans := { s.spans with leaves := t.spans.leaves }, rinses := t.rinses, lanes := t.lanes, out := t.out } ∧
      SameWords s t ([R.BAR_RSTAT b] ++ (List.range 16).map R.HL_STATE)) ∧
  (∀ (s : State) (b : Fin 16), s.awake = true → s.rd (R.BAR_RSTAT_PARKED b) = 1 → s.barWaits b = false → s.rd (R.BAR_IDLE_SPIT_S b) ≠ 0 →
    s.rd (R.BAR_RINSE_SPIT_LINES b) ≠ 0 → (s.rinse b).window = 0 → (s.rinse b).idleAt + secTicks (s.rd (R.BAR_IDLE_SPIT_S b)) ≤ s.time →
    ∃ t, Sys2Proof.Machine.exec (.idleWindow b) s = .next t ∧ (t.rinse b).window = 2 ∧
      (t.rinse b).left = s.rd (R.BAR_RINSE_SPIT_LINES b) ∧ t.rd (R.BAR_RSTAT_SPITTING b) = 1 ∧ t.rd (R.BAR_RSTAT_PARKED b) = 1 ∧
      t = { s with
          regs := t.regs, pow := { s.pow with lastBusy := t.pow.lastBusy, phase := t.pow.phase },
          spans := { s.spans with leaves := t.spans.leaves }, rinses := t.rinses, lanes := t.lanes, out := t.out } ∧
      SameWords s t ([R.BAR_RSTAT b] ++ (List.range 16).map R.HL_STATE)) ∧
  (∀ (s : State) (b : Fin 16), s.awake = true → (s.rinse b).window ≠ 0 →
    200000000 ≤ (s.time - (s.rinse b).clockAt) * s.rd (R.BAR_IDLE_RATE b) →
    ∃ t, Sys2Proof.Machine.exec (.parkClockTrigger b) s = .next t ∧ (t.rinse b).left = (if (s.rinse b).left ≤ 1 then 0 else (s.rinse
      b).left - 1) ∧
      (t.rinse b).lines = (s.rinse b).lines + 1 ∧ (t.tg b).lseq = ((s.tg b).lseq + 1) % 2 ^ 32 ∧
      ((s.rinse b).left ≤ 1 → (t.rinse b).window = 0 ∧ t.rd (R.BAR_RSTAT_SPITTING b) = 0 ∧
        ((s.rinse b).window = 1 → t.rd (R.BAR_RSTAT_PARKED b) = 1)) ∧
      (1 < (s.rinse b).left → (t.rinse b).window = (s.rinse b).window ∧ (t.rinse b).clockAt = s.time) ∧
      t = { s with
          regs := t.regs, pow := { s.pow with lastBusy := t.pow.lastBusy, phase := t.pow.phase },
          spans := { s.spans with leaves := t.spans.leaves }, tgs := t.tgs, gates := t.gates, rinses := t.rinses,
          lanes := t.lanes, flights := t.flights, out := t.out })

/-- With the core at work: eight training sets take a lane from DETECT to TRAIN, and trained with TS_B both ways from TRAIN to LOCK; 64
headers from LOCK to EXCHANGE; a state's time limit takes LOCK back to TRAIN and the others to DETECT. A CAP that fits the configuration
fixes the agreed rate, fills the head's registers and sends CFG_CH and CFG_END; one that does not turns the lane OFF with the reason.
The ACKs of CFG_END lead to RATE, to the second CFG_END and to the echo burst, that of RATE to training at the agreed rate, that of GO
to ACTIVE with DONE and ABORTED clear; an ACK of another message or with another CRC changes nothing. A REJECT of the message waited for
turns a lane that is not ACTIVE OFF with its reason. A message with no answer in 1 ms is sent again; a rejected lane starts again after
1 s. No other lane is touched. -/
def Obligations.LaneBringUp : Prop :=
  (∀ (s : State) (lane : Fin 16) (rates rate flags : Byte) (tsB : Bool) (count sentB : Nat) (trained : Bool), s.coreOn = true → 8 ≤ count
    →
    s.laneState lane = laneDetect ∨ (s.laneState lane = laneTrain ∧ trained = true ∧ tsB = true ∧ 16 ≤ sentB) →
    ∃ t, Sys2Proof.Machine.exec (.trainingSetRx lane rates rate flags tsB count sentB trained) s = .next t ∧
      (s.laneState lane = laneDetect → t.laneState lane = laneTrain ∧
        t.out = s.out ++ [.training lane (s.lane lane).rateInUse false]) ∧
      (s.laneState lane = laneTrain → t.laneState lane = laneLock ∧ t.out = s.out ∧
        ((s.lane lane).rateInUse ≠ 0 → (s.lane lane).fast = true → (t.rx lane).trims = (s.rx lane).interpolate (s.rxTemp lane))) ∧
      (t.lane lane).since = s.time ∧ (∀ m : Fin 16, m ≠ lane → t.lane m = s.lane m) ∧
      t = { s with
          regs := t.regs, spans := { s.spans with leaves := t.spans.leaves }, lanes := t.lanes, out := t.out, free := t.free } ∧
            SameWords s t [R.HL_STATE lane]) ∧
  (∀ (s : State) (lane : Fin 16) (headers : Nat), s.coreOn = true → s.laneState lane = laneLock → 64 ≤ headers →
    ∃ t, Sys2Proof.Machine.exec (.blockLock lane headers) s = .next t ∧ t.laneState lane = laneExchange ∧ (t.lane lane).since = s.time ∧
      (t.lane lane).phase < symPs (s.lane lane).rateInUse ∧
      ((s.lane lane).cfgCrc = none → (t.lane lane).stage = 0 ∧ (t.lane lane).wait = none ∧ t.out = s.out) ∧
      ((s.lane lane).cfgCrc ≠ none → (s.lane lane).rateInUse = s.rd (R.HL_STATE_RATE lane) →
        (t.lane lane).stage = 3 ∧ (t.lane lane).wait = some 0x22 ∧ t.out = s.out ++ [.control lane 0x22 (s.cfgEnd lane)]) ∧
      (∀ m : Fin 16, m ≠ lane → t.lane m = s.lane m) ∧
      t = { s with
          regs := t.regs, spans := { s.spans with leaves := t.spans.leaves }, lanes := t.lanes, out := t.out, free := t.free } ∧
            SameWords s t [R.HL_STATE lane]) ∧
  (∀ (s : State) (lane : Fin 16) (lim : Nat), s.coreOn = true → s.laneLimit lane = some lim →
    (s.lane lane).since + usTicks lim ≤ s.time →
    ∃ t, Sys2Proof.Machine.exec (.laneStateTimeout lane) s = .next t ∧ (t.lane lane).since = s.time ∧ (t.lane lane).wait = none ∧
      (s.laneState lane = laneLock → t.laneState lane = laneTrain ∧
        t.out = s.out ++ [.training lane (s.lane lane).rateInUse (s.lane lane).fast]) ∧
      (s.laneState lane ≠ laneLock → t.laneState lane = laneDetect ∧ t.out = s.out ++ [.training lane 0 false]) ∧
      (∀ m : Fin 16, m ≠ lane → t.lane m = s.lane m) ∧
      t = { s with
          regs := t.regs, spans := { s.spans with leaves := t.spans.leaves }, lanes := t.lanes, out := t.out } ∧ SameWords s t
            [R.HL_STATE lane]) ∧
  (∀ (s : State) (lane : Fin 16) (c : Cap), s.coreOn = true → s.laneState lane = laneExchange →
    ∃ t, Sys2Proof.Machine.exec (.cap lane c) s = .next t ∧ t.rd (R.HL_HD_DELAY_PS lane) = c.d.toNat ∧
      t.rd (R.HL_HD_TA_PS lane) = c.taMax.toNat ∧ t.rd (R.HL_HD_ID_ID lane) = c.hdId.toNat ∧
      t.rd (R.HL_HD_INFO_SLOTS lane) = c.slots.toNat % 64 ∧ t.rd (R.HL_HD_INFO_MAX_NOZZLES lane) = c.maxNozzles.toNat % 8192 ∧
      ((s.lane lane).stage = 0 → s.capReason lane c = 0 → t.laneState lane = laneExchange ∧
        t.rd (R.HL_STATE_RATE lane) = s.agreeRate lane c ∧
        t.rd (R.HL_STATE_RATE_LOW lane) = b2n (decide (s.agreeRate lane c < s.cf (R.HL_CFG_RATE lane))) ∧ (t.lane lane).stage = 1 ∧
        (t.lane lane).wait = some 0x22 ∧ (t.lane lane).cfgCrc = some (s.cfgCrc lane) ∧
        (∀ x ∈ (t.rx lane).sets, x.rate = s.agreeRate lane c)) ∧
      ((s.lane lane).stage = 0 → s.capReason lane c ≠ 0 → t.laneState lane = laneOff ∧
        t.rd (R.HL_STATE_REJECT lane) = s.capReason lane c ∧ (t.lane lane).wait = none ∧
        (t.lane lane).rejectedAt = some s.time ∧ t.out = s.out) ∧
      (∀ m : Fin 16, m ≠ lane → t.lane m = s.lane m) ∧
      t = { s with
          regs := t.regs, spans := { s.spans with leaves := t.spans.leaves }, lanes := t.lanes, out := t.out } ∧
      SameWords s t [R.HL_HD_INFO lane, R.HL_HD_DELAY lane, R.HL_HD_TA lane, R.HL_HD_ID lane, R.HL_STATE lane]) ∧
  (∀ (s : State) (lane : Fin 16) (msg : Byte) (crc : Word), s.coreOn = true →
    ∃ t, Sys2Proof.Machine.exec (.ack lane msg crc) s = .next t ∧
      ((s.lane lane).wait ≠ some msg.toNat ∨ (msg = 0x22 ∧ (s.lane lane).cfgCrc ≠ some crc.toNat) → t = s.latch) ∧
      ((s.lane lane).wait = some msg.toNat → (msg = 0x22 → (s.lane lane).cfgCrc = some crc.toNat) →
        (msg = 0x24 → t.laneState lane = laneActive ∧ t.rd (R.HL_STATE_DONE lane) = 0 ∧ t.rd (R.HL_STATE_ABORTED lane) = 0 ∧
          (t.lane lane).activeAt = s.time ∧ t.condActive Ev.LANE_DOWN lane = false) ∧
        (msg = 0x22 → (s.lane lane).stage = 1 → s.rd (R.HL_STATE_RATE lane) ≤ (s.lane lane).rateInUse →
          (t.lane lane).stage = 3 ∧ (t.lane lane).wait = some 0x22 ∧ t.out = s.out ++ [.control lane 0x22 (s.cfgEnd lane)]) ∧
        (msg = 0x22 → (s.lane lane).stage = 1 → (s.lane lane).rateInUse < s.rd (R.HL_STATE_RATE lane) →
          (t.lane lane).stage = 2 ∧ (t.lane lane).wait = some 0x23) ∧
        (msg = 0x22 → (s.lane lane).stage ≠ 1 → (t.lane lane).stage = 4 ∧ (t.lane lane).wait = none ∧ t.out = s.out ++ [.echoes lane]) ∧
        (msg = 0x23 → t.laneState lane = laneTrain ∧ (t.lane lane).rateInUse = s.rd (R.HL_STATE_RATE lane))) ∧
      (∀ m : Fin 16, m ≠ lane → t.lane m = s.lane m) ∧
      t = { s.noticed t with lanes := t.lanes } ∧ SameWords s t ([R.HL_STATE lane] ++ eventWords)) ∧
  (∀ (s : State) (lane : Fin 16) (msg reason : Byte), s.coreOn = true → (s.lane lane).wait = some msg.toNat →
    s.laneState lane ≠ laneActive →
    ∃ t, Sys2Proof.Machine.exec (.reject lane msg reason) s = .next t ∧ t.laneState lane = laneOff ∧
      t.rd (R.HL_STATE_REJECT lane) = reason.toNat % 8 ∧ (t.lane lane).wait = none ∧ (t.lane lane).rejectedAt = some s.time ∧
      (∀ m : Fin 16, m ≠ lane → t.lane m = s.lane m) ∧
      t = { s with regs := t.regs, lanes := t.lanes, spans := { s.spans with leaves := t.spans.leaves } } ∧
      SameWords s t [R.HL_STATE lane]) ∧
  (∀ (s : State) (lane : Fin 16) (msg : Nat), s.coreOn = true → (s.lane lane).wait = some msg → (s.lane lane).sentAt + usTicks 1000 ≤
    s.time →
    ∃ t, Sys2Proof.Machine.exec (.ctrlResend lane) s = .next t ∧ (t.lane lane).sentAt = s.time ∧ (t.lane lane).wait = some msg ∧
      (∃ l p, t.out = s.out ++ l ++ [.control lane msg p]) ∧ (∀ m : Fin 16, m ≠ lane → t.lane m = s.lane m) ∧
      t = { s with
          spans := { s.spans with leaves := t.spans.leaves }, lanes := t.lanes, out := t.out }) ∧
  (∀ (s : State) (lane : Fin 16) (x : Nat), s.coreOn = true → s.laneOn lane = true → (s.lane lane).rejectedAt = some x →
    x + secTicks 1 ≤ s.time →
    ∃ t, Sys2Proof.Machine.exec (.laneRestart lane) s = .next t ∧ t.laneState lane = laneDetect ∧ (t.lane lane).rejectedAt = none ∧
      t.out = s.out ++ [.training lane 0 false] ∧ (∀ m : Fin 16, m ≠ lane → t.lane m = s.lane m) ∧
      t = { s with
          regs := t.regs, spans := { s.spans with leaves := t.spans.leaves }, lanes := t.lanes, out := t.out } ∧ SameWords s t
            [R.HL_STATE lane])

/-- A STATUS of 60 bytes on a lane at work adds the head's counts and takes each channel's temperature code; other lengths are ill
formed. HEAD_STALE marks a channel unheard for 5 ms. An echo burst of at least 48 replies sets Λ and CAL_OK, and in EXCHANGE sends GO; a
shorter one counts its missing replies and clears CAL_OK, and is repeated in EXCHANGE. LANE_DOWN takes an ACTIVE lane to TRAIN at its
rate, sets DONE, counts the loss, raises LANE_DOWN and leaves neither a marker nor a channel of a line on it. LANE_REVERT brings every
channel whose home the lane is back to it. TRIM_STEP moves at most one trim of one receiver, by one, and none without an area larger by
2 %. TRIM_SET_STORE keeps the trims with their temperature, rate and area. -/
def Obligations.LaneService : Prop :=
  (∀ (s : State) (lane : Fin 16) (p : List Byte), p.length = 60 → s.coreOn = true → le p 0 1 = 1 →
    s.laneState lane = laneActive ∨ s.laneState lane = laneShallow →
    ∃ t, Sys2Proof.Machine.exec (.statusRx lane p) s = .next t ∧
      t.rd (R.HL_HD_MISS_COUNT lane) = (s.rd (R.HL_HD_MISS_COUNT lane) + le p 4 2) % 2 ^ 32 ∧
      t.rd (R.HL_HD_DUP_COUNT lane) = (s.rd (R.HL_HD_DUP_COUNT lane) + le p 6 2) % 2 ^ 32 ∧
      t.rd (R.HL_EYE_HD_WIDTH lane) = le p 0x0A 1 ∧
      (∀ e ∈ s.slots lane, Sparse.get 0 t.reports e.1 = s.time ∧ (le p (0x0C + e.2.1) 1 ≠ 255 →
        (t.head e.1).codes = (le p (0x0C + e.2.1) 1 :: (s.head e.1).codes).take 16)) ∧
      (∀ m : Fin 16, m ≠ lane → t.lane m = s.lane m) ∧
      t = { s.noticed t with
          pow := { s.pow with lastBusy := t.pow.lastBusy }, pieces := t.pieces, ended := t.ended, rejects := t.rejects,
          tgs := t.tgs, ring := t.ring, stop := { s.stop with active := t.stop.active }, lanes := t.lanes, reports := t.reports,
          heads := t.heads, evid := t.evid, verify := t.verify }) ∧
  (∀ (s : State) (lane : Fin 16) (p : List Byte), p.length ≠ 60 → Sys2Proof.Machine.exec (.statusRx lane p) s = .fault .illFormed) ∧
  (∀ (s : State) (ch : Fin 512), s.awake = true → s.chOn ch = true → usTicks 5000 ≤ s.time - Sparse.get 0 s.reports ch →
    (s.time - Sparse.get 0 s.reports ch < usTicks 100000 ∨ (s.head ch).codes = []) →
    ∃ t, Sys2Proof.Machine.exec (.headStale ch) s = .next t ∧ t.rd (R.CH_HEADT_STALE ch) = 1 ∧
      t.rd (R.CH_HEADT_CODE ch) = s.rd (R.CH_HEADT_CODE ch) ∧
      t = { s with regs := t.regs, spans := { s.spans with leaves := t.spans.leaves } } ∧
      SameWords s t [R.CH_HEADT ch, R.SD_NOW]) ∧
  (∀ (s : State) (ch : Fin 512), s.awake = true → s.chOn ch = true → usTicks 100000 ≤ s.time - Sparse.get 0 s.reports ch →
    (s.head ch).codes ≠ [] →
    ∃ t, Sys2Proof.Machine.exec (.headStale ch) s = .next t ∧ (t.head ch).hard = true ∧
      (∀ e : Fin 512, e ≠ ch → t.head e = s.head e) ∧ t = { s.noticed t with
          pow := { s.pow with lastBusy := t.pow.lastBusy }, pieces := t.pieces, ended := t.ended, rejects := t.rejects,
          tgs := t.tgs, ring := t.ring, stop := { s.stop with active := t.stop.active }, heads := t.heads, evid := t.evid,
          verify := t.verify }) ∧
  (∀ (s : State) (lane : Fin 16) (rt : List Int) (tInt : Int), s.coreOn = true →
    s.laneState lane = laneActive ∨ (s.laneState lane = laneExchange ∧ (s.lane lane).stage = 4) → 48 ≤ rt.length → rt.length ≤ 64 →
    ∃ t, Sys2Proof.Machine.exec (.echoBurst lane rt tInt) s = .next t ∧
      t.rd (R.HL_LAMBDA_PS lane) = unsigned 32 (s.lambdaOf lane rt tInt) ∧ t.rd (R.HL_STATE_CAL_OK lane) = 1 ∧
      (t.lane lane).fails = 0 ∧ (t.lane lane).calAt = some s.time ∧ t.laneState lane = s.laneState lane ∧
      (s.laneState lane = laneExchange → (t.lane lane).stage = 5 ∧ (t.lane lane).wait = some 0x24 ∧
        Output.control lane 0x24 [] ∈ t.out) ∧ (∀ m : Fin 16, m ≠ lane → t.lane m = s.lane m) ∧
      t = { s.noticed t with lanes := t.lanes } ∧ SameWords s t ([R.HL_LAMBDA lane, R.HL_STATE lane] ++ eventWords)) ∧
  (∀ (s : State) (lane : Fin 16) (rt : List Int) (tInt : Int), s.coreOn = true →
    s.laneState lane = laneActive ∨ (s.laneState lane = laneExchange ∧ (s.lane lane).stage = 4) → rt.length < 48 →
    ∃ t, Sys2Proof.Machine.exec (.echoBurst lane rt tInt) s = .next t ∧
      t.rd (R.HL_ECHO_LOST_COUNT lane) = (s.rd (R.HL_ECHO_LOST_COUNT lane) + (64 - rt.length)) % 2 ^ 32 ∧
      t.rd (R.HL_STATE_CAL_OK lane) = 0 ∧
      (s.laneState lane = laneExchange → t.laneState lane = laneExchange ∧ Output.echoes lane ∈ t.out) ∧
      (s.laneState lane = laneActive → ((s.lane lane).fails < 2 → t.laneState lane = laneActive ∧
        (t.lane lane).fails = (s.lane lane).fails + 1) ∧ (2 ≤ (s.lane lane).fails → t.laneState lane = laneTrain)) ∧
      t = { s.noticed t with
          pow := { s.pow with lastBusy := t.pow.lastBusy }, pieces := t.pieces, ended := t.ended, rejects := t.rejects,
          tgs := t.tgs, ring := t.ring, stop := { s.stop with active := t.stop.active, faults := t.stop.faults },
          lanes := t.lanes, flights := t.flights, evid := t.evid, verify := t.verify }) ∧
  (∀ (s : State) (lane : Fin 16) (rt : List Int) (tInt : Int), 64 < rt.length →
    Sys2Proof.Machine.exec (.echoBurst lane rt tInt) s = .fault .illFormed) ∧
  (∀ (s : State) (lane : Fin 16), s.coreOn = true → s.laneState lane = laneActive →
    ∃ t, Sys2Proof.Machine.exec (.laneDown lane) s = .next t ∧ t.laneState lane = laneTrain ∧ t.rd (R.HL_STATE_DONE lane) = 1 ∧
      t.rd (R.HL_LOCK_LOSS_COUNT lane) = (s.rd (R.HL_LOCK_LOSS_COUNT lane) + 1) % 2 ^ 32 ∧ t.condActive Ev.LANE_DOWN lane = true ∧
      Output.training lane (s.rd (R.HL_STATE_RATE lane)) true ∈ t.out ∧ (t.lane lane).plan = [] ∧
      (∀ x ∈ t.flights, ∀ c ∈ x.chans, c.lane ≠ lane) ∧
      t = { s.noticed t with
          pow := { s.pow with lastBusy := t.pow.lastBusy }, pieces := t.pieces, ended := t.ended, rejects := t.rejects,
          tgs := t.tgs, ring := t.ring, stop := { s.stop with active := t.stop.active, faults := t.stop.faults },
          lanes := t.lanes, flights := t.flights, evid := t.evid, verify := t.verify }) ∧
  (∀ (s : State) (lane : Fin 16), s.awake = true → s.laneServes lane = true → s.rd (R.HL_STATE_CAL_OK lane) = 1 →
    (s.lane lane).activeAt + secTicks (s.rd R.REVERT_S) ≤ s.time →
    ∃ t, Sys2Proof.Machine.exec (.laneRevert lane) s = .next t ∧
      (∀ c ∈ s.channels, s.cf (R.CH_LANE_HOME c) = lane → t.rd (R.CH_LANE_ON_SECOND c) = 0) ∧
      (∀ c ∈ s.channels, s.cf (R.CH_LANE_HOME c) ≠ lane → t.rd (R.CH_LANE_ON_SECOND c) = s.rd (R.CH_LANE_ON_SECOND c)) ∧
      t = s.noticed t ∧ SameWords s t (s.channels.map R.CH_LANE ++ eventWords)) ∧
  (∀ (s : State) (lane : Fin 20) (a0 ap am : Nat) (w h : Byte), s.awake = true → s.rxUp lane = true →
    (s.rx lane).stepAt + secTicks 1 ≤ s.time →
    ∃ t, Sys2Proof.Machine.exec (.trimStep lane a0 ap am w h) s = .next t ∧ (t.rx lane).stepAt = s.time ∧
      (t.rx lane).next = ((s.rx lane).next + 1) % trimCount lane ∧
      (∀ j, j ≠ (s.rx lane).next → (t.rx lane).trims.getD j 0 = (s.rx lane).trims.getD j 0) ∧
      (∀ j, ((t.rx lane).trims.getD j 0 - (s.rx lane).trims.getD j 0).natAbs ≤ 1) ∧
      (100 * max ap am < 102 * a0 → (t.rx lane).trims = (s.rx lane).trims) ∧
      (lane.val < 16 → t.rd (R.HL_EYE_WIDTH lane) = w.toNat ∧ t.rd (R.HL_EYE_HEIGHT lane) = h.toNat) ∧
      (16 ≤ lane.val → t.rd (R.CL_STATUS_EYE_W (lane - 16)) = w.toNat) ∧
      (∀ m : Fin 20, m ≠ lane → t.rx m = s.rx m) ∧
      t = { s with
          regs := t.regs, spans := { s.spans with leaves := t.spans.leaves }, lanes := t.lanes, camRx := t.camRx } ∧
      SameWords s t [if lane.val < 16 then R.HL_EYE lane else R.CL_STATUS (lane - 16)]) ∧
  (∀ (s : State) (lane : Fin 20) (area : BitVec 16), s.awake = true → s.rxUp lane = true → s.setDue lane = true →
    ∃ t, Sys2Proof.Machine.exec (.trimSetStore lane area) s = .next t ∧
      TrimSet.mk (s.rxTemp lane) (s.rxRate lane) (s.rx lane).trims area.toNat ∈ (t.rx lane).sets ∧
      (t.rx lane).sets.length ≤ max 8 (s.rx lane).sets.length ∧ (t.rx lane).trims = (s.rx lane).trims ∧
      (∀ m : Fin 20, m ≠ lane → t.rx m = s.rx m) ∧
      t = { s with
          spans := { s.spans with leaves := t.spans.leaves }, lanes := t.lanes, camRx := t.camRx })

/-- With 32 samples before and as many as the window is wide, the oldest shot whose window has ended is classed: TESTS counts it,
GATEg_LAST shows its nozzle and class, VOID or FAILS counts as the class says, the shot is gone and the nozzle is no more queued, and a
sample of 0 or 4095 makes the class VOID. The nozzle is marked as tested at this tick; a VOID test changes no run and no list; a failed
test of an unlisted nozzle adds one to its run, or lists it at FAIL_N. GATE_TRIM changes GAIN by at most 1 or OFFSET by at most 256,
never both, and neither with TRIM_HOLD or inside a test window. GATE_TRIM_STORE keeps the trims as a set, at most 8. Wrong sample counts
are ill formed. No other gate changes. -/
def Obligations.GateTests : Prop :=
  (∀ (s : State) (g : Fin 4) (v : GateSamples) (x : TestShot) (cl : GateClass), v.pre.length = 32 →
    v.win.length = s.rd (R.GATE_TIMING_WIDTH g) → s.coreOn = true → s.endedShot g = some x →
    cl = s.classify g x (v.pre.map (·.toNat)) (v.win.map (·.toNat)) →
    ∃ t, Sys2Proof.Machine.exec (.gateWindowEnd g v) s = .next t ∧
      t.rd (R.GATE_TESTS_COUNT g) = (s.rd (R.GATE_TESTS_COUNT g) + 1) % 2 ^ 32 ∧
      t.rd (R.GATE_LAST_NOZZLE g) = x.nozzle % 2 ^ 20 ∧ t.rd (R.GATE_LAST_CLASS g) = cl.code ∧
      ((∃ y ∈ v.pre ++ v.win, y.toNat = 0 ∨ y.toNat = 4095) → cl = .void) ∧
      t.rd (R.GATE_VOID_COUNT g) = (s.rd (R.GATE_VOID_COUNT g) + (if cl = .void then 1 else 0)) % 2 ^ 32 ∧
      t.rd (R.GATE_FAILS_COUNT g) = (s.rd (R.GATE_FAILS_COUNT g) + (if cl = .void ∨ cl = .good then 0 else 1)) % 2 ^ 32 ∧
      (t.gate g).shots = (s.gate g).shots.erase x ∧ x.nozzle ∉ (t.gate g).queue ∧
      Sparse.get 0 t.darn.tested x.nozzle = s.time + 1 ∧
      (cl = .void → t.darn.list = s.darn.list ∧ t.darn.runs = s.darn.runs) ∧
      (cl ≠ .void → cl ≠ .good → s.listed x.nozzle = false →
        (Sparse.get 0 s.darn.runs x.nozzle + 1 < s.rd (R.GATE_CLASS_FAIL_N g) → t.darn.list = s.darn.list ∧
          Sparse.get 0 t.darn.runs x.nozzle = Sparse.get 0 s.darn.runs x.nozzle + 1) ∧
        (s.rd (R.GATE_CLASS_FAIL_N g) ≤ Sparse.get 0 s.darn.runs x.nozzle + 1 → s.darn.list.length < 16384 →
          t.listed x.nozzle = true ∧ t.darn.list.length = s.darn.list.length + 1)) ∧
      (∀ h : Fin 4, h ≠ g → t.gate h = s.gate h) ∧
      t = { s.noticed t with
          pow := { s.pow with lastBusy := t.pow.lastBusy }, pieces := t.pieces, ended := t.ended, rejects := t.rejects,
          tgs := t.tgs, ring := t.ring, stop := { s.stop with active := t.stop.active, faults := t.stop.faults },
          darn := { s.darn with
            carry := t.darn.carry, change := t.darn.change, gone := t.darn.gone, list := t.darn.list,
            runs := t.darn.runs, tested := t.darn.tested },
          gates := t.gates, evid := t.evid, verify := t.verify }) ∧
  (∀ (s : State) (g : Fin 4) (v : GateSamples), v.pre.length ≠ 32 ∨ v.win.length ≠ s.rd (R.GATE_TIMING_WIDTH g) →
    Sys2Proof.Machine.exec (.gateWindowEnd g v) s = .fault .illFormed) ∧
  (∀ (s : State) (g : Fin 4) (bins : List Nat), bins.length = 256 → s.coreOn = true → s.gateOn g = true →
    (s.gate g).stepAt + usTicks 100000 ≤ s.time →
    ∃ t, Sys2Proof.Machine.exec (.gateTrim g bins) s = .next t ∧ (t.gate g).stepAt = s.time ∧ (t.gate g).bins = bins ∧
      (t.gate g).sets = (s.gate g).sets ∧
      (t.rd (R.GATE_TRIM_GAIN g) = s.rd (R.GATE_TRIM_GAIN g) ∨ t.rd (R.GATE_TRIM_OFFSET g) = s.rd (R.GATE_TRIM_OFFSET g)) ∧
      (16 ≤ s.rd (R.GATE_TRIM_GAIN g) → 16 ≤ t.rd (R.GATE_TRIM_GAIN g) ∧
        ((t.rd (R.GATE_TRIM_GAIN g) : Int) - s.rd (R.GATE_TRIM_GAIN g)).natAbs ≤ 1) ∧
      ((t.rd (R.GATE_TRIM_OFFSET g) : Int) - s.rd (R.GATE_TRIM_OFFSET g)).natAbs ≤ 256 ∧
      (s.rd (R.GATE_CFG_TRIM_HOLD g) = 1 ∨ s.inTestWindow g = true → t.rd (R.GATE_TRIM_GAIN g) = s.rd (R.GATE_TRIM_GAIN g) ∧
        t.rd (R.GATE_TRIM_OFFSET g) = s.rd (R.GATE_TRIM_OFFSET g)) ∧
      (∀ h : Fin 4, h ≠ g → t.gate h = s.gate h) ∧
      t = { s with
          regs := t.regs, spans := { s.spans with leaves := t.spans.leaves }, gates := t.gates } ∧
      SameWords s t [R.GATE_LEVEL g, R.GATE_STATE g, R.GATE_TRIM g, R.GATE_AREF g]) ∧
  (∀ (s : State) (g : Fin 4) (bins : List Nat), bins.length ≠ 256 →
    Sys2Proof.Machine.exec (.gateTrim g bins) s = .fault .illFormed) ∧
  (∀ (s : State) (g : Fin 4), s.coreOn = true → s.gateSetDue g = true →
    ∃ t, Sys2Proof.Machine.exec (.gateTrimStore g) s = .next t ∧
      GateSet.mk (s.rdI (R.TS_TEMP 9)) (s.rd (R.GATE_TRIM_OFFSET g)) (s.rd (R.GATE_TRIM_GAIN g)) (s.rd (R.GATE_AREF_AREF g)) ∈
        (t.gate g).sets ∧
      (t.gate g).sets.length = max (s.gate g).sets.length (min 8 ((s.gate g).sets.length + 1)) ∧
      t.rd (R.GATE_STATE_SETS g) = (t.gate g).sets.length % 16 ∧ (∀ h : Fin 4, h ≠ g → t.gate h = s.gate h) ∧
      t = { s with
          regs := t.regs, spans := { s.spans with leaves := t.spans.leaves }, gates := t.gates } ∧
      SameWords s t [R.GATE_STATE g])

/-- Sixteen training sets lock a lane that is training; where its pipeline is enabled that arms it with every enabled pipeline on its
trigger source: each is sent START, forgets its triggers and is held until the same tick, at least START_HOLD after now, and shows
ARMING, or no lock. At least 8 invalid symbols or 16,384 without idle lose the lock: the lane trains again, the loss counts, and the
frame in progress ends. ARM_RELEASE at its tick releases all of them. A well-formed answer to SET settles the settings it names, and one
that is not well formed counts in MISMATCH. PING is sent every second while nothing else is due. -/
def Obligations.CameraLanes : Prop :=
  (∀ (s : State) (lane : Fin 4) (sets : Nat), s.coreOn = true → s.rd (R.CL_STATUS_STATE lane) = 1 → 16 ≤ sets →
    ∃ t, Sys2Proof.Machine.exec (.clLock lane sets) s = .next t ∧ t.rd (R.CL_STATUS_STATE lane) = 2 ∧
      (s.cpOn lane = false → t.cams = s.cams ∧ t.out = s.out) ∧
      (s.cpOn lane = true → ∃ r, ∀ k ∈ s.armGroup lane, (t.cam k).release = some r ∧
        s.time + usTicks (s.rd (R.CP_CAMCTL_START_HOLD k)) ≤ r ∧ (t.cam k).trigs = [] ∧ (t.cam k).count = 0 ∧
        Output.camctl k (camMsg 2 0 []) ∈ t.out ∧ t.rd (R.CP_STATUS_STATE k) = (if t.rd (R.CL_STATUS_STATE k) = 2 then 2 else 1)) ∧
      (∀ k : Fin 4, k.val ∉ s.armGroup lane → t.cam k = s.cam k) ∧
      t = { s with
          regs := t.regs, spans := { s.spans with leaves := t.spans.leaves }, cams := t.cams, out := t.out } ∧
      SameWords s t [R.CL_STATUS lane, R.CP_STATUS 0, R.CP_STATUS 1, R.CP_STATUS 2, R.CP_STATUS 3]) ∧
  (∀ (s : State) (lane : Fin 4) (invalid noIdle : Nat), s.coreOn = true →
    ∃ t, Sys2Proof.Machine.exec (.clLockLoss lane invalid noIdle) s = .next t ∧
      t.rd (R.CL_SYMERR_COUNT lane) = (s.rd (R.CL_SYMERR_COUNT lane) + invalid) % 2 ^ 32 ∧
      (s.rd (R.CL_STATUS_STATE lane) = 2 → 8 ≤ invalid ∨ 16384 ≤ noIdle → t.rd (R.CL_STATUS_STATE lane) = 1 ∧
        t.rd (R.CL_LOCK_LOSS_COUNT lane) = (s.rd (R.CL_LOCK_LOSS_COUNT lane) + 1) % 2 ^ 32 ∧ (t.cam lane).frame = none ∧
        (s.cpOn lane = true → t.rd (R.CP_STATUS_STATE lane) = 1)) ∧
      (s.rd (R.CL_STATUS_STATE lane) ≠ 2 ∨ (invalid < 8 ∧ noIdle < 16384) →
        t = { s with regs := t.regs, spans := { s.spans with leaves := t.spans.leaves } } ∧
        SameWords s t [R.CL_SYMERR lane]) ∧
      t = { s.noticed t with
          pow := { s.pow with lastBusy := t.pow.lastBusy }, pieces := t.pieces, ended := t.ended, rejects := t.rejects,
          tgs := t.tgs, ring := t.ring, stop := { s.stop with active := t.stop.active, faults := t.stop.faults },
          darn := { s.darn with
            change := t.darn.change, list := t.darn.list, runs := t.darn.runs, streaks := t.darn.streaks },
          gates := t.gates, hist := t.hist, cams := t.cams,
          iron := { s.iron with bins := t.iron.bins, est := t.iron.est, regs := t.iron.regs }, evid := t.evid,
          verify := t.verify }) ∧
  (∀ (s : State) (n : Fin 4) (r : Nat), s.coreOn = true → (s.cam n).release = some r → r ≤ s.time →
    ∃ t, Sys2Proof.Machine.exec (.armRelease n) s = .next t ∧
      (∀ k ∈ s.armGroup n, (t.cam k).release = none ∧
        t.rd (R.CP_STATUS_STATE k) = if s.rd (R.CL_STATUS_STATE k) = 2 then 3 else 1) ∧
      (∀ k : Fin 4, k.val ∉ s.armGroup n → t.cam k = s.cam k) ∧
      t = { s with
          regs := t.regs, spans := { s.spans with leaves := t.spans.leaves }, cams := t.cams } ∧
      SameWords s t [R.CP_STATUS 0, R.CP_STATUS 1, R.CP_STATUS 2, R.CP_STATUS 3]) ∧
  (∀ (s : State) (n : Fin 4) (sid : Byte) (frame : BitVec 16), s.coreOn = true → s.cpOn n = true →
    ∃ t, Sys2Proof.Machine.exec (.camctlReply n (camMsg 0x81 sid.toNat (leBytes 2 frame.toNat))) s = .next t ∧
      (t.cam n).beliefs.length = (s.cam n).beliefs.length ∧
      (∀ b ∈ (t.cam n).beliefs, b.sid = sid.toNat → b.told = true) ∧
      (∀ b ∈ (s.cam n).beliefs, b.sid ≠ sid.toNat → b ∈ (t.cam n).beliefs) ∧
      (∀ x, (s.cam n).wait = some (1, x) → (t.cam n).wait = none) ∧ (∀ k : Fin 4, k ≠ n → t.cam k = s.cam k) ∧
      t = { s with
          regs := t.regs, spans := { s.spans with leaves := t.spans.leaves }, cams := t.cams } ∧ SameWords s t [R.CP_STATUS n]) ∧
  (∀ (s : State) (n : Fin 4) (bytes : List Byte), s.coreOn = true → s.cpOn n = true → bytes.length < 5 ∨ le bytes 0 1 ≠ 0xA5 →
    ∃ t, Sys2Proof.Machine.exec (.camctlReply n bytes) s = .next t ∧
      t.rd (R.CP_MISMATCH_COUNT n) = (s.rd (R.CP_MISMATCH_COUNT n) + 1) % 2 ^ 32 ∧
      t = { s with regs := t.regs, spans := { s.spans with leaves := t.spans.leaves } } ∧
      SameWords s t [R.CP_MISMATCH n]) ∧
  (∀ (s : State) (n : Fin 4), s.coreOn = true → s.cpOn n = true → (s.cam n).pinged + secTicks 1 ≤ s.time →
    (s.cam n).ctlEnd ≤ s.time → (s.cam n).release = none →
    ∃ t, Sys2Proof.Machine.exec (.ping n) s = .next t ∧
      t.out = s.out ++ [.camctl n (camMsg 3 (s.rd (R.CP_STATUS_SID n)) [])] ∧ (t.cam n).pinged = s.time ∧ s.time ≤ (t.cam n).ctlEnd ∧
      (t.cam n).wait = some (3, s.rd (R.CP_STATUS_SID n)) ∧ (∀ k : Fin 4, k ≠ n → t.cam k = s.cam k) ∧
      t = { s with
          spans := { s.spans with leaves := t.spans.leaves }, cams := t.cams, out := t.out })

/-- A packet with an invalid symbol or of the wrong size is discarded and counted, whatever it carries. A Frame Start accepted by its
pipeline begins a frame with its number and no line, clears DONE and ABORTED, counts the frames lost since the last, and returns the
module from Dusk to Day. An image line of the right length becomes the newest line of the frame, with one absorbance of at most 1,023
per pixel and plane; beyond the frame's height it only counts, and one of another length counts in BADLINE. The byte of embedded data at
OFS becomes the settings ID of the frame. Frame End counts the frame, and SHORT or LONG, sets DONE and leaves no frame in progress. A
field check with an outcome counts in PASS or FAIL, and a failure marks the piece VERIFY_FAIL and rejected. -/
def Obligations.CameraFrames : Prop :=
  (∀ (s : State) (n : Fin 4) (p : Packet) (num : Option (BitVec 16)) (full : BitVec 4) (c : Instr), s.coreOn = true →
    s.rd (R.CL_STATUS_STATE n) = 2 → p.invalid ≠ 0 ∨ p.sized = false →
    c = .frameStart n p ∨ c = .imageLine n p num full [] ∨ c = .embeddedLine n p ∨ c = .frameEnd n p [] →
    ∃ t, Sys2Proof.Machine.exec c s = .next t ∧ t.rd (R.CL_DISCARD_COUNT n) = (s.rd (R.CL_DISCARD_COUNT n) + 1) % 2 ^ 32 ∧
      t.rd (R.CL_SYMERR_COUNT n) = (s.rd (R.CL_SYMERR_COUNT n) + p.invalid) % 2 ^ 32 ∧
      t = { s with regs := t.regs, spans := { s.spans with leaves := t.spans.leaves } } ∧
      SameWords s t [R.CL_DISCARD n, R.CL_SYMERR n]) ∧
  (∀ (s : State) (n : Fin 4) (p : Packet), s.coreOn = true → s.rd (R.CL_STATUS_STATE n) = 2 → p.invalid = 0 → p.sized = true → p.ecc ≠ 2 →
    s.cpOn n = true → p.vc.toNat = s.cf (R.CP_CFG_VC n) → p.dt = 0 →
    ∃ t f, Sys2Proof.Machine.exec (.frameStart n p) s = .next t ∧ (t.cam n).frame = some f ∧ f.num = p.wc.toNat ∧ f.lines = [] ∧
      f.ovf = 0 ∧ f.told = none ∧ (t.cam n).lastNum = p.wc.toNat ∧ (t.cam n).base = f.base ∧
      ((s.cam n).frame = none → (s.cam n).lastLines = none → f.base = 0) ∧
      ((s.cam n).lastLines ≠ none ∨ (s.cam n).frame ≠ none → p.wc ≠ 0 → (s.cam n).lastNum ≠ 0 → t.rd (R.CP_LOST_COUNT n) =
        (s.rd (R.CP_LOST_COUNT n) + (p.wc.toNat + 65535 - (s.cam n).lastNum - 1 + 65535) % 65535) % 2 ^ 32) ∧
      t.rd (R.CP_STATUS_DONE n) = 0 ∧ t.rd (R.CP_STATUS_ABORTED n) = 0 ∧
      (s.pow.phase = .dusk → t.pow.phase = .day) ∧ (s.pow.phase ≠ .dusk → t.pow.phase = s.pow.phase) ∧
      t = { s.noticed t with
          pendw := t.pendw, pow := { s.pow with lastBusy := t.pow.lastBusy, phase := t.pow.phase }, pieces := t.pieces,
          ended := t.ended, rejects := t.rejects, tgs := t.tgs, ring := t.ring,
          stop := { s.stop with active := t.stop.active, faults := t.stop.faults },
          darn := { s.darn with
            change := t.darn.change, list := t.darn.list, runs := t.darn.runs, streaks := t.darn.streaks },
          gates := t.gates, lanes := t.lanes, hist := t.hist, cams := t.cams,
          iron := { s.iron with bins := t.iron.bins, est := t.iron.est, regs := t.iron.regs }, evid := t.evid,
          verify := t.verify }) ∧
  (∀ (s : State) (n : Fin 4) (p : Packet) (num : Option (BitVec 16)) (full : BitVec 4) (f : CamFrame), s.coreOn = true → s.rd
    (R.CL_STATUS_STATE n) = 2 → p.invalid = 0 → p.sized = true → p.ecc ≠ 2 →
    s.cpOn n = true → p.vc.toNat = s.cf (R.CP_CFG_VC n) →
    p.dt.toNat = s.cf (R.CP_CFG_DT n) → p.crcOk = true → (s.cam n).frame = some f →
    ∃ t g, Sys2Proof.Machine.exec (.imageLine n p num full []) s = .next t ∧ (t.cam n).frame = some g ∧ g.num = f.num ∧
      (p.body.length ≠ lineBytes (s.cf (R.CP_CFG_DT n)) (s.cpWidth n) → g = f ∧
        t.rd (R.CP_BADLINE_COUNT n) = (s.rd (R.CP_BADLINE_COUNT n) + 1) % 2 ^ 32) ∧
      (p.body.length = lineBytes (s.cf (R.CP_CFG_DT n)) (s.cpWidth n) → s.cpHeight n ≤ f.lines.length →
        g.lines = f.lines ∧ g.extra = f.extra + 1) ∧
      (p.body.length = lineBytes (s.cf (R.CP_CFG_DT n)) (s.cpWidth n) → f.lines.length < s.cpHeight n →
        (∃ l, g.lines = l :: f.lines ∧ l.absb.length = s.cpWidth n * s.planes n ∧ (∀ v ∈ l.absb, v ≤ 1023) ∧ (∀ v ∈ l.refl, v ≤ 255) ∧
          (s.cf (R.CP_CFG_LINENUM n) ≠ 1 → l.y = f.lines.length)) ∧ (t.cam n).gap = false) ∧
      (∀ k : Fin 4, k ≠ n → t.cam k = s.cam k) ∧
      t = { s.noticed t with
          pow := { s.pow with lastBusy := t.pow.lastBusy }, pieces := t.pieces, ended := t.ended, rejects := t.rejects,
          tgs := t.tgs, ring := t.ring, cx := t.cx, stop := { s.stop with active := t.stop.active, faults := t.stop.faults },
          mem := { s.mem with
            bad := t.mem.bad, ces := t.mem.ces, hbmMap := t.mem.hbmMap, sramMap := t.mem.sramMap,
            waiting := t.mem.waiting },
          cams := t.cams, evid := t.evid, verify := t.verify }) ∧
  (∀ (s : State) (n : Fin 4) (p : Packet) (f : CamFrame) (b : Byte), s.coreOn = true → s.rd (R.CL_STATUS_STATE n) = 2 → p.invalid = 0 →
    p.sized = true → p.ecc ≠ 2 →
    s.cpOn n = true → p.vc.toNat = s.cf (R.CP_CFG_VC n) →
    p.dt = 0x12 → p.crcOk = true → (s.cam n).frame = some f → s.rd (R.CP_EMB_EN n) = 1 → f.told = none →
    p.body[s.rd (R.CP_EMB_OFS n)]? = some b →
    ∃ t, Sys2Proof.Machine.exec (.embeddedLine n p) s = .next t ∧ (t.cam n).frame = some { f with told := some b.toNat } ∧
      t.rd (R.CP_STATUS_SID n) = b.toNat ∧ (∀ k : Fin 4, k ≠ n → t.cam k = s.cam k) ∧
      t = { s with
          regs := t.regs, spans := { s.spans with leaves := t.spans.leaves }, cams := t.cams } ∧
      SameWords s t [R.CL_SYMERR n, R.CL_ECC_FIX n, R.CP_STATUS n]) ∧
  (∀ (s : State) (n : Fin 4) (p : Packet) (f : CamFrame), s.coreOn = true → s.rd (R.CL_STATUS_STATE n) = 2 → p.invalid = 0 → p.sized =
    true → p.ecc ≠ 2 →
    s.cpOn n = true → p.vc.toNat = s.cf (R.CP_CFG_VC n) →
    p.dt = 1 → (s.cam n).frame = some f →
    ∃ t, Sys2Proof.Machine.exec (.frameEnd n p []) s = .next t ∧ (t.cam n).frame = none ∧
      (t.cam n).lastLines = some (f.lines.length + f.extra) ∧
      t.rd (R.CP_FRAMES_COUNT n) = (s.rd (R.CP_FRAMES_COUNT n) + 1) % 2 ^ 32 ∧ t.rd (R.CP_STATUS_DONE n) = 1 ∧
      t.rd (R.CP_STATUS_ABORTED n) = 0 ∧ t.rd (R.CP_STATUS_TRANSITION n) = 0 ∧
      t.rd (R.CP_SHORT_COUNT n) = (s.rd (R.CP_SHORT_COUNT n) + (if f.lines.length < s.cpHeight n then 1 else 0)) % 2 ^ 32 ∧
      t.rd (R.CP_LONG_COUNT n) = (s.rd (R.CP_LONG_COUNT n) + (if 0 < f.extra then 1 else 0)) % 2 ^ 32 ∧
      (∀ k : Fin 4, k ≠ n → t.cam k = s.cam k) ∧
      t = { s.noticed t with
          pow := { s.pow with lastBusy := t.pow.lastBusy }, pieces := t.pieces, ended := t.ended, rejects := t.rejects,
          tgs := t.tgs, ring := t.ring, stop := { s.stop with active := t.stop.active, faults := t.stop.faults },
          mem := { s.mem with
            bad := t.mem.bad, ces := t.mem.ces, hbmMap := t.mem.hbmMap, sramMap := t.mem.sramMap,
            waiting := t.mem.waiting },
          darn := { s.darn with
            change := t.darn.change, list := t.darn.list, runs := t.darn.runs, streaks := t.darn.streaks },
          gates := t.gates, hist := t.hist, cams := t.cams,
          iron := { s.iron with bins := t.iron.bins, est := t.iron.est, regs := t.iron.regs }, evid := t.evid,
          verify := t.verify }) ∧
  (∀ (s : State) (n : Fin 4) (piece : Word) (field : Fin 64) (p : Piece) (rep : Nat) (f : FieldRun) (res score : Nat) (dx dy : Int)
    (cells fr : Nat), s.coreOn = true → (s.pieces ++ s.verify).find? (fun q => q.num == piece.toNat) = some p → p.verify = true →
    p.prints.findSome? (fun r => (r.fields.find? (fun x => x.index == field.val && x.verify && x.result == 0)).map (fun x => (r.rep, x)))
      =
      some (rep, f) → s.checkField n p rep f = some (res, score, dx, dy, cells, fr) →
    ∃ t, Sys2Proof.Machine.exec (.fieldCheck n piece field) s = .next t ∧
      t.rd (R.CP_CHK_PASS_COUNT n) = (s.rd (R.CP_CHK_PASS_COUNT n) + (if res = 1 then 1 else 0)) % 2 ^ 32 ∧
      t.rd (R.CP_CHK_FAIL_COUNT n) = (s.rd (R.CP_CHK_FAIL_COUNT n) + (if res = 1 then 0 else 1)) % 2 ^ 32 ∧
      (res ≠ 1 → ∀ q ∈ t.pieces, q.num = piece.toNat → bit q.flags 4 = true ∧ q.rejected = true) ∧ (f.failed ≠ 0 → res = 5) ∧
      t = { s.noticed t with pieces := t.pieces, rejects := t.rejects, verify := t.verify })

/-- LINK_UP with all that the mode needs sets LINK, sends a gratuitous ARP, clears LINK_DOWN and starts the port's PTP ports in
LISTENING; LINK_DOWN clears LINK, counts, raises LINK_DOWN and leaves its PTP ports DISABLED. An ARP request for the port's own address
and an echo request that fits and is for it are answered, others not; an echo request that does not fit counts as bad, one for another
address as discarded. An ARP reply enters the cache and releases every datagram that waited for it. An unanswered ARP request is sent
three times, then its datagrams are dropped and counted. A cache entry that is old and not in use goes. A frame of a wrong length or FCS
counts as bad, one of another VLAN or not accepted as received and discarded. -/
def Obligations.NetworkPorts : Prop :=
  (∀ (s : State) (np : Fin 2) (fec an : Bool), s.powered = true → s.netMode np ≠ 0 → s.linkOn np = false → s.looped np = false →
    s.farLoop np = false →
    (s.netMode np = 3 → s.rd (R.NP_CFG_FEC np) = 1 → fec = true) → (s.netMode np = 1 → s.rd (R.NP_CFG_AN37 np) = 1 → an = true) →
    ∃ t, Sys2Proof.Machine.exec (.linkUp np true fec an) s = .next t ∧ t.linkOn np = true ∧
      t.rd (R.NP_STATUS_FEC_LOCK np) = b2n (decide (s.netMode np = 3) && s.flag (R.NP_CFG_FEC np)) ∧
      t.rd (R.NP_STATUS_AN_DONE np) = b2n (decide (s.netMode np = 1) && s.flag (R.NP_CFG_AN37 np)) ∧
      Output.gratuitousArp np ∈ t.out ∧ t.condActive Ev.LINK_DOWN np = false ∧
      (∀ i : Fin 2, (s.ptpPorts i).contains np = true → (t.ptpPort i np).state = 4) ∧ t.tbs = s.tbs ∧
      t = { s.noticed t with tbs := t.tbs, ptp := t.ptp } ∧ SameWords s t ([R.NP_STATUS np, R.NP_PTP np] ++ eventWords)) ∧
  (∀ (s : State) (np : Fin 2) (cause : Fin 4), s.powered = true → s.linkOn np = true →
    cause.val < 2 ∨ (cause = 2 ∧ s.looped np = true) ∨ (cause = 3 ∧ s.netMode np = 0) →
    ∃ t, Sys2Proof.Machine.exec (.linkDown np cause) s = .next t ∧ t.linkOn np = false ∧ t.rd (R.NP_STATUS_FEC_LOCK np) = 0 ∧
      t.rd (R.NP_LINK_DOWNS_COUNT np) = (s.rd (R.NP_LINK_DOWNS_COUNT np) + 1) % 2 ^ 32 ∧ t.condActive Ev.LINK_DOWN np = true ∧
      (∀ i : Fin 2, (s.ptpPorts i).contains np = true → (t.ptpPort i np).state = 3) ∧
      t = { s.noticed t with tbs := t.tbs, ptp := t.ptp }) ∧
  (∀ (s : State) (np : Fin 2) (sha src : BitVec 48) (spa tpa : Word), s.netUp np = true →
    ∃ t, Sys2Proof.Machine.exec (.arpRequest np sha spa tpa src) s = .next t ∧
      t.rd (R.NP_RX_FRAMES_COUNT np) = (s.rd (R.NP_RX_FRAMES_COUNT np) + 1) % 2 ^ 32 ∧
      t.out = s.out ++ (if tpa = s.ownIp np then [.arpReply np src sha spa] else []) ∧
      t.rd (R.NP_TX_FRAMES_COUNT np) = (s.rd (R.NP_TX_FRAMES_COUNT np) + b2n (decide (tpa = s.ownIp np))) % 2 ^ 32 ∧
      t = { s with
          regs := t.regs, spans := { s.spans with leaves := t.spans.leaves }, out := t.out } ∧ SameWords s t [R.NP_RX_FRAMES np,
            R.NP_TX_FRAMES np]) ∧
  (∀ (s : State) (np : Fin 2) (sha : BitVec 48) (spa : Word), s.netUp np = true →
    ∃ t, Sys2Proof.Machine.exec (.arpReply np sha spa) s = .next t ∧ ArpEntry.mk spa sha s.time ∈ (t.port np).arp ∧
      ((s.port np).arp.length ≤ 64 → (t.port np).arp.length ≤ 64) ∧ (∀ r ∈ (t.port np).resolve, r.ip ≠ spa) ∧
      (∀ r ∈ (s.port np).resolve, r.ip = spa → ∀ d ∈ r.wait, Output.udp (some sha) d ∈ t.out) ∧
      (∀ r ∈ (s.port np).resolve, r.ip ≠ spa → r ∈ (t.port np).resolve) ∧ (∀ m : Fin 2, m ≠ np → t.port m = s.port m) ∧
      t = { s with
          regs := t.regs, spans := { s.spans with leaves := t.spans.leaves }, ports := t.ports, out := t.out } ∧ SameWords s t
            [R.NP_RX_FRAMES np, R.NP_TX_FRAMES np]) ∧
  (∀ (s : State) (np : Fin 2) (ip : Word) (r : Resolve), s.powered = true → (s.port np).resolve.find? (fun x => x.ip == ip) = some r →
    r.first + secTicks r.sent ≤ s.time →
    ∃ t, Sys2Proof.Machine.exec (.arpRetry np ip) s = .next t ∧
      (r.sent < 3 → { r with sent := r.sent + 1, last := s.time } ∈ (t.port np).resolve ∧ (t.port np).arp = (s.port np).arp ∧
        t.out = s.out ++ (if s.carries np = true then [.arpRequest np ip] else [])) ∧
      (3 ≤ r.sent → (∀ x ∈ (t.port np).resolve, x.ip ≠ ip) ∧ (∀ e ∈ (t.port np).arp, e.ip ≠ ip) ∧ t.out = s.out ∧
        t.rd (R.NP_TX_DROP_COUNT np) = (s.rd (R.NP_TX_DROP_COUNT np) + r.wait.length) % 2 ^ 32) ∧
      (∀ m : Fin 2, m ≠ np → t.port m = s.port m) ∧
      t = { s with
          regs := t.regs, spans := { s.spans with leaves := t.spans.leaves }, ports := t.ports, out := t.out } ∧ SameWords s t
            [R.NP_TX_FRAMES np, R.NP_TX_DROP np]) ∧
  (∀ (s : State) (np : Fin 2) (mac : BitVec 48) (src dst : Word) (ident seq : BitVec 16) (data : List Byte), s.netUp np = true →
    ∃ t, Sys2Proof.Machine.exec (.icmpEcho np mac src dst ident seq data) s = .next t ∧
      (s.rd (R.NP_CFG_FRAME np) < 46 + data.length → t.out = s.out ∧
        t.rd (R.NP_RX_BAD_COUNT np) = (s.rd (R.NP_RX_BAD_COUNT np) + 1) % 2 ^ 32) ∧
      (46 + data.length ≤ s.rd (R.NP_CFG_FRAME np) →
        t.rd (R.NP_RX_FRAMES_COUNT np) = (s.rd (R.NP_RX_FRAMES_COUNT np) + 1) % 2 ^ 32 ∧
        (dst = s.ownIp np → t.out = s.out ++ [.icmpReply np mac src ident seq data]) ∧
        (dst ≠ s.ownIp np → t.out = s.out ∧
          t.rd (R.NP_RX_DISCARD_COUNT np) = (s.rd (R.NP_RX_DISCARD_COUNT np) + 1) % 2 ^ 32)) ∧
      t = { s with
          regs := t.regs, spans := { s.spans with leaves := t.spans.leaves }, out := t.out } ∧
      SameWords s t [R.NP_RX_BAD np, R.NP_RX_FRAMES np, R.NP_RX_DISCARD np, R.NP_TX_FRAMES np]) ∧
  (∀ (s : State) (np : Fin 2) (len : Nat) (fcsOk : Bool) (vid : Option (BitVec 12)) (accepted : Bool), s.netUp np = true →
    s.rd (R.NP_CFG_VLAN_EN np) = 0 → fcsOk = false ∨ len < 64 ∨ s.rd (R.NP_CFG_FRAME np) < len ∨ vid ≠ none ∨ accepted = false →
    ∃ t, Sys2Proof.Machine.exec (.npRxDiscard np len fcsOk vid accepted) s = .next t ∧
      (if fcsOk = false ∨ len < 64 ∨ s.rd (R.NP_CFG_FRAME np) < len then
        t.rd (R.NP_RX_BAD_COUNT np) = (s.rd (R.NP_RX_BAD_COUNT np) + 1) % 2 ^ 32 ∧ SameWords s t [R.NP_RX_BAD np]
      else t.rd (R.NP_RX_FRAMES_COUNT np) = (s.rd (R.NP_RX_FRAMES_COUNT np) + 1) % 2 ^ 32 ∧
        t.rd (R.NP_RX_DISCARD_COUNT np) = (s.rd (R.NP_RX_DISCARD_COUNT np) + 1) % 2 ^ 32 ∧
        SameWords s t [R.NP_RX_FRAMES np, R.NP_RX_DISCARD np]) ∧
      t = { s with regs := t.regs, spans := { s.spans with leaves := t.spans.leaves } }) ∧
  (∀ (s : State) (np : Fin 2) (ip : Word) (e : ArpEntry), s.netUp np = true → (s.port np).arp.find? (fun x => x.ip == ip) = some e →
    e.at_ + secTicks (s.rd R.ARP_CFG_AGE) ≤ s.time → (s.port np).resolve.any (fun r => r.ip == ip) = false →
    ∃ t, Sys2Proof.Machine.exec (.arpAge np ip) s = .next t ∧
      ((s.destinations np).any (fun d => s.nextHop np d == some ip) = false → t.out = s.out ∧ (t.port np).resolve = (s.port np).resolve ∧
        (t.port np).arp = (s.port np).arp.filter (fun x => x.ip != ip)) ∧
      ((s.destinations np).any (fun d => s.nextHop np d == some ip) = true → (t.port np).arp = (s.port np).arp ∧
        t.out = s.out ++ [.arpRequest np ip] ∧ (t.port np).resolve = (s.port np).resolve ++ [⟨ip, 1, s.time, s.time, [], true⟩]) ∧
      (∀ m : Fin 2, m ≠ np → t.port m = s.port m) ∧
      t = { s with
          regs := t.regs, spans := { s.spans with leaves := t.spans.leaves }, ports := t.ports, out := t.out } ∧ SameWords s t
            [R.NP_TX_FRAMES np])

/-- A PTP message of no instance of the port counts in RX_FRAMES and RX_ERR and does nothing else. A two-step Sync of the parent waits
for its Follow_Up, a one-step Sync or the Follow_Up gives t1 with the corrections added. Delay_Resp for this port's request makes the
port SLAVE and NPn_MEANDELAY half of the two ways' sum. Pdelay_Req and Delay_Req are answered where the instance measures so and the
port is MASTER; Pdelay_Resp gives the peer delay, half of the round less the peer's turnaround and the corrections. An Announce of
another clock is kept with its data; one of fewer than 255 steps counts. Without Announce messages the parent is forgotten. A periodic
message that may leave leaves with the next sequence number of its kind. Four sync intervals without Sync put a disciplined time base in
HOLDOVER at its mean rate. A due time pulse leaves, counts and, if one-shot, disables itself. A time base no longer locked shows neither
LOCKED nor USABLE. -/
def Obligations.PtpAndTime : Prop :=
  (∀ (s : State) (h : PtpHdr) (f : Bool) (t1 t2 t3 t4 : Int) (id : BitVec 64) (pn : BitVec 16) (a : AnnounceData) (c : Instr),
    s.carries h.np = true → s.powered = true → s.pow.phase ≠ .maint → s.ptpMine h = false →
    c = .sync h f t1 t2 ∨ c = .delayResp h t4 id pn ∨ c = .pdelayReq h t2 ∨ c = .pdelayResp h f t2 t3 t4 ∨ c = .delayReq h t4 ∨
      c = .announce h a →
    ∃ t, Sys2Proof.Machine.exec c s = .next t ∧ t.rd (R.NP_RX_FRAMES_COUNT h.np) = (s.rd (R.NP_RX_FRAMES_COUNT h.np) + 1) % 2 ^ 32 ∧
      t.rd (R.PI_RX_ERR_COUNT h.inst) = (s.rd (R.PI_RX_ERR_COUNT h.inst) + 1) % 2 ^ 32 ∧
      t = { s with regs := t.regs, spans := { s.spans with leaves := t.spans.leaves } } ∧
      SameWords s t [R.NP_RX_FRAMES h.np, R.PI_RX_ERR h.inst]) ∧
  (∀ (s : State) (h : PtpHdr) (f : Bool) (t1 t2 : Int), s.powered = true → s.pow.phase ≠ .maint → s.ptpMine h = true →
    s.fromParent h = true →
    ∃ t, Sys2Proof.Machine.exec (.sync h f t1 t2) s = .next t ∧
      (f = false → h.twoStep = true → (t.ptpPort h.inst h.np).two = some (h.seq, t2, h.correction) ∧
        ∀ k ∈ s.instTbs h.inst, (t.tb k).lastSync = some s.time) ∧
      (f = false → h.twoStep = false → (t.ptpPort h.inst h.np).sync = some (t1 + h.correction, t2)) ∧
      (∀ r2 c, f = true → (s.ptpPort h.inst h.np).two = some (h.seq, r2, c) →
        (t.ptpPort h.inst h.np).sync = some (t1 + c + h.correction, r2) ∧ (t.ptpPort h.inst h.np).two = none) ∧
      t = { s.noticed t with tbs := t.tbs, ptp := t.ptp, tps := t.tps }) ∧
  (∀ (s : State) (h : PtpHdr) (t4 t1 t2 t3 : Int) (m : Rat), s.powered = true → s.pow.phase ≠ .maint → s.ptpMine h = true →
    s.fromParent h = true → s.rd (R.PI_CFG_DELAY h.inst) = 0 → (s.ptpPort h.inst h.np).sync = some (t1, t2) →
    (s.ptpPort h.inst h.np).dreq = some (h.seq, t3) → m = (((t2 - t1) + (t4 - t3 - h.correction) : Int) : Rat) / 2 →
    ∃ t, Sys2Proof.Machine.exec (.delayResp h t4 clockId (s.portNo h.inst h.np)) s = .next t ∧
      (t.ptpPort h.inst h.np).state = 9 ∧ (t.ptpPort h.inst h.np).dreq = none ∧
      t.rd (R.NP_MEANDELAY_PS h.np) = unsigned 32 (clampI (-2147483648) 4294967295 (ratOpen 87 (m * 1000 / 65536))) ∧
      t = { s.noticed t with tbs := t.tbs, ptp := t.ptp, tps := t.tps }) ∧
  (∀ (s : State) (h : PtpHdr) (t2 : Int), s.powered = true → s.pow.phase ≠ .maint → s.ptpMine h = true →
    s.rd (R.PI_CFG_DELAY h.inst) = 1 →
    ∃ t, Sys2Proof.Machine.exec (.pdelayReq h t2) s = .next t ∧
      (∃ turn : Nat, t.out = s.out ++ (if s.rd (R.PI_CFG_ONESTEP h.inst) = 1
        then [.ptp h.np h.inst 3 h.seq 0 (h.correction + turn) (some (h.srcId, h.srcPort)) none]
        else [.ptp h.np h.inst 3 h.seq t2 0 (some (h.srcId, h.srcPort)) none,
          .ptp h.np h.inst 10 h.seq (t2 + turn) h.correction (some (h.srcId, h.srcPort)) none])) ∧
      t = { s with
          regs := t.regs, spans := { s.spans with leaves := t.spans.leaves }, out := t.out, free := t.free } ∧ SameWords s t
            [R.NP_RX_FRAMES h.np, R.NP_TX_FRAMES h.np]) ∧
  (∀ (s : State) (h : PtpHdr) (f : Bool) (t1 t2 t3 t4 : Int), s.powered = true → s.pow.phase ≠ .maint → s.ptpMine h = true →
    s.rd (R.PI_CFG_DELAY h.inst) = 1 → (s.ptpPort h.inst h.np).pdreq = some (h.seq, t1) →
    ∃ t, Sys2Proof.Machine.exec (.pdelayResp h f t2 t3 t4) s = .next t ∧
      (f = false → h.twoStep = false →
        (t.ptpPort h.inst h.np).peerDelay = some ((((t4 - t1) - h.correction : Int) : Rat) / 2)) ∧
      (f = false → h.twoStep = true → (t.ptpPort h.inst h.np).pdResp = some (t2, t4, h.correction)) ∧
      (∀ r2 r4 c, f = true → (s.ptpPort h.inst h.np).pdResp = some (r2, r4, c) → (t.ptpPort h.inst h.np).pdreq = none ∧
        (t.ptpPort h.inst h.np).peerDelay = some ((((r4 - t1) - (t3 - r2) - (c + h.correction) : Int) : Rat) / 2)) ∧
      t = { s with
          regs := t.regs, spans := { s.spans with leaves := t.spans.leaves }, ptp := t.ptp } ∧
      SameWords s t [R.NP_RX_FRAMES h.np, R.NP_MEANDELAY h.np, R.NP_PTP h.np]) ∧
  (∀ (s : State) (h : PtpHdr) (t4 : Int), s.powered = true → s.pow.phase ≠ .maint → s.ptpMine h = true →
    s.rd (R.PI_CFG_DELAY h.inst) = 0 → (s.ptpPort h.inst h.np).state = 6 →
    ∃ t, Sys2Proof.Machine.exec (.delayReq h t4) s = .next t ∧
      t.out = s.out ++ [.ptp h.np h.inst 9 h.seq t4 h.correction (some (h.srcId, h.srcPort)) none] ∧
      t = { s with
          regs := t.regs, spans := { s.spans with leaves := t.spans.leaves }, out := t.out } ∧ SameWords s t [R.NP_RX_FRAMES h.np,
            R.NP_TX_FRAMES h.np]) ∧
  (∀ (s : State) (h : PtpHdr) (a : AnnounceData), s.powered = true → s.pow.phase ≠ .maint → s.ptpMine h = true →
    ∃ t, Sys2Proof.Machine.exec (.announce h a) s = .next t ∧
      (h.srcId ≠ clockId → a.steps.toNat < 255 → ∃ n, Foreign.mk h.srcId h.srcPort a n s.time ∈ (t.ptpPort h.inst h.np).foreign) ∧
      (h.srcId = clockId ∨ a.steps.toNat = 255 → t.ptp = s.ptp ∧ SameWords s t [R.NP_RX_FRAMES h.np]) ∧
      t = { s.noticed t with tbs := t.tbs, ptp := t.ptp }) ∧
  (∀ (s : State) (np inst : Fin 2), s.coreOn = true → s.announceOver inst np = true →
    ∃ t, Sys2Proof.Machine.exec (.announceTimeout np inst) s = .next t ∧
      (∀ f ∈ (t.ptpPort inst np).foreign, (s.ptpPort inst np).parent ≠ some (f.src, f.srcPort)) ∧
      t = { s.noticed t with tbs := t.tbs, ptp := t.ptp }) ∧
  (∀ (s : State) (np inst : Fin 2) (kind : Fin 4) (u : Int), s.coreOn = true → s.ptpMay inst np kind = true →
    ∃ t, Sys2Proof.Machine.exec (.ptpSend np inst kind u) s = .next t ∧
      (∃ v a, Output.ptp np inst ([0, 11, 1, 2].getD kind 0) (BitVec.ofNat 16 (Sparse.get 0 (s.ptpPort inst np).seqs kind)) v 0 none a ∈
        t.out) ∧
      Sparse.get 0 (t.ptpPort inst np).seqs kind = Sparse.get 0 (s.ptpPort inst np).seqs kind + 1 ∧
      Sparse.find (t.ptpPort inst np).sent kind = some s.time ∧
      (kind = 2 → (t.ptpPort inst np).dreq = some (BitVec.ofNat 16 (Sparse.get 0 (s.ptpPort inst np).seqs 2), u)) ∧
      t = { s with
          regs := t.regs, spans := { s.spans with leaves := t.spans.leaves }, ptp := t.ptp, out := t.out } ∧ SameWords s t [R.NP_PTP np,
            R.NP_TX_FRAMES np]) ∧
  (∀ (s : State) (k : Fin 4), s.coreOn = true → s.syncOver k = true →
    s.rd (R.TB_STATUS_STATE k) = 1 ∨ s.rd (R.TB_STATUS_STATE k) = 2 →
    ∃ t, Sys2Proof.Machine.exec (.holdover k) s = .next t ∧ t.rd (R.TB_STATUS_STATE k) = 3 ∧ (t.tb k).rate = (s.tb k).meanRate ∧
      (t.tb k).ns = (s.tb k).ns ∧ (∀ j : Fin 4, j ≠ k → t.tb j = s.tb j) ∧
      t = { s.noticed t with tbs := t.tbs } ∧ SameWords s t ([R.TB_STATUS k] ++ eventWords)) ∧
  (∀ (s : State) (p : Fin 4), s.coreOn = true → s.tpDue p = true →
    ∃ t, Sys2Proof.Machine.exec (.timePulse p) s = .next t ∧ t.out = s.out ++ [.timePulse p false] ∧
      t.rd (R.TP_COUNT_COUNT p) = (s.rd (R.TP_COUNT_COUNT p) + 1) % 2 ^ 32 ∧ Sparse.get 0 t.tps p = Sparse.get 0 s.tps p + 1 ∧
      t.rd (R.TP_CFG_EN p) = (if s.tpPeriod p = 0 then 0 else 1) ∧
      t.rd R.SNAP_SEQ_COUNT = (s.rd R.SNAP_SEQ_COUNT + s.rd (R.TP_CFG_SNAP p)) % 2 ^ 32 ∧
      (s.rd (R.TP_CFG_SNAP p) = 1 → ∀ k : Fin 4, t.rdW (R.SNAP_TB_LO_NS k) (R.SNAP_TB_HI_NS k) = (s.tb k).ns % 2 ^ 64) ∧
      t = { s with
          regs := t.regs, spans := { s.spans with leaves := t.spans.leaves }, tps := t.tps, out := t.out }) ∧
  (∀ (s : State) (k : Fin 4), s.powered = true → s.rd (R.TB_STATUS_LOCKED k) = 1 → s.tbLocked k = false →
    ∃ t, Sys2Proof.Machine.exec (.ptpUnlocked k) s = .next t ∧ t.rd (R.TB_STATUS_LOCKED k) = 0 ∧ t.rd (R.TB_STATUS_USABLE k) = 0 ∧
      (s.tbInst k ≠ none → t.condActive Ev.PTP_UNLOCKED k = true) ∧
      t = s.noticed t ∧ SameWords s t ([R.TB_STATUS k] ++ eventWords))

/-- With both sequencers forming, equal CRCs of a frame only count; unequal ones count a mismatch, of data when a part met an
uncorrectable error, else kept for replay; a replay ends it with its outcome, and a first strike begins a priority cycle, an outcome
that blames one makes it leave, one that tells nothing begins priority cycles in both. A slice moves a cycle on, its last one ends it; a
slice with a wrong signature makes its sequencer leave where the other forms too. Recovery cycles: the third clean one rejoins,
RECOVER_MAX failures retire. A scrub read moves its position, and counts the pass it ends and a correction it meets. An old CE entry
that is not HARD goes. Refreshes made and owed grow by one for each due; at most 8 are owed. A due retraining pause begins or waits.
ACT_LIMIT refreshes the neighbours for P0 and throttles any other requester, for at most 32 ms. -/
def Obligations.SequencersAndMemory : Prop :=
  (∀ (s : State) (lane bar : Fin 16) (q a b : Word) (ueA ueB : Bool), s.coreOn = true → s.sqForms 0 = true → s.sqForms 1 = true →
    ∃ t, Sys2Proof.Machine.exec (.laneCrcCompare lane bar q a b ueA ueB) s = .next t ∧
      t.rd R.SEQ_COMPARED_COUNT = (s.rd R.SEQ_COMPARED_COUNT + 1) % 2 ^ 32 ∧
      t.rd R.SEQ_MISMATCHES_COUNT = (s.rd R.SEQ_MISMATCHES_COUNT + (if a = b then 0 else 1)) % 2 ^ 32 ∧
      t.rd R.SEQ_DATA_COUNT = (s.rd R.SEQ_DATA_COUNT + (if a ≠ b ∧ (ueA = true ∨ ueB = true) then 1 else 0)) % 2 ^ 32 ∧
      t.mismatches = s.mismatches ++ (if a ≠ b ∧ ueA = false ∧ ueB = false then [⟨lane, bar, q.toNat, a.toNat, b.toNat⟩] else []) ∧
      t = { s.noticed t with mismatches := t.mismatches } ∧ SameWords s t ([R.SEQ_COMPARED, R.SEQ_MISMATCHES, R.SEQ_DATA,
        R.SEQ_LAST_MISMATCH] ++ eventWords)) ∧
  (∀ (s : State) (lane : Fin 16) (ra rb : Word) (x : Mismatch) (code : Nat), s.coreOn = true → s.sqForms 0 = true → s.sqForms 1 = true →
    s.nextReplay = some x → x.lane = lane → code = replayCode x.a x.b ra.toNat rb.toNat →
    ∃ t, Sys2Proof.Machine.exec (.replay lane ra rb) s = .next t ∧ t.mismatches = s.mismatches.erase x ∧
      t.rd R.SEQ_LAST_MISMATCH_OUTCOME = code ∧
      (∀ n : Fin 2, code = n.val + 1 → t.rd (R.SQ_STRIKES_COUNT n) = (s.rd (R.SQ_STRIKES_COUNT n) + 1) % 2 ^ 32 ∧
        ((s.sq n).strikes = [] → t.sqForms n = true ∧ (t.sq n).priority = true ∧ t.rd (R.SQ_STATUS_DIAG n) = 1)) ∧
      (∀ n : Fin 2, code = n.val + 3 ∨ (code = n.val + 1 ∧ s.time ∈ (s.sq n).strikes) → t.sqForms n = false ∧
        t.rd R.SEQ_STATE_SOLO = 1 ∧ (s.sqState n = sqActive → t.sqState (twinOf n) = sqActive)) ∧
      (code = 5 → t.stop.active = true) ∧
      (code = 6 → t.rd R.SEQ_UNRESOLVED_COUNT = (s.rd R.SEQ_UNRESOLVED_COUNT + 1) % 2 ^ 32 ∧
        (∀ n : Fin 2, (t.sq n).priority = true ∧ t.sqState n = s.sqState n)) ∧
      t = { s.noticed t with
          pow := { s.pow with lastBusy := t.pow.lastBusy }, pieces := t.pieces, ended := t.ended, rejects := t.rejects,
          tgs := t.tgs, ring := t.ring, stop := { s.stop with active := t.stop.active }, hist := t.hist, evid := t.evid,
          seqs := t.seqs, mismatches := t.mismatches, verify := t.verify }) ∧
  (∀ (s : State) (n : Fin 2) (sig ref : Word), s.pow.phase = .day → s.sqForms n = true →
    ∃ t, Sys2Proof.Machine.exec (.slice n sig ref) s = .next t ∧
      (sig = ref → (s.sq n).slice < 8191 → t.sq n = { s.sq n with slice := (s.sq n).slice + 1 } ∧ t.sq (twinOf n) = s.sq (twinOf n) ∧
        SameWords s t []) ∧
      (sig = ref → 8191 ≤ (s.sq n).slice → (t.sq n).slice = 0 ∧ (t.sq n).priority = false ∧ ((s.sq n).failed = false →
        t.rd (R.SQ_CYCLES_COUNT n) = (s.rd (R.SQ_CYCLES_COUNT n) + 1) % 2 ^ 32 ∧ t.rd (R.SQ_STATUS_DIAG n) = 0)) ∧
      (sig ≠ ref → s.sqForms (twinOf n) = true → t.sqForms n = false ∧ t.rd (R.SQ_STATUS_LAST_CAUSE n) = 1 ∧
        t.rd (R.SQ_SLICE_FAIL_COUNT n) = (s.rd (R.SQ_SLICE_FAIL_COUNT n) + 1) % 2 ^ 32 ∧ t.stop = s.stop) ∧
      (sig ≠ ref → s.sqForms (twinOf n) = false → t.sqForms n = true ∧ (t.sq n).failed = true ∧ t.stop.active = true) ∧
      t = { s.noticed t with
          pow := { s.pow with lastBusy := t.pow.lastBusy }, pieces := t.pieces, ended := t.ended, rejects := t.rejects,
          tgs := t.tgs, ring := t.ring, stop := { s.stop with active := t.stop.active }, hist := t.hist, evid := t.evid,
          seqs := t.seqs, verify := t.verify }) ∧
  (∀ s : State, s.coreOn = true →
    ∃ t, Sys2Proof.Machine.exec .overlapEnd s = .next t ∧ t.rd R.SEQ_STATE_OVERLAP = 0 ∧
      t = { s with regs := t.regs, spans := { s.spans with leaves := t.spans.leaves } } ∧ SameWords s t [R.SEQ_STATE]) ∧
  (∀ (s : State) (n : Fin 2) (pass : Bool) (index : BitVec 13), s.pow.phase = .day → s.sqState n = sqOut → (s.sq n).joining = false →
    (s.sq n).cycleFrom + 64 * (if pass then 8192 else index.toNat + 1) ≤ s.time →
    ∃ t, Sys2Proof.Machine.exec (.recoveryCycle n pass index) s = .next t ∧ (t.sq n).cycleFrom = s.time ∧
      (pass = true → t.rd (R.SQ_CYCLES_COUNT n) = (s.rd (R.SQ_CYCLES_COUNT n) + 1) % 2 ^ 32 ∧
        (s.rd (R.SQ_STATUS_CLEAN n) < 2 → t.sqState n = sqOut ∧ t.rd (R.SQ_STATUS_CLEAN n) = s.rd (R.SQ_STATUS_CLEAN n) + 1) ∧
        (2 ≤ s.rd (R.SQ_STATUS_CLEAN n) → t.sqForms n = true ∧ t.rd (R.SQ_STATUS_RFAIL n) = 0)) ∧
      (pass = false → t.rd (R.SQ_STATUS_CLEAN n) = 0 ∧ t.rd (R.SQ_LAST_SLICE_INDEX n) = index.toNat ∧
        t.rd (R.SQ_STATUS_RFAIL n) = min 255 (s.rd (R.SQ_STATUS_RFAIL n) + 1) ∧
        t.sqState n = if s.rd R.SEQ_LIMITS_RECOVER_MAX ≤ t.rd (R.SQ_STATUS_RFAIL n) then sqRetired else sqOut) ∧
      t = { s.noticed t with seqs := t.seqs }) ∧
  (∀ (s : State) (cls : Fin 3) (passEnd : Bool) (ev : Option MemEv) (spares : List (Fin 2 × Nat)), s.coreOn = true → s.bgScale ≠ 0 →
    (∀ e, ev = some e → e.uncorrectable = false) →
    ∃ t, Sys2Proof.Machine.exec (.scrubRead cls passEnd ev spares) s = .next t ∧
      t.rd (R.MEM_CE_COUNT cls) = (s.rd (R.MEM_CE_COUNT cls) + b2n ev.isSome) % 2 ^ 32 ∧
      (cls = 0 → t.rd R.MEM_SCRUB_POS_BLOCK =
          (if s.rd R.MEM_SCRUB_POS_BLOCK + 1 = hbmBlocks then 0 else (s.rd R.MEM_SCRUB_POS_BLOCK + 1) % 2 ^ 28) ∧
        t.rd R.MEM_HBM_PASSES_COUNT = (s.rd R.MEM_HBM_PASSES_COUNT + b2n (s.rd R.MEM_SCRUB_POS_BLOCK + 1 == hbmBlocks)) % 2 ^ 32) ∧
      (cls ≠ 0 → t.rd R.MEM_SCRUB_POS_BLOCK = s.rd R.MEM_SCRUB_POS_BLOCK ∧
        t.rd R.MEM_SRAM_PASSES_COUNT = (s.rd R.MEM_SRAM_PASSES_COUNT + b2n passEnd) % 2 ^ 32) ∧
      t = { s.noticed t with
          pow := { s.pow with lastBusy := t.pow.lastBusy }, pieces := t.pieces, ended := t.ended, rejects := t.rejects,
          tgs := t.tgs, ring := t.ring, stop := { s.stop with active := t.stop.active, faults := t.stop.faults },
          mem := { s.mem with
            bad := t.mem.bad, ces := t.mem.ces, hbmMap := t.mem.hbmMap, sramMap := t.mem.sramMap,
            waiting := t.mem.waiting, withdrawn := t.mem.withdrawn },
          evid := t.evid, verify := t.verify }) ∧
  (∀ (s : State) (cls : Fin 3) (k : Fin 16) (e : Ce), s.coreOn = true →
    (s.ceTable cls).find? (fun x => x.slot == k.val && !x.hard) = some e → e.at_ + secTicks (3600 * s.rd R.MEM_SCRUB_CE_AGE_H) ≤ s.time →
    ∃ t, Sys2Proof.Machine.exec (.ceAge cls k) s = .next t ∧ t.ceTable cls = (s.ceTable cls).filter (fun x => x.addr != e.addr) ∧
      (∀ c : Fin 3, c ≠ cls → t.ceTable c = s.ceTable c) ∧
      t = { s with
          spans := { s.spans with leaves := t.spans.leaves }, mem := { s.mem with ces := t.mem.ces } }) ∧
  (∀ (s : State) (pc : Fin 32) (bank : Fin 16) (busy : Bool), s.coreOn = true →
    ∃ t, Sys2Proof.Machine.exec (.refresh pc bank busy) s = .next t ∧
      Sparse.get 0 t.mem.owed (16 * pc.val + bank.val) + Sparse.get 0 t.mem.refreshes (16 * pc.val + bank.val) =
        Sparse.get 0 s.mem.owed (16 * pc.val + bank.val) + Sparse.get 0 s.mem.refreshes (16 * pc.val + bank.val) + 1 ∧
      Sparse.get 0 t.mem.owed (16 * pc.val + bank.val) ≤ 8 ∧
      (busy = false → Sparse.get 0 t.mem.owed (16 * pc.val + bank.val) = 0 ∧
        Sparse.get 0 t.mem.openRows (16 * pc.val + bank.val) = 0) ∧
      (∀ j, j ≠ 16 * pc.val + bank.val → Sparse.get 0 t.mem.owed j = Sparse.get 0 s.mem.owed j ∧
        Sparse.get 0 t.mem.refreshes j = Sparse.get 0 s.mem.refreshes j ∧ Sparse.get 0 t.mem.openRows j = Sparse.get 0 s.mem.openRows j) ∧
      t = { s with
          spans := { s.spans with leaves := t.spans.leaves },
          mem := { s.mem with openRows := t.mem.openRows, owed := t.mem.owed, refreshes := t.mem.refreshes } }) ∧
  (∀ (s : State) (done : Bool) (form every : Nat), s.coreOn = true → s.retrainEvery = some every → s.mem.trainFrom + every ≤ s.time →
    ∃ t, Sys2Proof.Machine.exec (.retrainPause done form) s = .next t ∧
      (s.retrainMay done form = true → t.rd R.MEM_RETRAINS_COUNT = (s.rd R.MEM_RETRAINS_COUNT + 1) % 2 ^ 32 ∧
        t.rd R.MEM_RETRAIN_STAT_LAST = s.rd R.MEM_RETRAINS_COUNT % 16 ∧ t.rd R.MEM_RETRAIN_STAT_WAITING = 0 ∧
        t.mem.lastRetrain = s.time ∧ s.mem.trainFrom ≤ t.mem.trainFrom ∧ t.mem.waited = false) ∧
      (s.retrainMay done form = false → t.rd R.MEM_RETRAINS_COUNT = s.rd R.MEM_RETRAINS_COUNT ∧
        t.rd R.MEM_RETRAIN_STAT_WAITING = 1 ∧ t.mem.trainFrom = s.mem.trainFrom ∧ t.mem.lastRetrain = s.mem.lastRetrain) ∧
      (s.mem.waited = true → t.rd R.MEM_RETRAIN_WAIT_COUNT = s.rd R.MEM_RETRAIN_WAIT_COUNT) ∧
      t = { s with
          regs := t.regs, spans := { s.spans with leaves := t.spans.leaves },
          mem := { s.mem with lastRetrain := t.mem.lastRetrain, trainFrom := t.mem.trainFrom, waited := t.mem.waited } } ∧
      SameWords s t [R.MEM_RETRAINS, R.MEM_RETRAIN_WAIT, R.MEM_RETRAIN_STAT]) ∧
  (∀ (s : State) (pc : Fin 32) (bank : Fin 16) (row : BitVec 15) (port : Fin 6) (req : BitVec 5) (key : Nat), s.coreOn = true →
    key = throttleKey pc bank row.toNat port req.toNat → (∀ x ∈ s.mem.throttles, s.time < x.2 → x.1 ≠ key) →
    ∃ t, Sys2Proof.Machine.exec (.actLimit pc bank row port req) s = .next t ∧ t.rd R.MEM_ROWPROT_LAST_PC = pc.val ∧
      t.rd R.MEM_ROWPROT_LAST_BANK = bank.val ∧ t.rd R.MEM_ROWPROT_LAST_PORT = port.val ∧ t.rd R.MEM_ROWPROT_LAST_REQ = req.toNat ∧
      (port = 0 → t.rd R.MEM_NREFRESH_COUNT = (s.rd R.MEM_NREFRESH_COUNT + 1) % 2 ^ 32 ∧ t.mem.throttles = s.mem.throttles) ∧
      (port ≠ 0 → t.rd (R.MEM_P_THROTTLES_COUNT port) = (s.rd (R.MEM_P_THROTTLES_COUNT port) + 1) % 2 ^ 32 ∧
        ∃ u, (key, u) ∈ t.mem.throttles ∧ s.time < u ∧ u ≤ s.time + 6400000) ∧
      Sparse.get 0 t.mem.openRows (16 * pc.val + bank.val) = row.toNat + 1 ∧
      t = { s with
          regs := t.regs, spans := { s.spans with leaves := t.spans.leaves },
          mem := { s.mem with openRows := t.mem.openRows, throttles := t.mem.throttles }, free := t.free } ∧
      SameWords s t [R.MEM_ROWPROT_LAST, R.MEM_NREFRESH, R.MEM_P_THROTTLES port])

/-- With VAUX valid: IDCODE shifts out 1F51222F, TSTATUS the test state; EXTEST takes the shifted bits into the cells where it acts as
itself, and is a bypass elsewhere; SAMPLE_PRELOAD always captures and takes them; CLAMP, HIGHZ, BYPASS and codes of no instruction shift
one bit through the bypass register, which captures 0. WIPE with A5C3 in the test state or the maintenance state begins the wipe, with
another value nothing. SCAN answers as many bits as it is shifted where SCAN_OPEN, MEMACC writes or reads four bytes of HBM there;
elsewhere both bypass. No register, no other state changes, and without VAUX nothing at all. A slice of a unit at rest counts and notes
its time; one that failed puts the unit out of use. -/
def Obligations.TestPort : Prop :=
  (∀ (s : State), s.pow.phase ≠ .noVaux →
    Sys2Proof.Machine.exec .idcode s =
      .next { s with jtag := { s.jtag with ir := 1 }, out := s.out ++ [.jtag 1 (bitList 32 0x1F51222F)] } ∧
    Sys2Proof.Machine.exec .tstatus s =
      .next { s with jtag := { s.jtag with ir := 0x10 }, out := s.out ++ [.jtag 0x10 (bitList 32 s.tstatus)] } ∧
    (∀ sh cap : BitVec 24, Sys2Proof.Machine.exec (.samplePreload sh cap) s =
      .next { s with jtag := { s.jtag with ir := 2, cells := sh }, out := s.out ++ [.jtag 2 (bitList 24 cap.toNat)] }) ∧
    (∀ sh cap : BitVec 24, s.scanTest = true → Sys2Proof.Machine.exec (.extest sh cap) s =
      .next { s with jtag := { s.jtag with ir := 0, cells := sh }, out := s.out ++ [.jtag 0 (bitList 24 cap.toNat)] }) ∧
    (∀ sh cap : BitVec 24, s.scanTest = false → Sys2Proof.Machine.exec (.extest sh cap) s =
      .next { s with jtag := { s.jtag with ir := 0, bypass := sh.getLsbD 23 }, out := s.out ++ [.jtag 0 (false :: bitList 23 sh.toNat)]
        }) ∧
    (∀ (c : Instr) (code : Nat) (b : Bool) (byte : Byte),
      (c = .clamp b ∧ code = 3) ∨ (c = .highz b ∧ code = 4) ∨ (c = .bypass byte b ∧ code = byte.toNat) →
      Sys2Proof.Machine.exec c s =
        .next { s with jtag := { s.jtag with ir := code, bypass := b }, out := s.out ++ [.jtag code [false]] })) ∧
  (∀ (s : State) (v : Word), s.pow.phase ≠ .noVaux →
    ∃ t, Sys2Proof.Machine.exec (.wipe v) s = .next t ∧ (∃ bs, t.out = s.out ++ [.jtag 0x11 bs] ∧ bs.length = 32) ∧
      t.jtag = { s.jtag with ir := 0x11 } ∧
      t.pow = (if v = 0xA5C3 ∧ (s.rd R.TEST_STATE_TEST = 1 ∨ s.pow.phase = .maint) ∧ s.pow.wipeStep = 0 ∧ s.pow.scanOpen = false
        then { s.pow with wipeStep := 1 } else s.pow) ∧
      t = { s with
          pow := { s.pow with wipeStep := t.pow.wipeStep },
          nvm := { s.nvm with due := t.nvm.due, lastHostFault := t.nvm.lastHostFault },
          spans := { s.spans with leaves := t.spans.leaves }, jtag := { s.jtag with ir := t.jtag.ir }, out := t.out,
          free := t.free }) ∧
  (∀ (s : State) (bs : List Bool), s.pow.phase ≠ .noVaux →
    ∃ t, Sys2Proof.Machine.exec (.scan bs) s = .next t ∧
      (s.pow.scanOpen = true → ∃ o, t.out = s.out ++ [.jtag 0x20 o] ∧ o.length = bs.length) ∧
      (s.pow.scanOpen = false → t.out = s.out ++ [.jtag 0x20 ((false :: bs).take bs.length)]) ∧
      t = { s with
          spans := { s.spans with leaves := t.spans.leaves }, jtag := { s.jtag with bypass := t.jtag.bypass, ir := t.jtag.ir },
          out := t.out, free := t.free }) ∧
  (∀ (s : State) (dr : BitVec 80) (a : Nat), s.pow.phase ≠ .noVaux → a = (dr.extractLsb' 0 40).toNat →
    ∃ t, Sys2Proof.Machine.exec (.memacc dr) s = .next t ∧
      (s.pow.scanOpen = false ∨ dr.getLsbD 72 = false → t.hbm = s.hbm) ∧
      (s.pow.scanOpen = true → t.out = s.out ++ [.jtag 0x21 (bitList 80 s.jtag.mem)]) ∧
      (s.pow.scanOpen = true → dr.getLsbD 72 = true → a + 4 ≤ 0x3C0000000 →
        t.hbmRead a 4 = leBytes 4 (dr.extractLsb' 40 32).toNat ∧
        ∀ x, x < a ∨ a + 4 ≤ x → Sparse.get 0 t.hbm x = Sparse.get 0 s.hbm x) ∧
      (s.pow.scanOpen = true → dr.getLsbD 72 = false → a + 4 ≤ 0x3C0000000 → t.jtag.mem = a + 2 ^ 40 * leNat (s.hbmRead a 4)) ∧
      t = { s with
          hbm := t.hbm, spans := { s.spans with leaves := t.spans.leaves },
          jtag := { s.jtag with bypass := t.jtag.bypass, ir := t.jtag.ir, mem := t.jtag.mem }, out := t.out, free := t.free }) ∧
  (∀ (s : State) (c : Instr) (sh cap : BitVec 24) (b : Bool) (byte : Byte) (v : Word) (bs : List Bool) (dr : BitVec 80),
    s.pow.phase = .noVaux →
    c ∈ [.extest sh cap, .idcode, .samplePreload sh cap, .clamp b, .highz b, .tstatus, .wipe v, .scan bs, .memacc dr, .bypass byte b] →
    Sys2Proof.Machine.exec c s = .next s) ∧
  (∀ (s : State) (u : Fin 3) (i : Fin 16) (fail : Option Word), s.sliceMay (2 + u) i = true →
    ∃ t, Sys2Proof.Machine.exec (.bistSlice u i fail) s = .next t ∧
      Sparse.find t.slices (16 * (2 + u.val) + i.val) = some s.time ∧
      (fail = none → t.rd R.SLICES_COUNT = (s.rd R.SLICES_COUNT + 1) % 2 ^ 32 ∧
        t = { s with regs := t.regs, slices := t.slices, spans := { s.spans with leaves := t.spans.leaves } } ∧
        SameWords s t [R.SLICES]) ∧
      (fail ≠ none → t.unitBad (2 + u) i = true) ∧
      t = { s.noticed t with
          pow := { s.pow with lastBusy := t.pow.lastBusy }, pieces := t.pieces, ended := t.ended, rejects := t.rejects,
          tgs := t.tgs, ring := t.ring, cx := t.cx, stop := { s.stop with active := t.stop.active, faults := t.stop.faults },
          mem := { s.mem with hbmMap := t.mem.hbmMap, sramMap := t.mem.sramMap, waiting := t.mem.waiting }, lanes := t.lanes,
          slices := t.slices, flights := t.flights, hist := t.hist, cams := t.cams, evid := t.evid, seqs := t.seqs,
          verify := t.verify, unitsBad := t.unitsBad })

/-- Where the WRITE is accepted, beside RegisterWrites: a restart becomes pending, a Night request begins the entry into Night; DMA
channels run from their head, pause, go on, ring and change mode; windows open empty and close; a drained engine with no band rests;
keys are stored and erased; doorbells of units that do not wait are counted; evidence leaves again; positions are preset; compare units
arm ahead, miss and disarm; the stop begins and ends; serial lists wait; lanes calibrate, resume and train again; mending commands
change the list; pipelines arm; ports and PTP instances restart; time bases are set, adjusted and accept a jump; time is latched;
sequencers are released and return from retirement; test is entered and left, a self-test counts, a record falls due; a loop-back takes
its lane or port off its work. -/
def Obligations.WriteEffects : Prop :=
  (∀ (s : State) (m : Msg) (v : Word), (s.accepts (.restart m v) → ∃ t, Sys2Proof.Machine.exec (.restart m v) s = .next t ∧
      t.pow.restart = true ∧ t.pow.phase = s.pow.phase) ∧
    (s.accepts (.nightReq m v) → s.awake = true → s.pow.scanOpen = false → s.pow.wipeStep = 0 →
      ∃ t, Sys2Proof.Machine.exec (.nightReq m v) s = .next t ∧ t.pow.phase = .nightEntry ∧ t.pow.nightReqAt = s.time ∧
        3 ∈ t.nvm.due ∧ t.nvm.stDue = true)) ∧
  (∀ (s : State) (m : Msg) (n : Fin 16) (v : Word) (moved : Nat),
    (s.accepts (.dmaRun m n v) → ∃ t, Sys2Proof.Machine.exec (.dmaRun m n v) s = .next t ∧ t.pow.phase ≠ .dusk ∧
      (v.getLsbD 1 = true → t.dmaState n = dmaPaused) ∧
      (v.getLsbD 1 = false → t.dmaCur n = s.dmaHead n ∧ (t.rd (R.DMA_STATUS_ERROR n) = 0 → t.dmaState n = dmaRunning))) ∧
    (s.accepts (.dmaDoorbell m n v) → s.dmaState n ≠ dmaTail → ∃ t, Sys2Proof.Machine.exec (.dmaDoorbell m n v) s = .next t ∧
      t.rd (R.DMA_DB_IGNORED_COUNT n) = (s.rd (R.DMA_DB_IGNORED_COUNT n) + 1) % 2 ^ 32) ∧
    (s.accepts (.dmaPause m n moved) → s.dmaState n = dmaRunning → s.rd (R.DMA_CTRL_PAUSE n) = 0 →
      ∃ t, Sys2Proof.Machine.exec (.dmaPause m n moved) s = .next t ∧ t.dmaState n = dmaPaused ∧ t.rd (R.DMA_CTRL_PAUSE n) = 1) ∧
    (s.accepts (.dmaResume m n) → ∃ t, Sys2Proof.Machine.exec (.dmaResume m n) s = .next t ∧ t.rd (R.DMA_CTRL_PAUSE n) = 0) ∧
    (s.accepts (.dmaMode m n v) → ∃ t, Sys2Proof.Machine.exec (.dmaMode m n v) s = .next t ∧
      t.dmaState n = (if v.getLsbD 0 = true then dmaIntake else dmaIdle)) ∧
    (s.accepts (.drain m n v) → ∃ t, Sys2Proof.Machine.exec (.drain m n v) s = .next t ∧ t.rd (R.DX_CTRL_DRAIN n) = v.toNat % 2 ∧
      (v.toNat % 2 = 1 → t.engineBands n = 0 → t.rd (R.DX_STATUS_STATE n) = 3))) ∧
  (∀ (s : State) (m : Msg) (n : Fin 64) (v : Word),
    (s.accepts (.windowOpen m n v) → ∃ t, Sys2Proof.Machine.exec (.windowOpen m n v) s = .next t ∧ t.rd (R.WIN_CFG_OPEN n) = 1 ∧
      Sparse.get [] t.windows n = []) ∧
    (s.accepts (.windowClose m n v) → ∃ t, Sys2Proof.Machine.exec (.windowClose m n v) s = .next t ∧ t.rd (R.WIN_CFG_OPEN n) = 0) ∧
    (s.accepts (.compareArm m n v) → 0 < fwd (s.cmpTgt n) (s.cmpRef n) → ∃ t, Sys2Proof.Machine.exec (.compareArm m n v) s = .next t ∧
      t.rd (R.CMP_STATUS_ARMED n) = 1 ∧ t.rd (R.CMP_STATUS_HIT n) = 0) ∧
    (s.accepts (.compareArm m n v) → fwd (s.cmpTgt n) (s.cmpRef n) < -(s.rd (R.CMP_CFG_LATE_WIN n) : Int) →
      fwd (s.cmpTgt n) (s.cmpRef n) ≤ 0 → ∃ t, Sys2Proof.Machine.exec (.compareArm m n v) s = .next t ∧
      t.rd (R.CMP_STATUS_ARMED n) = 0 ∧ t.rd (R.CMP_STATUS_MISSED n) = 1) ∧
    (s.accepts (.compareDisarm m n v) → ∃ t, Sys2Proof.Machine.exec (.compareDisarm m n v) s = .next t ∧
      t.rd (R.CMP_STATUS_ARMED n) = 0)) ∧
  (∀ (s : State) (m : Msg) (slot : Fin 8) (words : List Word) (v : Word),
    (s.accepts (.keyWrite m slot words) → ∃ t, Sys2Proof.Machine.exec (.keyWrite m slot words) s = .next t ∧
      Sparse.find t.keys slot = some (wordBytes words) ∧ bit (t.rd R.KEY_VALID_SLOTS) slot = true ∧ t.nvm.stDue = true) ∧
    (s.accepts (.keyClear m v) → ∃ t, Sys2Proof.Machine.exec (.keyClear m v) s = .next t ∧
      Sparse.find t.keys slot = (if v.getLsbD slot = true then none else Sparse.find s.keys slot))) ∧
  (∀ (s : State) (m : Msg) (n : Fin 4) (v : Word), s.accepts (.cxDoorbell m n v) → (s.cxu n).wait = 0 →
    ∃ t, Sys2Proof.Machine.exec (.cxDoorbell m n v) s = .next t ∧
      t.rd (R.CX_DB_IGNORED_COUNT n) = (s.rd (R.CX_DB_IGNORED_COUNT n) + 1) % 2 ^ 32) ∧
  (∀ (s : State) (m : Msg) (v : Word) (a used chunk : Nat) (e : Evd), s.accepts (.evdResend m v) →
    a = bits (s.word R.EVD_RESEND_LO).toNat 5 27 * 32 + 2 ^ 32 * (v.toNat % 256) → s.evdOf a = some e → s.rd R.EVD_IP_IP ≠ 0 →
    le (s.hbmRead (a + 3) 1) 0 1 = 5 → used = le (s.hbmRead a 32) 0x10 4 → chunk = max 1 (s.rd R.EVD_CFG_CHUNK) →
    ∃ t, Sys2Proof.Machine.exec (.evdResend m v) s = .next t ∧
      t.rd R.EVD_RESENT_COUNT = (s.rd R.EVD_RESENT_COUNT + max 1 ((used + chunk - 1) / chunk)) % 2 ^ 32) ∧
  (∀ (s : State) (m : Msg) (n : Fin 2) (v : Word) (p : Nat), s.accepts (.preset m n v) →
    p = s.rdW (R.ENC_PRESET_LO_POS n) (R.ENC_PRESET_HI_POS n) →
    ∃ t, Sys2Proof.Machine.exec (.preset m n v) s = .next t ∧ t.encTrue n = p ∧ t.encPrint n = p ∧ t.rd (R.ENC_STATUS_CONT n) = 1) ∧
  (∀ (s : State) (m : Msg) (v : Word),
    (s.accepts (.stopReq m v) → ∃ t, Sys2Proof.Machine.exec (.stopReq m v) s = .next t ∧ t.stop.active = true) ∧
    (s.accepts (.stopResume m v) → ∃ t, Sys2Proof.Machine.exec (.stopResume m v) s = .next t ∧ t.stop = {} ∧
      ∀ k : Fin 16, t.rd (R.TG_STATUS_STOPPED k) = 0 ∧ (t.tg k).stopP = none)) ∧
  (∀ (s : State) (m : Msg) (k : Fin 4) (lo hi : Word), s.accepts (.serialPendWrite m k lo hi) → s.rd (R.SL_STATUS_ACTIVE k) = 1 →
    s.rd (R.SL_NEXT_INDEX k) < s.rd (R.SL_COUNT_COUNT k) →
    ∃ t, Sys2Proof.Machine.exec (.serialPendWrite m k lo hi) s = .next t ∧
      t.rd (R.SL_STATUS_PENDING k) = b2n (t.rdW (R.SL_PEND_LO_ADDR k) (R.SL_PEND_HI_ADDR k) != 0) ∧
      t.rd (R.SL_STATUS_ACTIVE k) = 1 ∧ t.rd (R.SL_NEXT_INDEX k) = s.rd (R.SL_NEXT_INDEX k)) ∧
  (∀ (s : State) (m : Msg) (n : Fin 16) (v : Word),
    (s.accepts (.cal m n v) → v.toNat % 4 = 0 → s.laneState n = laneActive → ∃ t, Sys2Proof.Machine.exec (.cal m n v) s = .next t ∧
      Output.echoes n ∈ t.out) ∧
    (s.accepts (.laneResume m n v) → v.toNat % 8 < 2 → (s.lane n).heldByHost = true →
      s.laneState n = laneActive ∨ s.laneState n = laneShallow →
      ∃ t, Sys2Proof.Machine.exec (.laneResume m n v) s = .next t ∧ t.laneState n = laneActive ∧ (t.lane n).heldByHost = false ∧
        t.rd (R.HL_STATE_ABORTED n) = 0) ∧
    (s.accepts (.retrain m n v) → v.getLsbD 0 = false → s.laneOn n = true ∨ s.laneState n = laneActive →
      ∃ t, Sys2Proof.Machine.exec (.retrain m n v) s = .next t ∧ t.laneState n = laneDetect) ∧
    (s.accepts (.hlLoopback m n v) → s.rd (R.HL_LB_DEPTH n) = 0 → 1 ≤ v.toNat → v.toNat ≤ 4 →
      ∃ t, Sys2Proof.Machine.exec (.hlLoopback m n v) s = .next t ∧ t.laneState n = laneOff ∧ t.rd (R.HL_LB_DEPTH n) = v.toNat) ∧
    (s.accepts (.hlLoopback m n v) → s.rd (R.HL_LB_DEPTH n) ≠ 0 → v = 0 → s.laneOn n = true →
      ∃ t, Sys2Proof.Machine.exec (.hlLoopback m n v) s = .next t ∧ t.laneState n = laneDetect)) ∧
  (∀ (s : State) (m : Msg) (z : BitVec 20),
    (s.accepts (.mendAdd m z) → s.darn.list.length < 16384 → ∃ t, Sys2Proof.Machine.exec (.mendAdd m z) s = .next t ∧
      t.listed z.toNat = true ∧ t.darn.list.length = s.darn.list.length + 1) ∧
    (s.accepts (.mendRemove m z) → ∃ t, Sys2Proof.Machine.exec (.mendRemove m z) s = .next t ∧
      t.darn.list.length + 1 = s.darn.list.length) ∧
    (s.accepts (.mendPin m z) → ∃ t, Sys2Proof.Machine.exec (.mendPin m z) s = .next t ∧ t.listed z.toNat = true ∧
      ∀ x ∈ t.darn.list, x.nozzle = z.toNat → x.pinned = true) ∧
    (s.accepts (.mendUnpin m z) → ∃ t, Sys2Proof.Machine.exec (.mendUnpin m z) s = .next t ∧ t.listed z.toNat = true ∧
      ∀ x ∈ t.darn.list, x.nozzle = z.toNat → x.pinned = false ∧ x.passes = 0) ∧
    (∀ e, s.accepts (.mendTest m z) → s.nozzleAt z.toNat = some e → ∃ t, Sys2Proof.Machine.exec (.mendTest m z) s = .next t ∧
      ∀ g : Fin 4, s.gateServes g (s.chBar e.1) = true → z.toNat ∈ (t.gate g).queue)) ∧
  (∀ (s : State) (m : Msg) (n : Fin 4) (v : Word),
    (s.accepts (.cpArm m n v) → ∃ t, Sys2Proof.Machine.exec (.cpArm m n v) s = .next t ∧
      ∀ k ∈ s.armGroup n, (t.cam k).release.isSome = true ∧ (t.cam k).trigs = [] ∧ (t.cam k).count = 0) ∧
    (s.accepts (.clLoopback m n v) → v.toNat ≤ 3 → v.toNat ≠ s.rd (R.CL_LB_DEPTH n) →
      ∃ t, Sys2Proof.Machine.exec (.clLoopback m n v) s = .next t ∧ t.rd (R.CL_LB_DEPTH n) = v.toNat ∧
        Sparse.find t.loops (16 + n.val) = some s.time) ∧
    (s.accepts (.mfpLoopback m v) → b2n (v.getLsbD 8) ≠ s.rd R.MFP_LB_EN →
      ∃ t, Sys2Proof.Machine.exec (.mfpLoopback m v) s = .next t ∧ t.rd R.MFP_LB_EN = b2n (v.getLsbD 8) ∧
        Sparse.find t.loops 20 = some s.time)) ∧
  (∀ (s : State) (m : Msg) (n : Fin 2) (v : Word),
    (s.accepts (.portCfgWrite m n v) → (s.word (R.NP_CFG n)).toNat % 2 ^ 18 ≠ v.toNat % 2 ^ 18 →
      ∃ t, Sys2Proof.Machine.exec (.portCfgWrite m n v) s = .next t ∧ t.linkOn n = false) ∧
    (s.accepts (.npLoopback m n v) → 1 ≤ v.toNat → v.toNat ≤ 3 → s.rd (R.NP_LB_DEPTH n) ≠ v.toNat →
      ∃ t, Sys2Proof.Machine.exec (.npLoopback m n v) s = .next t ∧ t.linkOn n = false ∧ t.rd (R.NP_LB_DEPTH n) = v.toNat) ∧
    (s.accepts (.piCfgWrite m n v) → ∃ t, Sys2Proof.Machine.exec (.piCfgWrite m n v) s = .next t ∧
      ∀ k : Fin 2, (t.ptpPort n k).foreign = [] ∧ (t.ptpPort n k).parent = none ∧
        (t.ptpPort n k).state = (if (t.ptpPorts n).contains k = true ∧ s.linkOn k = true then 4 else 3))) ∧
  (∀ (s : State) (m : Msg) (k : Fin 4) (lo hi v : Word),
    (s.accepts (.tbSet m k lo hi) → ∃ t, Sys2Proof.Machine.exec (.tbSet m k lo hi) s = .next t ∧
      (t.tb k).ns = lo.toNat + 2 ^ 32 * hi.toNat ∧ (t.tb k).everSet = true) ∧
    (s.accepts (.tbAdj m k v) → ∃ t, Sys2Proof.Machine.exec (.tbAdj m k v) s = .next t ∧
      (t.tb k).rate = ratOpen 80 ((v.toInt : Rat) / 1000 * (5 * 2 ^ 32) / 1000000000)) ∧
    (s.accepts (.accept m k v) → ∃ t, Sys2Proof.Machine.exec (.accept m k v) s = .next t ∧ (t.tb k).refused = false ∧
      (t.tb k).utcPend = none ∧ t.rd (R.TB_STATUS_STATE k) = 1 ∧ t.rd (R.TB_STATUS_REFUSED k) = 0) ∧
    (s.accepts (.snapshot m v) → ∃ t, Sys2Proof.Machine.exec (.snapshot m v) s = .next t ∧
      t.rd R.SNAP_SEQ_COUNT = (s.rd R.SNAP_SEQ_COUNT + 1) % 2 ^ 32 ∧
      t.rdW (R.SNAP_TB_LO_NS k) (R.SNAP_TB_HI_NS k) = (s.tb k).ns % 2 ^ 64)) ∧
  (∀ (s : State) (m : Msg) (v : Word),
    (s.accepts (.prefWrite m v) → ∃ t, Sys2Proof.Machine.exec (.prefWrite m v) s = .next t ∧
      (t.handbackMay = false → t.rd R.SEQ_STATE_HANDBACK_PEND = 0)) ∧
    (s.accepts (.release m v) → ∃ t, Sys2Proof.Machine.exec (.release m v) s = .next t ∧ t.rd R.SEQ_STATE_HOLD = 0) ∧
    (s.accepts (.unretireA m v) → s.sqState 0 = sqRetired → ∃ t, Sys2Proof.Machine.exec (.unretireA m v) s = .next t ∧
      t.sqState 0 = sqOut ∧ (t.sq 0).giveups = []) ∧
    (s.accepts (.unretireB m v) → s.sqState 1 = sqRetired → ∃ t, Sys2Proof.Machine.exec (.unretireB m v) s = .next t ∧
      t.sqState 1 = sqOut ∧ (t.sq 1).giveups = []) ∧
    (s.accepts (.enter m v) → v.getLsbD 1 = false → ∃ t, Sys2Proof.Machine.exec (.enter m v) s = .next t ∧
      t.rd R.TEST_STATE_TEST = 1) ∧
    (s.accepts (.leave m v) → ∃ t, Sys2Proof.Machine.exec (.leave m v) s = .next t ∧ t.rd R.TEST_STATE_TEST = 0) ∧
    (s.accepts (.bist m v []) → ∃ t, Sys2Proof.Machine.exec (.bist m v []) s = .next t ∧
      t.rd R.BIST_RUNS_COUNT = (s.rd R.BIST_RUNS_COUNT + 1) % 2 ^ 32 ∧ t.rd R.BIST_FAILED_UNITS = 0) ∧
    (s.accepts (.journal m v) → s.nvm.lastHostFault = none → ∃ t, Sys2Proof.Machine.exec (.journal m v) s = .next t ∧ 8 ∈ t.nvm.due))

end
end

