-- ==== Sys2Proof/Laws/Sparse.lean ====
section
/-! SUPPORT. Reading after writing in sparse memories, and their canonical form. -/

namespace Sys2Proof.Machine

theorem find_append {α : Type} (l m : Sparse α) (k : Nat) :
    Sparse.find (l ++ m) k = (Sparse.find l k).orElse (fun _ => Sparse.find m k) := by
  induction l with
  | nil => simp [Sparse.find]
  | cons e l ih =>
    obtain ⟨j, v⟩ := e
    by_cases h : j = k <;> simp [Sparse.find, h, ih]

theorem find_filter {α : Type} (p : Nat → Bool) (m : Sparse α) (k : Nat) :
    Sparse.find (m.filter (fun c => p c.1)) k = if p k then Sparse.find m k else none := by
  induction m with
  | nil => simp [Sparse.find]
  | cons e m ih =>
    obtain ⟨j, v⟩ := e
    by_cases hp : p j <;> by_cases h : j = k
    · subst h; simp [hp, Sparse.find]
    · simp [hp, Sparse.find, h, ih]
    · subst h; simp [hp, ih]
    · simp [hp, Sparse.find, h, ih]

theorem find_cells_lt {α : Type} [DecidableEq α] (d : α) (vs : List α) (a k : Nat) (h : k < a) :
    Sparse.find (Sparse.cells d a vs) k = none := by
  induction vs generalizing a with
  | nil => simp [Sparse.cells, Sparse.find]
  | cons v vs ih =>
    simp only [Sparse.cells]
    split
    · exact ih _ (by omega)
    · simp [Sparse.find, ih (a + 1) (by omega), show a ≠ k by omega]

theorem find_cells_ge {α : Type} [DecidableEq α] (d : α) (vs : List α) (a k : Nat) (h : a + vs.length ≤ k) :
    Sparse.find (Sparse.cells d a vs) k = none := by
  induction vs generalizing a with
  | nil => simp [Sparse.cells, Sparse.find]
  | cons v vs ih =>
    simp only [List.length_cons] at h
    simp only [Sparse.cells]
    split
    · exact ih _ (by omega)
    · simp [Sparse.find, ih (a + 1) (by omega), show a ≠ k by omega]

theorem find_cells_at {α : Type} [DecidableEq α] (d : α) (vs : List α) (a i : Nat) (h : i < vs.length) :
    (Sparse.find (Sparse.cells d a vs) (a + i)).getD d = vs[i] := by
  induction vs generalizing a i with
  | nil => simp at h
  | cons v vs ih =>
    simp only [Sparse.cells]
    cases i with
    | zero =>
      split
      · next e => simp [find_cells_lt d vs (a + 1) a (by omega), e]
      · simp [Sparse.find]
    | succ i =>
      have := ih (a + 1) i (by simpa using h)
      rw [show a + 1 + i = a + (i + 1) by omega] at this
      split
      · simpa using this
      · simpa [Sparse.find, show a ≠ a + (i + 1) by omega] using this

/-- A key outside the run written reads as before. -/
theorem find_splice_out {α : Type} [DecidableEq α] (d : α) (m : Sparse α) (a k : Nat) (vs : List α)
    (h : k < a ∨ a + vs.length ≤ k) : Sparse.find (Sparse.splice d m a vs) k = Sparse.find m k := by
  unfold Sparse.splice
  rw [find_append, find_append, find_filter (fun j => decide (j < a)), find_filter (fun j => decide (a + vs.length ≤ j))]
  rcases h with h | h
  · simp [h, find_cells_lt d vs a k h, show ¬ a + vs.length ≤ k by omega]
  · simp [h, find_cells_ge d vs a k h, show ¬ k < a by omega]

/-- A key of the run written reads the value written. -/
theorem find_splice_in {α : Type} [DecidableEq α] (d : α) (m : Sparse α) (a i : Nat) (vs : List α) (h : i < vs.length) :
    (Sparse.find (Sparse.splice d m a vs) (a + i)).getD d = vs[i] := by
  unfold Sparse.splice
  rw [find_append, find_append, find_filter (fun j => decide (j < a)), find_filter (fun j => decide (a + vs.length ≤ j))]
  simp [show ¬ a + vs.length ≤ a + i by omega, find_cells_at d vs a i h]

@[simp] theorem get_set_same {α : Type} [DecidableEq α] (d : α) (m : Sparse α) (k : Nat) (v : α) :
    Sparse.get d (Sparse.set d m k v) k = v := by
  simpa [Sparse.get, Sparse.set] using find_splice_in d m k 0 [v] (by simp)

theorem get_set_ne {α : Type} [DecidableEq α] (d : α) (m : Sparse α) (j k : Nat) (v : α) (h : j ≠ k) :
    Sparse.get d (Sparse.set d m k v) j = Sparse.get d m j := by
  simp only [Sparse.get, Sparse.set]
  rw [find_splice_out]
  simp only [List.length_cons, List.length_nil]
  omega

theorem get_set {α : Type} [DecidableEq α] (d : α) (m : Sparse α) (j k : Nat) (v : α) :
    Sparse.get d (Sparse.set d m k v) j = if j = k then v else Sparse.get d m j := by
  split
  · next h => subst h; simp
  · next h => exact get_set_ne d m j k v h

@[simp] theorem get_upd_same {α : Type} [DecidableEq α] (d : α) (m : Sparse α) (k : Nat) (f : α → α) :
    Sparse.get d (Sparse.upd d m k f) k = f (Sparse.get d m k) := by simp [Sparse.upd]

theorem get_upd_ne {α : Type} [DecidableEq α] (d : α) (m : Sparse α) (j k : Nat) (f : α → α) (h : j ≠ k) :
    Sparse.get d (Sparse.upd d m k f) j = Sparse.get d m j := get_set_ne d m j k _ h

/-- Writing bytes and reading one byte. -/
theorem get_splice {α : Type} [DecidableEq α] (d : α) (m : Sparse α) (a k : Nat) (vs : List α) :
    Sparse.get d (Sparse.splice d m a vs) k = if a ≤ k ∧ k < a + vs.length then vs.getD (k - a) d else Sparse.get d m k := by
  split
  · next h =>
    have := find_splice_in d m a (k - a) vs (by omega)
    rw [show a + (k - a) = k by omega] at this
    simp only [Sparse.get, this]
    rw [List.getD_eq_getElem?_getD, List.getElem?_eq_getElem (by omega)]
    rfl
  · next h =>
    simp only [Sparse.get]
    rw [find_splice_out]
    omega

theorem find_put_same {α : Type} (m : Sparse α) (k : Nat) (v : α) : Sparse.find (Sparse.put m k v) k = some v := by
  unfold Sparse.put
  rw [find_append, find_filter (fun j => decide (j < k))]
  simp [Sparse.find]

theorem find_put_ne {α : Type} (m : Sparse α) (j k : Nat) (v : α) (h : j ≠ k) :
    Sparse.find (Sparse.put m k v) j = Sparse.find m j := by
  unfold Sparse.put
  rw [find_append, find_filter (fun i => decide (i < k))]
  simp only [Sparse.find]
  rw [find_filter (fun i => decide (k < i))]
  rcases Nat.lt_or_gt_of_ne h with h | h
  · simp [h, show ¬ k < j by omega, show k ≠ j by omega]
  · simp [h, show ¬ j < k by omega, show k ≠ j by omega]

theorem find_clear {α : Type} (m : Sparse α) (a b k : Nat) :
    Sparse.find (Sparse.clear m a b) k = if a ≤ k ∧ k < b then none else Sparse.find m k := by
  unfold Sparse.clear
  rw [find_filter (fun j => decide (j < a) || decide (b ≤ j))]
  by_cases h : a ≤ k ∧ k < b
  · simp [h]
  · rw [if_neg h]
    simp only [Bool.or_eq_true, decide_eq_true_eq, ite_eq_left_iff]
    omega

/-! ## The canonical form -/

theorem wfFrom_mono {α : Type} [DecidableEq α] (d : α) (lo hi : Nat) (m : Sparse α) (hle : lo ≤ hi)
    (h : Sparse.wfFrom d hi m = true) : Sparse.wfFrom d lo m = true := by
  cases m with
  | nil => rfl
  | cons e m =>
    obtain ⟨k, v⟩ := e
    simp only [Sparse.wfFrom, Bool.and_eq_true, decide_eq_true_eq] at h ⊢
    exact ⟨⟨by omega, h.1.2⟩, h.2⟩

theorem wfFrom_filter {α : Type} [DecidableEq α] (d : α) (lo : Nat) (m : Sparse α) (p : Nat × α → Bool)
    (h : Sparse.wfFrom d lo m = true) : Sparse.wfFrom d lo (m.filter p) = true := by
  induction m generalizing lo with
  | nil => rfl
  | cons e m ih =>
    obtain ⟨k, v⟩ := e
    simp only [Sparse.wfFrom, Bool.and_eq_true, decide_eq_true_eq] at h
    rw [List.filter_cons]
    split
    · simp only [Sparse.wfFrom, Bool.and_eq_true, decide_eq_true_eq]
      exact ⟨h.1, ih _ h.2⟩
    · exact wfFrom_mono d lo (k + 1) _ (by omega) (ih _ h.2)

theorem wfFrom_append {α : Type} [DecidableEq α] (d : α) (lo b : Nat) (l m : Sparse α) (hlo : lo ≤ b)
    (hl : Sparse.wfFrom d lo l = true) (hb : ∀ e ∈ l, e.1 < b) (hm : Sparse.wfFrom d b m = true) :
    Sparse.wfFrom d lo (l ++ m) = true := by
  induction l generalizing lo with
  | nil => exact wfFrom_mono d lo b m hlo hm
  | cons e l ih =>
    obtain ⟨k, v⟩ := e
    simp only [Sparse.wfFrom, Bool.and_eq_true, decide_eq_true_eq] at hl
    simp only [List.cons_append, Sparse.wfFrom, Bool.and_eq_true, decide_eq_true_eq]
    refine ⟨hl.1, ih (k + 1) ?_ hl.2 (fun e he => hb e (by simp [he]))⟩
    have := hb (k, v) (by simp)
    simp only at this
    omega

theorem wfFrom_ge {α : Type} [DecidableEq α] (d : α) (lo b : Nat) (m : Sparse α) (h : Sparse.wfFrom d lo m = true) :
    Sparse.wfFrom d b (m.filter (fun c => decide (b ≤ c.1))) = true := by
  induction m generalizing lo with
  | nil => rfl
  | cons e m ih =>
    obtain ⟨k, v⟩ := e
    simp only [Sparse.wfFrom, Bool.and_eq_true, decide_eq_true_eq] at h
    rw [List.filter_cons]
    split
    · next hk =>
      simp only [decide_eq_true_eq] at hk
      simp only [Sparse.wfFrom, Bool.and_eq_true, decide_eq_true_eq]
      exact ⟨⟨hk, h.1.2⟩, wfFrom_filter d _ m _ h.2⟩
    · exact ih _ h.2

theorem wfFrom_cells {α : Type} [DecidableEq α] (d : α) (a : Nat) (vs : List α) : Sparse.wfFrom d a (Sparse.cells d a vs) = true := by
  induction vs generalizing a with
  | nil => rfl
  | cons v vs ih =>
    simp only [Sparse.cells]
    split
    · exact wfFrom_mono d a (a + 1) _ (by omega) (ih _)
    · next h =>
      simp only [Sparse.wfFrom, Bool.and_eq_true, decide_eq_true_eq]
      exact ⟨⟨Nat.le_refl _, h⟩, ih _⟩

theorem cells_lt {α : Type} [DecidableEq α] (d : α) (a : Nat) (vs : List α) : ∀ e ∈ Sparse.cells d a vs, e.1 < a + vs.length := by
  induction vs generalizing a with
  | nil => simp [Sparse.cells]
  | cons v vs ih =>
    intro e he
    simp only [Sparse.cells] at he
    simp only [List.length_cons]
    split at he
    · have := ih (a + 1) e he; omega
    · rcases List.mem_cons.1 he with rfl | he
      · simp
      · have := ih (a + 1) e he; omega

/-- Writing a run of values keeps the canonical form. -/
theorem wf_splice {α : Type} [DecidableEq α] (d : α) (m : Sparse α) (a : Nat) (vs : List α) (h : Sparse.wfFrom d 0 m = true) :
    Sparse.wfFrom d 0 (Sparse.splice d m a vs) = true := by
  unfold Sparse.splice
  refine wfFrom_append d 0 (a + vs.length) _ _ (by omega)
    (wfFrom_append d 0 a _ _ (by omega) (wfFrom_filter d 0 m _ h) (by simp) (wfFrom_cells d a vs)) ?_ (wfFrom_ge d 0 _ m h)
  intro e he
  rcases List.mem_append.1 he with he | he
  · simp only [List.mem_filter, decide_eq_true_eq] at he; omega
  · exact cells_lt d a vs e he

/-- Erasing a run keeps the canonical form. -/
theorem wf_clear {α : Type} [DecidableEq α] (d : α) (m : Sparse α) (a b : Nat) (h : Sparse.wfFrom d 0 m = true) :
    Sparse.wfFrom d 0 (Sparse.clear m a b) = true := wfFrom_filter d 0 m _ h

end Sys2Proof.Machine
end

