-- ==== Sys2Proof/Laws/Memory.lean ====
section
/-! SUPPORT. Every operation on HBM and on the flash keeps both in canonical form, and the machine starts with both in it. -/

namespace Sys2Proof.Machine

theorem reset_memoryWf : State.reset.memoryWf := ⟨rfl, rfl⟩

theorem hbmWrite_memoryWf (s : State) (a : Nat) (bs : List Byte) (h : s.memoryWf) : (s.hbmWrite a bs).memoryWf :=
  ⟨wf_splice 0 s.hbm a bs h.1, h.2⟩

theorem flashProgram_memoryWf (s : State) (a : Nat) (bs : List Byte) (h : s.memoryWf) : (s.flashProgram a bs).memoryWf :=
  ⟨h.1, wf_splice 0xFF s.flash a _ h.2⟩

theorem flashErase_memoryWf (s : State) (a b : Nat) (h : s.memoryWf) : (s.flashErase a b).memoryWf :=
  ⟨h.1, wf_clear 0xFF s.flash a b h.2⟩

end Sys2Proof.Machine
end

