-- ==== Sys2Proof/Laws/State.lean ====
section
/-! SUPPORT. What each update of State leaves alone, field by field. -/

namespace Sys2Proof.Machine

@[simp] theorem setWord_frame (s : State) (a : Nat) (w : Word) :
    (s.setWord a w).time = s.time ∧ (s.setWord a w).pendw = s.pendw ∧ (s.setWord a w).hbm = s.hbm ∧
    (s.setWord a w).flash = s.flash ∧ (s.setWord a w).pow = s.pow ∧ (s.setWord a w).nvm = s.nvm ∧
    (s.setWord a w).therm = s.therm ∧ (s.setWord a w).subs = s.subs ∧ (s.setWord a w).held = s.held ∧
    (s.setWord a w).fwds = s.fwds ∧ (s.setWord a w).followers = s.followers ∧ (s.setWord a w).conds = s.conds ∧
    (s.setWord a w).spans = s.spans ∧ (s.setWord a w).tbs = s.tbs ∧ (s.setWord a w).ptp = s.ptp ∧ (s.setWord a w).tps = s.tps ∧
    (s.setWord a w).ports = s.ports ∧ (s.setWord a w).conf = s.conf ∧ (s.setWord a w).pieces = s.pieces ∧
    (s.setWord a w).ended = s.ended ∧ (s.setWord a w).rejects = s.rejects ∧ (s.setWord a w).tgs = s.tgs ∧
    (s.setWord a w).ring = s.ring ∧ (s.setWord a w).windows = s.windows ∧ (s.setWord a w).dma = s.dma ∧
    (s.setWord a w).dx = s.dx ∧ (s.setWord a w).keys = s.keys ∧ (s.setWord a w).cx = s.cx ∧ (s.setWord a w).stop = s.stop ∧
    (s.setWord a w).encs = s.encs ∧ (s.setWord a w).lgs = s.lgs ∧ (s.setWord a w).encouts = s.encouts ∧
    (s.setWord a w).probes = s.probes ∧ (s.setWord a w).mem = s.mem ∧ (s.setWord a w).darn = s.darn ∧
    (s.setWord a w).gates = s.gates ∧ (s.setWord a w).rinses = s.rinses ∧ (s.setWord a w).lanes = s.lanes ∧
    (s.setWord a w).camRx = s.camRx ∧ (s.setWord a w).reports = s.reports ∧ (s.setWord a w).heads = s.heads ∧
    (s.setWord a w).slices = s.slices ∧ (s.setWord a w).flights = s.flights ∧ (s.setWord a w).hist = s.hist ∧
    (s.setWord a w).cams = s.cams ∧ (s.setWord a w).iron = s.iron ∧ (s.setWord a w).evd = s.evd ∧
    (s.setWord a w).evid = s.evid ∧ (s.setWord a w).seqs = s.seqs ∧ (s.setWord a w).mismatches = s.mismatches ∧
    (s.setWord a w).verify = s.verify ∧ (s.setWord a w).life = s.life ∧ (s.setWord a w).lifeRem = s.lifeRem ∧
    (s.setWord a w).jtag = s.jtag ∧ (s.setWord a w).unitsBad = s.unitsBad ∧ (s.setWord a w).loops = s.loops ∧
    (s.setWord a w).out = s.out ∧ (s.setWord a w).free = s.free ∧ (s.setWord a w).pending = s.pending ∧
    (∀ g, (s.setWord a w).cf g = s.cf g) := by
  and_intros <;> intros <;> rfl

@[simp] theorem wr_frame (s : State) (f : Field) (v : Nat) :
    (s.wr f v).time = s.time ∧ (s.wr f v).pendw = s.pendw ∧ (s.wr f v).hbm = s.hbm ∧ (s.wr f v).flash = s.flash ∧
    (s.wr f v).pow = s.pow ∧ (s.wr f v).nvm = s.nvm ∧ (s.wr f v).therm = s.therm ∧ (s.wr f v).subs = s.subs ∧
    (s.wr f v).held = s.held ∧ (s.wr f v).fwds = s.fwds ∧ (s.wr f v).followers = s.followers ∧ (s.wr f v).conds = s.conds ∧
    (s.wr f v).spans = s.spans ∧ (s.wr f v).tbs = s.tbs ∧ (s.wr f v).ptp = s.ptp ∧ (s.wr f v).tps = s.tps ∧
    (s.wr f v).ports = s.ports ∧ (s.wr f v).conf = s.conf ∧ (s.wr f v).pieces = s.pieces ∧ (s.wr f v).ended = s.ended ∧
    (s.wr f v).rejects = s.rejects ∧ (s.wr f v).tgs = s.tgs ∧ (s.wr f v).ring = s.ring ∧ (s.wr f v).windows = s.windows ∧
    (s.wr f v).dma = s.dma ∧ (s.wr f v).dx = s.dx ∧ (s.wr f v).keys = s.keys ∧ (s.wr f v).cx = s.cx ∧
    (s.wr f v).stop = s.stop ∧ (s.wr f v).encs = s.encs ∧ (s.wr f v).lgs = s.lgs ∧ (s.wr f v).encouts = s.encouts ∧
    (s.wr f v).probes = s.probes ∧ (s.wr f v).mem = s.mem ∧ (s.wr f v).darn = s.darn ∧ (s.wr f v).gates = s.gates ∧
    (s.wr f v).rinses = s.rinses ∧ (s.wr f v).lanes = s.lanes ∧ (s.wr f v).camRx = s.camRx ∧ (s.wr f v).reports = s.reports ∧
    (s.wr f v).heads = s.heads ∧ (s.wr f v).slices = s.slices ∧ (s.wr f v).flights = s.flights ∧ (s.wr f v).hist = s.hist ∧
    (s.wr f v).cams = s.cams ∧ (s.wr f v).iron = s.iron ∧ (s.wr f v).evd = s.evd ∧ (s.wr f v).evid = s.evid ∧
    (s.wr f v).seqs = s.seqs ∧ (s.wr f v).mismatches = s.mismatches ∧ (s.wr f v).verify = s.verify ∧ (s.wr f v).life = s.life ∧
    (s.wr f v).lifeRem = s.lifeRem ∧ (s.wr f v).jtag = s.jtag ∧ (s.wr f v).unitsBad = s.unitsBad ∧ (s.wr f v).loops = s.loops ∧
    (s.wr f v).out = s.out ∧ (s.wr f v).free = s.free ∧ (s.wr f v).pending = s.pending ∧ (∀ g, (s.wr f v).cf g = s.cf g) := by
  and_intros <;> intros <;> rfl

@[simp] theorem wrI_frame (s : State) (f : Field) (v : Int) :
    (s.wrI f v).time = s.time ∧ (s.wrI f v).pendw = s.pendw ∧ (s.wrI f v).hbm = s.hbm ∧ (s.wrI f v).flash = s.flash ∧
    (s.wrI f v).pow = s.pow ∧ (s.wrI f v).nvm = s.nvm ∧ (s.wrI f v).therm = s.therm ∧ (s.wrI f v).subs = s.subs ∧
    (s.wrI f v).held = s.held ∧ (s.wrI f v).fwds = s.fwds ∧ (s.wrI f v).followers = s.followers ∧ (s.wrI f v).conds = s.conds ∧
    (s.wrI f v).spans = s.spans ∧ (s.wrI f v).tbs = s.tbs ∧ (s.wrI f v).ptp = s.ptp ∧ (s.wrI f v).tps = s.tps ∧
    (s.wrI f v).ports = s.ports ∧ (s.wrI f v).conf = s.conf ∧ (s.wrI f v).pieces = s.pieces ∧ (s.wrI f v).ended = s.ended ∧
    (s.wrI f v).rejects = s.rejects ∧ (s.wrI f v).tgs = s.tgs ∧ (s.wrI f v).ring = s.ring ∧ (s.wrI f v).windows = s.windows ∧
    (s.wrI f v).dma = s.dma ∧ (s.wrI f v).dx = s.dx ∧ (s.wrI f v).keys = s.keys ∧ (s.wrI f v).cx = s.cx ∧
    (s.wrI f v).stop = s.stop ∧ (s.wrI f v).encs = s.encs ∧ (s.wrI f v).lgs = s.lgs ∧ (s.wrI f v).encouts = s.encouts ∧
    (s.wrI f v).probes = s.probes ∧ (s.wrI f v).mem = s.mem ∧ (s.wrI f v).darn = s.darn ∧ (s.wrI f v).gates = s.gates ∧
    (s.wrI f v).rinses = s.rinses ∧ (s.wrI f v).lanes = s.lanes ∧ (s.wrI f v).camRx = s.camRx ∧
    (s.wrI f v).reports = s.reports ∧ (s.wrI f v).heads = s.heads ∧ (s.wrI f v).slices = s.slices ∧
    (s.wrI f v).flights = s.flights ∧ (s.wrI f v).hist = s.hist ∧ (s.wrI f v).cams = s.cams ∧ (s.wrI f v).iron = s.iron ∧
    (s.wrI f v).evd = s.evd ∧ (s.wrI f v).evid = s.evid ∧ (s.wrI f v).seqs = s.seqs ∧ (s.wrI f v).mismatches = s.mismatches ∧
    (s.wrI f v).verify = s.verify ∧ (s.wrI f v).life = s.life ∧ (s.wrI f v).lifeRem = s.lifeRem ∧ (s.wrI f v).jtag = s.jtag ∧
    (s.wrI f v).unitsBad = s.unitsBad ∧ (s.wrI f v).loops = s.loops ∧ (s.wrI f v).out = s.out ∧ (s.wrI f v).free = s.free ∧
    (s.wrI f v).pending = s.pending ∧ (∀ g, (s.wrI f v).cf g = s.cf g) := by
  and_intros <;> intros <;> rfl

@[simp] theorem wrB_frame (s : State) (f : Field) (b : Bool) :
    (s.wrB f b).time = s.time ∧ (s.wrB f b).pendw = s.pendw ∧ (s.wrB f b).hbm = s.hbm ∧ (s.wrB f b).flash = s.flash ∧
    (s.wrB f b).pow = s.pow ∧ (s.wrB f b).nvm = s.nvm ∧ (s.wrB f b).therm = s.therm ∧ (s.wrB f b).subs = s.subs ∧
    (s.wrB f b).held = s.held ∧ (s.wrB f b).fwds = s.fwds ∧ (s.wrB f b).followers = s.followers ∧ (s.wrB f b).conds = s.conds ∧
    (s.wrB f b).spans = s.spans ∧ (s.wrB f b).tbs = s.tbs ∧ (s.wrB f b).ptp = s.ptp ∧ (s.wrB f b).tps = s.tps ∧
    (s.wrB f b).ports = s.ports ∧ (s.wrB f b).conf = s.conf ∧ (s.wrB f b).pieces = s.pieces ∧ (s.wrB f b).ended = s.ended ∧
    (s.wrB f b).rejects = s.rejects ∧ (s.wrB f b).tgs = s.tgs ∧ (s.wrB f b).ring = s.ring ∧ (s.wrB f b).windows = s.windows ∧
    (s.wrB f b).dma = s.dma ∧ (s.wrB f b).dx = s.dx ∧ (s.wrB f b).keys = s.keys ∧ (s.wrB f b).cx = s.cx ∧
    (s.wrB f b).stop = s.stop ∧ (s.wrB f b).encs = s.encs ∧ (s.wrB f b).lgs = s.lgs ∧ (s.wrB f b).encouts = s.encouts ∧
    (s.wrB f b).probes = s.probes ∧ (s.wrB f b).mem = s.mem ∧ (s.wrB f b).darn = s.darn ∧ (s.wrB f b).gates = s.gates ∧
    (s.wrB f b).rinses = s.rinses ∧ (s.wrB f b).lanes = s.lanes ∧ (s.wrB f b).camRx = s.camRx ∧
    (s.wrB f b).reports = s.reports ∧ (s.wrB f b).heads = s.heads ∧ (s.wrB f b).slices = s.slices ∧
    (s.wrB f b).flights = s.flights ∧ (s.wrB f b).hist = s.hist ∧ (s.wrB f b).cams = s.cams ∧ (s.wrB f b).iron = s.iron ∧
    (s.wrB f b).evd = s.evd ∧ (s.wrB f b).evid = s.evid ∧ (s.wrB f b).seqs = s.seqs ∧ (s.wrB f b).mismatches = s.mismatches ∧
    (s.wrB f b).verify = s.verify ∧ (s.wrB f b).life = s.life ∧ (s.wrB f b).lifeRem = s.lifeRem ∧ (s.wrB f b).jtag = s.jtag ∧
    (s.wrB f b).unitsBad = s.unitsBad ∧ (s.wrB f b).loops = s.loops ∧ (s.wrB f b).out = s.out ∧ (s.wrB f b).free = s.free ∧
    (s.wrB f b).pending = s.pending ∧ (∀ g, (s.wrB f b).cf g = s.cf g) := by
  and_intros <;> intros <;> rfl

@[simp] theorem add_frame (s : State) (f : Field) (n : Nat) :
    (s.add f n).time = s.time ∧ (s.add f n).pendw = s.pendw ∧ (s.add f n).hbm = s.hbm ∧ (s.add f n).flash = s.flash ∧
    (s.add f n).pow = s.pow ∧ (s.add f n).nvm = s.nvm ∧ (s.add f n).therm = s.therm ∧ (s.add f n).subs = s.subs ∧
    (s.add f n).held = s.held ∧ (s.add f n).fwds = s.fwds ∧ (s.add f n).followers = s.followers ∧ (s.add f n).conds = s.conds ∧
    (s.add f n).spans = s.spans ∧ (s.add f n).tbs = s.tbs ∧ (s.add f n).ptp = s.ptp ∧ (s.add f n).tps = s.tps ∧
    (s.add f n).ports = s.ports ∧ (s.add f n).conf = s.conf ∧ (s.add f n).pieces = s.pieces ∧ (s.add f n).ended = s.ended ∧
    (s.add f n).rejects = s.rejects ∧ (s.add f n).tgs = s.tgs ∧ (s.add f n).ring = s.ring ∧ (s.add f n).windows = s.windows ∧
    (s.add f n).dma = s.dma ∧ (s.add f n).dx = s.dx ∧ (s.add f n).keys = s.keys ∧ (s.add f n).cx = s.cx ∧
    (s.add f n).stop = s.stop ∧ (s.add f n).encs = s.encs ∧ (s.add f n).lgs = s.lgs ∧ (s.add f n).encouts = s.encouts ∧
    (s.add f n).probes = s.probes ∧ (s.add f n).mem = s.mem ∧ (s.add f n).darn = s.darn ∧ (s.add f n).gates = s.gates ∧
    (s.add f n).rinses = s.rinses ∧ (s.add f n).lanes = s.lanes ∧ (s.add f n).camRx = s.camRx ∧
    (s.add f n).reports = s.reports ∧ (s.add f n).heads = s.heads ∧ (s.add f n).slices = s.slices ∧
    (s.add f n).flights = s.flights ∧ (s.add f n).hist = s.hist ∧ (s.add f n).cams = s.cams ∧ (s.add f n).iron = s.iron ∧
    (s.add f n).evd = s.evd ∧ (s.add f n).evid = s.evid ∧ (s.add f n).seqs = s.seqs ∧ (s.add f n).mismatches = s.mismatches ∧
    (s.add f n).verify = s.verify ∧ (s.add f n).life = s.life ∧ (s.add f n).lifeRem = s.lifeRem ∧ (s.add f n).jtag = s.jtag ∧
    (s.add f n).unitsBad = s.unitsBad ∧ (s.add f n).loops = s.loops ∧ (s.add f n).out = s.out ∧ (s.add f n).free = s.free ∧
    (s.add f n).pending = s.pending ∧ (∀ g, (s.add f n).cf g = s.cf g) := by
  and_intros <;> intros <;> rfl

@[simp] theorem addSat_frame (s : State) (f : Field) (n : Nat) :
    (s.addSat f n).time = s.time ∧ (s.addSat f n).pendw = s.pendw ∧ (s.addSat f n).hbm = s.hbm ∧
    (s.addSat f n).flash = s.flash ∧ (s.addSat f n).pow = s.pow ∧ (s.addSat f n).nvm = s.nvm ∧ (s.addSat f n).therm = s.therm ∧
    (s.addSat f n).subs = s.subs ∧ (s.addSat f n).held = s.held ∧ (s.addSat f n).fwds = s.fwds ∧
    (s.addSat f n).followers = s.followers ∧ (s.addSat f n).conds = s.conds ∧ (s.addSat f n).spans = s.spans ∧
    (s.addSat f n).tbs = s.tbs ∧ (s.addSat f n).ptp = s.ptp ∧ (s.addSat f n).tps = s.tps ∧ (s.addSat f n).ports = s.ports ∧
    (s.addSat f n).conf = s.conf ∧ (s.addSat f n).pieces = s.pieces ∧ (s.addSat f n).ended = s.ended ∧
    (s.addSat f n).rejects = s.rejects ∧ (s.addSat f n).tgs = s.tgs ∧ (s.addSat f n).ring = s.ring ∧
    (s.addSat f n).windows = s.windows ∧ (s.addSat f n).dma = s.dma ∧ (s.addSat f n).dx = s.dx ∧ (s.addSat f n).keys = s.keys ∧
    (s.addSat f n).cx = s.cx ∧ (s.addSat f n).stop = s.stop ∧ (s.addSat f n).encs = s.encs ∧ (s.addSat f n).lgs = s.lgs ∧
    (s.addSat f n).encouts = s.encouts ∧ (s.addSat f n).probes = s.probes ∧ (s.addSat f n).mem = s.mem ∧
    (s.addSat f n).darn = s.darn ∧ (s.addSat f n).gates = s.gates ∧ (s.addSat f n).rinses = s.rinses ∧
    (s.addSat f n).lanes = s.lanes ∧ (s.addSat f n).camRx = s.camRx ∧ (s.addSat f n).reports = s.reports ∧
    (s.addSat f n).heads = s.heads ∧ (s.addSat f n).slices = s.slices ∧ (s.addSat f n).flights = s.flights ∧
    (s.addSat f n).hist = s.hist ∧ (s.addSat f n).cams = s.cams ∧ (s.addSat f n).iron = s.iron ∧ (s.addSat f n).evd = s.evd ∧
    (s.addSat f n).evid = s.evid ∧ (s.addSat f n).seqs = s.seqs ∧ (s.addSat f n).mismatches = s.mismatches ∧
    (s.addSat f n).verify = s.verify ∧ (s.addSat f n).life = s.life ∧ (s.addSat f n).lifeRem = s.lifeRem ∧
    (s.addSat f n).jtag = s.jtag ∧ (s.addSat f n).unitsBad = s.unitsBad ∧ (s.addSat f n).loops = s.loops ∧
    (s.addSat f n).out = s.out ∧ (s.addSat f n).free = s.free ∧ (s.addSat f n).pending = s.pending ∧
    (∀ g, (s.addSat f n).cf g = s.cf g) := by
  and_intros <;> intros <;> rfl

@[simp] theorem inc_frame (s : State) (f : Field) :
    (s.inc f).time = s.time ∧ (s.inc f).pendw = s.pendw ∧ (s.inc f).hbm = s.hbm ∧ (s.inc f).flash = s.flash ∧
    (s.inc f).pow = s.pow ∧ (s.inc f).nvm = s.nvm ∧ (s.inc f).therm = s.therm ∧ (s.inc f).subs = s.subs ∧
    (s.inc f).held = s.held ∧ (s.inc f).fwds = s.fwds ∧ (s.inc f).followers = s.followers ∧ (s.inc f).conds = s.conds ∧
    (s.inc f).spans = s.spans ∧ (s.inc f).tbs = s.tbs ∧ (s.inc f).ptp = s.ptp ∧ (s.inc f).tps = s.tps ∧
    (s.inc f).ports = s.ports ∧ (s.inc f).conf = s.conf ∧ (s.inc f).pieces = s.pieces ∧ (s.inc f).ended = s.ended ∧
    (s.inc f).rejects = s.rejects ∧ (s.inc f).tgs = s.tgs ∧ (s.inc f).ring = s.ring ∧ (s.inc f).windows = s.windows ∧
    (s.inc f).dma = s.dma ∧ (s.inc f).dx = s.dx ∧ (s.inc f).keys = s.keys ∧ (s.inc f).cx = s.cx ∧ (s.inc f).stop = s.stop ∧
    (s.inc f).encs = s.encs ∧ (s.inc f).lgs = s.lgs ∧ (s.inc f).encouts = s.encouts ∧ (s.inc f).probes = s.probes ∧
    (s.inc f).mem = s.mem ∧ (s.inc f).darn = s.darn ∧ (s.inc f).gates = s.gates ∧ (s.inc f).rinses = s.rinses ∧
    (s.inc f).lanes = s.lanes ∧ (s.inc f).camRx = s.camRx ∧ (s.inc f).reports = s.reports ∧ (s.inc f).heads = s.heads ∧
    (s.inc f).slices = s.slices ∧ (s.inc f).flights = s.flights ∧ (s.inc f).hist = s.hist ∧ (s.inc f).cams = s.cams ∧
    (s.inc f).iron = s.iron ∧ (s.inc f).evd = s.evd ∧ (s.inc f).evid = s.evid ∧ (s.inc f).seqs = s.seqs ∧
    (s.inc f).mismatches = s.mismatches ∧ (s.inc f).verify = s.verify ∧ (s.inc f).life = s.life ∧
    (s.inc f).lifeRem = s.lifeRem ∧ (s.inc f).jtag = s.jtag ∧ (s.inc f).unitsBad = s.unitsBad ∧ (s.inc f).loops = s.loops ∧
    (s.inc f).out = s.out ∧ (s.inc f).free = s.free ∧ (s.inc f).pending = s.pending ∧ (∀ g, (s.inc f).cf g = s.cf g) := by
  and_intros <;> intros <;> rfl

@[simp] theorem wrW_frame (s : State) (lo hi : Field) (v : Nat) :
    (s.wrW lo hi v).time = s.time ∧ (s.wrW lo hi v).pendw = s.pendw ∧ (s.wrW lo hi v).hbm = s.hbm ∧
    (s.wrW lo hi v).flash = s.flash ∧ (s.wrW lo hi v).pow = s.pow ∧ (s.wrW lo hi v).nvm = s.nvm ∧
    (s.wrW lo hi v).therm = s.therm ∧ (s.wrW lo hi v).subs = s.subs ∧ (s.wrW lo hi v).held = s.held ∧
    (s.wrW lo hi v).fwds = s.fwds ∧ (s.wrW lo hi v).followers = s.followers ∧ (s.wrW lo hi v).conds = s.conds ∧
    (s.wrW lo hi v).spans = s.spans ∧ (s.wrW lo hi v).tbs = s.tbs ∧ (s.wrW lo hi v).ptp = s.ptp ∧ (s.wrW lo hi v).tps = s.tps ∧
    (s.wrW lo hi v).ports = s.ports ∧ (s.wrW lo hi v).conf = s.conf ∧ (s.wrW lo hi v).pieces = s.pieces ∧
    (s.wrW lo hi v).ended = s.ended ∧ (s.wrW lo hi v).rejects = s.rejects ∧ (s.wrW lo hi v).tgs = s.tgs ∧
    (s.wrW lo hi v).ring = s.ring ∧ (s.wrW lo hi v).windows = s.windows ∧ (s.wrW lo hi v).dma = s.dma ∧
    (s.wrW lo hi v).dx = s.dx ∧ (s.wrW lo hi v).keys = s.keys ∧ (s.wrW lo hi v).cx = s.cx ∧ (s.wrW lo hi v).stop = s.stop ∧
    (s.wrW lo hi v).encs = s.encs ∧ (s.wrW lo hi v).lgs = s.lgs ∧ (s.wrW lo hi v).encouts = s.encouts ∧
    (s.wrW lo hi v).probes = s.probes ∧ (s.wrW lo hi v).mem = s.mem ∧ (s.wrW lo hi v).darn = s.darn ∧
    (s.wrW lo hi v).gates = s.gates ∧ (s.wrW lo hi v).rinses = s.rinses ∧ (s.wrW lo hi v).lanes = s.lanes ∧
    (s.wrW lo hi v).camRx = s.camRx ∧ (s.wrW lo hi v).reports = s.reports ∧ (s.wrW lo hi v).heads = s.heads ∧
    (s.wrW lo hi v).slices = s.slices ∧ (s.wrW lo hi v).flights = s.flights ∧ (s.wrW lo hi v).hist = s.hist ∧
    (s.wrW lo hi v).cams = s.cams ∧ (s.wrW lo hi v).iron = s.iron ∧ (s.wrW lo hi v).evd = s.evd ∧
    (s.wrW lo hi v).evid = s.evid ∧ (s.wrW lo hi v).seqs = s.seqs ∧ (s.wrW lo hi v).mismatches = s.mismatches ∧
    (s.wrW lo hi v).verify = s.verify ∧ (s.wrW lo hi v).life = s.life ∧ (s.wrW lo hi v).lifeRem = s.lifeRem ∧
    (s.wrW lo hi v).jtag = s.jtag ∧ (s.wrW lo hi v).unitsBad = s.unitsBad ∧ (s.wrW lo hi v).loops = s.loops ∧
    (s.wrW lo hi v).out = s.out ∧ (s.wrW lo hi v).free = s.free ∧ (s.wrW lo hi v).pending = s.pending ∧
    (∀ g, (s.wrW lo hi v).cf g = s.cf g) := by
  and_intros <;> intros <;> rfl

@[simp] theorem setPend_frame (s : State) (a : Nat) (w : Word) :
    (s.setPend a w).time = s.time ∧ (s.setPend a w).regs = s.regs ∧ (s.setPend a w).hbm = s.hbm ∧
    (s.setPend a w).flash = s.flash ∧ (s.setPend a w).pow = s.pow ∧ (s.setPend a w).nvm = s.nvm ∧
    (s.setPend a w).therm = s.therm ∧ (s.setPend a w).subs = s.subs ∧ (s.setPend a w).held = s.held ∧
    (s.setPend a w).fwds = s.fwds ∧ (s.setPend a w).followers = s.followers ∧ (s.setPend a w).conds = s.conds ∧
    (s.setPend a w).spans = s.spans ∧ (s.setPend a w).tbs = s.tbs ∧ (s.setPend a w).ptp = s.ptp ∧ (s.setPend a w).tps = s.tps ∧
    (s.setPend a w).ports = s.ports ∧ (s.setPend a w).conf = s.conf ∧ (s.setPend a w).pieces = s.pieces ∧
    (s.setPend a w).ended = s.ended ∧ (s.setPend a w).rejects = s.rejects ∧ (s.setPend a w).tgs = s.tgs ∧
    (s.setPend a w).ring = s.ring ∧ (s.setPend a w).windows = s.windows ∧ (s.setPend a w).dma = s.dma ∧
    (s.setPend a w).dx = s.dx ∧ (s.setPend a w).keys = s.keys ∧ (s.setPend a w).cx = s.cx ∧ (s.setPend a w).stop = s.stop ∧
    (s.setPend a w).encs = s.encs ∧ (s.setPend a w).lgs = s.lgs ∧ (s.setPend a w).encouts = s.encouts ∧
    (s.setPend a w).probes = s.probes ∧ (s.setPend a w).mem = s.mem ∧ (s.setPend a w).darn = s.darn ∧
    (s.setPend a w).gates = s.gates ∧ (s.setPend a w).rinses = s.rinses ∧ (s.setPend a w).lanes = s.lanes ∧
    (s.setPend a w).camRx = s.camRx ∧ (s.setPend a w).reports = s.reports ∧ (s.setPend a w).heads = s.heads ∧
    (s.setPend a w).slices = s.slices ∧ (s.setPend a w).flights = s.flights ∧ (s.setPend a w).hist = s.hist ∧
    (s.setPend a w).cams = s.cams ∧ (s.setPend a w).iron = s.iron ∧ (s.setPend a w).evd = s.evd ∧
    (s.setPend a w).evid = s.evid ∧ (s.setPend a w).seqs = s.seqs ∧ (s.setPend a w).mismatches = s.mismatches ∧
    (s.setPend a w).verify = s.verify ∧ (s.setPend a w).life = s.life ∧ (s.setPend a w).lifeRem = s.lifeRem ∧
    (s.setPend a w).jtag = s.jtag ∧ (s.setPend a w).unitsBad = s.unitsBad ∧ (s.setPend a w).loops = s.loops ∧
    (s.setPend a w).out = s.out ∧ (s.setPend a w).free = s.free ∧ (s.setPend a w).pending = s.pending ∧
    (∀ a, (s.setPend a w).word a = s.word a) ∧ (∀ g, (s.setPend a w).rd g = s.rd g) ∧
    (∀ g, (s.setPend a w).flag g = s.flag g) ∧ (∀ g, (s.setPend a w).rdI g = s.rdI g) ∧ (∀ g, (s.setPend a w).cf g = s.cf g) := by
  and_intros <;> intros <;> rfl

@[simp] theorem drawn_frame (s : State) :
    (s.drawn).time = s.time ∧ (s.drawn).regs = s.regs ∧ (s.drawn).pendw = s.pendw ∧ (s.drawn).hbm = s.hbm ∧
    (s.drawn).flash = s.flash ∧ (s.drawn).pow = s.pow ∧ (s.drawn).nvm = s.nvm ∧ (s.drawn).therm = s.therm ∧
    (s.drawn).subs = s.subs ∧ (s.drawn).held = s.held ∧ (s.drawn).fwds = s.fwds ∧ (s.drawn).followers = s.followers ∧
    (s.drawn).conds = s.conds ∧ (s.drawn).spans = s.spans ∧ (s.drawn).tbs = s.tbs ∧ (s.drawn).ptp = s.ptp ∧
    (s.drawn).tps = s.tps ∧ (s.drawn).ports = s.ports ∧ (s.drawn).conf = s.conf ∧ (s.drawn).pieces = s.pieces ∧
    (s.drawn).ended = s.ended ∧ (s.drawn).rejects = s.rejects ∧ (s.drawn).tgs = s.tgs ∧ (s.drawn).ring = s.ring ∧
    (s.drawn).windows = s.windows ∧ (s.drawn).dma = s.dma ∧ (s.drawn).dx = s.dx ∧ (s.drawn).keys = s.keys ∧
    (s.drawn).cx = s.cx ∧ (s.drawn).stop = s.stop ∧ (s.drawn).encs = s.encs ∧ (s.drawn).lgs = s.lgs ∧
    (s.drawn).encouts = s.encouts ∧ (s.drawn).probes = s.probes ∧ (s.drawn).mem = s.mem ∧ (s.drawn).darn = s.darn ∧
    (s.drawn).gates = s.gates ∧ (s.drawn).rinses = s.rinses ∧ (s.drawn).lanes = s.lanes ∧ (s.drawn).camRx = s.camRx ∧
    (s.drawn).reports = s.reports ∧ (s.drawn).heads = s.heads ∧ (s.drawn).slices = s.slices ∧ (s.drawn).flights = s.flights ∧
    (s.drawn).hist = s.hist ∧ (s.drawn).cams = s.cams ∧ (s.drawn).iron = s.iron ∧ (s.drawn).evd = s.evd ∧
    (s.drawn).evid = s.evid ∧ (s.drawn).seqs = s.seqs ∧ (s.drawn).mismatches = s.mismatches ∧ (s.drawn).verify = s.verify ∧
    (s.drawn).life = s.life ∧ (s.drawn).lifeRem = s.lifeRem ∧ (s.drawn).jtag = s.jtag ∧ (s.drawn).unitsBad = s.unitsBad ∧
    (s.drawn).loops = s.loops ∧ (s.drawn).out = s.out ∧ (s.drawn).pending = s.pending ∧ (∀ a, (s.drawn).word a = s.word a) ∧
    (∀ g, (s.drawn).rd g = s.rd g) ∧ (∀ g, (s.drawn).flag g = s.flag g) ∧ (∀ g, (s.drawn).rdI g = s.rdI g) ∧
    (∀ g, (s.drawn).cf g = s.cf g) := by
  and_intros <;> intros <;> rfl

@[simp] theorem emit_frame (s : State) (o : Output) :
    (s.emit o).time = s.time ∧ (s.emit o).regs = s.regs ∧ (s.emit o).pendw = s.pendw ∧ (s.emit o).hbm = s.hbm ∧
    (s.emit o).flash = s.flash ∧ (s.emit o).pow = s.pow ∧ (s.emit o).nvm = s.nvm ∧ (s.emit o).therm = s.therm ∧
    (s.emit o).subs = s.subs ∧ (s.emit o).held = s.held ∧ (s.emit o).fwds = s.fwds ∧ (s.emit o).followers = s.followers ∧
    (s.emit o).conds = s.conds ∧ (s.emit o).spans = s.spans ∧ (s.emit o).tbs = s.tbs ∧ (s.emit o).ptp = s.ptp ∧
    (s.emit o).tps = s.tps ∧ (s.emit o).ports = s.ports ∧ (s.emit o).conf = s.conf ∧ (s.emit o).pieces = s.pieces ∧
    (s.emit o).ended = s.ended ∧ (s.emit o).rejects = s.rejects ∧ (s.emit o).tgs = s.tgs ∧ (s.emit o).ring = s.ring ∧
    (s.emit o).windows = s.windows ∧ (s.emit o).dma = s.dma ∧ (s.emit o).dx = s.dx ∧ (s.emit o).keys = s.keys ∧
    (s.emit o).cx = s.cx ∧ (s.emit o).stop = s.stop ∧ (s.emit o).encs = s.encs ∧ (s.emit o).lgs = s.lgs ∧
    (s.emit o).encouts = s.encouts ∧ (s.emit o).probes = s.probes ∧ (s.emit o).mem = s.mem ∧ (s.emit o).darn = s.darn ∧
    (s.emit o).gates = s.gates ∧ (s.emit o).rinses = s.rinses ∧ (s.emit o).lanes = s.lanes ∧ (s.emit o).camRx = s.camRx ∧
    (s.emit o).reports = s.reports ∧ (s.emit o).heads = s.heads ∧ (s.emit o).slices = s.slices ∧
    (s.emit o).flights = s.flights ∧ (s.emit o).hist = s.hist ∧ (s.emit o).cams = s.cams ∧ (s.emit o).iron = s.iron ∧
    (s.emit o).evd = s.evd ∧ (s.emit o).evid = s.evid ∧ (s.emit o).seqs = s.seqs ∧ (s.emit o).mismatches = s.mismatches ∧
    (s.emit o).verify = s.verify ∧ (s.emit o).life = s.life ∧ (s.emit o).lifeRem = s.lifeRem ∧ (s.emit o).jtag = s.jtag ∧
    (s.emit o).unitsBad = s.unitsBad ∧ (s.emit o).loops = s.loops ∧ (s.emit o).free = s.free ∧ (s.emit o).pending = s.pending ∧
    (∀ a, (s.emit o).word a = s.word a) ∧ (∀ g, (s.emit o).rd g = s.rd g) ∧ (∀ g, (s.emit o).flag g = s.flag g) ∧
    (∀ g, (s.emit o).rdI g = s.rdI g) ∧ (∀ g, (s.emit o).cf g = s.cf g) := by
  and_intros <;> intros <;> rfl

@[simp] theorem busy_frame (s : State) :
    (s.busy).time = s.time ∧ (s.busy).regs = s.regs ∧ (s.busy).pendw = s.pendw ∧ (s.busy).hbm = s.hbm ∧
    (s.busy).flash = s.flash ∧ (s.busy).nvm = s.nvm ∧ (s.busy).therm = s.therm ∧ (s.busy).subs = s.subs ∧
    (s.busy).held = s.held ∧ (s.busy).fwds = s.fwds ∧ (s.busy).followers = s.followers ∧ (s.busy).conds = s.conds ∧
    (s.busy).spans = s.spans ∧ (s.busy).tbs = s.tbs ∧ (s.busy).ptp = s.ptp ∧ (s.busy).tps = s.tps ∧ (s.busy).ports = s.ports ∧
    (s.busy).conf = s.conf ∧ (s.busy).pieces = s.pieces ∧ (s.busy).ended = s.ended ∧ (s.busy).rejects = s.rejects ∧
    (s.busy).tgs = s.tgs ∧ (s.busy).ring = s.ring ∧ (s.busy).windows = s.windows ∧ (s.busy).dma = s.dma ∧ (s.busy).dx = s.dx ∧
    (s.busy).keys = s.keys ∧ (s.busy).cx = s.cx ∧ (s.busy).stop = s.stop ∧ (s.busy).encs = s.encs ∧ (s.busy).lgs = s.lgs ∧
    (s.busy).encouts = s.encouts ∧ (s.busy).probes = s.probes ∧ (s.busy).mem = s.mem ∧ (s.busy).darn = s.darn ∧
    (s.busy).gates = s.gates ∧ (s.busy).rinses = s.rinses ∧ (s.busy).lanes = s.lanes ∧ (s.busy).camRx = s.camRx ∧
    (s.busy).reports = s.reports ∧ (s.busy).heads = s.heads ∧ (s.busy).slices = s.slices ∧ (s.busy).flights = s.flights ∧
    (s.busy).hist = s.hist ∧ (s.busy).cams = s.cams ∧ (s.busy).iron = s.iron ∧ (s.busy).evd = s.evd ∧ (s.busy).evid = s.evid ∧
    (s.busy).seqs = s.seqs ∧ (s.busy).mismatches = s.mismatches ∧ (s.busy).verify = s.verify ∧ (s.busy).life = s.life ∧
    (s.busy).lifeRem = s.lifeRem ∧ (s.busy).jtag = s.jtag ∧ (s.busy).unitsBad = s.unitsBad ∧ (s.busy).loops = s.loops ∧
    (s.busy).out = s.out ∧ (s.busy).free = s.free ∧ (s.busy).pending = s.pending ∧ (∀ a, (s.busy).word a = s.word a) ∧
    (∀ g, (s.busy).rd g = s.rd g) ∧ (∀ g, (s.busy).flag g = s.flag g) ∧ (∀ g, (s.busy).rdI g = s.rdI g) ∧
    (∀ g, (s.busy).cf g = s.cf g) := by
  and_intros <;> intros <;> rfl

@[simp] theorem lifeAdd_frame (s : State) (off width n : Nat) :
    (s.lifeAdd off width n).time = s.time ∧ (s.lifeAdd off width n).regs = s.regs ∧ (s.lifeAdd off width n).pendw = s.pendw ∧
    (s.lifeAdd off width n).hbm = s.hbm ∧ (s.lifeAdd off width n).flash = s.flash ∧ (s.lifeAdd off width n).pow = s.pow ∧
    (s.lifeAdd off width n).nvm = s.nvm ∧ (s.lifeAdd off width n).therm = s.therm ∧ (s.lifeAdd off width n).subs = s.subs ∧
    (s.lifeAdd off width n).held = s.held ∧ (s.lifeAdd off width n).fwds = s.fwds ∧
    (s.lifeAdd off width n).followers = s.followers ∧ (s.lifeAdd off width n).conds = s.conds ∧
    (s.lifeAdd off width n).spans = s.spans ∧ (s.lifeAdd off width n).tbs = s.tbs ∧ (s.lifeAdd off width n).ptp = s.ptp ∧
    (s.lifeAdd off width n).tps = s.tps ∧ (s.lifeAdd off width n).ports = s.ports ∧ (s.lifeAdd off width n).conf = s.conf ∧
    (s.lifeAdd off width n).pieces = s.pieces ∧ (s.lifeAdd off width n).ended = s.ended ∧
    (s.lifeAdd off width n).rejects = s.rejects ∧ (s.lifeAdd off width n).tgs = s.tgs ∧ (s.lifeAdd off width n).ring = s.ring ∧
    (s.lifeAdd off width n).windows = s.windows ∧ (s.lifeAdd off width n).dma = s.dma ∧ (s.lifeAdd off width n).dx = s.dx ∧
    (s.lifeAdd off width n).keys = s.keys ∧ (s.lifeAdd off width n).cx = s.cx ∧ (s.lifeAdd off width n).stop = s.stop ∧
    (s.lifeAdd off width n).encs = s.encs ∧ (s.lifeAdd off width n).lgs = s.lgs ∧ (s.lifeAdd off width n).encouts = s.encouts ∧
    (s.lifeAdd off width n).probes = s.probes ∧ (s.lifeAdd off width n).mem = s.mem ∧ (s.lifeAdd off width n).darn = s.darn ∧
    (s.lifeAdd off width n).gates = s.gates ∧ (s.lifeAdd off width n).rinses = s.rinses ∧
    (s.lifeAdd off width n).lanes = s.lanes ∧ (s.lifeAdd off width n).camRx = s.camRx ∧
    (s.lifeAdd off width n).reports = s.reports ∧ (s.lifeAdd off width n).heads = s.heads ∧
    (s.lifeAdd off width n).slices = s.slices ∧ (s.lifeAdd off width n).flights = s.flights ∧
    (s.lifeAdd off width n).hist = s.hist ∧ (s.lifeAdd off width n).cams = s.cams ∧ (s.lifeAdd off width n).iron = s.iron ∧
    (s.lifeAdd off width n).evd = s.evd ∧ (s.lifeAdd off width n).evid = s.evid ∧ (s.lifeAdd off width n).seqs = s.seqs ∧
    (s.lifeAdd off width n).mismatches = s.mismatches ∧ (s.lifeAdd off width n).verify = s.verify ∧
    (s.lifeAdd off width n).lifeRem = s.lifeRem ∧ (s.lifeAdd off width n).jtag = s.jtag ∧
    (s.lifeAdd off width n).unitsBad = s.unitsBad ∧ (s.lifeAdd off width n).loops = s.loops ∧
    (s.lifeAdd off width n).out = s.out ∧ (s.lifeAdd off width n).free = s.free ∧ (s.lifeAdd off width n).pending = s.pending ∧
    (∀ a, (s.lifeAdd off width n).word a = s.word a) ∧ (∀ g, (s.lifeAdd off width n).rd g = s.rd g) ∧
    (∀ g, (s.lifeAdd off width n).flag g = s.flag g) ∧ (∀ g, (s.lifeAdd off width n).rdI g = s.rdI g) ∧
    (∀ g, (s.lifeAdd off width n).cf g = s.cf g) := by
  and_intros <;> intros <;> rfl

@[simp] theorem lifeMax_frame (s : State) (off n : Nat) :
    (s.lifeMax off n).time = s.time ∧ (s.lifeMax off n).regs = s.regs ∧ (s.lifeMax off n).pendw = s.pendw ∧
    (s.lifeMax off n).hbm = s.hbm ∧ (s.lifeMax off n).flash = s.flash ∧ (s.lifeMax off n).pow = s.pow ∧
    (s.lifeMax off n).nvm = s.nvm ∧ (s.lifeMax off n).therm = s.therm ∧ (s.lifeMax off n).subs = s.subs ∧
    (s.lifeMax off n).held = s.held ∧ (s.lifeMax off n).fwds = s.fwds ∧ (s.lifeMax off n).followers = s.followers ∧
    (s.lifeMax off n).conds = s.conds ∧ (s.lifeMax off n).spans = s.spans ∧ (s.lifeMax off n).tbs = s.tbs ∧
    (s.lifeMax off n).ptp = s.ptp ∧ (s.lifeMax off n).tps = s.tps ∧ (s.lifeMax off n).ports = s.ports ∧
    (s.lifeMax off n).conf = s.conf ∧ (s.lifeMax off n).pieces = s.pieces ∧ (s.lifeMax off n).ended = s.ended ∧
    (s.lifeMax off n).rejects = s.rejects ∧ (s.lifeMax off n).tgs = s.tgs ∧ (s.lifeMax off n).ring = s.ring ∧
    (s.lifeMax off n).windows = s.windows ∧ (s.lifeMax off n).dma = s.dma ∧ (s.lifeMax off n).dx = s.dx ∧
    (s.lifeMax off n).keys = s.keys ∧ (s.lifeMax off n).cx = s.cx ∧ (s.lifeMax off n).stop = s.stop ∧
    (s.lifeMax off n).encs = s.encs ∧ (s.lifeMax off n).lgs = s.lgs ∧ (s.lifeMax off n).encouts = s.encouts ∧
    (s.lifeMax off n).probes = s.probes ∧ (s.lifeMax off n).mem = s.mem ∧ (s.lifeMax off n).darn = s.darn ∧
    (s.lifeMax off n).gates = s.gates ∧ (s.lifeMax off n).rinses = s.rinses ∧ (s.lifeMax off n).lanes = s.lanes ∧
    (s.lifeMax off n).camRx = s.camRx ∧ (s.lifeMax off n).reports = s.reports ∧ (s.lifeMax off n).heads = s.heads ∧
    (s.lifeMax off n).slices = s.slices ∧ (s.lifeMax off n).flights = s.flights ∧ (s.lifeMax off n).hist = s.hist ∧
    (s.lifeMax off n).cams = s.cams ∧ (s.lifeMax off n).iron = s.iron ∧ (s.lifeMax off n).evd = s.evd ∧
    (s.lifeMax off n).evid = s.evid ∧ (s.lifeMax off n).seqs = s.seqs ∧ (s.lifeMax off n).mismatches = s.mismatches ∧
    (s.lifeMax off n).verify = s.verify ∧ (s.lifeMax off n).lifeRem = s.lifeRem ∧ (s.lifeMax off n).jtag = s.jtag ∧
    (s.lifeMax off n).unitsBad = s.unitsBad ∧ (s.lifeMax off n).loops = s.loops ∧ (s.lifeMax off n).out = s.out ∧
    (s.lifeMax off n).free = s.free ∧ (s.lifeMax off n).pending = s.pending ∧ (∀ a, (s.lifeMax off n).word a = s.word a) ∧
    (∀ g, (s.lifeMax off n).rd g = s.rd g) ∧ (∀ g, (s.lifeMax off n).flag g = s.flag g) ∧
    (∀ g, (s.lifeMax off n).rdI g = s.rdI g) ∧ (∀ g, (s.lifeMax off n).cf g = s.cf g) := by
  and_intros <;> intros <;> rfl

@[simp] theorem onPort_frame (s : State) (np : Nat) (f : Port → Port) :
    (s.onPort np f).time = s.time ∧ (s.onPort np f).regs = s.regs ∧ (s.onPort np f).pendw = s.pendw ∧
    (s.onPort np f).hbm = s.hbm ∧ (s.onPort np f).flash = s.flash ∧ (s.onPort np f).pow = s.pow ∧ (s.onPort np f).nvm = s.nvm ∧
    (s.onPort np f).therm = s.therm ∧ (s.onPort np f).subs = s.subs ∧ (s.onPort np f).held = s.held ∧
    (s.onPort np f).fwds = s.fwds ∧ (s.onPort np f).followers = s.followers ∧ (s.onPort np f).conds = s.conds ∧
    (s.onPort np f).spans = s.spans ∧ (s.onPort np f).tbs = s.tbs ∧ (s.onPort np f).ptp = s.ptp ∧ (s.onPort np f).tps = s.tps ∧
    (s.onPort np f).conf = s.conf ∧ (s.onPort np f).pieces = s.pieces ∧ (s.onPort np f).ended = s.ended ∧
    (s.onPort np f).rejects = s.rejects ∧ (s.onPort np f).tgs = s.tgs ∧ (s.onPort np f).ring = s.ring ∧
    (s.onPort np f).windows = s.windows ∧ (s.onPort np f).dma = s.dma ∧ (s.onPort np f).dx = s.dx ∧
    (s.onPort np f).keys = s.keys ∧ (s.onPort np f).cx = s.cx ∧ (s.onPort np f).stop = s.stop ∧ (s.onPort np f).encs = s.encs ∧
    (s.onPort np f).lgs = s.lgs ∧ (s.onPort np f).encouts = s.encouts ∧ (s.onPort np f).probes = s.probes ∧
    (s.onPort np f).mem = s.mem ∧ (s.onPort np f).darn = s.darn ∧ (s.onPort np f).gates = s.gates ∧
    (s.onPort np f).rinses = s.rinses ∧ (s.onPort np f).lanes = s.lanes ∧ (s.onPort np f).camRx = s.camRx ∧
    (s.onPort np f).reports = s.reports ∧ (s.onPort np f).heads = s.heads ∧ (s.onPort np f).slices = s.slices ∧
    (s.onPort np f).flights = s.flights ∧ (s.onPort np f).hist = s.hist ∧ (s.onPort np f).cams = s.cams ∧
    (s.onPort np f).iron = s.iron ∧ (s.onPort np f).evd = s.evd ∧ (s.onPort np f).evid = s.evid ∧
    (s.onPort np f).seqs = s.seqs ∧ (s.onPort np f).mismatches = s.mismatches ∧ (s.onPort np f).verify = s.verify ∧
    (s.onPort np f).life = s.life ∧ (s.onPort np f).lifeRem = s.lifeRem ∧ (s.onPort np f).jtag = s.jtag ∧
    (s.onPort np f).unitsBad = s.unitsBad ∧ (s.onPort np f).loops = s.loops ∧ (s.onPort np f).out = s.out ∧
    (s.onPort np f).free = s.free ∧ (s.onPort np f).pending = s.pending ∧ (∀ a, (s.onPort np f).word a = s.word a) ∧
    (∀ g, (s.onPort np f).rd g = s.rd g) ∧ (∀ g, (s.onPort np f).flag g = s.flag g) ∧ (∀ g, (s.onPort np f).rdI g = s.rdI g) ∧
    (∀ g, (s.onPort np f).cf g = s.cf g) := by
  and_intros <;> intros <;> rfl

@[simp] theorem onSub_frame (s : State) (k : Nat) (f : Sub → Sub) :
    (s.onSub k f).time = s.time ∧ (s.onSub k f).regs = s.regs ∧ (s.onSub k f).pendw = s.pendw ∧ (s.onSub k f).hbm = s.hbm ∧
    (s.onSub k f).flash = s.flash ∧ (s.onSub k f).pow = s.pow ∧ (s.onSub k f).nvm = s.nvm ∧ (s.onSub k f).therm = s.therm ∧
    (s.onSub k f).held = s.held ∧ (s.onSub k f).fwds = s.fwds ∧ (s.onSub k f).followers = s.followers ∧
    (s.onSub k f).conds = s.conds ∧ (s.onSub k f).spans = s.spans ∧ (s.onSub k f).tbs = s.tbs ∧ (s.onSub k f).ptp = s.ptp ∧
    (s.onSub k f).tps = s.tps ∧ (s.onSub k f).ports = s.ports ∧ (s.onSub k f).conf = s.conf ∧ (s.onSub k f).pieces = s.pieces ∧
    (s.onSub k f).ended = s.ended ∧ (s.onSub k f).rejects = s.rejects ∧ (s.onSub k f).tgs = s.tgs ∧
    (s.onSub k f).ring = s.ring ∧ (s.onSub k f).windows = s.windows ∧ (s.onSub k f).dma = s.dma ∧ (s.onSub k f).dx = s.dx ∧
    (s.onSub k f).keys = s.keys ∧ (s.onSub k f).cx = s.cx ∧ (s.onSub k f).stop = s.stop ∧ (s.onSub k f).encs = s.encs ∧
    (s.onSub k f).lgs = s.lgs ∧ (s.onSub k f).encouts = s.encouts ∧ (s.onSub k f).probes = s.probes ∧
    (s.onSub k f).mem = s.mem ∧ (s.onSub k f).darn = s.darn ∧ (s.onSub k f).gates = s.gates ∧ (s.onSub k f).rinses = s.rinses ∧
    (s.onSub k f).lanes = s.lanes ∧ (s.onSub k f).camRx = s.camRx ∧ (s.onSub k f).reports = s.reports ∧
    (s.onSub k f).heads = s.heads ∧ (s.onSub k f).slices = s.slices ∧ (s.onSub k f).flights = s.flights ∧
    (s.onSub k f).hist = s.hist ∧ (s.onSub k f).cams = s.cams ∧ (s.onSub k f).iron = s.iron ∧ (s.onSub k f).evd = s.evd ∧
    (s.onSub k f).evid = s.evid ∧ (s.onSub k f).seqs = s.seqs ∧ (s.onSub k f).mismatches = s.mismatches ∧
    (s.onSub k f).verify = s.verify ∧ (s.onSub k f).life = s.life ∧ (s.onSub k f).lifeRem = s.lifeRem ∧
    (s.onSub k f).jtag = s.jtag ∧ (s.onSub k f).unitsBad = s.unitsBad ∧ (s.onSub k f).loops = s.loops ∧
    (s.onSub k f).out = s.out ∧ (s.onSub k f).free = s.free ∧ (s.onSub k f).pending = s.pending ∧
    (∀ a, (s.onSub k f).word a = s.word a) ∧ (∀ g, (s.onSub k f).rd g = s.rd g) ∧ (∀ g, (s.onSub k f).flag g = s.flag g) ∧
    (∀ g, (s.onSub k f).rdI g = s.rdI g) ∧ (∀ g, (s.onSub k f).cf g = s.cf g) := by
  and_intros <;> intros <;> rfl

@[simp] theorem hbmWrite_frame (s : State) (a : Nat) (bs : List Byte) :
    (s.hbmWrite a bs).time = s.time ∧ (s.hbmWrite a bs).regs = s.regs ∧ (s.hbmWrite a bs).pendw = s.pendw ∧
    (s.hbmWrite a bs).flash = s.flash ∧ (s.hbmWrite a bs).pow = s.pow ∧ (s.hbmWrite a bs).nvm = s.nvm ∧
    (s.hbmWrite a bs).therm = s.therm ∧ (s.hbmWrite a bs).subs = s.subs ∧ (s.hbmWrite a bs).held = s.held ∧
    (s.hbmWrite a bs).fwds = s.fwds ∧ (s.hbmWrite a bs).followers = s.followers ∧ (s.hbmWrite a bs).conds = s.conds ∧
    (s.hbmWrite a bs).spans = s.spans ∧ (s.hbmWrite a bs).tbs = s.tbs ∧ (s.hbmWrite a bs).ptp = s.ptp ∧
    (s.hbmWrite a bs).tps = s.tps ∧ (s.hbmWrite a bs).ports = s.ports ∧ (s.hbmWrite a bs).conf = s.conf ∧
    (s.hbmWrite a bs).pieces = s.pieces ∧ (s.hbmWrite a bs).ended = s.ended ∧ (s.hbmWrite a bs).rejects = s.rejects ∧
    (s.hbmWrite a bs).tgs = s.tgs ∧ (s.hbmWrite a bs).ring = s.ring ∧ (s.hbmWrite a bs).windows = s.windows ∧
    (s.hbmWrite a bs).dma = s.dma ∧ (s.hbmWrite a bs).dx = s.dx ∧ (s.hbmWrite a bs).keys = s.keys ∧
    (s.hbmWrite a bs).cx = s.cx ∧ (s.hbmWrite a bs).stop = s.stop ∧ (s.hbmWrite a bs).encs = s.encs ∧
    (s.hbmWrite a bs).lgs = s.lgs ∧ (s.hbmWrite a bs).encouts = s.encouts ∧ (s.hbmWrite a bs).probes = s.probes ∧
    (s.hbmWrite a bs).mem = s.mem ∧ (s.hbmWrite a bs).darn = s.darn ∧ (s.hbmWrite a bs).gates = s.gates ∧
    (s.hbmWrite a bs).rinses = s.rinses ∧ (s.hbmWrite a bs).lanes = s.lanes ∧ (s.hbmWrite a bs).camRx = s.camRx ∧
    (s.hbmWrite a bs).reports = s.reports ∧ (s.hbmWrite a bs).heads = s.heads ∧ (s.hbmWrite a bs).slices = s.slices ∧
    (s.hbmWrite a bs).flights = s.flights ∧ (s.hbmWrite a bs).hist = s.hist ∧ (s.hbmWrite a bs).cams = s.cams ∧
    (s.hbmWrite a bs).iron = s.iron ∧ (s.hbmWrite a bs).evd = s.evd ∧ (s.hbmWrite a bs).evid = s.evid ∧
    (s.hbmWrite a bs).seqs = s.seqs ∧ (s.hbmWrite a bs).mismatches = s.mismatches ∧ (s.hbmWrite a bs).verify = s.verify ∧
    (s.hbmWrite a bs).life = s.life ∧ (s.hbmWrite a bs).lifeRem = s.lifeRem ∧ (s.hbmWrite a bs).jtag = s.jtag ∧
    (s.hbmWrite a bs).unitsBad = s.unitsBad ∧ (s.hbmWrite a bs).loops = s.loops ∧ (s.hbmWrite a bs).out = s.out ∧
    (s.hbmWrite a bs).free = s.free ∧ (s.hbmWrite a bs).pending = s.pending ∧ (∀ a, (s.hbmWrite a bs).word a = s.word a) ∧
    (∀ g, (s.hbmWrite a bs).rd g = s.rd g) ∧ (∀ g, (s.hbmWrite a bs).flag g = s.flag g) ∧
    (∀ g, (s.hbmWrite a bs).rdI g = s.rdI g) ∧ (∀ g, (s.hbmWrite a bs).cf g = s.cf g) := by
  and_intros <;> intros <;> rfl

@[simp] theorem flashProgram_frame (s : State) (a : Nat) (bs : List Byte) :
    (s.flashProgram a bs).time = s.time ∧ (s.flashProgram a bs).regs = s.regs ∧ (s.flashProgram a bs).pendw = s.pendw ∧
    (s.flashProgram a bs).hbm = s.hbm ∧ (s.flashProgram a bs).pow = s.pow ∧ (s.flashProgram a bs).nvm = s.nvm ∧
    (s.flashProgram a bs).therm = s.therm ∧ (s.flashProgram a bs).subs = s.subs ∧ (s.flashProgram a bs).held = s.held ∧
    (s.flashProgram a bs).fwds = s.fwds ∧ (s.flashProgram a bs).followers = s.followers ∧
    (s.flashProgram a bs).conds = s.conds ∧ (s.flashProgram a bs).spans = s.spans ∧ (s.flashProgram a bs).tbs = s.tbs ∧
    (s.flashProgram a bs).ptp = s.ptp ∧ (s.flashProgram a bs).tps = s.tps ∧ (s.flashProgram a bs).ports = s.ports ∧
    (s.flashProgram a bs).conf = s.conf ∧ (s.flashProgram a bs).pieces = s.pieces ∧ (s.flashProgram a bs).ended = s.ended ∧
    (s.flashProgram a bs).rejects = s.rejects ∧ (s.flashProgram a bs).tgs = s.tgs ∧ (s.flashProgram a bs).ring = s.ring ∧
    (s.flashProgram a bs).windows = s.windows ∧ (s.flashProgram a bs).dma = s.dma ∧ (s.flashProgram a bs).dx = s.dx ∧
    (s.flashProgram a bs).keys = s.keys ∧ (s.flashProgram a bs).cx = s.cx ∧ (s.flashProgram a bs).stop = s.stop ∧
    (s.flashProgram a bs).encs = s.encs ∧ (s.flashProgram a bs).lgs = s.lgs ∧ (s.flashProgram a bs).encouts = s.encouts ∧
    (s.flashProgram a bs).probes = s.probes ∧ (s.flashProgram a bs).mem = s.mem ∧ (s.flashProgram a bs).darn = s.darn ∧
    (s.flashProgram a bs).gates = s.gates ∧ (s.flashProgram a bs).rinses = s.rinses ∧ (s.flashProgram a bs).lanes = s.lanes ∧
    (s.flashProgram a bs).camRx = s.camRx ∧ (s.flashProgram a bs).reports = s.reports ∧ (s.flashProgram a bs).heads = s.heads ∧
    (s.flashProgram a bs).slices = s.slices ∧ (s.flashProgram a bs).flights = s.flights ∧ (s.flashProgram a bs).hist = s.hist ∧
    (s.flashProgram a bs).cams = s.cams ∧ (s.flashProgram a bs).iron = s.iron ∧ (s.flashProgram a bs).evd = s.evd ∧
    (s.flashProgram a bs).evid = s.evid ∧ (s.flashProgram a bs).seqs = s.seqs ∧
    (s.flashProgram a bs).mismatches = s.mismatches ∧ (s.flashProgram a bs).verify = s.verify ∧
    (s.flashProgram a bs).life = s.life ∧ (s.flashProgram a bs).lifeRem = s.lifeRem ∧ (s.flashProgram a bs).jtag = s.jtag ∧
    (s.flashProgram a bs).unitsBad = s.unitsBad ∧ (s.flashProgram a bs).loops = s.loops ∧ (s.flashProgram a bs).out = s.out ∧
    (s.flashProgram a bs).free = s.free ∧ (s.flashProgram a bs).pending = s.pending ∧
    (∀ a, (s.flashProgram a bs).word a = s.word a) ∧ (∀ g, (s.flashProgram a bs).rd g = s.rd g) ∧
    (∀ g, (s.flashProgram a bs).flag g = s.flag g) ∧ (∀ g, (s.flashProgram a bs).rdI g = s.rdI g) ∧
    (∀ g, (s.flashProgram a bs).cf g = s.cf g) := by
  and_intros <;> intros <;> rfl

@[simp] theorem flashErase_frame (s : State) (a b : Nat) :
    (s.flashErase a b).time = s.time ∧ (s.flashErase a b).regs = s.regs ∧ (s.flashErase a b).pendw = s.pendw ∧
    (s.flashErase a b).hbm = s.hbm ∧ (s.flashErase a b).pow = s.pow ∧ (s.flashErase a b).nvm = s.nvm ∧
    (s.flashErase a b).therm = s.therm ∧ (s.flashErase a b).subs = s.subs ∧ (s.flashErase a b).held = s.held ∧
    (s.flashErase a b).fwds = s.fwds ∧ (s.flashErase a b).followers = s.followers ∧ (s.flashErase a b).conds = s.conds ∧
    (s.flashErase a b).spans = s.spans ∧ (s.flashErase a b).tbs = s.tbs ∧ (s.flashErase a b).ptp = s.ptp ∧
    (s.flashErase a b).tps = s.tps ∧ (s.flashErase a b).ports = s.ports ∧ (s.flashErase a b).conf = s.conf ∧
    (s.flashErase a b).pieces = s.pieces ∧ (s.flashErase a b).ended = s.ended ∧ (s.flashErase a b).rejects = s.rejects ∧
    (s.flashErase a b).tgs = s.tgs ∧ (s.flashErase a b).ring = s.ring ∧ (s.flashErase a b).windows = s.windows ∧
    (s.flashErase a b).dma = s.dma ∧ (s.flashErase a b).dx = s.dx ∧ (s.flashErase a b).keys = s.keys ∧
    (s.flashErase a b).cx = s.cx ∧ (s.flashErase a b).stop = s.stop ∧ (s.flashErase a b).encs = s.encs ∧
    (s.flashErase a b).lgs = s.lgs ∧ (s.flashErase a b).encouts = s.encouts ∧ (s.flashErase a b).probes = s.probes ∧
    (s.flashErase a b).mem = s.mem ∧ (s.flashErase a b).darn = s.darn ∧ (s.flashErase a b).gates = s.gates ∧
    (s.flashErase a b).rinses = s.rinses ∧ (s.flashErase a b).lanes = s.lanes ∧ (s.flashErase a b).camRx = s.camRx ∧
    (s.flashErase a b).reports = s.reports ∧ (s.flashErase a b).heads = s.heads ∧ (s.flashErase a b).slices = s.slices ∧
    (s.flashErase a b).flights = s.flights ∧ (s.flashErase a b).hist = s.hist ∧ (s.flashErase a b).cams = s.cams ∧
    (s.flashErase a b).iron = s.iron ∧ (s.flashErase a b).evd = s.evd ∧ (s.flashErase a b).evid = s.evid ∧
    (s.flashErase a b).seqs = s.seqs ∧ (s.flashErase a b).mismatches = s.mismatches ∧ (s.flashErase a b).verify = s.verify ∧
    (s.flashErase a b).life = s.life ∧ (s.flashErase a b).lifeRem = s.lifeRem ∧ (s.flashErase a b).jtag = s.jtag ∧
    (s.flashErase a b).unitsBad = s.unitsBad ∧ (s.flashErase a b).loops = s.loops ∧ (s.flashErase a b).out = s.out ∧
    (s.flashErase a b).free = s.free ∧ (s.flashErase a b).pending = s.pending ∧ (∀ a, (s.flashErase a b).word a = s.word a) ∧
    (∀ g, (s.flashErase a b).rd g = s.rd g) ∧ (∀ g, (s.flashErase a b).flag g = s.flag g) ∧
    (∀ g, (s.flashErase a b).rdI g = s.rdI g) ∧ (∀ g, (s.flashErase a b).cf g = s.cf g) := by
  and_intros <;> intros <;> rfl

@[simp] theorem onTg_frame (s : State) (k : Nat) (f : Tg → Tg) :
    (s.onTg k f).time = s.time ∧ (s.onTg k f).regs = s.regs ∧ (s.onTg k f).pendw = s.pendw ∧ (s.onTg k f).hbm = s.hbm ∧
    (s.onTg k f).flash = s.flash ∧ (s.onTg k f).pow = s.pow ∧ (s.onTg k f).nvm = s.nvm ∧ (s.onTg k f).therm = s.therm ∧
    (s.onTg k f).subs = s.subs ∧ (s.onTg k f).held = s.held ∧ (s.onTg k f).fwds = s.fwds ∧
    (s.onTg k f).followers = s.followers ∧ (s.onTg k f).conds = s.conds ∧ (s.onTg k f).spans = s.spans ∧
    (s.onTg k f).tbs = s.tbs ∧ (s.onTg k f).ptp = s.ptp ∧ (s.onTg k f).tps = s.tps ∧ (s.onTg k f).ports = s.ports ∧
    (s.onTg k f).conf = s.conf ∧ (s.onTg k f).pieces = s.pieces ∧ (s.onTg k f).ended = s.ended ∧
    (s.onTg k f).rejects = s.rejects ∧ (s.onTg k f).ring = s.ring ∧ (s.onTg k f).windows = s.windows ∧
    (s.onTg k f).dma = s.dma ∧ (s.onTg k f).dx = s.dx ∧ (s.onTg k f).keys = s.keys ∧ (s.onTg k f).cx = s.cx ∧
    (s.onTg k f).stop = s.stop ∧ (s.onTg k f).encs = s.encs ∧ (s.onTg k f).lgs = s.lgs ∧ (s.onTg k f).encouts = s.encouts ∧
    (s.onTg k f).probes = s.probes ∧ (s.onTg k f).mem = s.mem ∧ (s.onTg k f).darn = s.darn ∧ (s.onTg k f).gates = s.gates ∧
    (s.onTg k f).rinses = s.rinses ∧ (s.onTg k f).lanes = s.lanes ∧ (s.onTg k f).camRx = s.camRx ∧
    (s.onTg k f).reports = s.reports ∧ (s.onTg k f).heads = s.heads ∧ (s.onTg k f).slices = s.slices ∧
    (s.onTg k f).flights = s.flights ∧ (s.onTg k f).hist = s.hist ∧ (s.onTg k f).cams = s.cams ∧ (s.onTg k f).iron = s.iron ∧
    (s.onTg k f).evd = s.evd ∧ (s.onTg k f).evid = s.evid ∧ (s.onTg k f).seqs = s.seqs ∧
    (s.onTg k f).mismatches = s.mismatches ∧ (s.onTg k f).verify = s.verify ∧ (s.onTg k f).life = s.life ∧
    (s.onTg k f).lifeRem = s.lifeRem ∧ (s.onTg k f).jtag = s.jtag ∧ (s.onTg k f).unitsBad = s.unitsBad ∧
    (s.onTg k f).loops = s.loops ∧ (s.onTg k f).out = s.out ∧ (s.onTg k f).free = s.free ∧ (s.onTg k f).pending = s.pending ∧
    (∀ a, (s.onTg k f).word a = s.word a) ∧ (∀ g, (s.onTg k f).rd g = s.rd g) ∧ (∀ g, (s.onTg k f).flag g = s.flag g) ∧
    (∀ g, (s.onTg k f).rdI g = s.rdI g) ∧ (∀ g, (s.onTg k f).cf g = s.cf g) := by
  and_intros <;> intros <;> rfl

@[simp] theorem onPiece_frame (s : State) (num : Nat) (f : Piece → Piece) :
    (s.onPiece num f).time = s.time ∧ (s.onPiece num f).regs = s.regs ∧ (s.onPiece num f).pendw = s.pendw ∧
    (s.onPiece num f).hbm = s.hbm ∧ (s.onPiece num f).flash = s.flash ∧ (s.onPiece num f).pow = s.pow ∧
    (s.onPiece num f).nvm = s.nvm ∧ (s.onPiece num f).therm = s.therm ∧ (s.onPiece num f).subs = s.subs ∧
    (s.onPiece num f).held = s.held ∧ (s.onPiece num f).fwds = s.fwds ∧ (s.onPiece num f).followers = s.followers ∧
    (s.onPiece num f).conds = s.conds ∧ (s.onPiece num f).spans = s.spans ∧ (s.onPiece num f).tbs = s.tbs ∧
    (s.onPiece num f).ptp = s.ptp ∧ (s.onPiece num f).tps = s.tps ∧ (s.onPiece num f).ports = s.ports ∧
    (s.onPiece num f).conf = s.conf ∧ (s.onPiece num f).ended = s.ended ∧ (s.onPiece num f).rejects = s.rejects ∧
    (s.onPiece num f).tgs = s.tgs ∧ (s.onPiece num f).ring = s.ring ∧ (s.onPiece num f).windows = s.windows ∧
    (s.onPiece num f).dma = s.dma ∧ (s.onPiece num f).dx = s.dx ∧ (s.onPiece num f).keys = s.keys ∧
    (s.onPiece num f).cx = s.cx ∧ (s.onPiece num f).stop = s.stop ∧ (s.onPiece num f).encs = s.encs ∧
    (s.onPiece num f).lgs = s.lgs ∧ (s.onPiece num f).encouts = s.encouts ∧ (s.onPiece num f).probes = s.probes ∧
    (s.onPiece num f).mem = s.mem ∧ (s.onPiece num f).darn = s.darn ∧ (s.onPiece num f).gates = s.gates ∧
    (s.onPiece num f).rinses = s.rinses ∧ (s.onPiece num f).lanes = s.lanes ∧ (s.onPiece num f).camRx = s.camRx ∧
    (s.onPiece num f).reports = s.reports ∧ (s.onPiece num f).heads = s.heads ∧ (s.onPiece num f).slices = s.slices ∧
    (s.onPiece num f).flights = s.flights ∧ (s.onPiece num f).hist = s.hist ∧ (s.onPiece num f).cams = s.cams ∧
    (s.onPiece num f).iron = s.iron ∧ (s.onPiece num f).evd = s.evd ∧ (s.onPiece num f).evid = s.evid ∧
    (s.onPiece num f).seqs = s.seqs ∧ (s.onPiece num f).mismatches = s.mismatches ∧ (s.onPiece num f).verify = s.verify ∧
    (s.onPiece num f).life = s.life ∧ (s.onPiece num f).lifeRem = s.lifeRem ∧ (s.onPiece num f).jtag = s.jtag ∧
    (s.onPiece num f).unitsBad = s.unitsBad ∧ (s.onPiece num f).loops = s.loops ∧ (s.onPiece num f).out = s.out ∧
    (s.onPiece num f).free = s.free ∧ (s.onPiece num f).pending = s.pending ∧ (∀ a, (s.onPiece num f).word a = s.word a) ∧
    (∀ g, (s.onPiece num f).rd g = s.rd g) ∧ (∀ g, (s.onPiece num f).flag g = s.flag g) ∧
    (∀ g, (s.onPiece num f).rdI g = s.rdI g) ∧ (∀ g, (s.onPiece num f).cf g = s.cf g) := by
  and_intros <;> intros <;> rfl

@[simp] theorem onEnc_frame (s : State) (n : Nat) (f : Enc → Enc) :
    (s.onEnc n f).time = s.time ∧ (s.onEnc n f).regs = s.regs ∧ (s.onEnc n f).pendw = s.pendw ∧ (s.onEnc n f).hbm = s.hbm ∧
    (s.onEnc n f).flash = s.flash ∧ (s.onEnc n f).pow = s.pow ∧ (s.onEnc n f).nvm = s.nvm ∧ (s.onEnc n f).therm = s.therm ∧
    (s.onEnc n f).subs = s.subs ∧ (s.onEnc n f).held = s.held ∧ (s.onEnc n f).fwds = s.fwds ∧
    (s.onEnc n f).followers = s.followers ∧ (s.onEnc n f).conds = s.conds ∧ (s.onEnc n f).spans = s.spans ∧
    (s.onEnc n f).tbs = s.tbs ∧ (s.onEnc n f).ptp = s.ptp ∧ (s.onEnc n f).tps = s.tps ∧ (s.onEnc n f).ports = s.ports ∧
    (s.onEnc n f).conf = s.conf ∧ (s.onEnc n f).pieces = s.pieces ∧ (s.onEnc n f).ended = s.ended ∧
    (s.onEnc n f).rejects = s.rejects ∧ (s.onEnc n f).tgs = s.tgs ∧ (s.onEnc n f).ring = s.ring ∧
    (s.onEnc n f).windows = s.windows ∧ (s.onEnc n f).dma = s.dma ∧ (s.onEnc n f).dx = s.dx ∧ (s.onEnc n f).keys = s.keys ∧
    (s.onEnc n f).cx = s.cx ∧ (s.onEnc n f).stop = s.stop ∧ (s.onEnc n f).lgs = s.lgs ∧ (s.onEnc n f).encouts = s.encouts ∧
    (s.onEnc n f).probes = s.probes ∧ (s.onEnc n f).mem = s.mem ∧ (s.onEnc n f).darn = s.darn ∧ (s.onEnc n f).gates = s.gates ∧
    (s.onEnc n f).rinses = s.rinses ∧ (s.onEnc n f).lanes = s.lanes ∧ (s.onEnc n f).camRx = s.camRx ∧
    (s.onEnc n f).reports = s.reports ∧ (s.onEnc n f).heads = s.heads ∧ (s.onEnc n f).slices = s.slices ∧
    (s.onEnc n f).flights = s.flights ∧ (s.onEnc n f).hist = s.hist ∧ (s.onEnc n f).cams = s.cams ∧
    (s.onEnc n f).iron = s.iron ∧ (s.onEnc n f).evd = s.evd ∧ (s.onEnc n f).evid = s.evid ∧ (s.onEnc n f).seqs = s.seqs ∧
    (s.onEnc n f).mismatches = s.mismatches ∧ (s.onEnc n f).verify = s.verify ∧ (s.onEnc n f).life = s.life ∧
    (s.onEnc n f).lifeRem = s.lifeRem ∧ (s.onEnc n f).jtag = s.jtag ∧ (s.onEnc n f).unitsBad = s.unitsBad ∧
    (s.onEnc n f).loops = s.loops ∧ (s.onEnc n f).out = s.out ∧ (s.onEnc n f).free = s.free ∧
    (s.onEnc n f).pending = s.pending ∧ (∀ a, (s.onEnc n f).word a = s.word a) ∧ (∀ g, (s.onEnc n f).rd g = s.rd g) ∧
    (∀ g, (s.onEnc n f).flag g = s.flag g) ∧ (∀ g, (s.onEnc n f).rdI g = s.rdI g) ∧ (∀ g, (s.onEnc n f).cf g = s.cf g) := by
  and_intros <;> intros <;> rfl

@[simp] theorem onLeaf_frame (s : State) (c : Nat) (f : Leaf → Leaf) :
    (s.onLeaf c f).time = s.time ∧ (s.onLeaf c f).regs = s.regs ∧ (s.onLeaf c f).pendw = s.pendw ∧ (s.onLeaf c f).hbm = s.hbm ∧
    (s.onLeaf c f).flash = s.flash ∧ (s.onLeaf c f).pow = s.pow ∧ (s.onLeaf c f).nvm = s.nvm ∧ (s.onLeaf c f).therm = s.therm ∧
    (s.onLeaf c f).subs = s.subs ∧ (s.onLeaf c f).held = s.held ∧ (s.onLeaf c f).fwds = s.fwds ∧
    (s.onLeaf c f).followers = s.followers ∧ (s.onLeaf c f).conds = s.conds ∧ (s.onLeaf c f).tbs = s.tbs ∧
    (s.onLeaf c f).ptp = s.ptp ∧ (s.onLeaf c f).tps = s.tps ∧ (s.onLeaf c f).ports = s.ports ∧ (s.onLeaf c f).conf = s.conf ∧
    (s.onLeaf c f).pieces = s.pieces ∧ (s.onLeaf c f).ended = s.ended ∧ (s.onLeaf c f).rejects = s.rejects ∧
    (s.onLeaf c f).tgs = s.tgs ∧ (s.onLeaf c f).ring = s.ring ∧ (s.onLeaf c f).windows = s.windows ∧
    (s.onLeaf c f).dma = s.dma ∧ (s.onLeaf c f).dx = s.dx ∧ (s.onLeaf c f).keys = s.keys ∧ (s.onLeaf c f).cx = s.cx ∧
    (s.onLeaf c f).stop = s.stop ∧ (s.onLeaf c f).encs = s.encs ∧ (s.onLeaf c f).lgs = s.lgs ∧
    (s.onLeaf c f).encouts = s.encouts ∧ (s.onLeaf c f).probes = s.probes ∧ (s.onLeaf c f).mem = s.mem ∧
    (s.onLeaf c f).darn = s.darn ∧ (s.onLeaf c f).gates = s.gates ∧ (s.onLeaf c f).rinses = s.rinses ∧
    (s.onLeaf c f).lanes = s.lanes ∧ (s.onLeaf c f).camRx = s.camRx ∧ (s.onLeaf c f).reports = s.reports ∧
    (s.onLeaf c f).heads = s.heads ∧ (s.onLeaf c f).slices = s.slices ∧ (s.onLeaf c f).flights = s.flights ∧
    (s.onLeaf c f).hist = s.hist ∧ (s.onLeaf c f).cams = s.cams ∧ (s.onLeaf c f).iron = s.iron ∧ (s.onLeaf c f).evd = s.evd ∧
    (s.onLeaf c f).evid = s.evid ∧ (s.onLeaf c f).seqs = s.seqs ∧ (s.onLeaf c f).mismatches = s.mismatches ∧
    (s.onLeaf c f).verify = s.verify ∧ (s.onLeaf c f).life = s.life ∧ (s.onLeaf c f).lifeRem = s.lifeRem ∧
    (s.onLeaf c f).jtag = s.jtag ∧ (s.onLeaf c f).unitsBad = s.unitsBad ∧ (s.onLeaf c f).loops = s.loops ∧
    (s.onLeaf c f).out = s.out ∧ (s.onLeaf c f).free = s.free ∧ (s.onLeaf c f).pending = s.pending ∧
    (∀ a, (s.onLeaf c f).word a = s.word a) ∧ (∀ g, (s.onLeaf c f).rd g = s.rd g) ∧ (∀ g, (s.onLeaf c f).flag g = s.flag g) ∧
    (∀ g, (s.onLeaf c f).rdI g = s.rdI g) ∧ (∀ g, (s.onLeaf c f).cf g = s.cf g) := by
  and_intros <;> intros <;> rfl

@[simp] theorem onLane_frame (s : State) (n : Nat) (f : Lane → Lane) :
    (s.onLane n f).time = s.time ∧ (s.onLane n f).regs = s.regs ∧ (s.onLane n f).pendw = s.pendw ∧ (s.onLane n f).hbm = s.hbm ∧
    (s.onLane n f).flash = s.flash ∧ (s.onLane n f).pow = s.pow ∧ (s.onLane n f).nvm = s.nvm ∧ (s.onLane n f).therm = s.therm ∧
    (s.onLane n f).subs = s.subs ∧ (s.onLane n f).held = s.held ∧ (s.onLane n f).fwds = s.fwds ∧
    (s.onLane n f).followers = s.followers ∧ (s.onLane n f).conds = s.conds ∧ (s.onLane n f).spans = s.spans ∧
    (s.onLane n f).tbs = s.tbs ∧ (s.onLane n f).ptp = s.ptp ∧ (s.onLane n f).tps = s.tps ∧ (s.onLane n f).ports = s.ports ∧
    (s.onLane n f).conf = s.conf ∧ (s.onLane n f).pieces = s.pieces ∧ (s.onLane n f).ended = s.ended ∧
    (s.onLane n f).rejects = s.rejects ∧ (s.onLane n f).tgs = s.tgs ∧ (s.onLane n f).ring = s.ring ∧
    (s.onLane n f).windows = s.windows ∧ (s.onLane n f).dma = s.dma ∧ (s.onLane n f).dx = s.dx ∧ (s.onLane n f).keys = s.keys ∧
    (s.onLane n f).cx = s.cx ∧ (s.onLane n f).stop = s.stop ∧ (s.onLane n f).encs = s.encs ∧ (s.onLane n f).lgs = s.lgs ∧
    (s.onLane n f).encouts = s.encouts ∧ (s.onLane n f).probes = s.probes ∧ (s.onLane n f).mem = s.mem ∧
    (s.onLane n f).darn = s.darn ∧ (s.onLane n f).gates = s.gates ∧ (s.onLane n f).rinses = s.rinses ∧
    (s.onLane n f).camRx = s.camRx ∧ (s.onLane n f).reports = s.reports ∧ (s.onLane n f).heads = s.heads ∧
    (s.onLane n f).slices = s.slices ∧ (s.onLane n f).flights = s.flights ∧ (s.onLane n f).hist = s.hist ∧
    (s.onLane n f).cams = s.cams ∧ (s.onLane n f).iron = s.iron ∧ (s.onLane n f).evd = s.evd ∧ (s.onLane n f).evid = s.evid ∧
    (s.onLane n f).seqs = s.seqs ∧ (s.onLane n f).mismatches = s.mismatches ∧ (s.onLane n f).verify = s.verify ∧
    (s.onLane n f).life = s.life ∧ (s.onLane n f).lifeRem = s.lifeRem ∧ (s.onLane n f).jtag = s.jtag ∧
    (s.onLane n f).unitsBad = s.unitsBad ∧ (s.onLane n f).loops = s.loops ∧ (s.onLane n f).out = s.out ∧
    (s.onLane n f).free = s.free ∧ (s.onLane n f).pending = s.pending ∧ (∀ a, (s.onLane n f).word a = s.word a) ∧
    (∀ g, (s.onLane n f).rd g = s.rd g) ∧ (∀ g, (s.onLane n f).flag g = s.flag g) ∧ (∀ g, (s.onLane n f).rdI g = s.rdI g) ∧
    (∀ g, (s.onLane n f).cf g = s.cf g) := by
  and_intros <;> intros <;> rfl

@[simp] theorem onCe_frame (s : State) (c : Nat) (f : List Ce → List Ce) :
    (s.onCe c f).time = s.time ∧ (s.onCe c f).regs = s.regs ∧ (s.onCe c f).pendw = s.pendw ∧ (s.onCe c f).hbm = s.hbm ∧
    (s.onCe c f).flash = s.flash ∧ (s.onCe c f).pow = s.pow ∧ (s.onCe c f).nvm = s.nvm ∧ (s.onCe c f).therm = s.therm ∧
    (s.onCe c f).subs = s.subs ∧ (s.onCe c f).held = s.held ∧ (s.onCe c f).fwds = s.fwds ∧
    (s.onCe c f).followers = s.followers ∧ (s.onCe c f).conds = s.conds ∧ (s.onCe c f).spans = s.spans ∧
    (s.onCe c f).tbs = s.tbs ∧ (s.onCe c f).ptp = s.ptp ∧ (s.onCe c f).tps = s.tps ∧ (s.onCe c f).ports = s.ports ∧
    (s.onCe c f).conf = s.conf ∧ (s.onCe c f).pieces = s.pieces ∧ (s.onCe c f).ended = s.ended ∧
    (s.onCe c f).rejects = s.rejects ∧ (s.onCe c f).tgs = s.tgs ∧ (s.onCe c f).ring = s.ring ∧
    (s.onCe c f).windows = s.windows ∧ (s.onCe c f).dma = s.dma ∧ (s.onCe c f).dx = s.dx ∧ (s.onCe c f).keys = s.keys ∧
    (s.onCe c f).cx = s.cx ∧ (s.onCe c f).stop = s.stop ∧ (s.onCe c f).encs = s.encs ∧ (s.onCe c f).lgs = s.lgs ∧
    (s.onCe c f).encouts = s.encouts ∧ (s.onCe c f).probes = s.probes ∧ (s.onCe c f).darn = s.darn ∧
    (s.onCe c f).gates = s.gates ∧ (s.onCe c f).rinses = s.rinses ∧ (s.onCe c f).lanes = s.lanes ∧
    (s.onCe c f).camRx = s.camRx ∧ (s.onCe c f).reports = s.reports ∧ (s.onCe c f).heads = s.heads ∧
    (s.onCe c f).slices = s.slices ∧ (s.onCe c f).flights = s.flights ∧ (s.onCe c f).hist = s.hist ∧
    (s.onCe c f).cams = s.cams ∧ (s.onCe c f).iron = s.iron ∧ (s.onCe c f).evd = s.evd ∧ (s.onCe c f).evid = s.evid ∧
    (s.onCe c f).seqs = s.seqs ∧ (s.onCe c f).mismatches = s.mismatches ∧ (s.onCe c f).verify = s.verify ∧
    (s.onCe c f).life = s.life ∧ (s.onCe c f).lifeRem = s.lifeRem ∧ (s.onCe c f).jtag = s.jtag ∧
    (s.onCe c f).unitsBad = s.unitsBad ∧ (s.onCe c f).loops = s.loops ∧ (s.onCe c f).out = s.out ∧ (s.onCe c f).free = s.free ∧
    (s.onCe c f).pending = s.pending ∧ (∀ a, (s.onCe c f).word a = s.word a) ∧ (∀ g, (s.onCe c f).rd g = s.rd g) ∧
    (∀ g, (s.onCe c f).flag g = s.flag g) ∧ (∀ g, (s.onCe c f).rdI g = s.rdI g) ∧ (∀ g, (s.onCe c f).cf g = s.cf g) := by
  and_intros <;> intros <;> rfl

@[simp] theorem onDarn_frame (s : State) (f : Darn → Darn) :
    (s.onDarn f).time = s.time ∧ (s.onDarn f).regs = s.regs ∧ (s.onDarn f).pendw = s.pendw ∧ (s.onDarn f).hbm = s.hbm ∧
    (s.onDarn f).flash = s.flash ∧ (s.onDarn f).pow = s.pow ∧ (s.onDarn f).nvm = s.nvm ∧ (s.onDarn f).therm = s.therm ∧
    (s.onDarn f).subs = s.subs ∧ (s.onDarn f).held = s.held ∧ (s.onDarn f).fwds = s.fwds ∧
    (s.onDarn f).followers = s.followers ∧ (s.onDarn f).conds = s.conds ∧ (s.onDarn f).spans = s.spans ∧
    (s.onDarn f).tbs = s.tbs ∧ (s.onDarn f).ptp = s.ptp ∧ (s.onDarn f).tps = s.tps ∧ (s.onDarn f).ports = s.ports ∧
    (s.onDarn f).conf = s.conf ∧ (s.onDarn f).pieces = s.pieces ∧ (s.onDarn f).ended = s.ended ∧
    (s.onDarn f).rejects = s.rejects ∧ (s.onDarn f).tgs = s.tgs ∧ (s.onDarn f).ring = s.ring ∧
    (s.onDarn f).windows = s.windows ∧ (s.onDarn f).dma = s.dma ∧ (s.onDarn f).dx = s.dx ∧ (s.onDarn f).keys = s.keys ∧
    (s.onDarn f).cx = s.cx ∧ (s.onDarn f).stop = s.stop ∧ (s.onDarn f).encs = s.encs ∧ (s.onDarn f).lgs = s.lgs ∧
    (s.onDarn f).encouts = s.encouts ∧ (s.onDarn f).probes = s.probes ∧ (s.onDarn f).mem = s.mem ∧
    (s.onDarn f).gates = s.gates ∧ (s.onDarn f).rinses = s.rinses ∧ (s.onDarn f).lanes = s.lanes ∧
    (s.onDarn f).camRx = s.camRx ∧ (s.onDarn f).reports = s.reports ∧ (s.onDarn f).heads = s.heads ∧
    (s.onDarn f).slices = s.slices ∧ (s.onDarn f).flights = s.flights ∧ (s.onDarn f).hist = s.hist ∧
    (s.onDarn f).cams = s.cams ∧ (s.onDarn f).iron = s.iron ∧ (s.onDarn f).evd = s.evd ∧ (s.onDarn f).evid = s.evid ∧
    (s.onDarn f).seqs = s.seqs ∧ (s.onDarn f).mismatches = s.mismatches ∧ (s.onDarn f).verify = s.verify ∧
    (s.onDarn f).life = s.life ∧ (s.onDarn f).lifeRem = s.lifeRem ∧ (s.onDarn f).jtag = s.jtag ∧
    (s.onDarn f).unitsBad = s.unitsBad ∧ (s.onDarn f).loops = s.loops ∧ (s.onDarn f).out = s.out ∧ (s.onDarn f).free = s.free ∧
    (s.onDarn f).pending = s.pending ∧ (∀ a, (s.onDarn f).word a = s.word a) ∧ (∀ g, (s.onDarn f).rd g = s.rd g) ∧
    (∀ g, (s.onDarn f).flag g = s.flag g) ∧ (∀ g, (s.onDarn f).rdI g = s.rdI g) ∧ (∀ g, (s.onDarn f).cf g = s.cf g) := by
  and_intros <;> intros <;> rfl

@[simp] theorem onGate_frame (s : State) (k : Nat) (f : Gate → Gate) :
    (s.onGate k f).time = s.time ∧ (s.onGate k f).regs = s.regs ∧ (s.onGate k f).pendw = s.pendw ∧ (s.onGate k f).hbm = s.hbm ∧
    (s.onGate k f).flash = s.flash ∧ (s.onGate k f).pow = s.pow ∧ (s.onGate k f).nvm = s.nvm ∧ (s.onGate k f).therm = s.therm ∧
    (s.onGate k f).subs = s.subs ∧ (s.onGate k f).held = s.held ∧ (s.onGate k f).fwds = s.fwds ∧
    (s.onGate k f).followers = s.followers ∧ (s.onGate k f).conds = s.conds ∧ (s.onGate k f).spans = s.spans ∧
    (s.onGate k f).tbs = s.tbs ∧ (s.onGate k f).ptp = s.ptp ∧ (s.onGate k f).tps = s.tps ∧ (s.onGate k f).ports = s.ports ∧
    (s.onGate k f).conf = s.conf ∧ (s.onGate k f).pieces = s.pieces ∧ (s.onGate k f).ended = s.ended ∧
    (s.onGate k f).rejects = s.rejects ∧ (s.onGate k f).tgs = s.tgs ∧ (s.onGate k f).ring = s.ring ∧
    (s.onGate k f).windows = s.windows ∧ (s.onGate k f).dma = s.dma ∧ (s.onGate k f).dx = s.dx ∧ (s.onGate k f).keys = s.keys ∧
    (s.onGate k f).cx = s.cx ∧ (s.onGate k f).stop = s.stop ∧ (s.onGate k f).encs = s.encs ∧ (s.onGate k f).lgs = s.lgs ∧
    (s.onGate k f).encouts = s.encouts ∧ (s.onGate k f).probes = s.probes ∧ (s.onGate k f).mem = s.mem ∧
    (s.onGate k f).darn = s.darn ∧ (s.onGate k f).rinses = s.rinses ∧ (s.onGate k f).lanes = s.lanes ∧
    (s.onGate k f).camRx = s.camRx ∧ (s.onGate k f).reports = s.reports ∧ (s.onGate k f).heads = s.heads ∧
    (s.onGate k f).slices = s.slices ∧ (s.onGate k f).flights = s.flights ∧ (s.onGate k f).hist = s.hist ∧
    (s.onGate k f).cams = s.cams ∧ (s.onGate k f).iron = s.iron ∧ (s.onGate k f).evd = s.evd ∧ (s.onGate k f).evid = s.evid ∧
    (s.onGate k f).seqs = s.seqs ∧ (s.onGate k f).mismatches = s.mismatches ∧ (s.onGate k f).verify = s.verify ∧
    (s.onGate k f).life = s.life ∧ (s.onGate k f).lifeRem = s.lifeRem ∧ (s.onGate k f).jtag = s.jtag ∧
    (s.onGate k f).unitsBad = s.unitsBad ∧ (s.onGate k f).loops = s.loops ∧ (s.onGate k f).out = s.out ∧
    (s.onGate k f).free = s.free ∧ (s.onGate k f).pending = s.pending ∧ (∀ a, (s.onGate k f).word a = s.word a) ∧
    (∀ g, (s.onGate k f).rd g = s.rd g) ∧ (∀ g, (s.onGate k f).flag g = s.flag g) ∧ (∀ g, (s.onGate k f).rdI g = s.rdI g) ∧
    (∀ g, (s.onGate k f).cf g = s.cf g) := by
  and_intros <;> intros <;> rfl

@[simp] theorem onRinse_frame (s : State) (b : Nat) (f : Rinse → Rinse) :
    (s.onRinse b f).time = s.time ∧ (s.onRinse b f).regs = s.regs ∧ (s.onRinse b f).pendw = s.pendw ∧
    (s.onRinse b f).hbm = s.hbm ∧ (s.onRinse b f).flash = s.flash ∧ (s.onRinse b f).pow = s.pow ∧ (s.onRinse b f).nvm = s.nvm ∧
    (s.onRinse b f).therm = s.therm ∧ (s.onRinse b f).subs = s.subs ∧ (s.onRinse b f).held = s.held ∧
    (s.onRinse b f).fwds = s.fwds ∧ (s.onRinse b f).followers = s.followers ∧ (s.onRinse b f).conds = s.conds ∧
    (s.onRinse b f).spans = s.spans ∧ (s.onRinse b f).tbs = s.tbs ∧ (s.onRinse b f).ptp = s.ptp ∧ (s.onRinse b f).tps = s.tps ∧
    (s.onRinse b f).ports = s.ports ∧ (s.onRinse b f).conf = s.conf ∧ (s.onRinse b f).pieces = s.pieces ∧
    (s.onRinse b f).ended = s.ended ∧ (s.onRinse b f).rejects = s.rejects ∧ (s.onRinse b f).tgs = s.tgs ∧
    (s.onRinse b f).ring = s.ring ∧ (s.onRinse b f).windows = s.windows ∧ (s.onRinse b f).dma = s.dma ∧
    (s.onRinse b f).dx = s.dx ∧ (s.onRinse b f).keys = s.keys ∧ (s.onRinse b f).cx = s.cx ∧ (s.onRinse b f).stop = s.stop ∧
    (s.onRinse b f).encs = s.encs ∧ (s.onRinse b f).lgs = s.lgs ∧ (s.onRinse b f).encouts = s.encouts ∧
    (s.onRinse b f).probes = s.probes ∧ (s.onRinse b f).mem = s.mem ∧ (s.onRinse b f).darn = s.darn ∧
    (s.onRinse b f).gates = s.gates ∧ (s.onRinse b f).lanes = s.lanes ∧ (s.onRinse b f).camRx = s.camRx ∧
    (s.onRinse b f).reports = s.reports ∧ (s.onRinse b f).heads = s.heads ∧ (s.onRinse b f).slices = s.slices ∧
    (s.onRinse b f).flights = s.flights ∧ (s.onRinse b f).hist = s.hist ∧ (s.onRinse b f).cams = s.cams ∧
    (s.onRinse b f).iron = s.iron ∧ (s.onRinse b f).evd = s.evd ∧ (s.onRinse b f).evid = s.evid ∧
    (s.onRinse b f).seqs = s.seqs ∧ (s.onRinse b f).mismatches = s.mismatches ∧ (s.onRinse b f).verify = s.verify ∧
    (s.onRinse b f).life = s.life ∧ (s.onRinse b f).lifeRem = s.lifeRem ∧ (s.onRinse b f).jtag = s.jtag ∧
    (s.onRinse b f).unitsBad = s.unitsBad ∧ (s.onRinse b f).loops = s.loops ∧ (s.onRinse b f).out = s.out ∧
    (s.onRinse b f).free = s.free ∧ (s.onRinse b f).pending = s.pending ∧ (∀ a, (s.onRinse b f).word a = s.word a) ∧
    (∀ g, (s.onRinse b f).rd g = s.rd g) ∧ (∀ g, (s.onRinse b f).flag g = s.flag g) ∧ (∀ g, (s.onRinse b f).rdI g = s.rdI g) ∧
    (∀ g, (s.onRinse b f).cf g = s.cf g) := by
  and_intros <;> intros <;> rfl

@[simp] theorem onSq_frame (s : State) (n : Nat) (f : Seq → Seq) :
    (s.onSq n f).time = s.time ∧ (s.onSq n f).regs = s.regs ∧ (s.onSq n f).pendw = s.pendw ∧ (s.onSq n f).hbm = s.hbm ∧
    (s.onSq n f).flash = s.flash ∧ (s.onSq n f).pow = s.pow ∧ (s.onSq n f).nvm = s.nvm ∧ (s.onSq n f).therm = s.therm ∧
    (s.onSq n f).subs = s.subs ∧ (s.onSq n f).held = s.held ∧ (s.onSq n f).fwds = s.fwds ∧
    (s.onSq n f).followers = s.followers ∧ (s.onSq n f).conds = s.conds ∧ (s.onSq n f).spans = s.spans ∧
    (s.onSq n f).tbs = s.tbs ∧ (s.onSq n f).ptp = s.ptp ∧ (s.onSq n f).tps = s.tps ∧ (s.onSq n f).ports = s.ports ∧
    (s.onSq n f).conf = s.conf ∧ (s.onSq n f).pieces = s.pieces ∧ (s.onSq n f).ended = s.ended ∧
    (s.onSq n f).rejects = s.rejects ∧ (s.onSq n f).tgs = s.tgs ∧ (s.onSq n f).ring = s.ring ∧
    (s.onSq n f).windows = s.windows ∧ (s.onSq n f).dma = s.dma ∧ (s.onSq n f).dx = s.dx ∧ (s.onSq n f).keys = s.keys ∧
    (s.onSq n f).cx = s.cx ∧ (s.onSq n f).stop = s.stop ∧ (s.onSq n f).encs = s.encs ∧ (s.onSq n f).lgs = s.lgs ∧
    (s.onSq n f).encouts = s.encouts ∧ (s.onSq n f).probes = s.probes ∧ (s.onSq n f).mem = s.mem ∧ (s.onSq n f).darn = s.darn ∧
    (s.onSq n f).gates = s.gates ∧ (s.onSq n f).rinses = s.rinses ∧ (s.onSq n f).lanes = s.lanes ∧
    (s.onSq n f).camRx = s.camRx ∧ (s.onSq n f).reports = s.reports ∧ (s.onSq n f).heads = s.heads ∧
    (s.onSq n f).slices = s.slices ∧ (s.onSq n f).flights = s.flights ∧ (s.onSq n f).hist = s.hist ∧
    (s.onSq n f).cams = s.cams ∧ (s.onSq n f).iron = s.iron ∧ (s.onSq n f).evd = s.evd ∧ (s.onSq n f).evid = s.evid ∧
    (s.onSq n f).mismatches = s.mismatches ∧ (s.onSq n f).verify = s.verify ∧ (s.onSq n f).life = s.life ∧
    (s.onSq n f).lifeRem = s.lifeRem ∧ (s.onSq n f).jtag = s.jtag ∧ (s.onSq n f).unitsBad = s.unitsBad ∧
    (s.onSq n f).loops = s.loops ∧ (s.onSq n f).out = s.out ∧ (s.onSq n f).free = s.free ∧ (s.onSq n f).pending = s.pending ∧
    (∀ a, (s.onSq n f).word a = s.word a) ∧ (∀ g, (s.onSq n f).rd g = s.rd g) ∧ (∀ g, (s.onSq n f).flag g = s.flag g) ∧
    (∀ g, (s.onSq n f).rdI g = s.rdI g) ∧ (∀ g, (s.onSq n f).cf g = s.cf g) := by
  and_intros <;> intros <;> rfl

@[simp] theorem onTb_frame (s : State) (k : Nat) (f : TimeBase → TimeBase) :
    (s.onTb k f).time = s.time ∧ (s.onTb k f).regs = s.regs ∧ (s.onTb k f).pendw = s.pendw ∧ (s.onTb k f).hbm = s.hbm ∧
    (s.onTb k f).flash = s.flash ∧ (s.onTb k f).pow = s.pow ∧ (s.onTb k f).nvm = s.nvm ∧ (s.onTb k f).therm = s.therm ∧
    (s.onTb k f).subs = s.subs ∧ (s.onTb k f).held = s.held ∧ (s.onTb k f).fwds = s.fwds ∧
    (s.onTb k f).followers = s.followers ∧ (s.onTb k f).conds = s.conds ∧ (s.onTb k f).spans = s.spans ∧
    (s.onTb k f).ptp = s.ptp ∧ (s.onTb k f).tps = s.tps ∧ (s.onTb k f).ports = s.ports ∧ (s.onTb k f).conf = s.conf ∧
    (s.onTb k f).pieces = s.pieces ∧ (s.onTb k f).ended = s.ended ∧ (s.onTb k f).rejects = s.rejects ∧
    (s.onTb k f).tgs = s.tgs ∧ (s.onTb k f).ring = s.ring ∧ (s.onTb k f).windows = s.windows ∧ (s.onTb k f).dma = s.dma ∧
    (s.onTb k f).dx = s.dx ∧ (s.onTb k f).keys = s.keys ∧ (s.onTb k f).cx = s.cx ∧ (s.onTb k f).stop = s.stop ∧
    (s.onTb k f).encs = s.encs ∧ (s.onTb k f).lgs = s.lgs ∧ (s.onTb k f).encouts = s.encouts ∧ (s.onTb k f).probes = s.probes ∧
    (s.onTb k f).mem = s.mem ∧ (s.onTb k f).darn = s.darn ∧ (s.onTb k f).gates = s.gates ∧ (s.onTb k f).rinses = s.rinses ∧
    (s.onTb k f).lanes = s.lanes ∧ (s.onTb k f).camRx = s.camRx ∧ (s.onTb k f).reports = s.reports ∧
    (s.onTb k f).heads = s.heads ∧ (s.onTb k f).slices = s.slices ∧ (s.onTb k f).flights = s.flights ∧
    (s.onTb k f).hist = s.hist ∧ (s.onTb k f).cams = s.cams ∧ (s.onTb k f).iron = s.iron ∧ (s.onTb k f).evd = s.evd ∧
    (s.onTb k f).evid = s.evid ∧ (s.onTb k f).seqs = s.seqs ∧ (s.onTb k f).mismatches = s.mismatches ∧
    (s.onTb k f).verify = s.verify ∧ (s.onTb k f).life = s.life ∧ (s.onTb k f).lifeRem = s.lifeRem ∧
    (s.onTb k f).jtag = s.jtag ∧ (s.onTb k f).unitsBad = s.unitsBad ∧ (s.onTb k f).loops = s.loops ∧ (s.onTb k f).out = s.out ∧
    (s.onTb k f).free = s.free ∧ (s.onTb k f).pending = s.pending ∧ (∀ a, (s.onTb k f).word a = s.word a) ∧
    (∀ g, (s.onTb k f).rd g = s.rd g) ∧ (∀ g, (s.onTb k f).flag g = s.flag g) ∧ (∀ g, (s.onTb k f).rdI g = s.rdI g) ∧
    (∀ g, (s.onTb k f).cf g = s.cf g) := by
  and_intros <;> intros <;> rfl

@[simp] theorem onCx_frame (s : State) (n : Nat) (f : Cx → Cx) :
    (s.onCx n f).time = s.time ∧ (s.onCx n f).regs = s.regs ∧ (s.onCx n f).pendw = s.pendw ∧ (s.onCx n f).hbm = s.hbm ∧
    (s.onCx n f).flash = s.flash ∧ (s.onCx n f).pow = s.pow ∧ (s.onCx n f).nvm = s.nvm ∧ (s.onCx n f).therm = s.therm ∧
    (s.onCx n f).subs = s.subs ∧ (s.onCx n f).held = s.held ∧ (s.onCx n f).fwds = s.fwds ∧
    (s.onCx n f).followers = s.followers ∧ (s.onCx n f).conds = s.conds ∧ (s.onCx n f).spans = s.spans ∧
    (s.onCx n f).tbs = s.tbs ∧ (s.onCx n f).ptp = s.ptp ∧ (s.onCx n f).tps = s.tps ∧ (s.onCx n f).ports = s.ports ∧
    (s.onCx n f).conf = s.conf ∧ (s.onCx n f).pieces = s.pieces ∧ (s.onCx n f).ended = s.ended ∧
    (s.onCx n f).rejects = s.rejects ∧ (s.onCx n f).tgs = s.tgs ∧ (s.onCx n f).ring = s.ring ∧
    (s.onCx n f).windows = s.windows ∧ (s.onCx n f).dma = s.dma ∧ (s.onCx n f).dx = s.dx ∧ (s.onCx n f).keys = s.keys ∧
    (s.onCx n f).stop = s.stop ∧ (s.onCx n f).encs = s.encs ∧ (s.onCx n f).lgs = s.lgs ∧ (s.onCx n f).encouts = s.encouts ∧
    (s.onCx n f).probes = s.probes ∧ (s.onCx n f).mem = s.mem ∧ (s.onCx n f).darn = s.darn ∧ (s.onCx n f).gates = s.gates ∧
    (s.onCx n f).rinses = s.rinses ∧ (s.onCx n f).lanes = s.lanes ∧ (s.onCx n f).camRx = s.camRx ∧
    (s.onCx n f).reports = s.reports ∧ (s.onCx n f).heads = s.heads ∧ (s.onCx n f).slices = s.slices ∧
    (s.onCx n f).flights = s.flights ∧ (s.onCx n f).hist = s.hist ∧ (s.onCx n f).cams = s.cams ∧ (s.onCx n f).iron = s.iron ∧
    (s.onCx n f).evd = s.evd ∧ (s.onCx n f).evid = s.evid ∧ (s.onCx n f).seqs = s.seqs ∧
    (s.onCx n f).mismatches = s.mismatches ∧ (s.onCx n f).verify = s.verify ∧ (s.onCx n f).life = s.life ∧
    (s.onCx n f).lifeRem = s.lifeRem ∧ (s.onCx n f).jtag = s.jtag ∧ (s.onCx n f).unitsBad = s.unitsBad ∧
    (s.onCx n f).loops = s.loops ∧ (s.onCx n f).out = s.out ∧ (s.onCx n f).free = s.free ∧ (s.onCx n f).pending = s.pending ∧
    (∀ a, (s.onCx n f).word a = s.word a) ∧ (∀ g, (s.onCx n f).rd g = s.rd g) ∧ (∀ g, (s.onCx n f).flag g = s.flag g) ∧
    (∀ g, (s.onCx n f).rdI g = s.rdI g) ∧ (∀ g, (s.onCx n f).cf g = s.cf g) := by
  and_intros <;> intros <;> rfl

@[simp] theorem onCam_frame (s : State) (n : Nat) (f : Cam → Cam) :
    (s.onCam n f).time = s.time ∧ (s.onCam n f).regs = s.regs ∧ (s.onCam n f).pendw = s.pendw ∧ (s.onCam n f).hbm = s.hbm ∧
    (s.onCam n f).flash = s.flash ∧ (s.onCam n f).pow = s.pow ∧ (s.onCam n f).nvm = s.nvm ∧ (s.onCam n f).therm = s.therm ∧
    (s.onCam n f).subs = s.subs ∧ (s.onCam n f).held = s.held ∧ (s.onCam n f).fwds = s.fwds ∧
    (s.onCam n f).followers = s.followers ∧ (s.onCam n f).conds = s.conds ∧ (s.onCam n f).spans = s.spans ∧
    (s.onCam n f).tbs = s.tbs ∧ (s.onCam n f).ptp = s.ptp ∧ (s.onCam n f).tps = s.tps ∧ (s.onCam n f).ports = s.ports ∧
    (s.onCam n f).conf = s.conf ∧ (s.onCam n f).pieces = s.pieces ∧ (s.onCam n f).ended = s.ended ∧
    (s.onCam n f).rejects = s.rejects ∧ (s.onCam n f).tgs = s.tgs ∧ (s.onCam n f).ring = s.ring ∧
    (s.onCam n f).windows = s.windows ∧ (s.onCam n f).dma = s.dma ∧ (s.onCam n f).dx = s.dx ∧ (s.onCam n f).keys = s.keys ∧
    (s.onCam n f).cx = s.cx ∧ (s.onCam n f).stop = s.stop ∧ (s.onCam n f).encs = s.encs ∧ (s.onCam n f).lgs = s.lgs ∧
    (s.onCam n f).encouts = s.encouts ∧ (s.onCam n f).probes = s.probes ∧ (s.onCam n f).mem = s.mem ∧
    (s.onCam n f).darn = s.darn ∧ (s.onCam n f).gates = s.gates ∧ (s.onCam n f).rinses = s.rinses ∧
    (s.onCam n f).lanes = s.lanes ∧ (s.onCam n f).camRx = s.camRx ∧ (s.onCam n f).reports = s.reports ∧
    (s.onCam n f).heads = s.heads ∧ (s.onCam n f).slices = s.slices ∧ (s.onCam n f).flights = s.flights ∧
    (s.onCam n f).hist = s.hist ∧ (s.onCam n f).iron = s.iron ∧ (s.onCam n f).evd = s.evd ∧ (s.onCam n f).evid = s.evid ∧
    (s.onCam n f).seqs = s.seqs ∧ (s.onCam n f).mismatches = s.mismatches ∧ (s.onCam n f).verify = s.verify ∧
    (s.onCam n f).life = s.life ∧ (s.onCam n f).lifeRem = s.lifeRem ∧ (s.onCam n f).jtag = s.jtag ∧
    (s.onCam n f).unitsBad = s.unitsBad ∧ (s.onCam n f).loops = s.loops ∧ (s.onCam n f).out = s.out ∧
    (s.onCam n f).free = s.free ∧ (s.onCam n f).pending = s.pending ∧ (∀ a, (s.onCam n f).word a = s.word a) ∧
    (∀ g, (s.onCam n f).rd g = s.rd g) ∧ (∀ g, (s.onCam n f).flag g = s.flag g) ∧ (∀ g, (s.onCam n f).rdI g = s.rdI g) ∧
    (∀ g, (s.onCam n f).cf g = s.cf g) := by
  and_intros <;> intros <;> rfl

@[simp] theorem onDma_frame (s : State) (n : Nat) (f : Dma → Dma) :
    (s.onDma n f).time = s.time ∧ (s.onDma n f).regs = s.regs ∧ (s.onDma n f).pendw = s.pendw ∧ (s.onDma n f).hbm = s.hbm ∧
    (s.onDma n f).flash = s.flash ∧ (s.onDma n f).pow = s.pow ∧ (s.onDma n f).nvm = s.nvm ∧ (s.onDma n f).therm = s.therm ∧
    (s.onDma n f).subs = s.subs ∧ (s.onDma n f).held = s.held ∧ (s.onDma n f).fwds = s.fwds ∧
    (s.onDma n f).followers = s.followers ∧ (s.onDma n f).conds = s.conds ∧ (s.onDma n f).spans = s.spans ∧
    (s.onDma n f).tbs = s.tbs ∧ (s.onDma n f).ptp = s.ptp ∧ (s.onDma n f).tps = s.tps ∧ (s.onDma n f).ports = s.ports ∧
    (s.onDma n f).conf = s.conf ∧ (s.onDma n f).pieces = s.pieces ∧ (s.onDma n f).ended = s.ended ∧
    (s.onDma n f).rejects = s.rejects ∧ (s.onDma n f).tgs = s.tgs ∧ (s.onDma n f).ring = s.ring ∧
    (s.onDma n f).windows = s.windows ∧ (s.onDma n f).dx = s.dx ∧ (s.onDma n f).keys = s.keys ∧ (s.onDma n f).cx = s.cx ∧
    (s.onDma n f).stop = s.stop ∧ (s.onDma n f).encs = s.encs ∧ (s.onDma n f).lgs = s.lgs ∧ (s.onDma n f).encouts = s.encouts ∧
    (s.onDma n f).probes = s.probes ∧ (s.onDma n f).mem = s.mem ∧ (s.onDma n f).darn = s.darn ∧ (s.onDma n f).gates = s.gates ∧
    (s.onDma n f).rinses = s.rinses ∧ (s.onDma n f).lanes = s.lanes ∧ (s.onDma n f).camRx = s.camRx ∧
    (s.onDma n f).reports = s.reports ∧ (s.onDma n f).heads = s.heads ∧ (s.onDma n f).slices = s.slices ∧
    (s.onDma n f).flights = s.flights ∧ (s.onDma n f).hist = s.hist ∧ (s.onDma n f).cams = s.cams ∧
    (s.onDma n f).iron = s.iron ∧ (s.onDma n f).evd = s.evd ∧ (s.onDma n f).evid = s.evid ∧ (s.onDma n f).seqs = s.seqs ∧
    (s.onDma n f).mismatches = s.mismatches ∧ (s.onDma n f).verify = s.verify ∧ (s.onDma n f).life = s.life ∧
    (s.onDma n f).lifeRem = s.lifeRem ∧ (s.onDma n f).jtag = s.jtag ∧ (s.onDma n f).unitsBad = s.unitsBad ∧
    (s.onDma n f).loops = s.loops ∧ (s.onDma n f).out = s.out ∧ (s.onDma n f).free = s.free ∧
    (s.onDma n f).pending = s.pending ∧ (∀ a, (s.onDma n f).word a = s.word a) ∧ (∀ g, (s.onDma n f).rd g = s.rd g) ∧
    (∀ g, (s.onDma n f).flag g = s.flag g) ∧ (∀ g, (s.onDma n f).rdI g = s.rdI g) ∧ (∀ g, (s.onDma n f).cf g = s.cf g) := by
  and_intros <;> intros <;> rfl

@[simp] theorem onNvm_frame (s : State) (f : Nvm → Nvm) :
    (s.onNvm f).time = s.time ∧ (s.onNvm f).regs = s.regs ∧ (s.onNvm f).pendw = s.pendw ∧ (s.onNvm f).hbm = s.hbm ∧
    (s.onNvm f).flash = s.flash ∧ (s.onNvm f).pow = s.pow ∧ (s.onNvm f).therm = s.therm ∧ (s.onNvm f).subs = s.subs ∧
    (s.onNvm f).held = s.held ∧ (s.onNvm f).fwds = s.fwds ∧ (s.onNvm f).followers = s.followers ∧ (s.onNvm f).conds = s.conds ∧
    (s.onNvm f).spans = s.spans ∧ (s.onNvm f).tbs = s.tbs ∧ (s.onNvm f).ptp = s.ptp ∧ (s.onNvm f).tps = s.tps ∧
    (s.onNvm f).ports = s.ports ∧ (s.onNvm f).conf = s.conf ∧ (s.onNvm f).pieces = s.pieces ∧ (s.onNvm f).ended = s.ended ∧
    (s.onNvm f).rejects = s.rejects ∧ (s.onNvm f).tgs = s.tgs ∧ (s.onNvm f).ring = s.ring ∧ (s.onNvm f).windows = s.windows ∧
    (s.onNvm f).dma = s.dma ∧ (s.onNvm f).dx = s.dx ∧ (s.onNvm f).keys = s.keys ∧ (s.onNvm f).cx = s.cx ∧
    (s.onNvm f).stop = s.stop ∧ (s.onNvm f).encs = s.encs ∧ (s.onNvm f).lgs = s.lgs ∧ (s.onNvm f).encouts = s.encouts ∧
    (s.onNvm f).probes = s.probes ∧ (s.onNvm f).mem = s.mem ∧ (s.onNvm f).darn = s.darn ∧ (s.onNvm f).gates = s.gates ∧
    (s.onNvm f).rinses = s.rinses ∧ (s.onNvm f).lanes = s.lanes ∧ (s.onNvm f).camRx = s.camRx ∧
    (s.onNvm f).reports = s.reports ∧ (s.onNvm f).heads = s.heads ∧ (s.onNvm f).slices = s.slices ∧
    (s.onNvm f).flights = s.flights ∧ (s.onNvm f).hist = s.hist ∧ (s.onNvm f).cams = s.cams ∧ (s.onNvm f).iron = s.iron ∧
    (s.onNvm f).evd = s.evd ∧ (s.onNvm f).evid = s.evid ∧ (s.onNvm f).seqs = s.seqs ∧ (s.onNvm f).mismatches = s.mismatches ∧
    (s.onNvm f).verify = s.verify ∧ (s.onNvm f).life = s.life ∧ (s.onNvm f).lifeRem = s.lifeRem ∧ (s.onNvm f).jtag = s.jtag ∧
    (s.onNvm f).unitsBad = s.unitsBad ∧ (s.onNvm f).loops = s.loops ∧ (s.onNvm f).out = s.out ∧ (s.onNvm f).free = s.free ∧
    (s.onNvm f).pending = s.pending ∧ (∀ a, (s.onNvm f).word a = s.word a) ∧ (∀ g, (s.onNvm f).rd g = s.rd g) ∧
    (∀ g, (s.onNvm f).flag g = s.flag g) ∧ (∀ g, (s.onNvm f).rdI g = s.rdI g) ∧ (∀ g, (s.onNvm f).cf g = s.cf g) := by
  and_intros <;> intros <;> rfl

@[simp] theorem onTherm_frame (s : State) (f : Therm → Therm) :
    (s.onTherm f).time = s.time ∧ (s.onTherm f).regs = s.regs ∧ (s.onTherm f).pendw = s.pendw ∧ (s.onTherm f).hbm = s.hbm ∧
    (s.onTherm f).flash = s.flash ∧ (s.onTherm f).pow = s.pow ∧ (s.onTherm f).nvm = s.nvm ∧ (s.onTherm f).subs = s.subs ∧
    (s.onTherm f).held = s.held ∧ (s.onTherm f).fwds = s.fwds ∧ (s.onTherm f).followers = s.followers ∧
    (s.onTherm f).conds = s.conds ∧ (s.onTherm f).spans = s.spans ∧ (s.onTherm f).tbs = s.tbs ∧ (s.onTherm f).ptp = s.ptp ∧
    (s.onTherm f).tps = s.tps ∧ (s.onTherm f).ports = s.ports ∧ (s.onTherm f).conf = s.conf ∧ (s.onTherm f).pieces = s.pieces ∧
    (s.onTherm f).ended = s.ended ∧ (s.onTherm f).rejects = s.rejects ∧ (s.onTherm f).tgs = s.tgs ∧
    (s.onTherm f).ring = s.ring ∧ (s.onTherm f).windows = s.windows ∧ (s.onTherm f).dma = s.dma ∧ (s.onTherm f).dx = s.dx ∧
    (s.onTherm f).keys = s.keys ∧ (s.onTherm f).cx = s.cx ∧ (s.onTherm f).stop = s.stop ∧ (s.onTherm f).encs = s.encs ∧
    (s.onTherm f).lgs = s.lgs ∧ (s.onTherm f).encouts = s.encouts ∧ (s.onTherm f).probes = s.probes ∧
    (s.onTherm f).mem = s.mem ∧ (s.onTherm f).darn = s.darn ∧ (s.onTherm f).gates = s.gates ∧ (s.onTherm f).rinses = s.rinses ∧
    (s.onTherm f).lanes = s.lanes ∧ (s.onTherm f).camRx = s.camRx ∧ (s.onTherm f).reports = s.reports ∧
    (s.onTherm f).heads = s.heads ∧ (s.onTherm f).slices = s.slices ∧ (s.onTherm f).flights = s.flights ∧
    (s.onTherm f).hist = s.hist ∧ (s.onTherm f).cams = s.cams ∧ (s.onTherm f).iron = s.iron ∧ (s.onTherm f).evd = s.evd ∧
    (s.onTherm f).evid = s.evid ∧ (s.onTherm f).seqs = s.seqs ∧ (s.onTherm f).mismatches = s.mismatches ∧
    (s.onTherm f).verify = s.verify ∧ (s.onTherm f).life = s.life ∧ (s.onTherm f).lifeRem = s.lifeRem ∧
    (s.onTherm f).jtag = s.jtag ∧ (s.onTherm f).unitsBad = s.unitsBad ∧ (s.onTherm f).loops = s.loops ∧
    (s.onTherm f).out = s.out ∧ (s.onTherm f).free = s.free ∧ (s.onTherm f).pending = s.pending ∧
    (∀ a, (s.onTherm f).word a = s.word a) ∧ (∀ g, (s.onTherm f).rd g = s.rd g) ∧ (∀ g, (s.onTherm f).flag g = s.flag g) ∧
    (∀ g, (s.onTherm f).rdI g = s.rdI g) ∧ (∀ g, (s.onTherm f).cf g = s.cf g) := by
  and_intros <;> intros <;> rfl

@[simp] theorem onHead_frame (s : State) (c : Nat) (f : Head → Head) :
    (s.onHead c f).time = s.time ∧ (s.onHead c f).regs = s.regs ∧ (s.onHead c f).pendw = s.pendw ∧ (s.onHead c f).hbm = s.hbm ∧
    (s.onHead c f).flash = s.flash ∧ (s.onHead c f).pow = s.pow ∧ (s.onHead c f).nvm = s.nvm ∧ (s.onHead c f).therm = s.therm ∧
    (s.onHead c f).subs = s.subs ∧ (s.onHead c f).held = s.held ∧ (s.onHead c f).fwds = s.fwds ∧
    (s.onHead c f).followers = s.followers ∧ (s.onHead c f).conds = s.conds ∧ (s.onHead c f).spans = s.spans ∧
    (s.onHead c f).tbs = s.tbs ∧ (s.onHead c f).ptp = s.ptp ∧ (s.onHead c f).tps = s.tps ∧ (s.onHead c f).ports = s.ports ∧
    (s.onHead c f).conf = s.conf ∧ (s.onHead c f).pieces = s.pieces ∧ (s.onHead c f).ended = s.ended ∧
    (s.onHead c f).rejects = s.rejects ∧ (s.onHead c f).tgs = s.tgs ∧ (s.onHead c f).ring = s.ring ∧
    (s.onHead c f).windows = s.windows ∧ (s.onHead c f).dma = s.dma ∧ (s.onHead c f).dx = s.dx ∧ (s.onHead c f).keys = s.keys ∧
    (s.onHead c f).cx = s.cx ∧ (s.onHead c f).stop = s.stop ∧ (s.onHead c f).encs = s.encs ∧ (s.onHead c f).lgs = s.lgs ∧
    (s.onHead c f).encouts = s.encouts ∧ (s.onHead c f).probes = s.probes ∧ (s.onHead c f).mem = s.mem ∧
    (s.onHead c f).darn = s.darn ∧ (s.onHead c f).gates = s.gates ∧ (s.onHead c f).rinses = s.rinses ∧
    (s.onHead c f).lanes = s.lanes ∧ (s.onHead c f).camRx = s.camRx ∧ (s.onHead c f).reports = s.reports ∧
    (s.onHead c f).slices = s.slices ∧ (s.onHead c f).flights = s.flights ∧ (s.onHead c f).hist = s.hist ∧
    (s.onHead c f).cams = s.cams ∧ (s.onHead c f).iron = s.iron ∧ (s.onHead c f).evd = s.evd ∧ (s.onHead c f).evid = s.evid ∧
    (s.onHead c f).seqs = s.seqs ∧ (s.onHead c f).mismatches = s.mismatches ∧ (s.onHead c f).verify = s.verify ∧
    (s.onHead c f).life = s.life ∧ (s.onHead c f).lifeRem = s.lifeRem ∧ (s.onHead c f).jtag = s.jtag ∧
    (s.onHead c f).unitsBad = s.unitsBad ∧ (s.onHead c f).loops = s.loops ∧ (s.onHead c f).out = s.out ∧
    (s.onHead c f).free = s.free ∧ (s.onHead c f).pending = s.pending ∧ (∀ a, (s.onHead c f).word a = s.word a) ∧
    (∀ g, (s.onHead c f).rd g = s.rd g) ∧ (∀ g, (s.onHead c f).flag g = s.flag g) ∧ (∀ g, (s.onHead c f).rdI g = s.rdI g) ∧
    (∀ g, (s.onHead c f).cf g = s.cf g) := by
  and_intros <;> intros <;> rfl

@[simp] theorem onPow_frame (s : State) (f : Power → Power) :
    (s.onPow f).time = s.time ∧ (s.onPow f).regs = s.regs ∧ (s.onPow f).pendw = s.pendw ∧ (s.onPow f).hbm = s.hbm ∧
    (s.onPow f).flash = s.flash ∧ (s.onPow f).nvm = s.nvm ∧ (s.onPow f).therm = s.therm ∧ (s.onPow f).subs = s.subs ∧
    (s.onPow f).held = s.held ∧ (s.onPow f).fwds = s.fwds ∧ (s.onPow f).followers = s.followers ∧ (s.onPow f).conds = s.conds ∧
    (s.onPow f).spans = s.spans ∧ (s.onPow f).tbs = s.tbs ∧ (s.onPow f).ptp = s.ptp ∧ (s.onPow f).tps = s.tps ∧
    (s.onPow f).ports = s.ports ∧ (s.onPow f).conf = s.conf ∧ (s.onPow f).pieces = s.pieces ∧ (s.onPow f).ended = s.ended ∧
    (s.onPow f).rejects = s.rejects ∧ (s.onPow f).tgs = s.tgs ∧ (s.onPow f).ring = s.ring ∧ (s.onPow f).windows = s.windows ∧
    (s.onPow f).dma = s.dma ∧ (s.onPow f).dx = s.dx ∧ (s.onPow f).keys = s.keys ∧ (s.onPow f).cx = s.cx ∧
    (s.onPow f).stop = s.stop ∧ (s.onPow f).encs = s.encs ∧ (s.onPow f).lgs = s.lgs ∧ (s.onPow f).encouts = s.encouts ∧
    (s.onPow f).probes = s.probes ∧ (s.onPow f).mem = s.mem ∧ (s.onPow f).darn = s.darn ∧ (s.onPow f).gates = s.gates ∧
    (s.onPow f).rinses = s.rinses ∧ (s.onPow f).lanes = s.lanes ∧ (s.onPow f).camRx = s.camRx ∧
    (s.onPow f).reports = s.reports ∧ (s.onPow f).heads = s.heads ∧ (s.onPow f).slices = s.slices ∧
    (s.onPow f).flights = s.flights ∧ (s.onPow f).hist = s.hist ∧ (s.onPow f).cams = s.cams ∧ (s.onPow f).iron = s.iron ∧
    (s.onPow f).evd = s.evd ∧ (s.onPow f).evid = s.evid ∧ (s.onPow f).seqs = s.seqs ∧ (s.onPow f).mismatches = s.mismatches ∧
    (s.onPow f).verify = s.verify ∧ (s.onPow f).life = s.life ∧ (s.onPow f).lifeRem = s.lifeRem ∧ (s.onPow f).jtag = s.jtag ∧
    (s.onPow f).unitsBad = s.unitsBad ∧ (s.onPow f).loops = s.loops ∧ (s.onPow f).out = s.out ∧ (s.onPow f).free = s.free ∧
    (s.onPow f).pending = s.pending ∧ (∀ a, (s.onPow f).word a = s.word a) ∧ (∀ g, (s.onPow f).rd g = s.rd g) ∧
    (∀ g, (s.onPow f).flag g = s.flag g) ∧ (∀ g, (s.onPow f).rdI g = s.rdI g) ∧ (∀ g, (s.onPow f).cf g = s.cf g) := by
  and_intros <;> intros <;> rfl

@[simp] theorem onFollower_frame (s : State) (k : Nat) (f : Follower → Follower) :
    (s.onFollower k f).time = s.time ∧ (s.onFollower k f).regs = s.regs ∧ (s.onFollower k f).pendw = s.pendw ∧
    (s.onFollower k f).hbm = s.hbm ∧ (s.onFollower k f).flash = s.flash ∧ (s.onFollower k f).pow = s.pow ∧
    (s.onFollower k f).nvm = s.nvm ∧ (s.onFollower k f).therm = s.therm ∧ (s.onFollower k f).subs = s.subs ∧
    (s.onFollower k f).held = s.held ∧ (s.onFollower k f).fwds = s.fwds ∧ (s.onFollower k f).conds = s.conds ∧
    (s.onFollower k f).spans = s.spans ∧ (s.onFollower k f).tbs = s.tbs ∧ (s.onFollower k f).ptp = s.ptp ∧
    (s.onFollower k f).tps = s.tps ∧ (s.onFollower k f).ports = s.ports ∧ (s.onFollower k f).conf = s.conf ∧
    (s.onFollower k f).pieces = s.pieces ∧ (s.onFollower k f).ended = s.ended ∧ (s.onFollower k f).rejects = s.rejects ∧
    (s.onFollower k f).tgs = s.tgs ∧ (s.onFollower k f).ring = s.ring ∧ (s.onFollower k f).windows = s.windows ∧
    (s.onFollower k f).dma = s.dma ∧ (s.onFollower k f).dx = s.dx ∧ (s.onFollower k f).keys = s.keys ∧
    (s.onFollower k f).cx = s.cx ∧ (s.onFollower k f).stop = s.stop ∧ (s.onFollower k f).encs = s.encs ∧
    (s.onFollower k f).lgs = s.lgs ∧ (s.onFollower k f).encouts = s.encouts ∧ (s.onFollower k f).probes = s.probes ∧
    (s.onFollower k f).mem = s.mem ∧ (s.onFollower k f).darn = s.darn ∧ (s.onFollower k f).gates = s.gates ∧
    (s.onFollower k f).rinses = s.rinses ∧ (s.onFollower k f).lanes = s.lanes ∧ (s.onFollower k f).camRx = s.camRx ∧
    (s.onFollower k f).reports = s.reports ∧ (s.onFollower k f).heads = s.heads ∧ (s.onFollower k f).slices = s.slices ∧
    (s.onFollower k f).flights = s.flights ∧ (s.onFollower k f).hist = s.hist ∧ (s.onFollower k f).cams = s.cams ∧
    (s.onFollower k f).iron = s.iron ∧ (s.onFollower k f).evd = s.evd ∧ (s.onFollower k f).evid = s.evid ∧
    (s.onFollower k f).seqs = s.seqs ∧ (s.onFollower k f).mismatches = s.mismatches ∧ (s.onFollower k f).verify = s.verify ∧
    (s.onFollower k f).life = s.life ∧ (s.onFollower k f).lifeRem = s.lifeRem ∧ (s.onFollower k f).jtag = s.jtag ∧
    (s.onFollower k f).unitsBad = s.unitsBad ∧ (s.onFollower k f).loops = s.loops ∧ (s.onFollower k f).out = s.out ∧
    (s.onFollower k f).free = s.free ∧ (s.onFollower k f).pending = s.pending ∧ (∀ a, (s.onFollower k f).word a = s.word a) ∧
    (∀ g, (s.onFollower k f).rd g = s.rd g) ∧ (∀ g, (s.onFollower k f).flag g = s.flag g) ∧
    (∀ g, (s.onFollower k f).rdI g = s.rdI g) ∧ (∀ g, (s.onFollower k f).cf g = s.cf g) := by
  and_intros <;> intros <;> rfl

end Sys2Proof.Machine
end

