-- ==== Sys2Proof/Laws/Regs.lean ====
section
/-! SUPPORT. Reading a field after writing a field. -/

namespace Sys2Proof.Machine

theorem bits_lt (v lo w : Nat) : bits v lo w < 2 ^ w := Nat.mod_lt _ (Nat.two_pow_pos w)

theorem bits_mod (v lo w n : Nat) (h : lo + w ≤ n) : bits (v % 2 ^ n) lo w = bits v lo w := by
  unfold bits
  rw [show 2 ^ n = 2 ^ lo * 2 ^ (n - lo) by rw [← Nat.pow_add]; congr 1; omega, Nat.mod_mul_right_div_self,
    Nat.mod_mod_of_dvd _ (Nat.pow_dvd_pow 2 (by omega))]

theorem withBits_low (v lo w x : Nat) : withBits v lo w x % 2 ^ lo = v % 2 ^ lo := by
  unfold withBits
  rw [Nat.pow_add, ← Nat.mul_assoc, Nat.mul_right_comm, ← Nat.add_mul]
  simp

theorem withBits_lower (v lo w x : Nat) : x % 2 ^ w * 2 ^ lo + v % 2 ^ lo < 2 ^ (lo + w) := by
  have h1 : x % 2 ^ w + 1 ≤ 2 ^ w := Nat.mod_lt _ (Nat.two_pow_pos w)
  have h2 : v % 2 ^ lo < 2 ^ lo := Nat.mod_lt _ (Nat.two_pow_pos lo)
  have h3 := Nat.mul_le_mul_right (2 ^ lo) h1
  rw [Nat.pow_add, Nat.mul_comm (2 ^ lo)]
  rw [Nat.add_mul] at h3
  omega

theorem withBits_high (v lo w x : Nat) : withBits v lo w x / 2 ^ (lo + w) = v / 2 ^ (lo + w) := by
  have h := withBits_lower v lo w x
  unfold withBits
  rw [Nat.add_assoc, Nat.add_comm, Nat.add_mul_div_right _ _ (Nat.two_pow_pos _), Nat.div_eq_of_lt h, Nat.zero_add]

/-- The bits written. -/
theorem bits_withBits_same (v lo w x : Nat) : bits (withBits v lo w x) lo w = x % 2 ^ w := by
  have h2 : v % 2 ^ lo < 2 ^ lo := Nat.mod_lt _ (Nat.two_pow_pos lo)
  unfold bits withBits
  rw [Nat.pow_add, ← Nat.mul_assoc, Nat.mul_right_comm, ← Nat.add_mul, Nat.add_comm,
    Nat.add_mul_div_right _ _ (Nat.two_pow_pos lo), Nat.div_eq_of_lt h2, Nat.zero_add, Nat.mul_add_mod_self_right, Nat.mod_mod]

/-- Bits apart from those written. -/
theorem bits_withBits_ne (v lo w x lo' w' : Nat) (h : lo' + w' ≤ lo ∨ lo + w ≤ lo') :
    bits (withBits v lo w x) lo' w' = bits v lo' w' := by
  rcases h with h | h
  · rw [← bits_mod _ _ _ _ h, withBits_low, bits_mod _ _ _ _ h]
  · unfold bits
    rw [show 2 ^ lo' = 2 ^ (lo + w) * 2 ^ (lo' - (lo + w)) by rw [← Nat.pow_add]; congr 1; omega, ← Nat.div_div_eq_div_mul,
      withBits_high, Nat.div_div_eq_div_mul]

@[simp] theorem word_setWord_same (s : State) (a : Nat) (w : Word) : (s.setWord a w).word a = w := by
  have h := find_splice_in (regDefault a) s.regs a 0 [w] (by simp)
  simp only [Nat.add_zero, List.getElem_cons_zero] at h
  unfold State.word State.setWord
  simp only
  generalize Sparse.find _ a = o at h
  cases o <;> simpa using h

theorem word_setWord_ne (s : State) (a b : Nat) (w : Word) (h : b ≠ a) : (s.setWord a w).word b = s.word b := by
  unfold State.word State.setWord
  simp only
  rw [find_splice_out]
  simp only [List.length_cons, List.length_nil]
  omega

theorem word_wr_ne (s : State) (f : Field) (v a : Nat) (h : a ≠ f.addr) : (s.wr f v).word a = s.word a :=
  word_setWord_ne s f.addr a _ h

/-- The field lies inside its word. -/
def Field.fits (f : Field) : Bool := decide (f.lo + f.width ≤ 32)

/-- Two fields share no bit. -/
def Field.apart (f g : Field) : Bool := f.addr != g.addr || decide (f.lo + f.width ≤ g.lo) || decide (g.lo + g.width ≤ f.lo)

theorem rd_wr_same (s : State) (f : Field) (v : Nat) (h : f.fits = true) : (s.wr f v).rd f = v % 2 ^ f.width := by
  simp only [Field.fits, decide_eq_true_eq] at h
  simp only [State.rd, State.wr, word_setWord_same, BitVec.toNat_ofNat]
  rw [bits_mod _ _ _ _ h, bits_withBits_same]

theorem rd_wr_apart (s : State) (f g : Field) (v : Nat) (hg : g.fits = true) (h : f.apart g = true) : (s.wr f v).rd g = s.rd g := by
  simp only [Field.fits, decide_eq_true_eq] at hg
  by_cases e : g.addr = f.addr
  · simp only [Field.apart, e, bne_self_eq_false, Bool.false_or, Bool.or_eq_true, decide_eq_true_eq] at h
    simp only [State.rd, State.wr, e, word_setWord_same, BitVec.toNat_ofNat]
    rw [bits_mod _ _ _ _ hg, bits_withBits_ne _ _ _ _ _ _ (by omega)]
  · simp only [State.rd, word_wr_ne s f v g.addr e]

/-- A field in another word reads as before. -/
theorem rd_wr_word (s : State) (f g : Field) (v : Nat) (h : g.addr ≠ f.addr) : (s.wr f v).rd g = s.rd g := by
  simp only [State.rd, word_wr_ne s f v g.addr h]

theorem rd_lt (s : State) (f : Field) : s.rd f < 2 ^ f.width := bits_lt _ _ _

/-- What a field reads depends on its word only. -/
theorem rd_congr (s t : State) (f : Field) (h : s.word f.addr = t.word f.addr) : s.rd f = t.rd f := by simp only [State.rd, h]

theorem word_congr (s t : State) (a : Nat) (h : s.regs = t.regs) : s.word a = t.word a := by simp only [State.word, h]

end Sys2Proof.Machine
end

