-- ==== Sys2Proof/Laws/Plumbing.lean ====
section
/-! SUPPORT. What raising an event, sending and answering leave alone. -/

namespace Sys2Proof.Machine

variable {s t : State}

/-- The state less what events, replies and their counts may change: registers, lifetime counts, what the journal owes, subscriber
queues, what was sent, the ports, the draws, held replies and active conditions. -/
def State.quiet_ (s : State) : State :=
  { s with regs := [], life := [], nvm := {}, subs := [], out := [], ports := [], free := 0, held := [], conds := [] }

@[simp] theorem wr_quiet (s : State) (f : Field) (v : Nat) : (s.wr f v).quiet_ = s.quiet_ := rfl

@[simp] theorem inc_quiet (s : State) (f : Field) : (s.inc f).quiet_ = s.quiet_ := rfl

@[simp] theorem add_quiet (s : State) (f : Field) (n : Nat) : (s.add f n).quiet_ = s.quiet_ := rfl

@[simp] theorem lifeAdd_quiet (s : State) (off width n : Nat) : (s.lifeAdd off width n).quiet_ = s.quiet_ := rfl

@[simp] theorem emit_quiet (s : State) (o : Output) : (s.emit o).quiet_ = s.quiet_ := rfl

@[simp] theorem drawn_quiet (s : State) : s.drawn.quiet_ = s.quiet_ := rfl

@[simp] theorem onSub_quiet (s : State) (k : Nat) (f : Sub → Sub) : (s.onSub k f).quiet_ = s.quiet_ := rfl

@[simp] theorem onPort_quiet (s : State) (np : Nat) (f : Port → Port) : (s.onPort np f).quiet_ = s.quiet_ := rfl

@[simp] theorem onNvm_quiet (s : State) (f : Nvm → Nvm) : (s.onNvm f).quiet_ = s.quiet_ := rfl

theorem same_of_quiet (h : t.quiet_ = s.quiet_) :
    t.time = s.time ∧ t.pendw = s.pendw ∧ t.hbm = s.hbm ∧ t.flash = s.flash ∧ t.pow = s.pow ∧ t.therm = s.therm ∧
    t.fwds = s.fwds ∧ t.followers = s.followers ∧ t.spans = s.spans ∧ t.tbs = s.tbs ∧ t.ptp = s.ptp ∧ t.tps = s.tps ∧
    t.conf = s.conf ∧ t.pieces = s.pieces ∧ t.ended = s.ended ∧ t.rejects = s.rejects ∧ t.tgs = s.tgs ∧ t.ring = s.ring ∧
    t.windows = s.windows ∧ t.dma = s.dma ∧ t.dx = s.dx ∧ t.keys = s.keys ∧ t.cx = s.cx ∧ t.stop = s.stop ∧ t.encs = s.encs ∧
    t.lgs = s.lgs ∧ t.encouts = s.encouts ∧ t.probes = s.probes ∧ t.mem = s.mem ∧ t.darn = s.darn ∧ t.gates = s.gates ∧
    t.rinses = s.rinses ∧ t.lanes = s.lanes ∧ t.camRx = s.camRx ∧ t.reports = s.reports ∧ t.heads = s.heads ∧
    t.slices = s.slices ∧ t.flights = s.flights ∧ t.hist = s.hist ∧ t.cams = s.cams ∧ t.iron = s.iron ∧ t.evd = s.evd ∧
    t.evid = s.evid ∧ t.seqs = s.seqs ∧ t.mismatches = s.mismatches ∧ t.verify = s.verify ∧ t.lifeRem = s.lifeRem ∧
    t.jtag = s.jtag ∧ t.unitsBad = s.unitsBad ∧ t.loops = s.loops ∧ t.pending = s.pending ∧ (∀ g, t.cf g = s.cf g) := by
  refine ⟨?_, ?_, ?_, ?_, ?_, ?_, ?_, ?_, ?_, ?_, ?_, ?_, ?_, ?_, ?_, ?_, ?_, ?_, ?_, ?_, ?_, ?_, ?_, ?_, ?_, ?_, ?_,
    ?_, ?_, ?_, ?_, ?_, ?_, ?_, ?_, ?_, ?_, ?_, ?_, ?_, ?_, ?_, ?_, ?_, ?_, ?_, ?_, ?_, ?_, ?_, ?_, ?_⟩
  · show t.quiet_.time = s.quiet_.time; rw [h]
  · show t.quiet_.pendw = s.quiet_.pendw; rw [h]
  · show t.quiet_.hbm = s.quiet_.hbm; rw [h]
  · show t.quiet_.flash = s.quiet_.flash; rw [h]
  · show t.quiet_.pow = s.quiet_.pow; rw [h]
  · show t.quiet_.therm = s.quiet_.therm; rw [h]
  · show t.quiet_.fwds = s.quiet_.fwds; rw [h]
  · show t.quiet_.followers = s.quiet_.followers; rw [h]
  · show t.quiet_.spans = s.quiet_.spans; rw [h]
  · show t.quiet_.tbs = s.quiet_.tbs; rw [h]
  · show t.quiet_.ptp = s.quiet_.ptp; rw [h]
  · show t.quiet_.tps = s.quiet_.tps; rw [h]
  · show t.quiet_.conf = s.quiet_.conf; rw [h]
  · show t.quiet_.pieces = s.quiet_.pieces; rw [h]
  · show t.quiet_.ended = s.quiet_.ended; rw [h]
  · show t.quiet_.rejects = s.quiet_.rejects; rw [h]
  · show t.quiet_.tgs = s.quiet_.tgs; rw [h]
  · show t.quiet_.ring = s.quiet_.ring; rw [h]
  · show t.quiet_.windows = s.quiet_.windows; rw [h]
  · show t.quiet_.dma = s.quiet_.dma; rw [h]
  · show t.quiet_.dx = s.quiet_.dx; rw [h]
  · show t.quiet_.keys = s.quiet_.keys; rw [h]
  · show t.quiet_.cx = s.quiet_.cx; rw [h]
  · show t.quiet_.stop = s.quiet_.stop; rw [h]
  · show t.quiet_.encs = s.quiet_.encs; rw [h]
  · show t.quiet_.lgs = s.quiet_.lgs; rw [h]
  · show t.quiet_.encouts = s.quiet_.encouts; rw [h]
  · show t.quiet_.probes = s.quiet_.probes; rw [h]
  · show t.quiet_.mem = s.quiet_.mem; rw [h]
  · show t.quiet_.darn = s.quiet_.darn; rw [h]
  · show t.quiet_.gates = s.quiet_.gates; rw [h]
  · show t.quiet_.rinses = s.quiet_.rinses; rw [h]
  · show t.quiet_.lanes = s.quiet_.lanes; rw [h]
  · show t.quiet_.camRx = s.quiet_.camRx; rw [h]
  · show t.quiet_.reports = s.quiet_.reports; rw [h]
  · show t.quiet_.heads = s.quiet_.heads; rw [h]
  · show t.quiet_.slices = s.quiet_.slices; rw [h]
  · show t.quiet_.flights = s.quiet_.flights; rw [h]
  · show t.quiet_.hist = s.quiet_.hist; rw [h]
  · show t.quiet_.cams = s.quiet_.cams; rw [h]
  · show t.quiet_.iron = s.quiet_.iron; rw [h]
  · show t.quiet_.evd = s.quiet_.evd; rw [h]
  · show t.quiet_.evid = s.quiet_.evid; rw [h]
  · show t.quiet_.seqs = s.quiet_.seqs; rw [h]
  · show t.quiet_.mismatches = s.quiet_.mismatches; rw [h]
  · show t.quiet_.verify = s.quiet_.verify; rw [h]
  · show t.quiet_.lifeRem = s.quiet_.lifeRem; rw [h]
  · show t.quiet_.jtag = s.quiet_.jtag; rw [h]
  · show t.quiet_.unitsBad = s.quiet_.unitsBad; rw [h]
  · show t.quiet_.loops = s.quiet_.loops; rw [h]
  · show t.quiet_.pending = s.quiet_.pending; rw [h]
  · intro g; show t.quiet_.cf g = s.quiet_.cf g; rw [h]

@[simp] theorem resolve_quiet (s : State) (np : Nat) (hop : Word) (ds : List Datagram) (refresh : Bool) : (s.resolve np hop ds refresh).quiet_ = s.quiet_ := by
  unfold State.resolve
  split <;> rfl

@[simp] theorem send_quiet (s : State) (d : Datagram) : (s.send d).quiet_ = s.quiet_ := by
  unfold State.send
  (repeat' split) <;> simp

@[simp] theorem enqueue_quiet (s : State) (e : Event) (source arg : Word) (cleared : Bool) (k : Nat) : (s.enqueue e source arg cleared k).quiet_ = s.quiet_ := by
  unfold State.enqueue
  split <;> simp

@[simp] theorem sendEvents_quiet (s : State) (k : Nat) (pick : EvRec → Bool) : (s.sendEvents k pick).quiet_ = s.quiet_ := by
  simp only [State.sendEvents]
  split <;> simp

@[simp] theorem flushEvents_quiet (s : State) : (s.flushEvents).quiet_ = s.quiet_ := by
  unfold State.flushEvents
  split <;> simp [List.range, List.range.loop]

@[simp] theorem latchFault_quiet (s : State) (e : Event) : (s.latchFault e).quiet_ = s.quiet_ := by
  simp only [State.latchFault]
  split <;> rfl

@[simp] theorem journalDue_quiet (s : State) (cause : Nat) : (s.journalDue cause).quiet_ = s.quiet_ := by
  simp only [State.journalDue]
  (repeat' split) <;> rfl

@[simp] theorem journalEvent_quiet (s : State) (e : Event) : (s.journalEvent e).quiet_ = s.quiet_ := by
  unfold State.journalEvent
  split <;> simp

@[simp] theorem raise_quiet (s : State) (e : Event) (source arg : Nat) : (s.raise e source arg).quiet_ = s.quiet_ := by
  simp [State.raise, List.range, List.range.loop]

@[simp] theorem condOn_quiet (s : State) (e : Event) (source arg : Nat) : (s.condOn e source arg).quiet_ = s.quiet_ := by
  unfold State.condOn
  split
  · rfl
  · exact (raise_quiet _ _ _ _).trans rfl

@[simp] theorem condOff_quiet (s : State) (e : Event) (source arg : Nat) : (s.condOff e source arg).quiet_ = s.quiet_ := by
  unfold State.condOff
  split
  · simp [List.range, List.range.loop] <;> rfl
  · rfl

@[simp] theorem cond_quiet (s : State) (b : Bool) (e : Event) (source arg : Nat) : (s.cond b e source arg).quiet_ = s.quiet_ := by
  unfold State.cond
  split <;> simp

@[simp] theorem sendReply_quiet (s : State) (m : Msg) (type status : Nat) (payload : List Byte) : (s.sendReply m type status payload).quiet_ = s.quiet_ := by
  simp [State.sendReply]

@[simp] theorem hold_quiet (s : State) (m : Msg) (type status : Nat) (payload : List Byte) : (s.hold m type status payload).quiet_ = s.quiet_ := by
  rfl

@[simp] theorem countRefused_quiet (s : State) (type status : Nat) : (s.countRefused type status).quiet_ = s.quiet_ := by
  unfold State.countRefused
  split <;> simp

@[simp] theorem answer_quiet (s : State) (m : Msg) (type : Nat) (stored quiet : Bool) (status : Nat) (payload : List Byte) : (s.answer m type stored quiet status payload).quiet_ = s.quiet_ := by
  simp only [State.answer]
  (repeat' split) <;> simp

@[simp] theorem cfgWrite_quiet (s : State) : (s.cfgWrite).quiet_ = s.quiet_ := by
  simp [State.cfgWrite]

@[simp] theorem cfgIgnored_quiet (s : State) : (s.cfgIgnored).quiet_ = s.quiet_ := by
  simp [State.cfgIgnored]

@[simp] theorem resolve_frame (s : State) (np : Nat) (hop : Word) (ds : List Datagram) (refresh : Bool) :
    (s.resolve np hop ds refresh).time = s.time ∧ (s.resolve np hop ds refresh).pendw = s.pendw ∧
    (s.resolve np hop ds refresh).hbm = s.hbm ∧ (s.resolve np hop ds refresh).flash = s.flash ∧
    (s.resolve np hop ds refresh).pow = s.pow ∧ (s.resolve np hop ds refresh).therm = s.therm ∧
    (s.resolve np hop ds refresh).fwds = s.fwds ∧ (s.resolve np hop ds refresh).followers = s.followers ∧
    (s.resolve np hop ds refresh).spans = s.spans ∧ (s.resolve np hop ds refresh).tbs = s.tbs ∧
    (s.resolve np hop ds refresh).ptp = s.ptp ∧ (s.resolve np hop ds refresh).tps = s.tps ∧
    (s.resolve np hop ds refresh).conf = s.conf ∧ (s.resolve np hop ds refresh).pieces = s.pieces ∧
    (s.resolve np hop ds refresh).ended = s.ended ∧ (s.resolve np hop ds refresh).rejects = s.rejects ∧
    (s.resolve np hop ds refresh).tgs = s.tgs ∧ (s.resolve np hop ds refresh).ring = s.ring ∧
    (s.resolve np hop ds refresh).windows = s.windows ∧ (s.resolve np hop ds refresh).dma = s.dma ∧
    (s.resolve np hop ds refresh).dx = s.dx ∧ (s.resolve np hop ds refresh).keys = s.keys ∧
    (s.resolve np hop ds refresh).cx = s.cx ∧ (s.resolve np hop ds refresh).stop = s.stop ∧
    (s.resolve np hop ds refresh).encs = s.encs ∧ (s.resolve np hop ds refresh).lgs = s.lgs ∧
    (s.resolve np hop ds refresh).encouts = s.encouts ∧ (s.resolve np hop ds refresh).probes = s.probes ∧
    (s.resolve np hop ds refresh).mem = s.mem ∧ (s.resolve np hop ds refresh).darn = s.darn ∧
    (s.resolve np hop ds refresh).gates = s.gates ∧ (s.resolve np hop ds refresh).rinses = s.rinses ∧
    (s.resolve np hop ds refresh).lanes = s.lanes ∧ (s.resolve np hop ds refresh).camRx = s.camRx ∧
    (s.resolve np hop ds refresh).reports = s.reports ∧ (s.resolve np hop ds refresh).heads = s.heads ∧
    (s.resolve np hop ds refresh).slices = s.slices ∧ (s.resolve np hop ds refresh).flights = s.flights ∧
    (s.resolve np hop ds refresh).hist = s.hist ∧ (s.resolve np hop ds refresh).cams = s.cams ∧
    (s.resolve np hop ds refresh).iron = s.iron ∧ (s.resolve np hop ds refresh).evd = s.evd ∧
    (s.resolve np hop ds refresh).evid = s.evid ∧ (s.resolve np hop ds refresh).seqs = s.seqs ∧
    (s.resolve np hop ds refresh).mismatches = s.mismatches ∧ (s.resolve np hop ds refresh).verify = s.verify ∧
    (s.resolve np hop ds refresh).lifeRem = s.lifeRem ∧ (s.resolve np hop ds refresh).jtag = s.jtag ∧
    (s.resolve np hop ds refresh).unitsBad = s.unitsBad ∧ (s.resolve np hop ds refresh).loops = s.loops ∧
    (s.resolve np hop ds refresh).pending = s.pending ∧ (∀ g, (s.resolve np hop ds refresh).cf g = s.cf g) := same_of_quiet (resolve_quiet s np hop ds refresh)

@[simp] theorem send_frame (s : State) (d : Datagram) :
    (s.send d).time = s.time ∧ (s.send d).pendw = s.pendw ∧ (s.send d).hbm = s.hbm ∧ (s.send d).flash = s.flash ∧
    (s.send d).pow = s.pow ∧ (s.send d).therm = s.therm ∧ (s.send d).fwds = s.fwds ∧ (s.send d).followers = s.followers ∧
    (s.send d).spans = s.spans ∧ (s.send d).tbs = s.tbs ∧ (s.send d).ptp = s.ptp ∧ (s.send d).tps = s.tps ∧
    (s.send d).conf = s.conf ∧ (s.send d).pieces = s.pieces ∧ (s.send d).ended = s.ended ∧ (s.send d).rejects = s.rejects ∧
    (s.send d).tgs = s.tgs ∧ (s.send d).ring = s.ring ∧ (s.send d).windows = s.windows ∧ (s.send d).dma = s.dma ∧
    (s.send d).dx = s.dx ∧ (s.send d).keys = s.keys ∧ (s.send d).cx = s.cx ∧ (s.send d).stop = s.stop ∧
    (s.send d).encs = s.encs ∧ (s.send d).lgs = s.lgs ∧ (s.send d).encouts = s.encouts ∧ (s.send d).probes = s.probes ∧
    (s.send d).mem = s.mem ∧ (s.send d).darn = s.darn ∧ (s.send d).gates = s.gates ∧ (s.send d).rinses = s.rinses ∧
    (s.send d).lanes = s.lanes ∧ (s.send d).camRx = s.camRx ∧ (s.send d).reports = s.reports ∧ (s.send d).heads = s.heads ∧
    (s.send d).slices = s.slices ∧ (s.send d).flights = s.flights ∧ (s.send d).hist = s.hist ∧ (s.send d).cams = s.cams ∧
    (s.send d).iron = s.iron ∧ (s.send d).evd = s.evd ∧ (s.send d).evid = s.evid ∧ (s.send d).seqs = s.seqs ∧
    (s.send d).mismatches = s.mismatches ∧ (s.send d).verify = s.verify ∧ (s.send d).lifeRem = s.lifeRem ∧
    (s.send d).jtag = s.jtag ∧ (s.send d).unitsBad = s.unitsBad ∧ (s.send d).loops = s.loops ∧ (s.send d).pending = s.pending ∧
    (∀ g, (s.send d).cf g = s.cf g) := same_of_quiet (send_quiet s d)

@[simp] theorem enqueue_frame (s : State) (e : Event) (source arg : Word) (cleared : Bool) (k : Nat) :
    (s.enqueue e source arg cleared k).time = s.time ∧ (s.enqueue e source arg cleared k).pendw = s.pendw ∧
    (s.enqueue e source arg cleared k).hbm = s.hbm ∧ (s.enqueue e source arg cleared k).flash = s.flash ∧
    (s.enqueue e source arg cleared k).pow = s.pow ∧ (s.enqueue e source arg cleared k).therm = s.therm ∧
    (s.enqueue e source arg cleared k).fwds = s.fwds ∧ (s.enqueue e source arg cleared k).followers = s.followers ∧
    (s.enqueue e source arg cleared k).spans = s.spans ∧ (s.enqueue e source arg cleared k).tbs = s.tbs ∧
    (s.enqueue e source arg cleared k).ptp = s.ptp ∧ (s.enqueue e source arg cleared k).tps = s.tps ∧
    (s.enqueue e source arg cleared k).conf = s.conf ∧ (s.enqueue e source arg cleared k).pieces = s.pieces ∧
    (s.enqueue e source arg cleared k).ended = s.ended ∧ (s.enqueue e source arg cleared k).rejects = s.rejects ∧
    (s.enqueue e source arg cleared k).tgs = s.tgs ∧ (s.enqueue e source arg cleared k).ring = s.ring ∧
    (s.enqueue e source arg cleared k).windows = s.windows ∧ (s.enqueue e source arg cleared k).dma = s.dma ∧
    (s.enqueue e source arg cleared k).dx = s.dx ∧ (s.enqueue e source arg cleared k).keys = s.keys ∧
    (s.enqueue e source arg cleared k).cx = s.cx ∧ (s.enqueue e source arg cleared k).stop = s.stop ∧
    (s.enqueue e source arg cleared k).encs = s.encs ∧ (s.enqueue e source arg cleared k).lgs = s.lgs ∧
    (s.enqueue e source arg cleared k).encouts = s.encouts ∧ (s.enqueue e source arg cleared k).probes = s.probes ∧
    (s.enqueue e source arg cleared k).mem = s.mem ∧ (s.enqueue e source arg cleared k).darn = s.darn ∧
    (s.enqueue e source arg cleared k).gates = s.gates ∧ (s.enqueue e source arg cleared k).rinses = s.rinses ∧
    (s.enqueue e source arg cleared k).lanes = s.lanes ∧ (s.enqueue e source arg cleared k).camRx = s.camRx ∧
    (s.enqueue e source arg cleared k).reports = s.reports ∧ (s.enqueue e source arg cleared k).heads = s.heads ∧
    (s.enqueue e source arg cleared k).slices = s.slices ∧ (s.enqueue e source arg cleared k).flights = s.flights ∧
    (s.enqueue e source arg cleared k).hist = s.hist ∧ (s.enqueue e source arg cleared k).cams = s.cams ∧
    (s.enqueue e source arg cleared k).iron = s.iron ∧ (s.enqueue e source arg cleared k).evd = s.evd ∧
    (s.enqueue e source arg cleared k).evid = s.evid ∧ (s.enqueue e source arg cleared k).seqs = s.seqs ∧
    (s.enqueue e source arg cleared k).mismatches = s.mismatches ∧ (s.enqueue e source arg cleared k).verify = s.verify ∧
    (s.enqueue e source arg cleared k).lifeRem = s.lifeRem ∧ (s.enqueue e source arg cleared k).jtag = s.jtag ∧
    (s.enqueue e source arg cleared k).unitsBad = s.unitsBad ∧ (s.enqueue e source arg cleared k).loops = s.loops ∧
    (s.enqueue e source arg cleared k).pending = s.pending ∧ (∀ g, (s.enqueue e source arg cleared k).cf g = s.cf g) := same_of_quiet (enqueue_quiet s e source arg cleared k)

@[simp] theorem sendEvents_frame (s : State) (k : Nat) (pick : EvRec → Bool) :
    (s.sendEvents k pick).time = s.time ∧ (s.sendEvents k pick).pendw = s.pendw ∧ (s.sendEvents k pick).hbm = s.hbm ∧
    (s.sendEvents k pick).flash = s.flash ∧ (s.sendEvents k pick).pow = s.pow ∧ (s.sendEvents k pick).therm = s.therm ∧
    (s.sendEvents k pick).fwds = s.fwds ∧ (s.sendEvents k pick).followers = s.followers ∧
    (s.sendEvents k pick).spans = s.spans ∧ (s.sendEvents k pick).tbs = s.tbs ∧ (s.sendEvents k pick).ptp = s.ptp ∧
    (s.sendEvents k pick).tps = s.tps ∧ (s.sendEvents k pick).conf = s.conf ∧ (s.sendEvents k pick).pieces = s.pieces ∧
    (s.sendEvents k pick).ended = s.ended ∧ (s.sendEvents k pick).rejects = s.rejects ∧ (s.sendEvents k pick).tgs = s.tgs ∧
    (s.sendEvents k pick).ring = s.ring ∧ (s.sendEvents k pick).windows = s.windows ∧ (s.sendEvents k pick).dma = s.dma ∧
    (s.sendEvents k pick).dx = s.dx ∧ (s.sendEvents k pick).keys = s.keys ∧ (s.sendEvents k pick).cx = s.cx ∧
    (s.sendEvents k pick).stop = s.stop ∧ (s.sendEvents k pick).encs = s.encs ∧ (s.sendEvents k pick).lgs = s.lgs ∧
    (s.sendEvents k pick).encouts = s.encouts ∧ (s.sendEvents k pick).probes = s.probes ∧ (s.sendEvents k pick).mem = s.mem ∧
    (s.sendEvents k pick).darn = s.darn ∧ (s.sendEvents k pick).gates = s.gates ∧ (s.sendEvents k pick).rinses = s.rinses ∧
    (s.sendEvents k pick).lanes = s.lanes ∧ (s.sendEvents k pick).camRx = s.camRx ∧ (s.sendEvents k pick).reports = s.reports ∧
    (s.sendEvents k pick).heads = s.heads ∧ (s.sendEvents k pick).slices = s.slices ∧
    (s.sendEvents k pick).flights = s.flights ∧ (s.sendEvents k pick).hist = s.hist ∧ (s.sendEvents k pick).cams = s.cams ∧
    (s.sendEvents k pick).iron = s.iron ∧ (s.sendEvents k pick).evd = s.evd ∧ (s.sendEvents k pick).evid = s.evid ∧
    (s.sendEvents k pick).seqs = s.seqs ∧ (s.sendEvents k pick).mismatches = s.mismatches ∧
    (s.sendEvents k pick).verify = s.verify ∧ (s.sendEvents k pick).lifeRem = s.lifeRem ∧ (s.sendEvents k pick).jtag = s.jtag ∧
    (s.sendEvents k pick).unitsBad = s.unitsBad ∧ (s.sendEvents k pick).loops = s.loops ∧
    (s.sendEvents k pick).pending = s.pending ∧ (∀ g, (s.sendEvents k pick).cf g = s.cf g) := same_of_quiet (sendEvents_quiet s k pick)

@[simp] theorem flushEvents_frame (s : State) :
    (s.flushEvents).time = s.time ∧ (s.flushEvents).pendw = s.pendw ∧ (s.flushEvents).hbm = s.hbm ∧
    (s.flushEvents).flash = s.flash ∧ (s.flushEvents).pow = s.pow ∧ (s.flushEvents).therm = s.therm ∧
    (s.flushEvents).fwds = s.fwds ∧ (s.flushEvents).followers = s.followers ∧ (s.flushEvents).spans = s.spans ∧
    (s.flushEvents).tbs = s.tbs ∧ (s.flushEvents).ptp = s.ptp ∧ (s.flushEvents).tps = s.tps ∧ (s.flushEvents).conf = s.conf ∧
    (s.flushEvents).pieces = s.pieces ∧ (s.flushEvents).ended = s.ended ∧ (s.flushEvents).rejects = s.rejects ∧
    (s.flushEvents).tgs = s.tgs ∧ (s.flushEvents).ring = s.ring ∧ (s.flushEvents).windows = s.windows ∧
    (s.flushEvents).dma = s.dma ∧ (s.flushEvents).dx = s.dx ∧ (s.flushEvents).keys = s.keys ∧ (s.flushEvents).cx = s.cx ∧
    (s.flushEvents).stop = s.stop ∧ (s.flushEvents).encs = s.encs ∧ (s.flushEvents).lgs = s.lgs ∧
    (s.flushEvents).encouts = s.encouts ∧ (s.flushEvents).probes = s.probes ∧ (s.flushEvents).mem = s.mem ∧
    (s.flushEvents).darn = s.darn ∧ (s.flushEvents).gates = s.gates ∧ (s.flushEvents).rinses = s.rinses ∧
    (s.flushEvents).lanes = s.lanes ∧ (s.flushEvents).camRx = s.camRx ∧ (s.flushEvents).reports = s.reports ∧
    (s.flushEvents).heads = s.heads ∧ (s.flushEvents).slices = s.slices ∧ (s.flushEvents).flights = s.flights ∧
    (s.flushEvents).hist = s.hist ∧ (s.flushEvents).cams = s.cams ∧ (s.flushEvents).iron = s.iron ∧
    (s.flushEvents).evd = s.evd ∧ (s.flushEvents).evid = s.evid ∧ (s.flushEvents).seqs = s.seqs ∧
    (s.flushEvents).mismatches = s.mismatches ∧ (s.flushEvents).verify = s.verify ∧ (s.flushEvents).lifeRem = s.lifeRem ∧
    (s.flushEvents).jtag = s.jtag ∧ (s.flushEvents).unitsBad = s.unitsBad ∧ (s.flushEvents).loops = s.loops ∧
    (s.flushEvents).pending = s.pending ∧ (∀ g, (s.flushEvents).cf g = s.cf g) := same_of_quiet (flushEvents_quiet s )

@[simp] theorem latchFault_frame (s : State) (e : Event) :
    (s.latchFault e).time = s.time ∧ (s.latchFault e).pendw = s.pendw ∧ (s.latchFault e).hbm = s.hbm ∧
    (s.latchFault e).flash = s.flash ∧ (s.latchFault e).pow = s.pow ∧ (s.latchFault e).therm = s.therm ∧
    (s.latchFault e).fwds = s.fwds ∧ (s.latchFault e).followers = s.followers ∧ (s.latchFault e).spans = s.spans ∧
    (s.latchFault e).tbs = s.tbs ∧ (s.latchFault e).ptp = s.ptp ∧ (s.latchFault e).tps = s.tps ∧
    (s.latchFault e).conf = s.conf ∧ (s.latchFault e).pieces = s.pieces ∧ (s.latchFault e).ended = s.ended ∧
    (s.latchFault e).rejects = s.rejects ∧ (s.latchFault e).tgs = s.tgs ∧ (s.latchFault e).ring = s.ring ∧
    (s.latchFault e).windows = s.windows ∧ (s.latchFault e).dma = s.dma ∧ (s.latchFault e).dx = s.dx ∧
    (s.latchFault e).keys = s.keys ∧ (s.latchFault e).cx = s.cx ∧ (s.latchFault e).stop = s.stop ∧
    (s.latchFault e).encs = s.encs ∧ (s.latchFault e).lgs = s.lgs ∧ (s.latchFault e).encouts = s.encouts ∧
    (s.latchFault e).probes = s.probes ∧ (s.latchFault e).mem = s.mem ∧ (s.latchFault e).darn = s.darn ∧
    (s.latchFault e).gates = s.gates ∧ (s.latchFault e).rinses = s.rinses ∧ (s.latchFault e).lanes = s.lanes ∧
    (s.latchFault e).camRx = s.camRx ∧ (s.latchFault e).reports = s.reports ∧ (s.latchFault e).heads = s.heads ∧
    (s.latchFault e).slices = s.slices ∧ (s.latchFault e).flights = s.flights ∧ (s.latchFault e).hist = s.hist ∧
    (s.latchFault e).cams = s.cams ∧ (s.latchFault e).iron = s.iron ∧ (s.latchFault e).evd = s.evd ∧
    (s.latchFault e).evid = s.evid ∧ (s.latchFault e).seqs = s.seqs ∧ (s.latchFault e).mismatches = s.mismatches ∧
    (s.latchFault e).verify = s.verify ∧ (s.latchFault e).lifeRem = s.lifeRem ∧ (s.latchFault e).jtag = s.jtag ∧
    (s.latchFault e).unitsBad = s.unitsBad ∧ (s.latchFault e).loops = s.loops ∧ (s.latchFault e).pending = s.pending ∧
    (∀ g, (s.latchFault e).cf g = s.cf g) := same_of_quiet (latchFault_quiet s e)

@[simp] theorem journalDue_frame (s : State) (cause : Nat) :
    (s.journalDue cause).time = s.time ∧ (s.journalDue cause).pendw = s.pendw ∧ (s.journalDue cause).hbm = s.hbm ∧
    (s.journalDue cause).flash = s.flash ∧ (s.journalDue cause).pow = s.pow ∧ (s.journalDue cause).therm = s.therm ∧
    (s.journalDue cause).fwds = s.fwds ∧ (s.journalDue cause).followers = s.followers ∧ (s.journalDue cause).spans = s.spans ∧
    (s.journalDue cause).tbs = s.tbs ∧ (s.journalDue cause).ptp = s.ptp ∧ (s.journalDue cause).tps = s.tps ∧
    (s.journalDue cause).conf = s.conf ∧ (s.journalDue cause).pieces = s.pieces ∧ (s.journalDue cause).ended = s.ended ∧
    (s.journalDue cause).rejects = s.rejects ∧ (s.journalDue cause).tgs = s.tgs ∧ (s.journalDue cause).ring = s.ring ∧
    (s.journalDue cause).windows = s.windows ∧ (s.journalDue cause).dma = s.dma ∧ (s.journalDue cause).dx = s.dx ∧
    (s.journalDue cause).keys = s.keys ∧ (s.journalDue cause).cx = s.cx ∧ (s.journalDue cause).stop = s.stop ∧
    (s.journalDue cause).encs = s.encs ∧ (s.journalDue cause).lgs = s.lgs ∧ (s.journalDue cause).encouts = s.encouts ∧
    (s.journalDue cause).probes = s.probes ∧ (s.journalDue cause).mem = s.mem ∧ (s.journalDue cause).darn = s.darn ∧
    (s.journalDue cause).gates = s.gates ∧ (s.journalDue cause).rinses = s.rinses ∧ (s.journalDue cause).lanes = s.lanes ∧
    (s.journalDue cause).camRx = s.camRx ∧ (s.journalDue cause).reports = s.reports ∧ (s.journalDue cause).heads = s.heads ∧
    (s.journalDue cause).slices = s.slices ∧ (s.journalDue cause).flights = s.flights ∧ (s.journalDue cause).hist = s.hist ∧
    (s.journalDue cause).cams = s.cams ∧ (s.journalDue cause).iron = s.iron ∧ (s.journalDue cause).evd = s.evd ∧
    (s.journalDue cause).evid = s.evid ∧ (s.journalDue cause).seqs = s.seqs ∧ (s.journalDue cause).mismatches = s.mismatches ∧
    (s.journalDue cause).verify = s.verify ∧ (s.journalDue cause).lifeRem = s.lifeRem ∧ (s.journalDue cause).jtag = s.jtag ∧
    (s.journalDue cause).unitsBad = s.unitsBad ∧ (s.journalDue cause).loops = s.loops ∧
    (s.journalDue cause).pending = s.pending ∧ (∀ g, (s.journalDue cause).cf g = s.cf g) := same_of_quiet (journalDue_quiet s cause)

@[simp] theorem journalEvent_frame (s : State) (e : Event) :
    (s.journalEvent e).time = s.time ∧ (s.journalEvent e).pendw = s.pendw ∧ (s.journalEvent e).hbm = s.hbm ∧
    (s.journalEvent e).flash = s.flash ∧ (s.journalEvent e).pow = s.pow ∧ (s.journalEvent e).therm = s.therm ∧
    (s.journalEvent e).fwds = s.fwds ∧ (s.journalEvent e).followers = s.followers ∧ (s.journalEvent e).spans = s.spans ∧
    (s.journalEvent e).tbs = s.tbs ∧ (s.journalEvent e).ptp = s.ptp ∧ (s.journalEvent e).tps = s.tps ∧
    (s.journalEvent e).conf = s.conf ∧ (s.journalEvent e).pieces = s.pieces ∧ (s.journalEvent e).ended = s.ended ∧
    (s.journalEvent e).rejects = s.rejects ∧ (s.journalEvent e).tgs = s.tgs ∧ (s.journalEvent e).ring = s.ring ∧
    (s.journalEvent e).windows = s.windows ∧ (s.journalEvent e).dma = s.dma ∧ (s.journalEvent e).dx = s.dx ∧
    (s.journalEvent e).keys = s.keys ∧ (s.journalEvent e).cx = s.cx ∧ (s.journalEvent e).stop = s.stop ∧
    (s.journalEvent e).encs = s.encs ∧ (s.journalEvent e).lgs = s.lgs ∧ (s.journalEvent e).encouts = s.encouts ∧
    (s.journalEvent e).probes = s.probes ∧ (s.journalEvent e).mem = s.mem ∧ (s.journalEvent e).darn = s.darn ∧
    (s.journalEvent e).gates = s.gates ∧ (s.journalEvent e).rinses = s.rinses ∧ (s.journalEvent e).lanes = s.lanes ∧
    (s.journalEvent e).camRx = s.camRx ∧ (s.journalEvent e).reports = s.reports ∧ (s.journalEvent e).heads = s.heads ∧
    (s.journalEvent e).slices = s.slices ∧ (s.journalEvent e).flights = s.flights ∧ (s.journalEvent e).hist = s.hist ∧
    (s.journalEvent e).cams = s.cams ∧ (s.journalEvent e).iron = s.iron ∧ (s.journalEvent e).evd = s.evd ∧
    (s.journalEvent e).evid = s.evid ∧ (s.journalEvent e).seqs = s.seqs ∧ (s.journalEvent e).mismatches = s.mismatches ∧
    (s.journalEvent e).verify = s.verify ∧ (s.journalEvent e).lifeRem = s.lifeRem ∧ (s.journalEvent e).jtag = s.jtag ∧
    (s.journalEvent e).unitsBad = s.unitsBad ∧ (s.journalEvent e).loops = s.loops ∧ (s.journalEvent e).pending = s.pending ∧
    (∀ g, (s.journalEvent e).cf g = s.cf g) := same_of_quiet (journalEvent_quiet s e)

@[simp] theorem raise_frame (s : State) (e : Event) (source arg : Nat) :
    (s.raise e source arg).time = s.time ∧ (s.raise e source arg).pendw = s.pendw ∧ (s.raise e source arg).hbm = s.hbm ∧
    (s.raise e source arg).flash = s.flash ∧ (s.raise e source arg).pow = s.pow ∧ (s.raise e source arg).therm = s.therm ∧
    (s.raise e source arg).fwds = s.fwds ∧ (s.raise e source arg).followers = s.followers ∧
    (s.raise e source arg).spans = s.spans ∧ (s.raise e source arg).tbs = s.tbs ∧ (s.raise e source arg).ptp = s.ptp ∧
    (s.raise e source arg).tps = s.tps ∧ (s.raise e source arg).conf = s.conf ∧ (s.raise e source arg).pieces = s.pieces ∧
    (s.raise e source arg).ended = s.ended ∧ (s.raise e source arg).rejects = s.rejects ∧ (s.raise e source arg).tgs = s.tgs ∧
    (s.raise e source arg).ring = s.ring ∧ (s.raise e source arg).windows = s.windows ∧ (s.raise e source arg).dma = s.dma ∧
    (s.raise e source arg).dx = s.dx ∧ (s.raise e source arg).keys = s.keys ∧ (s.raise e source arg).cx = s.cx ∧
    (s.raise e source arg).stop = s.stop ∧ (s.raise e source arg).encs = s.encs ∧ (s.raise e source arg).lgs = s.lgs ∧
    (s.raise e source arg).encouts = s.encouts ∧ (s.raise e source arg).probes = s.probes ∧
    (s.raise e source arg).mem = s.mem ∧ (s.raise e source arg).darn = s.darn ∧ (s.raise e source arg).gates = s.gates ∧
    (s.raise e source arg).rinses = s.rinses ∧ (s.raise e source arg).lanes = s.lanes ∧
    (s.raise e source arg).camRx = s.camRx ∧ (s.raise e source arg).reports = s.reports ∧
    (s.raise e source arg).heads = s.heads ∧ (s.raise e source arg).slices = s.slices ∧
    (s.raise e source arg).flights = s.flights ∧ (s.raise e source arg).hist = s.hist ∧ (s.raise e source arg).cams = s.cams ∧
    (s.raise e source arg).iron = s.iron ∧ (s.raise e source arg).evd = s.evd ∧ (s.raise e source arg).evid = s.evid ∧
    (s.raise e source arg).seqs = s.seqs ∧ (s.raise e source arg).mismatches = s.mismatches ∧
    (s.raise e source arg).verify = s.verify ∧ (s.raise e source arg).lifeRem = s.lifeRem ∧
    (s.raise e source arg).jtag = s.jtag ∧ (s.raise e source arg).unitsBad = s.unitsBad ∧
    (s.raise e source arg).loops = s.loops ∧ (s.raise e source arg).pending = s.pending ∧
    (∀ g, (s.raise e source arg).cf g = s.cf g) := same_of_quiet (raise_quiet s e source arg)

@[simp] theorem condOn_frame (s : State) (e : Event) (source arg : Nat) :
    (s.condOn e source arg).time = s.time ∧ (s.condOn e source arg).pendw = s.pendw ∧ (s.condOn e source arg).hbm = s.hbm ∧
    (s.condOn e source arg).flash = s.flash ∧ (s.condOn e source arg).pow = s.pow ∧ (s.condOn e source arg).therm = s.therm ∧
    (s.condOn e source arg).fwds = s.fwds ∧ (s.condOn e source arg).followers = s.followers ∧
    (s.condOn e source arg).spans = s.spans ∧ (s.condOn e source arg).tbs = s.tbs ∧ (s.condOn e source arg).ptp = s.ptp ∧
    (s.condOn e source arg).tps = s.tps ∧ (s.condOn e source arg).conf = s.conf ∧ (s.condOn e source arg).pieces = s.pieces ∧
    (s.condOn e source arg).ended = s.ended ∧ (s.condOn e source arg).rejects = s.rejects ∧
    (s.condOn e source arg).tgs = s.tgs ∧ (s.condOn e source arg).ring = s.ring ∧ (s.condOn e source arg).windows = s.windows ∧
    (s.condOn e source arg).dma = s.dma ∧ (s.condOn e source arg).dx = s.dx ∧ (s.condOn e source arg).keys = s.keys ∧
    (s.condOn e source arg).cx = s.cx ∧ (s.condOn e source arg).stop = s.stop ∧ (s.condOn e source arg).encs = s.encs ∧
    (s.condOn e source arg).lgs = s.lgs ∧ (s.condOn e source arg).encouts = s.encouts ∧
    (s.condOn e source arg).probes = s.probes ∧ (s.condOn e source arg).mem = s.mem ∧ (s.condOn e source arg).darn = s.darn ∧
    (s.condOn e source arg).gates = s.gates ∧ (s.condOn e source arg).rinses = s.rinses ∧
    (s.condOn e source arg).lanes = s.lanes ∧ (s.condOn e source arg).camRx = s.camRx ∧
    (s.condOn e source arg).reports = s.reports ∧ (s.condOn e source arg).heads = s.heads ∧
    (s.condOn e source arg).slices = s.slices ∧ (s.condOn e source arg).flights = s.flights ∧
    (s.condOn e source arg).hist = s.hist ∧ (s.condOn e source arg).cams = s.cams ∧ (s.condOn e source arg).iron = s.iron ∧
    (s.condOn e source arg).evd = s.evd ∧ (s.condOn e source arg).evid = s.evid ∧ (s.condOn e source arg).seqs = s.seqs ∧
    (s.condOn e source arg).mismatches = s.mismatches ∧ (s.condOn e source arg).verify = s.verify ∧
    (s.condOn e source arg).lifeRem = s.lifeRem ∧ (s.condOn e source arg).jtag = s.jtag ∧
    (s.condOn e source arg).unitsBad = s.unitsBad ∧ (s.condOn e source arg).loops = s.loops ∧
    (s.condOn e source arg).pending = s.pending ∧ (∀ g, (s.condOn e source arg).cf g = s.cf g) := same_of_quiet (condOn_quiet s e source arg)

@[simp] theorem condOff_frame (s : State) (e : Event) (source arg : Nat) :
    (s.condOff e source arg).time = s.time ∧ (s.condOff e source arg).pendw = s.pendw ∧ (s.condOff e source arg).hbm = s.hbm ∧
    (s.condOff e source arg).flash = s.flash ∧ (s.condOff e source arg).pow = s.pow ∧
    (s.condOff e source arg).therm = s.therm ∧ (s.condOff e source arg).fwds = s.fwds ∧
    (s.condOff e source arg).followers = s.followers ∧ (s.condOff e source arg).spans = s.spans ∧
    (s.condOff e source arg).tbs = s.tbs ∧ (s.condOff e source arg).ptp = s.ptp ∧ (s.condOff e source arg).tps = s.tps ∧
    (s.condOff e source arg).conf = s.conf ∧ (s.condOff e source arg).pieces = s.pieces ∧
    (s.condOff e source arg).ended = s.ended ∧ (s.condOff e source arg).rejects = s.rejects ∧
    (s.condOff e source arg).tgs = s.tgs ∧ (s.condOff e source arg).ring = s.ring ∧
    (s.condOff e source arg).windows = s.windows ∧ (s.condOff e source arg).dma = s.dma ∧ (s.condOff e source arg).dx = s.dx ∧
    (s.condOff e source arg).keys = s.keys ∧ (s.condOff e source arg).cx = s.cx ∧ (s.condOff e source arg).stop = s.stop ∧
    (s.condOff e source arg).encs = s.encs ∧ (s.condOff e source arg).lgs = s.lgs ∧
    (s.condOff e source arg).encouts = s.encouts ∧ (s.condOff e source arg).probes = s.probes ∧
    (s.condOff e source arg).mem = s.mem ∧ (s.condOff e source arg).darn = s.darn ∧ (s.condOff e source arg).gates = s.gates ∧
    (s.condOff e source arg).rinses = s.rinses ∧ (s.condOff e source arg).lanes = s.lanes ∧
    (s.condOff e source arg).camRx = s.camRx ∧ (s.condOff e source arg).reports = s.reports ∧
    (s.condOff e source arg).heads = s.heads ∧ (s.condOff e source arg).slices = s.slices ∧
    (s.condOff e source arg).flights = s.flights ∧ (s.condOff e source arg).hist = s.hist ∧
    (s.condOff e source arg).cams = s.cams ∧ (s.condOff e source arg).iron = s.iron ∧ (s.condOff e source arg).evd = s.evd ∧
    (s.condOff e source arg).evid = s.evid ∧ (s.condOff e source arg).seqs = s.seqs ∧
    (s.condOff e source arg).mismatches = s.mismatches ∧ (s.condOff e source arg).verify = s.verify ∧
    (s.condOff e source arg).lifeRem = s.lifeRem ∧ (s.condOff e source arg).jtag = s.jtag ∧
    (s.condOff e source arg).unitsBad = s.unitsBad ∧ (s.condOff e source arg).loops = s.loops ∧
    (s.condOff e source arg).pending = s.pending ∧ (∀ g, (s.condOff e source arg).cf g = s.cf g) := same_of_quiet (condOff_quiet s e source arg)

@[simp] theorem cond_frame (s : State) (b : Bool) (e : Event) (source arg : Nat) :
    (s.cond b e source arg).time = s.time ∧ (s.cond b e source arg).pendw = s.pendw ∧ (s.cond b e source arg).hbm = s.hbm ∧
    (s.cond b e source arg).flash = s.flash ∧ (s.cond b e source arg).pow = s.pow ∧ (s.cond b e source arg).therm = s.therm ∧
    (s.cond b e source arg).fwds = s.fwds ∧ (s.cond b e source arg).followers = s.followers ∧
    (s.cond b e source arg).spans = s.spans ∧ (s.cond b e source arg).tbs = s.tbs ∧ (s.cond b e source arg).ptp = s.ptp ∧
    (s.cond b e source arg).tps = s.tps ∧ (s.cond b e source arg).conf = s.conf ∧ (s.cond b e source arg).pieces = s.pieces ∧
    (s.cond b e source arg).ended = s.ended ∧ (s.cond b e source arg).rejects = s.rejects ∧
    (s.cond b e source arg).tgs = s.tgs ∧ (s.cond b e source arg).ring = s.ring ∧ (s.cond b e source arg).windows = s.windows ∧
    (s.cond b e source arg).dma = s.dma ∧ (s.cond b e source arg).dx = s.dx ∧ (s.cond b e source arg).keys = s.keys ∧
    (s.cond b e source arg).cx = s.cx ∧ (s.cond b e source arg).stop = s.stop ∧ (s.cond b e source arg).encs = s.encs ∧
    (s.cond b e source arg).lgs = s.lgs ∧ (s.cond b e source arg).encouts = s.encouts ∧
    (s.cond b e source arg).probes = s.probes ∧ (s.cond b e source arg).mem = s.mem ∧ (s.cond b e source arg).darn = s.darn ∧
    (s.cond b e source arg).gates = s.gates ∧ (s.cond b e source arg).rinses = s.rinses ∧
    (s.cond b e source arg).lanes = s.lanes ∧ (s.cond b e source arg).camRx = s.camRx ∧
    (s.cond b e source arg).reports = s.reports ∧ (s.cond b e source arg).heads = s.heads ∧
    (s.cond b e source arg).slices = s.slices ∧ (s.cond b e source arg).flights = s.flights ∧
    (s.cond b e source arg).hist = s.hist ∧ (s.cond b e source arg).cams = s.cams ∧ (s.cond b e source arg).iron = s.iron ∧
    (s.cond b e source arg).evd = s.evd ∧ (s.cond b e source arg).evid = s.evid ∧ (s.cond b e source arg).seqs = s.seqs ∧
    (s.cond b e source arg).mismatches = s.mismatches ∧ (s.cond b e source arg).verify = s.verify ∧
    (s.cond b e source arg).lifeRem = s.lifeRem ∧ (s.cond b e source arg).jtag = s.jtag ∧
    (s.cond b e source arg).unitsBad = s.unitsBad ∧ (s.cond b e source arg).loops = s.loops ∧
    (s.cond b e source arg).pending = s.pending ∧ (∀ g, (s.cond b e source arg).cf g = s.cf g) := same_of_quiet (cond_quiet s b e source arg)

@[simp] theorem sendReply_frame (s : State) (m : Msg) (type status : Nat) (payload : List Byte) :
    (s.sendReply m type status payload).time = s.time ∧ (s.sendReply m type status payload).pendw = s.pendw ∧
    (s.sendReply m type status payload).hbm = s.hbm ∧ (s.sendReply m type status payload).flash = s.flash ∧
    (s.sendReply m type status payload).pow = s.pow ∧ (s.sendReply m type status payload).therm = s.therm ∧
    (s.sendReply m type status payload).fwds = s.fwds ∧ (s.sendReply m type status payload).followers = s.followers ∧
    (s.sendReply m type status payload).spans = s.spans ∧ (s.sendReply m type status payload).tbs = s.tbs ∧
    (s.sendReply m type status payload).ptp = s.ptp ∧ (s.sendReply m type status payload).tps = s.tps ∧
    (s.sendReply m type status payload).conf = s.conf ∧ (s.sendReply m type status payload).pieces = s.pieces ∧
    (s.sendReply m type status payload).ended = s.ended ∧ (s.sendReply m type status payload).rejects = s.rejects ∧
    (s.sendReply m type status payload).tgs = s.tgs ∧ (s.sendReply m type status payload).ring = s.ring ∧
    (s.sendReply m type status payload).windows = s.windows ∧ (s.sendReply m type status payload).dma = s.dma ∧
    (s.sendReply m type status payload).dx = s.dx ∧ (s.sendReply m type status payload).keys = s.keys ∧
    (s.sendReply m type status payload).cx = s.cx ∧ (s.sendReply m type status payload).stop = s.stop ∧
    (s.sendReply m type status payload).encs = s.encs ∧ (s.sendReply m type status payload).lgs = s.lgs ∧
    (s.sendReply m type status payload).encouts = s.encouts ∧ (s.sendReply m type status payload).probes = s.probes ∧
    (s.sendReply m type status payload).mem = s.mem ∧ (s.sendReply m type status payload).darn = s.darn ∧
    (s.sendReply m type status payload).gates = s.gates ∧ (s.sendReply m type status payload).rinses = s.rinses ∧
    (s.sendReply m type status payload).lanes = s.lanes ∧ (s.sendReply m type status payload).camRx = s.camRx ∧
    (s.sendReply m type status payload).reports = s.reports ∧ (s.sendReply m type status payload).heads = s.heads ∧
    (s.sendReply m type status payload).slices = s.slices ∧ (s.sendReply m type status payload).flights = s.flights ∧
    (s.sendReply m type status payload).hist = s.hist ∧ (s.sendReply m type status payload).cams = s.cams ∧
    (s.sendReply m type status payload).iron = s.iron ∧ (s.sendReply m type status payload).evd = s.evd ∧
    (s.sendReply m type status payload).evid = s.evid ∧ (s.sendReply m type status payload).seqs = s.seqs ∧
    (s.sendReply m type status payload).mismatches = s.mismatches ∧ (s.sendReply m type status payload).verify = s.verify ∧
    (s.sendReply m type status payload).lifeRem = s.lifeRem ∧ (s.sendReply m type status payload).jtag = s.jtag ∧
    (s.sendReply m type status payload).unitsBad = s.unitsBad ∧ (s.sendReply m type status payload).loops = s.loops ∧
    (s.sendReply m type status payload).pending = s.pending ∧ (∀ g, (s.sendReply m type status payload).cf g = s.cf g) := same_of_quiet (sendReply_quiet s m type status payload)

@[simp] theorem hold_frame (s : State) (m : Msg) (type status : Nat) (payload : List Byte) :
    (s.hold m type status payload).time = s.time ∧ (s.hold m type status payload).pendw = s.pendw ∧
    (s.hold m type status payload).hbm = s.hbm ∧ (s.hold m type status payload).flash = s.flash ∧
    (s.hold m type status payload).pow = s.pow ∧ (s.hold m type status payload).therm = s.therm ∧
    (s.hold m type status payload).fwds = s.fwds ∧ (s.hold m type status payload).followers = s.followers ∧
    (s.hold m type status payload).spans = s.spans ∧ (s.hold m type status payload).tbs = s.tbs ∧
    (s.hold m type status payload).ptp = s.ptp ∧ (s.hold m type status payload).tps = s.tps ∧
    (s.hold m type status payload).conf = s.conf ∧ (s.hold m type status payload).pieces = s.pieces ∧
    (s.hold m type status payload).ended = s.ended ∧ (s.hold m type status payload).rejects = s.rejects ∧
    (s.hold m type status payload).tgs = s.tgs ∧ (s.hold m type status payload).ring = s.ring ∧
    (s.hold m type status payload).windows = s.windows ∧ (s.hold m type status payload).dma = s.dma ∧
    (s.hold m type status payload).dx = s.dx ∧ (s.hold m type status payload).keys = s.keys ∧
    (s.hold m type status payload).cx = s.cx ∧ (s.hold m type status payload).stop = s.stop ∧
    (s.hold m type status payload).encs = s.encs ∧ (s.hold m type status payload).lgs = s.lgs ∧
    (s.hold m type status payload).encouts = s.encouts ∧ (s.hold m type status payload).probes = s.probes ∧
    (s.hold m type status payload).mem = s.mem ∧ (s.hold m type status payload).darn = s.darn ∧
    (s.hold m type status payload).gates = s.gates ∧ (s.hold m type status payload).rinses = s.rinses ∧
    (s.hold m type status payload).lanes = s.lanes ∧ (s.hold m type status payload).camRx = s.camRx ∧
    (s.hold m type status payload).reports = s.reports ∧ (s.hold m type status payload).heads = s.heads ∧
    (s.hold m type status payload).slices = s.slices ∧ (s.hold m type status payload).flights = s.flights ∧
    (s.hold m type status payload).hist = s.hist ∧ (s.hold m type status payload).cams = s.cams ∧
    (s.hold m type status payload).iron = s.iron ∧ (s.hold m type status payload).evd = s.evd ∧
    (s.hold m type status payload).evid = s.evid ∧ (s.hold m type status payload).seqs = s.seqs ∧
    (s.hold m type status payload).mismatches = s.mismatches ∧ (s.hold m type status payload).verify = s.verify ∧
    (s.hold m type status payload).lifeRem = s.lifeRem ∧ (s.hold m type status payload).jtag = s.jtag ∧
    (s.hold m type status payload).unitsBad = s.unitsBad ∧ (s.hold m type status payload).loops = s.loops ∧
    (s.hold m type status payload).pending = s.pending ∧ (∀ g, (s.hold m type status payload).cf g = s.cf g) := same_of_quiet (hold_quiet s m type status payload)

@[simp] theorem countRefused_frame (s : State) (type status : Nat) :
    (s.countRefused type status).time = s.time ∧ (s.countRefused type status).pendw = s.pendw ∧
    (s.countRefused type status).hbm = s.hbm ∧ (s.countRefused type status).flash = s.flash ∧
    (s.countRefused type status).pow = s.pow ∧ (s.countRefused type status).therm = s.therm ∧
    (s.countRefused type status).fwds = s.fwds ∧ (s.countRefused type status).followers = s.followers ∧
    (s.countRefused type status).spans = s.spans ∧ (s.countRefused type status).tbs = s.tbs ∧
    (s.countRefused type status).ptp = s.ptp ∧ (s.countRefused type status).tps = s.tps ∧
    (s.countRefused type status).conf = s.conf ∧ (s.countRefused type status).pieces = s.pieces ∧
    (s.countRefused type status).ended = s.ended ∧ (s.countRefused type status).rejects = s.rejects ∧
    (s.countRefused type status).tgs = s.tgs ∧ (s.countRefused type status).ring = s.ring ∧
    (s.countRefused type status).windows = s.windows ∧ (s.countRefused type status).dma = s.dma ∧
    (s.countRefused type status).dx = s.dx ∧ (s.countRefused type status).keys = s.keys ∧
    (s.countRefused type status).cx = s.cx ∧ (s.countRefused type status).stop = s.stop ∧
    (s.countRefused type status).encs = s.encs ∧ (s.countRefused type status).lgs = s.lgs ∧
    (s.countRefused type status).encouts = s.encouts ∧ (s.countRefused type status).probes = s.probes ∧
    (s.countRefused type status).mem = s.mem ∧ (s.countRefused type status).darn = s.darn ∧
    (s.countRefused type status).gates = s.gates ∧ (s.countRefused type status).rinses = s.rinses ∧
    (s.countRefused type status).lanes = s.lanes ∧ (s.countRefused type status).camRx = s.camRx ∧
    (s.countRefused type status).reports = s.reports ∧ (s.countRefused type status).heads = s.heads ∧
    (s.countRefused type status).slices = s.slices ∧ (s.countRefused type status).flights = s.flights ∧
    (s.countRefused type status).hist = s.hist ∧ (s.countRefused type status).cams = s.cams ∧
    (s.countRefused type status).iron = s.iron ∧ (s.countRefused type status).evd = s.evd ∧
    (s.countRefused type status).evid = s.evid ∧ (s.countRefused type status).seqs = s.seqs ∧
    (s.countRefused type status).mismatches = s.mismatches ∧ (s.countRefused type status).verify = s.verify ∧
    (s.countRefused type status).lifeRem = s.lifeRem ∧ (s.countRefused type status).jtag = s.jtag ∧
    (s.countRefused type status).unitsBad = s.unitsBad ∧ (s.countRefused type status).loops = s.loops ∧
    (s.countRefused type status).pending = s.pending ∧ (∀ g, (s.countRefused type status).cf g = s.cf g) := same_of_quiet (countRefused_quiet s type status)

@[simp] theorem answer_frame (s : State) (m : Msg) (type : Nat) (stored quiet : Bool) (status : Nat) (payload : List Byte) :
    (s.answer m type stored quiet status payload).time = s.time ∧
    (s.answer m type stored quiet status payload).pendw = s.pendw ∧ (s.answer m type stored quiet status payload).hbm = s.hbm ∧
    (s.answer m type stored quiet status payload).flash = s.flash ∧ (s.answer m type stored quiet status payload).pow = s.pow ∧
    (s.answer m type stored quiet status payload).therm = s.therm ∧
    (s.answer m type stored quiet status payload).fwds = s.fwds ∧
    (s.answer m type stored quiet status payload).followers = s.followers ∧
    (s.answer m type stored quiet status payload).spans = s.spans ∧ (s.answer m type stored quiet status payload).tbs = s.tbs ∧
    (s.answer m type stored quiet status payload).ptp = s.ptp ∧ (s.answer m type stored quiet status payload).tps = s.tps ∧
    (s.answer m type stored quiet status payload).conf = s.conf ∧
    (s.answer m type stored quiet status payload).pieces = s.pieces ∧
    (s.answer m type stored quiet status payload).ended = s.ended ∧
    (s.answer m type stored quiet status payload).rejects = s.rejects ∧
    (s.answer m type stored quiet status payload).tgs = s.tgs ∧ (s.answer m type stored quiet status payload).ring = s.ring ∧
    (s.answer m type stored quiet status payload).windows = s.windows ∧
    (s.answer m type stored quiet status payload).dma = s.dma ∧ (s.answer m type stored quiet status payload).dx = s.dx ∧
    (s.answer m type stored quiet status payload).keys = s.keys ∧ (s.answer m type stored quiet status payload).cx = s.cx ∧
    (s.answer m type stored quiet status payload).stop = s.stop ∧ (s.answer m type stored quiet status payload).encs = s.encs ∧
    (s.answer m type stored quiet status payload).lgs = s.lgs ∧
    (s.answer m type stored quiet status payload).encouts = s.encouts ∧
    (s.answer m type stored quiet status payload).probes = s.probes ∧
    (s.answer m type stored quiet status payload).mem = s.mem ∧ (s.answer m type stored quiet status payload).darn = s.darn ∧
    (s.answer m type stored quiet status payload).gates = s.gates ∧
    (s.answer m type stored quiet status payload).rinses = s.rinses ∧
    (s.answer m type stored quiet status payload).lanes = s.lanes ∧
    (s.answer m type stored quiet status payload).camRx = s.camRx ∧
    (s.answer m type stored quiet status payload).reports = s.reports ∧
    (s.answer m type stored quiet status payload).heads = s.heads ∧
    (s.answer m type stored quiet status payload).slices = s.slices ∧
    (s.answer m type stored quiet status payload).flights = s.flights ∧
    (s.answer m type stored quiet status payload).hist = s.hist ∧ (s.answer m type stored quiet status payload).cams = s.cams ∧
    (s.answer m type stored quiet status payload).iron = s.iron ∧ (s.answer m type stored quiet status payload).evd = s.evd ∧
    (s.answer m type stored quiet status payload).evid = s.evid ∧ (s.answer m type stored quiet status payload).seqs = s.seqs ∧
    (s.answer m type stored quiet status payload).mismatches = s.mismatches ∧
    (s.answer m type stored quiet status payload).verify = s.verify ∧
    (s.answer m type stored quiet status payload).lifeRem = s.lifeRem ∧
    (s.answer m type stored quiet status payload).jtag = s.jtag ∧
    (s.answer m type stored quiet status payload).unitsBad = s.unitsBad ∧
    (s.answer m type stored quiet status payload).loops = s.loops ∧
    (s.answer m type stored quiet status payload).pending = s.pending ∧
    (∀ g, (s.answer m type stored quiet status payload).cf g = s.cf g) := same_of_quiet (answer_quiet s m type stored quiet status payload)

@[simp] theorem cfgWrite_frame (s : State) :
    (s.cfgWrite).time = s.time ∧ (s.cfgWrite).pendw = s.pendw ∧ (s.cfgWrite).hbm = s.hbm ∧ (s.cfgWrite).flash = s.flash ∧
    (s.cfgWrite).pow = s.pow ∧ (s.cfgWrite).therm = s.therm ∧ (s.cfgWrite).fwds = s.fwds ∧
    (s.cfgWrite).followers = s.followers ∧ (s.cfgWrite).spans = s.spans ∧ (s.cfgWrite).tbs = s.tbs ∧ (s.cfgWrite).ptp = s.ptp ∧
    (s.cfgWrite).tps = s.tps ∧ (s.cfgWrite).conf = s.conf ∧ (s.cfgWrite).pieces = s.pieces ∧ (s.cfgWrite).ended = s.ended ∧
    (s.cfgWrite).rejects = s.rejects ∧ (s.cfgWrite).tgs = s.tgs ∧ (s.cfgWrite).ring = s.ring ∧
    (s.cfgWrite).windows = s.windows ∧ (s.cfgWrite).dma = s.dma ∧ (s.cfgWrite).dx = s.dx ∧ (s.cfgWrite).keys = s.keys ∧
    (s.cfgWrite).cx = s.cx ∧ (s.cfgWrite).stop = s.stop ∧ (s.cfgWrite).encs = s.encs ∧ (s.cfgWrite).lgs = s.lgs ∧
    (s.cfgWrite).encouts = s.encouts ∧ (s.cfgWrite).probes = s.probes ∧ (s.cfgWrite).mem = s.mem ∧ (s.cfgWrite).darn = s.darn ∧
    (s.cfgWrite).gates = s.gates ∧ (s.cfgWrite).rinses = s.rinses ∧ (s.cfgWrite).lanes = s.lanes ∧
    (s.cfgWrite).camRx = s.camRx ∧ (s.cfgWrite).reports = s.reports ∧ (s.cfgWrite).heads = s.heads ∧
    (s.cfgWrite).slices = s.slices ∧ (s.cfgWrite).flights = s.flights ∧ (s.cfgWrite).hist = s.hist ∧
    (s.cfgWrite).cams = s.cams ∧ (s.cfgWrite).iron = s.iron ∧ (s.cfgWrite).evd = s.evd ∧ (s.cfgWrite).evid = s.evid ∧
    (s.cfgWrite).seqs = s.seqs ∧ (s.cfgWrite).mismatches = s.mismatches ∧ (s.cfgWrite).verify = s.verify ∧
    (s.cfgWrite).lifeRem = s.lifeRem ∧ (s.cfgWrite).jtag = s.jtag ∧ (s.cfgWrite).unitsBad = s.unitsBad ∧
    (s.cfgWrite).loops = s.loops ∧ (s.cfgWrite).pending = s.pending ∧ (∀ g, (s.cfgWrite).cf g = s.cf g) := same_of_quiet (cfgWrite_quiet s )

@[simp] theorem cfgIgnored_frame (s : State) :
    (s.cfgIgnored).time = s.time ∧ (s.cfgIgnored).pendw = s.pendw ∧ (s.cfgIgnored).hbm = s.hbm ∧
    (s.cfgIgnored).flash = s.flash ∧ (s.cfgIgnored).pow = s.pow ∧ (s.cfgIgnored).therm = s.therm ∧
    (s.cfgIgnored).fwds = s.fwds ∧ (s.cfgIgnored).followers = s.followers ∧ (s.cfgIgnored).spans = s.spans ∧
    (s.cfgIgnored).tbs = s.tbs ∧ (s.cfgIgnored).ptp = s.ptp ∧ (s.cfgIgnored).tps = s.tps ∧ (s.cfgIgnored).conf = s.conf ∧
    (s.cfgIgnored).pieces = s.pieces ∧ (s.cfgIgnored).ended = s.ended ∧ (s.cfgIgnored).rejects = s.rejects ∧
    (s.cfgIgnored).tgs = s.tgs ∧ (s.cfgIgnored).ring = s.ring ∧ (s.cfgIgnored).windows = s.windows ∧
    (s.cfgIgnored).dma = s.dma ∧ (s.cfgIgnored).dx = s.dx ∧ (s.cfgIgnored).keys = s.keys ∧ (s.cfgIgnored).cx = s.cx ∧
    (s.cfgIgnored).stop = s.stop ∧ (s.cfgIgnored).encs = s.encs ∧ (s.cfgIgnored).lgs = s.lgs ∧
    (s.cfgIgnored).encouts = s.encouts ∧ (s.cfgIgnored).probes = s.probes ∧ (s.cfgIgnored).mem = s.mem ∧
    (s.cfgIgnored).darn = s.darn ∧ (s.cfgIgnored).gates = s.gates ∧ (s.cfgIgnored).rinses = s.rinses ∧
    (s.cfgIgnored).lanes = s.lanes ∧ (s.cfgIgnored).camRx = s.camRx ∧ (s.cfgIgnored).reports = s.reports ∧
    (s.cfgIgnored).heads = s.heads ∧ (s.cfgIgnored).slices = s.slices ∧ (s.cfgIgnored).flights = s.flights ∧
    (s.cfgIgnored).hist = s.hist ∧ (s.cfgIgnored).cams = s.cams ∧ (s.cfgIgnored).iron = s.iron ∧ (s.cfgIgnored).evd = s.evd ∧
    (s.cfgIgnored).evid = s.evid ∧ (s.cfgIgnored).seqs = s.seqs ∧ (s.cfgIgnored).mismatches = s.mismatches ∧
    (s.cfgIgnored).verify = s.verify ∧ (s.cfgIgnored).lifeRem = s.lifeRem ∧ (s.cfgIgnored).jtag = s.jtag ∧
    (s.cfgIgnored).unitsBad = s.unitsBad ∧ (s.cfgIgnored).loops = s.loops ∧ (s.cfgIgnored).pending = s.pending ∧
    (∀ g, (s.cfgIgnored).cf g = s.cf g) := same_of_quiet (cfgIgnored_quiet s )

@[simp] theorem resolve_frame2 (s : State) (np : Nat) (hop : Word) (ds : List Datagram) (refresh : Bool) :
    (s.resolve np hop ds refresh).life = s.life ∧ (s.resolve np hop ds refresh).nvm = s.nvm ∧
    (s.resolve np hop ds refresh).subs = s.subs ∧ (s.resolve np hop ds refresh).free = s.free ∧
    (s.resolve np hop ds refresh).held = s.held ∧ (s.resolve np hop ds refresh).conds = s.conds := by
  unfold State.resolve
  split <;> simp

/-- What sending a datagram leaves alone besides `State.quiet_`, in one tuple. -/
def State.kept (s : State) := (s.life, s.nvm, s.subs, s.free, s.held, s.conds)

theorem send_kept (s : State) (d : Datagram) : (s.send d).kept = s.kept := by
  unfold State.send
  split
  · split
    · rfl
    · split
      · unfold State.resolve
        split <;> rfl
      · unfold State.resolve
        dsimp only
        split
        · split <;> rfl
        · rfl
  · rfl

@[simp] theorem send_frame2 (s : State) (d : Datagram) :
    (s.send d).life = s.life ∧ (s.send d).nvm = s.nvm ∧ (s.send d).subs = s.subs ∧ (s.send d).free = s.free ∧
    (s.send d).held = s.held ∧ (s.send d).conds = s.conds := by
  have h := send_kept s d
  simp only [State.kept, Prod.mk.injEq] at h
  exact h

@[simp] theorem enqueue_frame2 (s : State) (e : Event) (source arg : Word) (cleared : Bool) (k : Nat) :
    (s.enqueue e source arg cleared k).life = s.life ∧ (s.enqueue e source arg cleared k).nvm = s.nvm ∧
    (s.enqueue e source arg cleared k).out = s.out ∧ (s.enqueue e source arg cleared k).ports = s.ports ∧
    (s.enqueue e source arg cleared k).free = s.free ∧ (s.enqueue e source arg cleared k).held = s.held ∧
    (s.enqueue e source arg cleared k).conds = s.conds := by
  unfold State.enqueue
  split <;> simp

@[simp] theorem sendEvents_frame2 (s : State) (k : Nat) (pick : EvRec → Bool) :
    (s.sendEvents k pick).life = s.life ∧ (s.sendEvents k pick).nvm = s.nvm ∧ (s.sendEvents k pick).held = s.held ∧
    (s.sendEvents k pick).conds = s.conds := by
  simp only [State.sendEvents]
  split <;> simp

@[simp] theorem flushEvents_frame2 (s : State) :
    (s.flushEvents).life = s.life ∧ (s.flushEvents).nvm = s.nvm ∧ (s.flushEvents).held = s.held ∧
    (s.flushEvents).conds = s.conds := by
  unfold State.flushEvents
  split <;> simp [List.range, List.range.loop]

@[simp] theorem latchFault_frame2 (s : State) (e : Event) :
    (s.latchFault e).nvm = s.nvm ∧ (s.latchFault e).subs = s.subs ∧ (s.latchFault e).out = s.out ∧
    (s.latchFault e).ports = s.ports ∧ (s.latchFault e).free = s.free ∧ (s.latchFault e).held = s.held ∧
    (s.latchFault e).conds = s.conds := by
  simp only [State.latchFault]
  split <;> simp

@[simp] theorem journalDue_frame2 (s : State) (cause : Nat) :
    (s.journalDue cause).regs = s.regs ∧ (s.journalDue cause).life = s.life ∧ (s.journalDue cause).subs = s.subs ∧
    (s.journalDue cause).out = s.out ∧ (s.journalDue cause).ports = s.ports ∧ (s.journalDue cause).free = s.free ∧
    (s.journalDue cause).held = s.held ∧ (s.journalDue cause).conds = s.conds := by
  simp only [State.journalDue]
  (repeat' split) <;> simp

@[simp] theorem journalEvent_frame2 (s : State) (e : Event) :
    (s.journalEvent e).regs = s.regs ∧ (s.journalEvent e).life = s.life ∧ (s.journalEvent e).subs = s.subs ∧
    (s.journalEvent e).out = s.out ∧ (s.journalEvent e).ports = s.ports ∧ (s.journalEvent e).free = s.free ∧
    (s.journalEvent e).held = s.held ∧ (s.journalEvent e).conds = s.conds := by
  unfold State.journalEvent
  split <;> simp

@[simp] theorem raise_frame2 (s : State) (e : Event) (source arg : Nat) :
    (s.raise e source arg).held = s.held ∧ (s.raise e source arg).conds = s.conds := by
  simp [State.raise, List.range, List.range.loop]

@[simp] theorem condOn_frame2 (s : State) (e : Event) (source arg : Nat) :
    (s.condOn e source arg).held = s.held := by
  unfold State.condOn
  split <;> simp

@[simp] theorem condOff_frame2 (s : State) (e : Event) (source arg : Nat) :
    (s.condOff e source arg).life = s.life ∧ (s.condOff e source arg).nvm = s.nvm ∧ (s.condOff e source arg).held = s.held := by
  unfold State.condOff
  split <;> simp [List.range, List.range.loop]

@[simp] theorem cond_frame2 (s : State) (b : Bool) (e : Event) (source arg : Nat) :
    (s.cond b e source arg).held = s.held := by
  unfold State.cond
  split <;> simp

@[simp] theorem sendReply_frame2 (s : State) (m : Msg) (type status : Nat) (payload : List Byte) :
    (s.sendReply m type status payload).life = s.life ∧ (s.sendReply m type status payload).nvm = s.nvm ∧
    (s.sendReply m type status payload).subs = s.subs ∧ (s.sendReply m type status payload).ports = s.ports ∧
    (s.sendReply m type status payload).free = s.free ∧ (s.sendReply m type status payload).held = s.held ∧
    (s.sendReply m type status payload).conds = s.conds := by
  simp [State.sendReply]

@[simp] theorem hold_frame2 (s : State) (m : Msg) (type status : Nat) (payload : List Byte) :
    (s.hold m type status payload).regs = s.regs ∧ (s.hold m type status payload).life = s.life ∧
    (s.hold m type status payload).nvm = s.nvm ∧ (s.hold m type status payload).subs = s.subs ∧
    (s.hold m type status payload).out = s.out ∧ (s.hold m type status payload).ports = s.ports ∧
    (s.hold m type status payload).free = s.free ∧ (s.hold m type status payload).conds = s.conds := by
  simp [State.hold]

@[simp] theorem countRefused_frame2 (s : State) (type status : Nat) :
    (s.countRefused type status).nvm = s.nvm ∧ (s.countRefused type status).subs = s.subs ∧
    (s.countRefused type status).out = s.out ∧ (s.countRefused type status).ports = s.ports ∧
    (s.countRefused type status).free = s.free ∧ (s.countRefused type status).held = s.held ∧
    (s.countRefused type status).conds = s.conds := by
  unfold State.countRefused
  split <;> simp

@[simp] theorem answer_frame2 (s : State) (m : Msg) (type : Nat) (stored quiet : Bool) (status : Nat) (payload : List Byte) :
    (s.answer m type stored quiet status payload).nvm = s.nvm ∧ (s.answer m type stored quiet status payload).subs = s.subs ∧
    (s.answer m type stored quiet status payload).ports = s.ports ∧
    (s.answer m type stored quiet status payload).free = s.free ∧ (s.answer m type stored quiet status payload).conds = s.conds := by
  simp only [State.answer]
  (repeat' split) <;> simp

@[simp] theorem cfgWrite_frame2 (s : State) :
    (s.cfgWrite).nvm = s.nvm ∧ (s.cfgWrite).subs = s.subs ∧ (s.cfgWrite).out = s.out ∧ (s.cfgWrite).ports = s.ports ∧
    (s.cfgWrite).free = s.free ∧ (s.cfgWrite).held = s.held ∧ (s.cfgWrite).conds = s.conds := by
  simp [State.cfgWrite]

@[simp] theorem cfgIgnored_frame2 (s : State) :
    (s.cfgIgnored).nvm = s.nvm ∧ (s.cfgIgnored).subs = s.subs ∧ (s.cfgIgnored).out = s.out ∧ (s.cfgIgnored).ports = s.ports ∧
    (s.cfgIgnored).free = s.free ∧ (s.cfgIgnored).held = s.held ∧ (s.cfgIgnored).conds = s.conds := by
  simp [State.cfgIgnored]

/-- The words that raising an event, sending a datagram and replying may change: FAULT_LATCH, EVT_LOST, NPn_TX_FRAMES, NPn_TX_DROP. -/
def plumbWord (a : Nat) : Bool :=
  a == R.FAULT_LATCH || a == R.EVT_LOST || a == R.NP_TX_FRAMES 0 || a == R.NP_TX_FRAMES 1 || a == R.NP_TX_DROP 0 || a == R.NP_TX_DROP 1

theorem word_inc_ne (s : State) (f : Field) (a : Nat) (h : a ≠ f.addr) : (s.inc f).word a = s.word a := word_wr_ne s f _ a h

theorem resolve_word (s : State) (np : Nat) (hop : Word) (ds : List Datagram) (refresh : Bool) (a : Nat) (h : a ≠ R.NP_TX_FRAMES np) :
    (s.resolve np hop ds refresh).word a = s.word a := by
  unfold State.resolve
  split
  · rfl
  · rw [word_inc_ne _ _ _ h]; rfl

theorem send_word (s : State) (d : Datagram) (a : Nat) (h : a ≠ R.NP_TX_FRAMES d.np) (h' : a ≠ R.NP_TX_DROP d.np) :
    (s.send d).word a = s.word a := by
  unfold State.send
  split
  · split
    · exact word_inc_ne _ _ _ h'
    · split
      · exact resolve_word _ _ _ _ _ _ h
      · dsimp only
        split
        · rw [resolve_word _ _ _ _ _ _ h, word_inc_ne _ _ _ h]; rfl
        · rw [word_inc_ne _ _ _ h]; rfl
  · rfl

theorem enqueue_word (s : State) (e : Event) (source arg : Word) (cleared : Bool) (k a : Nat) (h : a ≠ R.EVT_LOST) :
    (s.enqueue e source arg cleared k).word a = s.word a := by
  unfold State.enqueue
  split
  · exact word_wr_ne _ _ _ _ h
  · rfl

theorem plumb_np (a np : Nat) (hn : np < 2) (h : plumbWord a = false) : a ≠ R.NP_TX_FRAMES np ∧ a ≠ R.NP_TX_DROP np := by
  simp only [plumbWord, Bool.or_eq_false_iff, beq_eq_false_iff_ne] at h
  obtain rfl | rfl : np = 0 ∨ np = 1 := by omega
  · exact ⟨h.1.1.1.2, h.1.2⟩
  · exact ⟨h.1.1.2, h.2⟩

theorem sendEvents_word (s : State) (k : Nat) (pick : EvRec → Bool) (a : Nat) (h : plumbWord a = false) :
    (s.sendEvents k pick).word a = s.word a := by
  have hn := plumb_np a (s.rd (R.SUB_CFG_NP k)) (rd_lt s (R.SUB_CFG_NP k)) h
  simp only [State.sendEvents]
  split
  · rfl
  · simp only [onSub_frame, drawn_frame]
    exact send_word _ _ _ hn.1 hn.2

theorem flushEvents_word (s : State) (a : Nat) (h : plumbWord a = false) : s.flushEvents.word a = s.word a := by
  unfold State.flushEvents
  split
  · simp [List.range, List.range.loop, sendEvents_word _ _ _ _ h]
  · rfl

theorem latchFault_word (s : State) (e : Event) (a : Nat) (h : plumbWord a = false) : (s.latchFault e).word a = s.word a := by
  simp only [plumbWord, Bool.or_eq_false_iff, beq_eq_false_iff_ne] at h
  simp only [State.latchFault]
  split
  · exact word_wr_ne _ _ _ _ h.1.1.1.1.1
  · rfl

theorem journalEvent_word (s : State) (e : Event) (a : Nat) : (s.journalEvent e).word a = s.word a := by
  unfold State.word
  rw [(journalEvent_frame2 s e).1]

theorem enqueues_word (s : State) (e : Event) (source arg : Word) (cleared : Bool) (l : List Nat) (a : Nat) (h : a ≠ R.EVT_LOST) :
    (l.foldl (fun (t : State) k => t.enqueue e source arg cleared k) s).word a = s.word a := by
  induction l generalizing s with
  | nil => rfl
  | cons k l ih => rw [List.foldl_cons, ih, enqueue_word _ _ _ _ _ _ _ h]

/-- Raising an event changes no word but the six of `plumbWord`. -/
theorem raise_word (s : State) (e : Event) (source arg a : Nat) (h : plumbWord a = false) : (s.raise e source arg).word a = s.word a := by
  have h' : a ≠ R.EVT_LOST := by
    simp only [plumbWord, Bool.or_eq_false_iff, beq_eq_false_iff_ne] at h
    exact h.1.1.1.1.2
  unfold State.raise
  rw [flushEvents_word _ _ h, enqueues_word _ _ _ _ _ _ _ h', journalEvent_word, latchFault_word _ _ _ h]

theorem condOn_word (s : State) (e : Event) (source arg a : Nat) (h : plumbWord a = false) : (s.condOn e source arg).word a = s.word a := by
  unfold State.condOn
  split
  · rfl
  · rw [raise_word _ _ _ _ _ h]; rfl

theorem condOff_word (s : State) (e : Event) (source arg a : Nat) (h : plumbWord a = false) : (s.condOff e source arg).word a = s.word a := by
  have h' : a ≠ R.EVT_LOST := by
    simp only [plumbWord, Bool.or_eq_false_iff, beq_eq_false_iff_ne] at h
    exact h.1.1.1.1.2
  unfold State.condOff
  split
  · rw [flushEvents_word _ _ h, enqueues_word _ _ _ _ _ _ _ h']; rfl
  · rfl

theorem cond_word (s : State) (b : Bool) (e : Event) (source arg a : Nat) (h : plumbWord a = false) :
    (s.cond b e source arg).word a = s.word a := by
  unfold State.cond
  split
  · exact condOn_word _ _ _ _ _ h
  · exact condOff_word _ _ _ _ _ h

/-- A field whose word raising an event leaves alone. -/
theorem raise_rd (s : State) (e : Event) (source arg : Nat) (f : Field) (h : plumbWord f.addr = false) :
    (s.raise e source arg).rd f = s.rd f := rd_congr _ _ _ (raise_word _ _ _ _ _ h)

theorem condOn_rd (s : State) (e : Event) (source arg : Nat) (f : Field) (h : plumbWord f.addr = false) :
    (s.condOn e source arg).rd f = s.rd f := rd_congr _ _ _ (condOn_word _ _ _ _ _ h)

theorem condOff_rd (s : State) (e : Event) (source arg : Nat) (f : Field) (h : plumbWord f.addr = false) :
    (s.condOff e source arg).rd f = s.rd f := rd_congr _ _ _ (condOff_word _ _ _ _ _ h)

theorem cond_rd (s : State) (b : Bool) (e : Event) (source arg : Nat) (f : Field) (h : plumbWord f.addr = false) :
    (s.cond b e source arg).rd f = s.rd f := rd_congr _ _ _ (cond_word _ _ _ _ _ _ h)

/-- After a condition event is raised its cause is active. -/
theorem condOn_active (s : State) (e : Event) (source arg : Nat) : (s.condOn e source arg).condActive e source = true := by
  unfold State.condOn
  split
  · next h => exact h
  · simp [State.condActive]

/-- After it clears, its cause is not. -/
theorem condOff_inactive (s : State) (e : Event) (source arg : Nat) : (s.condOff e source arg).condActive e source = false := by
  unfold State.condOff
  split
  · simp [State.condActive, List.range, List.range.loop]
  · next h => simpa using h

end Sys2Proof.Machine
end

