-- ==== Sys2Proof/Laws/Spans.lean ====
section
/-! SUPPORT. What the latch of the leaves' status bits changes, and that it latches them. -/

namespace Sys2Proof.Machine

variable {s t : State}

theorem leaf_onLeaf_same (s : State) (c : Nat) (f : Leaf → Leaf) : (s.onLeaf c f).leaf c = f (s.leaf c) := by
  simp [State.leaf, State.onLeaf, get_upd_same]

theorem leaf_onLeaf_ne (s : State) (c d : Nat) (f : Leaf → Leaf) (h : d ≠ c) : (s.onLeaf c f).leaf d = s.leaf d := by
  simp [State.leaf, State.onLeaf, get_upd_ne _ _ _ _ _ h]

/-- The status bits of a leaf do not depend on what any leaf holds but its LATE bit. -/
theorem onLeaf_leafNow (s : State) (k c : Nat) (f : Leaf → Leaf) (h : ∀ l, (f l).late = l.late) :
    (s.onLeaf k f).leafNow c = s.leafNow c := by
  have h1 : ((s.onLeaf k f).leaf c).late = (s.leaf c).late := by
    by_cases e : c = k
    · subst e; rw [leaf_onLeaf_same, h]
    · rw [leaf_onLeaf_ne _ _ _ _ e]
  have h2 : (s.onLeaf k f).chOn c = s.chOn c := rfl
  have h3 : (s.onLeaf k f).chActive c = s.chActive c := rfl
  have h4 : (s.onLeaf k f).leafFault c = s.leafFault c := rfl
  have h5 : (s.onLeaf k f).headSoft c = s.headSoft c := rfl
  have h6 : (s.onLeaf k f).headHard c = s.headHard c := rfl
  have h7 : (s.onLeaf k f).mendedIn c = s.mendedIn c := rfl
  have h8 : ∀ g, (s.onLeaf k f).rd g = s.rd g := fun _ => rfl
  have h9 : ∀ g, (s.onLeaf k f).flag g = s.flag g := fun _ => rfl
  have h10 : ∀ g, (s.onLeaf k f).cf g = s.cf g := fun _ => rfl
  unfold State.leafNow
  rw [h1, h2, h3, h4, h5, h6, h7, h8, h9, h10]

/-- One leaf latches its status bits. -/
theorem latch1_leafNow (s : State) (k c : Nat) (v : BitVec 10) :
    (s.onLeaf k (fun l => l.latch v)).leafNow c = s.leafNow c := onLeaf_leafNow s k c _ (fun _ => rfl)

/-- A leaf that has latched its bits has nothing more to latch. -/
theorem latch_latch (l : Leaf) (v : BitVec 10) : (l.latch v).latch v = l.latch v := by
  unfold Leaf.latch
  simp only [Leaf.mk.injEq, true_and, and_true]
  constructor <;> (ext i; simp only [BitVec.getElem_and, BitVec.getElem_not, BitVec.getElem_or]
                   cases l.sticky[i] <;> cases l.quiet[i] <;> cases v[i] <;> rfl)

/-- The leaves of a list latch. -/
def State.latchList (s : State) (l : List Nat) : State :=
  l.foldl (fun (t : State) c => t.onLeaf c (fun l => l.latch (BitVec.ofNat 10 (s.leafNow c)))) s

/-- Latching reads the status bits of the state it starts from. -/
theorem latch_eq (s : State) : s.latch = s.latchList s.leafChannels := rfl

/-- What a leaf holds after the leaves of a list latch. -/
theorem latchFold_leaf (s0 : State) (l : List Nat) (s : State) (c : Nat) :
    (l.foldl (fun (t : State) c => t.onLeaf c (fun l => l.latch (BitVec.ofNat 10 (s0.leafNow c)))) s).leaf c =
      if c ∈ l then (s.leaf c).latch (BitVec.ofNat 10 (s0.leafNow c)) else s.leaf c := by
  induction l generalizing s with
  | nil => rfl
  | cons k l ih =>
    simp only [List.foldl_cons]
    rw [ih]
    by_cases e : c = k
    · subst e
      simp only [leaf_onLeaf_same, List.mem_cons, true_or, if_true]
      split
      · exact latch_latch _ _
      · rfl
    · rw [leaf_onLeaf_ne _ _ _ _ e]
      simp [e]

theorem latch_leaf (s : State) (c : Nat) : s.latch.leaf c =
    if c ∈ s.leafChannels then (s.leaf c).latch (BitVec.ofNat 10 (s.leafNow c)) else s.leaf c := by
  rw [latch_eq]
  exact latchFold_leaf s _ s c

/-- The state less what the leaves hold. -/
def State.noLeaves (s : State) : State := { s with spans := { s.spans with leaves := [] } }

theorem latch_noLeaves (s : State) : s.latch.noLeaves = s.noLeaves := by
  rw [latch_eq]
  unfold State.latchList
  generalize s.leafChannels = l
  generalize h : s.leafNow = g
  clear h
  induction l generalizing s with
  | nil => rfl
  | cons k l ih => rw [List.foldl_cons, ih]; rfl

@[simp] theorem latch_frame (s : State) :
    s.latch.time = s.time ∧ s.latch.regs = s.regs ∧ s.latch.pendw = s.pendw ∧ s.latch.hbm = s.hbm ∧ s.latch.flash = s.flash ∧
    s.latch.pow = s.pow ∧ s.latch.nvm = s.nvm ∧ s.latch.therm = s.therm ∧ s.latch.subs = s.subs ∧ s.latch.held = s.held ∧
    s.latch.fwds = s.fwds ∧ s.latch.followers = s.followers ∧ s.latch.conds = s.conds ∧ s.latch.tbs = s.tbs ∧
    s.latch.ptp = s.ptp ∧ s.latch.tps = s.tps ∧ s.latch.ports = s.ports ∧ s.latch.conf = s.conf ∧ s.latch.pieces = s.pieces ∧
    s.latch.ended = s.ended ∧ s.latch.rejects = s.rejects ∧ s.latch.tgs = s.tgs ∧ s.latch.ring = s.ring ∧
    s.latch.windows = s.windows ∧ s.latch.dma = s.dma ∧ s.latch.dx = s.dx ∧ s.latch.keys = s.keys ∧ s.latch.cx = s.cx ∧
    s.latch.stop = s.stop ∧ s.latch.encs = s.encs ∧ s.latch.lgs = s.lgs ∧ s.latch.encouts = s.encouts ∧
    s.latch.probes = s.probes ∧ s.latch.mem = s.mem ∧ s.latch.darn = s.darn ∧ s.latch.gates = s.gates ∧
    s.latch.rinses = s.rinses ∧ s.latch.lanes = s.lanes ∧ s.latch.camRx = s.camRx ∧ s.latch.reports = s.reports ∧
    s.latch.heads = s.heads ∧ s.latch.slices = s.slices ∧ s.latch.flights = s.flights ∧ s.latch.hist = s.hist ∧
    s.latch.cams = s.cams ∧ s.latch.iron = s.iron ∧ s.latch.evd = s.evd ∧ s.latch.evid = s.evid ∧ s.latch.seqs = s.seqs ∧
    s.latch.mismatches = s.mismatches ∧ s.latch.verify = s.verify ∧ s.latch.life = s.life ∧ s.latch.lifeRem = s.lifeRem ∧
    s.latch.jtag = s.jtag ∧ s.latch.unitsBad = s.unitsBad ∧ s.latch.loops = s.loops ∧ s.latch.out = s.out ∧
    s.latch.free = s.free ∧ s.latch.pending = s.pending ∧ s.latch.spans.nodes = s.spans.nodes ∧
    s.latch.spans.snap = s.spans.snap ∧ (∀ g, s.latch.cf g = s.cf g) ∧ (∀ a, s.latch.word a = s.word a) ∧
    (∀ g, s.latch.rd g = s.rd g) ∧ (∀ g, s.latch.flag g = s.flag g) ∧ (∀ g, s.latch.rdI g = s.rdI g) := by
  have e : ∀ (α : Type) (g : State → α), (∀ u, g u.noLeaves = g u) → g s.latch = g s :=
    fun _ g hg => by rw [← hg, latch_noLeaves, hg]
  have hr : s.latch.regs = s.regs := e _ State.regs (fun _ => rfl)
  have hc : s.latch.conf = s.conf := e _ State.conf (fun _ => rfl)
  have hw : ∀ a, s.latch.word a = s.word a := fun a => word_congr _ _ a hr
  have hd : ∀ g, s.latch.rd g = s.rd g := fun g => rd_congr _ _ g (hw g.addr)
  refine ⟨e _ State.time (fun _ => rfl), e _ State.regs (fun _ => rfl), e _ State.pendw (fun _ => rfl), e _ State.hbm (fun _
    => rfl), e _ State.flash (fun _ => rfl), e _ State.pow (fun _ => rfl), e _ State.nvm (fun _ => rfl), e _ State.therm
    (fun _ => rfl), e _ State.subs (fun _ => rfl), e _ State.held (fun _ => rfl), e _ State.fwds (fun _ => rfl), e _
    State.followers (fun _ => rfl), e _ State.conds (fun _ => rfl), e _ State.tbs (fun _ => rfl), e _ State.ptp (fun _ =>
    rfl), e _ State.tps (fun _ => rfl), e _ State.ports (fun _ => rfl), e _ State.conf (fun _ => rfl), e _ State.pieces (fun
    _ => rfl), e _ State.ended (fun _ => rfl), e _ State.rejects (fun _ => rfl), e _ State.tgs (fun _ => rfl), e _
    State.ring (fun _ => rfl), e _ State.windows (fun _ => rfl), e _ State.dma (fun _ => rfl), e _ State.dx (fun _ => rfl),
    e _ State.keys (fun _ => rfl), e _ State.cx (fun _ => rfl), e _ State.stop (fun _ => rfl), e _ State.encs (fun _ =>
    rfl), e _ State.lgs (fun _ => rfl), e _ State.encouts (fun _ => rfl), e _ State.probes (fun _ => rfl), e _ State.mem
    (fun _ => rfl), e _ State.darn (fun _ => rfl), e _ State.gates (fun _ => rfl), e _ State.rinses (fun _ => rfl), e _
    State.lanes (fun _ => rfl), e _ State.camRx (fun _ => rfl), e _ State.reports (fun _ => rfl), e _ State.heads (fun _ =>
    rfl), e _ State.slices (fun _ => rfl), e _ State.flights (fun _ => rfl), e _ State.hist (fun _ => rfl), e _ State.cams
    (fun _ => rfl), e _ State.iron (fun _ => rfl), e _ State.evd (fun _ => rfl), e _ State.evid (fun _ => rfl), e _
    State.seqs (fun _ => rfl), e _ State.mismatches (fun _ => rfl), e _ State.verify (fun _ => rfl), e _ State.life (fun _
    => rfl), e _ State.lifeRem (fun _ => rfl), e _ State.jtag (fun _ => rfl), e _ State.unitsBad (fun _ => rfl), e _
    State.loops (fun _ => rfl), e _ State.out (fun _ => rfl), e _ State.free (fun _ => rfl), e _ State.pending (fun _ =>
    rfl), e _ (fun x => x.spans.nodes) (fun _ => rfl), e _ (fun x => x.spans.snap) (fun _ => rfl), ?_, hw, hd, ?_, ?_⟩
  · intro g; unfold State.cf; rw [hc]
  · intro g; unfold State.flag; rw [hd]
  · intro g; unfold State.rdI; rw [hd]

/-- Latching changes no status bit. -/
theorem latch_leafNow (s : State) (c : Nat) : s.latch.leafNow c = s.leafNow c := by
  rw [latch_eq]
  unfold State.latchList
  generalize s.leafChannels = l
  generalize hg : (fun (t : State) (c : Nat) => t.onLeaf c (fun l => l.latch (BitVec.ofNat 10 (s.leafNow c)))) = f
  have hf : ∀ (t : State) (k : Nat), (f t k).leafNow c = t.leafNow c := by
    intro t k
    rw [← hg]
    exact latch1_leafNow t k c _
  clear hg
  induction l generalizing s with
  | nil => rfl
  | cons k l ih => rw [List.foldl_cons, ih, hf]

theorem latch_leafChannels (s : State) : s.latch.leafChannels = s.leafChannels := by
  unfold State.leafChannels
  simp

/-- After latching, every status bit that a leaf shows is latched, or has been 1 ever since Dawn. -/
theorem latch_latched (s : State) : s.latch.latched := by
  intro c hc
  rw [latch_leafChannels] at hc
  rw [latch_leafNow, latch_leaf, if_pos hc]
  generalize BitVec.ofNat 10 (s.leafNow c) = v
  generalize s.leaf c = l
  unfold Leaf.latch
  constructor <;> (ext i; simp only [BitVec.getElem_and, BitVec.getElem_not, BitVec.getElem_or]
                   cases l.sticky[i] <;> cases l.quiet[i] <;> cases v[i] <;> simp)

end Sys2Proof.Machine
end

