-- ==== Sys2Proof/Laws/Writes.lean ====
section
/-! SUPPORT. What serving a request does when it is served, and what a WRITE that passes its checks leaves. -/

namespace Sys2Proof.Machine

variable {s : State} {m : Msg} {q : Request}

theorem heard_word (s : State) (m : Msg) (a : Nat) (h : a ≠ R.NP_RX_FRAMES m.np) : (s.heard m).word a = s.word a :=
  word_inc_ne s _ a h

theorem heard_rd (s : State) (m : Msg) (f : Field) (h : f.addr ≠ R.NP_RX_FRAMES m.np) : (s.heard m).rd f = s.rd f :=
  rd_congr _ _ f (heard_word s m _ h)

theorem heard_discards (s : State) (m : Msg) (m' : Msg) : (s.heard m).discards m' = s.discards m' := by
  have h : (s.heard m).mgmtOpen m'.np = s.mgmtOpen m'.np := by
    have e0 : (s.heard m).flag R.MGMT_EN_NP0 = s.flag R.MGMT_EN_NP0 := by
      unfold State.flag; exact congrArg (· == 1) (heard_rd s m _ (by show (0x15C : Nat) ≠ R.NP_RX_FRAMES _; simp only [R.NP_RX_FRAMES]; omega))
    have e1 : (s.heard m).flag R.MGMT_EN_NP1 = s.flag R.MGMT_EN_NP1 := by
      unfold State.flag; exact congrArg (· == 1) (heard_rd s m _ (by show (0x15C : Nat) ≠ R.NP_RX_FRAMES _; simp only [R.NP_RX_FRAMES]; omega))
    unfold State.mgmtOpen
    rw [e0, e1]
    rfl
  unfold State.discards
  rw [h]

theorem heard_udpMax (s : State) (m : Msg) (np : Fin 2) : (s.heard m).udpMax np.val = s.udpMax np.val := by
  have e : (s.heard m).rd (R.NP_CFG_FRAME np) = s.rd (R.NP_CFG_FRAME np) := by
    apply heard_rd
    show R.NP_CFG np.val ≠ R.NP_RX_FRAMES m.np.val
    simp only [R.NP_CFG, R.NP_RX_FRAMES]
    omega
  unfold State.udpMax
  rw [e]
  rfl

/-- A request that is served runs its body and is answered. -/
theorem serveLater_takes (body : State → State × Option (Nat × List Byte)) (h : s.takes m q) :
    s.serveLater m q body =
      match (body (s.heard m)).2 with
      | some a => (body (s.heard m)).1.answer m q.type q.stored (q.type == 0x10 && bit m.flags.toNat 1) a.1 a.2
      | none => (body (s.heard m)).1 := by
  obtain ⟨h1, h2, h3, h4, h5, h6, h7, h8, h9⟩ := h
  have d : (s.heard m).discards m = false := by rw [heard_discards, h2]
  have f : (s.heard m).forwarded m = false := h5
  have r : (s.heard m).stateRefusal q = none := h7
  have u : (s.heard m).udpMax m.np = s.udpMax m.np := heard_udpMax s m m.np
  unfold State.serveLater
  simp only [h1, Bool.not_true, Bool.false_eq_true, if_false]
  change (if (s.heard m).discards m = true then _ else _) = _
  rw [if_neg (by rw [d]; simp), if_neg (by simp [h3]), if_neg (by simp [h4]), if_neg (by rw [show State.forwarded (s.inc _) m = _ from f]; simp)]
  have g : (if q.stored = true then (s.heard m).fresh.find? (fun h => ofSource m.ip m.port h && h.seq == m.seq) else none) = none := by
    split
    · next e => exact h6 e
    · rfl
  rw [show (if q.stored = true then State.fresh (s.inc (R.NP_RX_FRAMES_COUNT m.np)) |>.find? (fun h => ofSource m.ip m.port h && h.seq == m.seq)
    else none) = none from g]
  simp only [show State.stateRefusal (s.inc (R.NP_RX_FRAMES_COUNT m.np)) q = none from r]
  rw [if_neg]
  · rfl
  · rw [show State.udpMax (s.inc (R.NP_RX_FRAMES_COUNT m.np)) m.np = s.udpMax m.np from u]
    simp [h8]
    omega

/-- A request answered at once. -/
theorem serve_takes (body : State → State × Nat × List Byte) (h : s.takes m q) :
    s.serve m q body = (body (s.heard m)).1.answer m q.type q.stored (q.type == 0x10 && bit m.flags.toNat 1) (body (s.heard m)).2.1 (body (s.heard m)).2.2 := by
  unfold State.serve
  rw [serveLater_takes _ h]

/-- A WRITE served in this module that passes its checks is committed and answered OK. -/
theorem serveWrite_ok {addr : Nat} {ws : List Word} {ex : Extra} (h : s.takesWrite m addr ws)
    (hc : (s.heard m).checkWrite ((s.heard m).writeCtx m addr ws ex) = none) (hf : (s.heard m).reachesFollowers addr ws.length = false) :
    s.serveWrite m addr ws ex =
      ((s.heard m).commitWrite ((s.heard m).writeCtx m addr ws ex)).answer m 2 true false Status.ok (leBytes 4 0xFFFFFFFF) := by
  obtain ⟨h1, h2⟩ := h
  have e0 := serveLater_takes (fun t => t.write m addr ws ex) h1
  unfold State.serveWrite
  refine Eq.trans e0 ?_
  have e : (s.heard m).write m addr ws ex =
      ((s.heard m).commitWrite ((s.heard m).writeCtx m addr ws ex), some (Status.ok, leBytes 4 0xFFFFFFFF)) := by
    unfold State.write
    rw [h2]
    have w : (s.heard m).writeHere ⟨m.np, addr, (s.heard m).restartOnly ws, ex⟩ =
        ((s.heard m).commitWrite ((s.heard m).writeCtx m addr ws ex), Status.ok, leBytes 4 0xFFFFFFFF) := by
      unfold State.writeHere
      rw [show (s.heard m).checkWrite ⟨m.np, addr, (s.heard m).restartOnly ws, ex⟩ = none from hc]
      rfl
    simp only [w, hf, Bool.false_eq_true, and_false, if_false]
  rw [e]
  rfl

/-- A WRITE served in this module that breaks a check is answered with its STATUS and the index of the first bad word. -/
theorem serveWrite_bad {addr : Nat} {ws : List Word} {ex : Extra} {st i : Nat} (h : s.takesWrite m addr ws)
    (hc : (s.heard m).checkWrite ((s.heard m).writeCtx m addr ws ex) = some (st, i)) (hs : st ≠ 0) :
    s.serveWrite m addr ws ex =
      ((s.heard m).afterRefusal ((s.heard m).writeCtx m addr ws ex) st i).answer m 2 true false st (leBytes 4 i) := by
  obtain ⟨h1, h2⟩ := h
  have e0 := serveLater_takes (fun t => t.write m addr ws ex) h1
  unfold State.serveWrite
  refine Eq.trans e0 ?_
  have e : (s.heard m).write m addr ws ex =
      ((s.heard m).afterRefusal ((s.heard m).writeCtx m addr ws ex) st i, some (st, leBytes 4 i)) := by
    unfold State.write
    rw [h2]
    have w : (s.heard m).writeHere ⟨m.np, addr, (s.heard m).restartOnly ws, ex⟩ =
        ((s.heard m).afterRefusal ((s.heard m).writeCtx m addr ws ex) st i, st, leBytes 4 i) := by
      unfold State.writeHere
      rw [show (s.heard m).checkWrite ⟨m.np, addr, (s.heard m).restartOnly ws, ex⟩ = some (st, i) from hc]
      rfl
    simp only [w, hs, false_and, if_false]
  rw [e]
  rfl

end Sys2Proof.Machine
end

section
/-! PROOFS. What the scope chapter says of register accesses: fields are separate, and an access that is not aligned to a word is
refused (R5, R91, R95, R109). -/

namespace Sys2Proof.Machine

/-! ## Fields of one word (R5) -/

/-- Settles O8: a field of another word is kept with its word, a field of the same word by the bits that `withBits` leaves alone. -/
theorem fieldsAreSeparate : Obligations.FieldsAreSeparate := by
  intro s f v hf
  refine ⟨rd_wr_same s f v (by simpa [Field.fits] using hf), fun g hg hfg => ?_, fun a ha => word_wr_ne s f v a ha⟩
  have hapart : f.apart g = true := by
    simp only [Field.apart, Bool.or_eq_true, bne_iff_ne, decide_eq_true_eq]
    rcases hfg with h | h | h
    · exact .inl (.inl h.symm)
    · exact .inr h
    · exact .inl (.inr h)
  exact rd_wr_apart s f g v (by simpa [Field.fits] using hg) hapart

/-! ## Nothing is read or mirrored at a misaligned address (R109, R117) -/

theorem readWord_misaligned (s : State) {a : Nat} (h : a % 4 ≠ 0) : s.readWord a = none := if_pos h

theorem mirrored_misaligned (s : State) {a : Nat} (n : Nat) (h : a % 4 ≠ 0) : s.mirrored a n = none := by
  unfold State.mirrored
  split
  · rfl
  · exact if_neg (fun hc => h hc.1)

theorem readRange_misaligned (s : State) {a n : Nat} (h : a % 4 ≠ 0) (hn : 1 ≤ n) : s.readRange a n = none := by
  obtain ⟨k, rfl⟩ := Nat.exists_eq_add_of_le' hn
  simp only [State.readRange, readWord_misaligned s h]

/-- A misaligned READ answers BAD_ADDRESS and uses no draw. -/
theorem read_misaligned (s : State) (m : Msg) {a n : Nat} (h : a % 4 ≠ 0) (hn : 1 ≤ n) :
    s.read m a n = (s, some (Status.badAddress, [])) := by
  unfold State.read
  rw [mirrored_misaligned s n h, readRange_misaligned s h hn]

/-! ## A misaligned WRITE fails at its first word (R97) -/

@[simp] theorem wordsFrom_length (bs : List Byte) (off n : Nat) : (wordsFrom bs off n).length = n := by
  induction n generalizing off with
  | zero => rfl
  | succ n ih => simp only [wordsFrom, List.length_cons, ih]

@[simp] theorem restartOnly_length (s : State) (ws : List Word) : (s.restartOnly ws).length = ws.length := by
  unfold State.restartOnly
  split <;> simp

theorem checkWrite_misaligned (s : State) (x : WriteCtx) (h : x.addr % 4 ≠ 0) (hw : 1 ≤ x.words.length) :
    s.checkWrite x = some (Status.badAddress, 0) := by
  obtain ⟨w, ws, hx⟩ := List.exists_cons_of_length_pos hw
  have hfirst : s.wordStatus x x.addr w = some Status.badAddress := by
    simp [State.wordStatus, readWord_misaligned s h]
  simp [State.checkWrite, WriteCtx.pairs, hx, State.checkFrom, hfirst]

/-- A refusal with BAD_ADDRESS at a word of no special register leaves the state alone. -/
theorem afterRefusal_badAddress (s : State) (x : WriteCtx) (i : Nat) (h : x.addr + 4 * i ≠ R.PWR_CTRL) :
    s.afterRefusal x Status.badAddress i = s := by
  simp only [State.afterRefusal]
  rw [if_neg (fun hc => h hc.2.1)]
  split
  · exact if_neg (by decide)
  · rfl

/-- A WRITE message whose payload has the length its count asks for is the WRITE of its words (R91). -/
theorem serveWritePayload_eq_serveWrite (s : State) (m : Msg) (payload : List Byte) (h : payload.length = 8 + 4 * le payload 4 4)
    (hn : 1 ≤ le payload 4 4 ∧ le payload 4 4 ≤ 2048) :
    s.serveWritePayload m payload = s.serveWrite m (le payload 0 4) (wordsFrom payload 8 (le payload 4 4)) := by
  have hlen : 8 ≤ payload.length := by omega
  simp only [State.serveWritePayload, State.serveWrite, wordsFrom_length, hn, hlen, ← h, and_self, decide_true, beq_self_eq_true,
    Bool.true_and]

/-- A misaligned WRITE that is served is answered BAD_ADDRESS at its first word, and nothing else happens. -/
theorem serveWrite_misaligned {s : State} {m : Msg} {a : Nat} {ws : List Word} {ex : Extra} (h : s.takesWrite m a ws) (ha : a % 4 ≠ 0)
    (hw : 1 ≤ ws.length) :
    s.serveWrite m a ws ex = (s.heard m).answer m 2 true false Status.badAddress (leBytes 4 0) := by
  have hcheck : (s.heard m).checkWrite ((s.heard m).writeCtx m a ws ex) = some (Status.badAddress, 0) :=
    checkWrite_misaligned _ _ ha ((restartOnly_length _ _).symm ▸ hw)
  have hreg : a + 4 * 0 ≠ R.PWR_CTRL := fun e => ha (by rw [show a = R.PWR_CTRL from e]; rfl)
  rw [serveWrite_bad h hcheck (by decide), afterRefusal_badAddress _ _ _ hreg]

/-- A misaligned READ that is served is answered BAD_ADDRESS, and nothing else happens. -/
theorem serveRead_misaligned {s : State} {m : Msg} {payload : List Byte} (ha : le payload 0 4 % 4 ≠ 0)
    (h : s.takes m ⟨1, 41002, false, payload.length == 8 && decide (1 ≤ le payload 4 4 ∧ le payload 4 4 ≤ 2048),
      8 + 4 * le payload 4 4, true, true⟩) :
    s.serveRead m payload = (s.heard m).answer m 1 false false Status.badAddress [] := by
  obtain ⟨-, -, -, -, -, -, -, hlen, -⟩ := id h
  simp only [Bool.and_eq_true, decide_eq_true_eq] at hlen
  unfold State.serveRead
  rw [serveLater_takes _ h, read_misaligned _ m ha hlen.2.1]
  rfl

/-! ## What an answer sends and changes (R93, R106) -/

theorem countRefused_out (s : State) (type status : Nat) : (s.countRefused type status).out = s.out := by
  unfold State.countRefused
  split <;> rfl

theorem countRefused_word (s : State) (type status a : Nat) (h : type = 2 → a ≠ R.CFG_REFUSED) :
    (s.countRefused type status).word a = s.word a := by
  unfold State.countRefused
  split
  · next hc => exact word_inc_ne s _ a (h hc.1)
  · rfl

/-- An answer that is not held back sends its reply and nothing else. -/
theorem answer_out (s : State) (m : Msg) (type status : Nat) (stored : Bool) (payload : List Byte) :
    (s.answer m type stored false status payload).out = s.out ++ [replyOf m type status payload] := by
  rw [← countRefused_out s type status]
  cases stored <;> rfl

theorem answer_word (s : State) (m : Msg) (type status a : Nat) (stored quiet : Bool) (payload : List Byte)
    (hsent : a ≠ R.NP_TX_FRAMES m.np) (hrefused : type = 2 → a ≠ R.CFG_REFUSED) :
    (s.answer m type stored quiet status payload).word a = s.word a := by
  have hreply : ((s.countRefused type status).sendReply m type status payload).word a = (s.countRefused type status).word a :=
    word_inc_ne ((s.countRefused type status).emit _) _ a hsent
  rw [← countRefused_word s type status a hrefused]
  cases quiet <;> cases stored
  · exact hreply
  · exact hreply
  · rfl
  · rfl

theorem sameMemory_of_eq {s t : State} (hh : t.hbm = s.hbm) (hf : t.flash = s.flash) : SameMemory s t :=
  fun _ => ⟨by rw [hh], by rw [hf]⟩

/-- A request that is received and answered without more ado: its reply leaves, both memories stay, and of the registers only the
counts of received, sent and, for a WRITE, refused messages move. -/
theorem heard_answer_latch (s : State) (m : Msg) (type status : Nat) (stored : Bool) (payload : List Byte) (except : List Nat)
    (hrx : R.NP_RX_FRAMES m.np ∈ except) (htx : R.NP_TX_FRAMES m.np ∈ except) (hrefused : type = 2 → R.CFG_REFUSED ∈ except) :
    ((s.heard m).answer m type stored false status payload).latch.out = s.out ++ [replyOf m type status payload] ∧
      SameMemory s ((s.heard m).answer m type stored false status payload).latch ∧
      SameWords s ((s.heard m).answer m type stored false status payload).latch except := by
  refine ⟨?_, sameMemory_of_eq ?_ ?_, fun a ha => ?_⟩
  · simp only [latch_frame, answer_out]
    rfl
  · simp only [latch_frame, answer_frame]
    rfl
  · simp only [latch_frame, answer_frame]
    rfl
  · have hne : ∀ {b}, b ∈ except → a ≠ b := fun hb e => ha (e ▸ hb)
    simp only [latch_frame]
    rw [answer_word _ _ _ _ _ _ _ _ (hne htx) (fun h => hne (hrefused h)), heard_word s m a (hne hrx)]

/-- Settles O20: no word stands at a misaligned address, so the WRITE fails at its first word, before anything is stored, and the READ
finds no range. -/
theorem misalignedAccess : Obligations.MisalignedAccess := by
  refine ⟨fun s m payload ha hlen htakes => ?_, fun s m payload ha htakes => ?_⟩
  · have hn : 1 ≤ le payload 4 4 ∧ le payload 4 4 ≤ 2048 := by
      obtain ⟨⟨-, -, -, -, -, -, -, hok, -⟩, -⟩ := id htakes
      simpa [writeReq] using hok
    refine ⟨_, rfl, ?_⟩
    rw [serveWritePayload_eq_serveWrite s m payload hlen hn, serveWrite_misaligned htakes ha (by simpa using hn.1)]
    exact heard_answer_latch s m 2 _ true _ _ (by simp) (by simp) (by simp)
  · refine ⟨_, rfl, ?_⟩
    rw [serveRead_misaligned ha htakes]
    exact heard_answer_latch s m 1 _ false _ _ (by simp) (by simp) (by simp)

/-! ## Requests that meet the hypotheses -/

/-- A module in Day whose registers hold their values after Dawn. -/
def dayState : State := { State.reset with pow := { State.reset.pow with phase := .day } }

/-- A well-formed management message from a host at network port 0, with a payload of `len` bytes. -/
def requestMsg (len : Nat) : Msg := ⟨0, 0xC0A80001, 50000, 41002, true, false, 16 + len, 0x4B46, 1, 7, 0, 0, len⟩

/-- The module in Day serves a WRITE of one word at address 2, and answers it BAD_ADDRESS. -/
theorem misalignedAccess_write_witness :
    ∃ t, exec (.write (requestMsg 12) [2, 0, 0, 0, 1, 0, 0, 0, 9, 9, 9, 9]) dayState = .next t ∧
      t.out = dayState.out ++ [replyOf (requestMsg 12) 2 Status.badAddress (leBytes 4 0)] ∧ SameMemory dayState t ∧
      SameWords dayState t [R.NP_RX_FRAMES 0, R.NP_TX_FRAMES 0, R.CFG_REFUSED] := by
  have htakes : dayState.takes (requestMsg 12) (writeReq 2 1) :=
    ⟨by decide, by decide, rfl, rfl, rfl, fun _ => rfl, by decide, by decide, by decide⟩
  exact misalignedAccess.1 dayState (requestMsg 12) [2, 0, 0, 0, 1, 0, 0, 0, 9, 9, 9, 9] (by decide) rfl
    ⟨htakes, mirrored_misaligned _ _ (by decide)⟩

/-- The module in Day serves a READ of one word at address 2, and answers it BAD_ADDRESS. -/
theorem misalignedAccess_read_witness :
    ∃ t, exec (.read (requestMsg 8) [2, 0, 0, 0, 1, 0, 0, 0]) dayState = .next t ∧
      t.out = dayState.out ++ [replyOf (requestMsg 8) 1 Status.badAddress []] ∧ SameMemory dayState t ∧
      SameWords dayState t [R.NP_RX_FRAMES 0, R.NP_TX_FRAMES 0] :=
  misalignedAccess.2 dayState (requestMsg 8) [2, 0, 0, 0, 1, 0, 0, 0] (by decide)
    ⟨by decide, by decide, rfl, rfl, rfl, fun _ => rfl, by decide, by decide, by decide⟩

end Sys2Proof.Machine
end

section
/-! PROOFS. What stops the core, what the loss of VAUX leaves (R38, R44, R79, R438, R442), and a span's latched bits (R112). -/

namespace Sys2Proof.Machine

variable {s t : State}

/-! ## What halting the flash may change (R438) -/

/-- The state less the flash, the flash engine, and what raising events, counting and latching statuses may change. -/
def State.sansFlash (s : State) : State :=
  { s with
    regs := [], life := [], subs := [], out := [], ports := [], free := 0, conds := [], flash := [], nvm := {}
    spans := { s.spans with leaves := [] } }

/-- A state that is `s` but for those parts is `s` with what was noticed, its flash and its flash engine. -/
theorem eq_noticed_of_sansFlash (h : t.sansFlash = s.sansFlash) : t = { s.noticed t with flash := t.flash, nvm := t.nvm } :=
  calc
    t = { t.sansFlash.noticed t with flash := t.flash, nvm := t.nvm } := rfl
    _ = { s.sansFlash.noticed t with flash := t.flash, nvm := t.nvm } := by rw [h]
    _ = _ := rfl

theorem same_of_sansFlash (h : t.sansFlash = s.sansFlash) : t.time = s.time ∧ t.pow = s.pow ∧ t.pending = s.pending := by
  refine ⟨?_, ?_, ?_⟩
  · show t.sansFlash.time = s.sansFlash.time; rw [h]
  · show t.sansFlash.pow = s.sansFlash.pow; rw [h]
  · show t.sansFlash.pending = s.sansFlash.pending; rw [h]

theorem sansFlash_of_quiet (hq : t.quiet_ = s.quiet_) (hh : t.held = s.held) : t.sansFlash = s.sansFlash :=
  calc
    t.sansFlash = { t.quiet_.sansFlash with held := t.held } := rfl
    _ = { s.quiet_.sansFlash with held := s.held } := by rw [hq, hh]
    _ = _ := rfl

@[simp] theorem latch_sansFlash (s : State) : s.latch.sansFlash = s.sansFlash := by
  show s.latch.noLeaves.sansFlash = s.noLeaves.sansFlash
  rw [latch_noLeaves]

@[simp] theorem raise_sansFlash (s : State) (e : Event) (source arg : Nat) : (s.raise e source arg).sansFlash = s.sansFlash :=
  sansFlash_of_quiet (by simp) (by simp)

@[simp] theorem cond_sansFlash (s : State) (b : Bool) (e : Event) (source arg : Nat) :
    (s.cond b e source arg).sansFlash = s.sansFlash :=
  sansFlash_of_quiet (by simp) (by simp)

@[simp] theorem wr_sansFlash (s : State) (f : Field) (v : Nat) : (s.wr f v).sansFlash = s.sansFlash := rfl

@[simp] theorem lifeAdd_sansFlash (s : State) (off width n : Nat) : (s.lifeAdd off width n).sansFlash = s.sansFlash := rfl

@[simp] theorem onNvm_sansFlash (s : State) (f : Nvm → Nvm) : (s.onNvm f).sansFlash = s.sansFlash := rfl

@[simp] theorem flashProgram_sansFlash (s : State) (a : Nat) (bs : List Byte) : (s.flashProgram a bs).sansFlash = s.sansFlash := rfl

@[simp] theorem flashErase_sansFlash (s : State) (a b : Nat) : (s.flashErase a b).sansFlash = s.sansFlash := rfl

@[simp] theorem setSlot_sansFlash (s : State) (k gen : Nat) (ok : Bool) : (s.setSlot k gen ok).sansFlash = s.sansFlash := by
  simp only [State.setSlot, State.wrB]
  split <;> simp

@[simp] theorem tempDefer_sansFlash (s : State) : s.tempDefer.sansFlash = s.sansFlash := by
  simp only [State.tempDefer, cond_sansFlash]
  split <;> simp

@[simp] theorem commitTo_sansFlash (s : State) (st : CommitStep) : (s.commitTo st).sansFlash = s.sansFlash := by
  simp only [State.commitTo, State.erases, tempDefer_sansFlash, wr_sansFlash]
  split
  · simp
  · split <;> simp

@[simp] theorem flashFail_sansFlash (s : State) (r : FlashResult) : (s.flashFail r).sansFlash = s.sansFlash := by
  cases r <;> simp [State.flashFail, State.nvmFail]

@[simp] theorem commitFail_sansFlash (s : State) (r : FlashResult) : (s.commitFail r).sansFlash = s.sansFlash := by
  simp [State.commitFail]

@[simp] theorem commitNext_sansFlash (s : State) : s.commitNext.sansFlash = s.sansFlash := by
  simp only [State.commitNext]
  cases s.nvm.commit.step with
  | idle => rfl
  | verify => dsimp only; split <;> simp
  | eraseHeader => simp
  | eraseBlocks left => simp
  | program page => simp
  | header => simp

@[simp] theorem ringErased_sansFlash (s : State) (blk : Nat) (r : FlashResult) : (s.ringErased blk r).sansFlash = s.sansFlash := by
  simp only [State.ringErased]
  split <;> simp

@[simp] theorem drawn_nvm_sansFlash (s : State) (n : Nvm) : (State.drawn { s with nvm := n }).sansFlash = s.sansFlash := rfl

/-- Halting the flash changes the flash, its engine, and what the end of a commit raises and counts. -/
@[simp] theorem flashHalt_sansFlash (s : State) (spiIdle : Bool) : (s.flashHalt spiIdle).sansFlash = s.sansFlash := by
  simp only [State.flashHalt, drawn_nvm_sansFlash]
  split <;> split <;> simp

/-- With no operation of the flash in progress, halting it keeps every byte. -/
theorem flashHalt_flash_of_idle (spiIdle : Bool) (hw : s.nvm.jWrite = none) (he : s.nvm.jErase = none) (hst : s.nvm.stWrite = none)
    (hc : s.nvm.commit.step = .idle) : (s.flashHalt spiIdle).flash = s.flash := by
  have hidle : s.committing = false := by simp [State.committing, hc]
  simp only [State.flashHalt, hw, he, hst, hidle, Bool.false_eq_true, false_and, and_false, if_false]
  rfl

/-! ## The core stops (R44, R79, R442) -/

theorem powered_iff (s : State) :
    s.powered = true ↔ s.pow.phase = .day ∨ s.pow.phase = .dusk ∨ s.pow.phase = .nightEntry ∨ s.pow.phase = .maint := by
  unfold State.powered
  cases s.pow.phase <;> simp

theorem coreOn_iff (s : State) : s.coreOn = true ↔ s.pow.phase = .day ∨ s.pow.phase = .dusk ∨ s.pow.phase = .nightEntry := by
  unfold State.coreOn State.awake
  cases s.pow.phase <;> simp

/-- The count the island goes on from when the core stops: ENC0's true position while the core counts it, else its own. -/
def State.islandCount (s : State) : Pos := if s.coreOn then BitVec.ofNat 48 (s.encTrue 0) else s.pow.islEnc

/-- The power state after a stop of the core in a phase, for a Dawn of a cause. -/
def State.stoppedPow (s : State) (phase : Phase) (cause : Nat) : Power :=
  { s.pow with
    phase := phase, cause := if s.pow.fresh then 0 else cause, coreStopped := s.time, islEnc := s.islandCount, restart := false
    wipeStep := 0, dipLost := s.pow.dipLost || s.therm.dipStart.isSome }

theorem coreStop_eq (s : State) (phase : Phase) (cause : Nat) (spiIdle : Bool) :
    s.coreStop phase cause spiIdle = ({ s with pow := s.stoppedPow phase cause } : State).flashHalt spiIdle := by
  unfold State.coreStop State.stoppedPow State.islandCount State.coreOn State.awake
  cases s.pow.phase <;> rfl

theorem coreStop_sansFlash (s : State) (phase : Phase) (cause : Nat) (spiIdle : Bool) :
    (s.coreStop phase cause spiIdle).sansFlash = ({ s with pow := s.stoppedPow phase cause } : State).sansFlash := by
  rw [coreStop_eq, flashHalt_sansFlash]

/-- A stop of the core leaves the power state of `stoppedPow`, and changes nothing else but the flash, its engine and what the end
of a commit raises. -/
theorem coreStop_latch (s : State) (phase : Phase) (cause : Nat) (spiIdle : Bool) :
    (s.coreStop phase cause spiIdle).latch.pow = s.stoppedPow phase cause ∧
      (s.coreStop phase cause spiIdle).latch =
        { s.noticed (s.coreStop phase cause spiIdle).latch with
          flash := (s.coreStop phase cause spiIdle).latch.flash
          pow := s.stoppedPow phase cause
          nvm := (s.coreStop phase cause spiIdle).latch.nvm } := by
  have h := (latch_sansFlash _).trans (coreStop_sansFlash s phase cause spiIdle)
  obtain ⟨-, hpow, -⟩ := same_of_sansFlash h
  exact ⟨hpow, eq_noticed_of_sansFlash h⟩

theorem coreOn_of_powered (h : s.powered = true) (hm : s.pow.phase ≠ .maint) : s.coreOn = true := by
  rw [coreOn_iff]
  rw [powered_iff] at h
  tauto

theorem powered_of_restartDue (h : s.restartDue = true) : s.powered = true := by
  simp only [State.restartDue, Bool.and_eq_true] at h
  obtain ⟨⟨⟨-, hpowered⟩, -⟩, -⟩ := h
  exact hpowered

theorem reset_of_powered (h : s.powered = true) : s.reset_ = s.coreStop .off 2 := by
  unfold State.reset_
  rcases (powered_iff s).1 h with hp | hp | hp | hp <;> rw [hp]

theorem shutdownCore_of_powered_or_night (spiIdle : Bool) (h : s.powered = true ∨ s.pow.phase = .night) :
    s.shutdownCore spiIdle = s.coreStop .shutdown 1 spiIdle := by
  unfold State.shutdownCore
  rw [powered_iff] at h
  rcases h with (hp | hp | hp | hp) | hp <;> rw [hp]

/-- Settles O10: each of the three is a `coreStop`, whose power state and frame `coreStop_latch` gives. -/
theorem coreStops : Obligations.CoreStops := by
  refine ⟨fun s low took hlow hs => ?_, fun s low took hlow => ?_, fun s b hs => ?_, fun s hs => ?_⟩
  · obtain ⟨hpow, hframe⟩ := coreStop_latch s .off 2 false
    refine ⟨(s.coreStop .off 2).latch, ?_, ?_⟩
    · show execResetN low took s = _
      rw [execResetN, if_pos hlow, reset_of_powered hs, State.done]
    · rw [hpow]
      exact ⟨rfl, rfl, rfl, fun hm => if_pos (coreOn_of_powered hs hm), hframe⟩
  · show execResetN low took s = _
    rw [execResetN, if_neg (by omega)]
  · obtain ⟨hpow, hframe⟩ := coreStop_latch s .shutdown 1 (b == 0)
    refine ⟨(s.coreStop .shutdown 1 (b == 0)).latch, ?_, ?_⟩
    · show execCoreShutdown b s = _
      rw [execCoreShutdown, shutdownCore_of_powered_or_night _ hs, State.done]
    · rw [hpow]
      refine ⟨rfl, rfl, fun hc => if_pos ?_, fun hn => if_neg ?_, hframe⟩
      · simpa [State.coreOn] using hc
      · simp [coreOn_iff, hn]
  · obtain ⟨hpow, hframe⟩ := coreStop_latch s .off 3 false
    refine ⟨(s.coreStop .off 3).latch, ?_, ?_⟩
    · show execRestartDawn s = _
      rw [execRestartDawn, if_pos hs, State.done]
    · rw [hpow]
      exact ⟨rfl, rfl, rfl, fun hm => if_pos (coreOn_of_powered (powered_of_restartDue hs) hm), hframe⟩

/-- A module in Day after its first Dawn, with a restart pending and one byte in its flash. -/
def restartingState : State :=
  { dayState with flash := [(0, 0x5A)], pow := { dayState.pow with fresh := false, restart := true } }

/-- A pulse of 1 µs on RESET_N that takes resets it for a Dawn of cause 2. -/
theorem coreStops_reset_witness :
    ∃ t, exec (.resetN 1000 true) restartingState = .next t ∧ t.pow.phase = .off ∧ t.pow.cause = 2 := by
  obtain ⟨t, hrun, hphase, hcause, -⟩ := coreStops.1 restartingState 1000 true (by decide) rfl
  exact ⟨t, hrun, hphase, hcause⟩

/-- In Night the loss of VIN keeps the island's own count. -/
theorem coreStops_shutdown_witness :
    ∃ t, exec (.coreShutdown 3) { dayState with pow := { phase := .night, islEnc := 77, fresh := false } } = .next t ∧
      t.pow.cause = 1 ∧ t.pow.islEnc = 77 := by
  obtain ⟨t, hrun, -, hcause, -, hisl, -⟩ :=
    coreStops.2.2.1 { dayState with pow := { phase := .night, islEnc := 77, fresh := false } } 3 (.inr rfl)
  exact ⟨t, hrun, hcause, hisl rfl⟩

/-- Nothing is being printed and no commit runs: the pending restart begins. -/
theorem coreStops_restart_witness :
    ∃ t, exec .restartDawn restartingState = .next t ∧ t.pow.phase = .off ∧ t.pow.cause = 3 := by
  obtain ⟨t, hrun, hphase, hcause, -⟩ := coreStops.2.2.2 restartingState (by decide)
  exact ⟨t, hrun, hphase, hcause⟩

/-! ## VAUX is lost (R38) -/

theorem vauxLost_latch (s : State) : s.vauxLost.latch = s.vauxLost := rfl

theorem vauxLost_eq (s : State) :
    s.vauxLost =
      { State.reset with
        flash := s.vauxLost.flash, out := s.vauxLost.out, free := s.vauxLost.free, pending := s.pending, time := s.time
        pow := { phase := .noVaux, vio := s.pow.vio } } := by
  obtain ⟨htime, hpow, hpending⟩ := same_of_sansFlash (coreStop_sansFlash s .noVaux 0 false)
  simp only [State.vauxLost, htime, hpow, hpending]
  rfl

/-- Settles O12: what is listed beside the flash is fixed by `vauxLost_eq`, and an idle flash keeps its bytes when it is halted. -/
theorem vauxLost : Obligations.VauxLost := by
  refine ⟨fun s hs => ⟨s.vauxLost.latch, ?_, ?_, fun hw he hst hc => ?_⟩, fun s hs => ?_⟩
  · show execVauxLost s = _
    rw [execVauxLost, if_neg hs, State.done]
  · rw [vauxLost_latch]
    exact vauxLost_eq s
  · show (s.coreStop .noVaux 0).flash = s.flash
    rw [coreStop_eq]
    exact flashHalt_flash_of_idle false hw he hst hc
  · show execVauxLost s = _
    rw [execVauxLost, if_pos hs]

/-- An idle flash keeps its byte while VAUX goes. -/
theorem vauxLost_witness : ∃ t, exec .vauxLost restartingState = .next t ∧ t.flash = [(0, 0x5A)] := by
  obtain ⟨t, hrun, -, hflash⟩ := vauxLost.1 restartingState (by decide)
  exact ⟨t, hrun, hflash rfl rfl rfl rfl⟩

/-! ## A latched bit whose cause ends with the reply (R110, R112) -/

/-- A channel number beyond the 512 of the module, whose CH_LANE word is the count NP0_TX_FRAMES. -/
def strayChannel : Nat := 15375

theorem strayChannel_lane : R.CH_LANE strayChannel = R.NP_TX_FRAMES 0 := rfl

/-- A module in Day whose only span is a leaf of `strayChannel`: the channel counts as configured, and 2^20 - 1 frames have been sent, so
that the next reply turns bit 19, the leaf's ON_SECOND, from 1 to 0. -/
def strayLeafState : State :=
  { dayState with
    regs := [(R.NP_TX_FRAMES 0, 0xFFFFF)]
    conf := [(R.CH_CFG strayChannel, 1)]
    spans := { nodes := [⟨0, none, some strayChannel, 0⟩] } }

theorem strayLeafState_leaf : strayChannel ∈ strayLeafState.leavesOf 0 := by decide

/-- The WRITE that clears bit 3, the copy of ON_SECOND, beneath span 0. -/
def clearOnSecond : Instr := .statusStickyClear (requestMsg 12) 0 8

theorem strayLeafState_accepts : strayLeafState.accepts clearOnSecond := by
  have htakes : strayLeafState.takes (requestMsg 12) (writeReq 0x01000020 1) :=
    ⟨by decide, by decide, rfl, rfl, rfl, fun _ => rfl, by decide, by decide, by decide⟩
  exact ⟨_, _, _, _, rfl, ⟨htakes, by decide⟩, by decide, by decide⟩

/-- The state after that WRITE, its reply and the latch. -/
def strayLeafCleared : State := (strayLeafState.serveWrite (requestMsg 12) 0x01000020 [8]).latch

theorem exec_clearOnSecond : exec clearOnSecond strayLeafState = .next strayLeafCleared := rfl

/-- The bit is 1 when the WRITE commits, so its copy latches again. -/
theorem strayLeafCleared_sticky : (strayLeafCleared.leaf strayChannel).sticky.getLsbD 3 = true := by decide

/-- The reply is counted after the commit, and the bit is 0 when the command is over. -/
theorem strayLeafCleared_now : (BitVec.ofNat 10 (strayLeafCleared.leafNow strayChannel)).getLsbD 3 = false := by decide

/-- Refutes O27: STATUS_STICKY clears a copy by the status bit at the commit (R112), while the clause looks at the bit after the reply.
For a leaf whose channel number is 512 or more, which no image can name but the statement does not exclude, CH_LANE lies over the
counts of NET, and the reply itself ends the cause. -/
theorem not_spanCommands : ¬ Obligations.SpanCommands := by
  intro h
  obtain ⟨-, -, hsticky, -⟩ := h
  obtain ⟨t, hrun, hclear⟩ := hsticky strayLeafState (requestMsg 12) 0 8 strayLeafState_accepts
  obtain rfl : strayLeafCleared = t := Host.Outcome.next.inj (exec_clearOnSecond.symm.trans hrun)
  have hcleared := hclear strayChannel strayLeafState_leaf 3 (by decide) strayLeafCleared_now
  exact Bool.false_ne_true (hcleared.symm.trans strayLeafCleared_sticky)

end Sys2Proof.Machine
end

section
/-! PROOFS. The registers that show the slots of the flash, and the background check of the slot that Dawn did not try (R67, R465). -/

namespace Sys2Proof.Machine

variable {s : State}

/-! ## Latching and registers -/

/-- Latching changes nothing but what the leaves hold. -/
theorem latch_eq_leaves (s : State) : s.latch = { s with spans := { s.spans with leaves := s.latch.spans.leaves } } :=
  calc
    s.latch = { s.latch.noLeaves with spans := { s.latch.noLeaves.spans with leaves := s.latch.spans.leaves } } := rfl
    _ = _ := by rw [latch_noLeaves]; rfl

theorem wr_regs (s : State) (f : Field) (v : Nat) : s.wr f v = { s with regs := (s.wr f v).regs } := rfl

/-! ## The slots' registers (R67, R77, R465) -/

/-- The words that show the slots. -/
abbrev slotWords : List Nat := [R.NVM_SLOTS, R.GEN_A, R.GEN_B]

theorem setSlot_regs (s : State) (k gen : Nat) (ok : Bool) : s.setSlot k gen ok = { s with regs := (s.setSlot k gen ok).regs } := by
  simp only [State.setSlot]
  split <;> rfl

theorem setSlot_word (s : State) (k gen a : Nat) (ok : Bool) (h : a ∉ slotWords) : (s.setSlot k gen ok).word a = s.word a := by
  simp only [List.mem_cons, List.not_mem_nil, or_false, not_or] at h
  obtain ⟨hslots, ha, hb⟩ := h
  simp only [State.setSlot]
  split
  · rw [word_wr_ne _ _ _ _ hslots, word_wr_ne _ _ _ _ ha]
    exact word_wr_ne _ _ _ _ hslots
  · rw [word_wr_ne _ _ _ _ hslots, word_wr_ne _ _ _ _ hb]
    exact word_wr_ne _ _ _ _ hslots

theorem setSlot_otherChk (s : State) (k gen : Nat) (ok : Bool) :
    (s.setSlot k gen ok).rd R.NVM_SLOTS_OTHER_CHK = s.rd R.NVM_SLOTS_OTHER_CHK := by
  simp only [State.setSlot]
  split
  all_goals
    rw [rd_wr_apart _ _ _ _ rfl rfl, rd_wr_apart _ _ _ _ rfl rfl]
    exact rd_wr_apart _ _ _ _ rfl rfl

theorem setSlot_showsA (s : State) (gen : Nat) (ok : Bool) :
    (s.setSlot 0 gen ok).rd R.NVM_SLOTS_A_VALID = b2n ok ∧ (s.setSlot 0 gen ok).rd R.GEN_A_GEN = (if ok then gen else 0) % 2 ^ 32 := by
  simp only [State.setSlot, if_true]
  refine ⟨?_, ?_⟩
  · rw [rd_wr_apart _ _ _ _ rfl rfl, rd_wr_apart _ _ _ _ rfl rfl, State.wrB, rd_wr_same _ _ _ rfl]
    cases ok <;> rfl
  · rw [rd_wr_apart _ _ _ _ rfl rfl, rd_wr_same _ _ _ rfl]

theorem setSlot_showsB (s : State) (gen : Nat) (ok : Bool) :
    (s.setSlot 1 gen ok).rd R.NVM_SLOTS_B_VALID = b2n ok ∧ (s.setSlot 1 gen ok).rd R.GEN_B_GEN = (if ok then gen else 0) % 2 ^ 32 := by
  simp only [State.setSlot, Nat.one_ne_zero, if_false]
  refine ⟨?_, ?_⟩
  · rw [rd_wr_apart _ _ _ _ rfl rfl, rd_wr_apart _ _ _ _ rfl rfl, State.wrB, rd_wr_same _ _ _ rfl]
    cases ok <;> rfl
  · rw [rd_wr_apart _ _ _ _ rfl rfl, rd_wr_same _ _ _ rfl]

/-! ## The check of the slot that Dawn did not try (R465) -/

theorem untriedDone_eq (s : State) (k : Nat) (ok : Bool) :
    s.untriedDone k ok = { s with regs := (s.untriedDone k ok).regs, nvm := { s.nvm with untried := none } } := by
  cases ok
  · exact (setSlot_regs _ _ _ _).trans rfl
  · rfl

theorem untriedDone_otherChk (s : State) (k : Nat) (ok : Bool) : (s.untriedDone k ok).rd R.NVM_SLOTS_OTHER_CHK = 1 := by
  cases ok
  · exact (setSlot_otherChk _ _ _ _).trans (rd_wr_same _ _ _ rfl)
  · exact rd_wr_same _ _ _ rfl

theorem untriedDone_word (s : State) (k a : Nat) (ok : Bool) (h : a ∉ slotWords) : (s.untriedDone k ok).word a = s.word a := by
  have hslots : a ≠ R.NVM_SLOTS := fun e => h (e ▸ List.mem_cons_self)
  have hmark : ((s.onNvm (fun n => { n with untried := none })).wr R.NVM_SLOTS_OTHER_CHK 1).word a = s.word a :=
    (word_wr_ne _ _ _ _ hslots).trans rfl
  cases ok
  · exact (setSlot_word _ _ _ _ _ h).trans hmark
  · exact hmark

/-- The record form of the untried slot's body, which decides whether the slot stays valid. -/
def State.untriedForm (s : State) (k : Nat) : Bool :=
  ((s.slotHeader k).bind (fun h => (s.bodyAt (s.slotBase k) h).bind (fun b => recordsOf b.length b))).any (fun l => l.all recordForm)

theorem exec_untriedSlotCheck {k : Nat} (ha : s.awake = true) (hk : s.nvm.untried = some k) :
    exec .untriedSlotCheck s = .next (s.untriedDone k (s.untriedForm k)).latch := by
  show execUntriedSlotCheck s = _
  simp only [execUntriedSlotCheck, hk, ha]
  rfl

/-- Settles O15: whatever the check finds, it ends in `untriedDone`, which writes the slots' words and nothing else. -/
theorem untriedSlot : Obligations.UntriedSlot := by
  intro s k ha hk
  refine ⟨_, exec_untriedSlotCheck ha hk, ?_⟩
  generalize s.untriedForm k = ok
  have hframe := untriedDone_eq s k ok
  refine ⟨?_, ?_, ?_, fun a h => ?_⟩
  · simp only [latch_frame]
    rw [hframe]
  · simp only [latch_frame]
    exact untriedDone_otherChk s k ok
  · rw [latch_eq_leaves, hframe]
  · simp only [latch_frame]
    exact untriedDone_word s k a ok h

/-- A module in Day whose slot B is still to be checked, with an erased flash. -/
def untriedState : State := { dayState with nvm := { untried := some 1 } }

/-- The check finds no image in the erased slot, and ends the wait. -/
theorem untriedSlot_witness :
    ∃ t, exec .untriedSlotCheck untriedState = .next t ∧ t.nvm.untried = none ∧ t.rd R.NVM_SLOTS_OTHER_CHK = 1 := by
  obtain ⟨t, hrun, hnone, hchk, -⟩ := untriedSlot untriedState 1 rfl rfl
  exact ⟨t, hrun, hnone, hchk⟩

end Sys2Proof.Machine
end

section
/-! PROOFS. What the operations of the flash change of the registers and of the flash engine, and what the end of each leaves (R69, R77,
R78, R87, R436, R453). -/

namespace Sys2Proof.Machine

variable {s t : State}

/-! ## What raising an event leaves of the flash engine -/

/-- The flash engine less what raising an event may change of it: which journal records are owed, and since when. -/
def State.engine (s : State) : Nvm := { s.nvm with due := [], lastHostFault := none }

/-- An engine is `e` when it is but for what raising events may change. -/
theorem nvm_of_engine (h : t.engine = s.engine) : t.nvm = { s.nvm with due := t.nvm.due, lastHostFault := t.nvm.lastHostFault } :=
  calc
    t.nvm = { t.engine with due := t.nvm.due, lastHostFault := t.nvm.lastHostFault } := rfl
    _ = _ := by rw [h]; rfl

theorem engine_congr (h : t.nvm = s.nvm) : t.engine = s.engine := by unfold State.engine; rw [h]

@[simp] theorem latch_engine (s : State) : s.latch.engine = s.engine := engine_congr (by simp)

@[simp] theorem wr_engine (s : State) (f : Field) (v : Nat) : (s.wr f v).engine = s.engine := rfl

@[simp] theorem lifeAdd_engine (s : State) (off width n : Nat) : (s.lifeAdd off width n).engine = s.engine := rfl

@[simp] theorem journalDue_engine (s : State) (cause : Nat) : (s.journalDue cause).engine = s.engine := by
  simp only [State.journalDue]
  (repeat' split) <;> rfl

@[simp] theorem journalEvent_engine (s : State) (e : Event) : (s.journalEvent e).engine = s.engine := by
  unfold State.journalEvent
  split
  · exact journalDue_engine s 7
  · rfl

theorem enqueues_nvm (s : State) (e : Event) (source arg : Word) (cleared : Bool) (l : List Nat) :
    (l.foldl (fun (t : State) k => t.enqueue e source arg cleared k) s).nvm = s.nvm := by
  induction l generalizing s with
  | nil => rfl
  | cons k l ih => rw [List.foldl_cons, ih]; simp

@[simp] theorem raise_engine (s : State) (e : Event) (source arg : Nat) : (s.raise e source arg).engine = s.engine := by
  have h : (s.raise e source arg).engine = ((s.latchFault e).journalEvent e).engine :=
    engine_congr (by unfold State.raise; rw [(flushEvents_frame2 _).2.1, enqueues_nvm])
  rw [h, journalEvent_engine]
  exact engine_congr (by simp)

@[simp] theorem condOn_engine (s : State) (e : Event) (source arg : Nat) : (s.condOn e source arg).engine = s.engine := by
  unfold State.condOn
  split
  · rfl
  · exact raise_engine _ _ _ _

@[simp] theorem condOff_engine (s : State) (e : Event) (source arg : Nat) : (s.condOff e source arg).engine = s.engine :=
  engine_congr (by simp)

@[simp] theorem cond_engine (s : State) (b : Bool) (e : Event) (source arg : Nat) : (s.cond b e source arg).engine = s.engine := by
  unfold State.cond
  split <;> simp

/-! ## What starting what waits for the flash may change (R436) -/

/-- The words that the flash engine changes when a step of it starts or is held back: NVM_OP, NVM_ERR, and those of events. -/
def engineWord (a : Nat) : Bool := a == R.NVM_OP || a == R.NVM_ERR || plumbWord a

theorem engineWord_split {a : Nat} (h : engineWord a = false) : a ≠ R.NVM_OP ∧ a ≠ R.NVM_ERR ∧ plumbWord a = false := by
  simpa [engineWord, and_assoc] using h

theorem tempDefer_word (s : State) (a : Nat) (h : a ≠ R.NVM_ERR) (hp : plumbWord a = false) : s.tempDefer.word a = s.word a := by
  simp only [State.tempDefer]
  rw [cond_word _ _ _ _ _ _ hp]
  split
  · exact word_wr_ne _ _ _ _ h
  · rfl

@[simp] theorem tempDefer_engine (s : State) : s.tempDefer.engine = s.engine := by
  simp only [State.tempDefer, cond_engine]
  split <;> simp

@[simp] theorem tempDefer_frame (s : State) : s.tempDefer.flash = s.flash ∧ s.tempDefer.hbm = s.hbm ∧ s.tempDefer.keys = s.keys ∧
    s.tempDefer.held = s.held := by
  simp only [State.tempDefer]
  split <;> simp

theorem commitTo_word (s : State) (st : CommitStep) (a : Nat) (h : engineWord a = false) : (s.commitTo st).word a = s.word a := by
  obtain ⟨hop, herr, hp⟩ := engineWord_split h
  simp only [State.commitTo]
  rw [tempDefer_word _ _ herr hp, word_wr_ne _ _ _ _ hop]
  split
  · rfl
  · cases st <;> rfl

/-- A step of a commit begins or is deferred. -/
theorem commitTo_engine (s : State) (st : CommitStep) : (s.commitTo st).engine =
    { s.engine with commit := { s.nvm.commit with step := st, deferred := s.nvmShut && st != .verify && st != .idle } } := by
  simp only [State.commitTo, tempDefer_engine, wr_engine]
  split
  · rfl
  · cases st <;> rfl

@[simp] theorem commitTo_frame (s : State) (st : CommitStep) : (s.commitTo st).flash = s.flash ∧ (s.commitTo st).hbm = s.hbm ∧
    (s.commitTo st).keys = s.keys ∧ (s.commitTo st).held = s.held := by
  simp only [State.commitTo, tempDefer_frame, wr_frame]
  split
  · simp
  · cases st <;> simp [State.erases]

/-- What the start of an operation leaves alone: the memories, the keys, and of the engine where the journal stands, the erase of its
ring, when the store was written, and the slot still to be checked. -/
def State.settled (s : State) := (s.flash, s.hbm, s.keys, s.nvm.jNext, s.nvm.jErase, s.nvm.stLast, s.nvm.untried)

theorem settled_of_engine (he : t.engine = s.engine) (hf : t.flash = s.flash) (hh : t.hbm = s.hbm) (hk : t.keys = s.keys) :
    t.settled = s.settled := by
  unfold State.settled
  rw [nvm_of_engine he, hf, hh, hk]

@[simp] theorem tempDefer_settled (s : State) : s.tempDefer.settled = s.settled := settled_of_engine (by simp) (by simp) (by simp) (by simp)

@[simp] theorem commitTo_settled (s : State) (st : CommitStep) : (s.commitTo st).settled = s.settled := by
  have hnvm := nvm_of_engine (s := { s with nvm := { s.nvm with commit := { s.nvm.commit with
    step := st, deferred := s.nvmShut && st != .verify && st != .idle } } }) (commitTo_engine s st)
  unfold State.settled
  rw [hnvm]
  simp

@[simp] theorem storeStart_settled (s : State) : s.storeStart.settled = s.settled := rfl

theorem storeStart_word (s : State) (a : Nat) : s.storeStart.word a = s.word a := rfl

/-- A pending state-store write starts when none runs. -/
def State.storeKicked (s : State) : State := if s.nvm.stPend ∧ s.nvm.stWrite.isNone then s.storeStart else s

/-- A deferred commit goes on. -/
def State.commitKicked (s : State) : State := if s.nvm.commit.deferred then s.commitTo s.nvm.commit.step else s

/-- What a kick of the flash does: nothing, or the oldest record held is written, or the store and the commit go on. -/
theorem flashKick_cases (s : State) : s.flashKick = s ∨
    (∃ c b rest, s.flashKick = (State.journalStart (s.onNvm (fun n => { n with held := rest })) c b).tempDefer) ∨
    s.flashKick = s.storeKicked.commitKicked.tempDefer := by
  unfold State.flashKick
  split
  · exact .inl rfl
  · split
    · exact .inr (.inl ⟨_, _, _, rfl⟩)
    · exact .inr (.inr rfl)

@[simp] theorem storeKicked_settled (s : State) : s.storeKicked.settled = s.settled := by
  unfold State.storeKicked
  split <;> rfl

theorem storeKicked_word (s : State) (a : Nat) : s.storeKicked.word a = s.word a := by
  unfold State.storeKicked
  split <;> rfl

theorem storeKicked_commit (s : State) : s.storeKicked.nvm.commit = s.nvm.commit := by
  unfold State.storeKicked
  split <;> rfl

@[simp] theorem commitKicked_settled (s : State) : s.commitKicked.settled = s.settled := by
  unfold State.commitKicked
  split <;> simp

theorem commitKicked_word (s : State) (a : Nat) (h : engineWord a = false) : s.commitKicked.word a = s.word a := by
  unfold State.commitKicked
  split
  · exact commitTo_word _ _ _ h
  · rfl

theorem commitKicked_of_not_deferred (h : s.nvm.commit.deferred = false) : s.commitKicked = s := if_neg (by simp [h])

theorem tempDefer_commit (s : State) : s.tempDefer.nvm.commit = s.nvm.commit := by
  rw [nvm_of_engine (tempDefer_engine s)]

/-- Whatever a kick starts, it changes none of `settled`. -/
@[simp] theorem flashKick_settled (s : State) : s.flashKick.settled = s.settled := by
  rcases flashKick_cases s with h | ⟨c, b, rest, h⟩ | h
  · rw [h]
  · rw [h, tempDefer_settled]
    rfl
  · rw [h, tempDefer_settled, commitKicked_settled, storeKicked_settled]

theorem flashKick_word (s : State) (a : Nat) (h : engineWord a = false) : s.flashKick.word a = s.word a := by
  obtain ⟨-, herr, hp⟩ := engineWord_split h
  rcases flashKick_cases s with hk | ⟨c, b, rest, hk⟩ | hk
  · rw [hk]
  · rw [hk, tempDefer_word _ _ herr hp]
    rfl
  · rw [hk, tempDefer_word _ _ herr hp, commitKicked_word _ _ h, storeKicked_word]

theorem flashKick_rd (s : State) (f : Field) (h : engineWord f.addr = false) : s.flashKick.rd f = s.rd f :=
  rd_congr _ _ f (flashKick_word _ _ h)

/-- A kick moves no commit that is not deferred, and leaves what NVM_OP shows of it. -/
theorem flashKick_of_not_deferred (h : s.nvm.commit.deferred = false) :
    s.flashKick.nvm.commit = s.nvm.commit ∧ s.flashKick.rd R.NVM_OP_OP = s.rd R.NVM_OP_OP := by
  have hop : ∀ u : State, u.tempDefer.rd R.NVM_OP_OP = u.rd R.NVM_OP_OP :=
    fun u => rd_congr _ _ _ (tempDefer_word u R.NVM_OP (by decide) (by decide))
  rcases flashKick_cases s with hk | ⟨c, b, rest, hk⟩ | hk
  · rw [hk]
    exact ⟨rfl, rfl⟩
  · rw [hk, tempDefer_commit, hop]
    exact ⟨rfl, rfl⟩
  · have hd : s.storeKicked.nvm.commit.deferred = false := by rw [storeKicked_commit, h]
    rw [hk, commitKicked_of_not_deferred hd, tempDefer_commit, hop, storeKicked_commit]
    exact ⟨rfl, rd_congr _ _ _ (storeKicked_word s R.NVM_OP)⟩

/-! ## What the end of each operation leaves (R69, R77, R78, R87, R453) -/

theorem get_flashErase (s : State) (a b i : Nat) :
    Sparse.get 0xFF (s.flashErase a b).flash i = if a ≤ i ∧ i < b then 0xFF else Sparse.get 0xFF s.flash i := by
  unfold State.flashErase Sparse.get
  simp only [find_clear]
  split <;> rfl

theorem get_flashProgram_out (s : State) (a i : Nat) (bs : List Byte) (h : i < a ∨ a + bs.length ≤ i) :
    Sparse.get 0xFF (s.flashProgram a bs).flash i = Sparse.get 0xFF s.flash i := by
  have hlen : (s.flashRead a bs.length).length = bs.length := by simp [State.flashRead, Sparse.range]
  unfold State.flashProgram
  simp only [get_splice, List.length_zipWith, hlen, Nat.min_self]
  exact if_neg (by omega)

/-- What is settled of a state, field by field. -/
theorem settled_eq (h : t.settled = s.settled) : t.flash = s.flash ∧ t.hbm = s.hbm ∧ t.keys = s.keys ∧ t.nvm.jNext = s.nvm.jNext ∧
    t.nvm.jErase = s.nvm.jErase ∧ t.nvm.stLast = s.nvm.stLast ∧ t.nvm.untried = s.nvm.untried := by
  simpa [State.settled] using h

theorem exec_flashOpDone (hs : s.powered = true) (r : FlashResult) : exec (.flashOpDone r) s = .next (s.flashDone r).latch := by
  show execFlashOpDone r s = _
  rw [execFlashOpDone, if_pos hs, State.done]

theorem keepErased_frame (s : State) (slot : Nat) : (s.keepErased slot).flash = s.flash ∧ (s.keepErased slot).hbm = s.hbm ∧
    (s.keepErased slot).nvm.jNext = s.nvm.jNext ∧ ∀ f, (s.keepErased slot).rd f = s.rd f := by
  simp only [State.keepErased]
  split <;> exact ⟨rfl, rfl, rfl, fun _ => rfl⟩

theorem wipeKeys_frame (s : State) : s.wipeKeys.flash = s.flash ∧ s.wipeKeys.hbm = s.hbm ∧ s.wipeKeys.nvm.jNext = s.nvm.jNext ∧
    ∀ f : Field, f.addr ≠ R.KEY_VALID → s.wipeKeys.rd f = s.rd f := by
  have hrd : ∀ f : Field, f.addr ≠ R.KEY_VALID →
      (State.wr { s with keys := [], pow := { s.pow with wipeStep := 3 } } R.KEY_VALID_SLOTS 0).rd f = s.rd f :=
    fun f h => (rd_wr_word _ _ _ _ h).trans rfl
  simp only [State.wipeKeys]
  split <;> exact ⟨rfl, rfl, rfl, hrd⟩

/-- The state with a record in its slot of the ring, shown and counted (R453). -/
def State.recordShown (s : State) (slot : Nat) (b : List Byte) : State :=
  (((s.flashProgram (s.journalBase + 512 * slot) b).wr R.LIFE_POS_SLOT slot).wr R.LIFE_GEN_GEN (le b 4 4)).inc R.LIFE_RECORDS_COUNT

theorem recordShown_rd (s : State) (slot : Nat) (b : List Byte) :
    (s.recordShown slot b).rd R.LIFE_POS_SLOT = slot % 2 ^ 13 ∧ (s.recordShown slot b).rd R.LIFE_GEN_GEN = le b 4 4 % 2 ^ 32 := by
  simp only [State.recordShown, State.inc, State.add]
  refine ⟨?_, ?_⟩
  · rw [rd_wr_apart _ _ _ _ rfl rfl, rd_wr_apart _ _ _ _ rfl rfl, rd_wr_same _ _ _ rfl]
  · rw [rd_wr_apart _ _ _ _ rfl rfl, rd_wr_same _ _ _ rfl]

/-- The next record takes the next slot, and the block after is kept erased. -/
def State.nextRecord (s : State) (slot : Nat) : State :=
  (s.onNvm (fun n => { n with jWrite := none, jNext := (slot + 1) % 8192 })).keepErased slot

theorem nextRecord_frame (s : State) (slot : Nat) : (s.nextRecord slot).flash = s.flash ∧ (s.nextRecord slot).hbm = s.hbm ∧
    (s.nextRecord slot).nvm.jNext = (slot + 1) % 8192 ∧ ∀ f, (s.nextRecord slot).rd f = s.rd f :=
  keepErased_frame (s.onNvm (fun n => { n with jWrite := none, jNext := (slot + 1) % 8192 })) slot

/-- After the first record of a wipe the keys are cleared (R462). -/
def State.wipeGoesOn (s : State) (c : Nat) : State := if c = 9 ∧ s.pow.wipeStep = 1 then s.wipeKeys else s

theorem wipeGoesOn_frame (s : State) (c : Nat) : (s.wipeGoesOn c).flash = s.flash ∧ (s.wipeGoesOn c).hbm = s.hbm ∧
    (s.wipeGoesOn c).nvm.jNext = s.nvm.jNext ∧ ∀ f : Field, f.addr ≠ R.KEY_VALID → (s.wipeGoesOn c).rd f = s.rd f := by
  unfold State.wipeGoesOn
  split
  · exact wipeKeys_frame s
  · exact ⟨rfl, rfl, rfl, fun _ _ => rfl⟩

theorem journalDone_ok (s : State) (slot c : Nat) (b : List Byte) :
    s.journalDone slot c b .ok = (((s.recordShown slot b).nextRecord slot).wipeGoesOn c).flashKick := rfl

/-- A journal write that ends well: the record stands in its slot, and the next record takes the next. -/
theorem journalDone_spec (s : State) (slot c : Nat) (b : List Byte) :
    (s.journalDone slot c b .ok).flash = (s.flashProgram (s.journalBase + 512 * slot) b).flash ∧
    (s.journalDone slot c b .ok).nvm.jNext = (slot + 1) % 8192 ∧
    (s.journalDone slot c b .ok).rd R.LIFE_POS_SLOT = slot % 2 ^ 13 ∧
    (s.journalDone slot c b .ok).rd R.LIFE_GEN_GEN = le b 4 4 % 2 ^ 32 ∧ (s.journalDone slot c b .ok).hbm = s.hbm := by
  obtain ⟨nf, nh, nj, nr⟩ := nextRecord_frame (s.recordShown slot b) slot
  obtain ⟨wf, wh, wj, wr⟩ := wipeGoesOn_frame ((s.recordShown slot b).nextRecord slot) c
  obtain ⟨hpos, hgen⟩ := recordShown_rd s slot b
  obtain ⟨hf, hh, -, hj, -⟩ := settled_eq (flashKick_settled (((s.recordShown slot b).nextRecord slot).wipeGoesOn c))
  rw [journalDone_ok, hf, hh, hj, wf, wh, wj, nf, nh, nj, flashKick_rd _ _ (by decide), flashKick_rd _ _ (by decide), wr _ (by decide),
    wr _ (by decide), nr, nr]
  exact ⟨rfl, rfl, hpos, hgen, rfl⟩

/-- The erase of the ring's next block that ends well. -/
theorem ringErased_spec (s : State) (blk : Nat) :
    (s.ringErased blk .ok).flashKick.nvm.jErase = none ∧
    (∀ a, Sparse.get 0xFF (s.ringErased blk .ok).flashKick.flash a =
      if s.journalBase + 0x10000 * blk ≤ a ∧ a < s.journalBase + 0x10000 * blk + 0x10000 then 0xFF else Sparse.get 0xFF s.flash a) ∧
    (s.ringErased blk .ok).flashKick.hbm = s.hbm ∧ (s.ringErased blk .ok).flashKick.keys = s.keys := by
  obtain ⟨hf, hh, hk, -, he, -⟩ := settled_eq (flashKick_settled (s.ringErased blk .ok))
  rw [hf, hh, hk, he]
  exact ⟨rfl, fun a => get_flashErase _ _ _ a, rfl, rfl⟩

theorem leBytes_length (n v : Nat) : (leBytes n v).length = n := by
  induction n generalizing v with
  | zero => rfl
  | succ n ih => simp only [leBytes, List.length_cons, ih]

theorem headerBytes_length (h : Header) (written : Nat) (tool : List Byte) : (headerBytes h written tool).length = 64 := by
  simp only [headerBytes, List.length_append, List.length_take, List.length_replicate, leBytes_length]
  omega

/-- The header of the store being written (R61). -/
def State.storeHeader (s : State) : List Byte :=
  headerBytes ⟨2, 0, s.rd R.STATE_GEN_GEN + 1, s.nvm.stBodyNew.length, crc32 s.nvm.stBodyNew, s.rd R.IMAGE_GEN_GEN, true⟩ s.tb0Seconds []

/-- The state with a store in its half, shown and counted (R69, R87). -/
def State.storeShown (s : State) (half : Nat) : State :=
  ((((((s.flashErase (s.storeBase half) (s.storeBase half + 0x400000)).flashProgram (s.storeBase half + 0x1000) s.nvm.stBodyNew).flashProgram
    (s.storeBase half) s.storeHeader).onNvm (fun n => { n with stWrite := none, stLast := s.time, stBody := s.storePlain })).wr
    R.STATE_GEN_GEN (s.rd R.STATE_GEN_GEN + 1)).wr R.NVM_SLOTS_ST_HALF half).lifeAdd 0x198 4 1

theorem storeDone_ok (s : State) (half : Nat) (hw : s.pow.wipeStep ≠ 3) : s.storeDone half .ok = (s.storeShown half).flashKick := by
  simp only [State.storeDone, hw, if_false, if_true]
  rfl

theorem storeShown_rd (s : State) (half : Nat) : (s.storeShown half).rd R.STATE_GEN_GEN = (s.rd R.STATE_GEN_GEN + 1) % 2 ^ 32 ∧
    (s.storeShown half).rd R.NVM_SLOTS_ST_HALF = half % 2 := by
  simp only [State.storeShown, lifeAdd_frame]
  refine ⟨?_, ?_⟩
  · rw [rd_wr_apart _ _ _ _ rfl rfl, rd_wr_same _ _ _ rfl]
  · rw [rd_wr_same _ _ _ rfl]
    rfl

/-- Outside its half and its body a store write leaves the flash alone. -/
theorem storeShown_flash (s : State) (half a : Nat)
    (h : a < s.storeBase half ∨ (s.storeBase half + 0x400000 ≤ a ∧ s.storeBase half + 0x1000 + s.nvm.stBodyNew.length ≤ a)) :
    Sparse.get 0xFF (s.storeShown half).flash a = Sparse.get 0xFF s.flash a := by
  have hhead : s.storeHeader.length = 64 := headerBytes_length _ _ _
  simp only [State.storeShown, lifeAdd_frame, wr_frame, onNvm_frame]
  rw [get_flashProgram_out _ _ _ _ (by omega), get_flashProgram_out _ _ _ _ (by omega), get_flashErase]
  exact if_neg (by omega)

/-- A state-store write that ends well, outside a wipe. -/
theorem storeDone_spec (s : State) (half : Nat) (hw : s.pow.wipeStep ≠ 3) :
    (s.storeDone half .ok).rd R.STATE_GEN_GEN = (s.rd R.STATE_GEN_GEN + 1) % 2 ^ 32 ∧
    (s.storeDone half .ok).rd R.NVM_SLOTS_ST_HALF = half % 2 ∧ (s.storeDone half .ok).nvm.stLast = s.time ∧
    (s.storeDone half .ok).hbm = s.hbm ∧ (s.storeDone half .ok).keys = s.keys ∧
    ∀ a, a < s.storeBase half ∨ (s.storeBase half + 0x400000 ≤ a ∧ s.storeBase half + 0x1000 + s.nvm.stBodyNew.length ≤ a) →
      Sparse.get 0xFF (s.storeDone half .ok).flash a = Sparse.get 0xFF s.flash a := by
  obtain ⟨hf, hh, hk, -, -, hl, -⟩ := settled_eq (flashKick_settled (s.storeShown half))
  obtain ⟨hgen, hhalf⟩ := storeShown_rd s half
  rw [storeDone_ok s half hw, hf, hh, hk, hl, flashKick_rd _ _ (by decide), flashKick_rd _ _ (by decide)]
  exact ⟨hgen, hhalf, rfl, rfl, rfl, storeShown_flash s half⟩

/-! ### The commit -/

/-- The state with a committed image in its slot (R77). -/
def State.imageShown (s : State) : State :=
  (((((s.flashProgram (s.slotBase s.nvm.commit.target) (headerBytes ⟨1, s.nvm.commit.flags, s.nvm.commit.gen, s.nvm.commit.len,
    s.nvm.commit.crc.toNat, 0, true⟩ s.tb0Seconds s.nvm.commit.tool)).onNvm (fun n => { n with commit := {}, untried := none })).wr
    R.NVM_OP_OP 0).setSlot s.nvm.commit.target s.nvm.commit.gen true).wr R.NVM_SLOTS_OTHER_CHK 1).lifeAdd 0x194 2 1

theorem commitNext_header (h : s.nvm.commit.step = .header) :
    s.commitNext = s.imageShown.raise Ev.COMMIT_DONE s.nvm.commit.target s.nvm.commit.gen := by
  simp only [State.commitNext, h]
  rfl

theorem commitNext_eraseHeader (h : s.nvm.commit.step = .eraseHeader) :
    s.commitNext = ((s.flashErase (s.slotBase s.nvm.commit.target) (s.slotBase s.nvm.commit.target + 0x1000)).setSlot
      s.nvm.commit.target 0 false).commitTo (.eraseBlocks ((s.nvm.commit.len + 0x1000 + 0xFFFF) / 0x10000)) := by
  simp only [State.commitNext, h]

theorem imageShown_engine (s : State) : s.imageShown.engine = { s.engine with commit := {}, untried := none } := by
  simp only [State.imageShown, lifeAdd_engine, wr_engine]
  rw [setSlot_regs]
  rfl

theorem imageShown_rd (s : State) (f : Field) (hf : f.fits = true) (h : R.NVM_SLOTS_OTHER_CHK.apart f = true) :
    s.imageShown.rd f = (((s.flashProgram (s.slotBase s.nvm.commit.target) (headerBytes ⟨1, s.nvm.commit.flags, s.nvm.commit.gen,
      s.nvm.commit.len, s.nvm.commit.crc.toNat, 0, true⟩ s.tb0Seconds s.nvm.commit.tool)).onNvm
      (fun n => { n with commit := {}, untried := none })).wr R.NVM_OP_OP 0 |>.setSlot s.nvm.commit.target s.nvm.commit.gen true).rd f := by
  simp only [State.imageShown, lifeAdd_frame]
  exact rd_wr_apart _ _ _ _ hf h

theorem imageShown_op (s : State) : s.imageShown.rd R.NVM_OP_OP = 0 := by
  rw [imageShown_rd s _ rfl rfl, rd_congr _ _ _ (setSlot_word _ _ _ _ _ (by decide)), rd_wr_same _ _ _ rfl]
  rfl

theorem imageShown_slotA (h : s.nvm.commit.target = 0) :
    s.imageShown.rd R.NVM_SLOTS_A_VALID = 1 ∧ s.imageShown.rd R.GEN_A_GEN = s.nvm.commit.gen % 2 ^ 32 := by
  rw [imageShown_rd s _ rfl rfl, imageShown_rd s _ rfl rfl, h]
  exact setSlot_showsA _ _ true

theorem imageShown_slotB (h : s.nvm.commit.target = 1) :
    s.imageShown.rd R.NVM_SLOTS_B_VALID = 1 ∧ s.imageShown.rd R.GEN_B_GEN = s.nvm.commit.gen % 2 ^ 32 := by
  rw [imageShown_rd s _ rfl rfl, imageShown_rd s _ rfl rfl, h]
  exact setSlot_showsB _ _ true

/-- The last step of a commit that ends well: the image stands in its slot, no commit runs, and no slot is untried. -/
theorem commitHeader_spec (h : s.nvm.commit.step = .header) :
    s.commitNext.flashKick.nvm.commit = {} ∧ s.commitNext.flashKick.nvm.untried = none ∧ s.commitNext.flashKick.rd R.NVM_OP_OP = 0 ∧
    (s.nvm.commit.target = 0 → s.commitNext.flashKick.rd R.NVM_SLOTS_A_VALID = 1 ∧
      s.commitNext.flashKick.rd R.GEN_A_GEN = s.nvm.commit.gen % 2 ^ 32) ∧
    (s.nvm.commit.target = 1 → s.commitNext.flashKick.rd R.NVM_SLOTS_B_VALID = 1 ∧
      s.commitNext.flashKick.rd R.GEN_B_GEN = s.nvm.commit.gen % 2 ^ 32) := by
  have hnvm := nvm_of_engine (s := { s with nvm := { s.nvm with commit := {}, untried := none } })
    (((congrArg State.engine (commitNext_header h)).trans (raise_engine _ _ _ _)).trans (imageShown_engine s))
  have hcommit : s.commitNext.nvm.commit = {} := by rw [hnvm]
  have huntried : s.commitNext.nvm.untried = none := by rw [hnvm]
  have hkick := flashKick_of_not_deferred (s := s.commitNext) (by rw [hcommit])
  obtain ⟨-, -, -, -, -, -, hu⟩ := settled_eq (flashKick_settled s.commitNext)
  have hrd : ∀ f : Field, engineWord f.addr = false → s.commitNext.flashKick.rd f = s.imageShown.rd f := fun f hf => by
    rw [flashKick_rd _ _ hf, commitNext_header h, raise_rd _ _ _ _ _ (engineWord_split hf).2.2]
  refine ⟨hkick.1.trans hcommit, hu.trans huntried, ?_, fun ht => ?_, fun ht => ?_⟩
  · rw [hkick.2, commitNext_header h, raise_rd _ _ _ _ _ (by decide), imageShown_op]
  · rw [hrd _ (by decide), hrd _ (by decide)]
    exact imageShown_slotA ht
  · rw [hrd _ (by decide), hrd _ (by decide)]
    exact imageShown_slotB ht

/-- The erase of the target's header that ends well: the slot is no longer valid. -/
theorem commitEraseHeader_spec (h : s.nvm.commit.step = .eraseHeader) :
    s.commitNext.flashKick.flash = (s.flashErase (s.slotBase s.nvm.commit.target) (s.slotBase s.nvm.commit.target + 0x1000)).flash ∧
    (s.nvm.commit.target = 0 → s.commitNext.flashKick.rd R.NVM_SLOTS_A_VALID = 0) ∧
    (s.nvm.commit.target = 1 → s.commitNext.flashKick.rd R.NVM_SLOTS_B_VALID = 0) := by
  obtain ⟨hf, -⟩ := settled_eq (flashKick_settled s.commitNext)
  have hrd : ∀ f : Field, engineWord f.addr = false → s.commitNext.flashKick.rd f =
      ((s.flashErase (s.slotBase s.nvm.commit.target) (s.slotBase s.nvm.commit.target + 0x1000)).setSlot
        s.nvm.commit.target 0 false).rd f := fun f hfw => by
    rw [flashKick_rd _ _ hfw, commitNext_eraseHeader h, rd_congr _ _ _ (commitTo_word _ _ _ hfw)]
  refine ⟨?_, fun ht => ?_, fun ht => ?_⟩
  · rw [hf, commitNext_eraseHeader h, (commitTo_frame _ _).1, setSlot_regs]
  · rw [hrd _ (by decide), ht]
    exact (setSlot_showsA _ _ false).1
  · rw [hrd _ (by decide), ht]
    exact (setSlot_showsB _ _ false).1

@[simp] theorem nvmFail_engine (s : State) (f : Field) (e : Event) : (s.nvmFail f e).engine = s.engine := by simp [State.nvmFail]

@[simp] theorem nvmFail_flash (s : State) (f : Field) (e : Event) : (s.nvmFail f e).flash = s.flash := by simp [State.nvmFail]

theorem nvmFail_rd (s : State) (f g : Field) (e : Event) (h : g.addr ≠ f.addr) (hp : plumbWord g.addr = false) :
    (s.nvmFail f e).rd g = s.rd g := by
  rw [State.nvmFail, raise_rd _ _ _ _ _ hp]
  exact rd_wr_word _ _ _ _ h

theorem flashFail_keeps (s : State) (r : FlashResult) :
    (s.flashFail r).engine = s.engine ∧ (s.flashFail r).flash = s.flash ∧ (s.flashFail r).rd R.NVM_OP_OP = s.rd R.NVM_OP_OP := by
  cases r with
  | ok => exact ⟨rfl, rfl, rfl⟩
  | eraseFail => exact ⟨nvmFail_engine _ _ _, nvmFail_flash _ _ _, nvmFail_rd _ _ _ _ (by decide) (by decide)⟩
  | programFail => exact ⟨nvmFail_engine _ _ _, nvmFail_flash _ _ _, nvmFail_rd _ _ _ _ (by decide) (by decide)⟩
  | verifyFail => exact ⟨nvmFail_engine _ _ _, nvmFail_flash _ _ _, nvmFail_rd _ _ _ _ (by decide) (by decide)⟩

/-- A commit that fails leaves no commit, and the flash as it was. -/
theorem commitFail_spec (s : State) (r : FlashResult) :
    (s.commitFail r).nvm.commit = {} ∧ (s.commitFail r).rd R.NVM_OP_OP = 0 ∧ (s.commitFail r).flash = s.flash := by
  obtain ⟨he, hf, hop⟩ := flashFail_keeps ((s.onNvm (fun n => { n with commit := {} })).wr R.NVM_OP_OP 0) r
  have hnvm := nvm_of_engine he
  refine ⟨?_, ?_, ?_⟩
  · rw [State.commitFail, tempDefer_commit, hnvm]
    rfl
  · rw [State.commitFail, rd_congr _ _ _ (tempDefer_word _ _ (by decide) (by decide)), hop, rd_wr_same _ _ _ rfl]
    rfl
  · rw [State.commitFail, (tempDefer_frame _).1, hf]
    rfl

/-- With no other operation in progress the end of an operation is that of the commit's (R77). -/
theorem flashDone_commit (hw : s.nvm.jWrite = none) (he : s.nvm.jErase = none) (hst : s.nvm.stWrite = none)
    (hd : s.nvm.commit.deferred = false) (hc : s.nvm.commit.step ≠ .idle) (r : FlashResult) :
    s.flashDone r = if r = .ok then s.commitNext.flashKick else s.commitFail r := by
  have hrun : s.committing = true := by simpa [State.committing] using hc
  simp only [State.flashDone, hw, he, hst, hrun, hd]
  rfl

/-- Settles O31: the end of an operation is that of the journal's, the ring's, the store's or the commit's, and each has its lemma. -/
theorem flashOperations : Obligations.FlashOperations := by
  refine ⟨fun s slot c b hs hw => ?_, fun s blk hs hw he => ?_, fun s h hs hw he hst hwipe => ?_, fun s hs hw he hst hd => ⟨fun hc => ?_, fun hc => ?_, fun r hr hc => ?_⟩⟩
  · refine ⟨_, exec_flashOpDone hs .ok, ?_⟩
    have hdone : s.flashDone .ok = s.journalDone slot c b .ok := by simp only [State.flashDone, hw]
    simp only [latch_frame, hdone]
    exact journalDone_spec s slot c b
  · refine ⟨_, exec_flashOpDone hs .ok, ?_⟩
    have hdone : s.flashDone .ok = (s.ringErased blk .ok).flashKick := by simp only [State.flashDone, hw, he]
    simp only [latch_frame, hdone]
    exact ringErased_spec s blk
  · refine ⟨_, exec_flashOpDone hs .ok, ?_⟩
    have hdone : s.flashDone .ok = s.storeDone h .ok := by simp only [State.flashDone, hw, he, hst]
    simp only [latch_frame, hdone]
    exact storeDone_spec s h hwipe
  · refine ⟨_, exec_flashOpDone hs .ok, ?_⟩
    simp only [latch_frame, flashDone_commit hw he hst hd (by rw [hc]; simp), if_true]
    exact commitHeader_spec hc
  · refine ⟨_, exec_flashOpDone hs .ok, ?_⟩
    simp only [latch_frame, flashDone_commit hw he hst hd (by rw [hc]; simp), if_true]
    exact commitEraseHeader_spec hc
  · refine ⟨_, exec_flashOpDone hs r, ?_⟩
    simp only [latch_frame, flashDone_commit hw he hst hd hc, hr, if_false]
    exact commitFail_spec s r

/-- A module in Day whose commit has only the header of slot B left to write, with generation 7. -/
def lastStepState : State := { dayState with nvm := { commit := { step := .header, target := 1, gen := 7 } } }

/-- Its end makes slot B valid with generation 7. -/
theorem flashOperations_witness :
    ∃ t, exec (.flashOpDone .ok) lastStepState = .next t ∧ t.nvm.commit = {} ∧ t.rd R.NVM_SLOTS_B_VALID = 1 ∧ t.rd R.GEN_B_GEN = 7 := by
  obtain ⟨-, -, -, hcommit⟩ := flashOperations
  obtain ⟨hheader, -, -⟩ := hcommit lastStepState rfl rfl rfl rfl rfl
  obtain ⟨t, hrun, hnone, -, -, -, hb⟩ := hheader rfl
  obtain ⟨hvalid, hgen⟩ := hb rfl
  exact ⟨t, hrun, hnone, hvalid, hgen⟩

end Sys2Proof.Machine
end

section
/-! PROOFS. Head lanes under POWER messages (R80, R81, R274), and the NVM messages: staging, the start of a commit, and reading the flash
back (R76, R77, R91). -/

namespace Sys2Proof.Machine

variable {s t : State} {m : Msg}

/-- What no step of a fold changes, the fold does not change. -/
theorem foldl_keeps {α β : Type} (g : State → β) (f : State → α → State) (h : ∀ t x, g (f t x) = g t) (l : List α) (s : State) :
    g (l.foldl f s) = g s := by
  induction l generalizing s with
  | nil => rfl
  | cons x l ih => rw [List.foldl_cons, ih, h]

/-! ## A lane goes to another power state (R274) -/

/-- The state less registers, lanes and what was sent. -/
def State.sansLanes (s : State) : State := { s with regs := [], lanes := [], out := [] }

theorem eq_of_sansLanes (h : t.sansLanes = s.sansLanes) : t = { s with regs := t.regs, lanes := t.lanes, out := t.out } :=
  calc
    t = { t.sansLanes with regs := t.regs, lanes := t.lanes, out := t.out } := rfl
    _ = _ := by rw [h]; rfl

/-- A lane enters a state and tells its head so. -/
def State.lanePower (s : State) (n st : Nat) (code : Byte) : State := (s.enter n st).ctrlMsg n 0x25 [code]

theorem lanePower_sansLanes (s : State) (n st : Nat) (code : Byte) : (s.lanePower n st code).sansLanes = s.sansLanes := rfl

theorem lanePower_word (s : State) (n st a : Nat) (code : Byte) (h : a ≠ R.HL_STATE n) : (s.lanePower n st code).word a = s.word a :=
  (word_wr_ne s _ _ _ h : (s.wr (R.HL_STATE_STATE n) st).word a = s.word a)

theorem lanePower_laneState (s : State) (n k st : Nat) (code : Byte) (hst : st < 8) :
    (s.lanePower k st code).laneState n = if n = k then st else s.laneState n := by
  split
  · next h =>
    subst h
    show (s.wr (R.HL_STATE_STATE n) st).rd (R.HL_STATE_STATE n) = st
    rw [rd_wr_same _ _ _ rfl]
    exact Nat.mod_eq_of_lt hst
  · next h => exact rd_congr _ _ _ (lanePower_word s k st _ code (by simp only [R.HL_STATE]; omega))

/-! ## A module in Dusk is needed (R80, R81) -/

/-- A SHALLOW lane that the host does not hold returns to ACTIVE. -/
def State.laneBack (s : State) (n : Nat) : State :=
  if s.laneState n = laneShallow ∧ !(s.lane n).heldByHost then s.lanePower n laneActive 0 else s

theorem toDay_of_dusk (h : s.pow.phase = .dusk) :
    s.toDay = ((List.range 16).foldl State.laneBack { s with pow := { s.pow with phase := .day } }).busy := if_pos h

theorem toDay_of_not_dusk (h : s.pow.phase ≠ .dusk) : s.toDay = s.busy := if_neg h

theorem laneBack_sansLanes (s : State) (n : Nat) : (s.laneBack n).sansLanes = s.sansLanes := by
  unfold State.laneBack
  split <;> rfl

/-- Lanes have their registers from 0xB0000 up. -/
theorem laneBack_word (s : State) (n a : Nat) (h : a < 0xB0000) : (s.laneBack n).word a = s.word a := by
  unfold State.laneBack
  split
  · exact lanePower_word _ _ _ _ _ (by simp only [R.HL_STATE]; omega)
  · rfl

/-- The module is at work: its power state, its lanes and their registers change, and messages to heads leave. -/
theorem toDay_eq (s : State) :
    s.toDay = { s with
      regs := s.toDay.regs, pow := { s.pow with lastBusy := s.toDay.pow.lastBusy, phase := s.toDay.pow.phase }
      lanes := s.toDay.lanes, out := s.toDay.out } := by
  by_cases h : s.pow.phase = .dusk
  · have hfold := eq_of_sansLanes (foldl_keeps State.sansLanes State.laneBack laneBack_sansLanes (List.range 16)
      { s with pow := { s.pow with phase := .day } })
    rw [toDay_of_dusk h, hfold]
    rfl
  · rw [toDay_of_not_dusk h]
    rfl

theorem toDay_word (s : State) (a : Nat) (ha : a < 0xB0000) : s.toDay.word a = s.word a := by
  by_cases h : s.pow.phase = .dusk
  · rw [toDay_of_dusk h]
    exact foldl_keeps (fun t => t.word a) State.laneBack (fun t n => laneBack_word t n a ha) (List.range 16)
      { s with pow := { s.pow with phase := .day } }
  · rw [toDay_of_not_dusk h]
    rfl

/-! ## Hearing and answering (R89, R93) -/

/-- The network ports have their registers from 0xC0000 up. -/
theorem heard_word_low (s : State) (m : Msg) (a : Nat) (h : a < 0xC0000) : (s.heard m).word a = s.word a :=
  heard_word s m a (by simp only [R.NP_RX_FRAMES]; omega)

theorem heard_rd_low (s : State) (m : Msg) (f : Field) (h : f.addr < 0xC0000) : (s.heard m).rd f = s.rd f :=
  rd_congr _ _ f (heard_word_low s m _ h)

/-- An answer to a request other than a WRITE leaves the registers below the network ports' alone. -/
theorem answer_rd_low (s : State) (m : Msg) (type status : Nat) (stored quiet : Bool) (payload : List Byte) (f : Field)
    (ht : type ≠ 2) (h : f.addr < 0xC0000) : (s.answer m type stored quiet status payload).rd f = s.rd f :=
  rd_congr _ _ f (answer_word s m type status _ stored quiet payload (by simp only [R.NP_TX_FRAMES]; omega) (fun e => absurd e ht))

/-- Where the regions of the flash stand does not depend on what a message counts. -/
theorem heard_slotSize (s : State) (m : Msg) : (s.heard m).slotSize = s.slotSize := by
  unfold State.slotSize
  rw [heard_rd_low s m _ (by decide)]

theorem heard_slotBase (s : State) (m : Msg) (k : Nat) : (s.heard m).slotBase k = s.slotBase k := by
  unfold State.slotBase
  rw [heard_slotSize]

theorem heard_region (s : State) (m : Msg) (k : Nat) : (s.heard m).region k = s.region k := by
  unfold State.region State.journalBase
  rw [heard_slotBase, heard_slotSize]

theorem heard_newGen (s : State) (m : Msg) : (s.heard m).newGen = s.newGen := by
  unfold State.newGen
  simp only [heard_slotBase]
  rfl

theorem heard_commitTarget (s : State) (m : Msg) : (s.heard m).commitTarget = s.commitTarget := by
  simp only [State.commitTarget, State.flag, heard_rd_low s m R.NVM_SLOTS_A_VALID (by decide),
    heard_rd_low s m R.NVM_SLOTS_B_VALID (by decide), heard_rd_low s m R.GEN_A_GEN (by decide), heard_rd_low s m R.GEN_B_GEN (by decide)]
  rfl

/-! ## NVM_READ (R91) -/

theorem nvmRead_ok {payload : List Byte} (hk : le payload 0 1 ≤ 2) (hlen : le payload 4 4 + le payload 8 4 ≤ (s.region (le payload 0 1)).2) :
    (s.heard m).nvmRead payload = (Status.ok, leBytes 4 (le payload 4 4) ++ leBytes 4 (le payload 8 4) ++
      s.flashRead ((s.region (le payload 0 1)).1 + le payload 4 4) (le payload 8 4)) := by
  simp only [State.nvmRead, heard_region]
  rw [if_neg (by omega)]
  rfl

/-- A request that is answered at once and not stored leaves nothing but counts and its reply. -/
theorem heard_answer_latch_eq (s : State) (m : Msg) (type status : Nat) (payload : List Byte) (ht : type ≠ 2) :
    ((s.heard m).answer m type false false status payload).latch =
      { s with
        regs := ((s.heard m).answer m type false false status payload).latch.regs
        out := ((s.heard m).answer m type false false status payload).latch.out
        spans := { s.spans with leaves := ((s.heard m).answer m type false false status payload).latch.spans.leaves } } := by
  have hans : (s.heard m).answer m type false false status payload = (s.heard m).sendReply m type status payload := by
    simp [State.answer, State.countRefused, ht]
  rw [latch_eq_leaves, hans]
  rfl

theorem exec_nvmRead {payload : List Byte} (h : s.takes m
    ⟨0x42, 41002, false, payload.length == 12 && decide (4 ≤ le payload 8 4 ∧ le payload 8 4 ≤ 8192) && le payload 8 4 % 4 == 0,
      8 + le payload 8 4, true, false⟩) :
    exec (.nvmRead m payload) s = .next ((s.heard m).answer m 0x42 false false ((s.heard m).nvmRead payload).1
      ((s.heard m).nvmRead payload).2).latch := by
  show execNvmRead m payload s = _
  simp only [execNvmRead, serve_takes _ h]
  rfl

/-! ## NVM_DATA (R76) -/

/-- The state less what staging may change. -/
def State.sansStage (s : State) : State :=
  { s with
    regs := [], hbm := [], pow := { s.pow with lastBusy := 0, phase := .off }, held := [], lanes := [], life := [], out := []
    spans := { s.spans with leaves := [] } }

theorem eq_of_sansStage (h : t.sansStage = s.sansStage) :
    t = { s with
      regs := t.regs, hbm := t.hbm, pow := { s.pow with lastBusy := t.pow.lastBusy, phase := t.pow.phase }, held := t.held
      spans := { s.spans with leaves := t.spans.leaves }, lanes := t.lanes, life := t.life, out := t.out } :=
  calc
    t = { t.sansStage with
      regs := t.regs, hbm := t.hbm, pow := { t.sansStage.pow with lastBusy := t.pow.lastBusy, phase := t.pow.phase }, held := t.held
      spans := { t.sansStage.spans with leaves := t.spans.leaves }, lanes := t.lanes, life := t.life, out := t.out } := rfl
    _ = _ := by rw [h]; rfl

theorem latch_sansStage (s : State) : s.latch.sansStage = s.sansStage := by
  rw [latch_eq_leaves]
  rfl

theorem toDay_sansStage (s : State) : s.toDay.sansStage = s.sansStage := by
  rw [toDay_eq]
  rfl

theorem sendReply_sansStage (s : State) (m : Msg) (type status : Nat) (payload : List Byte) :
    (s.sendReply m type status payload).sansStage = s.sansStage := rfl

/-- The bytes of a payload behind its offset stand in the staging area, and STAGE_LEN and NVM_OP say so. -/
def State.staged (s : State) (payload : List Byte) : State :=
  ((s.hbmWrite (stageBase + le payload 0 4) (payload.drop 4)).wr R.STAGE_LEN_BYTES
    (max (s.rd R.STAGE_LEN_BYTES) (le payload 0 4 + (payload.length - 4)))).wr R.NVM_OP_OP 1

theorem staged_sansStage (s : State) (payload : List Byte) : (s.staged payload).sansStage = s.sansStage := rfl

/-- The state that NVM_DATA works on: the message has been heard, and the module is at work. -/
def State.atWork (s : State) (m : Msg) : State := (s.heard m).toDay

theorem atWork_sansStage (s : State) (m : Msg) : (s.atWork m).sansStage = s.sansStage := (toDay_sansStage _).trans rfl

theorem atWork_hbm (s : State) (m : Msg) : (s.atWork m).hbm = s.hbm := by
  unfold State.atWork
  rw [toDay_eq]
  rfl

theorem atWork_committing (s : State) (m : Msg) : (s.atWork m).committing = s.committing := by
  unfold State.atWork State.committing
  rw [toDay_eq]
  rfl

theorem atWork_rd (s : State) (m : Msg) (f : Field) (h : f.addr < 0xB0000) : (s.atWork m).rd f = s.rd f :=
  rd_congr _ _ f ((toDay_word _ _ h).trans (heard_word_low s m _ (by omega)))

theorem stage_busy {payload : List Byte} (h : s.committing = true) : (s.heard m).stage payload = (s.atWork m, Status.nvmBusy, []) :=
  if_pos ((atWork_committing s m).trans h)

theorem stage_range {payload : List Byte} (h : s.committing = false) (hlen : 0xC00000 < le payload 0 4 + (payload.length - 4)) :
    (s.heard m).stage payload = (s.atWork m, Status.stageRange, []) := by
  have hc : (s.atWork m).committing = false := (atWork_committing s m).trans h
  have hd : 0xC00000 < le payload 0 4 + (payload.drop 4).length := by rwa [List.length_drop]
  exact (if_neg (by rw [show (s.heard m).toDay.committing = false from hc]; simp)).trans (if_pos hd)

theorem stage_ok {payload : List Byte} (h : s.committing = false) (hlen : le payload 0 4 + (payload.length - 4) ≤ 0xC00000) :
    (s.heard m).stage payload = ((s.atWork m).staged payload, Status.ok, []) := by
  have hc : (s.atWork m).committing = false := (atWork_committing s m).trans h
  have hd : ¬ 0xC00000 < le payload 0 4 + (payload.drop 4).length := by rw [List.length_drop]; omega
  refine (if_neg (by rw [show (s.heard m).toDay.committing = false from hc]; simp)).trans ((if_neg hd).trans ?_)
  simp only [List.length_drop]
  rfl

theorem getD_drop_eq (l : List Byte) (n i : Nat) : (l.drop n).getD i 0 = l.getD (n + i) 0 := by
  simp [List.getD_eq_getElem?_getD]

/-- What the staged bytes leave in HBM and in the registers. -/
theorem staged_spec (s : State) (payload : List Byte) (hlen : le payload 0 4 + (payload.length - 4) ≤ 0xC00000) :
    (∀ a, Sparse.get 0 (s.staged payload).hbm a =
      if stageBase + le payload 0 4 ≤ a ∧ a < stageBase + le payload 0 4 + (payload.length - 4)
      then payload.getD (4 + (a - (stageBase + le payload 0 4))) 0 else Sparse.get 0 s.hbm a) ∧
    (s.staged payload).rd R.STAGE_LEN_BYTES = max (s.rd R.STAGE_LEN_BYTES) (le payload 0 4 + (payload.length - 4)) ∧
    (s.staged payload).rd R.NVM_OP_OP = 1 := by
  have hmax : max (s.rd R.STAGE_LEN_BYTES) (le payload 0 4 + (payload.length - 4)) < 2 ^ 24 := by
    have h : s.rd R.STAGE_LEN_BYTES < 2 ^ 24 := rd_lt s R.STAGE_LEN_BYTES
    omega
  refine ⟨fun a => ?_, ?_, ?_⟩
  · show Sparse.get 0 (s.hbmWrite (stageBase + le payload 0 4) (payload.drop 4)).hbm a = _
    rw [State.hbmWrite, get_splice, List.length_drop, getD_drop_eq]
  · rw [State.staged, rd_wr_apart _ _ _ _ rfl rfl, rd_wr_same _ _ _ rfl]
    exact Nat.mod_eq_of_lt hmax
  · rw [State.staged, rd_wr_same _ _ _ rfl]
    rfl

theorem exec_nvmData {payload : List Byte}
    (h : s.takes m ⟨0x40, 41002, false, decide (8 ≤ payload.length) && payload.length % 4 == 0, 0, true, false⟩) :
    exec (.nvmData m payload) s = .next (((s.heard m).stage payload).1.answer m 0x40 false false ((s.heard m).stage payload).2.1
      ((s.heard m).stage payload).2.2).latch := by
  show execNvmData m payload s = _
  rw [execNvmData, serve_takes _ h]
  rfl

/-- An answer to NVM_DATA: its reply leaves, HBM and the flash's registers stay. -/
theorem nvmData_answered (u : State) (m : Msg) (status : Nat) :
    (u.answer m 0x40 false false status []).latch.hbm = u.hbm ∧
    (∀ f : Field, f.addr < 0xC0000 → (u.answer m 0x40 false false status []).latch.rd f = u.rd f) ∧
    replyOf m 0x40 status [] ∈ (u.answer m 0x40 false false status []).latch.out := by
  refine ⟨by simp, fun f hf => ?_, by simp [answer_out]⟩
  simp only [latch_frame]
  exact answer_rd_low u m 0x40 status false false [] f (by decide) hf

/-- Whatever NVM_DATA is answered, its state is the one before in all that staging does not change. -/
theorem nvmData_sansStage (payload : List Byte) (status : Nat) (u : State) (hu : u = s.atWork m ∨ u = (s.atWork m).staged payload) :
    (u.answer m 0x40 false false status []).latch.sansStage = s.sansStage := by
  have hans : (u.answer m 0x40 false false status []).latch.sansStage = u.sansStage := (latch_sansStage _).trans rfl
  rcases hu with rfl | rfl
  · exact hans.trans (atWork_sansStage s m)
  · exact hans.trans ((staged_sansStage _ _).trans (atWork_sansStage s m))

/-! ## NVM_COMMIT (R76, R77) -/

/-- The state less what NVM_COMMIT may change. -/
def State.sansCommit (s : State) : State :=
  { s with
    regs := [], life := [], subs := [], out := [], ports := [], free := 0, conds := [], held := []
    spans := { s.spans with leaves := [] }, nvm := { s.engine with commit := {} } }

theorem eq_of_sansCommit (h : t.sansCommit = s.sansCommit) :
    t = { s.noticed t with
      nvm := { s.nvm with due := t.nvm.due, lastHostFault := t.nvm.lastHostFault, commit := t.nvm.commit }, held := t.held } :=
  calc
    t = { t.sansCommit.noticed t with
      nvm := { t.sansCommit.nvm with due := t.nvm.due, lastHostFault := t.nvm.lastHostFault, commit := t.nvm.commit }
      held := t.held } := rfl
    _ = { s.sansCommit.noticed t with
      nvm := { s.sansCommit.nvm with due := t.nvm.due, lastHostFault := t.nvm.lastHostFault, commit := t.nvm.commit }
      held := t.held } := by rw [h]
    _ = _ := rfl

theorem sansCommit_of_quiet (hq : t.quiet_ = s.quiet_) (he : { t.engine with commit := {} } = { s.engine with commit := {} }) :
    t.sansCommit = s.sansCommit :=
  calc
    t.sansCommit = { t.quiet_.sansCommit with nvm := { t.engine with commit := {} } } := rfl
    _ = { s.quiet_.sansCommit with nvm := { s.engine with commit := {} } } := by rw [hq, he]
    _ = _ := rfl

theorem latch_sansCommit (s : State) : s.latch.sansCommit = s.sansCommit := by
  rw [latch_eq_leaves]
  rfl

@[simp] theorem tempDefer_quiet (s : State) : s.tempDefer.quiet_ = s.quiet_ := by
  simp only [State.tempDefer, cond_quiet]
  split <;> rfl

@[simp] theorem commitTo_quiet (s : State) (st : CommitStep) : (s.commitTo st).quiet_ = s.quiet_ := by
  simp only [State.commitTo, tempDefer_quiet, wr_quiet]
  split
  · rfl
  · cases st <;> rfl

@[simp] theorem nvmFail_quiet (s : State) (f : Field) (e : Event) : (s.nvmFail f e).quiet_ = s.quiet_ := by simp [State.nvmFail]

/-- The state once a commit of the next generation has started (R77). -/
def State.commitStarted (s : State) (payload : List Byte) : State :=
  ((((s.onNvm (fun n => { n with commit := ⟨.idle, s.commitTarget, s.newGen, le payload 0 4, BitVec.ofNat 32 (le payload 4 4),
    le payload 8 2, (payload.drop 12).take 16, false⟩ })).wr R.NVM_OP_TARGET s.commitTarget).wr R.STAGE_LEN_BYTES 0).cfgWrite).commitTo
    .eraseHeader

theorem commitStarted_engine (s : State) (payload : List Byte) : (s.commitStarted payload).engine =
    { s.engine with commit := ⟨.eraseHeader, s.commitTarget, s.newGen, le payload 0 4, BitVec.ofNat 32 (le payload 4 4),
      le payload 8 2, (payload.drop 12).take 16, s.nvmShut⟩ } := by
  have hhold : (s.nvmShut && CommitStep.eraseHeader != .verify && CommitStep.eraseHeader != .idle) = s.nvmShut := by
    cases s.nvmShut <;> rfl
  rw [State.commitStarted, commitTo_engine]
  exact congrArg (fun d => { s.engine with commit := ⟨.eraseHeader, s.commitTarget, s.newGen, le payload 0 4,
    BitVec.ofNat 32 (le payload 4 4), le payload 8 2, (payload.drop 12).take 16, d⟩ }) hhold

theorem commitStarted_commit (s : State) (payload : List Byte) : (s.commitStarted payload).nvm.commit =
    ⟨.eraseHeader, s.commitTarget, s.newGen, le payload 0 4, BitVec.ofNat 32 (le payload 4 4), le payload 8 2,
      (payload.drop 12).take 16, s.nvmShut⟩ :=
  (congrArg Nvm.commit (commitStarted_engine s payload) :)

theorem commitStarted_stageLen (s : State) (payload : List Byte) : (s.commitStarted payload).rd R.STAGE_LEN_BYTES = 0 := by
  rw [State.commitStarted, rd_congr _ _ _ (commitTo_word _ _ _ (by decide)), State.cfgWrite]
  simp only [lifeAdd_frame]
  rw [State.inc, State.add, rd_wr_apart _ _ _ _ rfl rfl, rd_wr_same _ _ _ rfl]
  rfl

section
variable {payload : List Byte} (hc : s.committing = false)
include hc

/-- What NVM_COMMIT does, check by check. -/
theorem commit_eq : s.commit payload =
    if 0xC00000 < le payload 0 4 ∨ crc32 (s.hbmRead stageBase (min (le payload 0 4) 0xC00000)) ≠ le payload 4 4 then
      (s.nvmFail R.NVM_ERR_CRC_MISMATCH Ev.CRC_MISMATCH, Status.crcMismatch, [])
    else if !s.bodyOk (le payload 0 4) (le payload 8 2) (s.hbmRead stageBase (min (le payload 0 4) 0xC00000)) then
      (s.nvmFail R.NVM_ERR_IMAGE_INVALID Ev.IMAGE_INVALID, Status.imageInvalid, [])
    else if 0xFFFFFFFF ≤ s.newGen then ((s.wr R.NVM_ERR_GEN_EXHAUSTED 1).raise Ev.GEN_EXHAUSTED, Status.genExhausted, [])
    else (s.commitStarted payload, Status.ok, leBytes 4 s.newGen) :=
  if_neg (by simp [hc])

theorem commit_crcMismatch (hlen : le payload 0 4 ≤ 0xC00000) (hcrc : crc32 (s.hbmRead stageBase (le payload 0 4)) ≠ le payload 4 4) :
    s.commit payload = (s.nvmFail R.NVM_ERR_CRC_MISMATCH Ev.CRC_MISMATCH, Status.crcMismatch, []) := by
  rw [commit_eq hc, Nat.min_eq_left hlen, if_pos (.inr hcrc)]

theorem commit_imageInvalid (hlen : le payload 0 4 ≤ 0xC00000) (hcrc : crc32 (s.hbmRead stageBase (le payload 0 4)) = le payload 4 4)
    (hbody : s.bodyOk (le payload 0 4) (le payload 8 2) (s.hbmRead stageBase (le payload 0 4)) = false) :
    s.commit payload = (s.nvmFail R.NVM_ERR_IMAGE_INVALID Ev.IMAGE_INVALID, Status.imageInvalid, []) := by
  rw [commit_eq hc, Nat.min_eq_left hlen, if_neg (by rw [hcrc]; omega), hbody]
  rfl

theorem commit_starts (hlen : le payload 0 4 ≤ 0xC00000) (hcrc : crc32 (s.hbmRead stageBase (le payload 0 4)) = le payload 4 4)
    (hbody : s.bodyOk (le payload 0 4) (le payload 8 2) (s.hbmRead stageBase (le payload 0 4)) = true) (hgen : s.newGen < 0xFFFFFFFF) :
    s.commit payload = (s.commitStarted payload, Status.ok, leBytes 4 s.newGen) := by
  rw [commit_eq hc, Nat.min_eq_left hlen, if_neg (by rw [hcrc]; omega), hbody, if_neg (by simp), if_neg (by omega)]

/-- Whatever NVM_COMMIT finds, the state it leaves is the one before in all that `sansCommit` keeps. -/
theorem commit_sansCommit : (s.commit payload).1.sansCommit = s.sansCommit := by
  rw [commit_eq hc]
  split
  · exact sansCommit_of_quiet (nvmFail_quiet _ _ _) (by rw [nvmFail_engine])
  · split
    · exact sansCommit_of_quiet (nvmFail_quiet _ _ _) (by rw [nvmFail_engine])
    · split
      · exact sansCommit_of_quiet (raise_quiet _ _ _ _) (by rw [raise_engine]; rfl)
      · exact sansCommit_of_quiet (by rw [State.commitStarted, commitTo_quiet, cfgWrite_quiet]; rfl) (by rw [commitStarted_engine])

end

/-- The bit of a failure is set, and no commit begins. -/
theorem nvmFail_spec (s : State) (f : Field) (e : Event) (hf : f.fits = true) (hw : 1 < 2 ^ f.width) (hp : plumbWord f.addr = false) :
    (s.nvmFail f e).nvm.commit = s.nvm.commit ∧ (s.nvmFail f e).rd f = 1 := by
  refine ⟨?_, ?_⟩
  · rw [nvm_of_engine (nvmFail_engine s f e)]
  · rw [State.nvmFail, raise_rd _ _ _ _ _ hp]
    exact (rd_wr_same s f 1 hf).trans (Nat.mod_eq_of_lt hw)

theorem exec_nvmCommit {payload : List Byte} (h : s.takes m ⟨0x41, 41002, true, payload.length == 28, 4, true, false⟩) :
    exec (.nvmCommit m payload) s = .next (((s.heard m).commit payload).1.answer m 0x41 true false ((s.heard m).commit payload).2.1
      ((s.heard m).commit payload).2.2).latch := by
  show execNvmCommit m payload s = _
  rw [execNvmCommit, serve_takes _ h]
  rfl

/-- An answer to NVM_COMMIT: its reply leaves, and the flash engine and the registers below the network ports' stay. -/
theorem nvmCommit_answered (u : State) (m : Msg) (status : Nat) (reply : List Byte) :
    (u.answer m 0x41 true false status reply).latch.nvm = u.nvm ∧
    (∀ f : Field, f.addr < 0xC0000 → (u.answer m 0x41 true false status reply).latch.rd f = u.rd f) ∧
    replyOf m 0x41 status reply ∈ (u.answer m 0x41 true false status reply).latch.out := by
  refine ⟨by simp, fun f hf => ?_, by simp [answer_out]⟩
  simp only [latch_frame]
  exact answer_rd_low u m 0x41 status true false reply f (by decide) hf

theorem nvmCommit_sansCommit (u : State) (m : Msg) (status : Nat) (reply : List Byte) :
    (u.answer m 0x41 true false status reply).latch.sansCommit = u.sansCommit := by
  rw [latch_sansCommit]
  exact sansCommit_of_quiet (answer_quiet _ _ _ _ _ _ _) (by rw [engine_congr (answer_frame2 _ _ _ _ _ _ _).1])

/-- Settles O30: each message is served on the state that has heard it, and what its body does has its lemmas above. -/
theorem stagingAndReading : Obligations.StagingAndReading := by
  refine ⟨fun s m payload h => ⟨_, exec_nvmData h, fun hc => ?_, fun hc hlen => ?_, fun hc hlen => ?_, eq_of_sansStage ?_⟩,
    fun s m payload h hc => ?_, fun s m payload h hk hlen => ?_⟩
  · rw [stage_busy hc]
    obtain ⟨hhbm, -, hout⟩ := nvmData_answered (s.atWork m) m Status.nvmBusy
    exact ⟨hhbm.trans (atWork_hbm s m), hout⟩
  · rw [stage_range hc hlen]
    obtain ⟨hhbm, -, hout⟩ := nvmData_answered (s.atWork m) m Status.stageRange
    exact ⟨hhbm.trans (atWork_hbm s m), hout⟩
  · rw [stage_ok hc hlen]
    obtain ⟨hhbm, hrd, hout⟩ := nvmData_answered ((s.atWork m).staged payload) m Status.ok
    obtain ⟨hmem, hstage, hop⟩ := staged_spec (s.atWork m) payload hlen
    rw [atWork_hbm] at hmem
    rw [atWork_rd s m _ (by decide)] at hstage
    exact ⟨fun a => by rw [hhbm, hmem a], (hrd _ (by decide)).trans hstage, (hrd _ (by decide)).trans hop, hout⟩
  · cases hc : s.committing
    · rcases Nat.lt_or_ge 0xC00000 (le payload 0 4 + (payload.length - 4)) with hlen | hlen
      · rw [stage_range hc hlen]
        exact nvmData_sansStage payload _ _ (.inl rfl)
      · rw [stage_ok hc hlen]
        exact nvmData_sansStage payload _ _ (.inr rfl)
    · rw [stage_busy hc]
      exact nvmData_sansStage payload _ _ (.inl rfl)
  · have hheard : (s.heard m).committing = false := hc
    refine ⟨_, exec_nvmCommit h, fun hlen hcrc => ?_, fun hlen hcrc hbody => ?_, fun hlen hcrc hbody hgen => ?_, eq_of_sansCommit ?_⟩
    · rw [commit_crcMismatch hheard hlen hcrc]
      obtain ⟨hnvm, hrd, hout⟩ := nvmCommit_answered ((s.heard m).nvmFail R.NVM_ERR_CRC_MISMATCH Ev.CRC_MISMATCH) m Status.crcMismatch []
      obtain ⟨hcommit, hbit⟩ := nvmFail_spec (s.heard m) R.NVM_ERR_CRC_MISMATCH Ev.CRC_MISMATCH rfl (by decide) (by decide)
      exact ⟨(congrArg Nvm.commit hnvm).trans hcommit, (hrd _ (by decide)).trans hbit, hout⟩
    · rw [commit_imageInvalid hheard hlen hcrc hbody]
      obtain ⟨hnvm, hrd, hout⟩ := nvmCommit_answered ((s.heard m).nvmFail R.NVM_ERR_IMAGE_INVALID Ev.IMAGE_INVALID) m Status.imageInvalid []
      obtain ⟨hcommit, hbit⟩ := nvmFail_spec (s.heard m) R.NVM_ERR_IMAGE_INVALID Ev.IMAGE_INVALID rfl (by decide) (by decide)
      exact ⟨(congrArg Nvm.commit hnvm).trans hcommit, (hrd _ (by decide)).trans hbit, hout⟩
    · rw [commit_starts hheard hlen hcrc hbody (by rwa [heard_newGen])]
      obtain ⟨hnvm, hrd, hout⟩ := nvmCommit_answered ((s.heard m).commitStarted payload) m Status.ok (leBytes 4 (s.heard m).newGen)
      rw [hnvm, commitStarted_commit, hrd _ (by decide),
        commitStarted_stageLen]
      rw [heard_newGen] at hout ⊢
      exact ⟨rfl, heard_commitTarget s m, rfl, rfl, rfl, rfl, hout⟩
    · rw [nvmCommit_sansCommit, commit_sansCommit hheard]
      rfl
  · have hrun := exec_nvmRead h
    rw [nvmRead_ok hk hlen] at hrun
    obtain ⟨hout, -, hwords⟩ := heard_answer_latch s m 0x42 Status.ok false (leBytes 4 (le payload 4 4) ++ leBytes 4 (le payload 8 4) ++
      s.flashRead ((s.region (le payload 0 1)).1 + le payload 4 4) (le payload 8 4)) [R.NP_RX_FRAMES m.np, R.NP_TX_FRAMES m.np]
      (by simp) (by simp) (by simp)
    exact ⟨_, hrun, hout, heard_answer_latch_eq s m 0x42 _ _ (by decide), hwords⟩

/-- NVM_DATA of four bytes at offset 8, and NVM_READ of the first four bytes of slot A. -/
def dataPayload : List Byte := [8, 0, 0, 0, 1, 2, 3, 4]
def readPayload : List Byte := [0, 0, 0, 0, 0, 0, 0, 0, 4, 0, 0, 0]

/-- NVM_COMMIT of an empty body whose CRC is given as 1. -/
def commitPayload : List Byte := [0, 0, 0, 0, 1] ++ List.replicate 23 0

/-- A module in Day takes four bytes of staging; they end at offset 12. -/
theorem stagingAndReading_data_witness :
    ∃ t, exec (.nvmData (requestMsg 8) dataPayload) dayState = .next t ∧ t.rd R.STAGE_LEN_BYTES = 12 ∧ Sparse.get 0 t.hbm (stageBase + 8) = 1 := by
  obtain ⟨t, hrun, -, -, hok, -⟩ := stagingAndReading.1 dayState (requestMsg 8) dataPayload
    ⟨by decide, by decide, rfl, rfl, rfl, fun h => absurd h (by decide), by decide, by decide, by decide⟩
  obtain ⟨hmem, hlen, -⟩ := hok rfl (by decide)
  exact ⟨t, hrun, hlen.trans (by decide), (hmem _).trans (by decide)⟩

/-- The CRC of no bytes is 0. -/
theorem stagingAndReading_commit_witness :
    ∃ t, exec (.nvmCommit (requestMsg 28) commitPayload) dayState = .next t ∧ t.rd R.NVM_ERR_CRC_MISMATCH = 1 := by
  obtain ⟨t, hrun, hcrc, -⟩ := stagingAndReading.2.1 dayState (requestMsg 28) commitPayload
    ⟨by decide, by decide, rfl, rfl, rfl, fun _ => rfl, by decide, by decide, by decide⟩ rfl
  obtain ⟨-, hbit, -⟩ := hcrc (by decide) (by decide)
  exact ⟨t, hrun, hbit⟩

/-- An erased flash reads 0xFF. -/
theorem stagingAndReading_read_witness :
    ∃ t, exec (.nvmRead (requestMsg 12) readPayload) dayState = .next t ∧
      t.out = [replyOf (requestMsg 12) 0x42 Status.ok [0, 0, 0, 0, 4, 0, 0, 0, 0xFF, 0xFF, 0xFF, 0xFF]] := by
  obtain ⟨t, hrun, hout, -⟩ := stagingAndReading.2.2 dayState (requestMsg 12) readPayload
    ⟨by decide, by decide, rfl, rfl, rfl, fun h => absurd h (by decide), by decide, by decide, by decide⟩ (by decide) (by decide)
  exact ⟨t, hrun, hout.trans (by decide)⟩

end Sys2Proof.Machine
end

section
/-! PROOFS. A relation for frames: what one state keeps of another, and which words. -/

namespace Sys2Proof.Machine

variable {s t u : State} {E : State → State} {W : Nat → Bool}

/-! ## What events change, and what a state keeps of another -/

/-- The state less what `State.noticed` takes from the later state. -/
def State.unnoticed (s : State) : State :=
  { s with
    regs := [], life := [], subs := [], out := [], ports := [], free := 0, conds := [], nvm := s.engine
    spans := { s.spans with leaves := [] } }

/-- `t` is `s` but for what is noticed, what `E` erases, and the words of `W`. -/
def Keeps (E : State → State) (W : Nat → Bool) (s t : State) : Prop :=
  E t.unnoticed = E s.unnoticed ∧ ∀ a, W a = false → t.word a = s.word a

theorem unnoticed_of_quiet (hq : t.quiet_ = s.quiet_) (hh : t.held = s.held) (he : t.engine = s.engine) : t.unnoticed = s.unnoticed :=
  calc
    t.unnoticed = { t.quiet_.unnoticed with held := t.held, nvm := t.engine } := rfl
    _ = { s.quiet_.unnoticed with held := s.held, nvm := s.engine } := by rw [hq, hh, he]
    _ = _ := rfl

theorem latch_unnoticed (s : State) : s.latch.unnoticed = s.unnoticed := by
  rw [latch_eq_leaves]
  rfl

namespace Keeps

theorem refl (s : State) : Keeps E W s s := ⟨rfl, fun _ _ => rfl⟩

theorem trans (h : Keeps E W s t) (h' : Keeps E W t u) : Keeps E W s u :=
  ⟨h'.1.trans h.1, fun a ha => (h'.2 a ha).trans (h.2 a ha)⟩

theorem of_unnoticed (hu : t.unnoticed = s.unnoticed) (hw : ∀ a, W a = false → t.word a = s.word a) : Keeps E W s t :=
  ⟨congrArg E hu, hw⟩

/-- A field in a word that reads as before. -/
theorem rd (h : Keeps E W s t) (f : Field) (hf : W f.addr = false) : t.rd f = s.rd f := rd_congr _ _ f (h.2 _ hf)

/-- A weaker frame: more is erased, more words may change. -/
theorem mono {E' : State → State} {W' : Nat → Bool} (h : Keeps E W s t) (hE : ∀ u, E' (E u) = E' u) (hW : ∀ a, W' a = false → W a = false) :
    Keeps E' W' s t :=
  ⟨by rw [← hE, h.1, hE], fun a ha => h.2 a (hW a ha)⟩

theorem foldl {α : Type} {f : State → α → State} {l : List α} (h : ∀ t, ∀ x ∈ l, Keeps E W t (f t x)) (s : State) :
    Keeps E W s (l.foldl f s) := by
  induction l generalizing s with
  | nil => exact refl s
  | cons x l ih =>
    exact (h s x List.mem_cons_self).trans (ih (fun t y hy => h t y (List.mem_cons_of_mem x hy)) (f s x))

/-- A step of a fold over the first numbers. -/
theorem foldl_range {f : State → Nat → State} {n : Nat} (h : ∀ t k, k < n → Keeps E W t (f t k)) (s : State) :
    Keeps E W s ((List.range n).foldl f s) :=
  foldl (fun t k hk => h t k (List.mem_range.1 hk)) s

theorem ite {c : Prop} [Decidable c] (ht : Keeps E W s t) (hu : Keeps E W s u) : Keeps E W s (if c then t else u) := by
  split
  · exact ht
  · exact hu

theorem wr (h : Keeps E W s t) (f : Field) (v : Nat) (hf : W f.addr = true) : Keeps E W s (t.wr f v) :=
  h.trans (of_unnoticed rfl fun a ha => word_wr_ne t f v a (fun e => by rw [e, hf] at ha; exact absurd ha (by simp)))

theorem wrW (h : Keeps E W s t) (lo hi : Field) (v : Nat) (hlo : W lo.addr = true) (hhi : W hi.addr = true) :
    Keeps E W s (t.wrW lo hi v) := (h.wr lo _ hlo).wr hi _ hhi

theorem emit (h : Keeps E W s t) (o : Output) : Keeps E W s (t.emit o) := h.trans (of_unnoticed rfl fun _ _ => rfl)

theorem drawn (h : Keeps E W s t) : Keeps E W s t.drawn := h.trans (of_unnoticed rfl fun _ _ => rfl)

theorem lifeAdd (h : Keeps E W s t) (off width n : Nat) : Keeps E W s (t.lifeAdd off width n) :=
  h.trans (of_unnoticed rfl fun _ _ => rfl)

theorem journalDue (h : Keeps E W s t) (cause : Nat) : Keeps E W s (t.journalDue cause) :=
  h.trans (of_unnoticed (unnoticed_of_quiet (journalDue_quiet _ _) (by simp) (by simp)) fun a _ => word_congr _ _ a (by simp))

/-- A step that changes nothing but what `E` erases. -/
theorem update (h : Keeps E W s t) (hE : E u.unnoticed = E t.unnoticed) (hr : u.regs = t.regs) : Keeps E W s u :=
  h.trans ⟨hE, fun a _ => word_congr _ _ a hr⟩

section
variable (hW : ∀ a, plumbWord a = true → W a = true)
include hW

theorem plumb {a : Nat} (ha : W a = false) : plumbWord a = false := by
  cases h : plumbWord a
  · rfl
  · rw [hW a h] at ha
    exact absurd ha (by simp)

theorem raise (h : Keeps E W s t) (e : Event) (source arg : Nat) : Keeps E W s (t.raise e source arg) :=
  h.trans (of_unnoticed (unnoticed_of_quiet (raise_quiet _ _ _ _) (by simp) (by simp)) fun a ha => raise_word _ _ _ _ a (plumb hW ha))

theorem condOn (h : Keeps E W s t) (e : Event) (source arg : Nat) : Keeps E W s (t.condOn e source arg) :=
  h.trans (of_unnoticed (unnoticed_of_quiet (condOn_quiet _ _ _ _) (by simp) (by simp)) fun a ha => condOn_word _ _ _ _ a (plumb hW ha))

theorem condOff (h : Keeps E W s t) (e : Event) (source arg : Nat) : Keeps E W s (t.condOff e source arg) :=
  h.trans (of_unnoticed (unnoticed_of_quiet (condOff_quiet _ _ _ _) (by simp) (by simp)) fun a ha => condOff_word _ _ _ _ a (plumb hW ha))

theorem cond (h : Keeps E W s t) (b : Bool) (e : Event) (source arg : Nat) : Keeps E W s (t.cond b e source arg) :=
  h.trans (of_unnoticed (unnoticed_of_quiet (cond_quiet _ _ _ _ _) (by simp) (by simp)) fun a ha => cond_word _ _ _ _ _ a (plumb hW ha))

theorem oneOff (h : Keeps E W s t) (e : Event) (arg : Nat) : Keeps E W s (t.oneOff e arg) :=
  h.trans (foldl (fun u c _ => (refl u).condOff hW e c.2 arg) t)

theorem flushEvents (h : Keeps E W s t) : Keeps E W s t.flushEvents :=
  h.trans (of_unnoticed (unnoticed_of_quiet (flushEvents_quiet _) (by simp) (engine_congr (by simp))) fun a ha => flushEvents_word _ a (plumb hW ha))

end

end Keeps

end Sys2Proof.Machine
end

section
/-! PROOFS. Into Dusk, into Night, and out of it (R80 to R85, R199, R419). -/

namespace Sys2Proof.Machine

variable {s t : State} {E : State → State} {W : Nat → Bool}

/-! ## Lanes that go down (R80, R82, R274) -/

/-- A lane in one of some states goes down. -/
def State.laneDown (from_ : List Nat) (st code : Nat) (s : State) (n : Nat) : State :=
  if from_.contains (s.laneState n) then s.lanePower n st (BitVec.ofNat 8 code) else s

theorem lanesDown_eq (s : State) (from_ : List Nat) (st code : Nat) :
    s.lanesDown from_ st code = (List.range 16).foldl (State.laneDown from_ st code) s := rfl

theorem laneDown_sansLanes (from_ : List Nat) (st code : Nat) (s : State) (n : Nat) :
    (s.laneDown from_ st code n).sansLanes = s.sansLanes := by
  unfold State.laneDown
  split <;> rfl

theorem laneDown_laneState (from_ : List Nat) (st code : Nat) (s : State) (k n : Nat) (hst : st < 8) :
    (s.laneDown from_ st code k).laneState n = if n = k ∧ s.laneState n ∈ from_ then st else s.laneState n := by
  unfold State.laneDown
  by_cases h : s.laneState k ∈ from_
  · rw [if_pos (by simpa using h), lanePower_laneState _ _ _ _ _ hst]
    by_cases e : n = k
    · subst e
      simp [h]
    · simp [e]
  · rw [if_neg (by simpa using h), if_neg]
    rintro ⟨rfl, hn⟩
    exact h hn

/-- After some lanes have gone down, each of them that was in one of those states is in the new one. -/
theorem lanesFold_laneState (from_ : List Nat) (st code : Nat) (hst : st < 8) (l : List Nat) (s : State) (n : Nat) :
    (l.foldl (State.laneDown from_ st code) s).laneState n = if n ∈ l ∧ s.laneState n ∈ from_ then st else s.laneState n := by
  induction l generalizing s with
  | nil => simp
  | cons k l ih =>
    rw [List.foldl_cons, ih, laneDown_laneState _ _ _ _ _ _ hst]
    by_cases hn : n = k ∧ s.laneState n ∈ from_
    · rw [if_pos hn, ite_self, if_pos ⟨by simp [hn.1], hn.2⟩]
    · rw [if_neg hn]
      by_cases hk : n = k
      · have hf : s.laneState n ∉ from_ := fun h => hn ⟨hk, h⟩
        simp [hf]
      · simp [hk]

theorem lanesDown_laneState (s : State) (from_ : List Nat) (st code : Nat) (n : Fin 16) (hst : st < 8) :
    (s.lanesDown from_ st code).laneState n = if s.laneState n ∈ from_ then st else s.laneState n := by
  rw [lanesDown_eq, lanesFold_laneState _ _ _ hst]
  simp [List.mem_range, n.isLt]

theorem lanesDown_sansLanes (s : State) (from_ : List Nat) (st code : Nat) : (s.lanesDown from_ st code).sansLanes = s.sansLanes :=
  foldl_keeps State.sansLanes _ (laneDown_sansLanes from_ st code) (List.range 16) s

/-! ## Dusk (R80, R81) -/

theorem toDusk_eq (s : State) : s.toDusk =
    { s with regs := s.toDusk.regs, pow := { s.pow with phase := .dusk }, lanes := s.toDusk.lanes, out := s.toDusk.out } :=
  (eq_of_sansLanes (lanesDown_sansLanes (s.onPow (fun p => { p with phase := .dusk })) [laneActive] laneShallow 1)).trans rfl

theorem toDusk_laneState (s : State) (n : Fin 16) :
    s.toDusk.laneState n = if s.laneState n = laneActive then laneShallow else s.laneState n := by
  rw [State.toDusk, lanesDown_laneState _ _ _ _ _ (by decide)]
  simp only [List.mem_singleton]
  rfl

/-! ## The time bases and the PTP ports when the core rails or a link go (R82, R363, R375, R379) -/

section
variable (hW : ∀ a, 0xC0400 ≤ a → W a = true) (hp : ∀ a, plumbWord a = true → W a = true)
  (htbs : ∀ (u : State) b, E { u with tbs := b } = E u)
include hW hp

theorem tbFlags_keeps (s : State) (k : Nat) : Keeps E W s (s.tbFlags k) := by
  have hst : W (R.TB_STATUS k) = true := hW _ (by simp only [R.TB_STATUS]; omega)
  have h1 : Keeps E W s (((s.wrB (R.TB_STATUS_LOCKED k) (s.tbLocked k)).wrB (R.TB_STATUS_REFUSED k) (s.tbRefused k)).wrB
      (R.TB_STATUS_USABLE k) (s.tbLocked k && !s.tbRefused k)) := (((Keeps.refl s).wr _ _ hst).wr _ _ hst).wr _ _ hst
  have h2 := Keeps.ite (c := k = 0 ∧ s.tbLocked k = true ∧ (!s.tbRefused k) = true) (h1.oneOff hp Ev.HOLDOVER_DATE 0) h1
  exact Keeps.ite (h2.condOff hp _ _ _) (Keeps.ite (h2.condOn hp _ _ _) h2)

include htbs

omit hW hp in
theorem onTb_keeps (s : State) (k : Nat) (f : TimeBase → TimeBase) : Keeps E W s (s.onTb k f) :=
  (Keeps.refl s).update (htbs s.unnoticed _) rfl

theorem setTb_keeps (s : State) (k code : Nat) : Keeps E W s (s.setTb k code) := by
  have hst : W (R.TB_STATUS k) = true := hW _ (by simp only [R.TB_STATUS]; omega)
  have h1 : Keeps E W s (if s.rd (R.TB_STATUS_STATE k) = 2 ∧ code ≠ 2 then s.onTb k (fun t => { t with lastLocked := some s.time }) else s) :=
    Keeps.ite (onTb_keeps htbs _ _ _) (Keeps.refl s)
  have h2 := Keeps.ite (c := code = 2) (h1.trans (onTb_keeps htbs _ k (fun t => { t with freeDone := true, lastLocked := some s.time }))) h1
  exact (h2.wr _ _ hst).trans (tbFlags_keeps hW hp _ _)

theorem enterHoldover_keeps (s : State) (k : Nat) : Keeps E W s (s.enterHoldover k) :=
  Keeps.ite ((onTb_keeps htbs _ _ _).trans (setTb_keeps hW hp htbs _ _ _)) (Keeps.refl s)

/-- The time bases go on after a stop of the core. -/
theorem timeResume_keeps (s : State) (us : Nat) (fresh : Bool) : Keeps E W s (s.timeResume us fresh) :=
  Keeps.foldl_range (fun t k _ => (((onTb_keeps htbs t k _).wr _ _ (hW _ (by simp only [R.TB_STATUS]; omega))).wr _ _
    (hW _ (by simp only [R.TB_PEND]; omega))).trans (tbFlags_keeps hW hp _ _)) s

theorem refuseJump_keeps (s : State) (k : Nat) (o : Rat) : Keeps E W s (s.refuseJump k o) := by
  have h1 : Keeps E W s ((s.wr (R.TB_PEND_US k) (jumpUs o)).condOn Ev.TIME_JUMP_REFUSED k (jumpUs o)) :=
    ((Keeps.refl s).wr _ _ (hW _ (by simp only [R.TB_PEND]; omega))).condOn hp _ _ _
  have h2 := Keeps.ite (c := s.condActive Ev.TIME_JUMP_REFUSED k = true) h1 (h1.lifeAdd 0x1A2 2 1)
  exact (h2.trans (enterHoldover_keeps hW hp htbs _ _)).trans (tbFlags_keeps hW hp _ _)

omit htbs in
theorem clearJump_keeps (s : State) (k : Nat) : Keeps E W s (s.clearJump k) :=
  Keeps.ite (tbFlags_keeps hW hp _ _)
    ((((Keeps.refl s).wr _ _ (hW _ (by simp only [R.TB_PEND]; omega))).condOff hp _ _ _).trans (tbFlags_keeps hW hp _ _))

theorem utcFollow_keeps (s : State) (i : Nat) (leap : Bool) : Keeps E W s (s.utcFollow i leap) := by
  have hutc : W R.TB0_UTC = true := hW _ (by decide)
  simp only [State.utcFollow]
  split
  · split
    · split
      · exact Keeps.ite (((onTb_keeps htbs _ _ _).wr _ _ hutc).trans (clearJump_keeps hW hp _ _)) ((onTb_keeps htbs _ _ _).wr _ _ hutc)
      · exact ((onTb_keeps htbs _ _ _).wr _ _ hutc).trans (refuseJump_keeps hW hp htbs _ _ _)
    · exact (Keeps.refl s).wr _ _ hutc
  · exact Keeps.refl s

theorem parentData_keeps (s : State) (i : Nat) (a : AnnounceData) : Keeps E W s (s.parentData i a) := by
  have hst : W (R.PI_STATUS i) = true := hW _ (by simp only [R.PI_STATUS]; omega)
  have hgm : W (R.PI_GM_LO i) = true ∧ W (R.PI_GM_HI i) = true ∧ W (R.PI_GMQ i) = true :=
    ⟨hW _ (by simp only [R.PI_GM_LO]; omega), hW _ (by simp only [R.PI_GM_HI]; omega), hW _ (by simp only [R.PI_GMQ]; omega)⟩
  obtain ⟨hlo, hhi, hq⟩ := hgm
  have h1 := ((((((Keeps.refl (E := E) s).wr (R.PI_STATUS_PARENT i) (b2n true) hst).wr (R.PI_STATUS_UTC_VALID i) (b2n a.utcValid) hst).wr
    (R.PI_STATUS_LEAP61 i) (b2n a.leap61) hst).wr (R.PI_STATUS_LEAP59 i) (b2n a.leap59) hst).wr (R.PI_STATUS_TRACEABLE i)
    (b2n a.traceable) hst).wr (R.PI_STATUS_UTC_OFFSET i) (unsigned 16 a.utcOffset) hst
  have h2 := (h1.wr (R.PI_GM_LO_ID i) (a.gmId.toNat % 2 ^ 32) hlo).wr (R.PI_GM_HI_ID i) (a.gmId.toNat / 2 ^ 32) hhi
  exact (((h2.wr _ _ hq).wr _ _ hq).wr _ _ hq).trans (utcFollow_keeps hW hp htbs _ _ _)

theorem noParent_keeps (s : State) (i : Nat) : Keeps E W s (s.noParent i) :=
  ((Keeps.refl s).wr _ _ (hW _ (by simp only [R.PI_STATUS]; omega))).trans (Keeps.foldl (fun _ _ _ => enterHoldover_keeps hW hp htbs _ _) _)

end

theorem mem_ptpPorts (s : State) (i n : Nat) (h : n ∈ s.ptpPorts i) : n < 2 := by
  have hlt : s.rd (R.PI_CFG_PORT i) < 2 := rd_lt s (R.PI_CFG_PORT i)
  unfold State.ptpPorts at h
  split at h
  · split at h
    · simp only [List.mem_cons, List.not_mem_nil, or_false] at h
      omega
    · simp only [List.mem_singleton] at h
      omega
  · simp at h

section
variable (hW : ∀ a, 0xC0400 ≤ a → W a = true) (hp : ∀ a, plumbWord a = true → W a = true)
  (htbs : ∀ (u : State) b, E { u with tbs := b } = E u) (hport : W (R.NP_PTP 0) = true ∧ W (R.NP_PTP 1) = true)
  (hptp : ∀ (u : State) b, E { u with ptp := b } = E u)
include hport hptp

theorem onPtp_keeps (s : State) (i n : Nat) (hn : n < 2) (f : PtpPort → PtpPort) : Keeps E W s (s.onPtp i n f) := by
  have hw : W (R.NP_PTP n) = true := by
    obtain rfl | rfl : n = 0 ∨ n = 1 := by omega
    · exact hport.1
    · exact hport.2
  have h : Keeps E W s { s with ptp := Sparse.upd {} s.ptp (2 * i + n) f } := (Keeps.refl s).update (hptp s.unnoticed _) rfl
  unfold State.onPtp State.ptpShow
  split
  · exact (h.wr _ _ hw).wr _ _ hw
  · exact (h.wr _ _ hw).wr _ _ hw

theorem ptpDecide_keeps (s : State) (i n : Nat) (hn : n < 2) (best : Option (Foreign × Nat)) : Keeps E W s (s.ptpDecide i n best) := by
  have hon : ∀ f, Keeps E W s (s.onPtp i n f) := fun f => onPtp_keeps hport hptp s i n hn f
  simp only [State.ptpDecide]
  split
  · exact hon _
  · split
    · exact hon _
    · split
      · exact Keeps.ite (Keeps.refl s) (hon _)
      · exact hon _

include hW hp htbs

/-- The best master clock algorithm moves clocks and ports only. -/
theorem bmca_keeps (s : State) (i : Nat) : Keeps E W s (s.bmca i) := by
  have h1 : Keeps E W s ((s.ptpPorts i).foldl (fun (t : State) n => t.ptpDecide i n
      (bestOf (((s.ptpPorts i).filter s.linkOn).flatMap (fun n => s.qualified i n)))) s) :=
    Keeps.foldl (fun t n hn => ptpDecide_keeps hport hptp t i n (mem_ptpPorts s i n hn) _) s
  simp only [State.bmca]
  split
  · exact (Keeps.ite (h1.trans (noParent_keeps hW hp htbs _ _)) h1).trans (parentData_keeps hW hp htbs _ _ _)
  · exact (Keeps.ite (h1.trans (noParent_keeps hW hp htbs _ _)) h1).wr _ _ (hW _ (by simp only [R.PI_STATUS]; omega))

theorem ptpLink_keeps (s : State) (n : Nat) (hn : n < 2) : Keeps E W s (s.ptpLink n false) := by
  refine Keeps.foldl_range (fun t i _ => Keeps.ite ?_ (Keeps.refl t)) s
  have hon := onPtp_keeps hport hptp t i n hn (fun _ => {})
  exact (Keeps.ite (hon.trans (noParent_keeps hW hp htbs _ _)) hon).trans (bmca_keeps hW hp htbs hport hptp _ _)

end

/-! ## The entry to Night (R82, R363, R379) -/

/-- What the entry to Night changes beside what is noticed: clocks, PTP ports and lanes. -/
def sansNight (u : State) : State := { u with tbs := [], ptp := [], lanes := [] }

theorem eq_of_sansNight (h : sansNight t.unnoticed = sansNight s.unnoticed) :
    t = { s.noticed t with tbs := t.tbs, ptp := t.ptp, lanes := t.lanes } :=
  calc
    t = { (sansNight t.unnoticed).noticed t with tbs := t.tbs, ptp := t.ptp, lanes := t.lanes } := rfl
    _ = { (sansNight s.unnoticed).noticed t with tbs := t.tbs, ptp := t.ptp, lanes := t.lanes } := by rw [h]
    _ = _ := rfl

/-- The words of the network ports and of the clocks, but for NPn_STATUS, and those of events. -/
def clockWord (a : Nat) : Bool := (decide (0xC0000 ≤ a) && a != R.NP_STATUS 0 && a != R.NP_STATUS 1) || plumbWord a

/-- Every word but those of the head lanes. -/
def offLaneWord (a : Nat) : Bool := decide (a < 0xB0000) || decide (0xC0000 ≤ a)

theorem plumbWord_cases {a : Nat} (h : plumbWord a = true) : a = 0x160 ∨ a = 0x158 ∨ 0xC003C ≤ a := by
  simp only [plumbWord, Bool.or_eq_true, beq_iff_eq, R.FAULT_LATCH, R.EVT_LOST, R.NP_TX_FRAMES, R.NP_TX_DROP] at h
  omega

theorem plumbWord_offLane {a : Nat} (h : plumbWord a = true) : offLaneWord a = true := by
  have := plumbWord_cases h
  simp only [offLaneWord, Bool.or_eq_true, decide_eq_true_eq]
  omega

/-- The link of a port goes down without an event. -/
def State.portDown (s : State) (n : Nat) : State :=
  (((s.wr (R.NP_STATUS_LINK n) 0).wr (R.NP_STATUS_FEC_LOCK n) 0).wr (R.NP_STATUS_AN_DONE n) 0).ptpLink n false

theorem portsDown_eq (s : State) : s.portsDown = (s.portDown 0).portDown 1 := rfl

/-- What the PTP ports do when a link goes down. -/
theorem ptpLink_night (s : State) (n : Nat) (hn : n < 2) : Keeps sansNight clockWord s (s.ptpLink n false) := by
  refine ptpLink_keeps (fun a ha => ?_) (fun a ha => ?_) (fun _ _ => rfl) (by decide) (fun _ _ => rfl) s n hn
  · simp only [clockWord, R.NP_STATUS, Bool.or_eq_true, Bool.and_eq_true, decide_eq_true_eq, bne_iff_ne]
    omega
  · simp only [clockWord, ha, Bool.or_true]

theorem portDown_keeps (s : State) (n : Nat) (hn : n < 2) : Keeps sansNight offLaneWord s (s.portDown n) := by
  have hw : offLaneWord (R.NP_STATUS n) = true := by
    simp only [offLaneWord, R.NP_STATUS, Bool.or_eq_true, decide_eq_true_eq]
    omega
  refine ((((Keeps.refl s).wr _ _ hw).wr _ _ hw).wr _ _ hw).trans ((ptpLink_night _ n hn).mono (fun _ => rfl) fun a ha => ?_)
  cases hc : clockWord a
  · rfl
  · simp only [clockWord, Bool.or_eq_true, Bool.and_eq_true, decide_eq_true_eq] at hc
    rcases hc with ⟨⟨hlow, -⟩, -⟩ | hc
    · simp only [offLaneWord, Bool.or_eq_false_iff, decide_eq_false_iff_not] at ha
      omega
    · rw [plumbWord_offLane hc] at ha
      exact absurd ha (by simp)

/-- The link that goes down is down, and the other port's stays. -/
theorem portDown_link (s : State) : (s.portDown 0).rd (R.NP_STATUS_LINK 0) = 0 ∧ (s.portDown 1).rd (R.NP_STATUS_LINK 1) = 0 ∧
    (s.portDown 1).rd (R.NP_STATUS_LINK 0) = s.rd (R.NP_STATUS_LINK 0) := by
  refine ⟨?_, ?_, ?_⟩
  · rw [State.portDown, (ptpLink_night _ 0 (by decide)).rd _ (by decide), rd_wr_apart _ _ _ _ rfl rfl, rd_wr_apart _ _ _ _ rfl rfl,
      rd_wr_same _ _ _ rfl]
    rfl
  · rw [State.portDown, (ptpLink_night _ 1 (by decide)).rd _ (by decide), rd_wr_apart _ _ _ _ rfl rfl, rd_wr_apart _ _ _ _ rfl rfl,
      rd_wr_same _ _ _ rfl]
    rfl
  · rw [State.portDown, (ptpLink_night _ 1 (by decide)).rd _ (by decide), rd_wr_apart _ _ _ _ rfl rfl, rd_wr_apart _ _ _ _ rfl rfl,
      rd_wr_apart _ _ _ _ rfl rfl]

/-- A camera lane and its pipeline leave lock. -/
def State.camDown (s : State) (n : Nat) : State :=
  let u := if s.rd (R.CL_STATUS_STATE n) = 2 then s.wr (R.CL_STATUS_STATE n) 1 else s
  if u.rd (R.CP_STATUS_STATE n) = 0 then u else u.wr (R.CP_STATUS_STATE n) 1

theorem camsDown_eq (s : State) : s.camsDown = (List.range 4).foldl State.camDown s := rfl

/-- The words of the camera lanes and pipelines. -/
def camWord (a : Nat) : Bool := decide (0x90000 ≤ a) && decide (a < 0xA0000)

theorem camDown_keeps (s : State) (n : Nat) (hn : n < 4) : Keeps sansNight camWord s (s.camDown n) := by
  have hl : camWord (R.CL_STATUS n) = true := by
    simp only [camWord, R.CL_STATUS, Bool.and_eq_true, decide_eq_true_eq]
    omega
  have hc : camWord (R.CP_STATUS n) = true := by
    simp only [camWord, R.CP_STATUS, Bool.and_eq_true, decide_eq_true_eq]
    omega
  have h := Keeps.ite (c := s.rd (R.CL_STATUS_STATE n) = 2) ((Keeps.refl (E := sansNight) s).wr (R.CL_STATUS_STATE n) 1 hl) (Keeps.refl s)
  exact Keeps.ite h (h.wr _ _ hc)

theorem camsDown_keeps (s : State) : Keeps sansNight camWord s s.camsDown := Keeps.foldl_range (fun t n hn => camDown_keeps t n hn) s

/-- The state with the lanes, the links and the cameras down; the power state is yet to follow. -/
def State.railsOff (s : State) : State := (s.lanesDown [laneActive, laneShallow] laneDeep 2).portsDown.camsDown

theorem railsOff_eq (s : State) :
    s.railsOff = { s.noticed s.railsOff with tbs := s.railsOff.tbs, ptp := s.railsOff.ptp, lanes := s.railsOff.lanes } := by
  have hlanes : Keeps sansNight (fun _ => true) s (s.lanesDown [laneActive, laneShallow] laneDeep 2) := by
    refine ⟨?_, fun _ h => absurd h (by simp)⟩
    rw [eq_of_sansLanes (lanesDown_sansLanes s [laneActive, laneShallow] laneDeep 2)]
    rfl
  have hports := ((portDown_keeps (s.lanesDown [laneActive, laneShallow] laneDeep 2) 0 (by decide)).trans (portDown_keeps _ 1 (by decide)))
  refine eq_of_sansNight ((hlanes.trans (hports.mono (fun _ => rfl) (fun _ h => absurd h (by simp)))).trans
    ((camsDown_keeps _).mono (fun _ => rfl) (fun _ h => absurd h (by simp)))).1

theorem railsOff_links (s : State) : s.railsOff.rd (R.NP_STATUS_LINK 0) = 0 ∧ s.railsOff.rd (R.NP_STATUS_LINK 1) = 0 := by
  have hcam : ∀ n, n < 2 → s.railsOff.rd (R.NP_STATUS_LINK n) =
      (((s.lanesDown [laneActive, laneShallow] laneDeep 2).portDown 0).portDown 1).rd (R.NP_STATUS_LINK n) := fun n _ => by
    refine (camsDown_keeps (s.lanesDown [laneActive, laneShallow] laneDeep 2).portsDown).rd _ ?_
    simp only [camWord, R.NP_STATUS, Bool.and_eq_false_iff, decide_eq_false_iff_not]
    omega
  obtain ⟨h0, -, -⟩ := portDown_link (s.lanesDown [laneActive, laneShallow] laneDeep 2)
  obtain ⟨-, h1, h01⟩ := portDown_link ((s.lanesDown [laneActive, laneShallow] laneDeep 2).portDown 0)
  rw [hcam 0 (by decide), hcam 1 (by decide)]
  exact ⟨h01.trans h0, h1⟩

theorem railsOff_laneState (s : State) (n : Fin 16) : s.railsOff.laneState n =
    if s.laneState n = laneActive ∨ s.laneState n = laneShallow then laneDeep else s.laneState n := by
  have hpage : offLaneWord (R.HL_STATE n) = false ∧ camWord (R.HL_STATE n) = false := by
    simp only [offLaneWord, camWord, R.HL_STATE, Bool.or_eq_false_iff, Bool.and_eq_false_iff, decide_eq_false_iff_not]
    omega
  have hports := ((portDown_keeps (s.lanesDown [laneActive, laneShallow] laneDeep 2) 0 (by decide)).trans (portDown_keeps _ 1 (by decide)))
  have h : s.railsOff.laneState n = (s.lanesDown [laneActive, laneShallow] laneDeep 2).laneState n :=
    ((camsDown_keeps _).rd _ hpage.2).trans (hports.rd _ hpage.1)
  rw [h, lanesDown_laneState _ _ _ _ _ (by decide)]
  simp only [List.mem_cons, List.not_mem_nil, or_false]

/-- The power state in Night: the island counts on from ENC0's true position. -/
theorem nightStart_eq (s : State) : s.nightStart = s.railsOff.onPow (fun p => { p with
    phase := .night, nightAt := s.time, coreStopped := s.time, islEnc := BitVec.ofNat 48 (s.encTrue 0), islTrust := p.vio }) := rfl

end Sys2Proof.Machine
end

section
/-! PROOFS. The exit from Night: what the merging of motion and time and the relock of the lanes change (R83 to R85, R199, R222, R379). -/

namespace Sys2Proof.Machine

variable {s t : State}

/-- What the exit from Night changes beside what is noticed: the flash engine and the flash, clocks, generators, encoders, lanes. -/
def sansMotion (u : State) : State := { u with tbs := [], tgs := [], encs := [], lgs := [], lanes := [], nvm := {}, flash := [] }

/-- Every word but those of PWR_CTRL and the registers around it, WAKE_SRC and NIGHT_LAST among them. -/
def offWakeWord (a : Nat) : Bool := decide (0x40 ≤ a)

theorem offWake_add {b c : Nat} (h : 0x40 ≤ b) : offWakeWord (b + c) = true := decide_eq_true (Nat.le_add_right_of_le h)

theorem offWake_plumb (a : Nat) (h : plumbWord a = true) : offWakeWord a = true := by
  have := plumbWord_cases h
  exact decide_eq_true (by omega)

/-- A frame of the exit from Night. -/
abbrev MotionKeeps := Keeps sansMotion offWakeWord

/-! ## The operations of the exit -/

theorem setCount_motion (s : State) (k n : Nat) : MotionKeeps s (s.setCount k n) :=
  (Keeps.refl s).wrW _ _ _ (offWake_add (by decide)) (offWake_add (by decide))

theorem followCount_motion (s : State) (k n : Nat) : MotionKeeps s (s.followCount k n) :=
  Keeps.foldl_range (fun t j _ => Keeps.ite (setCount_motion t j n) (Keeps.refl t)) s

theorem onTg_motion (s : State) (k : Nat) (f : Tg → Tg) : MotionKeeps s (s.onTg k f) := (Keeps.refl s).update rfl rfl

theorem onEnc_motion (s : State) (n : Nat) (f : Enc → Enc) : MotionKeeps s (s.onEnc n f) := (Keeps.refl s).update rfl rfl

theorem onLane_motion (s : State) (n : Nat) (f : Lane → Lane) : MotionKeeps s (s.onLane n f) := (Keeps.refl s).update rfl rfl

theorem mergeLines_motion (s : State) : MotionKeeps s s.mergeLines :=
  Keeps.foldl_range (fun t k _ => Keeps.ite (onTg_motion t k _) (Keeps.ite (Keeps.refl t)
    (Keeps.ite ((setCount_motion t k _).trans (followCount_motion _ k _)) (Keeps.refl t)))) s

theorem setTrue_motion (s : State) (n v : Nat) : MotionKeeps s (s.setTrue n v) :=
  (Keeps.refl s).wrW _ _ _ (offWake_add (by decide)) (offWake_add (by decide))

theorem setPrint_motion (s : State) (n v : Nat) : MotionKeeps s (s.setPrint n v) :=
  (Keeps.refl s).wrW _ _ _ (offWake_add (by decide)) (offWake_add (by decide))

theorem resetSpeed_motion (s : State) (n : Nat) : MotionKeeps s (s.resetSpeed n) :=
  ((onEnc_motion s n _).wr _ _ (offWake_add (by decide))).wr _ _ (offWake_add (by decide))

theorem lgAdvance_motion (s : State) (k n : Nat) : MotionKeeps s (s.lgAdvance k n) :=
  Keeps.wr ((Keeps.refl s).update (u := { s with lgs := Sparse.set 0 s.lgs k ((Sparse.get 0 s.lgs k + n * s.lgInc k) % 2 ^ 80) }) rfl rfl)
    _ _ (offWake_add (by decide))

theorem cmpRejects_motion (s : State) (k : Nat) : MotionKeeps s (s.cmpRejects k) := by
  have h1 := Keeps.ite (c := s.flag (R.CMP_CFG_REJ0 k) = true) ((Keeps.refl (E := sansMotion) (W := offWakeWord) s).emit
    (.cmpReject k 0 (s.cmpRef k) (s.cmpRef k + s.rd (R.CMP_CFG_WIDTH k)))) (Keeps.refl s)
  exact Keeps.ite (h1.emit _) h1

theorem cmpFire_motion (s : State) (k : Nat) (late : Bool) : MotionKeeps s (s.cmpFire k late) := by
  have hs {v : Nat} {f : Field} (u : State) (hf : f.addr = R.CMP_STATUS k) : MotionKeeps u (u.wr f v) :=
    (Keeps.refl u).wr _ _ (hf ▸ offWake_add (by decide))
  unfold State.cmpFire
  extract_lets per s1 s2
  have h1 : MotionKeeps s s1 := (((hs s rfl).trans (hs _ rfl)).trans (hs _ rfl)).wrW _ _ _ (offWake_add (by decide)) (offWake_add (by decide))
  have h2 : MotionKeeps s s2 := h1.trans (cmpRejects_motion s1 k)
  exact Keeps.ite (h2.trans (hs _ rfl)) ((h2.wrW _ _ _ (offWake_add (by decide)) (offWake_add (by decide))).trans (hs _ rfl))

/-- A compare unit is judged after a Night without an event. -/
theorem cmpJudge_motion (s : State) (k : Nat) : MotionKeeps s (s.cmpJudge k false) := by
  have hs {v : Nat} {f : Field} (u : State) (hf : f.addr = R.CMP_STATUS k) : MotionKeeps u (u.wr f v) :=
    (Keeps.refl u).wr _ _ (hf ▸ offWake_add (by decide))
  unfold State.cmpJudge
  extract_lets d arg s0
  have h0 : MotionKeeps s s0 := ((hs s rfl).trans (hs _ rfl)).trans (hs _ rfl)
  exact Keeps.ite (h0.trans (hs _ rfl)) (Keeps.ite (h0.trans (cmpFire_motion s0 k true)) ((h0.trans (hs _ rfl)).trans (hs _ rfl)))

/-- The motion of the Night is merged (R199). -/
theorem mergeMotion_motion (s : State) (isl : Nat) : MotionKeeps s (s.mergeMotion isl) := by
  unfold State.mergeMotion
  extract_lets net old s1 s2 adv dead back dir s3 s4 s5
  have h1 : MotionKeeps s s1 := setTrue_motion s 0 isl
  have h2 : MotionKeeps s s2 := Keeps.ite (h1.trans (setPrint_motion s1 0 isl)) h1
  have h3 : MotionKeeps s s3 := ((h2.wr _ _ (offWake_add (by decide))).trans (resetSpeed_motion _ 0)).trans (onEnc_motion _ 0 _)
  have h4 : MotionKeeps s s4 := h3.trans (Keeps.foldl_range (fun t k _ => Keeps.ite
    ((lgAdvance_motion t k adv).wrW _ _ _ (offWake_add (by decide)) (offWake_add (by decide))) (Keeps.refl t)) s3)
  have h5 : MotionKeeps s s5 := h4.trans (mergeLines_motion s4)
  exact h5.trans (Keeps.foldl_range (fun t k _ => Keeps.ite (cmpJudge_motion t k) (Keeps.refl t)) s5)

theorem timeResume_motion (s : State) (us : Nat) (fresh : Bool) : MotionKeeps s (s.timeResume us fresh) :=
  timeResume_keeps (fun a ha => decide_eq_true (by omega)) offWake_plumb (fun _ _ => rfl) s us fresh

theorem startTrain_motion (s : State) (n rate : Nat) (fast : Bool) : MotionKeeps s (s.startTrain n rate fast) :=
  ((((Keeps.refl s).wr _ _ (offWake_add (by decide))).trans (onLane_motion _ n _)).trans (onLane_motion _ n _)).emit _

@[simp] theorem storeKicked_sansFlash (s : State) : s.storeKicked.sansFlash = s.sansFlash := by
  unfold State.storeKicked
  split <;> rfl

@[simp] theorem commitKicked_sansFlash (s : State) : s.commitKicked.sansFlash = s.sansFlash := by
  unfold State.commitKicked
  split <;> simp

@[simp] theorem flashKick_sansFlash (s : State) : s.flashKick.sansFlash = s.sansFlash := by
  rcases flashKick_cases s with h | ⟨c, b, rest, h⟩ | h
  · rw [h]
  · rw [h, tempDefer_sansFlash]
    rfl
  · rw [h, tempDefer_sansFlash, commitKicked_sansFlash, storeKicked_sansFlash]

/-- What a kick of the flash may start changes the flash engine only. -/
theorem flashKick_motion (s : State) : MotionKeeps s s.flashKick := by
  have hrest : sansMotion s.flashKick.sansFlash = sansMotion s.sansFlash := by rw [flashKick_sansFlash]
  refine ⟨hrest, fun a ha => flashKick_word s a ?_⟩
  have hlow : a < 0x40 := by simpa [offWakeWord] using ha
  have hp : plumbWord a = false := by
    cases h : plumbWord a
    · rfl
    · have := plumbWord_cases h
      omega
  simp only [engineWord, hp, R.NVM_OP, R.NVM_ERR, Bool.or_false, Bool.or_eq_false_iff, beq_eq_false_iff_ne]
  omega

/-! ## The exit to Day (R84, R85) -/

/-- The power state on the exit: Day, the island's count as it stands. -/
def State.dayAgain (s : State) (isl : Nat) : State :=
  s.onPow (fun p => { p with phase := .day, lastBusy := s.time, islEnc := BitVec.ofNat 48 isl })

/-- Then motion and time are merged, and the source of the wake is shown. -/
def State.woken (s : State) (src : WakeSrc) (isl us : Nat) : State := (((s.dayAgain isl).timeResume us false).mergeMotion isl).wakeSrc src

/-- Then DEEP lanes train again, and a position not trusted loses its CONT bit. -/
def State.relocked (s : State) (src : WakeSrc) (isl us : Nat) : State :=
  let s2 := (List.range 16).foldl (fun (t : State) n =>
    if t.laneState n = laneDeep then t.startTrain n (t.rd (R.HL_STATE_RATE n)) true else t) (s.woken src isl us)
  if s.pow.islTrust then s2 else s2.wr (R.ENC_STATUS_CONT 0) 0

/-- At last the length of the Night is shown and recorded, and NIGHT_EXIT raised. -/
def State.exitTold (s : State) (us : Nat) : State :=
  ((State.journalDue { s with life := Sparse.set 0 s.life 0x1B8 (us / 1000000) } 4).raise Ev.NIGHT_EXIT).flushEvents.flashKick

theorem nightExit_eq (s : State) (src : WakeSrc) (isl us : Nat) :
    s.nightExit src isl us = ((s.relocked src isl us).wr R.NIGHT_LAST_S (us / 1000000)).exitTold us := rfl

/-- The code of a wake source in WAKE_SRC. -/
def wakeCode : WakeSrc → Nat
  | .mfp _ => 1
  | .enc0 => 2
  | .timer => 3

theorem wakeSrc_rd (s : State) (src : WakeSrc) : (s.wakeSrc src).rd R.WAKE_SRC_SRC = wakeCode src := by
  cases src with
  | mfp pins => exact (rd_wr_apart _ _ _ _ rfl rfl).trans (rd_wr_same _ _ _ rfl)
  | enc0 => exact (rd_wr_apart _ _ _ _ rfl rfl).trans (rd_wr_same _ _ _ rfl)
  | timer => exact (rd_wr_apart _ _ _ _ rfl rfl).trans (rd_wr_same _ _ _ rfl)

theorem wakeSrc_keeps {E : State → State} (s : State) (src : WakeSrc) : Keeps E (fun _ => true) s (s.wakeSrc src) := by
  cases src with
  | mfp pins => exact ((Keeps.refl s).wr _ _ rfl).wr _ _ rfl
  | enc0 => exact ((Keeps.refl s).wr _ _ rfl).wr _ _ rfl
  | timer => exact ((Keeps.refl s).wr _ _ rfl).wr _ _ rfl

theorem relocked_motion (s : State) (src : WakeSrc) (isl us : Nat) : MotionKeeps (s.woken src isl us) (s.relocked src isl us) := by
  have h := Keeps.foldl_range (n := 16) (E := sansMotion) (W := offWakeWord) (f := fun (t : State) n =>
    if t.laneState n = laneDeep then t.startTrain n (t.rd (R.HL_STATE_RATE n)) true else t)
    (fun t n _ => Keeps.ite (startTrain_motion t n _ true) (Keeps.refl t)) (s.woken src isl us)
  exact Keeps.ite h (h.wr _ _ (offWake_add (by decide)))

theorem exitTold_motion (s : State) (us : Nat) : MotionKeeps s (s.exitTold us) :=
  ((((Keeps.of_unnoticed (t := { s with life := Sparse.set 0 s.life 0x1B8 (us / 1000000) }) rfl (fun _ _ => rfl)).journalDue 4).raise
    offWake_plumb _ _ _).flushEvents offWake_plumb).trans (flashKick_motion _)

/-- The exit shows its source and the length of the Night. -/
theorem nightExit_shows (s : State) (src : WakeSrc) (isl us : Nat) :
    (s.nightExit src isl us).rd R.WAKE_SRC_SRC = wakeCode src ∧
      (s.nightExit src isl us).rd R.NIGHT_LAST_S = us / 1000000 % 2 ^ 32 := by
  rw [nightExit_eq, (exitTold_motion _ us).rd _ rfl, (exitTold_motion _ us).rd _ rfl]
  refine ⟨?_, rd_wr_same _ _ _ rfl⟩
  rw [rd_wr_word _ _ _ _ (by decide), (relocked_motion s src isl us).rd _ rfl]
  exact wakeSrc_rd _ src

theorem nightExit_keeps (s : State) (src : WakeSrc) (isl us : Nat) :
    Keeps sansMotion (fun _ => true) (s.dayAgain isl) (s.nightExit src isl us) := by
  have hall : ∀ {t u : State}, MotionKeeps t u → Keeps sansMotion (fun _ => true) t u :=
    fun h => h.mono (fun _ => rfl) (fun _ ha => absurd ha (by simp))
  have hwoken : Keeps sansMotion (fun _ => true) (s.dayAgain isl) (s.woken src isl us) :=
    (hall ((timeResume_motion _ us false).trans (mergeMotion_motion _ isl))).trans (wakeSrc_keeps _ src)
  rw [nightExit_eq]
  exact ((hwoken.trans (hall (relocked_motion s src isl us))).wr _ _ rfl).trans (hall (exitTold_motion _ us))

theorem eq_of_sansMotion (h : sansMotion t.unnoticed = sansMotion s.unnoticed) :
    t = { s.noticed t with
      flash := t.flash, nvm := t.nvm, tbs := t.tbs, tgs := t.tgs, encs := t.encs, lgs := t.lgs, lanes := t.lanes } :=
  calc
    t = { (sansMotion t.unnoticed).noticed t with
      flash := t.flash, nvm := t.nvm, tbs := t.tbs, tgs := t.tgs, encs := t.encs, lgs := t.lgs, lanes := t.lanes } := rfl
    _ = { (sansMotion s.unnoticed).noticed t with
      flash := t.flash, nvm := t.nvm, tbs := t.tbs, tgs := t.tgs, encs := t.encs, lgs := t.lgs, lanes := t.lanes } := by rw [h]
    _ = _ := rfl

theorem nightExit_latch_eq (s : State) (src : WakeSrc) (isl us : Nat) :
    (s.nightExit src isl us).latch.pow = (s.dayAgain isl).pow ∧
    (s.nightExit src isl us).latch = { (s.dayAgain isl).noticed (s.nightExit src isl us).latch with
      flash := (s.nightExit src isl us).latch.flash, nvm := (s.nightExit src isl us).latch.nvm
      tbs := (s.nightExit src isl us).latch.tbs, tgs := (s.nightExit src isl us).latch.tgs
      encs := (s.nightExit src isl us).latch.encs, lgs := (s.nightExit src isl us).latch.lgs
      lanes := (s.nightExit src isl us).latch.lanes } := by
  have h : sansMotion (s.nightExit src isl us).latch.unnoticed = sansMotion (s.dayAgain isl).unnoticed := by
    rw [latch_unnoticed]
    exact (nightExit_keeps s src isl us).1
  have heq := eq_of_sansMotion h
  refine ⟨?_, heq⟩
  rw [heq]
  rfl

/-! ## Dusk, Night and the wake -/

theorem exec_nightWake_night {src : WakeSrc} {us : Nat} {mo : Int} (hp : s.pow.phase = .night)
    (hw : s.wakes src (posAdd s.pow.islEnc.toNat mo) us = true) (fail : Bool) :
    exec (.nightWake src us mo fail) s =
      if fail then ((s.onPow (fun p => { p with islEnc := BitVec.ofNat 48 (posAdd s.pow.islEnc.toNat mo) })).coreStop .off 6).done
      else (s.nightExit src (posAdd s.pow.islEnc.toNat mo) us).done := by
  show execNightWake src us mo fail s = _
  simp only [execNightWake, hp, hw]
  rfl

theorem exec_nightWake_entry {src : WakeSrc} {us : Nat} {mo : Int} (hp : s.pow.phase = .nightEntry)
    (hw : s.wakes src (posAdd (s.encTrue 0) mo) us = true) (fail : Bool) :
    exec (.nightWake src us mo fail) s = .next s.toDusk.latch := by
  show execNightWake src us mo fail s = _
  simp only [execNightWake, hp, hw]
  rfl

theorem latch_laneState (s : State) (n : Nat) : s.latch.laneState n = s.laneState n := by
  unfold State.laneState
  simp only [latch_frame]

/-- Settles O14: Dusk and the entry to Night are lanes and links that go down, the exit is `nightExit`, and a restore that fails is a
stop of the core. -/
theorem duskAndNight : Obligations.DuskAndNight := by
  refine ⟨fun s hd => ?_, fun s hp hw => ?_, fun s src us mo hp hw => ?_, fun s src us mo hp hw => ?_, fun s src us mo r hp hw => ?_⟩
  · refine ⟨s.toDusk.latch, ?_, ?_, fun n => ?_, ?_⟩
    · show execDuskEntry s = _
      rw [execDuskEntry, if_pos hd, State.done]
    · simp only [latch_frame]
      rw [toDusk_eq]
    · rw [latch_laneState, toDusk_laneState]
    · rw [latch_eq_leaves, toDusk_eq]
  · refine ⟨s.nightStart.latch, ?_, ?_, fun n => ?_, ?_, ?_, ?_, ?_⟩
    · show execNightEntryDone s = _
      rw [execNightEntryDone, if_pos ⟨hp, hw⟩, State.done]
    · simp only [latch_frame]
      rw [nightStart_eq, railsOff_eq]
      rfl
    · rw [latch_laneState, nightStart_eq]
      exact railsOff_laneState s n
    · simp only [latch_frame]
      exact (railsOff_links s).1
    · simp only [latch_frame]
      exact (railsOff_links s).2
    · simp only [latch_frame]
      rfl
    · rw [latch_eq_leaves, nightStart_eq, railsOff_eq]
      rfl
  · obtain ⟨hpow, hframe⟩ := nightExit_latch_eq s src (posAdd s.pow.islEnc.toNat mo) us
    obtain ⟨hsrc, hlast⟩ := nightExit_shows s src (posAdd s.pow.islEnc.toNat mo) us
    refine ⟨_, (exec_nightWake_night hp hw false).trans rfl, ?_, ?_, ?_, ?_, ?_⟩
    · rw [hpow]
      rfl
    · rw [hpow]
      rfl
    · simp only [latch_frame, hsrc]
      cases src <;> rfl
    · simp only [latch_frame, hlast]
    · rw [hpow]
      exact hframe
  · obtain ⟨hpow, -⟩ := coreStop_latch (s.onPow (fun p => { p with islEnc := BitVec.ofNat 48 (posAdd s.pow.islEnc.toNat mo) })) .off 6 false
    refine ⟨_, (exec_nightWake_night hp hw true).trans rfl, ?_⟩
    rw [hpow]
    refine ⟨rfl, rfl, if_neg ?_⟩
    have hoff : (s.onPow (fun p => { p with islEnc := BitVec.ofNat 48 (posAdd s.pow.islEnc.toNat mo) })).pow.phase = .night := hp
    simp [coreOn_iff, hoff]
  · refine ⟨_, exec_nightWake_entry hp hw r, ?_⟩
    simp only [latch_frame]
    rw [toDusk_eq]

/-- A module in Day, at rest, since 60 s, with DUSK_AUTO set. -/
def restingState : State := { dayState with time := secTicks 60 }.wr R.PWR_CTRL_DUSK_AUTO 1

/-- It enters Dusk. -/
theorem duskAndNight_dusk_witness : ∃ t, exec .duskEntry restingState = .next t ∧ t.pow.phase = .dusk := by
  obtain ⟨t, hrun, hpow, -⟩ := duskAndNight.1 restingState (by decide)
  exact ⟨t, hrun, by rw [hpow]⟩

/-- A module whose entry to Night has no write left, with lane 3 ACTIVE. -/
def enteringState : State := { dayState with pow := { phase := .nightEntry, fresh := false } }.wr (R.HL_STATE_STATE 3) laneActive

/-- It is in Night, and the lane is in DEEP. -/
theorem duskAndNight_entry_witness :
    ∃ t, exec .nightEntryDone enteringState = .next t ∧ t.pow.phase = .night ∧ t.laneState 3 = laneDeep := by
  obtain ⟨t, hrun, hpow, hlane, -⟩ := duskAndNight.2.1 enteringState rfl (by decide)
  exact ⟨t, hrun, by rw [hpow], (hlane 3).trans (if_pos (.inl (by decide)))⟩

/-- A module in Night that the timer may wake. -/
def nightState : State := { dayState with pow := { phase := .night, fresh := false, islEnc := 77 } }.wr R.NIGHT_WAKE_WAKE_TIMER 1

/-- The timer wakes it after five seconds. -/
theorem duskAndNight_wake_witness :
    ∃ t, exec (.nightWake .timer 5000000 0 false) nightState = .next t ∧ t.pow.phase = .day ∧ t.rd R.WAKE_SRC_SRC = 3 ∧
      t.rd R.NIGHT_LAST_S = 5 := by
  obtain ⟨t, hrun, hday, -, hsrc, hlast, -⟩ := duskAndNight.2.2.1 nightState .timer 5000000 0 rfl (by decide)
  exact ⟨t, hrun, hday, hsrc, hlast⟩

/-- With HBM that does not come back the wake leads to a Dawn of cause 6, and the island keeps its count. -/
theorem duskAndNight_fail_witness :
    ∃ t, exec (.nightWake .timer 5000000 0 true) nightState = .next t ∧ t.pow.phase = .off ∧ t.pow.cause = 6 ∧ t.pow.islEnc = 77 := by
  obtain ⟨t, hrun, hoff, hcause, hisl⟩ := duskAndNight.2.2.2.1 nightState .timer 5000000 0 rfl (by decide)
  exact ⟨t, hrun, hoff, hcause, hisl.trans (by decide)⟩

end Sys2Proof.Machine
end

section
/-! PROOFS. Dawn, part 1: what the steps of a Dawn keep (R67 to R75, R387, R418, R433, R451, R457). -/

namespace Sys2Proof.Machine

variable {s t : State}

/-- What a Dawn, once it has begun, does not touch: time, HBM, the flash, the power state, held messages, requests sent on, waiting piece
rejects, the queue and the test port. -/
def sansDawn (u : State) : State :=
  { time := u.time, hbm := u.hbm, flash := u.flash, pow := u.pow, held := u.held, fwds := u.fwds, rejects := u.rejects
    pending := u.pending, jtag := u.jtag }

/-- A frame of the steps of a Dawn. -/
abbrev DawnKeeps := Keeps sansDawn (fun _ => true)

theorem dawnKeeps_of (h : sansDawn t.unnoticed = sansDawn s.unnoticed) : DawnKeeps s t := ⟨h, fun _ ha => absurd ha (by simp)⟩

/-- An event word is among the words a Dawn may write. -/
theorem dawn_plumb (a : Nat) (_ : plumbWord a = true) : (fun _ : Nat => true) a = true := rfl

/-! ## Parts of the state that a Dawn replaces -/

/-- Lifetime counts, thermal state, the flash engine, and the remapping of memory. -/
theorem books_dawn (s : State) (life lifeRem : Sparse Nat) (therm : Therm) (nvm : Nvm) (mem : Mem) :
    DawnKeeps s { s with life := life, lifeRem := lifeRem, therm := therm, nvm := nvm, mem := mem } := (Keeps.refl s).update rfl rfl

theorem onEnc_dawn (s : State) (n : Nat) (f : Enc → Enc) : DawnKeeps s (s.onEnc n f) := (Keeps.refl s).update rfl rfl

theorem onLane_dawn (s : State) (n : Nat) (f : Lane → Lane) : DawnKeeps s (s.onLane n f) := (Keeps.refl s).update rfl rfl

theorem onGate_dawn (s : State) (g : Nat) (f : Gate → Gate) : DawnKeeps s (s.onGate g f) := (Keeps.refl s).update rfl rfl

theorem onFollower_dawn (s : State) (k : Nat) (f : Follower → Follower) : DawnKeeps s (s.onFollower k f) :=
  (Keeps.refl s).update rfl rfl

theorem reports_dawn (s : State) (l : Sparse Nat) : DawnKeeps s { s with reports := l } := (Keeps.refl s).update rfl rfl

theorem unitsBad_dawn (s : State) (l : List (Nat × Nat)) : DawnKeeps s { s with unitsBad := l } := (Keeps.refl s).update rfl rfl

theorem onTb_dawn (s : State) (k : Nat) (f : TimeBase → TimeBase) : DawnKeeps s (s.onTb k f) := onTb_keeps (fun _ _ => rfl) s k f

theorem wr_dawn (s : State) (f : Field) (v : Nat) : DawnKeeps s (s.wr f v) := (Keeps.refl s).wr f v rfl

theorem wrW_dawn (s : State) (lo hi : Field) (v : Nat) : DawnKeeps s (s.wrW lo hi v) := (Keeps.refl s).wrW lo hi v rfl rfl

/-! ## What Dawn starts from (steps 0 to 3) -/

theorem lifeRestore_dawn (s : State) (fresh : Bool) : DawnKeeps s (s.lifeRestore fresh) := by
  unfold State.lifeRestore
  split
  · exact ((wr_dawn s _ _).wr _ _ rfl).trans (books_dawn _ _ _ _ _ _)
  · exact ((wr_dawn s _ _).wr _ _ rfl).trans (books_dawn _ _ _ _ _ _)

theorem countDawn_dawn (s : State) (cause : Nat) : DawnKeeps s (s.countDawn cause) := by
  unfold State.countDawn
  extract_lets s1
  have h1 : DawnKeeps s s1 := ((Keeps.refl s).lifeAdd _ _ _).lifeAdd _ _ _
  exact Keeps.ite (h1.lifeAdd _ _ _) (h1.lifeAdd _ _ _)

theorem tripShow_dawn (s : State) (p : Power) : DawnKeeps s (s.tripShow p) := by
  unfold State.tripShow
  extract_lets s1 s2 s3
  have h2 : DawnKeeps s s2 := ((((wr_dawn s _ _).wr _ _ rfl).wr _ _ rfl).wr _ _ rfl).wr _ _ rfl
  exact Keeps.ite ((h2.lifeAdd _ _ _).trans (books_dawn s3 _ _ _ _ _)) h2

theorem binDip_dawn (s : State) (i : Nat) : DawnKeeps s (s.binDip i) := (wr_dawn s _ _).lifeAdd _ _ _

/-- What a Dawn leaves, in the parts that its steps keep, when it ends in a phase: nothing of the last run. -/
def State.dawnLeaves (s : State) (phase : Phase) : State :=
  { time := s.time, flash := s.flash, pending := s.pending, jtag := s.jtag
    pow := { s.pow with
      phase := phase, fresh := false, cause := 0, restart := false, scanOpen := false, wipeStep := 0, dipLost := false
      tripNew := false, lastBusy := s.time } }

theorem dawnBase_sansDawn (s : State) (d : DawnIn) : sansDawn (s.dawnBase d).unnoticed = s.dawnLeaves .day := by
  unfold State.dawnBase
  extract_lets p cause b b1 b2 b3 b4
  have h1 : DawnKeeps b b1 := ((((wr_dawn b _ _).wr _ _ rfl).wr _ _ rfl).wr _ _ rfl).wr _ _ rfl
  have h2 : DawnKeeps b1 b2 := ((wr_dawn b1 _ _).wr _ _ rfl).trans (lifeRestore_dawn _ _)
  have h3 : DawnKeeps b2 b3 := (countDawn_dawn b2 _).trans (tripShow_dawn _ _)
  have h4 : DawnKeeps b3 b4 := Keeps.ite ((Keeps.refl b3).lifeAdd _ _ _) (Keeps.refl b3)
  have h5 := Keeps.ite (c := p.dipLost = true) (binDip_dawn b4 7) (Keeps.refl b4)
  exact ((((h1.trans h2).trans h3).trans h4).trans h5).1

/-- ENC0 goes on from the island's count. -/
theorem dawnEnc_dawn (b s : State) : DawnKeeps b (b.dawnEnc s) :=
  ((((wrW_dawn b _ _ _).wrW _ _ _ rfl rfl).wr _ _ rfl).trans (onEnc_dawn _ _ _)).trans (onEnc_dawn _ _ _)

/-! ## Self-test (R418, R456) -/

theorem remap_dawn (s : State) (c : Nat) (a : Word) (bist : Bool) : DawnKeeps s (s.remap c a bist) :=
  Keeps.ite (((books_dawn s _ _ _ _ _).wr _ _ rfl).trans (books_dawn _ _ _ _ _ _))
    (((books_dawn s _ _ _ _ _).wr _ _ rfl).trans (books_dawn _ _ _ _ _ _))

theorem remapFull_dawn (s : State) (c : Nat) (a : Word) : DawnKeeps s (s.remapFull c a) := by
  unfold State.remapFull
  extract_lets w m s1 s2 flags s3
  have h1 : DawnKeeps s s1 := books_dawn s _ _ _ _ _
  have h2 : DawnKeeps s s2 := Keeps.ite (h1.wr _ _ rfl) (h1.wr _ _ rfl)
  have h3 : DawnKeeps s s3 := h2.trans (books_dawn s2 _ _ _ _ _)
  exact h3.condOn dawn_plumb _ _ _

/-- An address that is remapped already stays so; another one takes a spare, or waits for one. -/
theorem bistRemap_dawn (s : State) (u : Nat) (a : Word) (dawn : Bool) : DawnKeeps s (s.bistRemap u a dawn) :=
  Keeps.ite (Keeps.refl s) (Keeps.ite (remap_dawn _ _ _ _) (remapFull_dawn _ _ _))

theorem bistNote_dawn (s : State) (u i sig : Nat) : DawnKeeps s (s.bistNote u i sig) := by
  unfold State.bistNote
  extract_lets s1 s2 s3
  have h3 : DawnKeeps s s3 := (((((wr_dawn s _ _).wr _ _ rfl).wr _ _ rfl).wr _ _ rfl).wr _ _ rfl).lifeAdd _ _ _
  exact Keeps.ite h3 (h3.trans (unitsBad_dawn s3 _))

theorem dawnBist_dawn (s : State) (fails : List BistFail) : DawnKeeps s (s.dawnBist fails) :=
  Keeps.foldl (fun t _ _ => Keeps.ite ((bistNote_dawn t _ _ _).trans (bistRemap_dawn _ _ _ _)) (bistNote_dawn t _ _ _)) s

/-! ## Sequencers and units (R387, R457) -/

theorem setSq_dawn (s : State) (n st : Nat) : DawnKeeps s (s.setSq n st) :=
  (Keeps.ite (c := n = 0) (wr_dawn s _ _) (wr_dawn s _ _)).wr _ _ rfl

theorem dawnSq_dawn (s : State) (bad : Nat → Bool) : DawnKeeps s (s.dawnSq bad) :=
  ((((setSq_dawn s _ _).wr _ _ rfl).wr _ _ rfl).wr _ _ rfl).trans (setSq_dawn _ _ _)

theorem dxRest_dawn (s : State) (n : Nat) : DawnKeeps s (s.dxRest n) := Keeps.ite (wr_dawn s _ _) (wr_dawn s _ _)

/-- A unit that has failed is taken out of use as its kind wants it, and reported. -/
theorem dawnUnits_dawn (s : State) (fails : List BistFail) : DawnKeeps s (s.dawnUnits fails) := by
  refine Keeps.foldl (fun t _ _ => Keeps.raise dawn_plumb ?_ _ _ _) s
  split
  · exact (wr_dawn t _ _).trans (dxRest_dawn _ _)
  · exact wr_dawn t _ _
  · exact wr_dawn t _ _
  · exact wr_dawn t _ _
  · exact Keeps.refl t

/-! ## Lanes (R73, R274, R282) -/

theorem enter_dawn (s : State) (n st : Nat) : DawnKeeps s (s.enter n st) := (wr_dawn s _ _).trans (onLane_dawn _ _ _)

theorem startDetect_dawn (s : State) (n : Nat) : DawnKeeps s (s.startDetect n) := ((enter_dawn s n _).trans (onLane_dawn _ _ _)).emit _

theorem capInfo_dawn (s : State) (n : Nat) (c : Cap) : DawnKeeps s (s.capInfo n c) :=
  (((((((wr_dawn s _ _).wr _ _ rfl).wr _ _ rfl).wr _ _ rfl).wr _ _ rfl).wr _ _ rfl).wr _ _ rfl).wr _ _ rfl

theorem laneReject_dawn (s : State) (n reason : Nat) : DawnKeeps s (s.laneReject n reason) :=
  ((enter_dawn s n _).wr _ _ rfl).trans (onLane_dawn _ _ _)

theorem setRate_dawn (s : State) (n rate : Nat) : DawnKeeps s (s.setRate n rate) :=
  ((wr_dawn s _ _).wr _ _ rfl).trans (onLane_dawn _ _ _)

theorem laneUp_dawn (s : State) (n : Nat) : DawnKeeps s (s.laneUp n) :=
  ((((enter_dawn s n _).wr _ _ rfl).wr _ _ rfl).trans (onLane_dawn _ _ _)).condOff dawn_plumb _ _ _

/-- A lane with an answer trains to its rate, or is refused for it; without one it looks for its head. -/
theorem dawnLane_dawn (ups : List LaneUp) (s : State) (n : Nat) : DawnKeeps s (s.dawnLane ups n) := by
  unfold State.dawnLane
  refine Keeps.ite (Keeps.refl s) ?_
  split
  · exact startDetect_dawn s n
  · next u _ =>
    extract_lets s1 s2 s3
    have h1 : DawnKeeps s s1 := capInfo_dawn s n u.cap
    have h2 : DawnKeeps s1 s2 := ((((setRate_dawn s1 n _).wr _ _ rfl).wr _ _ rfl).wr _ _ rfl).wr _ _ rfl
    have h3 : DawnKeeps s2 s3 := (onLane_dawn s2 n _).drawn
    exact Keeps.ite (h1.trans (laneReject_dawn s1 n _)) (((h1.trans h2).trans h3).trans (laneUp_dawn s3 n))

/-- Channels move to their other lane, with no line in flight. -/
theorem switchFrom_dawn (s : State) (n : Nat) : DawnKeeps s (s.switchFrom n false).1 := by
  simp only [State.switchFrom, Bool.false_eq_true, if_false]
  exact Keeps.foldl (fun t _ _ => wr_dawn t _ _) s

theorem switchOver_dawn (s : State) (n : Nat) : DawnKeeps s (s.switchOver n false) := by
  unfold State.switchOver
  extract_lets r
  have h : DawnKeeps s r.1 := switchFrom_dawn s n
  exact Keeps.ite h ((h.lifeAdd _ _ _).condOn dawn_plumb _ _ _)

theorem dawnShort_dawn (s : State) (n : Nat) : DawnKeeps s (s.dawnShort n) :=
  Keeps.ite ((((wr_dawn s _ _).trans (onLane_dawn _ _ _)).condOn dawn_plumb _ _ _).trans (switchOver_dawn _ n)) (Keeps.refl s)

/-! ## What begins with Day (step 7) -/

theorem gateSettle_dawn (s : State) (g : Nat) : DawnKeeps s (s.gateSettle g) := by
  unfold State.gateSettle
  extract_lets s1
  have h1 : DawnKeeps s s1 := (wr_dawn s _ _).trans (onGate_dawn _ _ _)
  refine Keeps.ite (wr_dawn s _ _) ?_
  split
  · exact h1
  · exact (((h1.wr _ _ rfl).wr _ _ rfl).wr _ _ rfl).trans (onGate_dawn _ _ _)

/-- A camera lane starts to look for lock, and its pipeline with it. -/
theorem camBegin_dawn (s : State) (n : Nat) : DawnKeeps s
    (let u := if s.cf (R.CL_CFG_EN n) = 1 ∧ !s.unitBad 8 n then s.wr (R.CL_STATUS_STATE n) 1 else s
     if u.cpOn n then u.wr (R.CP_STATUS_STATE n) 1 else u) := by
  extract_lets u
  have h : DawnKeeps s u := Keeps.ite (wr_dawn s _ _) (Keeps.refl s)
  exact Keeps.ite (h.wr _ _ rfl) h

theorem tbRate_dawn (s : State) (k : Nat) (x : Rat) : DawnKeeps s (s.tbRate k x) := (onTb_dawn s k _).wr _ _ rfl

theorem tpArm_dawn (s : State) (p : Nat) : DawnKeeps s (s.tpArm p) := (Keeps.refl s).update rfl rfl

theorem promoteSerial_dawn (s : State) (k : Nat) : DawnKeeps s (s.promoteSerial k) :=
  Keeps.ite ((((((((wrW_dawn s _ _ _).wrW _ _ _ rfl rfl).wr _ _ rfl).wr _ _ rfl).wr _ _ rfl).wr _ _ rfl).wr _ _ rfl).wr _ _ rfl)
    (Keeps.refl s)

theorem pendSerial_dawn (s : State) (k : Nat) : DawnKeeps s (s.pendSerial k) := (wr_dawn s _ _).trans (promoteSerial_dawn _ _)

theorem crossTrack_dawn (s : State) : DawnKeeps s s.crossTrack :=
  Keeps.ite (Keeps.ite (Keeps.refl s) (onEnc_dawn s _ _)) (onEnc_dawn s _ _)

theorem speedDemand_dawn (s : State) : DawnKeeps s s.speedDemand := (wr_dawn s _ _).wr _ _ rfl

theorem dawnBegin_dawn (s : State) : DawnKeeps s s.dawnBegin := by
  unfold State.dawnBegin
  extract_lets s1 s2 s3 s4 s5 s6 s7
  have h1 : DawnKeeps s s1 := Keeps.foldl (fun t g _ => Keeps.ite (gateSettle_dawn t g) (Keeps.refl t)) s
  have h2 : DawnKeeps s1 s2 := Keeps.foldl (fun t n _ => camBegin_dawn t n) s1
  have h3 : DawnKeeps s2 s3 := Keeps.foldl (fun t k _ => Keeps.ite (Keeps.refl t) (tbRate_dawn t k _)) s2
  have h4 : DawnKeeps s3 s4 := Keeps.foldl (fun t p _ => Keeps.ite (tpArm_dawn t p) (Keeps.refl t)) s3
  have h5 : DawnKeeps s4 s5 := Keeps.foldl (fun t k _ => Keeps.ite (Keeps.refl t) (pendSerial_dawn t k)) s4
  have h6 : DawnKeeps s5 s6 := Keeps.foldl (fun t _ _ => onFollower_dawn t _ _) s5
  have h7 : DawnKeeps s6 s7 := Keeps.foldl (fun t _ _ => reports_dawn t _) s6
  exact (((((((h1.trans h2).trans h3).trans h4).trans h5).trans h6).trans h7).trans (crossTrack_dawn s7)).trans (speedDemand_dawn _)

end Sys2Proof.Machine
end

section
/-! PROOFS. Dawn, part 2: the image and the state store (R63 to R70, R465), and how a Dawn ends (R71 to R75, R431). -/

namespace Sys2Proof.Machine

variable {s t : State} {d : DawnIn}

/-! ## The records of an image (R64, R65) -/

/-- What a step keeps wherever it succeeds, a fold of the step keeps where it succeeds. -/
theorem foldOpt_keeps {α β : Type} {f : α → β → Option α} {P : α → Prop} (h : ∀ a x b, P a → f a x = some b → P b) :
    ∀ (l : List β) (a b : α), P a → foldOpt f a l = some b → P b
  | [], _, _, ha, he => Option.some.inj he ▸ ha
  | x :: l, a, b, ha, he => by
    obtain ⟨c, hc, hb⟩ := Option.bind_eq_some_iff.1 he
    exact foldOpt_keeps h l c b (h a x c ha hc) hb

theorem setWord_dawn (s : State) (a : Nat) (w : Word) : DawnKeeps s (s.setWord a w) := dawnKeeps_of rfl

theorem setWords_dawn (s : State) (a : Nat) (ws : List Word) : DawnKeeps s (s.setWords a ws) :=
  Keeps.foldl (fun t _ _ => setWord_dawn t _ _) s

theorem regEntry_dawn {a : Nat} {w : Word} (h : s.regEntry a w = some t) : DawnKeeps s t := by
  unfold State.regEntry at h
  split at h
  · exact absurd h (by simp)
  · extract_lets v sets u at h
    split at h
    · exact absurd h (by simp)
    · split at h
      · exact absurd h (by simp)
      · split at h
        · exact absurd h (by simp)
        · exact Option.some.inj h ▸ setWord_dawn s _ _

section
variable {b c : Build}

theorem pin_dawn {e : List Byte} (hs : DawnKeeps s b.s) (h : b.pin e = some c) : DawnKeeps s c.s := by
  unfold Build.pin at h
  extract_lets n at h
  split at h
  · exact absurd h (by simp)
  · obtain ⟨t, ht, rfl⟩ := Option.map_eq_some_iff.1 h
    exact hs.trans (regEntry_dawn ht)

theorem reg_dawn {e : List Byte} (hs : DawnKeeps s b.s) (h : b.reg e = some c) : DawnKeeps s c.s := by
  unfold Build.reg at h
  split at h
  · exact absurd h (by simp)
  · obtain ⟨t, ht, rfl⟩ := Option.map_eq_some_iff.1 h
    exact hs.trans (regEntry_dawn ht)

theorem span_dawn {e : List Byte} (hs : DawnKeeps s b.s) (h : b.span e = some c) : DawnKeeps s c.s := by
  unfold Build.span at h
  extract_lets par ch at h
  split at h
  · exact absurd h (by simp)
  · exact Option.some.inj h ▸ hs

theorem table_dawn {v : List Byte} (hs : DawnKeeps s b.s) (h : b.table v = some c) : DawnKeeps s c.s := by
  unfold Build.table at h
  extract_lets a ws at h
  split at h
  · exact absurd h (by simp)
  · exact Option.some.inj h ▸ hs.trans (setWords_dawn _ _ _)

/-- The entries of a record, one after another. -/
theorem recordEntries_dawn {f : Build → List Byte → Option Build} {v : List Byte}
    (hf : ∀ b e c, DawnKeeps s b.s → f b e = some c → DawnKeeps s c.s) (hs : DawnKeeps s b.s)
    (h : (entries8 v).bind (foldOpt f b) = some c) : DawnKeeps s c.s := by
  obtain ⟨es, -, he⟩ := Option.bind_eq_some_iff.1 h
  exact foldOpt_keeps hf es b c hs he

/-- A record writes registers and tables only. -/
theorem record_dawn (b : Build) (r : Nat × Nat × List Byte) (c : Build) (hs : DawnKeeps s b.s) (h : b.record r = some c) :
    DawnKeeps s c.s := by
  unfold Build.record at h
  split at h
  · exact recordEntries_dawn (fun _ _ _ => pin_dawn) hs h
  · exact recordEntries_dawn (fun _ _ _ => reg_dawn) hs h
  · exact recordEntries_dawn (fun _ _ _ => span_dawn) hs h
  · exact table_dawn hs h
  · exact Option.some.inj h ▸ hs
  · split at h
    · exact Option.some.inj h ▸ hs
    · exact absurd h (by simp)

end

/-! ## The image (R66 to R68, R465) -/

theorem conf_dawn (s : State) (conf : Sparse Word) (spans : Spans) : DawnKeeps s { s with conf := conf, spans := spans } :=
  dawnKeeps_of rfl

theorem layOut_dawn (s : State) : DawnKeeps s s.layOut := ((((wr_dawn s _ _).wr _ _ rfl).wr _ _ rfl).wr _ _ rfl).drawn

theorem intakes_dawn (s : State) : DawnKeeps s s.intakes :=
  Keeps.foldl (fun t _ _ => Keeps.ite (wr_dawn t _ _) (Keeps.refl t)) s

theorem applyImage_dawn {body : List Byte} (h : s.applyImage body = some t) : DawnKeeps s t := by
  unfold State.applyImage at h
  split at h
  · exact absurd h (by simp)
  · next rs _ =>
    obtain ⟨b, hb, ht⟩ := Option.bind_eq_some_iff.1 h
    have hs : DawnKeeps s b.s := foldOpt_keeps record_dawn rs { s := s } b (Keeps.refl s) hb
    extract_lets built spans x c m u at ht
    have hx : DawnKeeps s x := hs.trans (conf_dawn _ _ _)
    have hm : DawnKeeps x m := Keeps.foldl (fun t _ _ => setWord_dawn t _ _) x
    split at ht
    · exact absurd ht (by simp)
    · split at ht
      · exact absurd ht (by simp)
      · rw [← Option.some.inj ht]
        exact ((hx.trans hm).trans (layOut_dawn m)).trans (intakes_dawn _)

theorem applySlot_dawn {k : Nat} {e : Header × State} (h : s.applySlot k = some e) : DawnKeeps s e.2 := by
  simp only [State.applySlot, Option.bind_eq_some_iff, Option.map_eq_some_iff] at h
  obtain ⟨_, -, t, ⟨_, -, ht⟩, rfl⟩ := h
  exact applyImage_dawn ht

theorem tryImages_dawn {x : Applied} (h : s.tryImages = some x) : DawnKeeps s x.s := by
  obtain ⟨k, -, hk⟩ := Option.bind_eq_some_iff.1 h
  split at hk
  · next he => exact Option.some.inj hk ▸ applySlot_dawn he
  · obtain ⟨e, he, rfl⟩ := Option.map_eq_some_iff.1 hk
    exact applySlot_dawn he

theorem setSlot_dawn (s : State) (k gen : Nat) (ok : Bool) : DawnKeeps s (s.setSlot k gen ok) := by
  rw [setSlot_regs]
  exact dawnKeeps_of rfl

theorem onNvm_dawn (s : State) (f : Nvm → Nvm) : DawnKeeps s (s.onNvm f) := books_dawn s _ _ _ _ _

theorem showSlots_dawn (s b : State) (x : Applied) : DawnKeeps s (s.showSlots b x) := by
  unfold State.showSlots
  extract_lets other s1
  have h1 : DawnKeeps s s1 := setSlot_dawn s _ _ _
  split
  · exact ((h1.trans (setSlot_dawn s1 _ _ _)).wr _ _ rfl).trans (onNvm_dawn _ _)
  · exact (h1.trans (setSlot_dawn s1 _ _ _)).wr _ _ rfl

/-! ## The state store (R70) -/

theorem onDarn_dawn (s : State) (f : Darn → Darn) : DawnKeeps s (s.onDarn f) := (Keeps.refl s).update rfl rfl

theorem camRx_dawn (s : State) (l : Sparse Rx) : DawnKeeps s { s with camRx := l } := (Keeps.refl s).update rfl rfl

theorem keys_dawn (s : State) (l : Sparse (List Byte)) : DawnKeeps s { s with keys := l } := (Keeps.refl s).update rfl rfl

theorem restoreMend_dawn (s : State) (e : List Byte) : DawnKeeps s (s.restoreMend e) := by
  unfold State.restoreMend
  extract_lets w n
  exact Keeps.ite (Keeps.refl s) (onDarn_dawn s _)

theorem restoreGate_dawn (s : State) (e : List Byte) : DawnKeeps s (s.restoreGate e) := Keeps.ite (Keeps.refl s) (onGate_dawn s _ _)

theorem restoreGains_dawn (s : State) (v : List Byte) : DawnKeeps s (s.restoreGains v) :=
  Keeps.foldl (fun t _ _ => Keeps.ite (Keeps.refl t) (setWord_dawn t _ _)) s

theorem restoreReg_dawn (s : State) (b : Nat) (e : List Byte) : DawnKeeps s (s.restoreReg b e) := by
  unfold State.restoreReg
  extract_lets reg lat s1
  have h1 : DawnKeeps s s1 := Keeps.ite (wr_dawn s _ _) (Keeps.refl s)
  exact Keeps.ite (h1.wr _ _ rfl) h1

theorem restoreRemap_dawn (s : State) (c : Nat) (e : List Byte) : DawnKeeps s (s.restoreRemap c e) :=
  Keeps.ite (Keeps.refl s) (Keeps.ite (remap_dawn s _ _ _) (remapFull_dawn s _ _))

/-- A trim goes to a head lane or to a camera lane that has room for it. -/
theorem restoreTrim_dawn (s : State) (e : List Byte) : DawnKeeps s (s.restoreTrim e) :=
  Keeps.ite (Keeps.ite (Keeps.refl s) (onLane_dawn s _ _)) (Keeps.ite (Keeps.refl s) (camRx_dawn s _))

theorem restoreKey_dawn (s : State) (e : List Byte) : DawnKeeps s (s.restoreKey e) :=
  Keeps.ite (Keeps.refl s) ((keys_dawn s _).wr _ _ rfl)

theorem overlay_dawn (flags : Nat) (s : State) (r : Nat × Nat × List Byte) : DawnKeeps s (s.overlay flags r) := by
  unfold State.overlay
  extract_lets v
  split
  · exact Keeps.ite (Keeps.refl s) ((Keeps.foldl (fun t e _ => restoreMend_dawn t e) s).wr _ _ rfl)
  · exact Keeps.foldl (fun t e _ => restoreGate_dawn t e) s
  · exact Keeps.ite (Keeps.refl s) (restoreGains_dawn s v)
  · exact Keeps.ite (Keeps.refl s) (Keeps.foldl (fun t e _ => restoreReg_dawn t _ _) s)
  · exact (Keeps.foldl (fun t e _ => restoreRemap_dawn t 0 e) s).trans (Keeps.foldl (fun t e _ => restoreRemap_dawn t 2 e) _)
  · exact Keeps.foldl (fun t e _ => restoreTrim_dawn t e) s
  · exact Keeps.foldl (fun t e _ => restoreKey_dawn t e) s
  · exact Keeps.refl s

theorem restoreStore_dawn (s : State) (flags : Nat) : DawnKeeps s (s.restoreStore flags) := by
  unfold State.restoreStore
  split
  · exact wr_dawn s _ _
  · exact (((Keeps.foldl (fun t e _ => overlay_dawn flags t e) s).wr _ _ rfl).wr _ _ rfl).trans (onNvm_dawn _ _)

/-! ## The end of Dawn (R71, R73 to R75) -/

theorem timeResume_dawn (s : State) (us : Nat) (fresh : Bool) : DawnKeeps s (s.timeResume us fresh) :=
  timeResume_keeps (fun _ _ => rfl) dawn_plumb (fun _ _ => rfl) s us fresh

theorem keepErased_dawn (s : State) (slot : Nat) : DawnKeeps s (s.keepErased slot) :=
  Keeps.ite (Keeps.refl s) ((onNvm_dawn s _).lifeAdd _ _ _)

theorem onLeaf_dawn (s : State) (c : Nat) (f : Leaf → Leaf) : DawnKeeps s (s.onLeaf c f) := dawnKeeps_of rfl

theorem latchDawn_dawn (s : State) : DawnKeeps s s.latchDawn := Keeps.foldl (fun t _ _ => onLeaf_dawn t _ _) s

/-- A Dawn that ends in Day keeps what its steps keep. -/
theorem toService_dawn (b : State) (x : Applied) (s : State) (d : DawnIn) : DawnKeeps x.s (b.toService x s d) := by
  unfold State.toService
  extract_lets s1 s2 s3 s4 s5 s6 w s7 s8
  have h1 : DawnKeeps x.s s1 :=
    ((((wr_dawn x.s _ _).wr _ _ rfl).wr _ _ rfl).trans (showSlots_dawn _ b x)).trans (restoreStore_dawn _ _)
  have h2 : DawnKeeps s1 s2 := ((timeResume_dawn s1 _ _).trans (dawnSq_dawn _ _)).trans (dawnUnits_dawn _ _)
  have h3 : DawnKeeps s2 s3 := Keeps.foldl (fun t n _ => dawnLane_dawn d.lanes t n) s2
  have h4 : DawnKeeps s3 s4 := Keeps.foldl (fun t n _ => dawnShort_dawn t n) s3
  have h5 : DawnKeeps s4 s5 := (dawnBegin_dawn s4).wr _ _ rfl
  have h6 : DawnKeeps s5 s6 := ((Keeps.refl s5).raise dawn_plumb _ _ _).journalDue _
  have h7 : DawnKeeps s6 s7 := Keeps.ite ((Keeps.refl s6).raise dawn_plumb _ _ _) (Keeps.refl s6)
  have h8 : DawnKeeps s7 s8 := Keeps.ite ((Keeps.refl s7).raise dawn_plumb _ _ _) (Keeps.refl s7)
  have hday : DawnKeeps x.s s8 := (((((((h1.trans h2).trans h3).trans h4).trans h5).trans h6).trans h7).trans h8)
  exact (hday.trans (keepErased_dawn s8 _)).trans (latchDawn_dawn _)

/-- The maintenance state differs in its phase. -/
theorem toMaint_sansDawn (b : State) (why : Nat) :
    sansDawn (b.toMaint why).unnoticed = (sansDawn b.unnoticed).onPow (fun p => { p with phase := .maint }) := by
  have h : DawnKeeps b (((b.wr R.DAWN_CAUSE_MAINT 1).wr R.DAWN_CAUSE_MAINT_WHY why).wr R.NVM_SLOTS_OTHER_CHK 1) :=
    ((wr_dawn b _ _).wr _ _ rfl).wr _ _ rfl
  rw [← h.1]
  rfl

/-- A Dawn that no sensor trips ends in Day or in the maintenance state. -/
theorem dawn_sansDawn (s : State) (hcool : d.hotTrip = none) :
    ∃ phase, (phase = .day ∨ phase = .maint) ∧ sansDawn (s.dawn d).unnoticed = s.dawnLeaves phase := by
  unfold State.dawn
  rw [hcool]
  dsimp only
  generalize hb : ((s.dawnBase d).dawnEnc s).dawnBist d.bist = b
  have hbase : sansDawn b.unnoticed = s.dawnLeaves .day := by
    rw [← hb, ((dawnEnc_dawn _ s).trans (dawnBist_dawn _ d.bist)).1, dawnBase_sansDawn]
  have hmaint : ∀ why, sansDawn (b.toMaint why).unnoticed = s.dawnLeaves .maint := fun why => by
    rw [toMaint_sansDawn, hbase]
    rfl
  split
  · exact ⟨.maint, .inr rfl, hmaint 3⟩
  · split
    · exact ⟨.maint, .inr rfl, hmaint 2⟩
    · split
      · exact ⟨.maint, .inr rfl, hmaint 1⟩
      · next x hx => exact ⟨.day, .inl rfl, by rw [((tryImages_dawn hx).trans (toService_dawn b x s d)).1, hbase]⟩

/-! ## Dawn (R71, R431) -/

theorem same_of_sansDawn {phase : Phase} (h : sansDawn t.unnoticed = s.dawnLeaves phase) :
    t.pow = (s.dawnLeaves phase).pow ∧ t.hbm = [] ∧ t.flash = s.flash ∧ t.held = [] ∧ t.rejects = [] ∧ t.fwds = [] ∧
      t.time = s.time ∧ t.pending = s.pending ∧ t.jtag = s.jtag := by
  have hf : ∀ {α : Type} (g : State → α), g (sansDawn t.unnoticed) = g (s.dawnLeaves phase) := fun g => congrArg g h
  exact ⟨hf State.pow, hf State.hbm, hf State.flash, hf State.held, hf State.rejects, hf State.fwds, hf State.time, hf State.pending,
    hf State.jtag⟩

theorem exec_dawn {c : Instr} (hc : (c = .dawnStart d ∧ s.dawnMay = true) ∨ (c = .tripRestart d ∧ s.tripCool = true)) :
    exec c s = .next (s.dawn d).latch := by
  rcases hc with ⟨rfl, hmay⟩ | ⟨rfl, hcool⟩
  · show execDawnStart d s = _
    rw [execDawnStart, if_pos hmay, State.done]
  · show execTripRestart d s = _
    rw [execTripRestart, if_pos hcool, State.done]

theorem dawn_of_hotTrip {k : Fin 16} {x : BitVec 16} (h : d.hotTrip = some (k, x)) : s.dawn d = s.trip 1 k x.toInt := by
  unfold State.dawn
  rw [h]

/-- The power state of a module that its trip sensor has tripped. -/
theorem trip_pow (s : State) (k : Nat) (x : Int) :
    (s.trip 1 k x).pow = { s.stoppedPow .tripped 4 with
      cause := 4, tripKind := 1, tripSensor := k, tripTemp := x, tripNew := true, trips := min 255 (s.pow.trips + 1) } := by
  obtain ⟨-, hpow, -⟩ := same_of_sansFlash (coreStop_sansFlash s .tripped 4 false)
  unfold State.trip State.onPow
  simp only [Nat.reduceEqDiff, if_false, if_true, hpow]
  rfl

/-- Settles O9: every step of a Dawn keeps what `sansDawn` names, so it ends with what `dawnBase` left there; a hot sensor makes it a
trip. -/
theorem dawnCompletes : Obligations.DawnCompletes := by
  refine fun s d => ⟨fun c hc hcool => ?_, fun c k x hc hhot => ?_⟩
  · obtain ⟨phase, hphase, h⟩ := dawn_sansDawn s hcool
    rw [← latch_unnoticed] at h
    obtain ⟨hpow, hrest⟩ := same_of_sansDawn h
    refine ⟨(s.dawn d).latch, exec_dawn hc, ?_, ?_, hrest⟩
    · rw [hpow]
      exact hphase
    · rw [hpow]
      rfl
  · have hpow : (s.dawn d).latch.pow = (s.trip 1 k.val x.toInt).pow := by simp only [latch_frame, dawn_of_hotTrip hhot]
    refine ⟨(s.dawn d).latch, exec_dawn hc, ?_⟩
    rw [hpow, trip_pow]
    exact ⟨rfl, rfl, rfl, rfl, rfl, rfl⟩

/-- What a Dawn may find: no failure, no hot sensor, no head. -/
def coldDawn : DawnIn :=
  { vioMv := 3300, sizeLog2 := 26, addr4 := true, suspend := true, sckMhz := 50, bist := [], hotTrip := none, lanes := [], us := 900
    islandUs := 0 }

/-- A module whose core is off, with a byte of HBM and a byte of flash, and a trip not yet recorded. -/
def coreOffState : State :=
  { hbm := [(0, 0x11)], flash := [(0, 0x5A)], pow := { phase := .off, vio := true, cause := 4, tripNew := true, fresh := false } }

/-- It dawns, and HBM reads zero while the flash is as it was. -/
theorem dawnCompletes_start_witness :
    ∃ t, exec (.dawnStart coldDawn) coreOffState = .next t ∧ t.pow.tripNew = false ∧ t.hbm = [] ∧ t.flash = [(0, 0x5A)] := by
  obtain ⟨t, hrun, -, hpow, hhbm, hflash, -⟩ := (dawnCompletes coreOffState coldDawn).1 _ (.inl ⟨rfl, rfl⟩) rfl
  exact ⟨t, hrun, by rw [hpow], hhbm, hflash⟩

/-- A tripped module whose island is cool. -/
def trippedState : State := { coreOffState with pow := { coreOffState.pow with phase := .tripped, trips := 255 } }

/-- At its restart sensor 3 reads 110 °C: it trips again. -/
theorem dawnCompletes_trip_witness :
    ∃ t, exec (.tripRestart { coldDawn with hotTrip := some (3, 1760) }) trippedState = .next t ∧ t.pow.phase = .tripped ∧
      t.pow.tripSensor = 3 ∧ t.pow.tripTemp = 1760 := by
  obtain ⟨t, hrun, hphase, -, hsensor, htemp, -⟩ :=
    (dawnCompletes trippedState { coldDawn with hotTrip := some (3, 1760) }).2 _ 3 1760 (.inr ⟨rfl, rfl⟩) rfl
  exact ⟨t, hrun, hphase, hsensor, htemp⟩

end Sys2Proof.Machine
end

section
/-! PROOFS. Which management messages are not carried out (R89, R96), and what every step keeps of the leaves' latched bits (R112). -/

namespace Sys2Proof.Machine

variable {s t : State} {c : Instr} {m : Msg} {port : Nat}

/-! ## Before a message is looked at (R89) -/

/-- What becomes of a datagram that the module does not look at: `t` is the state it leaves, unheard or discarded. -/
def State.screens (s : State) (m : Msg) (port : Nat) (t : State) : Prop :=
  (s.hears m.np port = false → t = s) ∧
  (s.hears m.np port = true → s.discards m = true → t = (s.heard m).inc R.MGMT_DISCARD_COUNT)

theorem serveLater_screens {q : Request} {body : State → State × Option (Nat × List Byte)} (hq : q.port = port) :
    s.screens m port (s.serveLater m q body) := by
  subst hq
  refine ⟨fun hh => ?_, fun hh hd => ?_⟩
  · simp only [State.serveLater, hh, Bool.not_false, if_true]
  · have hd' : (s.inc (R.NP_RX_FRAMES_COUNT m.np)).discards m = true := (heard_discards s m m).trans hd
    simp only [State.serveLater, hh, hd', Bool.not_true, Bool.false_eq_true, if_false, if_true]
    rfl

theorem serve_screens {q : Request} {body : State → State × Nat × List Byte} (hq : q.port = port) :
    s.screens m port (s.serve m q body) := serveLater_screens hq

theorem serveQuiet_screens (s : State) (m : Msg) (type : Nat) (okLen : Bool) (body : State → State) :
    s.screens m 41002 (s.serveQuiet m type okLen body) := by
  refine ⟨fun hh => ?_, fun hh hd => ?_⟩
  · simp only [State.serveQuiet, hh, Bool.not_false, if_true]
  · have hd' : (s.inc (R.NP_RX_FRAMES_COUNT m.np)).discards m = true := (heard_discards s m m).trans hd
    simp only [State.serveQuiet, hh, hd', Bool.not_true, Bool.false_eq_true, if_false, if_true]
    rfl

theorem serveReport_screens (s : State) (m : Msg) (payload : List Byte) : s.screens m 41002 (s.serveReport m payload) := by
  unfold State.serveReport
  split
  · exact serveQuiet_screens ..
  · exact serve_screens rfl

theorem serveRead_screens (s : State) (m : Msg) (payload : List Byte) : s.screens m 41002 (s.serveRead m payload) := by
  unfold State.serveRead
  exact serveLater_screens rfl

theorem serveWritePayload_screens (s : State) (m : Msg) (payload : List Byte) :
    s.screens m 41002 (s.serveWritePayload m payload) := by
  unfold State.serveWritePayload
  exact serveLater_screens rfl

theorem servePut_screens (s : State) (m : Msg) (payload : List Byte) : s.screens m 41003 (s.servePut m payload) := by
  unfold State.servePut
  exact serve_screens rfl

theorem serveAbort_screens (s : State) (m : Msg) (payload : List Byte) : s.screens m 41002 (s.serveAbort m payload) := by
  unfold State.serveAbort
  exact serve_screens rfl

/-- A command that is a WRITE of registers serves that WRITE, and the leaves latch. -/
theorem exec_writeOf {addr : Nat} {ws : List Word} {ex : Extra} (h : writeOf c = some (m, addr, ws, ex)) (s : State) :
    exec c s = (s.serveWrite m addr ws ex).done := by
  cases c <;> cases h <;> rfl

/-- A management message is screened, and the leaves latch. -/
theorem exec_messageOf (h : messageOf c = some (m, port)) (s : State) : ∃ t, exec c s = t.done ∧ s.screens m port t := by
  cases hw : writeOf c with
  | some w =>
    simp only [messageOf, hw] at h
    cases h
    exact ⟨_, exec_writeOf hw s, serveLater_screens rfl⟩
  | none =>
    simp only [messageOf, hw] at h
    cases c <;> cases h
    case none.eventAck => exact ⟨_, rfl, serveQuiet_screens ..⟩
    case none.setReport => exact ⟨_, rfl, serveReport_screens ..⟩
    case none.read => exact ⟨_, rfl, serveRead_screens ..⟩
    case none.write => exact ⟨_, rfl, serveWritePayload_screens ..⟩
    case none.put | none.putPiece => exact ⟨_, rfl, servePut_screens ..⟩
    case none.subscribe | none.unsubscribe | none.nvmData | none.nvmCommit | none.nvmRead => exact ⟨_, rfl, serve_screens rfl⟩
    all_goals exact ⟨_, rfl, serveAbort_screens ..⟩

/-- Settles O21: a message is screened before anything else, and both outcomes of the screening stand in `State.screens`. -/
theorem discardedDatagrams : Obligations.DiscardedDatagrams := by
  refine ⟨fun s c m port hc hh hd => ?_, fun s c m port hc hh => ?_⟩
  · obtain ⟨t, ht, -, hdiscarded⟩ := exec_messageOf hc s
    rw [ht, hdiscarded hh hd, State.done]
  · obtain ⟨t, ht, hunheard, -⟩ := exec_messageOf hc s
    rw [ht, hunheard hh, State.done]

/-! ## A request whose reply is still held (R96) -/

/-- A request whose reply is held is answered with that reply, and counted. -/
theorem serveLater_repeat {q : Request} {h : Held} (body : State → State × Option (Nat × List Byte))
    (hhears : s.hears m.np q.port = true) (hdiscards : s.discards m = false) (hversion : m.version = 1) (hport : m.dst.toNat = q.port)
    (hforwarded : s.forwarded m = false) (hstored : q.stored = true)
    (hheld : s.fresh.find? (fun x => ofSource m.ip m.port x && x.seq == m.seq) = some h) :
    s.serveLater m q body = ((s.heard m).sendReply m h.type h.status h.payload).inc R.MGMT_DUP_COUNT := by
  have hdiscards' : (s.inc (R.NP_RX_FRAMES_COUNT m.np)).discards m = false := (heard_discards s m m).trans hdiscards
  have hforwarded' : (s.inc (R.NP_RX_FRAMES_COUNT m.np)).forwarded m = false := hforwarded
  have hheld' : (s.inc (R.NP_RX_FRAMES_COUNT m.np)).fresh.find? (fun x => ofSource m.ip m.port x && x.seq == m.seq) = some h := hheld
  simp only [State.serveLater, hhears, hdiscards', hversion, hport, hforwarded', hstored, hheld', Bool.not_true, Bool.false_eq_true, ne_eq,
    not_true_eq_false, if_false, if_true]
  rfl

/-- A message heard and replied to moves no word but the counts of received and sent frames. -/
theorem heard_sendReply_word (s : State) (m : Msg) (type status : Nat) (payload : List Byte) (a : Nat) (hrx : a ≠ R.NP_RX_FRAMES m.np)
    (htx : a ≠ R.NP_TX_FRAMES m.np) : ((s.heard m).sendReply m type status payload).word a = s.word a :=
  (word_inc_ne ((s.heard m).emit _) _ a htx).trans (heard_word s m a hrx)

/-- Settles O22: the WRITE is served up to the reply store, where `serveLater_repeat` ends it. -/
theorem repeatedRequests : Obligations.RepeatedRequests := by
  intro s c m addr ws ex h hc hhears hdiscards hversion hport hforwarded hheld
  refine ⟨(((s.heard m).sendReply m h.type h.status h.payload).inc R.MGMT_DUP_COUNT).latch, ?_, ?_, ?_, ?_, fun a ha => ?_⟩
  · rw [exec_writeOf hc, State.serveWrite, serveLater_repeat _ hhears hdiscards hversion hport hforwarded rfl hheld, State.done]
  · simp only [latch_frame]
    rfl
  · have hcount : ((s.heard m).sendReply m h.type h.status h.payload).rd R.MGMT_DUP_COUNT = s.rd R.MGMT_DUP_COUNT :=
      rd_congr _ _ _ (heard_sendReply_word s m _ _ _ R.MGMT_DUP (by simp only [R.MGMT_DUP, R.NP_RX_FRAMES]; omega)
        (by simp only [R.MGMT_DUP, R.NP_TX_FRAMES]; omega))
    simp only [latch_frame]
    rw [State.inc, State.add, rd_wr_same _ _ _ rfl, hcount]
  · simp only [latch_frame]
    exact latch_eq_leaves _
  · simp only [List.mem_cons, List.not_mem_nil, or_false, not_or] at ha
    obtain ⟨hrx, htx, hdup⟩ := ha
    simp only [latch_frame]
    exact (word_inc_ne _ _ a hdup).trans (heard_sendReply_word s m _ _ _ a hrx htx)

/-! ## How a command ends (R112) -/

/-- The state less the queue and what a command of the JTAG port may change without a latch: the port, what leaves, the draws and HBM.
No leaf shows any of that. -/
def State.sansJtag (s : State) : State := { s with pending := [], jtag := {}, out := [], free := 0, hbm := [] }

theorem sansJtag_latched (s : State) : s.sansJtag.latched = s.latched := rfl

/-- What the leaves show and hold does not change with the parts that `sansJtag` leaves out. -/
theorem latched_of_sansJtag (h : t.sansJtag = s.sansJtag) (hs : s.latched) : t.latched := by
  rw [← sansJtag_latched] at hs ⊢
  rwa [h]

theorem jtagMem_sansJtag (s : State) (dr : Nat) : (s.jtagMem dr).sansJtag = s.sansJtag := by
  unfold State.jtagMem
  extract_lets a s1 inHbm s2
  split
  · show State.sansJtag (if inHbm then _ else _) = _
    split <;> rfl
  · rfl

/-- How the arms of `exec` end: the leaves latch, nothing that a leaf shows changes, or the operands are ill-formed. -/
inductive Ends (s : State) : Outcome → Prop
  | done (t : State) : Ends s t.done
  | same (t : State) (h : t.sansJtag = s.sansJtag) : Ends s (.next t)
  | fault (r : Fault) : Ends s (.fault r)

namespace Ends

theorem still (s : State) : Ends s (.next s) := .same s rfl

theorem branch {p : Prop} [Decidable p] {a b : Outcome} (ha : Ends s a) (hb : Ends s b) : Ends s (if p then a else b) := by
  split
  · exact ha
  · exact hb

/-- A command whose conditions do not hold changes nothing. -/
theorem guarded {p : Prop} [Decidable p] {t : State} : Ends s (if p then t.done else .next s) := branch (done t) (still s)

/-- An ending keeps the leaves latched. -/
theorem latched {o : Outcome} (h : Ends s o) (hs : s.latched) (ho : o = .next t) : t.latched := by
  cases h with
  | done u =>
    cases ho
    exact latch_latched u
  | same u hu =>
    cases ho
    exact latched_of_sansJtag hu hs
  | fault r => cases ho

end Ends

open Ends

/-! ### The commands that ask for something that may not be there -/

theorem untriedSlotCheck_ends (s : State) : Ends s (execUntriedSlotCheck s) := by
  unfold execUntriedSlotCheck
  split
  · exact still s
  · exact branch (still s) (done _)

theorem nightWake_ends (src : WakeSrc) (islandUs : Nat) (motion : Int) (restoreFail : Bool) (s : State) :
    Ends s (execNightWake src islandUs motion restoreFail s) := by
  unfold execNightWake
  split
  · exact guarded
  · exact branch (still s) (branch (done _) (done _))
  · exact still s

theorem indexMissing_ends (enc : Fin 2) (s : State) : Ends s (execIndexMissing enc s) := by
  unfold execIndexMissing
  split
  · exact still s
  · exact done _

theorem linesyncOut_ends (s : State) : Ends s (execLinesyncOut s) := by
  unfold execLinesyncOut
  split
  · exact still s
  · exact branch (still s) (done _)

theorem formPoint_ends (bar : Fin 16) (evs : List MemEv) (checks : BitVec 2) (s : State) : Ends s (execFormPoint bar evs checks s) := by
  unfold execFormPoint
  split
  · exact still s
  · exact done _

theorem markerDepart_ends (lane bar : Fin 16) (count : Nat) (ord : Fin 32) (lag : Bool) (s : State) :
    Ends s (execMarkerDepart lane bar count ord lag s) := by
  unfold execMarkerDepart
  split
  · exact still s
  · exact done _

theorem lateMarker_ends (lane bar : Fin 16) (count : Nat) (ord : Fin 32) (late : Nat) (s : State) :
    Ends s (execLateMarker lane bar count ord late s) := by
  unfold execLateMarker
  split
  · exact branch (still s) (done _)
  · exact still s

theorem lineBlanked_ends (bar : Fin 16) (count : Nat) (lane : Fin 16) (s : State) : Ends s (execLineBlanked bar count lane s) := by
  unfold execLineBlanked
  split
  · exact still s
  · exact guarded

theorem renderStart_ends (piece : Word) (evs : List MemEv) (s : State) : Ends s (execRenderStart piece evs s) := by
  unfold execRenderStart
  split
  · exact still s
  · exact guarded

theorem gateWindowEnd_ends (gate : Fin 4) (v : GateSamples) (s : State) : Ends s (execGateWindowEnd gate v s) := by
  unfold execGateWindowEnd
  split
  · exact fault _
  · split
    · exact still s
    · exact done _

theorem replay_ends (lane : Fin 16) (ra rb : Word) (s : State) : Ends s (execReplay lane ra rb s) := by
  unfold execReplay
  split
  · exact still s
  · exact branch (still s) (branch (done _) (done _))

theorem ceAge_ends (cls : Fin 3) (entry : Fin 16) (s : State) : Ends s (execCeAge cls entry s) := by
  unfold execCeAge
  split
  · exact still s
  · exact guarded

theorem retrainPause_ends (formingDone : Bool) (ticksToForm : Nat) (s : State) : Ends s (execRetrainPause formingDone ticksToForm s) := by
  unfold execRetrainPause
  split
  · exact still s
  · exact branch (still s) (branch (done _) (done _))

theorem backstopTrip_ends (sensor : Fin 16) (reading : Int) (spiBits : Fin 8) (s : State) :
    Ends s (execBackstopTrip sensor reading spiBits s) := by
  unfold execBackstopTrip
  split
  · exact still s
  · exact still s
  · exact still s
  · exact guarded

/-! ### Every command -/

/-- A command that is no message latches where its conditions hold, but those of the JTAG port, which leave the leaves alone. -/
theorem exec_ends_of_no_message (hc : messageOf c = none) (s : State) : Ends s (exec c s) := by
  cases c <;> cases hc
  case untriedSlotCheck => exact untriedSlotCheck_ends s
  case nightWake => exact nightWake_ends ..
  case indexMissing => exact indexMissing_ends ..
  case linesyncOut => exact linesyncOut_ends s
  case formPoint => exact formPoint_ends ..
  case markerDepart => exact markerDepart_ends ..
  case lateMarker => exact lateMarker_ends ..
  case lineBlanked => exact lineBlanked_ends ..
  case renderStart => exact renderStart_ends ..
  case gateWindowEnd => exact gateWindowEnd_ends ..
  case replay => exact replay_ends ..
  case ceAge => exact ceAge_ends ..
  case retrainPause => exact retrainPause_ends ..
  case backstopTrip => exact backstopTrip_ends ..
  case coreShutdown | sync | delayResp | pdelayReq | pdelayResp | delayReq | announce => exact done _
  case vauxLost | linesyncIn | reject | dipEnd | vioReturn | scrubRead | trimStep => exact branch (still s) (done _)
  case vioLost | icmpEcho | laneCrcCompare | slice | refresh | actLimit | supplyStop | park | recoveryCycle =>
    exact branch (still s) (branch (done _) (done _))
  case encoderEdge => exact branch (done _) (branch (still s) (done _))
  case trainingSetRx => exact branch (still s) (branch (done _) (branch (done _) guarded))
  case statusRx | thermalSample => exact branch (fault _) (branch (still s) (done _))
  case echoBurst => exact branch (fault _) (branch (still s) (branch (done _) (done _)))
  case gateTrim => exact branch (fault _) guarded
  case idcode | samplePreload | clamp | highz | tstatus | bypass => exact branch (same _ rfl) (still s)
  case extest | scan => exact branch (still s) (branch (same _ rfl) (same _ rfl))
  case memacc => exact branch (still s) (branch (same _ (jtagMem_sansJtag s _)) (same _ rfl))
  all_goals exact guarded

theorem exec_ends (c : Instr) (s : State) : Ends s (exec c s) := by
  cases hc : messageOf c with
  | some w =>
    obtain ⟨t, ht, -⟩ := exec_messageOf hc s
    rw [ht]
    exact done t
  | none => exact exec_ends_of_no_message hc s

/-- Settles O5: a tick latches, and however the command at the front of the queue ends, it keeps the leaves latched. -/
theorem stepKeepsLatched : Obligations.StepKeepsLatched := by
  intro s t hs hstep
  unfold step at hstep
  split at hstep
  · cases hstep
    exact latch_latched _
  · next c cs hp =>
    have hpopped : State.latched { s with pending := cs } := latched_of_sansJtag (s := s) rfl hs
    exact (exec_ends c { s with pending := cs }).latched hpopped hstep

/-! ## Messages and states that meet the hypotheses -/

/-- A request with a wrong magic number. -/
def strayMsg : Msg := { requestMsg 8 with magic := 0 }

/-- In Day the module counts it and does nothing else. -/
theorem discardedDatagrams_heard_witness :
    exec (.read strayMsg [0, 0, 0, 0, 1, 0, 0, 0]) dayState = .next ((dayState.heard strayMsg).inc R.MGMT_DISCARD_COUNT).latch :=
  discardedDatagrams.1 dayState _ strayMsg 41002 rfl (by decide) (by decide)

/-- With the core off the module hears no PUT. -/
theorem discardedDatagrams_unheard_witness : exec (.put (requestMsg 9) [0]) State.reset = .next State.reset.latch :=
  discardedDatagrams.2 State.reset _ (requestMsg 9) 41003 rfl (by decide)

/-- A module in Day that holds the reply of a WRITE of its host: refused at its first word. -/
def heldState : State := { dayState with held := [⟨0xC0A80001, 50000, 7, 2, Status.refusedValue, leBytes 4 0, 0⟩] }

/-- The same WRITE once more gets the same reply. -/
theorem repeatedRequests_witness :
    ∃ t, exec (.ctrlSet (requestMsg 12) 0 1) heldState = .next t ∧
      t.out = heldState.out ++ [replyOf (requestMsg 12) 2 Status.refusedValue (leBytes 4 0)] := by
  obtain ⟨t, hrun, hout, -⟩ := repeatedRequests heldState (.ctrlSet (requestMsg 12) 0 1) (requestMsg 12) _ _ _ _ rfl (by decide)
    (by decide) rfl rfl rfl rfl
  exact ⟨t, hrun, hout⟩

/-- A module in Day with one leaf, whose lane is down and which prints nothing: both bits are latched. A line of it has been blanked, and
the 1 ms snapshot is due. -/
def blankedState : State :=
  { dayState with
    pending := [.spanSnapshot], conf := [(R.CH_CFG 0, 1)]
    spans := { nodes := [⟨1, none, some 0, 0⟩], leaves := [(0, { blanked := true, sticky := 0x104 })] } }

theorem blankedState_latched : blankedState.latched := by
  unfold State.latched
  decide

/-- The snapshot shows the leaf LATE, and latches the bit. -/
theorem stepKeepsLatched_witness :
    ∃ t, step blankedState = .next t ∧ t.latched ∧ t.leafNow 0 = 0x184 ∧ (t.leaf 0).sticky = 0x184 := by
  have hrun : step blankedState = .next (State.snapshotSpans { blankedState with pending := [] }).latch := by
    show execSpanSnapshot { blankedState with pending := [] } = _
    rw [execSpanSnapshot, if_pos (by decide), State.done]
  exact ⟨_, hrun, stepKeepsLatched _ _ blankedState_latched hrun, by decide, by decide⟩

end Sys2Proof.Machine
end

section
/-! PROOFS. Admission: how the piece queue, the completion log and the frame follow an ADMISSION_CHECK (R128 to R132, R139). -/

namespace Sys2Proof.Machine

variable {s t : State}

/-! ## The frame of the piece queue -/

/-- What a piece's admission or completion may change beside what is noticed: the queue and what hangs on its pieces, the rinse windows,
the lanes, the phase, and when the module was last at work. -/
def sansQueue (u : State) : State :=
  { u with
    pow := { u.pow with lastBusy := 0, phase := .off }, pieces := [], ended := [], rejects := [], ring := [], rinses := []
    lanes := [], evid := [], verify := [] }

/-- A frame of what happens to a piece; every word may change. -/
abbrev QueueKeeps := Keeps sansQueue (fun _ => true)

theorem queueKeeps_of (h : sansQueue t.unnoticed = sansQueue s.unnoticed) : QueueKeeps s t := ⟨h, fun _ ha => absurd ha (by simp)⟩

theorem eq_of_sansQueue (h : sansQueue t.unnoticed = sansQueue s.unnoticed) :
    t = { s.noticed t with
      pow := { s.pow with lastBusy := t.pow.lastBusy, phase := t.pow.phase }, pieces := t.pieces, ended := t.ended
      rejects := t.rejects, ring := t.ring, rinses := t.rinses, lanes := t.lanes, evid := t.evid, verify := t.verify } :=
  calc
    t = { (sansQueue t.unnoticed).noticed t with
      pow := { (sansQueue t.unnoticed).pow with lastBusy := t.pow.lastBusy, phase := t.pow.phase }, pieces := t.pieces
      ended := t.ended, rejects := t.rejects, ring := t.ring, rinses := t.rinses, lanes := t.lanes, evid := t.evid
      verify := t.verify } := rfl
    _ = { (sansQueue s.unnoticed).noticed t with
      pow := { (sansQueue s.unnoticed).pow with lastBusy := t.pow.lastBusy, phase := t.pow.phase }, pieces := t.pieces
      ended := t.ended, rejects := t.rejects, ring := t.ring, rinses := t.rinses, lanes := t.lanes, evid := t.evid
      verify := t.verify } := by rw [h]
    _ = _ := rfl

theorem pieces_of_unnoticed {u : State} (h : t.unnoticed = u.unnoticed) : t.pieces = u.pieces := (congrArg State.pieces h :)

theorem ended_of_unnoticed {u : State} (h : t.unnoticed = u.unnoticed) : t.ended = u.ended := (congrArg State.ended h :)

/-! ## What only writes registers and counts -/

@[simp] theorem wr_unnoticed (s : State) (f : Field) (v : Nat) : (s.wr f v).unnoticed = s.unnoticed := rfl

@[simp] theorem wrB_unnoticed (s : State) (f : Field) (b : Bool) : (s.wrB f b).unnoticed = s.unnoticed := rfl

@[simp] theorem inc_unnoticed (s : State) (f : Field) : (s.inc f).unnoticed = s.unnoticed := rfl

@[simp] theorem lifeAdd_unnoticed (s : State) (off width n : Nat) : (s.lifeAdd off width n).unnoticed = s.unnoticed := rfl

theorem setWords_unnoticed (s : State) (a : Nat) (ws : List Word) : (s.setWords a ws).unnoticed = s.unnoticed := by
  unfold State.setWords
  exact foldl_keeps State.unnoticed (fun t (e : Word × Nat) => t.setWord (a + 4 * e.2) e.1) (fun _ _ => rfl) _ s

theorem countRecord_unnoticed (s : State) (p : Piece) (f : Fate) : (s.countRecord p f).unnoticed = s.unnoticed := by
  unfold State.countRecord
  extract_lets s1
  have h1 : s1.unnoticed = s.unnoticed := by
    show (if p.recordFlags f % 2 = 1 then s.lifeAdd 0x04C 4 1 else s).unnoticed = _
    split <;> rfl
  cases f <;> exact (lifeAdd_unnoticed _ _ _ _).trans h1

theorem freeBands_unnoticed (s : State) (bs : List BandRun) : (s.freeBands bs).unnoticed = s.unnoticed := by
  unfold State.freeBands
  refine foldl_keeps State.unnoticed _ (fun t b => ?_) bs s
  split <;> rfl

theorem setOwner_unnoticed (s : State) (b : BandRun) : (s.setOwner b).unnoticed = s.unnoticed := by
  unfold State.setOwner
  split
  · rfl
  · simp only [wr_unnoticed, wrB_unnoticed]

theorem loads_unnoticed (s : State) : s.loads.unnoticed = s.unnoticed := by
  unfold State.loads
  extract_lets seq dx hbm t
  refine (foldl_keeps State.unnoticed _ (fun u e => ?_) _ t).trans (by simp only [t, wr_unnoticed])
  dsimp only
  split
  · simp only [wr_unnoticed]
  · split <;> simp only [wr_unnoticed]

theorem raise_unnoticed (s : State) (e : Event) (source arg : Nat) : (s.raise e source arg).unnoticed = s.unnoticed :=
  unnoticed_of_quiet (raise_quiet _ _ _ _) (by simp) (by simp)

theorem busy_unnoticed (s : State) : s.busy.unnoticed = s.unnoticed.busy := rfl

theorem poolFree_unnoticed (s : State) : s.poolFree.unnoticed = s.unnoticed := rfl

/-! ## Completion (R127, R139) -/

/-- The completion log after a record of a piece: what is older than 4096 records has left it. -/
def State.logged (s : State) (p : Piece) : List Ended :=
  (s.ended.filter (fun e => decide (s.rd R.PQ_LOG_COUNT_COUNT < e.index + 4096))) ++ [⟨p.num, s.rd R.PQ_LOG_COUNT_COUNT, p.desc⟩]

/-- A piece that is complete has left the queue, its record ends the log, and nothing beside the queue changes. -/
theorem complete_spec (s : State) (p : Piece) (f : Fate) :
    (s.complete p f).pieces = s.pieces.filter (fun q => q.num != p.num) ∧ (s.complete p f).ended = s.logged p ∧
      QueueKeeps s (s.complete p f) := by
  unfold State.complete
  extract_lets k s1 s2 s3 bad s4
  have h1 : s1.unnoticed = s.unnoticed := by rw [inc_unnoticed, State.setBytes, setWords_unnoticed]
  have h2 : s2.unnoticed = s.unnoticed := ((freeBands_unnoticed _ _).trans (countRecord_unnoticed _ _ _)).trans h1
  have h3 : s3.unnoticed = s.unnoticed := by
    refine Eq.trans ?_ h2
    show (p.compare.elim s2 s2.freeCompare).unnoticed = _
    cases p.compare <;> rfl
  clear_value s3
  have h : (s4.loads.poolFree.busy.raise f.event p.num f.reason).unnoticed = s4.busy.unnoticed := by
    rw [raise_unnoticed, busy_unnoticed, poolFree_unnoticed, loads_unnoticed, busy_unnoticed]
  refine ⟨?_, ?_, queueKeeps_of ?_⟩
  · rw [pieces_of_unnoticed h, ← pieces_of_unnoticed h3]
    rfl
  · rw [ended_of_unnoticed h, State.logged, ← ended_of_unnoticed h3]
    rfl
  · rw [h, ← h3]
    rfl

/-- No piece of the number is left, and its record is the last of the log. -/
theorem refusePiece_spec (s : State) (p : Piece) (reason detail : Nat) :
    (s.refusePiece p reason detail).piece p.num = none ∧
      (s.refusePiece p reason detail).ended.getLast? = some ⟨p.num, s.rd R.PQ_LOG_COUNT_COUNT, p.desc⟩ ∧
      QueueKeeps s (s.refusePiece p reason detail) := by
  unfold State.refusePiece
  obtain ⟨hpieces, hended, hkeeps⟩ := complete_spec (((s.wr R.PQ_REFUSED_REASON reason).wr R.PQ_REFUSED_DETAIL detail).wr
    R.PQ_REFUSED_PIECE_PIECE p.num) p (.refused reason)
  refine ⟨?_, ?_, ((((Keeps.refl s).wr _ _ rfl).wr _ _ rfl).wr _ _ rfl).trans hkeeps⟩
  · rw [State.piece, hpieces, List.find?_eq_none]
    intro q hq
    simpa using (List.mem_filter.1 hq).2
  · rw [hended, State.logged, List.getLast?_append_of_ne_nil _ (by simp), List.getLast?_singleton, rd_wr_word _ _ _ _ (by decide),
      rd_wr_word _ _ _ _ (by decide), rd_wr_word _ _ _ _ (by decide)]

/-! ## Admission of pieces that hold their reservations (R120, R131) -/

/-- The piece at a stage and with a start. -/
def Piece.standing (q : Piece) (stage : Stage) (start : Option Nat) : Piece := { q with stage := stage, start := start }

/-- Placing pieces gives a piece of the queue a start and leaves the rest of it. -/
theorem placeFrom_find (s : State) (num : Nat) (q : Piece) (l done : List Piece) (h : l.find? (fun p => p.num == num) = some q) :
    ∃ start, (placeFrom s done l).find? (fun p => p.num == num) = some (q.standing q.stage start) := by
  induction l generalizing done with
  | nil => exact absurd h (by simp)
  | cons p l ih =>
    unfold placeFrom
    extract_lets p1
    obtain ⟨start, hp1⟩ : ∃ start, p1 = p.standing p.stage start := by
      by_cases hc : p.stage = .admitted ∧ p.start = none ∧ p.startRule ≠ 1
      · exact ⟨_, if_pos hc⟩
      · exact ⟨p.start, if_neg hc⟩
    have hnum : p1.num = p.num := by rw [hp1]; rfl
    rw [List.find?_cons] at h ⊢
    rw [hnum]
    split at h
    · cases h
      exact ⟨start, congrArg some hp1⟩
    · exact ih _ h

theorem piece_congr (h : t.pieces = s.pieces) (num : Nat) : t.piece num = s.piece num := by rw [State.piece, h, State.piece]

theorem placePieces_piece {num : Nat} {q : Piece} (h : s.piece num = some q) :
    ∃ start, s.placePieces.piece num = some (q.standing q.stage start) := placeFrom_find s num q s.pieces [] h

/-- A map over the queue that keeps descriptors keeps where a number stands. -/
theorem find_map_of_desc (f : Piece → Piece) (hf : ∀ q, (f q).desc = q.desc) (l : List Piece) (num : Nat) :
    (l.map f).find? (fun p => p.num == num) = (l.find? (fun p => p.num == num)).map f := by
  have hnum : ∀ q, (f q).num = q.num := fun q => by rw [Piece.num, hf, Piece.num]
  simp only [List.find?_map, Function.comp_def, hnum]

theorem onPiece_piece (s : State) (num : Nat) (f : Piece → Piece) (hf : ∀ q, (f q).desc = q.desc) {q : Piece}
    (h : s.piece num = some q) : (s.onPiece num f).piece num = some (f q) := by
  have hnum : q.num = num := by simpa using List.find?_some h
  refine (find_map_of_desc (fun p => if p.num = num then f p else p) (fun p => ?_) s.pieces num).trans ?_
  · split
    · exact hf p
    · rfl
  · rw [show s.pieces.find? (fun p => p.num == num) = some q from h, Option.map_some, if_pos hnum]

/-- The park or idle window of a bar ends when one of some pieces names the bar (R286). -/
def State.endWindow (ps : List Piece) (s : State) (b : Nat) : State :=
  if ps.any (fun p => bit p.barMask b) ∧ ((s.rinse b).window ≠ 0 ∨ (s.rinse b).parkFrom.isSome) then s.closeWindow b else s

theorem endWindow_pieces (ps : List Piece) (s : State) (b : Nat) : (s.endWindow ps b).pieces = s.pieces := by
  unfold State.endWindow
  split <;> rfl

theorem endWindow_queue (ps : List Piece) (s : State) (b : Nat) : QueueKeeps s (State.endWindow ps s b) :=
  .ite (queueKeeps_of rfl) (.refl s)

theorem toDay_pieces (s : State) : s.toDay.pieces = s.pieces := by rw [toDay_eq]

theorem toDay_queue (s : State) : QueueKeeps s s.toDay := queueKeeps_of (by rw [toDay_eq]; rfl)

/-- The windows of the bars that some pieces name end. -/
def State.endWindows (s : State) (ps : List Piece) : State := (List.range 16).foldl (State.endWindow ps) s

/-- The pieces of some numbers as admitted. -/
def State.admitted (s : State) (nums : List Nat) : State :=
  { s with pieces := s.pieces.map (fun (p : Piece) => if nums.contains p.num then { p with stage := .admitted } else p) }

theorem admitAs_eq (s : State) (nums : List Nat) :
    s.admitAs nums = ((s.admitted nums).endWindows (s.pieces.filter (fun p => nums.contains p.num))).placePieces.toDay := rfl

theorem admitAs_queue (s : State) (nums : List Nat) : QueueKeeps s (s.admitAs nums) := by
  have h : QueueKeeps s (s.admitted nums) := queueKeeps_of rfl
  have hplace : ∀ t : State, QueueKeeps t t.placePieces := fun _ => queueKeeps_of rfl
  rw [admitAs_eq]
  exact ((h.trans (.foldl (fun t b _ => endWindow_queue _ t b) _)).trans (hplace _)).trans (toDay_queue _)

theorem admitted_piece (s : State) (nums : List Nat) {num : Nat} {q : Piece} (h : s.piece num = some q) :
    (s.admitted nums).piece num = some (q.standing (if nums.contains q.num then .admitted else q.stage) q.start) := by
  refine (find_map_of_desc _ (fun p => ?_) s.pieces num).trans ((congrArg (Option.map _) h).trans ?_)
  · split <;> rfl
  · rw [Option.map_some]
    split <;> rfl

/-- Admission gives a piece a stage and a start and leaves the rest of it; no piece goes back to waiting. -/
theorem admitAs_piece (s : State) (nums : List Nat) {num : Nat} {q : Piece} (h : s.piece num = some q) (hq : q.stage ≠ .queued) :
    ∃ stage start, (s.admitAs nums).piece num = some (q.standing stage start) ∧ stage ≠ .queued := by
  have hwindows : ((s.admitted nums).endWindows (s.pieces.filter (fun p => nums.contains p.num))).piece num = _ :=
    (piece_congr (foldl_keeps State.pieces _ (endWindow_pieces _) _ _) num).trans (admitted_piece s nums h)
  obtain ⟨start, hstart⟩ := placePieces_piece hwindows
  refine ⟨_, start, (piece_congr (toDay_pieces _) num).trans hstart, ?_⟩
  show (if nums.contains q.num then Stage.admitted else q.stage) ≠ .queued
  split
  · exact Stage.noConfusion
  · exact hq

theorem admitReady_queue (s : State) : QueueKeeps s s.admitReady := .ite (.refl s) (admitAs_queue s _)

theorem admitReady_piece (s : State) {num : Nat} {q : Piece} (h : s.piece num = some q) (hq : q.stage ≠ .queued) :
    ∃ stage start, s.admitReady.piece num = some (q.standing stage start) ∧ stage ≠ .queued := by
  unfold State.admitReady
  extract_lets ready ns
  split
  · exact ⟨q.stage, q.start, h, hq⟩
  · exact admitAs_piece s ns h hq

/-! ## Reservation (R121, R131, R162) -/

theorem endRepeats_queue (s : State) (p : Piece) : QueueKeeps s (s.endRepeats p) := queueKeeps_of rfl

/-- The end of repeats ahead changes no descriptor. -/
theorem endRepeats_piece (s : State) (p : Piece) {num : Nat} {q : Piece} (h : s.piece num = some q) :
    ∃ r, (s.endRepeats p).piece num = some r ∧ r.desc = q.desc := by
  unfold State.endRepeats
  extract_lets ahead
  refine ⟨_, (find_map_of_desc _ (fun p => ?_) s.pieces num).trans (congrArg (Option.map _) h), ?_⟩
  · split <;> rfl
  · dsimp only
    split <;> rfl

/-- The piece with its reservations, its channels and its numbered streams. -/
def Piece.reserved (cs : List (Nat × Nat)) (c : Costs) (bands : List BandRun) (q : Piece) : Piece :=
  { q with
    stage := .reserved, chans := cs, bands := bands, seqCost := c.seq, rootCost := c.root, laneCost := c.lanes
    hbmCost := c.hbm, poolCost := c.pool }

/-- The piece as reserved, with the registers that follow. -/
def State.reserved (s : State) (num : Nat) (cs : List (Nat × Nat)) (c : Costs) (bands : List BandRun) : State :=
  (bands.foldl (fun (t : State) b => t.setOwner b) (s.onPiece num (.reserved cs c bands))).loads.poolFree.busy

theorem reserve_eq (s : State) (p : Piece) (cs : List (Nat × Nat)) (c : Costs) (bands : List BandRun) :
    s.reserve p cs c bands =
      if (s.pieces.all (fun q => q.num == p.num || q.stage == .queued || !q.shares p)) || (s.tg p.refTg).gapOpen then
        (s.reserved p.num cs c bands).admitReady
      else (s.reserved p.num cs c bands).admitAs [p.num] := rfl

theorem reserved_unnoticed (s : State) (num : Nat) (cs : List (Nat × Nat)) (c : Costs) (bands : List BandRun) :
    (s.reserved num cs c bands).unnoticed = (s.onPiece num (.reserved cs c bands)).busy.unnoticed := by
  rw [State.reserved, busy_unnoticed, poolFree_unnoticed, loads_unnoticed, foldl_keeps State.unnoticed _ setOwner_unnoticed,
    busy_unnoticed]

theorem reserve_queue (s : State) (p : Piece) (cs : List (Nat × Nat)) (c : Costs) (bands : List BandRun) :
    QueueKeeps s (s.reserve p cs c bands) := by
  have h : QueueKeeps s (s.reserved p.num cs c bands) := queueKeeps_of (by rw [reserved_unnoticed]; rfl)
  rw [reserve_eq]
  exact .ite (h.trans (admitReady_queue _)) (h.trans (admitAs_queue _ _))

/-- A piece for which reservations are taken waits no longer, and has its channel map and its numbered streams. -/
theorem reserve_piece (s : State) (p : Piece) (cs : List (Nat × Nat)) (c : Costs) (bands : List BandRun) {q : Piece}
    (h : s.piece p.num = some q) :
    ((s.reserve p cs c bands).piece p.num).any
      (fun r => r.stage != .queued && r.desc == q.desc && r.chans == cs && r.bands == bands) = true := by
  have hres : (s.reserved p.num cs c bands).piece p.num = some (q.reserved cs c bands) := by
    rw [State.piece, pieces_of_unnoticed (reserved_unnoticed s p.num cs c bands)]
    exact onPiece_piece s p.num (.reserved cs c bands) (fun _ => rfl) h
  obtain ⟨stage, start, hpiece, hstage⟩ : ∃ stage start, (s.reserve p cs c bands).piece p.num =
      some ((q.reserved cs c bands).standing stage start) ∧ stage ≠ .queued := by
    rw [reserve_eq]
    split
    · exact admitReady_piece _ hres Stage.noConfusion
    · exact admitAs_piece _ _ hres Stage.noConfusion
  rw [hpiece]
  simp [Piece.standing, Piece.reserved, hstage]

/-! ## The check (R128 to R132) -/

/-- A piece that is admitted, or that waits for its streams, stays as it is. -/
theorem admission_of_not_due {num : Nat} {p : Piece} (h : s.piece num = some p)
    (hdue : p.stage = .admitted ∨ (p.stage = .queued ∧ ∃ i < p.bandCount, s.complete_ (s.bandEntry p i).1 (s.bandEntry p i).2.1 = false)) :
    s.admission num = s := by
  have hskip : p.stage ≠ .reserved ∧
      (p.stage ≠ .queued ∨ (!((List.range p.bandCount).map (s.bandEntry p)).all (fun e => s.complete_ e.1 e.2.1)) = true) := by
    obtain hadmitted | ⟨hqueued, i, hi, hmissing⟩ := hdue
    · simp [hadmitted]
    · refine ⟨by simp [hqueued], .inr ?_⟩
      simp only [List.all_map, Bool.not_eq_true', List.all_eq_false, List.mem_range]
      exact ⟨i, hi, by simp [hmissing]⟩
  simp only [State.admission, h, if_neg hskip.1, if_pos hskip.2]

/-- What becomes of a piece in its turn: its configuration, its channels, its cost, the pool, and the numbers for its streams decide, in
that order. -/
def State.judged (s : State) (p : Piece) (cs : List (Nat × Nat)) : State :=
  if !s.configOk p cs then s.refusePiece p 3 0
  else if !s.mayAdmit cs then s
  else if (s.costs p cs).detail ≠ 0 then s.refusePiece p 1 (s.costs p cs).detail
  else if 4096 * s.rd R.REPEAT_FREE_SIZE < (s.costs p cs).pool then s
  else (s.number (s.costs p cs).bands).elim s (s.reserve p cs (s.costs p cs))

theorem endRepeats_chanMap (s : State) (p : Piece) : (s.endRepeats p).chanMap p = s.chanMap p := rfl

/-- A piece whose streams are all there and good is judged in its turn, once the repeats ahead are ended. -/
theorem admission_of_due {num : Nat} {p : Piece} (hp : s.piece num = some p) (hstage : p.stage = .queued)
    (hstreams : ∀ i < p.bandCount, s.complete_ (s.bandEntry p i).1 (s.bandEntry p i).2.1 = true) (hgood : s.badStream p = none)
    (hpaused : s.admitPaused = false) (hturn : (s.endRepeats p).behind p = false) :
    s.admission num = (s.endRepeats p).judged p (s.chanMap p) := by
  have hall : ((List.range p.bandCount).map (s.bandEntry p)).all (fun e => s.complete_ e.1 e.2.1) = true := by
    simpa using hstreams
  have hwait : ¬(p.stage ≠ .queued ∨ (!((List.range p.bandCount).map (s.bandEntry p)).all (fun e => s.complete_ e.1 e.2.1)) = true) := by
    simp [hstage, hall]
  have hreserved : p.stage ≠ .reserved := by simp [hstage]
  have hgo : ¬(s.admitPaused = true ∨ (s.endRepeats p).behind p = true) := by simp [hpaused, hturn]
  simp only [State.admission, hp, if_neg hreserved, if_neg hwait, hgood, if_neg hgo, endRepeats_chanMap, State.judged]
  cases (s.endRepeats p).number ((s.endRepeats p).costs p (s.chanMap p)).bands <;> rfl

theorem judged_reserves {p : Piece} {cs : List (Nat × Nat)} {bands : List BandRun} (hconfig : s.configOk p cs = true)
    (hmay : s.mayAdmit cs = true) (hcost : (s.costs p cs).detail = 0) (hpool : (s.costs p cs).pool ≤ 4096 * s.rd R.REPEAT_FREE_SIZE)
    (hbands : s.number (s.costs p cs).bands = some bands) : s.judged p cs = s.reserve p cs (s.costs p cs) bands := by
  simp [State.judged, hconfig, hmay, hcost, hbands, Nat.not_lt.2 hpool]

theorem judged_refuses {p : Piece} {cs : List (Nat × Nat)}
    (h : s.configOk p cs = false ∨ (s.mayAdmit cs = true ∧ (s.costs p cs).detail ≠ 0)) :
    ∃ reason detail, s.judged p cs = s.refusePiece p reason detail := by
  by_cases hconfig : s.configOk p cs = true
  · obtain hmisfit | ⟨hmay, hcost⟩ := h
    · simp [hconfig] at hmisfit
    · exact ⟨1, _, by simp only [State.judged, hconfig, hmay, if_pos hcost]; rfl⟩
  · exact ⟨3, 0, by simp [State.judged, hconfig]⟩

theorem latch_piece (s : State) (num : Nat) : s.latch.piece num = s.piece num := piece_congr (by simp only [latch_frame]) num

theorem exec_admissionCheck (num : Word) (h : s.awake = true) :
    exec (.admissionCheck num) s = .next (s.admission num.toNat).latch := by
  show execAdmissionCheck num s = _
  rw [execAdmissionCheck, if_pos h, State.done]

/-- The state after a check, as far as the frame goes. -/
theorem admission_frame {u : State} (h : QueueKeeps s u) :
    u.latch = { s.noticed u.latch with
      pow := { s.pow with lastBusy := u.latch.pow.lastBusy, phase := u.latch.pow.phase }, pieces := u.latch.pieces
      ended := u.latch.ended, rejects := u.latch.rejects, ring := u.latch.ring, rinses := u.latch.rinses, lanes := u.latch.lanes
      evid := u.latch.evid, verify := u.latch.verify } :=
  eq_of_sansQueue (by rw [latch_unnoticed]; exact h.1)

/-- Settles O34: a piece in its turn is judged; a reservation keeps its descriptor and gives it channels and bands, a refusal takes it
out of the queue and into the log, and both change nothing beside the queue, its windows and lanes, and the time of work. -/
theorem admissions : Obligations.Admissions := by
  refine ⟨fun s num p hawake hp hstage hstreams hgood hpaused hturn => ?_, fun s num p hawake hp hdue => ?_⟩
  · have hnum : p.num = num.toNat := by simpa using List.find?_some hp
    have hrun := exec_admissionCheck num hawake
    rw [admission_of_due hp hstage hstreams hgood hpaused hturn] at hrun
    refine ⟨fun bands hconfig hmay hcost hpool hbands => ?_, fun hrefused => ?_⟩
    · rw [judged_reserves hconfig hmay hcost hpool hbands] at hrun
      refine ⟨_, hrun, ?_, admission_frame ((endRepeats_queue s p).trans (reserve_queue _ _ _ _ _))⟩
      obtain ⟨q, hq, hdesc⟩ := endRepeats_piece s p hp
      rw [← hdesc, ← hnum, latch_piece]
      exact reserve_piece _ p _ _ bands (hnum ▸ hq)
    · obtain ⟨reason, detail, hjudged⟩ := judged_refuses hrefused
      obtain ⟨hgone, hlogged, hkeeps⟩ := refusePiece_spec (s.endRepeats p) p reason detail
      rw [hjudged] at hrun
      refine ⟨_, hrun, ?_, ?_, admission_frame ((endRepeats_queue s p).trans hkeeps)⟩
      · rw [latch_piece, ← hnum, hgone]
      · simp only [latch_frame]
        rw [hlogged, hnum]
        rfl
  · rw [exec_admissionCheck num hawake, admission_of_not_due hp hdue]

/-! ## States that meet the hypotheses -/

/-- Bytes just written to HBM read back. -/
theorem hbmRead_hbmWrite_same (s : State) (a : Nat) (bs : List Byte) : (s.hbmWrite a bs).hbmRead a bs.length = bs := by
  refine List.ext_getElem (by simp [State.hbmRead, Sparse.range]) fun i h1 h2 => ?_
  simp only [State.hbmRead, Sparse.range, List.getElem_map, List.getElem_range, Sparse.get]
  rw [find_filter (fun k => decide (a ≤ k ∧ k < a + bs.length)), if_pos (by simpa using h2)]
  exact find_splice_in 0 s.hbm a i bs h2

/-- A descriptor: piece 1, one line in bar 0, one band-table entry at 0, the channel map at 0x400. -/
def oneLineDesc : List Byte :=
  let body : List Byte := leBytes 2 0x4B50 ++ leBytes 2 1 ++ leBytes 4 1 ++ leBytes 4 1 ++ leBytes 4 0 ++ leBytes 4 1 ++
    List.replicate 20 0 ++ leBytes 2 1 ++ List.replicate 14 0 ++ leBytes 8 0x400 ++ List.replicate 188 0
  body ++ leBytes 4 (crc32 body)

/-- A channel map in which channel 0 alone prints, entry 0. -/
def oneChannelMap : List Byte := [0, 0] ++ List.replicate 1022 0xFF

/-- HBM but for the channel map: at 0 the band-table entry, at 0x1000 a container of one line of 64 pixels in one segment of 8 bytes. -/
def oneLineHbm : Sparse Byte :=
  [(1, 0x10), (8, 80), (12, 64), (0x1000, 0x42), (0x1001, 0x4B), (0x1002, 1), (0x1004, 64), (0x1006, 8), (0x1008, 1), (0x100C, 1),
    (0x103C, 0xC0), (0x103D, 0x40), (0x103E, 0xDF), (0x103F, 0xF3), (0x1040, 1), (0x1044, 8)]

/-- A configuration with channel 0 in bar 0, whose ring holds lines of 1 KiB. -/
def oneChannelConf : Sparse Word := [(R.CH_CFG 0, 1), (R.BAR_RING 0, 0x10008)]

/-- A module in Day with a configuration, lane 0 ACTIVE, a queued piece, and window 0, of which some is written, on its container. -/
def queuedState (conf : Sparse Word) (written : Written) : State :=
  State.hbmWrite { dayState with
    regs := [(R.WIN_BASE 0, 1), (R.WIN_SIZE 0, 1), (R.WIN_CFG 0, 1), (R.HL_STATE 0, 5)]
    conf := conf, windows := [(0, written)], pieces := [{ desc := oneLineDesc }], hbm := oneLineHbm } 0x400 oneChannelMap

theorem oneChannelMap_length : oneChannelMap.length = 1024 := by
  rw [oneChannelMap, List.length_append, List.length_replicate]
  rfl

theorem oneChannelMap_entry {c : Nat} (h : c < 511) : le oneChannelMap (2 * (c + 1)) 2 = 0xFFFF := by
  have hdrop : oneChannelMap.drop (2 * (c + 1)) = List.replicate (1022 - 2 * c) 0xFF := by
    rw [Nat.mul_succ, Nat.add_comm, ← List.drop_drop]
    exact List.drop_replicate
  rw [le, hdrop, List.take_replicate, Nat.min_eq_left (by omega)]
  rfl

theorem oneChannelMap_used :
    ((List.range 512).map (fun c => (c, le oneChannelMap (2 * c) 2))).filter (fun e => e.2 != 0xFFFF) = [(0, 0)] := by
  rw [List.range_succ_eq_map, List.map_cons, List.filter_cons_of_pos (by decide), List.map_map]
  refine congrArg₂ List.cons rfl (List.filter_eq_nil_iff.2 fun e he => ?_)
  obtain ⟨c, hc, rfl⟩ := List.mem_map.1 he
  simp [oneChannelMap_entry (List.mem_range.1 hc)]

theorem queuedState_chanMap (conf : Sparse Word) (written : Written) :
    (queuedState conf written).chanMap { desc := oneLineDesc } = [(0, 0)] := by
  have hread : (queuedState conf written).hbmRead (le oneLineDesc 0x38 8) 1024 = oneChannelMap := by
    rw [queuedState, show le oneLineDesc 0x38 8 = 0x400 by decide +kernel]
    exact (congrArg (State.hbmRead _ 0x400) oneChannelMap_length.symm).trans (hbmRead_hbmWrite_same _ 0x400 oneChannelMap)
  rw [State.chanMap, hread]
  exact oneChannelMap_used

theorem queuedState_piece (conf : Sparse Word) (written : Written) :
    (queuedState conf written).piece 1 = some { desc := oneLineDesc } := List.find?_cons_of_pos (by decide +kernel)

/-- The stream that the piece gets: number 0, engine 0, bank 0. -/
def queuedBands : List BandRun :=
  [{ entry := 0, addr := 0x1000, len := 80, width := 64, lines := 1, bars := [0], hold := 0, cost := 28800000, live := true }]

/-- The piece fits. -/
theorem admissions_fits_witness :
    ∃ t, exec (.admissionCheck 1) (queuedState oneChannelConf [(0x1000, 0x2000)]) = .next t ∧ (t.piece 1).any (fun q =>
      q.stage != .queued && q.desc == oneLineDesc && q.chans == [(0, 0)] && q.bands == queuedBands) = true := by
  have h := (admissions.1 (queuedState oneChannelConf [(0x1000, 0x2000)]) 1 { desc := oneLineDesc } rfl (queuedState_piece _ _) rfl
    (by decide +kernel) (by decide +kernel) (by decide +kernel) (by decide +kernel)).1 queuedBands
  rw [queuedState_chanMap] at h
  obtain ⟨t, hrun, hpiece, -⟩ := h (by decide +kernel) (by decide +kernel) (by decide +kernel) (by decide +kernel) (by decide +kernel)
  exact ⟨t, hrun, hpiece⟩

/-- With channel 0 no longer configured, the piece is refused and logged. -/
theorem admissions_refused_witness :
    ∃ t, exec (.admissionCheck 1) (queuedState [] [(0x1000, 0x2000)]) = .next t ∧ t.piece 1 = none ∧
      t.ended.getLast? = some ⟨1, 0, oneLineDesc⟩ := by
  have h := (admissions.1 (queuedState [] [(0x1000, 0x2000)]) 1 { desc := oneLineDesc } rfl (queuedState_piece _ _) rfl (by decide +kernel)
    (by decide +kernel) (by decide +kernel) (by decide +kernel)).2
  rw [queuedState_chanMap] at h
  obtain ⟨t, hrun, hgone, hlogged, -⟩ := h (.inl (by decide +kernel))
  exact ⟨t, hrun, hgone, hlogged⟩

/-- While nothing of its container has come in, it stays as it is. -/
theorem admissions_waits_witness :
    exec (.admissionCheck 1) (queuedState oneChannelConf []) = .next (queuedState oneChannelConf []).latch :=
  admissions.2 (queuedState oneChannelConf []) 1 { desc := oneLineDesc } rfl (queuedState_piece _ _)
    (.inr ⟨rfl, 0, by decide, by decide +kernel⟩)

end Sys2Proof.Machine
end

section
/-! PROOFS. COMPRESS_JOB: what the end of a compressor's job writes and shows, and how an engine waits for a buffer (R167 to R172). -/

namespace Sys2Proof.Machine

variable {s t u : State} {n a k : Nat} {c : Crop} {cs : List Crop}

/-! ## The frame of a compressor -/

/-- What a compressor's job may change beside what is noticed: HBM, the compressors, and what evidence says of marked buffers. -/
def sansCx (u : State) : State := { u with hbm := [], cx := [], evd := [] }

/-- A frame of what a compressor does, in which the words listed may change. -/
abbrev CxKeeps (ws : List Nat) := Keeps sansCx (fun a => decide (a ∈ ws))

/-- The words that the end of a job writes. -/
def jobWords (n : Nat) : List Nat :=
  [R.CX_STATUS n, R.CX_CUR_LO n, R.CX_CUR_HI n, R.CX_JOB n, R.CX_JOB_CRC n, R.CX_IN_KIB n, R.CX_OUT_KIB n] ++ eventWords

/-- The words that a wait for a buffer writes. -/
def stallWords (n : Nat) : List Nat := [R.CX_STATUS n, R.CX_STALLS n] ++ eventWords

/-- `s` with what COMPRESS_JOB may change taken from `t`. -/
def State.noticedCx (s t : State) : State :=
  { s.noticed t with
    hbm := t.hbm, pow := { s.pow with lastBusy := t.pow.lastBusy }, pieces := t.pieces, ended := t.ended
    rejects := t.rejects, tgs := t.tgs, ring := t.ring, cx := t.cx
    stop := { s.stop with active := t.stop.active, faults := t.stop.faults }
    mem := { s.mem with
      bad := t.mem.bad, ces := t.mem.ces, hbmMap := t.mem.hbmMap, sramMap := t.mem.sramMap, waiting := t.mem.waiting }
    evd := t.evd, evid := t.evid, verify := t.verify }

theorem eq_noticedCx_of_sansCx (h : sansCx t.unnoticed = sansCx s.unnoticed) : t = s.noticedCx t :=
  calc
    t = (sansCx t.unnoticed).noticedCx t := rfl
    _ = (sansCx s.unnoticed).noticedCx t := by rw [h]
    _ = _ := rfl

/-- A frame holds across the latch at the end of the command. -/
theorem CxKeeps.latch {ws : List Nat} (h : CxKeeps ws s u) : u.latch = s.noticedCx u.latch ∧ SameWords s u.latch ws :=
  ⟨eq_noticedCx_of_sansCx (by rw [latch_unnoticed]; exact h.1),
    fun a ha => (word_congr _ _ a (by simp)).trans (h.2 a (decide_eq_false ha))⟩

/-- More words may change. -/
theorem CxKeeps.weaken {ws vs : List Nat} (h : CxKeeps ws s t) (hsub : ws ⊆ vs) : CxKeeps vs s t :=
  h.mono (fun _ => rfl) fun _ ha => decide_eq_false fun hw => of_decide_eq_false ha (hsub hw)

theorem onCx_keeps {ws : List Nat} (s : State) (n : Nat) (f : Cx → Cx) : CxKeeps ws s (s.onCx n f) := (Keeps.refl s).update rfl rfl

theorem hbmWrite_keeps {ws : List Nat} (s : State) (a : Nat) (bs : List Byte) : CxKeeps ws s (s.hbmWrite a bs) :=
  (Keeps.refl s).update rfl rfl

/-- Where only registers of compressors may change, the evidence destination stays. -/
theorem CxKeeps.evdIp {ws : List Nat} (h : CxKeeps ws s t) (hws : ∀ a ∈ ws, 0xE3000 ≤ a) : t.rd R.EVD_IP_IP = s.rd R.EVD_IP_IP :=
  h.rd _ (decide_eq_false fun hm => absurd (hws _ hm) (by decide))

theorem plumbWord_mem_eventWords (h : plumbWord a = true) : a ∈ eventWords := by
  simpa [plumbWord, eventWords, or_assoc] using h

/-- No compressor's register is written by raising an event. -/
theorem plumbWord_cx (h : 0xE3000 ≤ a) : plumbWord a = false := by
  refine Bool.eq_false_iff.2 fun hp => ?_
  have := plumbWord_mem_eventWords hp
  simp only [eventWords, R.FAULT_LATCH, R.EVT_LOST, R.NP_TX_FRAMES, R.NP_TX_DROP, List.mem_cons, List.not_mem_nil, or_false] at this
  omega

/-! ## One compressor -/

@[simp] theorem wr_cxu (s : State) (f : Field) (v n : Nat) : (s.wr f v).cxu n = s.cxu n := rfl

@[simp] theorem cxu_onCx (s : State) (n : Nat) (f : Cx → Cx) : (s.onCx n f).cxu n = f (s.cxu n) := get_upd_same _ _ _ _

theorem cxu_congr (h : t.cx = s.cx) : t.cxu n = s.cxu n := by rw [State.cxu, h, State.cxu]

theorem cxNext_onCx (s : State) (n : Nat) (f : Cx → Cx) (h : (f (s.cxu n)).last = (s.cxu n).last) : (s.onCx n f).cxNext n = s.cxNext n := by
  unfold State.cxNext
  rw [cxu_onCx, h]
  rfl

theorem latch_hbm (s : State) : s.latch.hbm = s.hbm := by simp only [latch_frame]

theorem latch_rd (s : State) (f : Field) : s.latch.rd f = s.rd f := by simp only [latch_frame]

theorem latch_cxu (s : State) (n : Nat) : s.latch.cxu n = s.cxu n := cxu_congr (by simp only [latch_frame])

/-! ## Waiting for a buffer (R171) -/

/-- An engine that was not waiting waits, counts a stall, and shows what it waits for. -/
theorem outWait_spec {w : Nat} (hwait : (s.cxu n).wait = 0) (hw : w = 1 ∨ w = 2) :
    (s.outWait n w).hbm = s.hbm ∧ (s.outWait n w).rd (R.CX_STATUS_STATE n) = 2 ∧
      (s.outWait n w).rd (R.CX_STATUS_BAD_DESC n) = w - 1 ∧
      (s.outWait n w).rd (R.CX_STALLS_COUNT n) = (s.rd (R.CX_STALLS_COUNT n) + 1) % 2 ^ 32 ∧
      ((s.outWait n w).cxu n).cur = (s.cxu n).cur ∧ ((s.outWait n w).cxu n).crops = (s.cxu n).crops ∧
      CxKeeps (stallWords n) s (s.outWait n w) := by
  have hne : (s.cxu n).wait ≠ w := by omega
  have hbad : b2n (w == 2) % 2 = w - 1 := by rcases hw with rfl | rfl <;> rfl
  unfold State.outWait
  extract_lets was s1
  rw [if_neg hne, if_pos hwait]
  have hrd : ∀ f : Field, 0xE3000 ≤ f.addr → ((s1.inc (R.CX_STALLS_COUNT n)).raise Ev.CX_STALL n (w - 1)).rd f =
      (s1.inc (R.CX_STALLS_COUNT n)).rd f := fun f hf => raise_rd _ _ _ _ f (plumbWord_cx hf)
  have hcx : ((s1.inc (R.CX_STALLS_COUNT n)).raise Ev.CX_STALL n (w - 1)).cxu n = s1.cxu n := cxu_congr (by simp)
  have hon : s1.cxu n = { s.cxu n with wait := w } := cxu_onCx s n fun c => { c with wait := w }
  rw [hrd _ (Nat.le_add_right_of_le (by decide)), hrd _ (Nat.le_add_right_of_le (by decide)),
    hrd _ (Nat.le_add_right_of_le (by decide)), hcx]
  refine ⟨by simp [s1], ?_, ?_, ?_, (congrArg Cx.cur hon :), (congrArg Cx.crops hon :), ?_⟩
  · simp [s1, State.inc, State.add, State.wrB, rd_wr_same, rd_wr_apart, Field.fits, Field.apart]
  · simp [s1, State.inc, State.add, State.wrB, rd_wr_same, rd_wr_apart, Field.fits, Field.apart, hbad]
  · simp [s1, State.inc, State.add, State.wrB, rd_wr_same, rd_wr_apart, Field.fits, Field.apart]
  · exact ((((onCx_keeps s n _).wr _ _ (by simp [stallWords])).wr _ _ (by simp [stallWords])).wr _ _ (by simp [stallWords])).raise
      (fun a ha => by simp [stallWords, plumbWord_mem_eventWords ha]) _ _ _

/-! ## A buffer is marked (R169, R170) -/

/-- HBM with a buffer marked: data, then USED and JOB, then STATUS. -/
def State.filled (s : State) (n a status : Nat) (bs : List Byte) : State :=
  ((s.hbmWrite (le (s.hbmRead a 32) 8 8) bs).hbmWrite (a + 0x10)
    (leBytes 4 bs.length ++ leBytes 4 (s.rd (R.CX_JOB_JOB n) + 1))).hbmWrite (a + 3) (leBytes 1 status)

theorem filled_hbm_congr {status : Nat} {bs : List Byte} (hhbm : t.hbm = s.hbm) (hjob : t.rd (R.CX_JOB_JOB n) = s.rd (R.CX_JOB_JOB n)) :
    (t.filled n a status bs).hbm = (s.filled n a status bs).hbm := by
  simp only [State.filled, State.hbmWrite, State.hbmRead, hhbm, hjob]

@[simp] theorem filled_cxu (s : State) (n k a status : Nat) (bs : List Byte) : (s.filled n a status bs).cxu k = s.cxu k := rfl

theorem filled_keeps {ws : List Nat} (s : State) (n a status : Nat) (bs : List Byte) : CxKeeps ws s (s.filled n a status bs) :=
  ((hbmWrite_keeps _ _ _).trans (hbmWrite_keeps _ _ _)).trans (hbmWrite_keeps _ _ _)

/-- Where evidence has no destination, a marked buffer is noted and nothing is sent. -/
theorem evidence_of_no_destination {ws : List Nat} (h : s.rd R.EVD_IP_IP = 0) (e : Evd) :
    (s.evidence e).hbm = s.hbm ∧ (s.evidence e).cx = s.cx ∧ CxKeeps ws s (s.evidence e) := by
  have heq : s.evidence e = { s with evd := e :: s.evd.filter (fun x => x.addr != e.addr) } := if_pos h
  rw [heq]
  exact ⟨rfl, rfl, (Keeps.refl s).update rfl rfl⟩

/-- A buffer is marked and its bytes are counted; its evidence is still to come. -/
def State.counted (s : State) (n a status : Nat) (bs : List Byte) : State :=
  ((s.filled n a status bs).onCx n (fun x => { x with
    off := x.off + bs.length, outBytes := (s.cxu n).outBytes + bs.length, buf := none })).wr (R.CX_OUT_KIB_COUNT n)
    (((s.cxu n).outBytes + bs.length) / 1024)

theorem markBuf_eq (s : State) (n a status : Nat) (c : Crop) (bs : List Byte) :
    ∃ e, s.markBuf n a status c bs = (s.counted n a status bs).evidence e := ⟨_, rfl⟩

theorem counted_spec (s : State) (n a status : Nat) (bs : List Byte) :
    (s.counted n a status bs).hbm = (s.filled n a status bs).hbm ∧
      ((s.counted n a status bs).cxu n).crops = (s.cxu n).crops ∧ CxKeeps [R.CX_OUT_KIB n] s (s.counted n a status bs) :=
  ⟨rfl, by simp [State.counted], ((filled_keeps s n a status bs).trans (onCx_keeps _ _ _)).wr _ _ (by simp)⟩

/-- With no evidence destination, marking a buffer writes it to HBM and keeps the crops that wait. -/
theorem markBuf_spec {status : Nat} {bs : List Byte} (hevd : s.rd R.EVD_IP_IP = 0) :
    (s.markBuf n a status c bs).hbm = (s.filled n a status bs).hbm ∧
      ((s.markBuf n a status c bs).cxu n).crops = (s.cxu n).crops ∧ CxKeeps [R.CX_OUT_KIB n] s (s.markBuf n a status c bs) := by
  obtain ⟨e, he⟩ := markBuf_eq s n a status c bs
  obtain ⟨hhbm, hcrops, hkeeps⟩ := counted_spec s n a status bs
  have hno : (s.counted n a status bs).rd R.EVD_IP_IP = 0 := (hkeeps.evdIp (by simp [R.CX_OUT_KIB, Nat.le_add_right_of_le])).trans hevd
  obtain ⟨hhbm', hcx, hkeeps'⟩ := evidence_of_no_destination hno e
  rw [he, hhbm', cxu_congr hcx]
  exact ⟨hhbm, hcrops, hkeeps.trans hkeeps'⟩

/-! ## A descriptor in use, and the end of a job (R169, R172) -/

/-- The descriptor at `a` is in use. -/
theorem cxUse_spec (s : State) (n a : Nat) :
    (s.cxUse n a).hbm = s.hbm ∧ (s.cxUse n a).cxu n = { s.cxu n with last := some a, wait := 0 } ∧
      CxKeeps [R.CX_STATUS n, R.CX_CUR_LO n, R.CX_CUR_HI n] s (s.cxUse n a) := by
  unfold State.cxUse
  exact ⟨by simp, by simp, ((((onCx_keeps s n _).wr _ _ (by simp)).wr _ _ (by simp)).wr _ _ (by simp)).wr _ _ (by simp)⟩

/-- Nothing of the job is left, and the registers show its end, its number and the CRC-32 of its input. -/
theorem cxEnd_spec (s : State) (n : Nat) (c : Crop) :
    (s.cxEnd n c false).hbm = s.hbm ∧ (s.cxEnd n c false).cxu n =
        { s.cxu n with cur := none, left := [], off := 0, buf := none, wait := 0, inBytes := (s.cxu n).inBytes + c.data.length } ∧
      ((s.cxEnd n c false).rd (R.CX_STATUS_STATE n) = 0 ∧ (s.cxEnd n c false).rd (R.CX_STATUS_DONE n) = 1 ∧
        (s.cxEnd n c false).rd (R.CX_STATUS_ABORTED n) = 0 ∧
        (s.cxEnd n c false).rd (R.CX_JOB_JOB n) = (s.rd (R.CX_JOB_JOB n) + 1) % 2 ^ 32 ∧
        (s.cxEnd n c false).rd (R.CX_JOB_CRC_CRC n) = crc32 c.data % 2 ^ 32) ∧
      CxKeeps [R.CX_STATUS n, R.CX_JOB n, R.CX_JOB_CRC n, R.CX_IN_KIB n] s (s.cxEnd n c false) := by
  unfold State.cxEnd State.inc State.add State.wrB
  refine ⟨by simp, by simp, by simp [rd_wr_same, rd_wr_apart, Field.fits, Field.apart, b2n], ?_⟩
  exact ((((((((onCx_keeps s n _).wr _ _ (by simp)).wr _ _ (by simp)).wr _ _ (by simp)).wr _ _ (by simp)).wr _ _ (by simp)).wr _ _
    (by simp)).wr _ _ (by simp)).wr _ _ (by simp)

/-! ## A crop is taken up, and its stream is written (R167, R170, R171) -/

/-- A compressor has taken up a crop and holds the stream that it has to write. -/
def State.loaded (s : State) (n : Nat) (c : Crop) (cs : List Crop) (out : List Byte) : State :=
  (s.onCx n (fun x => { x with crops := cs, cur := some c })).onCx n (fun x => { x with left := if x.left.isEmpty then out else x.left })

theorem loaded_cxu (hleft : (s.cxu n).left = []) (out : List Byte) :
    (s.loaded n c cs out).cxu n = { s.cxu n with crops := cs, cur := some c, left := out } := by
  simp [State.loaded, hleft]

theorem loaded_cxNext (s : State) (n : Nat) (c : Crop) (cs : List Crop) (out : List Byte) :
    (s.loaded n c cs out).cxNext n = s.cxNext n :=
  (cxNext_onCx _ n _ rfl).trans (cxNext_onCx s n _ rfl)

theorem loaded_keeps {ws : List Nat} (s : State) (n : Nat) (c : Crop) (cs : List Crop) (out : List Byte) :
    CxKeeps ws s (s.loaded n c cs out) :=
  (onCx_keeps s n _).trans (onCx_keeps _ n _)

theorem compress_of_waiting_crop (hwait : (s.cxu n).wait = 0) (henable : s.rd (R.CX_CFG_ENABLE n) = 1) (hcur : (s.cxu n).cur = none)
    (hcrops : (s.cxu n).crops = c :: cs) {out : List Byte} (hout : out = compressedStream (s.cxSettings n c) c.data) :
    s.compress n [] = State.cxFill n c false (out.length / 256 + 2) (s.loaded n c cs out) := by
  have htaken : s.compress n [] = (s.onCx n (fun x => { x with crops := cs, cur := some c })).cxFinish n c false := by
    simp [State.compress, State.memErrors, badOf, State.flag, hwait, henable, hcur, hcrops]
  rw [htaken, hout]
  rfl

/-- What is left has filled the buffer at `a`, and the job has ended. -/
def State.jobEnded (s : State) (n a : Nat) (c : Crop) : State :=
  ((s.cxUse n a).markBuf n a (if c.cut then 3 else 2) c (s.cxu n).left).cxEnd n c false

theorem cxFill_of_fits (hbuf : (s.cxu n).buf = none) (hnext : s.cxNext n = some a) (hgood : s.cxGood a = true)
    (hfits : (s.cxu n).left.length ≤ le (s.hbmRead (a + 4) 4) 0 4) : State.cxFill n c false (k + 1) s = s.jobEnded n a c := by
  have hfits' : (s.cxu n).left.length ≤ le ((s.cxUse n a).hbmRead (a + 4) 4) 0 4 := hfits
  simp [State.cxFill, State.jobEnded, hbuf, hnext, hgood, hfits']

/-- No buffer is left, or the next descriptor is bad: the engine waits. -/
theorem cxFill_of_no_buffer (hbuf : (s.cxu n).buf = none) (hnext : s.cxNext n = none ∨ ∃ a, s.cxNext n = some a ∧ s.cxGood a = false) :
    State.cxFill n c false (k + 1) s = s.outWait n (if s.cxNext n = none then 1 else 2) := by
  obtain hnext | ⟨a, hnext, hbad⟩ := hnext
  · simp [State.cxFill, hbuf, hnext]
  · simp [State.cxFill, hbuf, hnext, hbad]

theorem exec_compressJob (n : Fin 4) (evs : List MemEv) (h : s.awake = true) :
    exec (.compressJob n evs) s = .next (s.compress n evs).latch := by
  show execCompressJob n evs s = _
  rw [execCompressJob, if_pos h, State.done]

/-- The buffer is marked JOB_END or JOB_END_TRUNCATED, nothing of the job is left, and the registers show its end. -/
theorem jobEnded_spec (a : Nat) (c : Crop) (hevd : s.rd R.EVD_IP_IP = 0) :
    (s.jobEnded n a c).hbm = (s.filled n a (if c.cut then 3 else 2) (s.cxu n).left).hbm ∧
      (((s.jobEnded n a c).cxu n).cur = none ∧ ((s.jobEnded n a c).cxu n).crops = (s.cxu n).crops ∧
        ((s.jobEnded n a c).cxu n).wait = 0) ∧
      ((s.jobEnded n a c).rd (R.CX_STATUS_STATE n) = 0 ∧ (s.jobEnded n a c).rd (R.CX_STATUS_DONE n) = 1 ∧
        (s.jobEnded n a c).rd (R.CX_STATUS_ABORTED n) = 0 ∧
        (s.jobEnded n a c).rd (R.CX_JOB_JOB n) = (s.rd (R.CX_JOB_JOB n) + 1) % 2 ^ 32 ∧
        (s.jobEnded n a c).rd (R.CX_JOB_CRC_CRC n) = crc32 c.data % 2 ^ 32) ∧
      CxKeeps (jobWords n) s (s.jobEnded n a c) := by
  obtain ⟨huse, huseCx, huseKeeps⟩ := cxUse_spec s n a
  have huseEvd : (s.cxUse n a).rd R.EVD_IP_IP = 0 :=
    (huseKeeps.evdIp (by simp [R.CX_STATUS, R.CX_CUR_LO, R.CX_CUR_HI, Nat.le_add_right_of_le])).trans hevd
  have huseJob : (s.cxUse n a).rd (R.CX_JOB_JOB n) = s.rd (R.CX_JOB_JOB n) := huseKeeps.rd _ (by simp)
  obtain ⟨hmark, hmarkCrops, hmarkKeeps⟩ := markBuf_spec (n := n) (a := a) (c := c) (status := if c.cut then 3 else 2)
    (bs := (s.cxu n).left) huseEvd
  have hmarkJob := (hmarkKeeps.rd (R.CX_JOB_JOB n) (by simp)).trans huseJob
  obtain ⟨hend, hendCx, hendShows, hendKeeps⟩ :=
    cxEnd_spec ((s.cxUse n a).markBuf n a (if c.cut then 3 else 2) c (s.cxu n).left) n c
  rw [hmarkJob] at hendShows
  refine ⟨?_, ⟨?_, ?_, ?_⟩, hendShows, ?_⟩
  · exact hend.trans (hmark.trans (filled_hbm_congr huse huseJob))
  · rw [State.jobEnded, hendCx]
  · rw [State.jobEnded, hendCx, hmarkCrops, huseCx]
  · rw [State.jobEnded, hendCx]
  · exact ((huseKeeps.weaken (by simp [jobWords])).trans (hmarkKeeps.weaken (by simp [jobWords]))).trans
      (hendKeeps.weaken (by simp [jobWords]))

/-- Settles O38: a crop taken up has its stream written and its job ended where the stream fits in the next buffer, and waits where
there is no buffer for it. -/
theorem compressJobs : Obligations.CompressJobs := by
  intro s n c cs out hawake henable hwait hcur hcrops hleft hbuf hout
  have hrun := exec_compressJob n [] hawake
  rw [compress_of_waiting_crop hwait henable hcur hcrops hout] at hrun
  have hcx := loaded_cxu (c := c) (cs := cs) hleft out
  have hnext := loaded_cxNext s n c cs out
  have hload : ∀ {ws}, CxKeeps ws s (s.loaded n c cs out) := loaded_keeps s n c cs out
  have hnoBuf : ((s.loaded n c cs out).cxu n).buf = none := by rw [hcx]; exact hbuf
  refine ⟨fun a ha hgood hfits hevd => ?_, fun hno => ?_⟩
  · rw [cxFill_of_fits hnoBuf (hnext.trans ha) hgood (by rw [hcx]; exact hfits)] at hrun
    obtain ⟨hhbm, ⟨hidle, hrest, hready⟩, ⟨hstate, hdone, haborted, hjob, hcrc⟩, hkeeps⟩ :=
      jobEnded_spec (s := s.loaded n c cs out) (n := n) a c hevd
    obtain ⟨hframe, hwords⟩ := CxKeeps.latch (hload.trans hkeeps)
    rw [hcx] at hhbm hrest
    rw [← latch_cxu] at hidle hrest hready
    exact ⟨_, hrun, (latch_hbm _).trans (hhbm.trans (filled_hbm_congr rfl rfl)), hidle, hrest, hready, (latch_rd _ _).trans hstate,
      (latch_rd _ _).trans hdone, (latch_rd _ _).trans haborted, (latch_rd _ _).trans hjob, (latch_rd _ _).trans hcrc, hframe, hwords⟩
  · rw [cxFill_of_no_buffer hnoBuf (by rw [hnext]; exact hno), hnext] at hrun
    obtain ⟨hhbm, hstate, hbad, hstalls, hjob, hrest, hkeeps⟩ := outWait_spec (s := s.loaded n c cs out) (n := n)
      (w := if s.cxNext n = none then 1 else 2) (by rw [hcx]; exact hwait) (by split <;> simp)
    obtain ⟨hframe, hwords⟩ := CxKeeps.latch (hload.trans hkeeps)
    have hwhich : (if s.cxNext n = none then 1 else 2) - 1 = if s.cxNext n = none then 0 else 1 := by split <;> rfl
    rw [hcx] at hjob hrest
    rw [← latch_cxu] at hjob hrest
    exact ⟨_, hrun, (latch_hbm _).trans hhbm, (latch_rd _ _).trans hstate, (latch_rd _ _).trans (hbad.trans hwhich),
      (latch_rd _ _).trans hstalls, hjob, hrest, hframe, hwords⟩

/-! ## States that meet the hypotheses -/

theorem compressedStream_length_le {settings : Word} {d : List Byte} {m : Nat} (hfound : streamMax d.length ≤ m)
    (hplain : (packBits (plainStream (bits settings.toNat 2 2) (d.length / 16384 + 1) d)).length ≤ m) :
    (compressedStream settings d).length ≤ m := by
  unfold compressedStream
  extract_lets tables found
  split
  · next h =>
    simp only [isStream, Bool.and_eq_true, decide_eq_true_eq] at h
    obtain ⟨⟨hlen, -⟩, -⟩ := h
    exact hlen.trans hfound
  · exact hplain

/-- A finished crop of one byte of piece 1. -/
def byteCrop : Crop := { data := [0x4B], piece := 1, whole := true, x0 := 0, w := 1, planes := 1, web := 0, planned := 1, lines := 1 }

/-- A module in Day with the first 4 KiB of HBM as its job store and compressor 0 enabled, for which the crop waits. -/
def cropState (last : Option Nat) (hbm : Sparse Byte) : State :=
  { dayState with regs := [(R.JOB_SIZE, 1), (R.CX_CFG 0, 0x400)], cx := [(0, { crops := [byteCrop], last := last })], hbm := hbm }

/-- A descriptor at 0 of a buffer of 1 KiB at 0x100. -/
def oneBufferHbm : Sparse Byte := [(0, 0x43), (1, 0x4B), (5, 0x04), (9, 0x01)]

/-- The crop's stream is written and the descriptor marked JOB_END. -/
theorem compressJobs_fits_witness :
    ∃ t, exec (.compressJob 0 []) (cropState none oneBufferHbm) = .next t ∧ Sparse.get 0 t.hbm 3 = 2 ∧
      t.rd (R.CX_STATUS_DONE 0) = 1 ∧ t.rd (R.CX_JOB_JOB 0) = 1 := by
  obtain ⟨t, hrun, hhbm, -, -, -, -, hdone, -, hjob, -⟩ := (compressJobs (cropState none oneBufferHbm) 0 byteCrop [] _ rfl
    (by decide +kernel) rfl rfl rfl rfl rfl rfl).1 0 (by decide +kernel) (by decide +kernel)
    (compressedStream_length_le (by decide +kernel) (by decide +kernel)) (by decide +kernel)
  refine ⟨t, hrun, ?_, hdone, hjob.trans (by decide +kernel)⟩
  rw [hhbm]
  exact get_splice _ _ _ _ _

/-- The next descriptor does not have the magic number. -/
theorem compressJobs_bad_witness :
    ∃ t, exec (.compressJob 0 []) (cropState none []) = .next t ∧ t.rd (R.CX_STATUS_STATE 0) = 2 ∧
      t.rd (R.CX_STATUS_BAD_DESC 0) = 1 := by
  have hnext : (cropState none []).cxNext 0 = some 0 := by decide +kernel
  obtain ⟨t, hrun, -, hstate, hbad, -⟩ := (compressJobs (cropState none []) 0 byteCrop [] _ rfl (by decide +kernel) rfl rfl rfl rfl rfl
    rfl).2 (.inr ⟨0, hnext, by decide +kernel⟩)
  exact ⟨t, hrun, hstate, hbad.trans (by rw [show (cropState none []).cxNext (0 : Fin 4) = some 0 from hnext]; rfl)⟩

/-- The descriptor last used is the tail of its chain. -/
theorem compressJobs_tail_witness :
    ∃ t, exec (.compressJob 0 []) (cropState (some 0) [(0x18, 1)]) = .next t ∧ t.rd (R.CX_STATUS_STATE 0) = 2 ∧
      t.rd (R.CX_STALLS_COUNT 0) = 1 := by
  obtain ⟨t, hrun, -, hstate, -, hstalls, -⟩ := (compressJobs (cropState (some 0) [(0x18, 1)]) 0 byteCrop [] _ rfl (by decide +kernel) rfl
    rfl rfl rfl rfl rfl).2 (.inl (by decide +kernel))
  exact ⟨t, hrun, hstate, hstalls.trans (by decide +kernel)⟩

end Sys2Proof.Machine
end

section
/-! PROOFS. Rules for positions and counters of two words, and for a completion's frame and what it sends (R139, R178, R364). -/

namespace Sys2Proof.Machine

variable {s t : State} {E : State → State} {W : Nat → Bool}

/-! ## Fields of one word, and numbers in two words (R5) -/

/-- Two fields of a word, or of different words, share no bit. -/
def Field.disjoint (f g : Field) : Bool := decide (f.lo + f.width ≤ g.lo) || decide (g.lo + g.width ≤ f.lo)

theorem rd_wr_disjoint (s : State) (f g : Field) (v : Nat) (hg : g.fits = true) (h : f.disjoint g = true) : (s.wr f v).rd g = s.rd g :=
  rd_wr_apart s f g v hg (by
    simp only [Field.disjoint, Bool.or_eq_true] at h
    simp only [Field.apart, Bool.or_eq_true]
    exact h.elim (fun h => .inl (.inr h)) .inr)

theorem flag_eq_true (s : State) (f : Field) : s.flag f = true ↔ s.rd f = 1 := by simp [State.flag]

/-- The two words hold a number as far as they are wide. -/
theorem rdW_wrW (s : State) (lo hi : Field) (v : Nat) (hlo : lo.fits = true) (hhi : hi.fits = true) (hw : lo.width = 32)
    (hne : lo.addr ≠ hi.addr) : (s.wrW lo hi v).rdW lo hi = v % 2 ^ (32 + hi.width) := by
  have h := rd_wr_same s lo (v % 2 ^ 32) hlo
  rw [hw, Nat.mod_mod] at h
  rw [State.rdW, State.wrW, rd_wr_word _ _ _ _ hne, h, rd_wr_same _ _ _ hhi, Nat.pow_add, Nat.mod_mul]

theorem rdW_lt (s : State) (lo hi : Field) (hw : lo.width = 32) : s.rdW lo hi < 2 ^ (32 + hi.width) := by
  have hl := rd_lt s lo
  have hh := Nat.mul_le_mul_left (2 ^ 32) (rd_lt s hi)
  rw [hw] at hl
  rw [Nat.pow_add, State.rdW]
  simp only [Nat.succ_eq_add_one, Nat.mul_add] at hh
  omega

theorem rdW_congr (lo hi : Field) (hlo : t.word lo.addr = s.word lo.addr) (hhi : t.word hi.addr = s.word hi.addr) :
    t.rdW lo hi = s.rdW lo hi := by rw [State.rdW, State.rdW, rd_congr _ _ lo hlo, rd_congr _ _ hi hhi]

theorem flag_congr (f : Field) (h : t.word f.addr = s.word f.addr) : t.flag f = s.flag f := by rw [State.flag, State.flag, rd_congr _ _ f h]

theorem wrW_word (s : State) (lo hi : Field) (v a : Nat) (hlo : a ≠ lo.addr) (hhi : a ≠ hi.addr) : (s.wrW lo hi v).word a = s.word a :=
  (word_wr_ne _ hi _ _ hhi).trans (word_wr_ne _ lo _ _ hlo)

/-- A count moves by one modulo its width. -/
theorem rd_inc (s : State) (f : Field) (hf : f.fits = true) : (s.inc f).rd f = (s.rd f + 1) % 2 ^ f.width := rd_wr_same _ _ _ hf

theorem Keeps.rdW (h : Keeps E W s t) (lo hi : Field) (hlo : W lo.addr = false) (hhi : W hi.addr = false) : t.rdW lo hi = s.rdW lo hi :=
  rdW_congr lo hi (h.2 _ hlo) (h.2 _ hhi)

theorem Keeps.latch (h : Keeps E W s t) : Keeps E W s t.latch :=
  h.trans (Keeps.of_unnoticed (latch_unnoticed t) fun a _ => by simp only [latch_frame])

theorem Keeps.setWord (h : Keeps E W s t) (a : Nat) (w : Word) (ha : W a = true) : Keeps E W s (t.setWord a w) :=
  h.trans (Keeps.of_unnoticed rfl fun b hb => word_setWord_ne t a b w fun e => by rw [e, ha] at hb; exact absurd hb (by simp))

/-! ## Positions (R178) -/

@[simp] theorem fwd_self (x : Nat) : fwd x x = 0 := by simp [fwd, unsigned, signed]

theorem unsigned_lt (w : Nat) (v : Int) : unsigned w v < 2 ^ w := by
  have h0 := Int.emod_nonneg v (b := 2 ^ w) (by positivity)
  have h1 := Int.emod_lt_of_pos v (b := 2 ^ w) (by positivity)
  rw [unsigned, Int.toNat_lt h0]
  exact_mod_cast h1

theorem posAdd_lt (x : Nat) (d : Int) : posAdd x d < 2 ^ 48 := unsigned_lt 48 _

theorem posAdd_zero {x : Nat} (h : x < 2 ^ 48) : posAdd x 0 = x := by
  simp only [posAdd, unsigned, Int.add_zero]
  omega

theorem encTrue_lt (s : State) (n : Nat) : s.encTrue n < 2 ^ 48 := rdW_lt s _ _ rfl

theorem encTrue_setTrue (s : State) (n v : Nat) : (s.setTrue n v).encTrue n = v % 2 ^ 48 :=
  rdW_wrW s _ _ v rfl rfl rfl (by simp only [R.ENC_TRUE_LO, R.ENC_TRUE_HI]; omega)

theorem encPrint_setPrint (s : State) (n v : Nat) : (s.setPrint n v).encPrint n = v % 2 ^ 48 :=
  rdW_wrW s _ _ v rfl rfl rfl (by simp only [R.ENC_PRINT_LO, R.ENC_PRINT_HI]; omega)

theorem enc_onEnc_same (s : State) (n : Nat) (f : Enc → Enc) : (s.onEnc n f).enc n = f (s.enc n) := get_upd_same _ _ _ _

theorem enc_onEnc_ne (s : State) (m n : Nat) (f : Enc → Enc) (h : m ≠ n) : (s.onEnc n f).enc m = s.enc m := get_upd_ne _ _ _ _ _ h

theorem tg_onTg_same (s : State) (k : Nat) (f : Tg → Tg) : (s.onTg k f).tg k = f (s.tg k) := get_upd_same _ _ _ _

theorem tg_onTg_ne (s : State) (j k : Nat) (f : Tg → Tg) (h : j ≠ k) : (s.onTg k f).tg j = s.tg j := get_upd_ne _ _ _ _ _ h

/-! ## What was sent stays sent (R364, R366) -/

theorem emit_out (s : State) (o : Output) : s.out <+: (s.emit o).out := List.prefix_append _ _

theorem resolve_out (s : State) (np : Nat) (hop : Word) (ds : List Datagram) (refresh : Bool) :
    s.out <+: (s.resolve np hop ds refresh).out := by
  unfold State.resolve
  split
  · exact List.prefix_rfl
  · exact emit_out _ _

theorem send_out (s : State) (d : Datagram) : s.out <+: (s.send d).out := by
  unfold State.send
  split
  · split
    · exact List.prefix_rfl
    · split
      · exact resolve_out _ _ _ _ _
      · extract_lets s1
        have h1 : s.out <+: s1.out := emit_out s _
        split
        · exact h1.trans (resolve_out _ _ _ _ _)
        · exact h1
  · exact List.prefix_rfl

theorem sendEvents_out (s : State) (k : Nat) (pick : EvRec → Bool) : s.out <+: (s.sendEvents k pick).out := by
  unfold State.sendEvents
  extract_lets rs last
  split
  · exact List.prefix_rfl
  · exact send_out s _

theorem flushEvents_out (s : State) : s.out <+: s.flushEvents.out := by
  unfold State.flushEvents
  split
  · exact List.foldlRecOn (motive := fun u : State => s.out <+: u.out) _ _ List.prefix_rfl fun u h k _ => h.trans (sendEvents_out u k _)
  · exact List.prefix_rfl

theorem raise_out (s : State) (e : Event) (source arg : Nat) : s.out <+: (s.raise e source arg).out := by
  have h := foldl_keeps State.out (fun (t : State) k => t.enqueue e (BitVec.ofNat 32 source) (BitVec.ofNat 32 arg) false k)
    (fun t k => by simp only [enqueue_frame2]) (List.range 4) ((s.latchFault e).journalEvent e)
  rw [show ((s.latchFault e).journalEvent e).out = s.out by simp only [journalEvent_frame2, latchFault_frame2]] at h
  exact h ▸ flushEvents_out _

/-! ## The frame of a completion (R131, R139, R162) -/

/-- What the end of a piece may change beside what is noticed: the queue and what hangs on its pieces, and when the module was last at
work. -/
def sansEnding (u : State) : State :=
  { u with pow := { u.pow with lastBusy := 0 }, pieces := [], ended := [], rejects := [], ring := [], evid := [], verify := [] }

theorem setBytes_out (s : State) (a : Nat) (bs : List Byte) : (s.setBytes a bs).out = s.out :=
  foldl_keeps State.out (fun t (e : Word × Nat) => t.setWord (a + 4 * e.2) e.1) (fun _ _ => rfl) _ s

theorem countRecord_out (s : State) (p : Piece) (f : Fate) : (s.countRecord p f).out = s.out := by
  unfold State.countRecord
  extract_lets s1
  have h1 : s1.out = s.out := by
    show (if p.recordFlags f % 2 = 1 then s.lifeAdd 0x04C 4 1 else s).out = _
    split <;> rfl
  cases f <;> exact h1

theorem freeBands_out (s : State) (bs : List BandRun) : (s.freeBands bs).out = s.out :=
  foldl_keeps State.out _ (fun t b => by split <;> rfl) bs s

theorem loads_out (s : State) : s.loads.out = s.out := by
  unfold State.loads
  extract_lets seq dx hbm t
  refine foldl_keeps State.out _ (fun u e => ?_) _ t
  dsimp only
  split
  · rfl
  · split <;> rfl

theorem record_high (k : Nat) : 0xC0000 ≤ 0x4E000000 + 32 * (k % 4096) := by omega

section
variable (hhigh : ∀ a, 0xC0000 ≤ a → W a = true)
include hhigh

theorem setWords_keeps (s : State) (a : Nat) (ws : List Word) (ha : 0xC0000 ≤ a) : Keeps E W s (s.setWords a ws) :=
  Keeps.foldl (fun u e _ => (Keeps.refl u).setWord (a + 4 * e.2) e.1 (hhigh _ (by omega))) s

theorem setBytes_keeps (s : State) (a : Nat) (bs : List Byte) (ha : 0xC0000 ≤ a) : Keeps E W s (s.setBytes a bs) :=
  setWords_keeps hhigh s a _ ha

omit hhigh in
theorem countRecord_keeps (s : State) (p : Piece) (f : Fate) : Keeps E W s (s.countRecord p f) := by
  unfold State.countRecord
  extract_lets s1
  have h1 : Keeps E W s s1 := Keeps.ite ((Keeps.refl s).lifeAdd _ _ _) (Keeps.refl s)
  cases f <;> exact h1.lifeAdd _ _ _

theorem freeBands_keeps (s : State) (bs : List BandRun) : Keeps E W s (s.freeBands bs) :=
  Keeps.foldl (fun u (b : BandRun) _ =>
    have howner : W (R.BAND_OWNER b.num) = true := hhigh _ (by simp only [R.BAND_OWNER]; omega)
    have hcut : W (R.BAND_CUT b.num) = true := hhigh _ (by simp only [R.BAND_CUT]; omega)
    Keeps.ite (((Keeps.refl u).setWord _ 0 howner).setWord _ 0 hcut) (Keeps.refl u)) s

theorem loads_keeps (s : State) : Keeps E W s s.loads := by
  unfold State.loads
  extract_lets seq dx hbm t
  have ht : Keeps E W s t := (((Keeps.refl s).wr _ _ (hhigh _ (by decide))).wr _ _ (hhigh _ (by decide))).wr _ _ (hhigh _ (by decide))
  refine ht.trans (Keeps.foldl (fun u e _ => ?_) t)
  extract_lets held v
  have hst : W (R.DX_STATUS e) = true := hhigh _ (by simp only [R.DX_STATUS]; omega)
  have hv : Keeps E W u v := ((Keeps.refl u).wr _ _ (hhigh _ (by simp only [R.DX_LOAD]; omega))).wr _ _ hst
  exact Keeps.ite (hv.wr _ _ hst) (Keeps.ite (hv.wr _ _ hst) hv)

theorem poolFree_keeps (s : State) : Keeps E W s s.poolFree := (Keeps.refl s).wr R.REPEAT_FREE_SIZE _ (hhigh _ (by decide))

/-- A record in the completion log's ring at `a`. -/
theorem logged_keeps (s : State) (a : Nat) (bs : List Byte) (ha : 0xC0000 ≤ a) :
    Keeps E W s ((s.setBytes a bs).inc R.PQ_LOG_COUNT_COUNT) :=
  (setBytes_keeps hhigh s a bs ha).wr R.PQ_LOG_COUNT_COUNT _ (hhigh _ (by decide))

/-- What a piece's record takes up and releases, before the queue is cleared of the piece. -/
theorem released_keeps (s : State) (p : Piece) (f : Fate) (a : Nat) (bs : List Byte) (ha : 0xC0000 ≤ a)
    (hcmp : ∀ k, p.compare = some k → W (R.CMP_STATUS k) = true) :
    let s2 := ((((s.setBytes a bs).inc R.PQ_LOG_COUNT_COUNT).countRecord p f).freeBands p.bands)
    Keeps E W s (p.compare.elim s2 s2.freeCompare) ∧ (p.compare.elim s2 s2.freeCompare).out = s.out := by
  intro s2
  have h2 : Keeps E W s s2 := ((logged_keeps hhigh s a bs ha).trans (countRecord_keeps _ _ _)).trans (freeBands_keeps hhigh _ _)
  have hout2 : s2.out = s.out := ((freeBands_out _ _).trans (countRecord_out _ _ _)).trans (setBytes_out _ _ _)
  cases hk : p.compare with
  | none => exact ⟨h2, hout2⟩
  | some k => exact ⟨h2.wr _ _ (hcmp k hk), hout2⟩

/-- A piece is complete: its event is raised in a state that differs in the queue, in the module's last work, and in the registers of the
completion log, the bands, the loads, and the piece's compare unit, and in which nothing more was sent. -/
theorem complete_raises (s : State) (p : Piece) (f : Fate) (hcmp : ∀ k, p.compare = some k → W (R.CMP_STATUS k) = true) :
    ∃ u, s.complete p f = u.raise f.event p.num f.reason ∧ u.out = s.out ∧ Keeps sansEnding W s u := by
  unfold State.complete
  extract_lets k s1 s2 s3 bad s4
  have h3 : Keeps sansEnding W s s3 ∧ s3.out = s.out := released_keeps hhigh s p f _ _ (record_high k) hcmp
  clear_value s3
  obtain ⟨hkeeps, hout⟩ := h3
  have h4 : Keeps sansEnding W s s4 := hkeeps.update rfl rfl
  have h4o : s4.out = s.out := hout
  clear_value s4
  exact ⟨s4.loads.poolFree.busy, rfl, (loads_out s4).trans h4o,
    ((h4.trans (loads_keeps hhigh s4)).trans (poolFree_keeps hhigh _)).update rfl rfl⟩

end
end Sys2Proof.Machine
end

section
/-! PROOFS. Compare units that fire (R192 to R195). -/

namespace Sys2Proof.Machine

variable {s t : State}

/-! ## A firing (R194) -/

/-- The unit's status and time of the hit, as a firing shows them. -/
def State.hitShown (s : State) (k : Nat) (late : Bool) : State :=
  (((s.wr (R.CMP_STATUS_HIT k) 1).wrB (R.CMP_STATUS_LATE k) late).addSat (R.CMP_STATUS_HITS k) 1).wrW
    (R.CMP_HIT_TIME_LO_NS k) (R.CMP_HIT_TIME_HI_NS k) s.tb2

/-- The unit is no longer armed, or stays armed for its next target. -/
def State.rearmed (s : State) (k per tgt : Nat) : State :=
  if per = 0 then s.wr (R.CMP_STATUS_ARMED k) 0
  else (s.wrW (R.CMP_TGT_LO_TGT k) (R.CMP_TGT_HI_TGT k) (posAdd tgt per)).wr (R.CMP_STATUS_ARMED k) 1

theorem cmpFire_eq (s : State) (k : Nat) (late : Bool) :
    s.cmpFire k late = ((s.hitShown k late).cmpRejects k).rearmed k (s.rd (R.CMP_PERIOD_PERIOD k)) (s.cmpTgt k) := rfl

theorem hitShown_word (s : State) (k : Nat) (late : Bool) (a : Nat) (hs : a ≠ R.CMP_STATUS k) (hlo : a ≠ R.CMP_HIT_TIME_LO k)
    (hhi : a ≠ R.CMP_HIT_TIME_HI k) : (s.hitShown k late).word a = s.word a :=
  (wrW_word _ _ _ _ _ hlo hhi).trans ((word_wr_ne _ _ _ _ hs).trans ((word_wr_ne _ _ _ _ hs).trans (word_wr_ne _ _ _ _ hs)))

theorem cmpRejects_regs (s : State) (k : Nat) : (s.cmpRejects k).regs = s.regs := by
  unfold State.cmpRejects
  extract_lets at_ w s1
  have h1 : s1.regs = s.regs := by
    unfold s1
    split <;> rfl
  split
  · exact h1
  · exact h1

theorem cmpRejects_unnoticed (s : State) (k : Nat) : (s.cmpRejects k).unnoticed = s.unnoticed := by
  unfold State.cmpRejects
  extract_lets at_ w s1
  have h1 : s1.unnoticed = s.unnoticed := by
    unfold s1
    split <;> rfl
  split
  · exact h1
  · exact h1

theorem cmpRejects_rej0 (s : State) (k : Nat) (h : s.rd (R.CMP_CFG_REJ0 k) = 1) :
    Output.cmpReject k 0 (s.cmpRef k) (s.cmpRef k + s.rd (R.CMP_CFG_WIDTH k)) ∈ (s.cmpRejects k).out := by
  unfold State.cmpRejects
  extract_lets at_ w s1
  have h1 : Output.cmpReject k 0 at_ (at_ + w) ∈ s1.out := by
    unfold s1
    rw [if_pos ((flag_eq_true s _).2 h)]
    exact List.mem_append_right _ List.mem_cons_self
  split
  · exact List.mem_append_left _ h1
  · exact h1

theorem cmpRejects_rej1 (s : State) (k : Nat) (h : s.rd (R.CMP_CFG_REJ1 k) = 1) :
    Output.cmpReject k 1 (s.cmpRef k) (s.cmpRef k + s.rd (R.CMP_CFG_WIDTH k)) ∈ (s.cmpRejects k).out := by
  unfold State.cmpRejects
  extract_lets at_ w s1
  rw [if_pos ((flag_eq_true s _).2 h)]
  exact List.mem_append_right _ List.mem_cons_self

theorem rearmed_out (s : State) (k per tgt : Nat) : (s.rearmed k per tgt).out = s.out := by
  unfold State.rearmed
  split <;> rfl

theorem rearmed_unnoticed (s : State) (k per tgt : Nat) : (s.rearmed k per tgt).unnoticed = s.unnoticed := by
  unfold State.rearmed
  split <;> rfl

theorem rearmed_armed (s : State) (k per tgt : Nat) : (s.rearmed k per tgt).rd (R.CMP_STATUS_ARMED k) = if per = 0 then 0 else 1 := by
  unfold State.rearmed
  split <;> exact rd_wr_same _ _ _ rfl

theorem rearmed_zero_word (s : State) (k tgt a : Nat) (ha : a ≠ R.CMP_STATUS k) : (s.rearmed k 0 tgt).word a = s.word a :=
  word_wr_ne _ _ _ _ ha

theorem rearmed_tgt (s : State) (k per tgt : Nat) (h : per ≠ 0) : (s.rearmed k per tgt).cmpTgt k = posAdd tgt per := by
  have hword (v : Nat) (u : State) : (u.wr (R.CMP_STATUS_ARMED k) v).cmpTgt k = u.cmpTgt k :=
    rdW_congr _ _ (word_wr_ne _ _ _ _ (by simp)) (word_wr_ne _ _ _ _ (by simp))
  rw [State.rearmed, if_neg h, hword, State.cmpTgt, rdW_wrW _ _ _ _ rfl rfl rfl (by simp)]
  exact Nat.mod_eq_of_lt (posAdd_lt _ _)

/-- What is not of the unit's target, nor ARMED, reads as before. -/
theorem rearmed_rd (s : State) (k per tgt : Nat) (f : Field) (hf : f.fits = true) (hlo : f.addr ≠ R.CMP_TGT_LO k)
    (hhi : f.addr ≠ R.CMP_TGT_HI k) (harm : (R.CMP_STATUS_ARMED k).apart f = true) : (s.rearmed k per tgt).rd f = s.rd f := by
  unfold State.rearmed
  split
  · exact rd_wr_apart _ _ _ _ hf harm
  · exact (rd_wr_apart _ _ _ _ hf harm).trans (rd_congr _ _ _ (wrW_word _ _ _ _ _ hlo hhi))

theorem cmpRef_congr {k : Nat} (hcfg : t.word (R.CMP_CFG k) = s.word (R.CMP_CFG k))
    (hlo : ∀ j < 16, t.word (R.TG_LINE_LO j) = s.word (R.TG_LINE_LO j))
    (hhi : ∀ j < 16, t.word (R.TG_LINE_HI j) = s.word (R.TG_LINE_HI j))
    (hplo : t.word (R.ENC_PRINT_LO (k / 32)) = s.word (R.ENC_PRINT_LO (k / 32)))
    (hphi : t.word (R.ENC_PRINT_HI (k / 32)) = s.word (R.ENC_PRINT_HI (k / 32))) : t.cmpRef k = s.cmpRef k := by
  have hj : s.rd (R.CMP_CFG_TG k) < 16 := rd_lt _ _
  have hline : t.lineCount (s.rd (R.CMP_CFG_TG k)) = s.lineCount (s.rd (R.CMP_CFG_TG k)) := rdW_congr _ _ (hlo _ hj) (hhi _ hj)
  have hprint : t.encPrint (k / 32) = s.encPrint (k / 32) := rdW_congr _ _ hplo hphi
  rw [State.cmpRef, State.cmpRef, flag_congr _ hcfg, rd_congr t s (R.CMP_CFG_TG k) hcfg, hline, hprint]

/-- A firing writes no word outside the units' registers. -/
theorem hitShown_apart (s : State) (k : Fin 64) (late : Bool) (a : Nat) (ha : a < 0x41000 ∨ 0x41800 ≤ a) :
    (s.hitShown k late).word a = s.word a := by
  apply hitShown_word <;> simp only [R.CMP_STATUS, R.CMP_HIT_TIME_LO, R.CMP_HIT_TIME_HI] <;> omega

theorem cmpRef_hitShown (s : State) (k : Fin 64) (late : Bool) : (s.hitShown k late).cmpRef k = s.cmpRef k := by
  have hline (b j : Nat) (hb : 0x41800 ≤ b) : (s.hitShown k late).word (b + 64 * j) = s.word (b + 64 * j) :=
    hitShown_apart _ _ _ _ (.inr (by omega))
  have henc (b : Nat) (hb : b < 0x40F80) : (s.hitShown k late).word (b + 128 * (k / 32)) = s.word (b + 128 * (k / 32)) :=
    hitShown_apart _ _ _ _ (.inl (by omega))
  exact cmpRef_congr (hitShown_word _ _ _ _ (by simp) (by simp) (by simp)) (fun j _ => hline 0x50018 j (by decide))
    (fun j _ => hline 0x5001C j (by decide)) (henc 0x40010 (by decide)) (henc 0x40014 (by decide))

theorem cmpFire_unnoticed (s : State) (k : Nat) (late : Bool) : (s.cmpFire k late).unnoticed = s.unnoticed := by
  rw [cmpFire_eq, rearmed_unnoticed, cmpRejects_unnoticed]
  simp only [State.hitShown, State.wrW, State.addSat, State.wrB, wr_unnoticed]

/-- Fields of the unit's status and its time of the hit, after a firing. -/
theorem cmpFire_rd (s : State) (k : Nat) (late : Bool) (f : Field) (hf : f.fits = true) (hlo : f.addr ≠ R.CMP_TGT_LO k)
    (hhi : f.addr ≠ R.CMP_TGT_HI k) (harm : (R.CMP_STATUS_ARMED k).apart f = true) :
    (s.cmpFire k late).rd f = (s.hitShown k late).rd f := by
  rw [cmpFire_eq, rearmed_rd _ _ _ _ _ hf hlo hhi harm]
  exact rd_congr _ _ _ (word_congr _ _ _ (cmpRejects_regs _ _))

theorem hitShown_status (s : State) (k : Nat) (late : Bool) (f : Field) (hf : f.addr = R.CMP_STATUS k) :
    (s.hitShown k late).rd f = (((s.wr (R.CMP_STATUS_HIT k) 1).wrB (R.CMP_STATUS_LATE k) late).addSat (R.CMP_STATUS_HITS k) 1).rd f :=
  rd_congr _ _ _ (wrW_word _ _ _ _ _ (by rw [hf]; simp) (by rw [hf]; simp))

theorem cmpFire_hit (s : State) (k : Nat) (late : Bool) : (s.cmpFire k late).rd (R.CMP_STATUS_HIT k) = 1 := by
  rw [cmpFire_rd _ _ _ _ rfl (by simp) (by simp) (by simp [Field.apart]), hitShown_status _ _ _ _ rfl]
  exact (rd_wr_disjoint _ _ _ _ rfl rfl).trans ((rd_wr_disjoint _ _ _ _ rfl rfl).trans (rd_wr_same _ _ _ rfl))

theorem cmpFire_late (s : State) (k : Nat) : (s.cmpFire k false).rd (R.CMP_STATUS_LATE k) = 0 := by
  rw [cmpFire_rd _ _ _ _ rfl (by simp) (by simp) (by simp [Field.apart]), hitShown_status _ _ _ _ rfl]
  exact (rd_wr_disjoint _ _ _ _ rfl rfl).trans (rd_wr_same _ _ _ rfl)

theorem cmpFire_hits (s : State) (k : Nat) (late : Bool) :
    (s.cmpFire k late).rd (R.CMP_STATUS_HITS k) = min 65535 (s.rd (R.CMP_STATUS_HITS k) + 1) := by
  have hbefore : ((s.wr (R.CMP_STATUS_HIT k) 1).wrB (R.CMP_STATUS_LATE k) late).rd (R.CMP_STATUS_HITS k) = s.rd (R.CMP_STATUS_HITS k) :=
    (rd_wr_disjoint _ _ _ _ rfl rfl).trans (rd_wr_disjoint _ _ _ _ rfl rfl)
  rw [cmpFire_rd _ _ _ _ rfl (by simp) (by simp) (by simp [Field.apart]), hitShown_status _ _ _ _ rfl]
  refine (rd_wr_same _ _ _ rfl).trans ?_
  rw [hbefore]
  exact Nat.mod_eq_of_lt (Nat.lt_of_le_of_lt (Nat.min_le_left 65535 _) (by decide : 65535 < 2 ^ 16))

theorem cmpFire_hitTime (s : State) (k : Nat) (late : Bool) :
    (s.cmpFire k late).rdW (R.CMP_HIT_TIME_LO_NS k) (R.CMP_HIT_TIME_HI_NS k) = s.tb2 % 2 ^ 64 := by
  rw [State.rdW, cmpFire_rd _ _ _ _ rfl (by simp) (by simp) (by simp [Field.apart]),
    cmpFire_rd _ _ _ _ rfl (by simp) (by simp) (by simp [Field.apart])]
  exact rdW_wrW _ _ _ _ rfl rfl rfl (by simp)

theorem cmpFire_armed (s : State) (k : Nat) (late : Bool) :
    (s.cmpFire k late).rd (R.CMP_STATUS_ARMED k) = if s.rd (R.CMP_PERIOD_PERIOD k) = 0 then 0 else 1 := by
  rw [cmpFire_eq, rearmed_armed]

theorem cmpFire_tgt_moved (s : State) (k : Nat) (late : Bool) (h : s.rd (R.CMP_PERIOD_PERIOD k) ≠ 0) :
    (s.cmpFire k late).cmpTgt k = posAdd (s.cmpTgt k) (s.rd (R.CMP_PERIOD_PERIOD k)) := by rw [cmpFire_eq, rearmed_tgt _ _ _ _ h]

theorem cmpFire_tgt_kept (s : State) (k : Nat) (late : Bool) (h : s.rd (R.CMP_PERIOD_PERIOD k) = 0) :
    (s.cmpFire k late).cmpTgt k = s.cmpTgt k := by
  have hword (a : Nat) (hs : a ≠ R.CMP_STATUS k) (hlo : a ≠ R.CMP_HIT_TIME_LO k) (hhi : a ≠ R.CMP_HIT_TIME_HI k) :
      (s.cmpFire k late).word a = s.word a := by
    rw [cmpFire_eq, h, rearmed_zero_word _ _ _ _ hs, word_congr _ _ _ (cmpRejects_regs _ _), hitShown_word _ _ _ _ hs hlo hhi]
  exact rdW_congr _ _ (hword _ (by simp) (by simp) (by simp)) (hword _ (by simp) (by simp) (by simp))

/-- A firing drives the reject outputs it is set to drive, from the reference at which it fired. -/
theorem cmpFire_rejects (s : State) (k : Fin 64) (late : Bool) :
    (s.rd (R.CMP_CFG_REJ0 k) = 1 →
      Output.cmpReject k 0 (s.cmpRef k) (s.cmpRef k + s.rd (R.CMP_CFG_WIDTH k)) ∈ (s.cmpFire k late).out) ∧
    (s.rd (R.CMP_CFG_REJ1 k) = 1 →
      Output.cmpReject k 1 (s.cmpRef k) (s.cmpRef k + s.rd (R.CMP_CFG_WIDTH k)) ∈ (s.cmpFire k late).out) := by
  have hcfg (f : Field) (hf : f.addr = R.CMP_CFG k) : (s.hitShown k late).rd f = s.rd f :=
    rd_congr _ _ _ (hitShown_word _ _ _ _ (by rw [hf]; simp) (by rw [hf]; simp) (by rw [hf]; simp))
  rw [cmpFire_eq, rearmed_out, ← cmpRef_hitShown s k late, ← hcfg (R.CMP_CFG_REJ0 k) rfl, ← hcfg (R.CMP_CFG_REJ1 k) rfl,
    ← hcfg (R.CMP_CFG_WIDTH k) rfl]
  exact ⟨cmpRejects_rej0 _ _, cmpRejects_rej1 _ _⟩

/-! ## The piece that waited for the unit (R195, R123) -/

/-- What a firing may change beside what is noticed. -/
def sansCompare (u : State) : State :=
  { u with
    pow := { u.pow with lastBusy := 0, phase := .day }, pieces := [], ended := [], rejects := [], ring := [], lanes := [], evid := []
    verify := [] }

/-- The words at and above the lanes' registers, and those that events change. -/
def highWord (a : Nat) : Bool := decide (0xB0000 ≤ a) || plumbWord a

theorem highWord_high {a : Nat} (h : 0xB0000 ≤ a) : highWord a = true := by simp [highWord, h]

theorem highWord_plumb (a : Nat) (h : plumbWord a = true) : highWord a = true := by simp [highWord, h]

/-- The words of the encoders, generators, compare units and timing generators are not among them. -/
theorem highWord_mid {a : Nat} (hlo : 0x161 ≤ a) (hhi : a < 0xB0000) : highWord a = false := by
  cases h : highWord a
  · rfl
  · simp only [highWord, Bool.or_eq_true, decide_eq_true_eq] at h
    rcases h with h | h
    · omega
    · have := plumbWord_cases h
      omega

theorem eq_of_sansCompare (h : sansCompare t.unnoticed = sansCompare s.unnoticed) :
    t = { s.noticed t with
      pow := { s.pow with lastBusy := t.pow.lastBusy, phase := t.pow.phase }, pieces := t.pieces, ended := t.ended
      rejects := t.rejects, ring := t.ring, lanes := t.lanes, evid := t.evid, verify := t.verify } :=
  calc
    t = { (sansCompare t.unnoticed).noticed t with
      pow := { (sansCompare t.unnoticed).pow with lastBusy := t.pow.lastBusy, phase := t.pow.phase }, pieces := t.pieces, ended := t.ended
      rejects := t.rejects, ring := t.ring, lanes := t.lanes, evid := t.evid, verify := t.verify } := rfl
    _ = { (sansCompare s.unnoticed).noticed t with
      pow := { (sansCompare s.unnoticed).pow with lastBusy := t.pow.lastBusy, phase := t.pow.phase }, pieces := t.pieces, ended := t.ended
      rejects := t.rejects, ring := t.ring, lanes := t.lanes, evid := t.evid, verify := t.verify } := by rw [h]
    _ = _ := rfl

theorem toDay_keeps (s : State) : Keeps sansCompare highWord s s.toDay := by
  refine ⟨?_, fun a ha => toDay_word s a ?_⟩
  · rw [toDay_eq]
    rfl
  · simp only [highWord, Bool.or_eq_false_iff, decide_eq_false_iff_not] at ha
    omega

theorem unbound_compare {num : Nat} {p : Piece} (h : (s.onPiece num (fun q => { q with compare := none })).piece num = some p) :
    p.compare = none := by
  have hnum : p.num = num := by simpa using List.find?_some h
  obtain ⟨q, -, rfl⟩ := List.mem_map.1 (List.mem_of_find?_eq_some h)
  by_cases hq : q.num = num
  · rw [if_pos hq]
  · rw [if_neg hq] at hnum
    exact absurd hnum hq

/-- The piece is not printed: its unit is no longer bound to it, and keeps its registers. -/
theorem unbound_notPrinted (s : State) (num reason : Nat) :
    Keeps sansCompare highWord s ((s.onPiece num (fun q => { q with compare := none })).notPrinted num reason) ∧
      s.out <+: ((s.onPiece num (fun q => { q with compare := none })).notPrinted num reason).out := by
  let s1 := s.onPiece num (fun q => { q with compare := none })
  have h1 : Keeps sansCompare highWord s s1 := (Keeps.refl s).update rfl rfl
  show Keeps sansCompare highWord s (s1.notPrinted num reason) ∧ s.out <+: (s1.notPrinted num reason).out
  unfold State.notPrinted
  split
  · exact ⟨h1, List.prefix_rfl⟩
  · next p hp =>
    have hfree : p.compare = none := unbound_compare hp
    obtain ⟨u, hrun, hout, hkeeps⟩ := complete_raises (W := highWord) (fun a ha => highWord_high (by omega)) s1 p (.notPrinted reason)
      (by simp [hfree])
    rw [hrun]
    refine ⟨(h1.trans (hkeeps.mono (fun _ => rfl) fun _ h => h)).raise highWord_plumb _ _ _, ?_⟩
    exact (show s.out = u.out from hout.symm) ▸ raise_out u _ _ _

theorem cmpSettle_keeps (s : State) (k : Nat) : Keeps sansCompare highWord s (s.cmpSettle k) ∧ s.out <+: (s.cmpSettle k).out := by
  unfold State.cmpSettle
  split
  · exact ⟨Keeps.refl s, List.prefix_rfl⟩
  · split
    · exact unbound_notPrinted s _ _
    · split
      · exact ⟨(Keeps.refl s).update rfl rfl, List.prefix_rfl⟩
      · exact ⟨Keeps.refl s, List.prefix_rfl⟩

/-! ## COMPARE_FIRE -/

section
variable {k : Fin 64} (h : Keeps sansCompare highWord s t)
include h

/-- A field of the unit reads as before. -/
theorem cmp_rd_keeps (f : Field) (hlo : 0x41000 + 32 * k.val ≤ f.addr) (hhi : f.addr < 0x41020 + 32 * k.val) : t.rd f = s.rd f :=
  h.rd f (highWord_mid (by omega) (by omega))

theorem cmp_rdW_keeps (lo hi : Field) (hlo : 0x41000 + 32 * k.val ≤ lo.addr) (hlo' : lo.addr < 0x41020 + 32 * k.val)
    (hhi : 0x41000 + 32 * k.val ≤ hi.addr) (hhi' : hi.addr < 0x41020 + 32 * k.val) : t.rdW lo hi = s.rdW lo hi :=
  h.rdW lo hi (highWord_mid (by omega) (by omega)) (highWord_mid (by omega) (by omega))

theorem cmpTgt_keeps : t.cmpTgt k = s.cmpTgt k := cmp_rdW_keeps (k := k) h _ _ (by simp) (by simp) (by simp) (by simp)

theorem cmpRef_keeps : t.cmpRef k = s.cmpRef k := by
  have hk := k.isLt
  have hword (a : Nat) (hlo : 0x40000 ≤ a) (hhi : a < 0x60000) : t.word a = s.word a := h.2 a (highWord_mid (by omega) (by omega))
  exact cmpRef_congr (hword _ (by simp only [R.CMP_CFG]; omega) (by simp only [R.CMP_CFG]; omega))
    (fun j hj => hword (0x50018 + 64 * j) (by omega) (by omega)) (fun j hj => hword (0x5001C + 64 * j) (by omega) (by omega))
    (hword (0x40010 + 128 * (k / 32)) (by omega) (by omega)) (hword (0x40014 + 128 * (k / 32)) (by omega) (by omega))

end

/-- The state after a firing: the piece is placed, with the unit's registers as the firing left them. -/
theorem exec_compareFire (s : State) (k : Fin 64) (hcore : s.coreOn = true) (harm : s.rd (R.CMP_STATUS_ARMED k) = 1)
    (hdue : ahead (s.cmpTgt k) (s.cmpRef k) = false) : exec (.compareFire k) s = .next ((s.toDay.cmpFire k false).cmpSettle k).latch :=
  if_pos ⟨hcore, (flag_eq_true s _).2 harm, by rw [hdue]; rfl⟩

/-- Settles O46: the firing itself writes the unit's registers, and what happens to the piece that waited for it leaves them. -/
theorem compareFires : Obligations.CompareFires := by
  refine ⟨fun s k hcore harm hdue => ?_, fun s k h => if_neg ?_⟩
  · have hday := toDay_keeps s
    have hper : s.toDay.rd (R.CMP_PERIOD_PERIOD k) = s.rd (R.CMP_PERIOD_PERIOD k) := cmp_rd_keeps (k := k) hday _ (by simp) (by simp)
    have htgt := cmpTgt_keeps (k := k) hday
    obtain ⟨hsettle, hout⟩ := cmpSettle_keeps (s.toDay.cmpFire k false) k
    have hlast := hsettle.latch
    have hstatus (f : Field) (hf : f.addr = R.CMP_STATUS k) :
        ((s.toDay.cmpFire k false).cmpSettle k).latch.rd f = (s.toDay.cmpFire k false).rd f :=
      cmp_rd_keeps (k := k) hlast f (by rw [hf]; simp) (by rw [hf]; simp)
    have hrej := cmpFire_rejects s.toDay k false
    rw [cmpRef_keeps hday, cmp_rd_keeps (k := k) hday (R.CMP_CFG_REJ0 k) (by simp) (by simp),
      cmp_rd_keeps (k := k) hday (R.CMP_CFG_REJ1 k) (by simp) (by simp),
      cmp_rd_keeps (k := k) hday (R.CMP_CFG_WIDTH k) (by simp) (by simp)] at hrej
    refine ⟨_, exec_compareFire s k hcore harm hdue, (hstatus _ rfl).trans (cmpFire_hit _ _ _), (hstatus _ rfl).trans (cmpFire_late _ _),
      (hstatus _ rfl).trans ((cmpFire_hits _ _ _).trans ?_), ?_, fun h => ⟨(hstatus _ rfl).trans ?_, ?_⟩,
      fun h => ⟨(hstatus _ rfl).trans ?_, ?_⟩, fun h => ?_, fun h => ?_, ?_⟩
    · rw [cmp_rd_keeps (k := k) hday (R.CMP_STATUS_HITS k) (by simp) (by simp)]
    · rw [cmp_rdW_keeps (k := k) hlast _ _ (by simp) (by simp) (by simp) (by simp), cmpFire_hitTime, State.tb2, toDay_eq]
      rfl
    · rw [cmpFire_armed, hper, if_pos h]
    · rw [cmpTgt_keeps hlast, cmpFire_tgt_kept _ _ _ (hper.trans h), htgt]
    · rw [cmpFire_armed, hper, if_neg h]
    · rw [cmpTgt_keeps hlast, cmpFire_tgt_moved _ _ _ (fun e => h (hper.symm.trans e)), htgt, hper]
    · simpa only [latch_frame] using hout.subset (hrej.1 h)
    · simpa only [latch_frame] using hout.subset (hrej.2 h)
    · exact eq_of_sansCompare (hlast.1.trans ((congrArg sansCompare (cmpFire_unnoticed _ _ _)).trans hday.1))
  · rintro ⟨-, harm, hdue⟩
    rw [flag_eq_true] at harm
    rcases h with h | h
    · omega
    · rw [h] at hdue
      exact absurd hdue (by decide)

/-! ## States that meet the hypotheses -/

/-- A module in Day whose unit 0 is armed for a target of ENC0's print position 0, with REJ0 and a width of 10. -/
def armedState (tgt period : Word) : State :=
  { dayState with regs := [(R.CMP_STATUS 0, 1), (R.CMP_CFG 0, 0xA0020), (R.CMP_TGT_LO 0, tgt), (R.CMP_PERIOD 0, period)] }

/-- The reference is at the target: the unit fires, drives REJ0, and is no longer armed. -/
theorem compareFires_once_witness :
    ∃ t, exec (.compareFire 0) (armedState 0 0) = .next t ∧ t.rd (R.CMP_STATUS_HIT 0) = 1 ∧ t.rd (R.CMP_STATUS_HITS 0) = 1 ∧
      t.rd (R.CMP_STATUS_ARMED 0) = 0 ∧ Output.cmpReject 0 0 0 10 ∈ t.out := by
  obtain ⟨t, hrun, hhit, -, hhits, -, honce, -, hrej, -⟩ :=
    compareFires.1 (armedState 0 0) 0 (by decide +kernel) (by decide +kernel) (by decide +kernel)
  exact ⟨t, hrun, hhit, hhits.trans (by decide +kernel), (honce (by decide +kernel)).1, hrej (by decide +kernel)⟩

/-- With a period of 5 it stays armed, for a target of 5. -/
theorem compareFires_period_witness :
    ∃ t, exec (.compareFire 0) (armedState 0 5) = .next t ∧ t.rd (R.CMP_STATUS_ARMED 0) = 1 ∧ t.cmpTgt 0 = 5 := by
  obtain ⟨t, hrun, -, -, -, -, -, hagain, -⟩ :=
    compareFires.1 (armedState 0 5) 0 (by decide +kernel) (by decide +kernel) (by decide +kernel)
  obtain ⟨harm, htgt⟩ := hagain (by decide +kernel)
  exact ⟨t, hrun, harm, htgt.trans (by decide +kernel)⟩

/-- One unit ahead of the reference, it waits. -/
theorem compareFires_ahead_witness : exec (.compareFire 0) (armedState 1 0) = .next (armedState 1 0) :=
  compareFires.2 (armedState 1 0) 0 (.inr (by decide +kernel))

end Sys2Proof.Machine
end

section
/-! PROOFS. Triggers of line generators, fixed line clocks and the line synchronisation (R185, R203 to R205). -/

namespace Sys2Proof.Machine

variable {s t u : State} {j k : Nat}

/-! ## What a source count changes in the timing generators (R203) -/

/-- The words of the timing generators' line counts. -/
def lineWords : List Nat := (List.range 16).map R.TG_LINE_LO ++ (List.range 16).map R.TG_LINE_HI

theorem mem_lineWords {a : Nat} : a ∈ lineWords ↔ ∃ k < 16, a = R.TG_LINE_LO k ∨ a = R.TG_LINE_HI k := by
  simp only [lineWords, List.mem_append, List.mem_map, List.mem_range]
  constructor
  · rintro (⟨k, hk, rfl⟩ | ⟨k, hk, rfl⟩)
    · exact ⟨k, hk, .inl rfl⟩
    · exact ⟨k, hk, .inr rfl⟩
  · rintro ⟨k, hk, rfl | rfl⟩
    · exact .inl ⟨k, hk, rfl⟩
    · exact .inr ⟨k, hk, rfl⟩

/-- A word below the generators, or among their first six registers, is no line count. -/
theorem not_lineWord {a : Nat} (h : a < 0x50000 ∨ a % 64 < 0x18 ∨ 0x50400 ≤ a) : a ∉ lineWords := by
  rw [mem_lineWords]
  rintro ⟨k, hk, rfl | rfl⟩
  · simp only [R.TG_LINE_LO] at h
    omega
  · simp only [R.TG_LINE_HI] at h
    omega

/-- The state less the registers, the timing generators and what the leaves hold. -/
def sansLines (u : State) : State := { u with regs := [], tgs := [], spans := { u.spans with leaves := [] } }

/-- `s` with registers, generators and leaves taken from `t`. -/
def State.linesOf (s t : State) : State := { s with regs := t.regs, spans := { s.spans with leaves := t.spans.leaves }, tgs := t.tgs }

theorem eq_of_sansLines (h : sansLines t = sansLines s) : t = s.linesOf t :=
  calc
    t = (sansLines t).linesOf t := rfl
    _ = (sansLines s).linesOf t := by rw [h]
    _ = _ := rfl

/-- A generator less its triggers. -/
def Tg.sansTrigger (g : Tg) : Tg := { g with trig := none, trigs := [] }

/-- Only line counts and triggers differ. -/
structure LineKeeps (s t : State) : Prop where
  rest : sansLines t = sansLines s
  words : SameWords s t lineWords
  clocks : ∀ k, (t.tg k).sansTrigger = (s.tg k).sansTrigger

namespace LineKeeps

theorem refl (s : State) : LineKeeps s s := ⟨rfl, fun _ _ => rfl, fun _ => rfl⟩

theorem trans (h : LineKeeps s t) (h' : LineKeeps t u) : LineKeeps s u :=
  ⟨h'.rest.trans h.rest, fun a ha => (h'.words a ha).trans (h.words a ha), fun k => (h'.clocks k).trans (h.clocks k)⟩

theorem foldl {f : State → Nat → State} {l : List Nat} (h : ∀ t, ∀ x ∈ l, LineKeeps t (f t x)) (s : State) :
    LineKeeps s (l.foldl f s) := by
  induction l generalizing s with
  | nil => exact refl s
  | cons x l ih => exact (h s x List.mem_cons_self).trans (ih (fun t y hy => h t y (List.mem_cons_of_mem x hy)) (f s x))

/-- TGk_CFG reads as before. -/
theorem cfg (h : LineKeeps s t) (f : Field) (hf : f.addr = R.TG_CFG k) : t.rd f = s.rd f :=
  rd_congr _ _ f (h.words _ (not_lineWord (by rw [hf]; simp only [R.TG_CFG]; omega)))

end LineKeeps

theorem setCount_lines (s : State) (n : Nat) (hk : k < 16) : SameWords s (s.setCount k n) lineWords := fun a ha => by
  rw [mem_lineWords] at ha
  exact wrW_word _ _ _ _ _ (fun e => ha ⟨k, hk, .inl e⟩) (fun e => ha ⟨k, hk, .inr e⟩)

theorem onTg_clocks (s : State) (k : Nat) (f : Tg → Tg) (hf : ∀ g, (f g).sansTrigger = g.sansTrigger) (j : Nat) :
    ((s.onTg k f).tg j).sansTrigger = (s.tg j).sansTrigger := by
  by_cases h : j = k
  · rw [h, tg_onTg_same, hf]
  · rw [tg_onTg_ne _ _ _ _ h]

theorem trigger_lines (s : State) (n num den : Nat) (hk : k < 16) : LineKeeps s (s.trigger k n num den) where
  rest := rfl
  words := setCount_lines s n hk
  clocks := onTg_clocks (s.setCount k n) k _ fun _ => rfl

theorem feed_lines (s : State) (src num den : Nat) (hk : k < 16) : LineKeeps s (s.feed k src num den) := by
  unfold State.feed
  extract_lets div n
  split
  · exact LineKeeps.refl s
  · split
    · refine (trigger_lines s _ _ _ hk).trans (LineKeeps.foldl (fun t j hj => ?_) _)
      split
      · exact trigger_lines t _ _ _ (List.mem_range.1 hj)
      · exact LineKeeps.refl t
    · exact LineKeeps.refl s

theorem feedAll_lines (s : State) (code src num den : Nat) : LineKeeps s (s.feedAll code src num den) :=
  LineKeeps.foldl (fun t k hk => by
    split
    · exact feed_lines t _ _ _ (List.mem_range.1 hk)
    · exact LineKeeps.refl t) s

/-! ## Line counts are raised, never lowered (R203) -/

theorem lineCount_congr (h : t.regs = s.regs) (k : Nat) : t.lineCount k = s.lineCount k :=
  rdW_congr _ _ (word_congr _ _ _ h) (word_congr _ _ _ h)

theorem lineCount_setCount_same (s : State) (k n : Nat) : (s.setCount k n).lineCount k = n % 2 ^ 48 := by
  rw [State.lineCount, State.setCount, rdW_wrW s _ _ _ rfl rfl rfl (by simp)]
  exact Nat.mod_mod _ _

theorem lineCount_setCount_ne (s : State) (n : Nat) (h : j ≠ k) : (s.setCount k n).lineCount j = s.lineCount j :=
  rdW_congr _ _ (wrW_word s _ _ _ _ (by simp only [R.TG_LINE_LO]; omega) (by simp only [R.TG_LINE_LO, R.TG_LINE_HI]; omega))
    (wrW_word s _ _ _ _ (by simp only [R.TG_LINE_LO, R.TG_LINE_HI]; omega) (by simp only [R.TG_LINE_HI]; omega))

theorem lineCount_trigger_same (s : State) (k n num den : Nat) : (s.trigger k n num den).lineCount k = n % 2 ^ 48 := by
  rw [lineCount_congr (show (s.trigger k n num den).regs = (s.setCount k n).regs from rfl), lineCount_setCount_same]

theorem lineCount_trigger_ne (s : State) (n num den : Nat) (h : j ≠ k) : (s.trigger k n num den).lineCount j = s.lineCount j := by
  rw [lineCount_congr (show (s.trigger k n num den).regs = (s.setCount k n).regs from rfl), lineCount_setCount_ne _ _ h]

/-- A generator that follows no other keeps its count when another generator's followers are triggered. -/
theorem lineCount_followers (s s0 : State) (n num den : Nat) (hj : s0.rd (R.TG_CFG_SRC j) < 0x20) (l : List Nat) :
    (l.foldl (fun (t : State) i =>
      if s0.rd (R.TG_CFG_SRC i) = 0x20 + k ∧ s0.flag (R.TG_CFG_EN i) then t.trigger i n num den else t) s).lineCount j =
      s.lineCount j := by
  refine foldl_keeps (fun u : State => u.lineCount j) _ (fun t i => ?_) l s
  split
  · next h => exact lineCount_trigger_ne _ _ _ _ (by rintro rfl; omega)
  · rfl

theorem lineCount_feed_same (s : State) (src num den : Nat) (hsrc : s.rd (R.TG_CFG_SRC k) < 0x20) (hen : s.rd (R.TG_CFG_EN k) = 1)
    (hfit : src / (s.rd (R.TG_CFG_DIV k) + 1) < 2 ^ 48) :
    (s.feed k src num den).lineCount k = max (s.lineCount k) (src / (s.rd (R.TG_CFG_DIV k) + 1)) := by
  unfold State.feed
  extract_lets div n
  rw [if_neg (by simp [(flag_eq_true s _).2 hen])]
  split
  · next h =>
    rw [lineCount_followers _ _ _ _ _ hsrc, lineCount_trigger_same, Nat.mod_eq_of_lt hfit]
    exact (Nat.max_eq_right h.le).symm
  · next h => exact (Nat.max_eq_left (Nat.le_of_not_lt h)).symm

theorem lineCount_feed_ne (s : State) (src num den : Nat) (hj : s.rd (R.TG_CFG_SRC j) < 0x20) (hne : j ≠ k) :
    (s.feed k src num den).lineCount j = s.lineCount j := by
  unfold State.feed
  extract_lets div n
  split
  · rfl
  · split
    · rw [lineCount_followers _ _ _ _ _ hj, lineCount_trigger_ne _ _ _ _ hne]
    · rfl

/-- A generator that no other source feeds first takes the greater count when some of the generators are fed. -/
theorem lineCount_feedFold {code src : Nat} (num den : Nat) (hcode : code < 0x20) (l : List Nat) (hl : ∀ k ∈ l, k < 16) (s : State)
    (hj : s.rd (R.TG_CFG_SRC j) = code) (hen : s.rd (R.TG_CFG_EN j) = 1) (hfit : src / (s.rd (R.TG_CFG_DIV j) + 1) < 2 ^ 48) :
    (l.foldl (fun (t : State) k => if t.rd (R.TG_CFG_SRC k) = code then t.feed k src num den else t) s).lineCount j =
      if j ∈ l then max (s.lineCount j) (src / (s.rd (R.TG_CFG_DIV j) + 1)) else s.lineCount j := by
  induction l generalizing s with
  | nil => rfl
  | cons k l ih =>
    have hstep : LineKeeps s (if s.rd (R.TG_CFG_SRC k) = code then s.feed k src num den else s) := by
      split
      · exact feed_lines s _ _ _ (hl k List.mem_cons_self)
      · exact LineKeeps.refl s
    have hdiv := hstep.cfg (R.TG_CFG_DIV j) rfl
    have hcount : (if s.rd (R.TG_CFG_SRC k) = code then s.feed k src num den else s).lineCount j =
        if j = k then max (s.lineCount j) (src / (s.rd (R.TG_CFG_DIV j) + 1)) else s.lineCount j := by
      by_cases h : j = k
      · subst h
        rw [if_pos hj, if_pos rfl, lineCount_feed_same _ _ _ _ (by omega) hen hfit]
      · rw [if_neg h]
        split
        · exact lineCount_feed_ne _ _ _ _ (by omega) h
        · rfl
    rw [List.foldl_cons, ih (fun i hi => hl i (List.mem_cons_of_mem k hi)) _ ((hstep.cfg _ rfl).trans hj) ((hstep.cfg _ rfl).trans hen)
      (by rw [hdiv]; exact hfit), hdiv, hcount]
    by_cases h : j = k
    · simp [h]
    · simp [h]

theorem lineCount_feedAll {code src : Nat} (s : State) (num den : Nat) (j : Fin 16) (hcode : code < 0x20)
    (hj : s.rd (R.TG_CFG_SRC j) = code) (hen : s.rd (R.TG_CFG_EN j) = 1) (hfit : src < 2 ^ 48) :
    (s.feedAll code src num den).lineCount j = max (s.lineCount j) (src / (s.rd (R.TG_CFG_DIV j) + 1)) :=
  (lineCount_feedFold num den hcode _ (fun _ => List.mem_range.1) s hj hen (Nat.lt_of_le_of_lt (Nat.div_le_self _ _) hfit)).trans
    (if_pos (List.mem_range.2 j.isLt))

/-! ## Line generators (R185) -/

theorem latch_lineCount (s : State) (k : Nat) : s.latch.lineCount k = s.lineCount k := lineCount_congr (by simp only [latch_frame]) k

theorem latch_sansLines (s : State) : sansLines s.latch = sansLines s := by
  rw [latch_eq_leaves]
  rfl

theorem latch_word (s : State) (a : Nat) : s.latch.word a = s.word a := word_congr _ _ a (by simp only [latch_frame])

theorem latch_tg (s : State) (k : Nat) : s.latch.tg k = s.tg k := by simp only [State.tg, latch_frame]

/-- A pair of words below the timing generators is written, and then a source's count is fed. -/
theorem lineCount_wrW (s : State) (lo hi : Field) (v k : Nat) (hlo : lo.addr < 0x50000 ∨ 0x50400 ≤ lo.addr)
    (hhi : hi.addr < 0x50000 ∨ 0x50400 ≤ hi.addr) (hk : k < 16) : (s.wrW lo hi v).lineCount k = s.lineCount k :=
  rdW_congr _ _ (wrW_word _ _ _ _ _ (by simp only [R.TG_LINE_LO]; omega) (by simp only [R.TG_LINE_LO]; omega))
    (wrW_word _ _ _ _ _ (by simp only [R.TG_LINE_HI]; omega) (by simp only [R.TG_LINE_HI]; omega))

theorem tgCfg_wrW (s : State) (lo hi : Field) (v k : Nat) (f : Field) (hf : f.addr = R.TG_CFG k)
    (hlo : lo.addr < 0x50000 ∨ 0x50400 ≤ lo.addr) (hhi : hi.addr < 0x50000 ∨ 0x50400 ≤ hi.addr) (hk : k < 16) :
    (s.wrW lo hi v).rd f = s.rd f :=
  rd_congr _ _ f (wrW_word _ _ _ _ _ (by rw [hf]; simp only [R.TG_CFG]; omega) (by rw [hf]; simp only [R.TG_CFG]; omega))

/-- The lines of a line generator reach the timing generators on it. -/
theorem lgTrigger_feeds (s : State) (k : Fin 16) (line : Nat) (hline : line = Sparse.get 0 s.lgs k / 2 ^ 32 % 2 ^ 48)
    (hcore : s.coreOn = true) (hen : s.rd (R.LG_CFG_EN k) = 1) (hnew : s.lgLine k < line) :
    ∃ t, exec (.lgTrigger k) s = .next t ∧ t.lgLine k = line ∧
      (∀ j : Fin 16, s.rd (R.TG_CFG_SRC j) = k → s.rd (R.TG_CFG_EN j) = 1 →
        t.lineCount j = max (s.lineCount j) (line / (s.rd (R.TG_CFG_DIV j) + 1))) ∧
      t = { s with regs := t.regs, spans := { s.spans with leaves := t.spans.leaves }, tgs := t.tgs } ∧
      SameWords s t ([R.LG_LINE_LO k, R.LG_LINE_HI k] ++ lineWords) := by
  have hk := k.isLt
  have hfit : line < 2 ^ 48 := hline ▸ Nat.mod_lt _ (by decide)
  have hlo : (R.LG_LINE_LO_LINE k).addr < 0x50000 := by simp only [R.LG_LINE_LO]; omega
  have hhi : (R.LG_LINE_HI_LINE k).addr < 0x50000 := by simp only [R.LG_LINE_HI]; omega
  let s1 := s.wrW (R.LG_LINE_LO_LINE k) (R.LG_LINE_HI_LINE k) line
  let num := Sparse.get 0 s.lgs k % 2 ^ 32
  have hfeed := feedAll_lines s1 k line num (2 ^ 32)
  refine ⟨(s1.feedAll k line num (2 ^ 32)).latch, ?_, ?_, fun j hj hjen => ?_, ?_, fun a ha => ?_⟩
  · subst hline
    exact if_pos ⟨hcore, (flag_eq_true s _).2 hen, hnew⟩
  · calc (s1.feedAll k line num (2 ^ 32)).latch.lgLine k
      _ = s1.lgLine k := rdW_congr _ _ ((latch_word _ _).trans (hfeed.words _ (not_lineWord (.inl hlo))))
            ((latch_word _ _).trans (hfeed.words _ (not_lineWord (.inl hhi))))
      _ = line % 2 ^ 48 := rdW_wrW s _ _ _ rfl rfl rfl (by simp)
      _ = line := Nat.mod_eq_of_lt hfit
  · have hcfg (f : Field) (hf : f.addr = R.TG_CFG j) : s1.rd f = s.rd f := tgCfg_wrW s _ _ _ j f hf (.inl hlo) (.inl hhi) j.isLt
    rw [latch_lineCount, lineCount_feedAll s1 num (2 ^ 32) j (by omega) ((hcfg _ rfl).trans hj) ((hcfg _ rfl).trans hjen) hfit,
      hcfg _ rfl, lineCount_wrW _ _ _ _ _ (.inl hlo) (.inl hhi) j.isLt]
  · exact eq_of_sansLines ((latch_sansLines _).trans hfeed.rest)
  · simp only [List.mem_append, List.mem_cons, List.not_mem_nil, or_false, not_or] at ha
    obtain ⟨⟨hnlo, hnhi⟩, hline⟩ := ha
    exact (latch_word _ _).trans ((hfeed.words a hline).trans (wrW_word _ _ _ _ _ hnlo hnhi))

/-! ## Fixed line clocks (R204) -/

/-- Whole periods leave a clock's accumulator, and raise the generator's line count. -/
theorem fixedClock_feeds (s : State) (k : Fin 16) (per total n : Nat) (hper : per = max 1 (s.rd (R.TG_PERIOD_PERIOD k)))
    (htotal : total = (s.tg k).acc + 256 * (s.time - (s.tg k).accAt)) (hn : n = (s.tg k).offset + total / per) (hcore : s.coreOn = true)
    (hen : s.rd (R.TG_CFG_EN k) = 1) (hsrc : s.rd (R.TG_CFG_SRC k) = 0x11) (hdue : per ≤ total) :
    ∃ t, exec (.fixedClockTrigger k) s = .next t ∧ (t.tg k).acc = total % per ∧ (t.tg k).offset = n ∧ (t.tg k).accAt = s.time ∧
      (n / (s.rd (R.TG_CFG_DIV k) + 1) < 2 ^ 48 → t.lineCount k = max (s.lineCount k) (n / (s.rd (R.TG_CFG_DIV k) + 1))) ∧
      t = { s with regs := t.regs, spans := { s.spans with leaves := t.spans.leaves }, tgs := t.tgs } ∧ SameWords s t lineWords := by
  let s1 := s.onTg k (fun x => { x with acc := total % per, accAt := s.time, offset := n })
  have hfeed := feed_lines s1 n (total % per) per k.isLt
  have htg := tg_onTg_same s k (fun x => { x with acc := total % per, accAt := s.time, offset := n })
  have hclock := hfeed.clocks k
  rw [show s1.tg k = _ from htg] at hclock
  refine ⟨(s1.feed k n (total % per) per).latch, ?_, ?_, ?_, ?_, fun hfit => ?_, ?_, fun a ha => ?_⟩
  · subst hn htotal hper
    exact if_pos ⟨hcore, (flag_eq_true s _).2 hen, hsrc, hdue⟩
  · rw [latch_tg]
    exact congrArg Tg.acc hclock
  · rw [latch_tg]
    exact congrArg Tg.offset hclock
  · rw [latch_tg]
    exact congrArg Tg.accAt hclock
  · exact (latch_lineCount _ _).trans (lineCount_feed_same s1 n _ _ (show s.rd _ < 0x20 by rw [hsrc]; decide) hen hfit)
  · exact eq_of_sansLines ((latch_sansLines _).trans hfeed.rest)
  · exact (latch_word _ _).trans (hfeed.words a ha)

/-! ## LINESYNC_IN (R205) -/

theorem applyPend_eq (s : State) (a : Nat) :
    s.applyPend a = { s with regs := (s.applyPend a).regs, pendw := (s.applyPend a).pendw } := by
  unfold State.applyPend
  split <;> rfl

theorem applyPend_word (s : State) (a b : Nat) (h : b ≠ a) : (s.applyPend a).word b = s.word b := by
  unfold State.applyPend
  split
  · exact word_setWord_ne _ _ _ _ h
  · rfl

theorem lsiApply_eq (s : State) : s.lsiApply = { s with regs := s.lsiApply.regs, pendw := s.lsiApply.pendw } := by
  unfold State.lsiApply
  split
  · rfl
  · exact applyPend_eq s _

theorem lsiApply_word (s : State) (a : Nat) (h : a ≠ R.LSI_CFG) : s.lsiApply.word a = s.word a := by
  unfold State.lsiApply
  split
  · rfl
  · exact applyPend_word s _ _ h

theorem skewTriggers_regs (s : State) (t : Nat) : (s.skewTriggers t).regs = s.regs :=
  foldl_keeps State.regs _ (fun u k => by split <;> rfl) _ s

theorem skewTriggers_time (s : State) (t : Nat) : (s.skewTriggers t).time = s.time :=
  foldl_keeps State.time _ (fun u k => by split <;> rfl) _ s

theorem skewTriggers_sansLines (s : State) (t : Nat) : sansLines (s.skewTriggers t) = sansLines s :=
  foldl_keeps sansLines _ (fun u k => by split <;> rfl) _ s

/-- The state less what LINESYNC_IN may change. -/
def sansLineIn (u : State) : State :=
  { u with time := 0, regs := [], pendw := [], tgs := [], spans := { u.spans with leaves := [] } }

theorem wr_sansLineIn (s : State) (f : Field) (v : Nat) : sansLineIn (s.wr f v) = sansLineIn s := rfl

theorem lsiApply_sansLineIn (s : State) : sansLineIn s.lsiApply = sansLineIn s := by
  rw [lsiApply_eq]
  rfl

theorem sansLineIn_of_sansLines (h : sansLines t = sansLines s) : sansLineIn t = sansLineIn s :=
  (congrArg sansLineIn h :)

/-- `s` with what LINESYNC_IN may change taken from `t`. -/
def State.lineInOf (s t : State) : State := { s.linesOf t with time := t.time, pendw := t.pendw }

theorem eq_of_sansLineIn (h : sansLineIn t = sansLineIn s) : t = s.lineInOf t :=
  calc
    t = (sansLineIn t).lineInOf t := rfl
    _ = (sansLineIn s).lineInOf t := by rw [h]
    _ = _ := rfl

/-- The edge is counted. -/
def State.edgeCounted (s : State) (n : Nat) : State := s.lsiApply.wrW R.LSI_COUNT_LO_COUNT R.LSI_COUNT_HI_COUNT n

theorem edgeCounted_count (s : State) (n : Nat) (hfit : n < 2 ^ 48) :
    (s.edgeCounted n).rdW R.LSI_COUNT_LO_COUNT R.LSI_COUNT_HI_COUNT = n := by
  rw [State.edgeCounted, rdW_wrW _ _ _ _ rfl rfl rfl (by simp)]
  exact Nat.mod_eq_of_lt hfit

theorem edgeCounted_word (s : State) (n a : Nat) (hc : a ≠ R.LSI_CFG) (hlo : a ≠ R.LSI_COUNT_LO) (hhi : a ≠ R.LSI_COUNT_HI) :
    (s.edgeCounted n).word a = s.word a := (wrW_word _ _ _ _ a hlo hhi).trans (lsiApply_word s a hc)

theorem edgeCounted_sansLineIn (s : State) (n : Nat) : sansLineIn (s.edgeCounted n) = sansLineIn s :=
  (wr_sansLineIn _ _ _).trans ((wr_sansLineIn _ _ _).trans (lsiApply_sansLineIn s))

/-- The sources of the edge are fed at its sample tick. -/
def State.edgeFed (s : State) (t n : Nat) : State := State.feedAll { s.edgeCounted n with time := t } 0x10 n 0 1

theorem edgeFed_word (s : State) (t n a : Nat) (ha : a ∉ lineWords) : (s.edgeFed t n).word a = (s.edgeCounted n).word a :=
  ((feedAll_lines _ _ _ _ _).words a ha).trans (word_congr _ _ a rfl)

theorem edgeFed_sansLineIn (s : State) (t n : Nat) : sansLineIn (s.edgeFed t n) = sansLineIn s :=
  (sansLineIn_of_sansLines (feedAll_lines _ _ _ _ _).rest).trans (edgeCounted_sansLineIn s n)

theorem edgeFed_lineCount (s : State) (t n : Nat) (j : Fin 16) (hj : s.rd (R.TG_CFG_SRC j) = 0x10) (hen : s.rd (R.TG_CFG_EN j) = 1)
    (hfit : n < 2 ^ 48) : (s.edgeFed t n).lineCount j = max (s.lineCount j) (n / (s.rd (R.TG_CFG_DIV j) + 1)) := by
  have hj' := j.isLt
  have hown (a : Nat) (ha : a < 0x50400) : ({ s.edgeCounted n with time := t } : State).word a = s.word a :=
    (word_congr _ _ a rfl).trans (edgeCounted_word s n a (by simp only [R.LSI_CFG]; omega) (by simp only [R.LSI_COUNT_LO]; omega)
      (by simp only [R.LSI_COUNT_HI]; omega))
  have hcfg (f : Field) (hf : f.addr = R.TG_CFG j) : ({ s.edgeCounted n with time := t } : State).rd f = s.rd f :=
    rd_congr _ _ f (hown _ (by rw [hf]; simp only [R.TG_CFG]; omega))
  have hcount : ({ s.edgeCounted n with time := t } : State).lineCount j = s.lineCount j :=
    rdW_congr _ _ (hown _ (by simp only [R.TG_LINE_LO]; omega)) (hown _ (by simp only [R.TG_LINE_HI]; omega))
  rw [State.edgeFed, lineCount_feedAll _ 0 1 j (by decide) ((hcfg _ rfl).trans hj) ((hcfg _ rfl).trans hen) hfit, hcfg _ rfl, hcount]

/-- An accepted edge counts one, and reaches the timing generators on LINESYNC_IN. -/
theorem linesyncIn_feeds (s : State) (age n : Nat) (hn : n = (s.rdW R.LSI_COUNT_LO_COUNT R.LSI_COUNT_HI_COUNT + 1) % 2 ^ 48)
    (hcore : s.coreOn = true) :
    ∃ t, exec (.linesyncIn age) s = .next t ∧ t.rdW R.LSI_COUNT_LO_COUNT R.LSI_COUNT_HI_COUNT = n ∧ t.time = s.time ∧
      (∀ j : Fin 16, s.rd (R.TG_CFG_SRC j) = 0x10 → s.rd (R.TG_CFG_EN j) = 1 →
        t.lineCount j = max (s.lineCount j) (n / (s.rd (R.TG_CFG_DIV j) + 1))) ∧
      t = { s with
          time := t.time, regs := t.regs, pendw := t.pendw, spans := { s.spans with leaves := t.spans.leaves }, tgs := t.tgs } ∧
      SameWords s t ([R.LSI_CFG, R.LSI_COUNT_LO, R.LSI_COUNT_HI] ++ lineWords) := by
  have hfit : n < 2 ^ 48 := hn ▸ Nat.mod_lt _ (by decide)
  let s3 := ({ s.edgeFed (s.time - age) n with time := s.time } : State).skewTriggers (s.time - age)
  have hregs : s3.latch.regs = (s.edgeFed (s.time - age) n).regs := by
    rw [show s3.latch.regs = s3.regs by simp only [latch_frame]]
    exact skewTriggers_regs _ _
  have hword (a : Nat) : s3.latch.word a = (s.edgeFed (s.time - age) n).word a := word_congr _ _ a hregs
  have hrest : sansLineIn s3.latch = sansLineIn s :=
    ((sansLineIn_of_sansLines (latch_sansLines _)).trans (sansLineIn_of_sansLines (skewTriggers_sansLines _ _))).trans
      (edgeFed_sansLineIn s _ n)
  refine ⟨s3.latch, ?_, ?_, ?_, fun j hj hen => ?_, eq_of_sansLineIn hrest, fun a ha => ?_⟩
  · subst hn
    exact if_neg (by simp [hcore])
  · rw [rdW_congr (s := s.edgeCounted n) _ _ ((hword _).trans (edgeFed_word _ _ _ _ (not_lineWord (.inr (.inr (by decide))))))
      ((hword _).trans (edgeFed_word _ _ _ _ (not_lineWord (.inr (.inr (by decide))))))]
    exact edgeCounted_count s n hfit
  · rw [show s3.latch.time = s3.time by simp only [latch_frame]]
    exact skewTriggers_time _ _
  · exact (lineCount_congr hregs j).trans (edgeFed_lineCount s _ n j hj hen hfit)
  · simp only [List.mem_append, List.mem_cons, List.not_mem_nil, or_false, not_or] at ha
    obtain ⟨⟨hncfg, hnlo, hnhi⟩, hline⟩ := ha
    exact (hword a).trans ((edgeFed_word _ _ _ a hline).trans (edgeCounted_word s n a hncfg hnlo hnhi))

/-! ## LINESYNC_OUT (R205) -/

/-- The state less the camera pipelines. -/
def sansCams (u : State) : State := { u with cams := [] }

theorem camTrigger_sansCams (s : State) (src : Nat) : sansCams (s.camTrigger src) = sansCams s :=
  foldl_keeps sansCams _ (fun t n => by split <;> rfl) (List.range 4) s

theorem lsoTick_bound {b : Int} {x : Nat} {late : Bool} (h : s.lsoTick = some (b, x, late)) :
    (s.tg (s.rd R.LSO_CFG_TG)).bound = some b := by
  unfold State.lsoTick at h
  dsimp only at h
  split at h
  · exact absurd h (by simp)
  · next c hc =>
    split at h
    · exact absurd h (by simp)
    · simp only [Option.some.injEq, Prod.mk.injEq] at h
      rw [hc, h.1]

/-- No pulse is due for a boundary that had its pulse. -/
theorem lsoTick_pulsed {b : Int} (hbound : (s.tg (s.rd R.LSO_CFG_TG)).bound = some b)
    (hpulsed : (s.tg (s.rd R.LSO_CFG_TG)).pulsed = some b) : s.lsoTick = none := by
  simp only [State.lsoTick, hbound, hpulsed, if_pos]

/-- The pulse leaves, and its boundary has had its pulse. -/
def State.pulseSent (s : State) (b : Int) (x : Nat) : State :=
  (s.emit (.linesync x)).onTg (s.rd R.LSO_CFG_TG) (fun g => { g with pulsed := some b })

/-- A pulse whose moment had passed is counted. -/
def State.lateCounted (s : State) (late : Bool) : State := if late then s.inc R.LSO_LATE_COUNT else s

theorem lateCounted_tgs (s : State) (late : Bool) : (s.lateCounted late).tgs = s.tgs := by
  unfold State.lateCounted
  split <;> rfl

theorem lateCounted_out (s : State) (late : Bool) : (s.lateCounted late).out = s.out := by
  unfold State.lateCounted
  split <;> rfl

theorem lateCounted_sansLines (s : State) (late : Bool) : sansLines (s.lateCounted late) = sansLines s := by
  unfold State.lateCounted
  split <;> rfl

theorem lateCounted_word (s : State) (late : Bool) (a : Nat) (h : a ≠ R.LSO_LATE) : (s.lateCounted late).word a = s.word a := by
  unfold State.lateCounted
  split
  · exact word_wr_ne _ _ _ _ h
  · rfl

theorem lateCounted_count (s : State) (late : Bool) :
    (s.lateCounted late).rd R.LSO_LATE_COUNT = (s.rd R.LSO_LATE_COUNT + b2n late) % 2 ^ 32 := by
  cases late
  · exact (Nat.mod_eq_of_lt (rd_lt s R.LSO_LATE_COUNT)).symm
  · exact rd_inc s _ rfl

theorem exec_linesyncOut {b : Int} {x : Nat} {late : Bool} (hcore : s.coreOn = true) (hen : s.rd R.LSO_CFG_EN = 1)
    (htick : s.lsoTick = some (b, x, late)) (hdue : x ≤ s.time) :
    exec .linesyncOut s = .next (((s.pulseSent b x).lateCounted late).camTrigger 3).latch := by
  show execLinesyncOut s = _
  unfold execLinesyncOut
  rw [if_pos ⟨hcore, (flag_eq_true s _).2 hen⟩, htick]
  exact if_neg (Nat.not_lt.2 hdue)

/-- The state less what LINESYNC_OUT may change. -/
def sansLineOut (u : State) : State :=
  { u with regs := [], tgs := [], cams := [], out := [], spans := { u.spans with leaves := [] } }

theorem sansLineOut_of_sansLines (h : sansLines t = sansLines s) : sansLineOut t = sansLineOut s :=
  (congrArg sansLineOut h :)

/-- `s` with what LINESYNC_OUT may change taken from `t`. -/
def State.lineOutOf (s t : State) : State := { s.linesOf t with cams := t.cams, out := t.out }

theorem eq_of_sansLineOut (h : sansLineOut t = sansLineOut s) : t = s.lineOutOf t :=
  calc
    t = (sansLineOut t).lineOutOf t := rfl
    _ = (sansLineOut s).lineOutOf t := by rw [h]
    _ = _ := rfl

/-- The pulse of a boundary that is due leaves once, and a late one is counted. -/
theorem linesyncOut_pulses (s : State) (b : Int) (x : Nat) (late : Bool) (hcore : s.coreOn = true) (hen : s.rd R.LSO_CFG_EN = 1)
    (htick : s.lsoTick = some (b, x, late)) (hdue : x ≤ s.time) :
    ∃ t, exec .linesyncOut s = .next t ∧ t.out = s.out ++ [.linesync x] ∧ t.lsoTick = none ∧
      t.rd R.LSO_LATE_COUNT = (s.rd R.LSO_LATE_COUNT + b2n late) % 2 ^ 32 ∧
      t = { s with
          regs := t.regs, spans := { s.spans with leaves := t.spans.leaves }, tgs := t.tgs, cams := t.cams, out := t.out } ∧
      SameWords s t [R.LSO_LATE] := by
  let s2 := (s.pulseSent b x).lateCounted late
  have hcam := camTrigger_sansCams s2 3
  have hregs : (s2.camTrigger 3).latch.regs = s2.regs := by
    simp only [latch_frame]
    exact (congrArg State.regs hcam :)
  have hout : (s2.camTrigger 3).latch.out = s.out ++ [.linesync x] := by
    simp only [latch_frame]
    exact (congrArg State.out hcam :).trans (lateCounted_out _ _)
  have hword (a : Nat) (ha : a ≠ R.LSO_LATE) : (s2.camTrigger 3).latch.word a = s.word a :=
    ((word_congr _ _ a hregs).trans (lateCounted_word _ _ a ha)).trans (word_congr _ _ a rfl)
  have htgs : (s2.camTrigger 3).latch.tgs = (s.pulseSent b x).tgs := by
    simp only [latch_frame]
    exact (congrArg State.tgs hcam :).trans (lateCounted_tgs _ _)
  have htg : (s2.camTrigger 3).latch.tg ((s2.camTrigger 3).latch.rd R.LSO_CFG_TG) = { s.tg (s.rd R.LSO_CFG_TG) with pulsed := some b } := by
    rw [rd_congr (s2.camTrigger 3).latch s R.LSO_CFG_TG (hword _ (by decide)), State.tg, htgs]
    exact tg_onTg_same (s.emit (.linesync x)) _ _
  have hrest : sansLineOut (s2.camTrigger 3).latch = sansLineOut s :=
    calc sansLineOut (s2.camTrigger 3).latch
      _ = sansLineOut (s2.camTrigger 3) := sansLineOut_of_sansLines (latch_sansLines _)
      _ = sansLineOut s2 := (congrArg sansLineOut hcam :)
      _ = sansLineOut (s.pulseSent b x) := sansLineOut_of_sansLines (lateCounted_sansLines _ _)
      _ = sansLineOut s := rfl
  refine ⟨_, exec_linesyncOut hcore hen htick hdue, hout, lsoTick_pulsed (b := b) ?_ ?_, ?_, eq_of_sansLineOut hrest, fun a ha => ?_⟩
  · rw [htg]
    exact lsoTick_bound htick
  · rw [htg]
  · rw [rd_congr _ s2 R.LSO_LATE_COUNT (word_congr _ _ _ hregs), lateCounted_count]
    rfl
  · exact hword a (by simpa using ha)

/-- Settles O42, a source at a time: the source's own count, and the counts of the generators it feeds. -/
theorem lineSources : Obligations.LineSources := by
  refine ⟨fun s k line hline hcore hen hnew => ?_, fun s k per total n hper htotal hn hcore hen hsrc hdue =>
    fixedClock_feeds s k per total n hper htotal hn hcore hen hsrc hdue, fun s age n hn hcore => ?_, linesyncOut_pulses⟩
  · obtain ⟨t, hrun, hcount, hfed, hframe, hwords⟩ := lgTrigger_feeds s k line hline hcore hen hnew
    exact ⟨t, hrun, hcount, hfed, hframe, by rw [List.append_assoc]; exact hwords⟩
  · obtain ⟨t, hrun, hcount, htime, hfed, hframe, hwords⟩ := linesyncIn_feeds s age n hn hcore
    exact ⟨t, hrun, hcount, htime, hfed, hframe, by rw [List.append_assoc]; exact hwords⟩

/-! ## States that meet the hypotheses -/

/-- A module in Day with timing generator 3 enabled on a source, at two source counts a line, one more register set, and line generator
0 just past its fifth line boundary. -/
def sourceState (src : Word) (reg : Nat × Word) : State :=
  { dayState with regs := [reg, (R.TG_CFG 3, src + 0x140)], lgs := [(0, 5 * 2 ^ 32 + 7)] }

/-- The timing generator on line generator 0 is at line 2. -/
theorem lineSources_generator_witness :
    ∃ t, exec (.lgTrigger 0) (sourceState 0 (R.LG_CFG 0, 1)) = .next t ∧ t.lgLine 0 = 5 ∧ t.lineCount 3 = 2 := by
  obtain ⟨t, hrun, hline, hfed, -⟩ := lineSources.1 (sourceState 0 (R.LG_CFG 0, 1)) 0 5 (by decide +kernel) (by decide +kernel)
    (by decide +kernel) (by decide +kernel)
  exact ⟨t, hrun, hline, (hfed 3 (by decide +kernel) (by decide +kernel)).trans (by decide +kernel)⟩

/-- The edge after 2^32 - 1 others. -/
theorem lineSources_edge_witness :
    ∃ t, exec (.linesyncIn 0) (sourceState 0x10 (R.LSI_COUNT_LO, 0xFFFFFFFF)) = .next t ∧
      t.rdW R.LSI_COUNT_LO_COUNT R.LSI_COUNT_HI_COUNT = 2 ^ 32 ∧ t.lineCount 3 = 2 ^ 31 := by
  obtain ⟨t, hrun, hcount, -, hfed, -⟩ := lineSources.2.2.1 (sourceState 0x10 (R.LSI_COUNT_LO, 0xFFFFFFFF)) 0 (2 ^ 32)
    (by decide +kernel) (by decide +kernel)
  exact ⟨t, hrun, hcount, (hfed 3 (by decide +kernel) (by decide +kernel)).trans (by decide +kernel)⟩

/-- Generator 0 on its own clock of 100, with one whole period in the accumulator. -/
def clockState : State :=
  { dayState with regs := [(R.TG_CFG 0, 0x51), (R.TG_PERIOD 0, 100)], tgs := [(0, { acc := 100, accAt := dayState.time })] }

theorem lineSources_clock_witness :
    ∃ t, exec (.fixedClockTrigger 0) clockState = .next t ∧ (t.tg 0).acc = 0 ∧ (t.tg 0).offset = 1 ∧ t.lineCount 0 = 1 := by
  obtain ⟨t, hrun, hacc, hoff, -, hcount, -⟩ := lineSources.2.1 clockState 0 100 100 1 (by decide +kernel) (by decide +kernel)
    (by decide +kernel) (by decide +kernel) (by decide +kernel) (by decide +kernel) (by decide +kernel)
  exact ⟨t, hrun, hacc, hoff, (hcount (by decide +kernel)).trans (by decide +kernel)⟩

/-- The pulse of generator 0's boundary at 0, of a trigger at tick 5: its moment had passed, so it leaves at 5 and is counted. -/
def pulseState : State :=
  { dayState with time := 5, regs := [(R.LSO_CFG, 0x10), (R.LSO_DELAY, 0)], tgs := [(0, { bound := some 0, lastTick := 5 })] }

theorem lineSources_pulse_witness :
    ∃ t, exec .linesyncOut pulseState = .next t ∧ t.out = [.linesync 5] ∧ t.lsoTick = none ∧ t.rd R.LSO_LATE_COUNT = 1 := by
  obtain ⟨t, hrun, hout, htick, hlate, -⟩ := lineSources.2.2.2 pulseState 0 5 true (by decide +kernel) (by decide +kernel)
    (by decide +kernel) (by decide +kernel)
  exact ⟨t, hrun, hout.trans (by decide +kernel), htick, hlate.trans (by decide +kernel)⟩

end Sys2Proof.Machine
end

section
/-! PROOFS. Counts of an encoder: positions, direction, line generators, and what hangs on them (R175 to R186, R197 to R199). -/

namespace Sys2Proof.Machine

variable {s t u : State} {n m k : Nat}

/-! ## What the generators' depths, the divided outputs and the cameras change (R181, R197, R317) -/

/-- The state less what an aborted piece, the divided outputs and the camera triggers may change beside what is noticed. -/
def sansAborts (u : State) : State :=
  { u with
    pow := { u.pow with lastBusy := 0 }, pieces := [], ended := [], rejects := [], ring := [], encouts := [], cams := [], evid := []
    verify := [] }

/-- The words outside the encoders' registers. -/
def offEncWord (a : Nat) : Bool := decide (a < 0x40000) || decide (0x40100 ≤ a)

theorem offEnc_low {a : Nat} (h : a < 0x40000) : offEncWord a = true := by simp [offEncWord, h]

theorem offEnc_high {a : Nat} (h : 0x40100 ≤ a) : offEncWord a = true := by simp [offEncWord, h]

theorem offEnc_plumb (a : Nat) (h : plumbWord a = true) : offEncWord a = true := by
  rcases plumbWord_cases h with h | h | h
  · exact offEnc_low (by omega)
  · exact offEnc_low (by omega)
  · exact offEnc_high (by omega)

/-- A word of an encoder's registers. -/
theorem encWord_off (n : Fin 2) (b : Nat) (hlo : 0x40000 ≤ b) (hhi : b < 0x40080) : offEncWord (b + 128 * n.val) = false := by
  simp only [offEncWord, Bool.or_eq_false_iff, decide_eq_false_iff_not]
  omega

/-- A frame in which the encoders' registers and counts, and the generators' accumulators, stay. -/
abbrev AbortKeeps := Keeps sansAborts offEncWord

theorem abortPiece_keeps (s : State) (num reason : Nat) : AbortKeeps s (s.abortPiece num reason) := by
  unfold State.abortPiece
  split
  · exact Keeps.refl s
  · next p _ =>
    obtain ⟨v, hrun, -, hkeeps⟩ := complete_raises (W := offEncWord) (fun a ha => offEnc_high (by omega)) s p (.aborted reason)
      fun k _ => offEnc_high (by simp only [R.CMP_STATUS]; omega)
    rw [hrun]
    exact (hkeeps.mono (fun _ => rfl) fun _ h => h).raise offEnc_plumb _ _ _

theorem reversal_keeps (s : State) (n k : Nat) : AbortKeeps s (s.reversal n k) := by
  have hdepth : offEncWord (R.LG_DEPTH k) = true := offEnc_high (by simp only [R.LG_DEPTH]; omega)
  have hmax : offEncWord (R.LG_REV_MAX k) = true := offEnc_high (by simp only [R.LG_REV_MAX]; omega)
  unfold State.reversal
  extract_lets d back show256 s1
  split
  · have h1 : AbortKeeps s s1 := ((Keeps.refl s).wr _ _ hdepth).wr _ _ hmax
    split
    · exact h1.trans (Keeps.foldl (fun u p _ => (abortPiece_keeps u _ _).raise offEnc_plumb _ _ _) s1)
    · exact h1
  · exact (Keeps.refl s).wr _ _ hdepth

theorem encouts_keeps (s : State) (l : Sparse Encout) : AbortKeeps s { s with encouts := l } := (Keeps.refl s).update rfl rfl

theorem encoutEmit_keeps (s : State) (n : Nat) (forward : Bool) : AbortKeeps s (s.encoutEmit n forward).1 := by
  have hovf : offEncWord (R.ENCOUT_OVF n) = true := offEnc_high (by simp only [R.ENCOUT_OVF]; omega)
  have hcount : offEncWord (R.ENCOUT_COUNT n) = true := offEnc_high (by simp only [R.ENCOUT_COUNT]; omega)
  unfold State.encoutEmit
  extract_lets o gap slots at_ slots'
  split
  · exact (Keeps.refl s).wr _ _ hovf
  · exact (Keeps.emit (encouts_keeps s _) _).wr (R.ENCOUT_COUNT_COUNT n) _ hcount

theorem encoutCount_keeps (s : State) (n : Nat) (d : Int) : AbortKeeps s (s.encoutCount n d).1 := by
  unfold State.encoutCount
  split
  extract_lets a k s1
  have h1 : AbortKeeps s s1 := encouts_keeps s _
  exact List.foldlRecOn (motive := fun r : State × List Nat => AbortKeeps s r.1) _ _ h1 fun r h _ _ => h.trans (encoutEmit_keeps r.1 _ _)

theorem encoutFeed_keeps (s : State) (enc : Nat) (d p : Int) : AbortKeeps s (s.encoutFeed enc d p).1 := by
  unfold State.encoutFeed
  refine List.foldlRecOn (motive := fun r : State × List (Nat × Nat) => AbortKeeps s r.1) _ _ (Keeps.refl s) fun r h n _ => ?_
  extract_lets src x e
  split
  · exact h.trans (encoutCount_keeps r.1 _ _)
  · exact h

theorem camTrigger_keeps (s : State) (src : Nat) : AbortKeeps s (s.camTrigger src) :=
  (Keeps.refl s).update (congrArg (fun v : State => sansAborts v.unnoticed) (camTrigger_sansCams s src) :)
    (congrArg State.regs (camTrigger_sansCams s src) :)

theorem encoutTriggers_keeps (s : State) (ps : List (Nat × Nat)) : AbortKeeps s (s.encoutTriggers ps) :=
  Keeps.foldl (fun u _ _ => camTrigger_keeps u _) s

/-! ## Direction, extreme and edges (R179, R183) -/

/-- The state less the encoders and the pieces, in which REVERSED is marked. -/
def sansFollow (u : State) : State := { u with encs := [], pieces := [] }

/-- The words that direction and speed write, beside those of events. -/
def followWord (n a : Nat) : Bool := a == R.ENC_STATUS n || a == R.ENC_SPEED n || a == R.ENC_REVERSALS n || plumbWord a

theorem followWord_plumb (a : Nat) (h : plumbWord a = true) : followWord n a = true := by simp [followWord, h]

theorem followWord_status (n : Nat) : followWord n (R.ENC_STATUS n) = true := by simp [followWord]

theorem followWord_speed (n : Nat) : followWord n (R.ENC_SPEED n) = true := by simp [followWord]

theorem followWord_reversals (n : Nat) : followWord n (R.ENC_REVERSALS n) = true := by simp [followWord]

/-- Between the event words, only three words of the encoder are written. -/
theorem followWord_mid {a : Nat} (hlo : 0x161 ≤ a) (hhi : a < 0xC003C) (hst : a ≠ R.ENC_STATUS n) (hsp : a ≠ R.ENC_SPEED n)
    (hrev : a ≠ R.ENC_REVERSALS n) : followWord n a = false := by
  cases h : followWord n a
  · rfl
  · simp only [followWord, Bool.or_eq_true, beq_iff_eq] at h
    rcases h with ((h | h) | h) | h
    · exact absurd h hst
    · exact absurd h hsp
    · exact absurd h hrev
    · have := plumbWord_cases h
      omega

abbrev FollowKeeps (n : Nat) := Keeps sansFollow (followWord n)

/-- The levels of the inputs stay. -/
def SameLevels (s t : State) : Prop := ∀ m, (t.enc m).a = (s.enc m).a ∧ (t.enc m).b = (s.enc m).b

theorem SameLevels.trans (h : SameLevels s t) (h' : SameLevels t u) : SameLevels s u :=
  fun m => ⟨(h' m).1.trans (h m).1, (h' m).2.trans (h m).2⟩

theorem onEnc_levels (s : State) (n : Nat) (f : Enc → Enc) (ha : ∀ e, (f e).a = e.a) (hb : ∀ e, (f e).b = e.b) :
    SameLevels s (s.onEnc n f) := fun m => by
  by_cases h : m = n
  · rw [h, enc_onEnc_same]
    exact ⟨ha _, hb _⟩
  · rw [enc_onEnc_ne _ _ _ _ h]
    exact ⟨rfl, rfl⟩

theorem levels_of_encs (h : t.encs = s.encs) : SameLevels s t := fun m => by simp only [State.enc, h, and_self]

theorem wr_levels (s : State) (f : Field) (v : Nat) : SameLevels s (s.wr f v) := levels_of_encs rfl

theorem raise_levels (s : State) (e : Event) (source arg : Nat) : SameLevels s (s.raise e source arg) :=
  levels_of_encs (congrArg State.encs ((Keeps.refl (E := fun v => v) s).raise (fun _ h => h) e source arg).1 :)

theorem onEnc_follow (s : State) (n k : Nat) (f : Enc → Enc) : FollowKeeps n s (s.onEnc k f) := (Keeps.refl s).update rfl rfl

theorem resetSpeed_keeps (s : State) (n : Nat) : FollowKeeps n s (s.resetSpeed n) :=
  ((onEnc_follow s n n (fun e => { e with sinceReset := 0 })).wr (R.ENC_SPEED_SPEED n) _ (followWord_speed n)).wr
    (R.ENC_STATUS_SPEED_VALID n) _ (followWord_status n)

theorem resetSpeed_levels (s : State) (n : Nat) : SameLevels s (s.resetSpeed n) :=
  (onEnc_levels s n (fun e => { e with sinceReset := 0 }) (fun _ => rfl) fun _ => rfl).trans
    ((wr_levels _ _ _).trans (wr_levels _ _ _))

/-- DIR turns, before its event. -/
def State.turning (s : State) (n dir : Nat) : State :=
  let s1 := (((s.wr (R.ENC_STATUS_DIR n) dir).onEnc n (fun e => { e with ext := s.encTrue n, turned := true })).resetSpeed n).inc
    (R.ENC_REVERSALS_COUNT n)
  let s2 := if n = 1 then s1.onEnc 0 (fun e => { e with e1 := s1.encTrue 1 }) else s1
  if dir = 1 then s2.markReversed n else s2

theorem turn_eq (s : State) (n dir : Nat) : s.turn n dir = (s.turning n dir).raise Ev.DIR n dir := rfl

theorem wr_regs_congr (h : t.regs = s.regs) (f : Field) (v : Nat) : (t.wr f v).regs = (s.wr f v).regs := by
  simp only [State.wr, State.setWord, State.word, h]

theorem inc_regs_congr (h : t.regs = s.regs) (f : Field) : (t.inc f).regs = (s.inc f).regs := by
  rw [State.inc, State.add, State.inc, State.add, rd_congr t s f (word_congr _ _ _ h), wr_regs_congr h]

/-- What a turn writes in the encoder's registers. -/
def State.turnShown (s : State) (n dir : Nat) : State :=
  (((s.wr (R.ENC_STATUS_DIR n) dir).wr (R.ENC_SPEED_SPEED n) 0).wr (R.ENC_STATUS_SPEED_VALID n) 0).inc (R.ENC_REVERSALS_COUNT n)

theorem turning_regs (s : State) (n dir : Nat) : (s.turning n dir).regs = (s.turnShown n dir).regs := by
  unfold State.turning
  extract_lets s1 s2
  have h1 : s1.regs = (s.turnShown n dir).regs :=
    inc_regs_congr (wr_regs_congr (wr_regs_congr (s := s.wr (R.ENC_STATUS_DIR n) dir) rfl _ _) _ _) _
  have h2 : s2.regs = s1.regs := by
    unfold s2
    split <;> rfl
  rw [← h1, ← h2]
  split <;> rfl

theorem turning_keeps (s : State) (n dir : Nat) : FollowKeeps n s (s.turning n dir) := by
  unfold State.turning
  extract_lets s1 s2
  have h0 : FollowKeeps n s ((s.wr (R.ENC_STATUS_DIR n) dir).onEnc n (fun e => { e with ext := s.encTrue n, turned := true })) :=
    ((Keeps.refl s).wr (R.ENC_STATUS_DIR n) dir (followWord_status n)).trans (onEnc_follow _ n n _)
  have h1 : FollowKeeps n s s1 := (h0.trans (resetSpeed_keeps _ n)).wr (R.ENC_REVERSALS_COUNT n) _ (followWord_reversals n)
  have h2 : FollowKeeps n s s2 := Keeps.ite (h1.trans (onEnc_follow s1 n 0 _)) h1
  exact Keeps.ite (h2.update rfl rfl) h2

theorem turning_levels (s : State) (n dir : Nat) : SameLevels s (s.turning n dir) := by
  unfold State.turning
  extract_lets s1 s2
  have h0 : SameLevels s ((s.wr (R.ENC_STATUS_DIR n) dir).onEnc n (fun e => { e with ext := s.encTrue n, turned := true })) :=
    (wr_levels _ _ _).trans (onEnc_levels _ n (fun e => { e with ext := s.encTrue n, turned := true }) (fun _ => rfl) fun _ => rfl)
  have h1 : SameLevels s s1 := (h0.trans (resetSpeed_levels _ n)).trans (wr_levels _ _ _)
  have h2 : SameLevels s s2 := by
    unfold s2
    split
    · exact h1.trans (onEnc_levels s1 0 (fun e => { e with e1 := s1.encTrue 1 }) (fun _ => rfl) fun _ => rfl)
    · exact h1
  split
  · exact h2.trans (levels_of_encs rfl)
  · exact h2

theorem turn_rd (s : State) (n dir : Nat) (f : Field) (hf : plumbWord f.addr = false) :
    (s.turn n dir).rd f = (s.turnShown n dir).rd f := by
  rw [turn_eq, raise_rd _ _ _ _ _ hf]
  exact rd_congr _ _ f (word_congr _ _ _ (turning_regs s n dir))

/-- The words of encoder 0 and 1 are none of an event's. -/
theorem encWord_plumb (n : Fin 2) (b : Nat) (hlo : 0x40000 ≤ b) (hhi : b < 0x40080) : plumbWord (b + 128 * n.val) = false := by
  cases h : plumbWord (b + 128 * n.val)
  · rfl
  · have := plumbWord_cases h
    omega

theorem turn_reversals (s : State) (n : Fin 2) (dir : Nat) :
    (s.turn n dir).rd (R.ENC_REVERSALS_COUNT n) = (s.rd (R.ENC_REVERSALS_COUNT n) + 1) % 2 ^ 32 := by
  rw [turn_rd _ _ _ _ (encWord_plumb n 0x40040 (by decide) (by decide)), State.turnShown, rd_inc _ _ rfl, rd_wr_word _ _ _ _ (by simp),
    rd_wr_word _ _ _ _ (by simp), rd_wr_word _ _ _ _ (by simp)]

theorem turn_dir (s : State) (n : Fin 2) (dir : Nat) : (s.turn n dir).rd (R.ENC_STATUS_DIR n) = dir % 2 := by
  rw [turn_rd _ _ _ _ (encWord_plumb n 0x40024 (by decide) (by decide)), State.turnShown, State.inc, State.add, rd_wr_word _ _ _ _ (by simp),
    rd_wr_disjoint _ _ _ _ rfl rfl, rd_wr_word _ _ _ _ (by simp)]
  exact rd_wr_same _ _ _ rfl

theorem turn_failedOver (s : State) (n : Fin 2) (dir : Nat) :
    (s.turn n dir).rd (R.ENC_STATUS_FAILED_OVER n) = s.rd (R.ENC_STATUS_FAILED_OVER n) := by
  rw [turn_rd _ _ _ _ (encWord_plumb n 0x40024 (by decide) (by decide)), State.turnShown, State.inc, State.add, rd_wr_word _ _ _ _ (by simp),
    rd_wr_disjoint _ _ _ _ rfl rfl, rd_wr_word _ _ _ _ (by simp)]
  exact rd_wr_disjoint _ _ _ _ rfl rfl

/-- What follows a true position that has moved: extremes, direction, speed, and REVERSED in the pieces in flight; DIR changes exactly
with a count of reversals. -/
structure Followed (n : Nat) (s t : State) : Prop where
  frame : FollowKeeps n s t
  levels : SameLevels s t
  failedOver : t.rd (R.ENC_STATUS_FAILED_OVER n) = s.rd (R.ENC_STATUS_FAILED_OVER n)
  reversals : t.rd (R.ENC_REVERSALS_COUNT n) = (s.rd (R.ENC_REVERSALS_COUNT n) +
    (if t.rd (R.ENC_STATUS_DIR n) = s.rd (R.ENC_STATUS_DIR n) then 0 else 1)) % 2 ^ 32

theorem followed_refl (s : State) (n : Nat) : Followed n s s where
  frame := Keeps.refl s
  levels := levels_of_encs rfl
  failedOver := rfl
  reversals := by
    rw [if_pos rfl]
    exact (Nat.mod_eq_of_lt (rd_lt s _)).symm

/-- The extreme moves on: STILL is cleared. -/
theorem followed_beyond (s : State) (n : Nat) (f : Enc → Enc) (ha : ∀ e, (f e).a = e.a) (hb : ∀ e, (f e).b = e.b) :
    Followed n s ((s.onEnc n f).wr (R.ENC_STATUS_STILL n) 0) where
  frame := (onEnc_follow s n n f).wr _ _ (followWord_status n)
  levels := (onEnc_levels s n f ha hb).trans (wr_levels _ _ _)
  failedOver := rd_wr_disjoint (s.onEnc n f) _ _ _ rfl rfl
  reversals := by
    have hdir : ((s.onEnc n f).wr (R.ENC_STATUS_STILL n) 0).rd (R.ENC_STATUS_DIR n) = s.rd (R.ENC_STATUS_DIR n) :=
      rd_wr_disjoint (s.onEnc n f) _ _ _ rfl rfl
    rw [if_pos hdir, rd_wr_word _ _ _ _ (by simp)]
    exact (Nat.mod_eq_of_lt (rd_lt s _)).symm

theorem followed_turn (s : State) (n : Fin 2) (dir : Nat) (hdir : dir < 2) (hne : dir ≠ s.rd (R.ENC_STATUS_DIR n)) :
    Followed n s (s.turn n dir) where
  frame := by
    rw [turn_eq]
    exact (turning_keeps s n dir).raise followWord_plumb _ _ _
  levels := by
    rw [turn_eq]
    exact (turning_levels s n dir).trans (raise_levels _ _ _ _)
  failedOver := turn_failedOver s n dir
  reversals := by rw [turn_dir, Nat.mod_eq_of_lt hdir, if_neg hne, turn_reversals]

theorem follow_followed (s : State) (n : Fin 2) : Followed n s (s.follow n) := by
  unfold State.follow
  extract_lets t e dead back beyond
  split
  · exact followed_beyond s n _ (fun _ => rfl) fun _ => rfl
  · split
    · next hb =>
      have hdir : s.rd (R.ENC_STATUS_DIR n) = 1 := (flag_eq_true s _).1 hb
      split
      · exact followed_turn s n 0 (by decide) (by rw [hdir]; decide)
      · exact followed_refl s n
    · next hb =>
      have hdir : s.rd (R.ENC_STATUS_DIR n) ≠ 1 := fun h => hb ((flag_eq_true s _).2 h)
      split
      · exact followed_turn s n 1 (by decide) hdir.symm
      · exact followed_refl s n

end Sys2Proof.Machine
end

section
/-! PROOFS. The position, the print position and the line generators after a count (R178, R180, R185). -/

namespace Sys2Proof.Machine

variable {s t u : State} {n m k : Nat}

/-! ## Line generators take a count (R185) -/

/-- The state less the accumulators. -/
def sansLgs (u : State) : State := { u with lgs := [] }

/-- The words that show the fraction of an accumulator. -/
def fracWord (a : Nat) : Bool := decide (0x40200 ≤ a) && decide (a % 64 = 0x20)

theorem fracWord_frac (k : Nat) : fracWord (R.LG_FRAC k) = true := by
  simp only [fracWord, Bool.and_eq_true, decide_eq_true_eq, R.LG_FRAC]
  omega

theorem fracWord_off {a : Nat} (h : a < 0x40200 ∨ a % 64 ≠ 0x20) : fracWord a = false := by
  simp only [fracWord, Bool.and_eq_false_iff, decide_eq_false_iff_not]
  omega

abbrev FracKeeps := Keeps sansLgs fracWord

theorem lgAdvance_keeps (s : State) (k c : Nat) : FracKeeps s (s.lgAdvance k c) :=
  ((Keeps.refl s).update (u := { s with lgs := Sparse.set 0 s.lgs k ((Sparse.get 0 s.lgs k + c * s.lgInc k) % 2 ^ 80) }) rfl rfl).wr _ _
    (fracWord_frac k)

theorem flag_of_rd {f : Field} (h : t.rd f = s.rd f) : t.flag f = s.flag f := by rw [State.flag, State.flag, h]

theorem lgFollows_congr (hcfg : t.word (R.LG_CFG k) = s.word (R.LG_CFG k))
    (hover : t.rd (R.ENC_STATUS_FAILED_OVER 0) = s.rd (R.ENC_STATUS_FAILED_OVER 0)) : t.lgFollows k = s.lgFollows k := by
  rw [State.lgFollows, State.lgFollows, rd_congr t s (R.LG_CFG_SRC k) hcfg, flag_congr _ hcfg,
    flag_of_rd hover]

theorem lgEnc_congr (hcfg : t.word (R.LG_CFG k) = s.word (R.LG_CFG k))
    (hover : t.rd (R.ENC_STATUS_FAILED_OVER 0) = s.rd (R.ENC_STATUS_FAILED_OVER 0)) : t.lgEnc k = s.lgEnc k := by
  rw [State.lgEnc, State.lgEnc, lgFollows_congr hcfg hover, rd_congr t s (R.LG_CFG_SRC k) hcfg]

/-- A generator's configuration and increments read as before. -/
def SameGenerator (s t : State) (k : Nat) : Prop :=
  t.rd (R.LG_CFG_EN k) = s.rd (R.LG_CFG_EN k) ∧ t.lgEnc k = s.lgEnc k ∧ t.lgInc k = s.lgInc k

theorem sameGenerator_of (hover : t.rd (R.ENC_STATUS_FAILED_OVER 0) = s.rd (R.ENC_STATUS_FAILED_OVER 0))
    (hword : ∀ b ∈ [0x40200, 0x40204, 0x40208, 0x4020C, 0x40210], t.word (b + 64 * k) = s.word (b + 64 * k)) : SameGenerator s t k := by
  have hcfg : t.word (R.LG_CFG k) = s.word (R.LG_CFG k) := hword 0x40200 (by decide)
  have hinc : t.rdW (R.LG_INC_LO_FRAC k) (R.LG_INC_HI_INT k) = s.rdW (R.LG_INC_LO_FRAC k) (R.LG_INC_HI_INT k) :=
    rdW_congr _ _ (hword 0x40204 (by decide)) (hword 0x40208 (by decide))
  have hinc1 : t.rdW (R.LG_INC1_LO_FRAC k) (R.LG_INC1_HI_INT k) = s.rdW (R.LG_INC1_LO_FRAC k) (R.LG_INC1_HI_INT k) :=
    rdW_congr _ _ (hword 0x4020C (by decide)) (hword 0x40210 (by decide))
  exact ⟨rd_congr t s (R.LG_CFG_EN k) hcfg, lgEnc_congr hcfg hover,
    by rw [State.lgInc, State.lgInc, lgFollows_congr hcfg hover, hinc, hinc1]⟩

theorem frac_generator (h : FracKeeps s t) (k : Nat) : SameGenerator s t k :=
  sameGenerator_of (h.rd _ (fracWord_off (.inl (by decide)))) fun b hb => h.2 _ (fracWord_off (.inr (by
    simp only [List.mem_cons, List.not_mem_nil, or_false] at hb
    omega)))

/-- The generators of a list that the encoder feeds take one count. -/
def State.advanceAll (s : State) (n : Nat) (l : List Nat) : State :=
  l.foldl (fun (u : State) k => if u.flag (R.LG_CFG_EN k) ∧ u.lgEnc k = n then u.lgAdvance k 1 else u) s

/-- What an accumulator holds after a count, where the generator is enabled and fed. -/
def State.accAfter (s : State) (n k : Nat) : Nat :=
  if s.rd (R.LG_CFG_EN k) = 1 ∧ s.lgEnc k = n then (Sparse.get 0 s.lgs k + s.lgInc k) % 2 ^ 80 else Sparse.get 0 s.lgs k

theorem accAfter_congr (hg : SameGenerator s t k) (hl : Sparse.get 0 t.lgs k = Sparse.get 0 s.lgs k) : t.accAfter n k = s.accAfter n k := by
  obtain ⟨hen, henc, hinc⟩ := hg
  rw [State.accAfter, State.accAfter, hen, henc, hinc, hl]

theorem advance_keeps (s : State) (n k : Nat) :
    FracKeeps s (if s.flag (R.LG_CFG_EN k) ∧ s.lgEnc k = n then s.lgAdvance k 1 else s) :=
  Keeps.ite (lgAdvance_keeps s k 1) (Keeps.refl s)

theorem advance_acc (s : State) (n k j : Nat) :
    Sparse.get 0 (if s.flag (R.LG_CFG_EN k) ∧ s.lgEnc k = n then s.lgAdvance k 1 else s).lgs j =
      if j = k then s.accAfter n k else Sparse.get 0 s.lgs j := by
  by_cases h : s.flag (R.LG_CFG_EN k) ∧ s.lgEnc k = n
  · have hacc : s.accAfter n k = (Sparse.get 0 s.lgs k + s.lgInc k) % 2 ^ 80 := if_pos ⟨(flag_eq_true s _).1 h.1, h.2⟩
    rw [if_pos h, hacc]
    refine (get_set 0 s.lgs j k _).trans ?_
    rw [Nat.one_mul]
  · have hacc : s.accAfter n k = Sparse.get 0 s.lgs k := if_neg fun e => h ⟨(flag_eq_true s _).2 e.1, e.2⟩
    rw [if_neg h, hacc]
    split
    · next e => rw [e]
    · rfl

theorem advanceAll_keeps (s : State) (n : Nat) (l : List Nat) : FracKeeps s (s.advanceAll n l) :=
  Keeps.foldl (fun u k _ => advance_keeps u n k) s

theorem advanceAll_acc (n : Nat) (l : List Nat) (hl : l.Nodup) (s : State) (j : Nat) :
    Sparse.get 0 (s.advanceAll n l).lgs j = if j ∈ l then s.accAfter n j else Sparse.get 0 s.lgs j := by
  induction l generalizing s with
  | nil => rfl
  | cons k l ih =>
    obtain ⟨hk, hl⟩ := List.nodup_cons.1 hl
    have hstep := advance_acc s n k j
    rw [State.advanceAll, List.foldl_cons]
    refine (ih hl _).trans ?_
    by_cases hj : j = k
    · subst hj
      rw [if_neg hk, if_pos List.mem_cons_self, hstep, if_pos rfl]
    · rw [if_neg hj] at hstep
      rw [accAfter_congr (frac_generator (advance_keeps s n k) j) hstep, hstep]
      simp only [List.mem_cons, hj, false_or]

/-! ## The print position (R178, R180) -/

/-- The print position becomes the true one where that lies ahead, and the generators on the encoder take the count. -/
def State.printed (s : State) (n x : Nat) : State :=
  if ahead x (s.encPrint n) then (s.setPrint n x).advanceAll n (List.range 16) else s

theorem printed_word (s : State) (n x a : Nat) (hlo : a ≠ R.ENC_PRINT_LO n) (hhi : a ≠ R.ENC_PRINT_HI n) (hf : fracWord a = false) :
    (s.printed n x).word a = s.word a := by
  unfold State.printed
  split
  · exact ((advanceAll_keeps _ _ _).2 a hf).trans (wrW_word _ _ _ _ _ hlo hhi)
  · rfl

theorem printed_sansLgs (s : State) (n x : Nat) : sansLgs (s.printed n x).unnoticed = sansLgs s.unnoticed := by
  unfold State.printed
  split
  · exact (advanceAll_keeps _ _ _).1
  · rfl

theorem printed_encPrint (s : State) (n : Fin 2) (x : Nat) (hx : x < 2 ^ 48) :
    (s.printed n x).encPrint n = if ahead x (s.encPrint n) then x else s.encPrint n := by
  have hn := n.isLt
  unfold State.printed
  split
  · refine ((advanceAll_keeps _ _ _).rdW _ _ (fracWord_off (.inl ?_)) (fracWord_off (.inl ?_))).trans ?_
    · simp only [R.ENC_PRINT_LO]; omega
    · simp only [R.ENC_PRINT_HI]; omega
    · exact (encPrint_setPrint s n x).trans (Nat.mod_eq_of_lt hx)
  · rfl

theorem printed_acc (s : State) (n : Fin 2) (x : Nat) (k : Fin 16) :
    Sparse.get 0 (s.printed n x).lgs k = if ahead x (s.encPrint n) then s.accAfter n k else Sparse.get 0 s.lgs k := by
  have hn := n.isLt
  have hk := k.isLt
  have hword (a : Nat) (ha : a < 0x40010 ∨ 0x40024 ≤ a) (h : a < 0x40090 ∨ 0x400A4 ≤ a) : (s.setPrint n x).word a = s.word a :=
    wrW_word _ _ _ _ _ (by simp only [R.ENC_PRINT_LO]; omega) (by simp only [R.ENC_PRINT_HI]; omega)
  have hgen : SameGenerator s (s.setPrint n x) k := sameGenerator_of (rd_congr _ _ _ (hword _ (by decide) (by decide))) fun b hb => by
    simp only [List.mem_cons, List.not_mem_nil, or_false] at hb
    exact hword _ (by omega) (by omega)
  unfold State.printed
  split
  · exact ((advanceAll_acc n _ List.nodup_range _ k).trans (if_pos (List.mem_range.2 hk))).trans (accAfter_congr hgen rfl)
  · rfl

/-! ## One count (R178 to R181, R185, R197) -/

/-- The true position moves. -/
def State.moved (s : State) (n x : Nat) : State :=
  (s.setTrue n x).onEnc n (fun e => { e with hist := ((s.time, x) :: e.hist).take 20 })

/-- The positions, the direction and the accumulators after a count. -/
def State.afterCount (s : State) (n x : Nat) : State := ((s.moved n x).follow n).printed n x

/-- What was fed by the encoder falls back as far as its generators' depths say. -/
def State.reversals (s : State) (n : Nat) : State :=
  (List.range 16).foldl (fun (u : State) k => if u.lgEnc k = n then u.reversal n k else u) s

theorem encCount_eq (s : State) (n : Nat) (d : Int) :
    ∃ p, s.encCount n d = ((s.afterCount n (posAdd (s.encTrue n) d)).reversals n).encoutFeed n d p := by
  unfold State.encCount
  extract_lets x s1 s2 p s3 s4
  refine ⟨p, ?_⟩
  have h3 : s3 = s.afterCount n x := by
    show s3 = s2.printed n x
    unfold s3 State.printed
    by_cases h : ahead x (s2.encPrint n) = true
    · rw [if_pos h, if_pos (show p = 1 from if_pos h)]
      rfl
    · rw [if_neg h, if_neg (show ¬p = 1 by rw [show p = 0 from if_neg h]; decide)]
  rw [← h3]
  rfl

theorem encCount_keeps (s : State) (n : Nat) (d : Int) : AbortKeeps (s.afterCount n (posAdd (s.encTrue n) d)) (s.encCount n d).1 := by
  obtain ⟨p, hp⟩ := encCount_eq s n d
  rw [hp]
  exact (Keeps.foldl (fun u k _ => Keeps.ite (reversal_keeps u n k) (Keeps.refl u)) _).trans (encoutFeed_keeps _ _ _ _)

theorem moved_word (s : State) (n x a : Nat) (hlo : a ≠ R.ENC_TRUE_LO n) (hhi : a ≠ R.ENC_TRUE_HI n) :
    (s.moved n x).word a = s.word a :=
  (word_congr (s.moved n x) (s.setTrue n x) a rfl).trans (wrW_word _ _ _ _ _ hlo hhi)

theorem encTrue_congr (h : t.regs = s.regs) (n : Nat) : t.encTrue n = s.encTrue n :=
  rdW_congr _ _ (word_congr _ _ _ h) (word_congr _ _ _ h)

theorem moved_regs (s : State) (n x : Nat) : (s.moved n x).regs = (s.setTrue n x).regs := rfl

theorem moved_encTrue (s : State) (n x : Nat) (hx : x < 2 ^ 48) : (s.moved n x).encTrue n = x := by
  rw [encTrue_congr (moved_regs s n x), encTrue_setTrue, Nat.mod_eq_of_lt hx]

theorem moved_levels (s : State) (n x : Nat) : SameLevels s (s.moved n x) :=
  (levels_of_encs rfl).trans (onEnc_levels (s.setTrue n x) n (fun e => { e with hist := ((s.time, x) :: e.hist).take 20 }) (fun _ => rfl)
    fun _ => rfl)

/-- Below the line generators a count writes seven words of its encoder. -/
theorem afterCount_word (s : State) (n : Fin 2) (x a : Nat) (hlo : 0x40000 ≤ a) (hhi : a < 0x40200)
    (ha : a < 0x40008 + 128 * n.val ∨ 0x40018 + 128 * n.val ≤ a) (hst : a ≠ R.ENC_STATUS n) (hsp : a ≠ R.ENC_SPEED n)
    (hrev : a ≠ R.ENC_REVERSALS n) : (s.afterCount n x).word a = s.word a := by
  have htrue : a ≠ R.ENC_TRUE_LO n ∧ a ≠ R.ENC_TRUE_HI n := by simp only [R.ENC_TRUE_LO, R.ENC_TRUE_HI]; omega
  have hprint : a ≠ R.ENC_PRINT_LO n ∧ a ≠ R.ENC_PRINT_HI n := by simp only [R.ENC_PRINT_LO, R.ENC_PRINT_HI]; omega
  calc (s.afterCount n x).word a
    _ = ((s.moved n x).follow n).word a := printed_word _ _ _ _ hprint.1 hprint.2 (fracWord_off (.inl hhi))
    _ = (s.moved n x).word a := (follow_followed _ n).frame.2 a (followWord_mid (by omega) (by omega) hst hsp hrev)
    _ = s.word a := moved_word _ _ _ _ htrue.1 htrue.2

theorem afterCount_follow_word (s : State) (n : Fin 2) (x a : Nat) (hhi : a < 0x40200) (hlo : a ≠ R.ENC_PRINT_LO n)
    (hpr : a ≠ R.ENC_PRINT_HI n) :
    (s.afterCount n x).word a = ((s.moved n x).follow n).word a := printed_word _ _ _ _ hlo hpr (fracWord_off (.inl hhi))

theorem follow_generator (s : State) (n : Fin 2) (x : Nat) (k : Fin 16) : SameGenerator s ((s.moved n x).follow n) k := by
  have hn := n.isLt
  have hf := follow_followed (s.moved n x) n
  have hword (a : Nat) (hlo : 0x40100 ≤ a) (hhi : a < 0x50000) : ((s.moved n x).follow n).word a = s.word a :=
    (hf.frame.2 a (followWord_mid (by omega) (by omega) (by simp only [R.ENC_STATUS]; omega) (by simp only [R.ENC_SPEED]; omega)
      (by simp only [R.ENC_REVERSALS]; omega))).trans
      (moved_word _ _ _ _ (by simp only [R.ENC_TRUE_LO]; omega) (by simp only [R.ENC_TRUE_HI]; omega))
  have hmoved : (s.moved n x).rd (R.ENC_STATUS_FAILED_OVER 0) = s.rd (R.ENC_STATUS_FAILED_OVER 0) :=
    rd_congr _ _ _ (moved_word s n x (R.ENC_STATUS 0) (by simp only [R.ENC_STATUS, R.ENC_TRUE_LO]; omega)
      (by simp only [R.ENC_STATUS, R.ENC_TRUE_HI]; omega))
  have hover : ((s.moved n x).follow n).rd (R.ENC_STATUS_FAILED_OVER 0) = (s.moved n x).rd (R.ENC_STATUS_FAILED_OVER 0) := by
    match n, hf with
    | 0, hf => exact hf.failedOver
    | 1, hf => exact hf.frame.rd _ (followWord_mid (by decide) (by decide) (by decide) (by decide) (by decide))
  refine sameGenerator_of (hover.trans hmoved) fun b hb => ?_
  simp only [List.mem_cons, List.not_mem_nil, or_false] at hb
  exact hword _ (by omega) (by omega)

/-- The state less what a count may change beside what is noticed. -/
def sansCount (u : State) : State :=
  { u with
    pow := { u.pow with lastBusy := 0 }, pieces := [], ended := [], rejects := [], ring := [], encs := [], lgs := [], encouts := []
    cams := [], evid := [], verify := [] }

theorem sansCount_of_aborts (h : sansAborts t.unnoticed = sansAborts s.unnoticed) : sansCount t.unnoticed = sansCount s.unnoticed :=
  (congrArg sansCount h :)

theorem sansCount_of_lgs (h : sansLgs t.unnoticed = sansLgs s.unnoticed) : sansCount t.unnoticed = sansCount s.unnoticed :=
  (congrArg sansCount h :)

theorem sansCount_of_follow (h : sansFollow t.unnoticed = sansFollow s.unnoticed) : sansCount t.unnoticed = sansCount s.unnoticed :=
  (congrArg sansCount h :)

theorem encs_of_lgs (h : sansLgs t.unnoticed = sansLgs s.unnoticed) : t.encs = s.encs := (congrArg State.encs h :)

theorem lgs_of_follow (h : sansFollow t.unnoticed = sansFollow s.unnoticed) : t.lgs = s.lgs := (congrArg State.lgs h :)

theorem onEnc_sansCount (s : State) (n : Nat) (f : Enc → Enc) : sansCount (s.onEnc n f).unnoticed = sansCount s.unnoticed := rfl

theorem moved_sansCount (s : State) (n x : Nat) : sansCount (s.moved n x).unnoticed = sansCount s.unnoticed := by
  rw [State.moved, onEnc_sansCount, State.setTrue, State.wrW, wr_unnoticed, wr_unnoticed]

theorem moved_lgs (s : State) (n x : Nat) : (s.moved n x).lgs = s.lgs := rfl

/-- An encoder has come to a true position `x`. -/
structure CountedTo (n : Fin 2) (x : Nat) (s t : State) : Prop where
  rest : sansCount t.unnoticed = sansCount s.unnoticed
  levels : SameLevels s t
  truth : t.encTrue n = x
  print : t.encPrint n = if ahead x (s.encPrint n) then x else s.encPrint n
  illegal : t.rd (R.ENC_ILLEGAL_COUNT n) = s.rd (R.ENC_ILLEGAL_COUNT n)
  reversals : t.rd (R.ENC_REVERSALS_COUNT n) = (s.rd (R.ENC_REVERSALS_COUNT n) +
    (if t.rd (R.ENC_STATUS_DIR n) = s.rd (R.ENC_STATUS_DIR n) then 0 else 1)) % 2 ^ 32
  others : ∀ m : Fin 2, m ≠ n → t.encTrue m = s.encTrue m ∧ t.encPrint m = s.encPrint m
  accs : ∀ k : Fin 16, Sparse.get 0 t.lgs k = if ahead x (s.encPrint n) then s.accAfter n k else Sparse.get 0 s.lgs k

/-- What hangs on the count leaves the encoders and the accumulators. -/
theorem CountedTo.aborts {n : Fin 2} {x : Nat} (h : CountedTo n x s t) (hk : AbortKeeps t u) : CountedTo n x s u := by
  have hword (m : Fin 2) (b : Nat) (hlo : 0x40000 ≤ b) (hhi : b < 0x40080) : u.word (b + 128 * m.val) = t.word (b + 128 * m.val) :=
    hk.2 _ (encWord_off m b hlo hhi)
  have htruth (m : Fin 2) : u.encTrue m = t.encTrue m :=
    rdW_congr _ _ (hword m 0x40008 (by decide) (by decide)) (hword m 0x4000C (by decide) (by decide))
  have hprint (m : Fin 2) : u.encPrint m = t.encPrint m :=
    rdW_congr _ _ (hword m 0x40010 (by decide) (by decide)) (hword m 0x40014 (by decide) (by decide))
  have hencs : u.encs = t.encs := (congrArg State.encs hk.1 :)
  have hlgs : u.lgs = t.lgs := (congrArg State.lgs hk.1 :)
  have hdir : u.rd (R.ENC_STATUS_DIR n) = t.rd (R.ENC_STATUS_DIR n) := rd_congr _ _ _ (hword n 0x40024 (by decide) (by decide))
  refine ⟨(sansCount_of_aborts hk.1).trans h.rest, h.levels.trans (levels_of_encs hencs), (htruth n).trans h.truth,
    (hprint n).trans h.print, (rd_congr _ _ _ (hword n 0x4003C (by decide) (by decide))).trans h.illegal, ?_, fun m hm => ?_, fun k => ?_⟩
  · rw [hdir, rd_congr u t (R.ENC_REVERSALS_COUNT n) (hword n 0x40040 (by decide) (by decide))]
    exact h.reversals
  · obtain ⟨ht, hp⟩ := h.others m hm
    exact ⟨(htruth m).trans ht, (hprint m).trans hp⟩
  · rw [hlgs]
    exact h.accs k

theorem afterCount_counted (s : State) (n : Fin 2) (x : Nat) (hx : x < 2 ^ 48) : CountedTo n x s (s.afterCount n x) := by
  have hn := n.isLt
  have hf := follow_followed (s.moved n x) n
  have hown (b : Nat) (hlo : 0x40000 ≤ b) (hhi : b < 0x40080) (hb : b ≠ 0x40010 ∧ b ≠ 0x40014) :
      (s.afterCount n x).word (b + 128 * n.val) = ((s.moved n x).follow n).word (b + 128 * n.val) :=
    afterCount_follow_word s n x _ (by omega) (by simp only [R.ENC_PRINT_LO]; omega) (by simp only [R.ENC_PRINT_HI]; omega)
  have hfollow (b : Nat) (hlo : 0x40000 ≤ b) (hhi : b < 0x40080) (hb : b ≠ 0x40024 ∧ b ≠ 0x40028 ∧ b ≠ 0x40040) :
      ((s.moved n x).follow n).word (b + 128 * n.val) = (s.moved n x).word (b + 128 * n.val) :=
    hf.frame.2 _ (followWord_mid (by omega) (by omega) (by simp only [R.ENC_STATUS]; omega) (by simp only [R.ENC_SPEED]; omega)
      (by simp only [R.ENC_REVERSALS]; omega))
  have hmoved (b : Nat) (hlo : 0x40000 ≤ b) (hhi : b < 0x40080) (hb : b ≠ 0x40008 ∧ b ≠ 0x4000C) :
      (s.moved n x).word (b + 128 * n.val) = s.word (b + 128 * n.val) :=
    moved_word _ _ _ _ (by simp only [R.ENC_TRUE_LO]; omega) (by simp only [R.ENC_TRUE_HI]; omega)
  have hprint : ((s.moved n x).follow n).encPrint n = s.encPrint n :=
    rdW_congr _ _ ((hfollow 0x40010 (by decide) (by decide) (by decide)).trans (hmoved 0x40010 (by decide) (by decide) (by decide)))
      ((hfollow 0x40014 (by decide) (by decide) (by decide)).trans (hmoved 0x40014 (by decide) (by decide) (by decide)))
  have hlgs : ((s.moved n x).follow n).lgs = s.lgs := (lgs_of_follow hf.frame.1).trans (moved_lgs s n x)
  refine ⟨?_, ?_, ?_, ?_, ?_, ?_, fun m hm => ?_, fun k => ?_⟩
  · exact (sansCount_of_lgs (printed_sansLgs _ _ _)).trans ((sansCount_of_follow hf.frame.1).trans (moved_sansCount s n x))
  · exact ((moved_levels s n x).trans hf.levels).trans (levels_of_encs (encs_of_lgs (printed_sansLgs _ _ _)))
  · exact (rdW_congr _ _ ((hown 0x40008 (by decide) (by decide) (by decide)).trans (hfollow 0x40008 (by decide) (by decide) (by decide)))
      ((hown 0x4000C (by decide) (by decide) (by decide)).trans (hfollow 0x4000C (by decide) (by decide) (by decide)))).trans
      (moved_encTrue s n x hx)
  · rw [← hprint]
    exact printed_encPrint _ n x hx
  · exact rd_congr _ _ _ ((hown 0x4003C (by decide) (by decide) (by decide)).trans
      ((hfollow 0x4003C (by decide) (by decide) (by decide)).trans (hmoved 0x4003C (by decide) (by decide) (by decide))))
  · have hdir := rd_congr (s.afterCount n x) ((s.moved n x).follow n) (R.ENC_STATUS_DIR n)
      (hown 0x40024 (by decide) (by decide) (by decide))
    have hrev := rd_congr (s.afterCount n x) ((s.moved n x).follow n) (R.ENC_REVERSALS_COUNT n)
      (hown 0x40040 (by decide) (by decide) (by decide))
    have hdir0 := rd_congr (s.moved n x) s (R.ENC_STATUS_DIR n) (hmoved 0x40024 (by decide) (by decide) (by decide))
    have hrev0 := rd_congr (s.moved n x) s (R.ENC_REVERSALS_COUNT n) (hmoved 0x40040 (by decide) (by decide) (by decide))
    rw [hdir, hrev, hf.reversals, hdir0, hrev0]
  · have hne : m.val ≠ n.val := fun e => hm (Fin.ext e)
    have hword (b : Nat) (hlo : 0x40000 ≤ b) (hhi : b < 0x40080) : (s.afterCount n x).word (b + 128 * m.val) = s.word (b + 128 * m.val) :=
      afterCount_word s n x _ (by omega) (by omega) (by omega) (by simp only [R.ENC_STATUS]; omega) (by simp only [R.ENC_SPEED]; omega)
        (by simp only [R.ENC_REVERSALS]; omega)
    exact ⟨rdW_congr _ _ (hword 0x40008 (by decide) (by decide)) (hword 0x4000C (by decide) (by decide)),
      rdW_congr _ _ (hword 0x40010 (by decide) (by decide)) (hword 0x40014 (by decide) (by decide))⟩
  · rw [← hprint, State.afterCount, printed_acc, accAfter_congr (follow_generator s n x k) (by rw [hlgs]), hlgs]

end Sys2Proof.Machine
end

section
/-! PROOFS. New levels of an encoder's inputs (R175 to R181, R198, R199). -/

namespace Sys2Proof.Machine

variable {s t u : State}

/-- `s` with what new levels may change taken from `t`. -/
def State.edgeOf (s t : State) : State :=
  { s.noticed t with
    pow := { s.pow with islEnc := t.pow.islEnc, lastBusy := t.pow.lastBusy }, pieces := t.pieces, ended := t.ended
    rejects := t.rejects, ring := t.ring, encs := t.encs, lgs := t.lgs, encouts := t.encouts, cams := t.cams
    evid := t.evid, verify := t.verify }

theorem eq_of_sansCount (h : sansCount t.unnoticed = sansCount s.unnoticed) : t = s.edgeOf t :=
  calc
    t = (sansCount t.unnoticed).edgeOf t := rfl
    _ = (sansCount s.unnoticed).edgeOf t := by rw [h]
    _ = _ := rfl

/-- What the statement says of new levels `a` and `b` that give the count and the fault of `d`. -/
structure EdgeTo (n : Fin 2) (a b : Bool) (d : Int × Bool) (s t : State) : Prop where
  levelA : (t.enc n).a = a
  levelB : (t.enc n).b = b
  truth : t.encTrue n = if d.2 then s.encTrue n else posAdd (s.encTrue n) d.1
  print : t.encPrint n = if d.2 = false ∧ d.1 ≠ 0 ∧ ahead (posAdd (s.encTrue n) d.1) (s.encPrint n) = true
    then posAdd (s.encTrue n) d.1 else s.encPrint n
  illegal : t.rd (R.ENC_ILLEGAL_COUNT n) = (s.rd (R.ENC_ILLEGAL_COUNT n) + b2n d.2) % 2 ^ 32
  reversals : t.rd (R.ENC_REVERSALS_COUNT n) = (s.rd (R.ENC_REVERSALS_COUNT n) +
    (if t.rd (R.ENC_STATUS_DIR n) = s.rd (R.ENC_STATUS_DIR n) then 0 else 1)) % 2 ^ 32
  others : ∀ m : Fin 2, m ≠ n → t.encTrue m = s.encTrue m ∧ t.encPrint m = s.encPrint m
  accs : ∀ k : Fin 16, Sparse.get 0 t.lgs k =
    if t.encPrint n ≠ s.encPrint n ∧ s.rd (R.LG_CFG_EN k) = 1 ∧ s.lgEnc k = n
    then (Sparse.get 0 s.lgs k + s.lgInc k) % 2 ^ 80 else Sparse.get 0 s.lgs k
  frame : t = s.edgeOf t

/-- The inputs take their levels. -/
def State.levelled (s : State) (n : Nat) (a b ill : Bool) : State :=
  s.onEnc n (fun e => { e with a := a, b := b, illegal := e.illegal || ill })

theorem levelled_enc (s : State) (n : Nat) (a b ill : Bool) :
    ((s.levelled n a b ill).enc n).a = a ∧ ((s.levelled n a b ill).enc n).b = b := by
  rw [State.levelled, enc_onEnc_same]
  exact ⟨rfl, rfl⟩

/-- Levels that count nothing leave the positions: an illegal transition, or none that counts. -/
theorem EdgeTo.of_still {n : Fin 2} {a b : Bool} {d : Int × Bool} (hd : d.2 = true ∨ d.1 = 0)
    (hencs : t.encs = (s.levelled n a b d.2).encs) (hword : ∀ w, w ≠ R.ENC_ILLEGAL n → t.word w = s.word w)
    (hill : t.rd (R.ENC_ILLEGAL_COUNT n) = (s.rd (R.ENC_ILLEGAL_COUNT n) + b2n d.2) % 2 ^ 32) (hlgs : t.lgs = s.lgs)
    (hrest : sansCount t.unnoticed = sansCount s.unnoticed) : EdgeTo n a b d s t := by
  have hn := n.isLt
  have henc : t.enc n = (s.levelled n a b d.2).enc n := by rw [State.enc, hencs, State.enc]
  have hlevel := levelled_enc s n a b d.2
  have hown (m : Fin 2) (c : Nat) (hlo : 0x40000 ≤ c) (hhi : c < 0x40080) (hc : c ≠ 0x4003C) :
      t.word (c + 128 * m.val) = s.word (c + 128 * m.val) := hword _ (by simp only [R.ENC_ILLEGAL]; omega)
  have htruth (m : Fin 2) : t.encTrue m = s.encTrue m :=
    rdW_congr _ _ (hown m 0x40008 (by decide) (by decide) (by decide)) (hown m 0x4000C (by decide) (by decide) (by decide))
  have hprint (m : Fin 2) : t.encPrint m = s.encPrint m :=
    rdW_congr _ _ (hown m 0x40010 (by decide) (by decide) (by decide)) (hown m 0x40014 (by decide) (by decide) (by decide))
  refine ⟨henc ▸ hlevel.1, henc ▸ hlevel.2, ?_, ?_, hill, ?_, fun m _ => ⟨htruth m, hprint m⟩, fun k => ?_,
    eq_of_sansCount hrest⟩
  · rw [htruth]
    split
    · rfl
    · next h => rw [hd.resolve_left h, posAdd_zero (encTrue_lt s n)]
  · rw [if_neg fun h => hd.elim (fun e => by rw [e] at h; exact absurd h.1 (by decide)) h.2.1, hprint]
  · rw [if_pos (rd_congr t s (R.ENC_STATUS_DIR n) (hown n 0x40024 (by decide) (by decide) (by decide))),
      rd_congr t s (R.ENC_REVERSALS_COUNT n) (hown n 0x40040 (by decide) (by decide) (by decide))]
    exact (Nat.mod_eq_of_lt (rd_lt s _)).symm
  · rw [if_neg fun h => h.1 (hprint n), hlgs]

/-- What lies ahead is not where one is. -/
theorem ne_of_ahead {x y : Nat} (h : ahead x y = true) : x ≠ y := by
  rintro rfl
  simp [ahead] at h

/-- A count brings the encoder to its new true position. -/
theorem EdgeTo.of_count {n : Fin 2} {a b : Bool} {d : Int × Bool} (hlegal : d.2 = false) (hd : d.1 ≠ 0)
    (h : CountedTo n (posAdd (s.encTrue n) d.1) (s.levelled n a b d.2) t) : EdgeTo n a b d s t := by
  have hlevel := levelled_enc s n a b d.2
  have hprint : t.encPrint n = if ahead (posAdd (s.encTrue n) d.1) (s.encPrint n) then posAdd (s.encTrue n) d.1 else s.encPrint n := h.print
  have hill : t.rd (R.ENC_ILLEGAL_COUNT n) = s.rd (R.ENC_ILLEGAL_COUNT n) := h.illegal
  refine ⟨(h.levels n).1.trans hlevel.1, (h.levels n).2.trans hlevel.2, ?_, ?_, ?_, h.reversals, h.others, fun k => ?_,
    eq_of_sansCount h.rest⟩
  · rw [hlegal]
    exact h.truth
  · rw [hprint]
    simp [hlegal, hd]
  · rw [hill, hlegal]
    exact (Nat.mod_eq_of_lt (rd_lt s _)).symm
  · refine (h.accs k).trans ?_
    show (if ahead (posAdd (s.encTrue n) d.1) (s.encPrint n) then s.accAfter n k else Sparse.get 0 s.lgs k) = _
    rw [hprint]
    by_cases hahead : ahead (posAdd (s.encTrue n) d.1) (s.encPrint n) = true
    · rw [if_pos hahead, if_pos hahead]
      simp only [State.accAfter, ne_of_ahead hahead, ne_eq, not_false_eq_true, true_and]
    · rw [if_neg hahead, if_neg hahead, if_neg fun e => e.1 rfl]

/-- The count that new levels of an encoder's inputs give, and whether they are illegal. -/
def State.levelDelta (s : State) (n : Nat) (a b : Bool) : Int × Bool :=
  encDelta (s.rd (R.ENC_CFG_MODE n)) (s.rd (R.ENC_CFG_QMULT n)) (s.flag (R.ENC_CFG_POL n)) (s.enc n).a (s.enc n).b a b

theorem encLevels_illegal {n : Nat} {a b : Bool} (h : (s.levelDelta n a b).2 = true) :
    s.encLevels n a b = (s.levelled n a b (s.levelDelta n a b).2).inc (R.ENC_ILLEGAL_COUNT n) := if_pos h

theorem encLevels_none {n : Nat} {a b : Bool} (h : (s.levelDelta n a b).2 = false) (h0 : (s.levelDelta n a b).1 = 0) :
    s.encLevels n a b = s.levelled n a b (s.levelDelta n a b).2 :=
  (if_neg (by rw [show (encDelta _ _ _ _ _ _ _).2 = _ from h]; decide)).trans (if_pos h0)

theorem encLevels_count {n : Nat} {a b : Bool} (h : (s.levelDelta n a b).2 = false) (h0 : (s.levelDelta n a b).1 ≠ 0) :
    ∃ ps, s.encLevels n a b =
      ((s.levelled n a b (s.levelDelta n a b).2).encCount n (s.levelDelta n a b).1).1.encoutTriggers ps :=
  ⟨_, (if_neg (by rw [show (encDelta _ _ _ _ _ _ _).2 = _ from h]; decide)).trans (if_neg h0)⟩

theorem encLevels_edge (s : State) (n : Fin 2) (a b : Bool) : EdgeTo n a b (s.levelDelta n a b) s (s.encLevels n a b).latch := by
  let s1 := s.levelled n a b (s.levelDelta n a b).2
  have hrest : sansCount s1.unnoticed = sansCount s.unnoticed := onEnc_sansCount s n _
  cases hill : (s.levelDelta n a b).2
  · by_cases h0 : (s.levelDelta n a b).1 = 0
    · rw [encLevels_none hill h0]
      refine .of_still (.inr h0) (by simp only [latch_frame]) (fun w _ => latch_word s1 w) ?_ (by simp only [latch_frame]; rfl)
        ((congrArg sansCount (latch_unnoticed s1)).trans hrest)
      rw [rd_congr s1.latch s _ (latch_word s1 _), hill]
      exact (Nat.mod_eq_of_lt (rd_lt s _)).symm
    · obtain ⟨ps, hps⟩ := encLevels_count hill h0
      rw [hps]
      refine .of_count hill h0 ?_
      have hcount := afterCount_counted s1 n (posAdd (s.encTrue n) (s.levelDelta n a b).1) (posAdd_lt _ _)
      exact ((hcount.aborts (encCount_keeps _ n _)).aborts (encoutTriggers_keeps _ ps)).aborts (Keeps.refl _).latch
  · rw [encLevels_illegal hill]
    refine .of_still (.inl hill) (by simp only [latch_frame]; rfl) (fun w hw => (latch_word _ w).trans (word_inc_ne s1 _ w hw)) ?_
      (by simp only [latch_frame]; rfl) ((congrArg sansCount ((latch_unnoticed _).trans (wr_unnoticed s1 _ _))).trans hrest)
    rw [rd_congr _ (s1.inc (R.ENC_ILLEGAL_COUNT n)) _ (latch_word _ _), rd_inc _ _ rfl, hill]
    rfl

/-- Settles O41: an illegal transition, a transition that counts nothing, and a count; with the core off, the island's count. -/
theorem encoderCounts : Obligations.EncoderCounts := by
  refine ⟨fun s n a b d hcore hd => ?_, fun s a b hcore hphase => ?_⟩
  · subst hd
    have h := encLevels_edge s n a b
    exact ⟨_, if_pos hcore, h.levelA, h.levelB, h.truth, h.print, h.illegal, h.reversals, h.others, h.accs, h.frame⟩
  · refine ⟨(s.islandLevels a b).latch, ?_, ?_, ?_⟩
    · exact (if_neg (by rw [hcore]; decide)).trans (if_neg fun h => h.elim hphase fun h => h rfl)
    · simp only [latch_frame]
      rfl
    · rw [latch_eq_leaves]
      rfl

/-! ## States that meet the hypotheses -/

/-- ENC0 in quadrature at its last position before 0, with line generator 0 enabled on it at 5 units a count. -/
def encoderState : State :=
  { dayState with regs := [(R.ENC_CFG 0, 1), (R.ENC_TRUE_LO 0, 0xFFFFFFFF), (R.ENC_TRUE_HI 0, 0xFFFF), (R.ENC_PRINT_LO 0, 0xFFFFFFFF),
    (R.ENC_PRINT_HI 0, 0xFFFF), (R.LG_CFG 0, 1), (R.LG_INC_LO 0, 5), (R.LG_INC_HI 0, 0)] }

/-- A rises while B is low: both positions go round to 0, and the accumulator takes 5. -/
theorem encoderCounts_count_witness :
    ∃ t, exec (.encoderEdge 0 true false) encoderState = .next t ∧ t.encTrue 0 = 0 ∧ t.encPrint 0 = 0 ∧ Sparse.get 0 t.lgs 0 = 5 := by
  obtain ⟨t, hrun, -, -, htrue, hprint, -, -, -, haccs, -⟩ := encoderCounts.1 encoderState 0 true false (1, false) (by decide +kernel)
    (by decide +kernel)
  have hzero : t.encPrint 0 = 0 := hprint.trans (by decide +kernel)
  have hmoved : t.encPrint 0 ≠ encoderState.encPrint 0 := by
    rw [hzero]
    decide +kernel
  exact ⟨t, hrun, htrue.trans (by decide +kernel), hzero,
    ((haccs 0).trans (if_pos ⟨hmoved, by decide +kernel, by decide +kernel⟩)).trans (by decide +kernel)⟩

/-- Both inputs rise at once: the transition is counted as illegal, and the position stays. -/
theorem encoderCounts_illegal_witness :
    ∃ t, exec (.encoderEdge 0 true true) encoderState = .next t ∧ t.encTrue 0 = 2 ^ 48 - 1 ∧ t.rd (R.ENC_ILLEGAL_COUNT 0) = 1 := by
  obtain ⟨t, hrun, -, -, htrue, -, hill, -⟩ := encoderCounts.1 encoderState 0 true true (0, true) (by decide +kernel) (by decide +kernel)
  exact ⟨t, hrun, htrue.trans (by decide +kernel), hill.trans (by decide +kernel)⟩

/-- The core is off, and the island counts on. -/
theorem encoderCounts_island_witness :
    ∃ t, exec (.encoderEdge 0 true false) { encoderState with pow := { encoderState.pow with phase := .night, islEnc := 0xFFFFFFFFFFFF } } =
      .next t ∧ t.pow.islEnc = 0 := by
  obtain ⟨t, hrun, hisl, -⟩ := encoderCounts.2
    { encoderState with pow := { encoderState.pow with phase := .night, islEnc := 0xFFFFFFFFFFFF } } true false (by decide +kernel)
    (by decide +kernel)
  exact ⟨t, hrun, hisl.trans (by decide +kernel)⟩

end Sys2Proof.Machine
end

section
/-! PROOFS. What a Dawn writes beside the positions and CONT (R67 to R75, R200). -/

namespace Sys2Proof.Machine

variable {s t : State}

/-! ## The words of the positions and of CONT -/

/-- The true and print positions of both encoders, and the words that hold CONT. -/
def positionWords : List Nat :=
  [R.ENC_TRUE_LO 0, R.ENC_TRUE_HI 0, R.ENC_PRINT_LO 0, R.ENC_PRINT_HI 0, R.ENC_STATUS 0, R.ENC_TRUE_LO 1, R.ENC_TRUE_HI 1,
    R.ENC_PRINT_LO 1, R.ENC_PRINT_HI 1, R.ENC_STATUS 1]

/-- Any other word. -/
def offPosition (a : Nat) : Bool := !positionWords.contains a

theorem offPosition_iff {a : Nat} : offPosition a = true ↔ a ∉ positionWords := by simp [offPosition]

theorem position_mem {a : Nat} (h : a ∈ positionWords) : 0x40008 ≤ a ∧ a < 0x400A8 := by
  simp only [positionWords, R.ENC_TRUE_LO, R.ENC_TRUE_HI, R.ENC_PRINT_LO, R.ENC_PRINT_HI, R.ENC_STATUS, List.mem_cons,
    List.not_mem_nil, or_false] at h
  omega

theorem offPosition_low {a : Nat} (h : a < 0x40008) : offPosition a = true :=
  offPosition_iff.2 fun hm => absurd (position_mem hm).1 (by omega)

theorem offPosition_high {a : Nat} (h : 0x400A8 ≤ a) : offPosition a = true :=
  offPosition_iff.2 fun hm => absurd (position_mem hm).2 (by omega)

/-- A register of a family that begins above the encoders. -/
theorem offPosition_add {b c : Nat} (h : 0x400A8 ≤ b) : offPosition (b + c) = true := offPosition_high (Nat.le_add_right_of_le h)

theorem offPosition_plumb (a : Nat) (h : plumbWord a = true) : offPosition a = true := by
  rcases plumbWord_cases h with h | h | h
  · exact offPosition_low (by omega)
  · exact offPosition_low (by omega)
  · exact offPosition_high (by omega)

/-- A frame that says only that positions and CONT stay. -/
abbrev PosKeeps := Keeps (fun _ => ({} : State)) offPosition

theorem pos_of_regs (h : t.regs = s.regs) : PosKeeps s t := ⟨rfl, fun a _ => word_congr _ _ a h⟩

/-- Parts of the state that are no registers. -/
theorem onLane_pos (s : State) (n : Nat) (f : Lane → Lane) : PosKeeps s (s.onLane n f) := pos_of_regs rfl

theorem onGate_pos (s : State) (g : Nat) (f : Gate → Gate) : PosKeeps s (s.onGate g f) := pos_of_regs rfl

theorem onTb_pos (s : State) (k : Nat) (f : TimeBase → TimeBase) : PosKeeps s (s.onTb k f) := pos_of_regs rfl

theorem onEnc_pos (s : State) (n : Nat) (f : Enc → Enc) : PosKeeps s (s.onEnc n f) := pos_of_regs rfl

theorem tpArm_pos (s : State) (p : Nat) : PosKeeps s (s.tpArm p) := pos_of_regs rfl

theorem onFollower_pos (s : State) (k : Nat) (f : Follower → Follower) : PosKeeps s (s.onFollower k f) := pos_of_regs rfl

theorem reports_pos (s : State) (l : Sparse Nat) : PosKeeps s { s with reports := l } := pos_of_regs rfl

theorem wr_pos (s : State) (f : Field) (v : Nat) (h : offPosition f.addr = true) : PosKeeps s (s.wr f v) := (Keeps.refl s).wr f v h

/-! ## What Dawn starts from (steps 0 to 3) -/

theorem lifeRestore_pos (s : State) (fresh : Bool) : PosKeeps s (s.lifeRestore fresh) := by
  unfold State.lifeRestore
  split
  · exact ((wr_pos s R.LIFE_STATUS_FRESH _ rfl).wr R.LIFE_STATUS_FOREIGN _ rfl).trans (pos_of_regs rfl)
  · exact ((wr_pos s R.LIFE_POS_SLOT _ rfl).wr R.LIFE_GEN_GEN _ rfl).trans (pos_of_regs rfl)

theorem countDawn_pos (s : State) (cause : Nat) : PosKeeps s (s.countDawn cause) := by
  unfold State.countDawn
  extract_lets s1
  exact Keeps.ite (pos_of_regs rfl) (pos_of_regs rfl)

theorem tripShow_pos (s : State) (p : Power) : PosKeeps s (s.tripShow p) := by
  unfold State.tripShow
  extract_lets s1 s2 s3
  have h2 : PosKeeps s s2 := ((((wr_pos s _ _ rfl).wr _ _ rfl).wr _ _ rfl).wr _ _ rfl).wr _ _ rfl
  exact Keeps.ite (h2.trans (pos_of_regs rfl)) h2

theorem binDip_pos (s : State) : PosKeeps s (s.binDip 7) := (wr_pos s (R.DIP_HIST_COUNT 7) _ rfl).lifeAdd _ _ _

/-- After steps 0 to 3 the encoders' registers hold their fixed values. -/
theorem dawnBase_pos (s : State) (d : DawnIn) : PosKeeps {} (s.dawnBase d) := by
  unfold State.dawnBase
  extract_lets p cause b b1 b2 b3 b4
  have h1 : PosKeeps b b1 := ((((wr_pos b _ _ rfl).wr _ _ rfl).wr _ _ rfl).wr _ _ rfl).wr _ _ rfl
  have h2 : PosKeeps b1 b2 := ((wr_pos b1 _ _ rfl).wr _ _ rfl).trans (lifeRestore_pos _ _)
  have h3 : PosKeeps b2 b3 := (countDawn_pos b2 _).trans (tripShow_pos _ _)
  have h4 : PosKeeps b3 b4 := Keeps.ite (pos_of_regs rfl) (Keeps.refl b3)
  have h5 := Keeps.ite (c := p.dipLost = true) (binDip_pos b4) (Keeps.refl b4)
  exact (((((pos_of_regs rfl : PosKeeps {} b).trans h1).trans h2).trans h3).trans h4).trans h5

/-! ## Self-test (R418, R456) -/

theorem remap_pos (s : State) (c : Nat) (a : Word) (bist : Bool) : PosKeeps s (s.remap c a bist) := by
  unfold State.remap
  split
  · exact (((pos_of_regs rfl).wr R.MEM_REMAP_HBM_USED _ rfl).trans (pos_of_regs rfl))
  · exact (((pos_of_regs rfl).wr R.MEM_REMAP_SRAM_USED _ rfl).trans (pos_of_regs rfl))

theorem remapFull_pos (s : State) (c : Nat) (a : Word) : PosKeeps s (s.remapFull c a) := by
  unfold State.remapFull
  extract_lets w m s1 s2 flags s3
  have h1 : PosKeeps s s1 := pos_of_regs rfl
  have h2 : PosKeeps s s2 := Keeps.ite (h1.wr _ _ rfl) (h1.wr _ _ rfl)
  have h3 : PosKeeps s s3 := h2.trans (pos_of_regs rfl)
  exact h3.condOn offPosition_plumb _ _ _

/-- An address that is remapped already stays so; another one takes a spare, or waits for one. -/
theorem bistRemap_pos (s : State) (u : Nat) (a : Word) (dawn : Bool) : PosKeeps s (s.bistRemap u a dawn) :=
  Keeps.ite (Keeps.refl s) (Keeps.ite (remap_pos _ _ _ _) (remapFull_pos _ _ _))

theorem bistNote_pos (s : State) (u i sig : Nat) : PosKeeps s (s.bistNote u i sig) := by
  unfold State.bistNote
  extract_lets s1 s2 s3
  have h3 : PosKeeps s s3 := (((((wr_pos s _ _ rfl).wr _ _ rfl).wr _ _ rfl).wr _ _ rfl).wr _ _ rfl).lifeAdd _ _ _
  exact Keeps.ite h3 (h3.trans (pos_of_regs rfl))

theorem dawnBist_pos (s : State) (fails : List BistFail) : PosKeeps s (s.dawnBist fails) :=
  Keeps.foldl (fun t _ _ => Keeps.ite ((bistNote_pos t _ _ _).trans (bistRemap_pos _ _ _ _)) (bistNote_pos t _ _ _)) s

/-! ## Sequencers and units (R387, R457) -/

theorem setSq_pos (s : State) (n st : Nat) : PosKeeps s (s.setSq n st) :=
  (Keeps.ite (c := n = 0) (wr_pos s _ _ rfl) (wr_pos s _ _ rfl)).wr _ _ rfl

theorem dawnSq_pos (s : State) (bad : Nat → Bool) : PosKeeps s (s.dawnSq bad) :=
  ((((setSq_pos s _ _).wr _ _ rfl).wr _ _ (offPosition_add (by decide))).wr _ _ (offPosition_add (by decide))).trans (setSq_pos _ _ _)

theorem dxRest_pos (s : State) (n : Nat) : PosKeeps s (s.dxRest n) :=
  Keeps.ite (wr_pos s _ _ (offPosition_add (by decide))) (wr_pos s _ _ (offPosition_add (by decide)))

/-- A unit that has failed is taken out of use as its kind wants it, and reported. -/
theorem dawnUnits_pos (s : State) (fails : List BistFail) : PosKeeps s (s.dawnUnits fails) := by
  refine Keeps.foldl (fun t _ _ => Keeps.raise offPosition_plumb ?_ _ _ _) s
  split
  · exact (wr_pos t _ _ (offPosition_add (by decide))).trans (dxRest_pos _ _)
  · exact wr_pos t _ _ (offPosition_add (by decide))
  · exact wr_pos t _ _ rfl
  · exact wr_pos t _ _ rfl
  · exact Keeps.refl t

/-! ## Lanes (R73, R274, R282) -/

theorem enter_pos (s : State) (n st : Nat) : PosKeeps s (s.enter n st) :=
  (wr_pos s (R.HL_STATE_STATE n) _ (offPosition_add (by decide))).trans (onLane_pos _ _ _)

theorem startDetect_pos (s : State) (n : Nat) : PosKeeps s (s.startDetect n) := ((enter_pos s n _).trans (onLane_pos _ _ _)).emit _

theorem capInfo_pos (s : State) (n : Nat) (c : Cap) : PosKeeps s (s.capInfo n c) :=
  have hinfo : offPosition (R.HL_HD_INFO n) = true := offPosition_add (by decide)
  have hdelay : offPosition (R.HL_HD_DELAY n) = true := offPosition_add (by decide)
  have hta : offPosition (R.HL_HD_TA n) = true := offPosition_add (by decide)
  have hid : offPosition (R.HL_HD_ID n) = true := offPosition_add (by decide)
  (((((((wr_pos s _ _ hinfo).wr _ _ hinfo).wr _ _ hinfo).wr _ _ hinfo).wr _ _ hinfo).wr _ _ hdelay).wr _ _ hta).wr _ _ hid

theorem laneReject_pos (s : State) (n reason : Nat) : PosKeeps s (s.laneReject n reason) :=
  ((enter_pos s n _).wr (R.HL_STATE_REJECT n) _ (offPosition_add (by decide))).trans (onLane_pos _ _ _)

theorem setRate_pos (s : State) (n rate : Nat) : PosKeeps s (s.setRate n rate) :=
  have hstate : offPosition (R.HL_STATE n) = true := offPosition_add (by decide)
  ((wr_pos s (R.HL_STATE_RATE n) _ hstate).wr (R.HL_STATE_RATE_LOW n) _ hstate).trans (onLane_pos _ _ _)

theorem laneUp_pos (s : State) (n : Nat) : PosKeeps s (s.laneUp n) :=
  have hstate : offPosition (R.HL_STATE n) = true := offPosition_add (by decide)
  ((((enter_pos s n _).wr (R.HL_STATE_DONE n) _ hstate).wr (R.HL_STATE_ABORTED n) _ hstate).trans (onLane_pos _ _ _)).condOff
    offPosition_plumb _ _ _

/-- A lane with an answer trains to its rate, or is refused for it; without one it looks for its head. -/
theorem dawnLane_pos (ups : List LaneUp) (s : State) (n : Nat) : PosKeeps s (s.dawnLane ups n) := by
  unfold State.dawnLane
  refine Keeps.ite (Keeps.refl s) ?_
  split
  · exact startDetect_pos s n
  · next u _ =>
    extract_lets s1 s2 s3
    have h1 : PosKeeps s s1 := capInfo_pos s n u.cap
    have h2 : PosKeeps s1 s2 := ((((setRate_pos s1 n _).wr (R.HL_LAMBDA_PS n) _ (offPosition_add (by decide))).wr (R.HL_STATE_CAL_OK n) _
      (offPosition_add (by decide))).wr (R.HL_EYE_WIDTH n) _ (offPosition_add (by decide))).wr (R.HL_EYE_HEIGHT n) _
      (offPosition_add (by decide))
    have h3 : PosKeeps s2 s3 := (onLane_pos s2 n _).drawn
    exact Keeps.ite (h1.trans (laneReject_pos s1 n _)) (((h1.trans h2).trans h3).trans (laneUp_pos s3 n))

/-- Channels move to their other lane, with no line in flight. -/
theorem switchFrom_pos (s : State) (n : Nat) : PosKeeps s (s.switchFrom n false).1 := by
  simp only [State.switchFrom, Bool.false_eq_true, if_false]
  exact Keeps.foldl (fun t _ _ => wr_pos t _ _ (offPosition_add (by decide))) s

theorem switchOver_pos (s : State) (n : Nat) : PosKeeps s (s.switchOver n false) := by
  unfold State.switchOver
  extract_lets r
  have h : PosKeeps s r.1 := switchFrom_pos s n
  exact Keeps.ite h ((h.lifeAdd _ _ _).condOn offPosition_plumb _ _ _)

theorem dawnShort_pos (s : State) (n : Nat) : PosKeeps s (s.dawnShort n) :=
  Keeps.ite ((((wr_pos s R.DAWN_CAUSE_LANE_SHORT _ rfl).trans (onLane_pos _ _ _)).condOn offPosition_plumb _ _ _).trans
    (switchOver_pos _ n)) (Keeps.refl s)

/-! ## What begins with Day (step 7) -/

theorem gateSettle_pos (s : State) (g : Nat) : PosKeeps s (s.gateSettle g) := by
  unfold State.gateSettle
  extract_lets s1
  have hstate : offPosition (R.GATE_STATE g) = true := offPosition_add (by decide)
  have htrim : offPosition (R.GATE_TRIM g) = true := offPosition_add (by decide)
  have h1 : PosKeeps s s1 := (wr_pos s _ _ hstate).trans (onGate_pos _ _ _)
  refine Keeps.ite (wr_pos s _ _ hstate) ?_
  split
  · exact h1
  · exact (((h1.wr _ _ htrim).wr _ _ htrim).wr (R.GATE_AREF_AREF g) _ (offPosition_add (by decide))).trans (onGate_pos _ _ _)

/-- A camera lane starts to look for lock, and its pipeline with it. -/
theorem camBegin_pos (s : State) (n : Nat) : PosKeeps s
    (let u := if s.cf (R.CL_CFG_EN n) = 1 ∧ !s.unitBad 8 n then s.wr (R.CL_STATUS_STATE n) 1 else s
     if u.cpOn n then u.wr (R.CP_STATUS_STATE n) 1 else u) := by
  extract_lets u
  have h : PosKeeps s u := Keeps.ite (wr_pos s _ _ (offPosition_add (by decide))) (Keeps.refl s)
  exact Keeps.ite (h.wr _ _ (offPosition_add (by decide))) h

theorem tbRate_pos (s : State) (k : Nat) (x : Rat) : PosKeeps s (s.tbRate k x) :=
  (onTb_pos s k _).wr (R.TB_ADJ_RATE k) _ (offPosition_add (by decide))

theorem promoteSerial_pos (s : State) (k : Nat) : PosKeeps s (s.promoteSerial k) :=
  have h {b : Nat} (hb : 0x400A8 ≤ b) (j : Nat) : offPosition (b + j) = true := offPosition_add hb
  Keeps.ite (((((((((Keeps.refl s).wrW _ _ _ (h (by decide) _) (h (by decide) _)).wrW _ _ _ (h (by decide) _) (h (by decide) _)).wr _ _
    (h (by decide) _)).wr _ _ (h (by decide) _)).wr _ _ (h (by decide) _)).wr _ _ (h (by decide) _)).wr _ _ (h (by decide) _)).wr _ _
    (h (by decide) _)) (Keeps.refl s)

theorem pendSerial_pos (s : State) (k : Nat) : PosKeeps s (s.pendSerial k) :=
  (wr_pos s _ _ (offPosition_add (by decide))).trans (promoteSerial_pos _ _)

theorem crossTrack_pos (s : State) : PosKeeps s s.crossTrack :=
  Keeps.ite (Keeps.ite (Keeps.refl s) (onEnc_pos s _ _)) (onEnc_pos s _ _)

theorem speedDemand_pos (s : State) : PosKeeps s s.speedDemand := (wr_pos s _ _ rfl).wr _ _ rfl

theorem dawnBegin_pos (s : State) : PosKeeps s s.dawnBegin := by
  unfold State.dawnBegin
  extract_lets s1 s2 s3 s4 s5 s6 s7
  have h1 : PosKeeps s s1 := Keeps.foldl (fun t g _ => Keeps.ite (gateSettle_pos t g) (Keeps.refl t)) s
  have h2 : PosKeeps s1 s2 := Keeps.foldl (fun t n _ => camBegin_pos t n) s1
  have h3 : PosKeeps s2 s3 := Keeps.foldl (fun t k _ => Keeps.ite (Keeps.refl t) (tbRate_pos t k _)) s2
  have h4 : PosKeeps s3 s4 := Keeps.foldl (fun t p _ => Keeps.ite (tpArm_pos t p) (Keeps.refl t)) s3
  have h5 : PosKeeps s4 s5 := Keeps.foldl (fun t k _ => Keeps.ite (Keeps.refl t) (pendSerial_pos t k)) s4
  have h6 : PosKeeps s5 s6 := Keeps.foldl (fun t _ _ => onFollower_pos t _ _) s5
  have h7 : PosKeeps s6 s7 := Keeps.foldl (fun t _ _ => reports_pos t _) s6
  exact (((((((h1.trans h2).trans h3).trans h4).trans h5).trans h6).trans h7).trans (crossTrack_pos s7)).trans (speedDemand_pos _)

end Sys2Proof.Machine
end

section
/-! PROOFS. What an image and the state store write beside the positions and CONT (R63 to R70, R200, R465). -/

namespace Sys2Proof.Machine

variable {s t : State} {d : DawnIn}

/-! ## The records of an image (R64, R65) -/

/-- Neither a position nor CONT has a field that an image may set. -/
theorem position_unset : ∀ a ∈ positionWords, (famOf a).all (fun f => accMask f.rows (fun x => x == .rw || x == .rws) == 0) = true := by
  decide +kernel

theorem regEntry_pos {a : Nat} {w : Word} (h : s.regEntry a w = some t) : PosKeeps s t := by
  unfold State.regEntry at h
  split at h
  · exact absurd h (by simp)
  · next f hfam =>
    extract_lets v sets u at h
    split at h
    · exact absurd h (by simp)
    · next hset =>
      have ha : offPosition a = true := offPosition_iff.2 fun hm => hset (.inl (by simpa [hfam] using position_unset a hm))
      have hu : PosKeeps s u := (Keeps.refl s).setWord _ _ ha
      split at h
      · exact absurd h (by simp)
      · split at h
        · exact absurd h (by simp)
        · exact Option.some.inj h ▸ hu

theorem setWords_pos (s : State) (a : Nat) (ws : List Word) (ha : 0x40000000 ≤ a) : PosKeeps s (s.setWords a ws) :=
  setWords_keeps (fun b hb => offPosition_high (by omega)) s a ws (by omega)

/-- What the records of an image have built so far keeps positions and CONT, and its tables lie above the registers. -/
def Build.apart (s : State) (b : Build) : Prop := PosKeeps s b.s ∧ ∀ e ∈ b.tables, 0x40000000 ≤ e.1

section
variable {b c : Build}

theorem pin_apart {e : List Byte} (hb : b.apart s) (h : b.pin e = some c) : c.apart s := by
  unfold Build.pin at h
  extract_lets n at h
  split at h
  · exact absurd h (by simp)
  · obtain ⟨t, ht, rfl⟩ := Option.map_eq_some_iff.1 h
    exact ⟨hb.1.trans (regEntry_pos ht), hb.2⟩

theorem reg_apart {e : List Byte} (hb : b.apart s) (h : b.reg e = some c) : c.apart s := by
  unfold Build.reg at h
  split at h
  · exact absurd h (by simp)
  · obtain ⟨t, ht, rfl⟩ := Option.map_eq_some_iff.1 h
    exact ⟨hb.1.trans (regEntry_pos ht), hb.2⟩

theorem span_apart {e : List Byte} (hb : b.apart s) (h : b.span e = some c) : c.apart s := by
  unfold Build.span at h
  extract_lets par ch at h
  split at h
  · exact absurd h (by simp)
  · exact Option.some.inj h ▸ hb

theorem table_apart {v : List Byte} (hb : b.apart s) (h : b.table v = some c) : c.apart s := by
  unfold Build.table at h
  extract_lets a ws at h
  split at h
  · exact absurd h (by simp)
  · next hbad =>
    have ha : 0x40000000 ≤ a := by
      simp only [not_or] at hbad
      omega
    refine Option.some.inj h ▸ ⟨hb.1.trans (setWords_pos _ _ _ ha), fun e he => ?_⟩
    rcases List.mem_append.1 he with he | he
    · exact hb.2 e he
    · obtain ⟨x, -, rfl⟩ := List.mem_map.1 he
      exact ha.trans (Nat.le_add_right _ _)

/-- The entries of a record, one after another. -/
theorem recordEntries_apart {f : Build → List Byte → Option Build} {v : List Byte}
    (hf : ∀ b e c, b.apart s → f b e = some c → c.apart s) (hb : b.apart s) (h : (entries8 v).bind (foldOpt f b) = some c) :
    c.apart s := by
  obtain ⟨es, -, he⟩ := Option.bind_eq_some_iff.1 h
  exact foldOpt_keeps hf es b c hb he

theorem record_apart (b : Build) (r : Nat × Nat × List Byte) (c : Build) (hb : b.apart s) (h : b.record r = some c) : c.apart s := by
  unfold Build.record at h
  split at h
  · exact recordEntries_apart (fun _ _ _ => pin_apart) hb h
  · exact recordEntries_apart (fun _ _ _ => reg_apart) hb h
  · exact recordEntries_apart (fun _ _ _ => span_apart) hb h
  · exact table_apart hb h
  · exact Option.some.inj h ▸ hb
  · split at h
    · exact Option.some.inj h ▸ hb
    · exact absurd h (by simp)

end

/-! ## The image (R66 to R68, R465) -/

theorem layOut_pos (s : State) : PosKeeps s s.layOut :=
  ((((wr_pos s R.JOB_BASE_BASE _ rfl).wr R.JOB_SIZE_SIZE _ rfl).wr R.IRON_HIST_SIZE_SIZE _ rfl).wr R.REPEAT_FREE_SIZE _ rfl).drawn

theorem intakes_pos (s : State) : PosKeeps s s.intakes :=
  Keeps.foldl (fun t n _ => Keeps.ite (wr_pos t (R.DMA_STATUS_STATE n) _ (offPosition_add (by decide))) (Keeps.refl t)) s

theorem applyImage_pos {body : List Byte} (h : s.applyImage body = some t) : PosKeeps s t := by
  unfold State.applyImage at h
  split at h
  · exact absurd h (by simp)
  · next rs _ =>
    obtain ⟨b, hb, ht⟩ := Option.bind_eq_some_iff.1 h
    have happart : b.apart s := foldOpt_keeps record_apart rs { s := s } b ⟨Keeps.refl s, fun _ he => absurd he (by simp)⟩ hb
    obtain ⟨hs, htables⟩ := happart
    extract_lets built spans x c m u at ht
    have hx : PosKeeps s x := hs.trans (pos_of_regs rfl)
    have hm : PosKeeps x m :=
      Keeps.foldl (fun t e he => (Keeps.refl t).setWord _ _ (offPosition_high ((htables e he).trans' (by decide)))) x
    split at ht
    · exact absurd ht (by simp)
    · split at ht
      · exact absurd ht (by simp)
      · rw [← Option.some.inj ht]
        exact ((hx.trans hm).trans (layOut_pos m)).trans (intakes_pos _)

theorem applySlot_pos {k : Nat} {e : Header × State} (h : s.applySlot k = some e) : PosKeeps s e.2 := by
  simp only [State.applySlot, Option.bind_eq_some_iff, Option.map_eq_some_iff] at h
  obtain ⟨_, -, t, ⟨_, -, ht⟩, rfl⟩ := h
  exact applyImage_pos ht

theorem tryImages_pos {x : Applied} (h : s.tryImages = some x) : PosKeeps s x.s := by
  obtain ⟨k, -, hk⟩ := Option.bind_eq_some_iff.1 h
  split at hk
  · next he => exact Option.some.inj hk ▸ applySlot_pos he
  · obtain ⟨e, he, rfl⟩ := Option.map_eq_some_iff.1 hk
    exact applySlot_pos he

theorem setSlot_pos (s : State) (k gen : Nat) (ok : Bool) : PosKeeps s (s.setSlot k gen ok) := by
  refine ⟨rfl, fun a ha => setSlot_word s k gen a ok fun hm => ?_⟩
  have hoff : ∀ b ∈ slotWords, offPosition b = true := by decide
  rw [hoff a hm] at ha
  exact absurd ha (by simp)

theorem onNvm_pos (s : State) (f : Nvm → Nvm) : PosKeeps s (s.onNvm f) := pos_of_regs rfl

theorem showSlots_pos (s b : State) (x : Applied) : PosKeeps s (s.showSlots b x) := by
  unfold State.showSlots
  extract_lets other s1
  have h1 : PosKeeps s s1 := setSlot_pos s _ _ _
  split
  · exact ((h1.trans (setSlot_pos s1 _ _ _)).wr R.NVM_SLOTS_OTHER_CHK _ rfl).trans (onNvm_pos _ _)
  · exact (h1.trans (setSlot_pos s1 _ _ _)).wr R.NVM_SLOTS_OTHER_CHK _ rfl

/-! ## The state store (R70) -/

theorem onDarn_pos (s : State) (f : Darn → Darn) : PosKeeps s (s.onDarn f) := pos_of_regs rfl

theorem camRx_pos (s : State) (l : Sparse Rx) : PosKeeps s { s with camRx := l } := pos_of_regs rfl

theorem keys_pos (s : State) (l : Sparse (List Byte)) : PosKeeps s { s with keys := l } := pos_of_regs rfl

theorem restoreMend_pos (s : State) (e : List Byte) : PosKeeps s (s.restoreMend e) := by
  unfold State.restoreMend
  extract_lets w n
  exact Keeps.ite (Keeps.refl s) (onDarn_pos s _)

theorem restoreGate_pos (s : State) (e : List Byte) : PosKeeps s (s.restoreGate e) := Keeps.ite (Keeps.refl s) (onGate_pos s _ _)

theorem restoreGains_pos (s : State) (v : List Byte) : PosKeeps s (s.restoreGains v) :=
  Keeps.foldl (fun t n _ => Keeps.ite (Keeps.refl t) ((Keeps.refl t).setWord (ironAddr n) _ (offPosition_high
    (by simp only [ironAddr]; omega)))) s

theorem restoreReg_pos (s : State) (b : Nat) (e : List Byte) : PosKeeps s (s.restoreReg b e) := by
  unfold State.restoreReg
  extract_lets reg lat s1
  have h1 : PosKeeps s s1 := Keeps.ite (wr_pos s (R.TG_REG_REG b) _ (offPosition_add (by decide))) (Keeps.refl s)
  exact Keeps.ite (h1.wr (R.BAR_LAT_LAT b) _ (offPosition_add (by decide))) h1

theorem restoreRemap_pos (s : State) (c : Nat) (e : List Byte) : PosKeeps s (s.restoreRemap c e) :=
  Keeps.ite (Keeps.refl s) (Keeps.ite (remap_pos s _ _ _) (remapFull_pos s _ _))

/-- A trim goes to a head lane or to a camera lane that has room for it. -/
theorem restoreTrim_pos (s : State) (e : List Byte) : PosKeeps s (s.restoreTrim e) :=
  Keeps.ite (Keeps.ite (Keeps.refl s) (onLane_pos s _ _)) (Keeps.ite (Keeps.refl s) (camRx_pos s _))

theorem restoreKey_pos (s : State) (e : List Byte) : PosKeeps s (s.restoreKey e) :=
  Keeps.ite (Keeps.refl s) ((keys_pos s _).wr R.KEY_VALID_SLOTS _ rfl)

theorem overlay_pos (flags : Nat) (s : State) (r : Nat × Nat × List Byte) : PosKeeps s (s.overlay flags r) := by
  unfold State.overlay
  extract_lets v
  split
  · exact Keeps.ite (Keeps.refl s) ((Keeps.foldl (fun t e _ => restoreMend_pos t e) s).wr R.MEND_COUNT_ENTRIES _ rfl)
  · exact Keeps.foldl (fun t e _ => restoreGate_pos t e) s
  · exact Keeps.ite (Keeps.refl s) (restoreGains_pos s v)
  · exact Keeps.ite (Keeps.refl s) (Keeps.foldl (fun t e _ => restoreReg_pos t _ _) s)
  · exact (Keeps.foldl (fun t e _ => restoreRemap_pos t 0 e) s).trans (Keeps.foldl (fun t e _ => restoreRemap_pos t 2 e) _)
  · exact Keeps.foldl (fun t e _ => restoreTrim_pos t e) s
  · exact Keeps.foldl (fun t e _ => restoreKey_pos t e) s
  · exact Keeps.refl s

theorem restoreStore_pos (s : State) (flags : Nat) : PosKeeps s (s.restoreStore flags) := by
  unfold State.restoreStore
  split
  · exact wr_pos s R.DAWN_CAUSE_STATE_LOST _ rfl
  · exact (((Keeps.foldl (fun t e _ => overlay_pos flags t e) s).wr R.NVM_SLOTS_ST_HALF _ rfl).wr R.STATE_GEN_GEN _ rfl).trans
      (onNvm_pos _ _)

/-! ## The end of Dawn (R71, R73 to R75) -/

theorem timeResume_pos (s : State) (us : Nat) (fresh : Bool) : PosKeeps s (s.timeResume us fresh) :=
  timeResume_keeps (fun a ha => offPosition_high (by omega)) offPosition_plumb (fun _ _ => rfl) s us fresh

theorem keepErased_pos (s : State) (slot : Nat) : PosKeeps s (s.keepErased slot) :=
  Keeps.ite (Keeps.refl s) ((onNvm_pos s _).lifeAdd _ _ _)

theorem onLeaf_pos (s : State) (c : Nat) (f : Leaf → Leaf) : PosKeeps s (s.onLeaf c f) := pos_of_regs rfl

theorem latchDawn_pos (s : State) : PosKeeps s s.latchDawn := Keeps.foldl (fun t _ _ => onLeaf_pos t _ _) s

theorem toService_pos (b : State) (x : Applied) (s : State) (d : DawnIn) : PosKeeps x.s (b.toService x s d) := by
  unfold State.toService
  extract_lets s1 s2 s3 s4 s5 s6 w s7 s8
  have h1 : PosKeeps x.s s1 :=
    ((((wr_pos x.s R.IMAGE_GEN_GEN _ rfl).wr R.DAWN_CAUSE_SLOT _ rfl).wr R.DAWN_CAUSE_FALLBACK _ rfl).trans (showSlots_pos _ b x)).trans
      (restoreStore_pos _ _)
  have h2 : PosKeeps s1 s2 := ((timeResume_pos s1 _ _).trans (dawnSq_pos _ _)).trans (dawnUnits_pos _ _)
  have h3 : PosKeeps s2 s3 := Keeps.foldl (fun t n _ => dawnLane_pos d.lanes t n) s2
  have h4 : PosKeeps s3 s4 := Keeps.foldl (fun t n _ => dawnShort_pos t n) s3
  have h5 : PosKeeps s4 s5 := (dawnBegin_pos s4).wr R.DAWN_CAUSE_BIST_DEGRADED _ rfl
  have h6 : PosKeeps s5 s6 := ((Keeps.refl s5).raise offPosition_plumb _ _ _).journalDue _
  have h7 : PosKeeps s6 s7 := Keeps.ite ((Keeps.refl s6).raise offPosition_plumb _ _ _) (Keeps.refl s6)
  have h8 : PosKeeps s7 s8 := Keeps.ite ((Keeps.refl s7).raise offPosition_plumb _ _ _) (Keeps.refl s7)
  have hday : PosKeeps x.s s8 := (((((((h1.trans h2).trans h3).trans h4).trans h5).trans h6).trans h7).trans h8)
  exact (hday.trans (keepErased_pos s8 _)).trans (latchDawn_pos _)

theorem toMaint_pos (b : State) (why : Nat) : PosKeeps b (b.toMaint why) :=
  (((wr_pos b R.DAWN_CAUSE_MAINT _ rfl).wr R.DAWN_CAUSE_MAINT_WHY _ rfl).wr R.NVM_SLOTS_OTHER_CHK _ rfl).trans (pos_of_regs rfl)

/-- Positions and CONT are, after a Dawn that no sensor trips, as step 5 has set them. -/
theorem dawn_pos (s : State) (hcool : d.hotTrip = none) : PosKeeps ((s.dawnBase d).dawnEnc s) (s.dawn d) := by
  unfold State.dawn
  rw [hcool]
  dsimp only
  have hbist := dawnBist_pos ((s.dawnBase d).dawnEnc s) d.bist
  generalize ((s.dawnBase d).dawnEnc s).dawnBist d.bist = b at hbist
  split
  · exact hbist.trans (toMaint_pos b 3)
  · split
    · exact hbist.trans (toMaint_pos b 2)
    · split
      · exact hbist.trans (toMaint_pos b 1)
      · next x hx => exact hbist.trans ((tryImages_pos hx).trans (toService_pos b x s d))

end Sys2Proof.Machine
end

section
/-! PROOFS. What position survives a Dawn, and what clears CONT (R198, R200). -/

namespace Sys2Proof.Machine

variable {s t : State} {d : DawnIn}

/-! ## Dawn (R200) -/

section
variable (h : PosKeeps s t)
include h

theorem pos_word {a : Nat} (ha : a ∈ positionWords) : t.word a = s.word a := h.2 a (by simp [offPosition, ha])

theorem pos_encTrue (n : Fin 2) : t.encTrue n = s.encTrue n := by
  match n with
  | 0 => exact rdW_congr _ _ (pos_word h (by decide)) (pos_word h (by decide))
  | 1 => exact rdW_congr _ _ (pos_word h (by decide)) (pos_word h (by decide))

theorem pos_encPrint (n : Fin 2) : t.encPrint n = s.encPrint n := by
  match n with
  | 0 => exact rdW_congr _ _ (pos_word h (by decide)) (pos_word h (by decide))
  | 1 => exact rdW_congr _ _ (pos_word h (by decide)) (pos_word h (by decide))

theorem pos_cont (n : Fin 2) : t.rd (R.ENC_STATUS_CONT n) = s.rd (R.ENC_STATUS_CONT n) := by
  match n with
  | 0 => exact rd_congr _ _ _ (pos_word h (by decide))
  | 1 => exact rd_congr _ _ _ (pos_word h (by decide))

end

/-- The position that ENC0 goes on from. -/
def State.dawnPosition (s : State) : Nat := if s.pow.fresh then 0 else s.pow.islEnc.toNat

theorem dawnPosition_lt (s : State) : s.dawnPosition < 2 ^ 48 := by
  unfold State.dawnPosition
  split
  · decide
  · exact s.pow.islEnc.isLt

theorem dawnEnc_regs (b s : State) : (b.dawnEnc s).regs =
    (((b.setTrue 0 s.dawnPosition).setPrint 0 s.dawnPosition).wrB (R.ENC_STATUS_CONT 0)
      (!s.pow.fresh && s.flag (R.ENC_STATUS_CONT 0))).regs := rfl

/-- Step 5 writes five words, all of ENC0. -/
theorem dawnEnc_word (b s : State) (a : Nat) (ha : a < 0x40008 ∨ 0x40080 ≤ a) : (b.dawnEnc s).word a = b.word a := by
  rw [word_congr _ _ a (dawnEnc_regs b s)]
  refine (word_wr_ne _ _ _ _ (by simp only [R.ENC_STATUS]; omega)).trans ((wrW_word _ _ _ _ _ ?_ ?_).trans (wrW_word _ _ _ _ _ ?_ ?_))
  · simp only [R.ENC_PRINT_LO]; omega
  · simp only [R.ENC_PRINT_HI]; omega
  · simp only [R.ENC_TRUE_LO]; omega
  · simp only [R.ENC_TRUE_HI]; omega

theorem dawnEnc_encTrue (b s : State) : (b.dawnEnc s).encTrue 0 = s.dawnPosition := by
  rw [encTrue_congr (dawnEnc_regs b s)]
  calc _ = ((b.setTrue 0 s.dawnPosition).setPrint 0 s.dawnPosition).encTrue 0 :=
        rdW_congr _ _ (word_wr_ne _ _ _ _ (by decide)) (word_wr_ne _ _ _ _ (by decide))
    _ = (b.setTrue 0 s.dawnPosition).encTrue 0 :=
        rdW_congr _ _ (wrW_word _ _ _ _ _ (by decide) (by decide)) (wrW_word _ _ _ _ _ (by decide) (by decide))
    _ = s.dawnPosition := (encTrue_setTrue _ _ _).trans (Nat.mod_eq_of_lt (dawnPosition_lt s))

theorem encPrint_congr (h : t.regs = s.regs) (n : Nat) : t.encPrint n = s.encPrint n :=
  rdW_congr _ _ (word_congr _ _ _ h) (word_congr _ _ _ h)

theorem dawnEnc_encPrint (b s : State) : (b.dawnEnc s).encPrint 0 = s.dawnPosition := by
  rw [encPrint_congr (dawnEnc_regs b s)]
  calc _ = ((b.setTrue 0 s.dawnPosition).setPrint 0 s.dawnPosition).encPrint 0 :=
        rdW_congr _ _ (word_wr_ne _ _ _ _ (by decide)) (word_wr_ne _ _ _ _ (by decide))
    _ = s.dawnPosition := (encPrint_setPrint _ _ _).trans (Nat.mod_eq_of_lt (dawnPosition_lt s))

theorem dawnEnc_cont (b s : State) :
    (b.dawnEnc s).rd (R.ENC_STATUS_CONT 0) = if s.pow.fresh then 0 else s.rd (R.ENC_STATUS_CONT 0) := by
  rw [rd_congr _ _ _ (word_congr _ _ _ (dawnEnc_regs b s))]
  refine (rd_wr_same _ _ _ rfl).trans ?_
  have hlt : s.rd (R.ENC_STATUS_CONT 0) < 2 := rd_lt s _
  cases s.pow.fresh
  · rw [State.flag]
    rcases (by omega : s.rd (R.ENC_STATUS_CONT 0) = 0 ∨ s.rd (R.ENC_STATUS_CONT 0) = 1) with h | h <;> rw [h] <;> rfl
  · rfl

/-- ENC1 starts at 0, and without CONT. -/
theorem dawnEnc_other (s : State) (d : DawnIn) : ((s.dawnBase d).dawnEnc s).encTrue 1 = 0 ∧ ((s.dawnBase d).dawnEnc s).encPrint 1 = 0 ∧
    ((s.dawnBase d).dawnEnc s).rd (R.ENC_STATUS_CONT 1) = 0 := by
  have hbase := dawnBase_pos s d
  have hword (a : Nat) (ha : 0x40080 ≤ a) : ((s.dawnBase d).dawnEnc s).word a = (s.dawnBase d).word a := dawnEnc_word _ s a (.inr ha)
  refine ⟨?_, ?_, ?_⟩
  · rw [show ((s.dawnBase d).dawnEnc s).encTrue 1 = (s.dawnBase d).encTrue 1 from
        rdW_congr _ _ (hword _ (by decide)) (hword _ (by decide)),
      show (s.dawnBase d).encTrue 1 = ({} : State).encTrue 1 from pos_encTrue hbase 1]
    decide +kernel
  · rw [show ((s.dawnBase d).dawnEnc s).encPrint 1 = (s.dawnBase d).encPrint 1 from
        rdW_congr _ _ (hword _ (by decide)) (hword _ (by decide)),
      show (s.dawnBase d).encPrint 1 = ({} : State).encPrint 1 from pos_encPrint hbase 1]
    decide +kernel
  · rw [rd_congr _ _ (R.ENC_STATUS_CONT 1) (hword _ (by decide)),
      show (s.dawnBase d).rd (R.ENC_STATUS_CONT 1) = ({} : State).rd (R.ENC_STATUS_CONT 1) from pos_cont hbase 1]
    decide +kernel

/-! ## Loss of VIO, and the island check (R36, R198) -/

theorem rd_lifeAdd (s : State) (off width n : Nat) (f : Field) : (s.lifeAdd off width n).rd f = s.rd f :=
  rd_congr _ _ f (word_congr _ _ _ rfl)

theorem vioLost_cont (s : State) : s.vioLost.rd (R.ENC_STATUS_CONT 0) = 0 := by
  unfold State.vioLost
  extract_lets s1 s2
  clear_value s1
  rw [condOn_rd _ _ _ _ _ (by decide), show s2 = _ from rfl, rd_lifeAdd, rd_wr_word _ _ _ _ (by decide)]
  exact rd_wr_same _ _ _ rfl

/-- CONT is cleared with the core on and with it off. -/
theorem exec_vioLost_cont (s : State) (hvio : s.pow.vio = true) : ∃ t, exec .vioLost s = .next t ∧ t.rd (R.ENC_STATUS_CONT 0) = 0 := by
  by_cases hw : s.watched = true
  · refine ⟨s.vioLost.latch, (if_neg (by simp [hvio])).trans (if_pos hw), (rd_congr _ _ _ (latch_word _ _)).trans (vioLost_cont s)⟩
  · exact ⟨_, (if_neg (by simp [hvio])).trans (if_neg hw), (rd_congr _ _ _ (latch_word _ _)).trans (rd_wr_same _ _ _ rfl)⟩

/-- What a difference of the island's count does: it is counted, and CONT is cleared. -/
def State.islandJudged (s : State) (isl : Pos) : State :=
  if isl.toNat = s.encTrue 0 then s else (s.inc (R.ENC_ISL_DIFF_COUNT 0)).wr (R.ENC_STATUS_CONT 0) 0

theorem islandJudged_eq (s : State) (isl : Pos) : s.islandJudged isl = { s with regs := (s.islandJudged isl).regs } := by
  unfold State.islandJudged
  split <;> rfl

theorem islandJudged_word (s : State) (isl : Pos) (a : Nat) (hst : a ≠ R.ENC_STATUS 0) (hd : a ≠ R.ENC_ISL_DIFF 0) :
    (s.islandJudged isl).word a = s.word a := by
  unfold State.islandJudged
  split
  · rfl
  · exact (word_wr_ne _ _ _ _ hst).trans (word_wr_ne _ _ _ _ hd)

theorem islandJudged_differs (s : State) (isl : Pos) (h : isl.toNat ≠ s.encTrue 0) :
    (s.islandJudged isl).rd (R.ENC_STATUS_CONT 0) = 0 ∧
      (s.islandJudged isl).rd (R.ENC_ISL_DIFF_COUNT 0) = (s.rd (R.ENC_ISL_DIFF_COUNT 0) + 1) % 2 ^ 32 := by
  rw [State.islandJudged, if_neg h]
  exact ⟨rd_wr_same _ _ _ rfl, (rd_wr_word _ _ _ _ (by decide)).trans (rd_inc s _ rfl)⟩

/-- The island's count becomes ENC0's true position. -/
def State.islandSet (s : State) (isl : Pos) : State :=
  (s.islandJudged isl).onPow (fun p => { p with islEnc := BitVec.ofNat 48 (s.encTrue 0) })

theorem islandSet_eq (s : State) (isl : Pos) : s.islandSet isl =
    { s with regs := (s.islandJudged isl).regs, pow := { s.pow with islEnc := BitVec.ofNat 48 (s.encTrue 0) } } := by
  rw [State.islandSet, islandJudged_eq]
  rfl

/-- Settles O45: a Dawn sets ENC0 in step 5, and none of its later steps writes a position or CONT. -/
theorem positionsKept : Obligations.PositionsKept := by
  refine ⟨fun s d c hc hcool => ?_, exec_vioLost_cont, fun s isl hawake => ?_⟩
  · have hpos : PosKeeps ((s.dawnBase d).dawnEnc s) (s.dawn d).latch := (dawn_pos s hcool).latch
    have htrue : (s.dawn d).latch.encTrue 0 = s.dawnPosition := (pos_encTrue hpos 0).trans (dawnEnc_encTrue _ s)
    have hprint : (s.dawn d).latch.encPrint 0 = s.dawnPosition := (pos_encPrint hpos 0).trans (dawnEnc_encPrint _ s)
    have hcont := (pos_cont hpos 0).trans (dawnEnc_cont _ s)
    obtain ⟨htrue1, hprint1, hcont1⟩ := dawnEnc_other s d
    refine ⟨_, exec_dawn hc, fun hkept => ?_, fun hnew => ?_, (pos_encTrue hpos 1).trans htrue1, (pos_encPrint hpos 1).trans hprint1⟩
    · rw [State.dawnPosition, hkept] at htrue hprint
      rw [hkept] at hcont
      exact ⟨htrue, hprint, hcont⟩
    · rw [State.dawnPosition, hnew] at htrue hprint
      rw [hnew] at hcont
      exact ⟨htrue, hprint, hcont, (pos_cont hpos 1).trans hcont1⟩
  · have hregs : (s.islandSet isl).latch.regs = (s.islandJudged isl).regs := by
      rw [islandSet_eq]
      simp only [latch_frame]
    have hword (a : Nat) : (s.islandSet isl).latch.word a = (s.islandJudged isl).word a := word_congr _ _ a hregs
    refine ⟨(s.islandSet isl).latch, if_pos hawake, ?_, fun hdiff => ?_, fun hsame => ?_, ?_, fun a ha => ?_⟩
    · rw [islandSet_eq]
      simp only [latch_frame]
    · obtain ⟨hcont, hcount⟩ := islandJudged_differs s isl hdiff
      exact ⟨(rd_congr _ _ _ (hword _)).trans hcont, (rd_congr _ _ _ (hword _)).trans hcount⟩
    · rw [hregs, State.islandJudged, if_pos hsame]
    · rw [latch_eq_leaves, islandSet_eq]
    · simp only [List.mem_cons, List.not_mem_nil, or_false, not_or] at ha
      exact (hword a).trans (islandJudged_word s isl a ha.1 ha.2)

/-! ## States that meet the hypotheses -/

/-- A module whose core is off, with CONT set and the island at its last position; VAUX is new or was kept. -/
def islandState (fresh : Bool) : State :=
  { regs := [(R.ENC_STATUS 0, 0x10)], pow := { phase := .off, vio := true, fresh := fresh, islEnc := 0xFFFFFFFFFFFF } }

/-- VAUX was kept: ENC0 goes on at the island's count, and CONT stays. -/
theorem positionsKept_kept_witness :
    ∃ t, exec (.dawnStart coldDawn) (islandState false) = .next t ∧ t.encTrue 0 = 2 ^ 48 - 1 ∧ t.encPrint 0 = 2 ^ 48 - 1 ∧
      t.rd (R.ENC_STATUS_CONT 0) = 1 ∧ t.encTrue 1 = 0 := by
  obtain ⟨t, hrun, hkept, -, hother, -⟩ := positionsKept.1 (islandState false) coldDawn _ (.inl ⟨rfl, rfl⟩) rfl
  obtain ⟨htrue, hprint, hcont⟩ := hkept rfl
  exact ⟨t, hrun, htrue, hprint, hcont.trans (by decide +kernel), hother⟩

/-- VAUX is new: the positions are 0, and CONT is cleared. -/
theorem positionsKept_new_witness :
    ∃ t, exec (.dawnStart coldDawn) (islandState true) = .next t ∧ t.encTrue 0 = 0 ∧ t.encPrint 0 = 0 ∧ t.rd (R.ENC_STATUS_CONT 0) = 0 := by
  obtain ⟨t, hrun, -, hnew, -⟩ := positionsKept.1 (islandState true) coldDawn _ (.inl ⟨rfl, rfl⟩) rfl
  obtain ⟨htrue, hprint, hcont, -⟩ := hnew rfl
  exact ⟨t, hrun, htrue, hprint, hcont⟩

/-- VIO is lost with the core off. -/
theorem positionsKept_vio_witness : ∃ t, exec .vioLost (islandState false) = .next t ∧ t.rd (R.ENC_STATUS_CONT 0) = 0 :=
  positionsKept.2.1 (islandState false) rfl

/-- In Day the island stands one count away from ENC0. -/
theorem positionsKept_island_witness :
    ∃ t, exec (.islandCheck 1) { islandState false with pow := dayState.pow } = .next t ∧ t.rd (R.ENC_STATUS_CONT 0) = 0 ∧
      t.rd (R.ENC_ISL_DIFF_COUNT 0) = 1 := by
  obtain ⟨t, hrun, -, hdiff, -⟩ := positionsKept.2.2 { islandState false with pow := dayState.pow } 1 (by decide +kernel)
  obtain ⟨hcont, hcount⟩ := hdiff (by decide +kernel)
  exact ⟨t, hrun, hcont, hcount.trans (by decide +kernel)⟩

end Sys2Proof.Machine
end

section
/-! PROOFS. What a marker that leaves its lane changes (R213, R261), and a strike against one of two sequencers (R388, R391, R394). -/

namespace Sys2Proof.Machine

variable {s t : State} {m : Marker}

/-! ## Planned markers (R213) -/

theorem lane_onLane_same (s : State) (n : Nat) (f : Lane → Lane) : (s.onLane n f).lane n = f (s.lane n) := get_upd_same _ _ _ _

theorem lane_onLane_ne (s : State) (k n : Nat) (f : Lane → Lane) (h : k ≠ n) : (s.onLane n f).lane k = s.lane k := get_upd_ne _ _ _ _ _ h

/-- What a change to a lane leaves of every lane when it leaves it of that lane. -/
theorem lane_onLane_of {α : Type} (g : Lane → α) (s : State) (k n : Nat) (f : Lane → Lane) (h : ∀ l, g (f l) = g l) :
    g ((s.onLane n f).lane k) = g (s.lane k) := by
  by_cases e : k = n
  · rw [e, lane_onLane_same, h]
  · rw [lane_onLane_ne s k n f e]

theorem planned_congr (h : t.lanes = s.lanes) (lane bar count ord : Nat) : t.planned lane bar count ord = s.planned lane bar count ord := by
  rw [State.planned, State.planned, State.lane, State.lane, h]

/-- A planned marker has the bar, the line and the ordinal that it was asked for by. -/
theorem planned_names {lane bar count ord : Nat} (h : s.planned lane bar count ord = some m) :
    m.bar = bar ∧ m.count = count ∧ m.ord = ord := by
  simpa [and_assoc] using List.find?_some h

/-- A marker whose departure has come is planned. -/
theorem departing_planned {lane bar count ord : Nat} (h : s.departing lane bar count ord = some m) :
    s.planned lane bar count ord = some m := by
  unfold State.departing at h
  split at h
  · cases h
  · next hplan =>
    split at h
    · cases h
      split at hplan
      · exact hplan
      · cases hplan
    · cases h

/-! ## A lane that the host aborted (R103) -/

/-- The lane stays as it is, or goes to SHALLOW and tells its head so. -/
theorem settleAborted_cases (s : State) (n : Nat) :
    s.settleAborted n = s ∨ s.settleAborted n = s.lanePower n laneShallow 1 := by
  unfold State.settleAborted
  split
  · exact .inr rfl
  · exact .inl rfl

theorem settleAborted_sansLanes (s : State) (n : Nat) : (s.settleAborted n).sansLanes = s.sansLanes := by
  obtain h | h := settleAborted_cases s n <;> rw [h]
  exact lanePower_sansLanes _ _ _ _

theorem settleAborted_word (s : State) (n a : Nat) (h : a ≠ R.HL_STATE n) : (s.settleAborted n).word a = s.word a := by
  obtain e | e := settleAborted_cases s n <;> rw [e]
  exact lanePower_word _ _ _ _ _ h

theorem settleAborted_out (s : State) (n : Nat) : s.out <+: (s.settleAborted n).out := by
  obtain h | h := settleAborted_cases s n <;> rw [h]
  exact emit_out (s.enter n laneShallow) _

theorem settleAborted_eq (s : State) (n : Nat) : s.settleAborted n =
    { s with regs := (s.settleAborted n).regs, lanes := (s.settleAborted n).lanes, out := (s.settleAborted n).out } :=
  eq_of_sansLanes (settleAborted_sansLanes s n)

theorem settleAborted_plan (s : State) (n k : Nat) : ((s.settleAborted n).lane k).plan = (s.lane k).plan := by
  obtain h | h := settleAborted_cases s n <;> rw [h]
  have henter : ((s.enter n laneShallow).lane k).plan = (s.lane k).plan :=
    lane_onLane_of Lane.plan (s.wr (R.HL_STATE_STATE n) laneShallow) k n _ (by intro; rfl)
  exact (lane_onLane_of Lane.plan ((s.enter n laneShallow).emit _) k n _ (by intro; rfl)).trans henter

/-! ## A marker leaves (R213, R261) -/

/-- Leaving early changes registers only. -/
theorem countSlip_eq (s : State) (n : Nat) (m : Marker) : s.countSlip n m = { s with regs := (s.countSlip n m).regs } := by
  unfold State.countSlip
  split <;> rfl

theorem countSlip_word (s : State) (n : Nat) (m : Marker) (a : Nat) (hslip : a ≠ R.HL_SLIP n) (hmax : a ≠ R.HL_SLIP_MAX n) :
    (s.countSlip n m).word a = s.word a := by
  unfold State.countSlip
  split
  · exact (word_wr_ne _ _ _ _ hmax).trans (word_wr_ne _ _ _ _ hslip)
  · rfl

/-- The state once a marker has left, but for what then becomes of a lane that the host aborted. -/
def State.markerGone (s : State) (n : Nat) (m : Marker) (late : Int) : State :=
  (((s.emit (.marker n (s.departs n m + late * s.laneT n) m.q m.bar (m.lseq % 256))).countSlip n m).unplan n m.bar m.count m.ord).dropBound
    n m.bar m.count m.ord

theorem markerLeaves_gone (s : State) (n : Nat) (m : Marker) (late : Int) : s.markerLeaves n m late = (s.markerGone n m late).settleAborted n :=
  rfl

theorem markerGone_eq (s : State) (n : Nat) (m : Marker) (late : Int) : s.markerGone n m late =
    { s with
      regs := (s.markerGone n m late).regs, lanes := (s.markerGone n m late).lanes, flights := (s.markerGone n m late).flights
      out := s.out ++ [.marker n (s.departs n m + late * s.laneT n) m.q m.bar (m.lseq % 256)] } := by
  rw [State.markerGone, countSlip_eq]
  rfl

theorem markerLeaves_eq (s : State) (n : Nat) (m : Marker) (late : Int) : s.markerLeaves n m late =
    { s with
      regs := (s.markerLeaves n m late).regs, lanes := (s.markerLeaves n m late).lanes, flights := (s.markerLeaves n m late).flights
      out := (s.markerLeaves n m late).out } := by
  rw [markerLeaves_gone, settleAborted_eq, markerGone_eq]

/-- The marker goes out `late` symbols after its departure. -/
theorem markerLeaves_sends (s : State) (n : Nat) (m : Marker) (late : Int) :
    Output.marker n (s.departs n m + late * s.laneT n) m.q m.bar (m.lseq % 256) ∈ (s.markerLeaves n m late).out := by
  refine (settleAborted_out (s.markerGone n m late) n).subset ?_
  rw [markerGone_eq]
  exact List.mem_append_right _ List.mem_cons_self

/-- The marker is planned no more. -/
theorem markerLeaves_planned (s : State) (n : Nat) (m : Marker) (late : Int) :
    (s.markerLeaves n m late).planned n m.bar m.count m.ord = none := by
  rw [markerLeaves_gone, State.planned, settleAborted_plan, State.markerGone]
  refine List.find?_eq_none.2 fun x hx => ?_
  change x ∈ ((State.unplan _ n m.bar m.count m.ord).lane n).plan at hx
  rw [State.unplan, lane_onLane_same] at hx
  simpa [or_iff_not_imp_left] using (List.mem_filter.1 hx).2

theorem markerLeaves_word (s : State) (n : Nat) (m : Marker) (late : Int) (a : Nat) (hslip : a ≠ R.HL_SLIP n) (hmax : a ≠ R.HL_SLIP_MAX n)
    (hstate : a ≠ R.HL_STATE n) : (s.markerLeaves n m late).word a = s.word a :=
  (settleAborted_word _ n a hstate).trans (countSlip_word (s.emit _) n m a hslip hmax)

/-! ## A strike (R391, R394) -/

/-- What a strike may change beside what is noticed: the sequencers, and the pieces and history of lines counted twice. -/
def sansTwin (u : State) : State := { u with pieces := [], hist := [], seqs := [] }

/-- `t` is `s` but for what is noticed and what a strike may change, and what `s` had sent stays sent. -/
def TwinKeeps (s t : State) : Prop := sansTwin t.unnoticed = sansTwin s.unnoticed ∧ s.out <+: t.out

namespace TwinKeeps

theorem refl (s : State) : TwinKeeps s s := ⟨rfl, List.prefix_rfl⟩

theorem trans {u : State} (h : TwinKeeps s t) (h' : TwinKeeps t u) : TwinKeeps s u := ⟨h'.1.trans h.1, h.2.trans h'.2⟩

/-- A step that sends nothing. -/
theorem step {u : State} (h : TwinKeeps s t) (hkeeps : sansTwin u.unnoticed = sansTwin t.unnoticed) (hout : u.out = t.out) : TwinKeeps s u :=
  h.trans ⟨hkeeps, hout ▸ List.prefix_rfl⟩

theorem ite {c : Prop} [Decidable c] {u : State} (ht : TwinKeeps s t) (hu : TwinKeeps s u) : TwinKeeps s (if c then t else u) := by
  split
  · exact ht
  · exact hu

theorem foldl {α : Type} {f : State → α → State} (h : ∀ t x, TwinKeeps t (f t x)) (l : List α) (s : State) : TwinKeeps s (l.foldl f s) :=
  List.foldlRecOn (motive := fun u => TwinKeeps s u) l f (refl s) fun u hu x _ => hu.trans (h u x)

theorem raise (h : TwinKeeps s t) (e : Event) (source arg : Nat) : TwinKeeps s (t.raise e source arg) :=
  h.trans ⟨congrArg sansTwin (unnoticed_of_quiet (raise_quiet _ _ _ _) (by simp) (by simp)), raise_out _ _ _ _⟩

theorem condOn (h : TwinKeeps s t) (e : Event) (source arg : Nat) : TwinKeeps s (t.condOn e source arg) := by
  unfold State.condOn
  exact ite h ((h.step (u := { t with conds := t.conds ++ [(e.code, source)] }) rfl rfl).raise _ _ _)

theorem lanes (h : TwinKeeps s t) : t.lanes = s.lanes := (congrArg State.lanes h.1 :)

theorem wr (h : TwinKeeps s t) (f : Field) (v : Nat) : TwinKeeps s (t.wr f v) := h.step rfl rfl

theorem lifeAdd (h : TwinKeeps s t) (off width n : Nat) : TwinKeeps s (t.lifeAdd off width n) := h.step rfl rfl

theorem onSq (h : TwinKeeps s t) (n : Nat) (f : Seq → Seq) : TwinKeeps s (t.onSq n f) := h.step rfl rfl

theorem setSq (h : TwinKeeps s t) (n st : Nat) : TwinKeeps s (t.setSq n st) := (ite (h.wr _ _) (h.wr _ _)).wr _ _

theorem takeControl (h : TwinKeeps s t) (n : Nat) : TwinKeeps s (t.takeControl n) := (((h.setSq n _).wr _ _).wr _ _).wr _ _

theorem leafLine (h : TwinKeeps s t) (c drops : Nat) : TwinKeeps s (t.leafLine c drops) := h.step rfl rfl

theorem addHist (h : TwinKeeps s t) (b : Nat) (cells : List (Nat × Nat × Nat × Bool)) : TwinKeeps s (t.addHist b cells) := h.step rfl rfl

theorem addStat (h : TwinKeeps s t) (b : Nat) (x : LineStat) : TwinKeeps s (t.addStat b x) := by
  have hdrops := foldl (f := fun (u : State) (e : Nat × Nat) => u.leafLine e.1 e.2) (fun u e => (refl u).leafLine e.1 e.2) x.drops t
  unfold State.addStat
  exact (h.trans hdrops).addHist b x.cells

/-- A line is counted twice: in the statistics, the history, and its pieces. -/
theorem countDoubled (h : TwinKeeps s t) : TwinKeeps s t.countDoubled := by
  refine h.trans (foldl (fun u b => foldl (fun v x => ?_) _ u) _ t)
  extract_lets u1 u2 u3
  have h1 : TwinKeeps v u1 := (refl v).addStat b x
  clear_value u1
  have h3 : TwinKeeps v u3 := h1.step rfl rfl
  exact (h3.wr _ _).lifeAdd _ _ _

theorem dropHandback (h : TwinKeeps s t) : TwinKeeps s t.dropHandback := (h.wr _ _).wr _ _

theorem retireSq (h : TwinKeeps s t) (n : Nat) : TwinKeeps s (t.retireSq n) := ((h.setSq n _).lifeAdd _ _ _).condOn _ _ _

end TwinKeeps

/-- A sequencer gives up while the other forms lines: no common stop is asked for. -/
theorem giveUp_twin (s : State) (n cause : Nat) (htwin : s.sqForms (twinOf n) = true) : TwinKeeps s (s.giveUp n cause) := by
  unfold State.giveUp
  extract_lets s0 was recent s1 s2 s3 s4
  refine .ite (.refl s) ?_
  rw [if_neg (by simp [htwin])]
  have h2 : TwinKeeps s s2 :=
    ((((((((TwinKeeps.refl s).wr _ _).wr _ _).lifeAdd _ _ _).onSq _ _).setSq _ _).wr _ _).wr _ _).wr _ _
  clear_value s2
  have h3 : TwinKeeps s s3 := .ite ((((((h2.wr _ _).wr _ _).takeControl _).wr _ _).lifeAdd _ _ _).wr _ _).countDoubled h2
  clear_value s3
  have h4 : TwinKeeps s s4 := h3.dropHandback.raise _ _ _
  clear_value s4
  exact .ite (h4.retireSq n) h4

theorem sqForms_congr (n : Nat) (h : t.word R.SEQ_STATE = s.word R.SEQ_STATE) : t.sqForms n = s.sqForms n := by
  simp only [State.sqForms, State.sqState, rd_congr t s R.SEQ_STATE_SQA h, rd_congr t s R.SEQ_STATE_SQB h]

/-- A strike while both sequencers form lines. -/
theorem strike_twin (s : State) (n : Nat) (htwin : s.sqForms (twinOf n) = true) : TwinKeeps s (s.strike n) := by
  unfold State.strike
  extract_lets s1 second s2
  have h2 : TwinKeeps s s2 := (((TwinKeeps.refl s).wr _ _).lifeAdd _ _ _).onSq _ _
  have hword : s2.word R.SEQ_STATE = s.word R.SEQ_STATE :=
    word_wr_ne s (R.SQ_STRIKES_COUNT n) _ _ (by simp only [R.SEQ_STATE, R.SQ_STRIKES]; omega)
  clear_value s2
  exact .ite (h2.trans (giveUp_twin s2 n 4 ((sqForms_congr _ hword).trans htwin))) ((h2.onSq _ _).wr _ _)

/-- Of two sequencers that form lines, the twin of either does. -/
theorem sqForms_twinOf (ha : s.sqForms 0 = true) (hb : s.sqForms 1 = true) : ∀ n, s.sqForms (twinOf n) = true
  | 0 => hb
  | n + 1 => by rw [show twinOf (n + 1) = 0 by simp [twinOf], ha]

end Sys2Proof.Machine
end

section
/-! PROOFS. MARKER_DEPART, LATE_MARKER and LINE_BLANKED: how a line's stay on a lane ends (R212 to R215). -/

namespace Sys2Proof.Machine

variable {s t : State} {m : Marker} {x : Flight}

/-! ## What latching the leaves' status bits leaves alone -/

theorem latch_lanes (s : State) : s.latch.lanes = s.lanes := by simp only [latch_frame]

theorem latch_flights (s : State) : s.latch.flights = s.flights := by simp only [latch_frame]

theorem latch_out (s : State) : s.latch.out = s.out := by simp only [latch_frame]

theorem latch_lane (s : State) (n : Nat) : s.latch.lane n = s.lane n := by rw [State.lane, State.lane, latch_lanes]

/-- No leaf forgets a blank line. -/
theorem latch_blanked (s : State) (c : Nat) : (s.latch.leaf c).blanked = (s.leaf c).blanked := by
  rw [latch_leaf]
  split <;> rfl

/-! ## MARKER_DEPART (R213) -/

/-- The state once a marker has departed, and the active sequencer has taken its strike where its copy of the frame was not complete. -/
def State.departed (s : State) (n : Nat) (m : Marker) (lag : Bool) : State :=
  let u := s.markerLeaves n m 0
  if lag ∧ u.sqForms 0 ∧ u.sqForms 1 then u.strike (u.rd R.SEQ_STATE_ACTIVE) else u

theorem exec_markerDepart {lane bar : Fin 16} {count : Nat} {ord : Fin 32} (lag : Bool) (h : s.departing lane bar count ord = some m) :
    exec (.markerDepart lane bar count ord lag) s = .next (s.departed lane m lag).latch := by
  show execMarkerDepart lane bar count ord lag s = _
  rw [execMarkerDepart, h]
  rfl

theorem departed_twin (s : State) (n : Nat) (m : Marker) (lag : Bool) : TwinKeeps (s.markerLeaves n m 0) (s.departed n m lag) := by
  unfold State.departed
  extract_lets u
  split
  · next h => exact strike_twin u _ (sqForms_twinOf h.2.1 h.2.2 _)
  · exact .refl u

/-- What a departure may change beside what is noticed. -/
def sansDeparture (u : State) : State := { u with pieces := [], lanes := [], flights := [], hist := [], seqs := [] }

theorem departed_frame (s : State) (n : Nat) (m : Marker) (lag : Bool) :
    sansDeparture (s.departed n m lag).latch.unnoticed = sansDeparture s.unnoticed := by
  rw [latch_unnoticed]
  refine (congrArg sansDeparture (departed_twin s n m lag).1 :).trans ?_
  rw [markerLeaves_eq]
  rfl

theorem eq_of_sansDeparture (h : sansDeparture t.unnoticed = sansDeparture s.unnoticed) :
    t = { s.noticed t with
      pow := { s.pow with lastBusy := t.pow.lastBusy }, pieces := t.pieces, ended := t.ended, rejects := t.rejects
      tgs := t.tgs, ring := t.ring, stop := { s.stop with active := t.stop.active }, lanes := t.lanes, flights := t.flights
      hist := t.hist, evid := t.evid, seqs := t.seqs, verify := t.verify } := by
  have key : t = { (sansDeparture t.unnoticed).noticed t with
    pieces := t.pieces, lanes := t.lanes, flights := t.flights, hist := t.hist, seqs := t.seqs } := rfl
  rw [h] at key
  rw [key]
  rfl

/-! ## LATE_MARKER (R214) -/

/-- The state once the channels that fire late are counted. -/
def State.lateFired (s : State) (b : Nat) (x : Flight) (n : Nat) : State :=
  if x.rinse then s
  else ((s.add (R.TG_LATE_COUNT b) n).lifeAdd 0x060 4 n).flagRows (fun r => { r with late := true }) b (s.rowsOf x)

theorem exec_lateMarker {lane bar : Fin 16} {count : Nat} {ord : Fin 32} {late : Nat} (hm : s.departing lane bar count ord = some m)
    (hx : s.flight bar count = some x) (hlate : late ≤ s.lateWin x) :
    exec (.lateMarker lane bar count ord late) s =
      .next ((s.lateFired bar x (x.chans.filter (x.bound lane bar count ord)).length).markerLeaves lane m
        ((late * 5000 + s.laneT lane - 1) / s.laneT lane : Nat)).latch := by
  show execLateMarker lane bar count ord late s = _
  rw [execLateMarker, hm, hx]
  exact if_neg (Nat.not_lt.2 hlate)

theorem lateFired_eq (s : State) (b : Nat) (x : Flight) (n : Nat) :
    s.lateFired b x n = { s with regs := (s.lateFired b x n).regs, hist := (s.lateFired b x n).hist, life := (s.lateFired b x n).life } := by
  unfold State.lateFired
  split <;> rfl

theorem lateFired_word (s : State) (b : Nat) (x : Flight) (n a : Nat) (h : a ≠ R.TG_LATE b) : (s.lateFired b x n).word a = s.word a := by
  unfold State.lateFired
  split
  · rfl
  · exact word_wr_ne _ _ _ _ h

/-- The bar's count of channels that fired late. -/
theorem lateFired_count (s : State) (b : Nat) (x : Flight) (n : Nat) :
    (s.lateFired b x n).rd (R.TG_LATE_COUNT b) = (s.rd (R.TG_LATE_COUNT b) + (if x.rinse then 0 else n)) % 2 ^ 32 := by
  unfold State.lateFired
  split
  · exact (Nat.mod_eq_of_lt (rd_lt s (R.TG_LATE_COUNT b))).symm
  · exact rd_wr_same s (R.TG_LATE_COUNT b) _ rfl

/-- The lane keeps its pace and its phase. -/
theorem lateFired_departs (s : State) (b : Fin 16) (x : Flight) (n : Nat) (lane : Fin 16) (m : Marker) :
    (s.lateFired b x n).laneT lane = s.laneT lane ∧ (s.lateFired b x n).departs lane m = s.departs lane m := by
  have hpace : (s.lateFired b x n).laneT lane = s.laneT lane :=
    congrArg symPs (rd_congr _ _ _ (lateFired_word s b x n _ (by simp only [R.HL_STATE, R.TG_LATE]; omega)))
  have hlane : (s.lateFired b x n).lane lane = s.lane lane := by
    rw [lateFired_eq]
    rfl
  exact ⟨hpace, by rw [State.departs, State.departs, hpace, hlane]⟩

/-! ## LINE_BLANKED (R215) -/

theorem flight_names {bar count : Nat} (h : s.flight bar count = some x) : x.bar = bar ∧ x.count = count := by
  simpa using List.find?_some h

theorem exec_lineBlanked {bar lane : Fin 16} {count : Nat} (hawake : s.awake = true) (hx : s.flight bar count = some x)
    (hlane : x.chans.any (fun c => c.lane == lane.val) = true)
    (hdue : ∀ m ∈ (s.lane lane).plan, m.bar = bar → m.count = count → s.departs lane m + 5000 * s.lateWin x ≤ 5000 * s.time) :
    exec (.lineBlanked bar count lane) s = .next (s.blankLane x lane).latch := by
  show execLineBlanked bar count lane s = _
  rw [execLineBlanked, if_pos hawake, hx]
  refine if_pos ⟨hlane, List.all_eq_true.2 fun m hm => decide_eq_true ?_⟩
  obtain ⟨hplan, hline⟩ := List.mem_filter.1 hm
  simp only [Bool.and_eq_true, beq_iff_eq] at hline
  exact hdue m hplan hline.1 hline.2

theorem raise_spans (s : State) (e : Event) (source arg : Nat) : (s.raise e source arg).spans = s.spans := by simp only [raise_frame]

/-- A blank line of a bar is shown at once, or kept for the next event (R215). -/
theorem blankEvent_cases (s : State) (b : Nat) :
    s.blankEvent b = s ∨ ∃ f, s.blankEvent b = (s.onTg b f).raise Ev.LINE_BLANKED b (s.tg b).blankSince := by
  unfold State.blankEvent
  extract_lets g
  split
  · split
    · exact .inr ⟨_, rfl⟩
    · exact .inl rfl
  · split
    · exact .inr ⟨_, rfl⟩
    · exact .inl rfl

/-- What blank channels may change beside what is noticed. -/
def sansBlank (u : State) : State := { u with pieces := [], tgs := [], lanes := [], flights := [], hist := [] }

theorem eq_of_sansBlank (h : sansBlank t.unnoticed = sansBlank s.unnoticed) :
    t = { s.noticed t with pieces := t.pieces, tgs := t.tgs, lanes := t.lanes, flights := t.flights, hist := t.hist } := by
  have key : t = { (sansBlank t.unnoticed).noticed t with
    pieces := t.pieces, tgs := t.tgs, lanes := t.lanes, flights := t.flights, hist := t.hist } := rfl
  rw [h] at key
  rw [key]
  rfl

/-- Leaves that take note of a blank line change in nothing else. -/
theorem leafBlanks_eq (l : List Nat) (s : State) :
    l.foldl State.leafBlank s = { s with spans := { s.spans with leaves := (l.foldl State.leafBlank s).spans.leaves } } := by
  induction l generalizing s with
  | nil => rfl
  | cons c l ih =>
    rw [List.foldl_cons, ih]
    rfl

/-- A leaf of the list takes note of a blank line, and none forgets one. -/
theorem leafBlanks_blanked (l : List Nat) (s : State) (c : Nat) (h : c ∈ l ∨ (s.leaf c).blanked = true) :
    ((l.foldl State.leafBlank s).leaf c).blanked = true := by
  induction l generalizing s with
  | nil => exact h.resolve_left List.not_mem_nil
  | cons d l ih =>
    refine ih _ ?_
    by_cases e : c = d
    · rw [e, State.leafBlank, leaf_onLeaf_same]
      exact .inr rfl
    · rw [State.leafBlank, leaf_onLeaf_ne _ _ _ _ e]
      exact h.imp_left fun hc => (List.mem_cons.1 hc).resolve_left e

/-- A line that was not counted blank before: it is counted, and noted in the leaves, and no word changes but the bar's count and those
of the event. -/
theorem countBlank_spec (s : State) (b : Nat) (chans pieces : List Nat) :
    sansBlank (s.countBlank b chans pieces).unnoticed = sansBlank s.unnoticed ∧
      (∀ c ∈ chans, ((s.countBlank b chans pieces).leaf c).blanked = true) ∧
      ∀ a, plumbWord a = false → (s.countBlank b chans pieces).word a = (s.inc (R.TG_BLANKED_COUNT b)).word a := by
  unfold State.countBlank
  extract_lets s1 s2 s3
  have hblank : ∀ c ∈ chans, (s3.leaf c).blanked = true := fun c hc => leafBlanks_blanked chans s2 c (.inl hc)
  have h3 : s3 = { s2 with spans := { s2.spans with leaves := s3.spans.leaves } } := leafBlanks_eq chans s2
  have hkeeps : sansBlank s3.unnoticed = sansBlank s.unnoticed := by
    rw [h3]
    rfl
  have hword : ∀ a, s3.word a = (s.inc (R.TG_BLANKED_COUNT b)).word a := fun a => by
    rw [h3]
    rfl
  clear_value s3
  obtain h | ⟨f, h⟩ := blankEvent_cases (s3.onTg b fun g => { g with blankSince := g.blankSince + 1 }) b
  · rw [h]
    exact ⟨hkeeps, hblank, fun a _ => hword a⟩
  · rw [h]
    refine ⟨?_, fun c hc => ?_, fun a ha => (raise_word _ _ _ _ a ha).trans (hword a)⟩
    · rw [unnoticed_of_quiet (raise_quiet _ _ _ _) (by simp) (by simp)]
      exact hkeeps
    · rw [State.leaf, raise_spans]
      exact hblank c hc

/-- The state once the blank channels of a line on a lane are counted and noted. -/
def State.blankNoted (s : State) (x : Flight) (lane : Nat) : State :=
  let cs := x.chans.filter (fun c => c.lane == lane)
  let ns := cs.map (·.chan)
  if x.rinse then s
  else
    (if x.blank then ns.foldl State.leafBlank s else s.countBlank x.bar ns (cs.map (·.piece)).eraseDups).flagRows
      (fun r => { r with blanked := true }) x.bar (s.rowsOf x)

theorem blankNoted_frame (s : State) (x : Flight) (lane : Nat) : sansBlank (s.blankNoted x lane).unnoticed = sansBlank s.unnoticed := by
  unfold State.blankNoted
  extract_lets cs ns
  split
  · rfl
  · show sansBlank (State.unnoticed (if x.blank then _ else _)) = _
    split
    · rw [leafBlanks_eq]
      rfl
    · exact (countBlank_spec s _ _ _).1

/-- Every leaf whose channel waited on the lane takes note. -/
theorem blankNoted_blanked (s : State) (lane : Nat) (hrinse : x.rinse = false) {c : FlightCh} (hc : c ∈ x.chans) (hlane : c.lane = lane) :
    ((s.blankNoted x lane).leaf c.chan).blanked = true := by
  unfold State.blankNoted
  extract_lets cs ns
  have hmem : c.chan ∈ ns := List.mem_map_of_mem (List.mem_filter.2 ⟨hc, beq_iff_eq.2 hlane⟩)
  rw [if_neg (by simp [hrinse])]
  show (State.leaf (if x.blank then _ else _) c.chan).blanked = true
  split
  · exact leafBlanks_blanked ns s _ (.inl hmem)
  · exact (countBlank_spec s _ _ _).2.1 _ hmem

/-- The bar's count of blank lines goes up by one for a line that no rinse window fires and that was not counted before. -/
theorem blankNoted_word (s : State) (x : Flight) (lane a : Nat) (ha : plumbWord a = false) :
    (s.blankNoted x lane).word a = (if x.rinse || x.blank then s else s.inc (R.TG_BLANKED_COUNT x.bar)).word a := by
  unfold State.blankNoted
  extract_lets cs ns
  cases x.rinse
  · cases x.blank
    · exact (countBlank_spec s _ _ _).2.2 a ha
    · show (ns.foldl State.leafBlank s).word a = s.word a
      rw [leafBlanks_eq]
      rfl
  · rfl

/-- A lane plans no marker of a line any more. -/
def State.unplanLine (s : State) (x : Flight) (lane : Nat) : State :=
  s.onLane lane (fun l => { l with plan := l.plan.filter (fun m => !(m.bar == x.bar && m.count == x.count)) })

theorem plumbWord_blanked {b : Nat} (hb : b < 16) : plumbWord (R.TG_BLANKED b) = false := by
  refine Bool.eq_false_iff.2 fun h => ?_
  have := plumbWord_cases h
  simp only [R.TG_BLANKED] at this
  omega

theorem blankNoted_count (s : State) (x : Flight) (lane : Nat) (hbar : x.bar < 16) :
    (s.blankNoted x lane).rd (R.TG_BLANKED_COUNT x.bar) =
      (s.rd (R.TG_BLANKED_COUNT x.bar) + b2n (!x.rinse && !x.blank)) % 2 ^ 32 := by
  rw [rd_congr _ _ (R.TG_BLANKED_COUNT x.bar) (blankNoted_word s x lane _ (plumbWord_blanked hbar)), ← Bool.not_or]
  cases x.rinse || x.blank
  · exact rd_inc s (R.TG_BLANKED_COUNT x.bar) rfl
  · exact (Nat.mod_eq_of_lt (rd_lt s (R.TG_BLANKED_COUNT x.bar))).symm

/-- The state once no marker and no channel of a line is left on a lane, but for what then becomes of a lane that the host aborted. -/
def State.laneCleared (s : State) (x : Flight) (lane : Nat) : State :=
  { s.unplanLine x lane with
    flights := (s.flights.map (fun (y : Flight) => if y.bar = x.bar ∧ y.count = x.count then
      { y with chans := y.chans.filter (fun c => c.lane != lane), blank := true } else y)).filter (fun (y : Flight) => !y.chans.isEmpty) }

theorem blankLane_eq (s : State) (x : Flight) (lane : Nat) : s.blankLane x lane = ((s.blankNoted x lane).laneCleared x lane).settleAborted lane :=
  rfl

theorem settleAborted_sansBlank (s : State) (n : Nat) : sansBlank (s.settleAborted n).unnoticed = sansBlank s.unnoticed := by
  rw [settleAborted_eq]
  rfl

theorem laneCleared_sansBlank (s : State) (x : Flight) (lane : Nat) : sansBlank (s.laneCleared x lane).unnoticed = sansBlank s.unnoticed := rfl

theorem laneCleared_plan (s : State) (x : Flight) (lane : Nat) :
    ∀ m ∈ ((s.laneCleared x lane).lane lane).plan, ¬(m.bar = x.bar ∧ m.count = x.count) := by
  intro m hm
  change m ∈ ((s.unplanLine x lane).lane lane).plan at hm
  rw [State.unplanLine, lane_onLane_same] at hm
  simpa [or_iff_not_imp_left] using (List.mem_filter.1 hm).2

theorem laneCleared_flights (s : State) (x : Flight) (lane : Nat) :
    ∀ y ∈ (s.laneCleared x lane).flights, y.bar = x.bar → y.count = x.count → ∀ c ∈ y.chans, c.lane ≠ lane := by
  intro y hy hbar hcount c hc
  obtain ⟨z, -, rfl⟩ := List.mem_map.1 (List.mem_filter.1 hy).1
  by_cases hz : z.bar = x.bar ∧ z.count = x.count
  · rw [if_pos hz] at hc
    simpa using (List.mem_filter.1 hc).2
  · rw [if_neg hz] at hbar hcount
    exact absurd ⟨hbar, hcount⟩ hz

section
variable (s : State) (x : Flight) (lane : Nat)

theorem blankLane_frame : sansBlank (s.blankLane x lane).latch.unnoticed = sansBlank s.unnoticed := by
  rw [latch_unnoticed, blankLane_eq, settleAborted_sansBlank, laneCleared_sansBlank, blankNoted_frame]

/-- No marker of the line is left on the lane. -/
theorem blankLane_plan : ∀ m ∈ ((s.blankLane x lane).latch.lane lane).plan, ¬(m.bar = x.bar ∧ m.count = x.count) := by
  rw [latch_lane, blankLane_eq, settleAborted_plan]
  exact laneCleared_plan _ x lane

/-- No channel of the line is left on the lane. -/
theorem blankLane_flights :
    ∀ y ∈ (s.blankLane x lane).latch.flights, y.bar = x.bar → y.count = x.count → ∀ c ∈ y.chans, c.lane ≠ lane := by
  rw [latch_flights, blankLane_eq, settleAborted_eq]
  exact laneCleared_flights _ x lane

theorem blankLane_leaf (c : Nat) : ((s.blankLane x lane).latch.leaf c).blanked = ((s.blankNoted x lane).leaf c).blanked := by
  rw [latch_blanked, blankLane_eq, settleAborted_eq]
  rfl

theorem blankLane_word (a : Nat) (hstate : a ≠ R.HL_STATE lane) : (s.blankLane x lane).latch.word a = (s.blankNoted x lane).word a := by
  rw [latch_word]
  exact settleAborted_word _ lane a hstate

end

/-! ## How a line's stay on a lane ends -/

/-- Settles O48: a marker leaves and its lane plans it no more, at its departure or late by whole symbols; blank channels leave their
lane, and are noted in their leaves and in their bar's count. -/
theorem linesLeave : Obligations.LinesLeave := by
  refine ⟨fun s lane bar count ord lag m hm => ?_, fun s lane bar count ord late m x hm hx hlate => ?_,
    fun s bar lane count x hawake hx hlane hdue => ?_⟩
  · obtain ⟨hbar, hcount, hord⟩ := planned_names (departing_planned hm)
    have hsent := (departed_twin s lane m lag).2
    refine ⟨_, exec_markerDepart lag hm, ?_, ?_, eq_of_sansDeparture (departed_frame s lane m lag)⟩
    · have hleaves := markerLeaves_sends s lane m 0
      rw [Int.zero_mul, Int.add_zero] at hleaves
      rw [latch_out]
      exact hsent.subset hleaves
    · rw [planned_congr ((latch_lanes _).trans (departed_twin s lane m lag).lanes), ← hbar, ← hcount, ← hord]
      exact markerLeaves_planned s lane m 0
  · obtain ⟨hbar, hcount, hord⟩ := planned_names (departing_planned hm)
    have hrun := exec_lateMarker hm hx hlate
    generalize (x.chans.filter (x.bound lane bar count ord)).length = n at hrun ⊢
    obtain ⟨hpace, hdeparts⟩ := lateFired_departs s bar x n lane m
    refine ⟨_, hrun, ?_, ?_, ?_, ?_, fun a ha => ?_⟩
    · rw [latch_out, ← hpace, ← hdeparts]
      exact markerLeaves_sends _ lane m _
    · rw [planned_congr (latch_lanes _), ← hbar, ← hcount, ← hord]
      exact markerLeaves_planned _ lane m _
    · rw [latch_rd, ← lateFired_count]
      exact rd_congr _ _ _ (markerLeaves_word _ _ _ _ _ (by simp only [R.TG_LATE, R.HL_SLIP]; omega)
        (by simp only [R.TG_LATE, R.HL_SLIP_MAX]; omega) (by simp only [R.TG_LATE, R.HL_STATE]; omega))
    · rw [latch_eq_leaves, markerLeaves_eq, lateFired_eq]
    · simp only [List.cons_append, List.nil_append, List.mem_cons, not_or] at ha
      obtain ⟨hcounted, hslip, hmax, hstate, -⟩ := ha
      rw [latch_word, markerLeaves_word _ _ _ _ _ hslip hmax hstate, lateFired_word _ _ _ _ _ hcounted]
  · obtain ⟨hbar, hcount⟩ := flight_names hx
    have hplumb : ∀ a, a ∉ eventWords → plumbWord a = false := fun a ha =>
      Bool.eq_false_iff.2 fun hp => ha (plumbWord_mem_eventWords hp)
    refine ⟨_, exec_lineBlanked hawake hx hlane hdue, ?_, ?_, ?_, ?_, eq_of_sansBlank (blankLane_frame s x lane), fun a ha => ?_⟩
    · rw [← hbar, ← hcount]
      exact blankLane_plan s x lane
    · rw [← hbar, ← hcount]
      exact blankLane_flights s x lane
    · intro hrinse c hc hon
      rw [blankLane_leaf]
      exact blankNoted_blanked s lane hrinse hc hon
    · rw [← hbar, ← blankNoted_count s x lane (by omega)]
      exact rd_congr _ _ _ (blankLane_word s x lane _ (by simp only [R.TG_BLANKED, R.HL_STATE]; omega))
    · simp only [List.cons_append, List.nil_append, List.mem_cons, not_or] at ha
      obtain ⟨hcounted, hstate, hevent⟩ := ha
      rw [blankLane_word _ _ _ _ hstate, blankNoted_word _ _ _ _ (hplumb a hevent)]
      split
      · rfl
      · exact word_inc_ne s _ a (hbar ▸ hcounted)

/-! ## States that meet the hypotheses -/

/-- The marker of line 300 of bar 1, at tick 5,000 on a lane at 800 ps a symbol. -/
def lineMarker : Marker := { bar := 1, count := 300, lseq := 300, ord := 0, fire := 6000, sp := 25000000, k := 31250, q := 3 }

/-- The line, with channel 9 waiting for the marker on lane 2; 16/65,536 of its period are 255 ticks. -/
def lineFlight : Flight :=
  { bar := 1, count := 300, lseq := 300, formed := 1000, lp := 1044480, rinse := false, chans := [⟨9, 2, 0, 6000, 4, []⟩], pieces := [4] }

/-- A module in Day with the line in flight, its late window at 16/65,536 of the period. -/
def markerState (now : Nat) : State :=
  { dayState with
    time := now, regs := [(R.LATE_WIN, 16), (R.HL_STATE 2, 0x25)], lanes := [(2, { plan := [lineMarker] })], flights := [lineFlight] }

theorem linesLeave_depart_witness :
    ∃ t, exec (.markerDepart 2 1 300 0 false) (markerState 5000) = .next t ∧ Output.marker 2 25000000 3 1 44 ∈ t.out ∧
      t.planned 2 1 300 0 = none := by
  obtain ⟨t, hrun, hsent, hgone, -⟩ := linesLeave.1 (markerState 5000) 2 1 300 0 false lineMarker (by decide +kernel)
  rw [show (markerState 5000).departs (2 : Fin 16) lineMarker = 25000000 by decide +kernel] at hsent
  exact ⟨t, hrun, hsent, hgone⟩

/-- At the end of the late window: 255 ticks are 1,593.75 symbols. -/
theorem linesLeave_late_witness :
    ∃ t, exec (.lateMarker 2 1 300 0 255) (markerState 5000) = .next t ∧ Output.marker 2 (25000000 + 1594 * 800) 3 1 44 ∈ t.out ∧
      t.planned 2 1 300 0 = none ∧ t.rd (R.TG_LATE_COUNT 1) = 1 := by
  obtain ⟨t, hrun, hsent, hgone, hcount, -⟩ := linesLeave.2.1 (markerState 5000) 2 1 300 0 255 lineMarker lineFlight (by decide +kernel)
    (by decide +kernel) (by decide +kernel)
  rw [show (markerState 5000).departs (2 : Fin 16) lineMarker = 25000000 by decide +kernel,
    show (markerState 5000).laneT (2 : Fin 16) = 800 by decide +kernel] at hsent
  exact ⟨t, hrun, hsent, hgone, hcount.trans (by decide +kernel)⟩

/-- In the first tick after the late window. -/
theorem linesLeave_blank_witness :
    ∃ t, exec (.lineBlanked 1 300 2) (markerState 5255) = .next t ∧ (t.leaf 9).blanked = true ∧ t.rd (R.TG_BLANKED_COUNT 1) = 1 := by
  obtain ⟨t, hrun, -, -, hleaf, hcount, -⟩ := linesLeave.2.2 (markerState 5255) 1 2 300 lineFlight (by decide +kernel) (by decide +kernel)
    (by decide +kernel) (by decide +kernel)
  exact ⟨t, hrun, hleaf rfl _ List.mem_cons_self rfl, hcount.trans (by decide +kernel)⟩

end Sys2Proof.Machine
end

section
/-! PROOFS. RENDER_START: the print a rendering adds to its piece, and how its counters move (R242, R244, R250 to R252). -/

namespace Sys2Proof.Machine

variable {s t : State} {p : Piece}

/-! ## What judging a piece changes (R250, R251) -/

/-- A piece less its verdict and its completion flags. -/
def Piece.unjudged (p : Piece) : Piece := { p with flags := 0, rejected := false, fieldReject := false }

/-- The state less what pieces are judged to be. -/
def sansVerdict (u : State) : State := { u with pieces := u.pieces.map Piece.unjudged, rejects := [] }

/-- The words in which a rendering shows itself, where no counter and no list moves. -/
def renderWords : List Nat := [R.LF_RENDERED, R.LF_HOLDOVER, R.LF_FAILED, R.LF_LAST, R.LF_LAST_PIECE] ++ eventWords

theorem plumbWord_renderWords {a : Nat} (h : plumbWord a = true) : a ∈ renderWords :=
  List.mem_append_right _ (plumbWord_mem_eventWords h)

/-- A change of the verdict on the pieces of a number. -/
theorem onPiece_sansVerdict (s : State) (num : Nat) (f : Piece → Piece) (hf : ∀ q, (f q).unjudged = q.unjudged) :
    sansVerdict (s.onPiece num f).unnoticed = sansVerdict s.unnoticed := by
  have hpieces : (s.onPiece num f).pieces.map Piece.unjudged = s.pieces.map Piece.unjudged := by
    rw [State.onPiece, List.map_map]
    refine List.map_congr_left fun q _ => ?_
    rw [Function.comp_apply]
    split
    · exact hf q
    · rfl
  exact congrArg (fun l => { s.unnoticed with pieces := l, rejects := [] }) hpieces

/-- Judging pieces leaves their prints. -/
theorem prints_of_sansVerdict (h : sansVerdict t.unnoticed = sansVerdict s.unnoticed) (num : Nat) :
    (t.piece num).map (·.prints) = (s.piece num).map (·.prints) := by
  have hunjudged : ∀ u : State, (u.piece num).map (·.prints) = ((sansVerdict u.unnoticed).piece num).map (·.prints) := fun u => by
    rw [State.piece, State.piece, show (sansVerdict u.unnoticed).pieces = u.pieces.map Piece.unjudged from rfl,
      find_map_of_desc Piece.unjudged (fun _ => rfl), Option.map_map]
    rfl
  rw [hunjudged, h, ← hunjudged]

section
variable {W : Nat → Bool}

theorem judged_keeps (h : Keeps sansVerdict W s t) (num : Nat) (f : Piece → Piece) (hf : ∀ q, (f q).unjudged = q.unjudged) :
    Keeps sansVerdict W s (t.onPiece num f) := h.update (onPiece_sansVerdict t num f hf) rfl

theorem rejects_keeps (h : Keeps sansVerdict W s t) (rejects : List Reject) : Keeps sansVerdict W s { t with rejects := rejects } :=
  h.update rfl rfl

variable (hW : ∀ a ∈ renderWords, W a = true)
include hW

theorem fieldFail_keeps (s : State) (num cause ord : Nat) : Keeps sansVerdict W s (s.fieldFail num cause ord) := by
  unfold State.fieldFail
  split
  · exact .refl s
  · extract_lets s1 s2 s3
    have hshown : Keeps sansVerdict W s s1 :=
      ((((Keeps.refl s).wr _ _ (hW _ (by decide))).wr _ _ (hW _ (by decide))).wr _ _ (hW _ (by decide))).wr _ _ (hW _ (by decide))
    have hjudged : Keeps sansVerdict W s s2 := judged_keeps hshown num _ fun _ => rfl
    have hmarked : Keeps sansVerdict W s s3 := rejects_keeps hjudged _
    exact .ite hmarked (hmarked.raise (fun _ ha => hW _ (plumbWord_renderWords ha)) _ _ _)

theorem holdover_keeps (s : State) (p : Piece) (usable : Bool) : Keeps sansVerdict W s (s.holdover p usable) := by
  unfold State.holdover
  extract_lets n s1
  have hflagged : Keeps sansVerdict W s s1 :=
    judged_keeps ((Keeps.refl s).wr _ _ (hW _ (by decide))) _ _ fun _ => rfl
  exact .ite (.refl s) (.ite hflagged (hflagged.condOn (fun _ ha => hW _ (plumbWord_renderWords ha)) _ _ _))

end

/-! ## What counters and lists do (R242, R245, R246) -/

theorem counterStep_keeps {E : State → State} (s : State) (k : Nat) : Keeps E (fun _ => true) s (s.counterStep k) :=
  (Keeps.refl s).wr _ _ rfl

theorem promoteSerial_keeps {E : State → State} (s : State) (k : Nat) : Keeps E (fun _ => true) s (s.promoteSerial k) := by
  unfold State.promoteSerial
  extract_lets a h s1 s2
  have hswapped : Keeps E (fun _ => true) s s1 := ((Keeps.refl s).wrW _ _ _ rfl rfl).wrW _ _ _ rfl rfl
  have hactive : Keeps E (fun _ => true) s s2 := ((hswapped.wr _ _ rfl).wr _ _ rfl).wr _ _ rfl
  exact .ite (((hactive.wr _ _ rfl).wr _ _ rfl).wr _ _ rfl) (.refl s)

theorem serialUse_keeps {E : State → State} (s : State) (k : Nat) : Keeps E (fun _ => true) s (s.serialUse k) :=
  ((Keeps.refl s).wr (R.SL_NEXT_INDEX k) _ rfl).trans (promoteSerial_keeps _ k)

/-- A counter's next value: by STEP, wrapping from MAX to MIN and from MIN to MAX (R242). -/
def State.counterNext (s : State) (k : Nat) : Int :=
  if 0 < s.rdI (R.LFCNT_STEP_STEP k) ∧
      (s.rd (R.LFCNT_MAX_MAX k) : Int) < s.rd (R.LFCNT_VALUE_VALUE k) + s.rdI (R.LFCNT_STEP_STEP k) then s.rd (R.LFCNT_MIN_MIN k)
  else if s.rdI (R.LFCNT_STEP_STEP k) < 0 ∧
      (s.rd (R.LFCNT_VALUE_VALUE k) : Int) + s.rdI (R.LFCNT_STEP_STEP k) < s.rd (R.LFCNT_MIN_MIN k) then s.rd (R.LFCNT_MAX_MAX k)
  else s.rd (R.LFCNT_VALUE_VALUE k) + s.rdI (R.LFCNT_STEP_STEP k)

theorem counterStep_value (s : State) (k : Nat) : (s.counterStep k).rd (R.LFCNT_VALUE_VALUE k) = unsigned 32 (s.counterNext k) :=
  (rd_wr_same s (R.LFCNT_VALUE_VALUE k) _ rfl).trans (Nat.mod_eq_of_lt (unsigned_lt 32 _))

/-- A counter's next value rests on its own registers. -/
theorem counterNext_congr {k : Nat} (h : ∀ f : Field, 0x74300 + 32 * k ≤ f.addr → f.addr < 0x74310 + 32 * k → t.rd f = s.rd f) :
    t.counterNext k = s.counterNext k := by
  have hvalue := h (R.LFCNT_VALUE_VALUE k) (Nat.le_refl _) (by simp only [R.LFCNT_VALUE]; omega)
  have hstep := h (R.LFCNT_STEP_STEP k) (by simp only [R.LFCNT_STEP]; omega) (by simp only [R.LFCNT_STEP]; omega)
  have hmin := h (R.LFCNT_MIN_MIN k) (by simp only [R.LFCNT_MIN]; omega) (by simp only [R.LFCNT_MIN]; omega)
  have hmax := h (R.LFCNT_MAX_MAX k) (by simp only [R.LFCNT_MAX]; omega) (by simp only [R.LFCNT_MAX]; omega)
  have hsigned : t.rdI (R.LFCNT_STEP_STEP k) = s.rdI (R.LFCNT_STEP_STEP k) := congrArg (signed 16) hstep
  rw [State.counterNext, hvalue, hsigned, hmin, hmax, State.counterNext]

/-- The registers of a counter are not among those of a rendering. -/
theorem counter_not_renderWords {a : Nat} (hlo : 0x74300 ≤ a) (hhi : a < 0x74500) : a ∉ renderWords := by
  simp only [renderWords, eventWords, R.LF_RENDERED, R.LF_HOLDOVER, R.LF_FAILED, R.LF_LAST, R.LF_LAST_PIECE, R.FAULT_LATCH, R.EVT_LOST,
    R.NP_TX_FRAMES, R.NP_TX_DROP, List.mem_append, List.mem_cons, List.not_mem_nil, or_false]
  omega

/-! ## The parts of a rendering (R244, R252) -/

/-- The sample of a piece's next print: of the bound probe edge for a first print, else of this moment (R244). -/
def State.sampleNow (s : State) (p : Piece) : Int × Bool :=
  (if p.prints.length = 0 then p.sample else none).getD (s.utcOf (s.tb 0).ns, s.tb0Usable)

/-- The fields of a piece's next print, as drawn where every read is good. -/
def State.fieldsNow (s : State) (p : Piece) : List FieldRun :=
  (List.range p.liveCount).map fun i =>
    s.lateField p p.prints.length (s.drawField p (s.sampleNow p).1 (s.sampleNow p).2 none i)

/-- The next print of a piece. -/
def State.nextPrint (s : State) (p : Piece) : Print := ⟨p.prints.length, (s.sampleNow p).1, (s.sampleNow p).2, s.fieldsNow p⟩

/-- The state once the render record is written and its fields are counted. -/
def State.recorded (s : State) (p : Piece) : State :=
  (s.onPiece p.num (fun q => { q with prints := q.prints ++ [s.nextPrint p] })).add R.LF_RENDERED_COUNT (s.fieldsNow p).length

/-- Counters that take their step. -/
def State.countersStep (s : State) (ks : List Nat) : State := ks.foldl State.counterStep s

/-- Lists of which an entry is consumed, where `s` has one. -/
def State.serialsUse (s t : State) (ks : List Nat) : State :=
  ks.foldl (fun (t : State) k => if (s.serialEntry k).isSome then t.serialUse k else t) t

/-- The state once every value is sampled and what it comes from has moved on. -/
def State.sampled (s : State) (p : Piece) : State := s.serialsUse ((s.recorded p).countersStep (s.named p 3)) (s.named p 4)

/-- The fields of a print that failed, but for those drawn too late, are counted and told of. -/
def State.fieldsFail (s : State) (num : Nat) (fs : List FieldRun) : State :=
  fs.foldl (fun (t : State) f => if f.failed = 0 ∨ f.failed = 4 then t else t.fieldFail num f.failed f.index) s

theorem render_eq (s : State) (p : Piece) :
    s.render p [] = ((s.sampled p).holdover p (s.sampleNow p).2).fieldsFail p.num (s.fieldsNow p) := rfl

/-- Where every value is sampled, only verdicts and the words of a rendering change further. -/
theorem render_keeps (s : State) (p : Piece) : Keeps sansVerdict (fun a => decide (a ∈ renderWords)) (s.sampled p) (s.render p []) := by
  rw [render_eq]
  refine (holdover_keeps (fun _ ha => decide_eq_true ha) _ p _).trans (Keeps.foldl (fun t f _ => ?_) _)
  exact .ite (.refl t) (fieldFail_keeps (fun _ ha => decide_eq_true ha) t _ _ _)

theorem sampled_keeps (s : State) (p : Piece) : Keeps sansVerdict (fun _ => true) (s.recorded p) (s.sampled p) :=
  (Keeps.foldl (fun t k _ => counterStep_keeps t k) _).trans (Keeps.foldl (fun t k _ => .ite (serialUse_keeps t k) (.refl t)) _)

theorem sampled_none (h4 : s.named p 4 = []) (h3 : s.named p 3 = []) : s.sampled p = s.recorded p := by
  rw [State.sampled, h4, h3]
  rfl

theorem sampled_one {k : Nat} (h4 : s.named p 4 = []) (h3 : s.named p 3 = [k]) : s.sampled p = (s.recorded p).counterStep k := by
  rw [State.sampled, h4, h3]
  rfl

theorem recorded_word (s : State) (p : Piece) {a : Nat} (h : a ∉ renderWords) : (s.recorded p).word a = s.word a :=
  (word_wr_ne _ R.LF_RENDERED_COUNT _ a fun e => h (e ▸ List.mem_cons_self)).trans rfl

/-- The piece that a number names has that number. -/
theorem piece_num {num : Nat} (h : s.piece num = some p) : p.num = num := by simpa using List.find?_some h

theorem recorded_prints {num : Nat} (h : s.piece num = some p) :
    ((s.recorded p).piece num).map (·.prints) = some (p.prints ++ [s.nextPrint p]) := by
  have hadded := onPiece_piece s num (fun q => { q with prints := q.prints ++ [s.nextPrint p] }) (fun _ => rfl) h
  rw [← piece_num h] at hadded ⊢
  exact (congrArg (Option.map (·.prints)) hadded :)

/-- Among what a command of the printing side may change, a rendering changes what is noticed, the pieces and the rejects. -/
theorem eq_of_sansVerdict_recorded (h : sansVerdict t.unnoticed = sansVerdict (s.recorded p).unnoticed) :
    t = { s.noticed t with
      pow := { s.pow with lastBusy := t.pow.lastBusy }, pieces := t.pieces, ended := t.ended, rejects := t.rejects
      tgs := t.tgs, ring := t.ring, stop := { s.stop with active := t.stop.active, faults := t.stop.faults }
      mem := { s.mem with
        bad := t.mem.bad, ces := t.mem.ces, hbmMap := t.mem.hbmMap, sramMap := t.mem.sramMap, waiting := t.mem.waiting }
      evid := t.evid, verify := t.verify } := by
  have key : t = { (sansVerdict t.unnoticed).noticed t with pieces := t.pieces, rejects := t.rejects } := rfl
  rw [h] at key
  rw [key]
  rfl

/-! ## RENDER_START -/

theorem exec_renderStart {num : Word} (hawake : s.awake = true) (hp : s.piece num.toNat = some p) (hmay : s.renderMay p = true)
    (hfits : s.renderFits p = true) : exec (.renderStart num []) s = .next (s.render p []).latch := by
  show execRenderStart num [] s = _
  rw [execRenderStart, if_pos hawake, hp]
  exact if_pos ⟨hmay, hfits⟩

theorem exec_renderStart_not {num : Word} {evs : List MemEv} (hp : s.piece num.toNat = some p)
    (hnot : s.renderMay p = false ∨ s.renderFits p = false) : exec (.renderStart num evs) s = .next s := by
  show execRenderStart num evs s = _
  rw [execRenderStart]
  split
  · rfl
  · next q hq =>
    obtain rfl : p = q := by
      split at hq
      · exact Option.some.inj (hp.symm.trans hq)
      · exact nomatch hq
    exact if_neg fun ⟨hmay, hfits⟩ => hnot.elim (by simp [hmay]) (by simp [hfits])

/-- Settles O39: the print is recorded first, and what follows moves counters and lists or judges the piece. -/
theorem rendering : Obligations.Rendering := by
  unfold Obligations.Rendering
  refine ⟨fun s num p smp hawake hp hmay hfits hsmp => ?_, fun s num p evs hp hnot => exec_renderStart_not hp hnot⟩
  obtain rfl : smp = s.sampleNow p := hsmp
  have hall : sansVerdict (s.render p []).latch.unnoticed = sansVerdict (s.recorded p).unnoticed := by
    rw [latch_unnoticed]
    exact (render_keeps s p).1.trans (sampled_keeps s p).1
  have hword : ∀ a, a ∉ renderWords → (s.render p []).latch.word a = (s.sampled p).word a := fun a ha =>
    (latch_word _ a).trans ((render_keeps s p).2 a (decide_eq_false ha))
  refine ⟨_, exec_renderStart hawake hp hmay hfits, ?_, fun h4 h3 a ha => ?_, fun k hk h4 h3 => ?_, ?_⟩
  · exact (prints_of_sansVerdict hall _).trans (recorded_prints hp)
  · rw [hword a ha, sampled_none h4 h3, recorded_word s p ha]
  · have hnot : ∀ a, 0x74300 + 32 * k ≤ a → a < 0x74310 + 32 * k → a ∉ renderWords := fun a _ _ =>
      counter_not_renderWords (by omega) (by omega)
    calc (s.render p []).latch.rd (R.LFCNT_VALUE_VALUE k)
      _ = ((s.recorded p).counterStep k).rd (R.LFCNT_VALUE_VALUE k) :=
        rd_congr _ _ _ (sampled_one h4 h3 ▸ hword _ (hnot _ (Nat.le_refl _) (by simp only [R.LFCNT_VALUE]; omega)))
      _ = unsigned 32 ((s.recorded p).counterNext k) := counterStep_value _ k
      _ = unsigned 32 (s.counterNext k) :=
        congrArg _ (counterNext_congr fun f hlo hhi => rd_congr _ _ f (recorded_word s p (hnot _ hlo hhi)))
  · exact eq_of_sansVerdict_recorded hall

/-! ## States that meet the hypotheses -/

/-- A descriptor: piece 5, four lines in bar 0, one band-table entry at 0, one live field at 0x2000, the channel map at 0x400. -/
def fieldDesc : List Byte :=
  let body : List Byte := leBytes 2 0x4B50 ++ leBytes 2 1 ++ leBytes 4 5 ++ leBytes 4 4 ++ leBytes 4 0 ++ leBytes 4 1 ++
    List.replicate 20 0 ++ leBytes 2 1 ++ leBytes 6 1 ++ leBytes 8 0x2000 ++ leBytes 8 0x400 ++ List.replicate 188 0
  body ++ leBytes 4 (crc32 body)

/-- The piece, admitted, from a line on. -/
def fieldPiece (start : Nat) : Piece := { desc := fieldDesc, stage := .admitted, start := some start, chans := [(0, 0)], bands := queuedBands }

/-- A module in Day with the piece, whose field prints counter 2 (1 to 99) in two digits of 8 by 2 pixels, rendered 8 lines ahead. -/
def counterState (start : Nat) (value step : Word) : State :=
  { dayState with
    regs := [(R.LFCNT_VALUE 2, value), (R.LFCNT_STEP 2, step), (R.LFCNT_MIN 2, 1), (R.LFCNT_MAX 2, 99), (R.LFCNT_FMT 2, 2),
      (R.LF_LEAD, 8), (0x440000C0, 0x01080010), (0x440000C4, 0x01080010), (0x440000E4, 0x01080010), (0x44000100, 0x3C),
      (0x44000104, 0x7E)]
    conf := [(R.BAR_FIELD 0, 1)], pieces := [fieldPiece start], hbm := [(12, 64), (0x2000, 3), (0x2003, 2)] }

theorem counterState_piece (start : Nat) (value step : Word) : (counterState start value step).piece 5 = some (fieldPiece start) :=
  List.find?_cons_of_pos (show (le fieldDesc 4 4 == 5) = true by decide +kernel)

/-- The last line before the lead: the piece is rendered, and its counter wraps from MAX to MIN. -/
theorem rendering_up_witness :
    ∃ t, exec (.renderStart 5 []) (counterState 9 99 1) = .next t ∧
      (t.piece 5).map (fun q => q.prints.map fun r => r.fields.map fun f => (f.text, f.failed, f.rows)) =
        some [[([0x39, 0x39], 0, [0x3C3C, 0x7E7E])]] ∧
      t.rd (R.LFCNT_VALUE_VALUE 2) = 1 := by
  obtain ⟨t, hrun, hprints, -, hcounter, -⟩ := rendering.1 (counterState 9 99 1) 5 (fieldPiece 9) _ rfl
    (counterState_piece _ _ _) (by decide +kernel) (by decide +kernel) rfl
  refine ⟨t, hrun, ?_, (hcounter 2 (by decide) (by decide +kernel) (by decide +kernel)).trans (by decide +kernel)⟩
  have hdrawn := congrArg (Option.map fun (rs : List Print) => rs.map fun r => r.fields.map fun f => (f.text, f.failed, f.rows)) hprints
  rw [Option.map_map] at hdrawn
  exact hdrawn.trans (by decide +kernel)

/-- A counter that counts down wraps from MIN to MAX. -/
theorem rendering_down_witness :
    ∃ t, exec (.renderStart 5 []) (counterState 9 1 0xFFFF) = .next t ∧ t.rd (R.LFCNT_VALUE_VALUE 2) = 99 := by
  obtain ⟨t, hrun, -, -, hcounter, -⟩ := rendering.1 (counterState 9 1 0xFFFF) 5 (fieldPiece 9) _ rfl
    (counterState_piece _ _ _) (by decide +kernel) (by decide +kernel) rfl
  exact ⟨t, hrun, (hcounter 2 (by decide) (by decide +kernel) (by decide +kernel)).trans (by decide +kernel)⟩

/-- One line further ahead, the piece stays as it is. -/
theorem rendering_not_yet_witness : exec (.renderStart 5 []) (counterState 10 99 1) = .next (counterState 10 99 1) :=
  rendering.2 (counterState 10 99 1) 5 (fieldPiece 10) [] (counterState_piece _ _ _) (.inl (by decide +kernel))

end Sys2Proof.Machine
end

section
/-! PROOFS. A third failed echo burst in a row, with a line in flight in a bar that the module does not have (R215, R265, R276). -/

namespace Sys2Proof.Machine

/-! ## The count of a blank line over the count of lost replies -/

/-- A bar number beyond the 16 of the module, whose TG_BLANKED word is the count HL0_ECHO_LOST. -/
def strayBar : Nat := 6144

theorem strayBar_blanked : R.TG_BLANKED_COUNT strayBar = R.HL_ECHO_LOST_COUNT 0 := rfl

/-- A line of `strayBar` in flight, whose one channel waits for a marker on lane 0. -/
def strayFlight : Flight :=
  { bar := strayBar, count := 0, lseq := 0, formed := 0, lp := 0, rinse := false, chans := [⟨0, 0, 0, 0, 0, []⟩], pieces := [] }

/-- A module in Day whose lane 0 is ACTIVE after two failed bursts, no reply lost so far, with that line in flight. -/
def strayBarState : State :=
  { dayState with regs := [(R.HL_STATE 0, 5)], lanes := [(0, { fails := 2 })], flights := [strayFlight] }

/-- The state after a burst without a reply: the third failure loses the lane, and the line is blank. -/
def strayBarLost : State := (strayBarState.echoFail 0 0).latch

theorem exec_echoBurst_strayBar : exec (.echoBurst 0 [] 0) strayBarState = .next strayBarLost := rfl

/-- The 64 replies that are missing, and the blank line. -/
theorem strayBarLost_echoLost : strayBarLost.rd (R.HL_ECHO_LOST_COUNT 0) = 65 :=
  (latch_rd _ _).trans (by decide +kernel)

/-- Refutes O52: a short burst is to add its missing replies to ECHO_LOST, and no more. After the third failure in a row the lane is
lost, which blanks the lines in flight on it (R215). For a line in flight of bar 6144, which no form point can bring about but the
statement does not exclude, the count of blank lines TG_BLANKED lies over ECHO_LOST of lane 0. -/
theorem not_laneService : ¬ Obligations.LaneService := by
  intro h
  obtain ⟨-, -, -, -, -, hshort, -⟩ := h
  obtain ⟨t, hrun, hlost, -⟩ := hshort strayBarState 0 [] 0 rfl (.inl (by decide)) (by decide)
  obtain rfl : strayBarLost = t := Host.Outcome.next.inj (exec_echoBurst_strayBar.symm.trans hrun)
  have hcount : (65 : Nat) = 64 := strayBarLost_echoLost.symm.trans (hlost.trans (by decide +kernel))
  exact absurd hcount (by decide)

end Sys2Proof.Machine
end

section
/-! PROOFS. The windows in which heads rinse: PARK, IDLE_WINDOW and PARK_CLOCK_TRIGGER (R285 to R288). -/

namespace Sys2Proof.Machine

variable {s t : State}

/-! ## The rinse state of a bar -/

theorem rinse_onRinse_same (s : State) (b : Nat) (f : Rinse → Rinse) : (s.onRinse b f).rinse b = f (s.rinse b) := get_upd_same _ _ _ _

theorem wr_rinse (s : State) (f : Field) (v b : Nat) : (s.wr f v).rinse b = s.rinse b := rfl

theorem latch_rinse (s : State) (b : Nat) : s.latch.rinse b = s.rinse b := by simp only [State.rinse, latch_frame]

theorem toDay_rinse (s : State) (b : Nat) : s.toDay.rinse b = s.rinse b := by rw [toDay_eq]; rfl

theorem toDay_tg (s : State) (k : Nat) : s.toDay.tg k = s.tg k := by rw [toDay_eq]; rfl

theorem toDay_time (s : State) : s.toDay.time = s.time := by rw [toDay_eq]

/-! ## A window opens (R286, R288) -/

/-- A rinse state when a window of some kind opens at a tick. -/
def Rinse.opened (r : Rinse) (kind lines now : Nat) : Rinse := { r with parkFrom := none, window := kind, left := lines, clockAt := now }

/-- A rinse state when a window ends at a tick. -/
def Rinse.closed (r : Rinse) (now : Nat) : Rinse := { r with parkFrom := none, window := 0, left := 0, idleAt := now, bursts := [] }

/-- A rinse state but for its bursts: what spits and falling due leave alone. -/
def Rinse.noBursts (r : Rinse) : Rinse := { r with bursts := [], fresh := [] }

theorem eq_of_noBursts {r q : Rinse} (h : r.noBursts = q) :
    r.parkFrom = q.parkFrom ∧ r.window = q.window ∧ r.left = q.left ∧ r.lines = q.lines ∧ r.clockAt = q.clockAt := by
  subst h
  exact ⟨rfl, rfl, rfl, rfl, rfl⟩

/-- A burst falls due in each of some channels. -/
def State.burstsDue (s : State) (b : Nat) (cs : List Nat) : State := cs.foldl (fun (t : State) c => t.burstDue b c) s

/-- The state less registers and rinse states. -/
def State.sansWindow (s : State) : State := { s with regs := [], rinses := [] }

theorem eq_of_sansWindow (h : t.sansWindow = s.sansWindow) : t = { s with regs := t.regs, rinses := t.rinses } :=
  calc
    t = { t.sansWindow with regs := t.regs, rinses := t.rinses } := rfl
    _ = _ := by rw [h]; rfl

theorem wr_sansWindow (s : State) (f : Field) (v : Nat) : (s.wr f v).sansWindow = s.sansWindow := rfl

theorem burstsDue_sansWindow (s : State) (b : Nat) (cs : List Nat) : (s.burstsDue b cs).sansWindow = s.sansWindow :=
  foldl_keeps State.sansWindow (fun (t : State) c => t.burstDue b c) (fun _ _ => rfl) cs s

theorem burstsDue_regs (s : State) (b : Nat) (cs : List Nat) : (s.burstsDue b cs).regs = s.regs :=
  foldl_keeps State.regs (fun (t : State) c => t.burstDue b c) (fun _ _ => rfl) cs s

theorem burstDue_noBursts (s : State) (b c : Nat) : ((s.burstDue b c).rinse b).noBursts = (s.rinse b).noBursts := by
  rw [State.burstDue, rinse_onRinse_same]
  rfl

theorem burstsDue_noBursts (s : State) (b : Nat) (cs : List Nat) : ((s.burstsDue b cs).rinse b).noBursts = (s.rinse b).noBursts :=
  foldl_keeps (fun t : State => (t.rinse b).noBursts) _ (fun t c => burstDue_noBursts t b c) cs s

/-- The bar's rinse state is that of a new window, and a burst is due in every channel, before SPITTING shows it. -/
def State.windowSet (s : State) (b kind lines : Nat) : State :=
  (s.onRinse b (fun r => r.opened kind lines s.time)).burstsDue b (s.barChannels b)

theorem openWindow_set (s : State) (b kind lines : Nat) :
    s.openWindow b kind lines = (s.windowSet b kind lines).wr (R.BAR_RSTAT_SPITTING b) 1 := rfl

theorem windowSet_word (s : State) (b kind lines a : Nat) : (s.windowSet b kind lines).word a = s.word a :=
  word_congr _ _ a (burstsDue_regs _ _ _)

theorem windowSet_noBursts (s : State) (b kind lines : Nat) :
    ((s.windowSet b kind lines).rinse b).noBursts = (s.rinse b).noBursts.opened kind lines s.time := by
  rw [State.windowSet, burstsDue_noBursts, rinse_onRinse_same]
  rfl

/-- Opening a window changes registers and rinse states. -/
theorem openWindow_eq (s : State) (b kind lines : Nat) : s.openWindow b kind lines =
    { s with regs := (s.openWindow b kind lines).regs, rinses := (s.openWindow b kind lines).rinses } := by
  refine eq_of_sansWindow ?_
  rw [openWindow_set, wr_sansWindow, State.windowSet, burstsDue_sansWindow]
  rfl

theorem openWindow_rinse (s : State) (b kind lines : Nat) :
    (s.openWindow b kind lines).rinse b = (s.windowSet b kind lines).rinse b := by rw [openWindow_set, wr_rinse]

theorem openWindow_word (s : State) (b kind lines a : Nat) (ha : a ≠ R.BAR_RSTAT b) : (s.openWindow b kind lines).word a = s.word a := by
  rw [openWindow_set, word_wr_ne _ _ _ _ ha, windowSet_word]

theorem openWindow_spitting (s : State) (b kind lines : Nat) : (s.openWindow b kind lines).rd (R.BAR_RSTAT_SPITTING b) = 1 := by
  rw [openWindow_set, rd_wr_same _ _ _ rfl]
  rfl

theorem openWindow_parked (s : State) (b kind lines : Nat) :
    (s.openWindow b kind lines).rd (R.BAR_RSTAT_PARKED b) = s.rd (R.BAR_RSTAT_PARKED b) := by
  rw [openWindow_set, rd_wr_disjoint _ _ _ _ rfl rfl]
  exact rd_congr _ _ _ (windowSet_word s b kind lines _)

/-! ## A window of a module that is at work (R80, R286) -/

/-- The words that a window opening in a module in Dusk may change: the bar's rinse status and the lanes' states. -/
def windowWords (b : Nat) : List Nat := [R.BAR_RSTAT b] ++ (List.range 16).map R.HL_STATE

theorem laneBack_word_ne (s : State) (n a : Nat) (h : a ≠ R.HL_STATE n) : (s.laneBack n).word a = s.word a := by
  unfold State.laneBack
  split
  · exact lanePower_word _ _ _ _ _ h
  · rfl

theorem toDay_word_ne (s : State) (a : Nat) (h : a ∉ (List.range 16).map R.HL_STATE) : s.toDay.word a = s.word a := by
  have hne : ∀ n ∈ List.range 16, a ≠ R.HL_STATE n := fun n hn e => h (List.mem_map.2 ⟨n, hn, e.symm⟩)
  by_cases hp : s.pow.phase = .dusk
  · rw [toDay_of_dusk hp]
    exact List.foldlRecOn (motive := fun u : State => u.word a = s.word a) (List.range 16) State.laneBack rfl
      fun u hu n hn => (laneBack_word_ne u n a (hne n hn)).trans hu
  · rw [toDay_of_not_dusk hp]
    rfl

/-- The module is at work, a window opens, and the leaves latch. -/
def State.windowOpened (s : State) (b kind lines : Nat) : State := (s.toDay.openWindow b kind lines).latch

theorem windowOpened_eq (s : State) (b kind lines : Nat) : s.windowOpened b kind lines =
    { s with
      regs := (s.windowOpened b kind lines).regs
      pow := { s.pow with lastBusy := (s.windowOpened b kind lines).pow.lastBusy, phase := (s.windowOpened b kind lines).pow.phase }
      spans := { s.spans with leaves := (s.windowOpened b kind lines).spans.leaves }
      rinses := (s.windowOpened b kind lines).rinses, lanes := (s.windowOpened b kind lines).lanes
      out := (s.windowOpened b kind lines).out } := by
  rw [State.windowOpened, latch_eq_leaves, openWindow_eq, toDay_eq]

theorem windowOpened_words (s : State) (b kind lines : Nat) : SameWords s (s.windowOpened b kind lines) (windowWords b) := by
  intro a ha
  rw [windowWords, List.mem_append, not_or, List.mem_singleton] at ha
  rw [State.windowOpened, latch_word, openWindow_word _ _ _ _ _ ha.1, toDay_word_ne _ _ ha.2]

theorem windowOpened_noBursts (s : State) (b kind lines : Nat) : ((s.windowOpened b kind lines).rinse b).noBursts =
    (s.rinse b).noBursts.opened kind lines s.time := by
  rw [State.windowOpened, latch_rinse, openWindow_rinse, windowSet_noBursts, toDay_rinse, toDay_time]

theorem windowOpened_spitting (s : State) (b kind lines : Nat) : (s.windowOpened b kind lines).rd (R.BAR_RSTAT_SPITTING b) = 1 := by
  rw [State.windowOpened, latch_rd, openWindow_spitting]

theorem windowOpened_parked (s : State) (b : Fin 16) (kind lines : Nat) :
    (s.windowOpened b kind lines).rd (R.BAR_RSTAT_PARKED b) = s.rd (R.BAR_RSTAT_PARKED b) := by
  rw [State.windowOpened, latch_rd, openWindow_parked]
  exact rd_congr _ _ _ (toDay_word s _ (by simp only [R.BAR_RSTAT]; omega))

/-! ## A window ends (R286) -/

theorem closeWindow_rinse (s : State) (b : Nat) : (s.closeWindow b).rinse b = (s.rinse b).closed s.time :=
  rinse_onRinse_same s b (fun r => r.closed s.time)

theorem closeWindow_tg (s : State) (b k : Nat) : (s.closeWindow b).tg k = s.tg k := rfl

theorem closeWindow_spitting (s : State) (b : Nat) : (s.closeWindow b).rd (R.BAR_RSTAT_SPITTING b) = 0 := rd_wr_same _ _ _ rfl

/-- The bar is parked: its window, if one is open, ends. -/
def State.parked (s : State) (b : Nat) : State := (s.closeWindow b).wr (R.BAR_RSTAT_PARKED b) 1

theorem parked_rinse (s : State) (b : Nat) : (s.parked b).rinse b = (s.rinse b).closed s.time := by
  rw [State.parked, wr_rinse, closeWindow_rinse]

theorem parked_tg (s : State) (b k : Nat) : (s.parked b).tg k = s.tg k := rfl

theorem parked_rd (s : State) (b : Nat) : (s.parked b).rd (R.BAR_RSTAT_PARKED b) = 1 := rd_wr_same _ _ _ rfl

theorem parked_spitting (s : State) (b : Nat) : (s.parked b).rd (R.BAR_RSTAT_SPITTING b) = 0 :=
  (rd_wr_disjoint _ _ _ _ rfl rfl).trans (closeWindow_spitting s b)

theorem parked_word (s : State) (b a : Nat) (ha : a ≠ R.BAR_RSTAT b) : (s.parked b).word a = s.word a :=
  (word_wr_ne _ _ _ a ha).trans (word_wr_ne _ _ _ a ha)

theorem parked_latch_eq (s : State) (b : Nat) : (s.parked b).latch = { s with
    regs := (s.parked b).latch.regs, spans := { s.spans with leaves := (s.parked b).latch.spans.leaves }
    rinses := (s.parked b).latch.rinses } := by
  rw [latch_eq_leaves]
  rfl

/-! ## A line of the park clock (R286 to R288) -/

/-- The state less what a line of the park clock may change. -/
def sansPark (u : State) : State :=
  { u with
    regs := [], pow := { u.pow with lastBusy := 0, phase := .day }, spans := { u.spans with leaves := [] }, tgs := [], gates := []
    rinses := [], lanes := [], flights := [], out := [] }

theorem eq_of_sansPark (h : sansPark t = sansPark s) :
    t = { s with
      regs := t.regs, pow := { s.pow with lastBusy := t.pow.lastBusy, phase := t.pow.phase }
      spans := { s.spans with leaves := t.spans.leaves }, tgs := t.tgs, gates := t.gates, rinses := t.rinses, lanes := t.lanes
      flights := t.flights, out := t.out } :=
  calc
    t = { sansPark t with
      regs := t.regs, pow := { (sansPark t).pow with lastBusy := t.pow.lastBusy, phase := t.pow.phase }
      spans := { (sansPark t).spans with leaves := t.spans.leaves }, tgs := t.tgs, gates := t.gates, rinses := t.rinses, lanes := t.lanes
      flights := t.flights, out := t.out } := rfl
    _ = { sansPark s with
      regs := t.regs, pow := { (sansPark s).pow with lastBusy := t.pow.lastBusy, phase := t.pow.phase }
      spans := { (sansPark s).spans with leaves := t.spans.leaves }, tgs := t.tgs, gates := t.gates, rinses := t.rinses, lanes := t.lanes
      flights := t.flights, out := t.out } := by rw [h]
    _ = _ := rfl

/-- What a rinse line leaves alone while it is formed and sent: the rest of the module, the bar's window and counts, and its LSEQ. -/
def parkView (b : Nat) (s : State) : State × Rinse × Nat := (sansPark s, (s.rinse b).noBursts, (s.tg b).lseq)

section
variable (b : Nat)

theorem onRinse_parkView (s : State) (f : Rinse → Rinse) (h : ∀ r, (f r).noBursts = r.noBursts) :
    parkView b (s.onRinse b f) = parkView b s := by
  rw [parkView, rinse_onRinse_same, h]
  rfl

theorem onTg_parkView (s : State) (f : Tg → Tg) (h : ∀ g, (f g).lseq = g.lseq) : parkView b (s.onTg b f) = parkView b s := by
  rw [parkView, tg_onTg_same, h]
  rfl

theorem wr_parkView (s : State) (f : Field) (v : Nat) : parkView b (s.wr f v) = parkView b s := rfl

theorem inc_parkView (s : State) (f : Field) : parkView b (s.inc f) = parkView b s := rfl

theorem onGate_parkView (s : State) (g : Nat) (f : Gate → Gate) : parkView b (s.onGate g f) = parkView b s := rfl

theorem ctrlDone_parkView (s : State) (c i : Nat) : parkView b (s.ctrlDone c i) = parkView b s := rfl

theorem sendOnLane_parkView (s : State) (b' count lseq lane : Nat) (l : List OutCh) :
    parkView b (s.sendOnLane b' count lseq lane l).1 = parkView b s :=
  foldl_keeps (parkView b) (fun (t : State) (m : FlightCh) => t.emit (.frame lane m.frame)) (fun _ _ => rfl) _ s

theorem noteFires_parkView (s : State) (b' : Nat) (fs : List Nat) : parkView b (s.noteFires b' fs) = parkView b s :=
  foldl_keeps (parkView b) _ (fun t g => by split <;> rfl) (List.range 4) s

theorem sendLine_parkView (s : State) (b' count lseq lp : Nat) (rinse : Bool) (l : List OutCh) :
    parkView b (s.sendLine b' count lseq lp rinse l) = parkView b s := by
  unfold State.sendLine
  split
  · rfl
  · extract_lets r s1
    have hr : parkView b r.1 = parkView b s := by
      refine List.foldlRecOn (motive := fun a : State × List FlightCh => parkView b a.1 = parkView b s) _ _ rfl fun a ha lane _ => ?_
      dsimp only
      split
      · exact ha
      · exact (sendOnLane_parkView b a.1 b' count lseq lane _).trans ha
    exact (noteFires_parkView b r.1 b' _).trans hr

theorem placeTest_parkView (s : State) (g count lseq lp n : Nat) (sweep : Bool) (c i fire : Nat) :
    parkView b (s.placeTest g b count lseq lp n sweep c i fire) = parkView b s := by
  unfold State.placeTest
  extract_lets code top k s1 s2 s3
  have h3 : parkView b s3 = parkView b s := by
    rw [inc_parkView, onGate_parkView, sendLine_parkView]
  clear_value s3
  split
  · rw [wr_parkView, h3]
  · exact h3

theorem spitDone_parkView (s : State) (c : Nat) : parkView b (s.spitDone b c) = parkView b s := by
  unfold State.spitDone
  extract_lets s1
  have h1 : parkView b s1 = parkView b s := onRinse_parkView b s _ fun _ => rfl
  clear_value s1
  split
  · rw [ctrlDone_parkView, h1]
  · exact h1

theorem spitLine_parkView (s : State) (count lseq lp : Nat) (fires : List (Nat × Nat)) :
    parkView b (s.spitLine b count lseq lp fires) = parkView b s := by
  unfold State.spitLine
  extract_lets due cs out
  split
  · rfl
  · rw [foldl_keeps (parkView b) _ (fun t c => spitDone_parkView b t c), inc_parkView, sendLine_parkView]

theorem dueBursts_parkView (s : State) : parkView b (s.dueBursts b) = parkView b s := by
  refine foldl_keeps (parkView b) _ (fun t c => ?_) _ s
  dsimp only
  split
  · exact onRinse_parkView b t _ fun _ => rfl
  · rfl

/-- A rinse line, be it a gate test or spits, sends frames and changes bursts. -/
theorem rinseLine_parkView (s : State) (count lseq : Nat) (bound lp reg : Int) (cs : List Nat) (tests spits : Bool) :
    parkView b (s.rinseLine b count lseq bound lp reg cs tests spits) = parkView b s := by
  unfold State.rinseLine
  extract_lets fires spit fixed fired after
  have hspit : ∀ t, parkView b (spit t) = parkView b t := fun t => by
    show parkView b (if spits then t.spitLine b count lseq lp.toNat fires else t) = _
    split
    · exact spitLine_parkView b t _ _ _ _
    · rfl
  have hafter : ∀ t, parkView b (after t) = parkView b t := fun t => onTg_parkView b t _ fun _ => rfl
  have hspits : parkView b (after (spit s)) = parkView b s := (hafter _).trans (hspit s)
  clear_value after spit
  split
  · exact hspits
  · split
    · exact hspits
    · split
      · exact hspits
      · extract_lets f
        split
        · exact (hafter _).trans (placeTest_parkView b s _ _ _ _ _ _ _ _ _)
        · exact hspits

end

/-- A rinse state once a line of the park clock has been counted. -/
def Rinse.lined (r : Rinse) (left now : Nat) : Rinse := { r with lines := r.lines + 1, left := left - 1, clockAt := now }

/-- The line of the park clock that a trigger forms: the line is sent and counted, and the window has one line fewer left. -/
def State.parkLined (s : State) (b : Nat) : State :=
  let lp : Int := divOpen 52 (256 * 200000000) (max 1 (s.rd (R.BAR_IDLE_RATE b)) : Nat)
  let tests := (List.range 4).any (fun g => s.gateTests g b && s.flag (R.GATE_CFG_PARKTEST g))
  (((s.dueBursts b).rinseLine b (2 ^ 48 + (s.tg b).lseq) (s.tg b).lseq (256 * (s.time : Int)) lp 0 (s.barChannels b) tests
    true).countLine b none).onRinse b (fun x => { x with left := (s.rinse b).left - 1, clockAt := s.time })

theorem parkLine_eq (s : State) (b : Nat) : s.parkLine b =
    if (s.rinse b).left ≤ 1 then
      (if (s.rinse b).window = 1 then (s.parkLined b).parked b else (s.parkLined b).closeWindow b)
    else (s.parkLined b).spitting b := rfl

theorem countLine_lseq (s : State) (b : Nat) (l : Option Nat) : ((s.countLine b l).tg b).lseq = ((s.tg b).lseq + 1) % 2 ^ 32 :=
  congrArg Tg.lseq (tg_onTg_same s b (fun g => { g with lseq := (g.lseq + 1) % 2 ^ 32, lastLine := l.getD g.lastLine }))

theorem countLine_rinse (s : State) (b : Nat) : (s.countLine b none).rinse b = { s.rinse b with lines := (s.rinse b).lines + 1 } :=
  rinse_onRinse_same _ b _

theorem parkLined_spec (s : State) (b : Nat) :
    sansPark (s.parkLined b) = sansPark s ∧ ((s.parkLined b).tg b).lseq = ((s.tg b).lseq + 1) % 2 ^ 32 ∧
      ((s.parkLined b).rinse b).noBursts = (s.rinse b).noBursts.lined (s.rinse b).left s.time := by
  unfold State.parkLined
  extract_lets lp tests
  generalize hu : (s.dueBursts b).rinseLine b (2 ^ 48 + (s.tg b).lseq) (s.tg b).lseq (256 * (s.time : Int)) lp 0 (s.barChannels b) tests
    true = u
  have hview : parkView b u = parkView b s := by rw [← hu, rinseLine_parkView, dueBursts_parkView]
  simp only [parkView, Prod.mk.injEq] at hview
  obtain ⟨hsans, hrinse, hlseq⟩ := hview
  refine ⟨hsans, ?_, ?_⟩
  · rw [← hlseq]
    exact countLine_lseq u b none
  · rw [rinse_onRinse_same, countLine_rinse, ← hrinse]
    rfl

theorem closeWindow_sansPark (s : State) (b : Nat) : sansPark (s.closeWindow b) = sansPark s := rfl

theorem parked_sansPark (s : State) (b : Nat) : sansPark (s.parked b) = sansPark s := rfl

theorem spitting_sansPark (s : State) (b : Nat) : sansPark (s.spitting b) = sansPark s := rfl

theorem spitting_tg (s : State) (b k : Nat) : (s.spitting b).tg k = s.tg k := rfl

theorem spitting_rinse (s : State) (b k : Nat) : (s.spitting b).rinse k = s.rinse k := rfl

theorem parkLine_sansPark (s : State) (b : Nat) : sansPark (s.parkLine b) = sansPark s := by
  rw [← (parkLined_spec s b).1, parkLine_eq]
  split
  · split
    · exact parked_sansPark _ _
    · exact closeWindow_sansPark _ _
  · exact spitting_sansPark _ _

theorem parkLine_tg (s : State) (b : Nat) : (s.parkLine b).tg b = (s.parkLined b).tg b := by
  rw [parkLine_eq]
  split
  · split
    · exact parked_tg _ _ _
    · exact closeWindow_tg _ _ _
  · exact spitting_tg _ _ _

/-- The last line of a window closes it, and a park window leaves the bar parked. -/
theorem parkLine_last (s : State) (b : Nat) (h : (s.rinse b).left ≤ 1) :
    ((s.parkLine b).rinse b).left = 0 ∧ ((s.parkLine b).rinse b).lines = (s.rinse b).lines + 1 ∧ ((s.parkLine b).rinse b).window = 0 ∧
      (s.parkLine b).rd (R.BAR_RSTAT_SPITTING b) = 0 ∧ ((s.rinse b).window = 1 → (s.parkLine b).rd (R.BAR_RSTAT_PARKED b) = 1) := by
  obtain ⟨-, -, -, hlines, -⟩ := eq_of_noBursts (parkLined_spec s b).2.2
  rw [parkLine_eq, if_pos h]
  split
  · rw [parked_rinse]
    exact ⟨rfl, hlines, rfl, parked_spitting _ _, fun _ => parked_rd _ _⟩
  · next hw =>
    rw [closeWindow_rinse]
    exact ⟨rfl, hlines, rfl, closeWindow_spitting _ _, fun e => absurd e hw⟩

/-- A line before the last leaves the window open. -/
theorem parkLine_more (s : State) (b : Nat) (h : 1 < (s.rinse b).left) :
    ((s.parkLine b).rinse b).left = (s.rinse b).left - 1 ∧ ((s.parkLine b).rinse b).lines = (s.rinse b).lines + 1 ∧
      ((s.parkLine b).rinse b).window = (s.rinse b).window ∧ ((s.parkLine b).rinse b).clockAt = s.time := by
  obtain ⟨-, hwindow, hleft, hlines, hclock⟩ := eq_of_noBursts (parkLined_spec s b).2.2
  rw [parkLine_eq, if_neg (by omega), spitting_rinse]
  exact ⟨hleft, hlines, hwindow, hclock⟩

theorem toDay_sansPark (s : State) : sansPark s.toDay = sansPark s := by
  rw [toDay_eq]
  rfl

theorem latch_sansPark (s : State) : sansPark s.latch = sansPark s := by
  rw [latch_eq_leaves]
  rfl

theorem parkClock_sansPark (s : State) (b : Nat) : sansPark (s.toDay.parkLine b).latch = sansPark s := by
  rw [latch_sansPark, parkLine_sansPark, toDay_sansPark]

/-! ## The commands -/

theorem exec_park_due {b : Fin 16} {x : Nat} (ha : s.awake = true) (hx : (s.rinse b).parkFrom = some x)
    (hdue : x + usTicks (1000 * s.rd (R.BAR_PARK_DELAY_MS b)) ≤ s.time) :
    exec (.park b) s = .next (if s.rd (R.BAR_PARK_LINES b) = 0 then (s.parked b).latch
      else s.windowOpened b 1 (s.rd (R.BAR_PARK_LINES b))) := by
  show execPark b s = _
  unfold execPark
  simp only [hx, ha, Option.any_some, hdue, decide_true, Bool.not_true, Bool.false_eq_true, or_self, if_false]
  split <;> rfl

theorem exec_idleWindow_due {b : Fin 16} (ha : s.awake = true) (hp : s.rd (R.BAR_RSTAT_PARKED b) = 1) (hw : s.barWaits b = false)
    (hs : s.rd (R.BAR_IDLE_SPIT_S b) ≠ 0) (hn : s.rd (R.BAR_RINSE_SPIT_LINES b) ≠ 0) (hwin : (s.rinse b).window = 0)
    (hdue : (s.rinse b).idleAt + secTicks (s.rd (R.BAR_IDLE_SPIT_S b)) ≤ s.time) :
    exec (.idleWindow b) s = .next (s.windowOpened b 2 (s.rd (R.BAR_RINSE_SPIT_LINES b))) :=
  if_pos ⟨ha, (flag_eq_true _ _).2 hp, by rw [hw]; rfl, hs, hn, hwin, hdue⟩

theorem exec_parkClockTrigger_due {b : Fin 16} (ha : s.awake = true) (hw : (s.rinse b).window ≠ 0)
    (hdue : 200000000 ≤ (s.time - (s.rinse b).clockAt) * s.rd (R.BAR_IDLE_RATE b)) :
    exec (.parkClockTrigger b) s = .next (s.toDay.parkLine b).latch := if_pos ⟨ha, hw, hdue⟩

/-- Settles O50: each command names the state it leaves, and a line of the park clock is followed through what it may change. -/
theorem rinseWindows : Obligations.RinseWindows := by
  refine ⟨fun s b x ha hx hdue => ⟨_, exec_park_due ha hx hdue, ?_⟩, fun s b ha hp hw hs hn hwin hdue =>
    ⟨_, exec_idleWindow_due ha hp hw hs hn hwin hdue, ?_⟩, fun s b ha hw hdue => ⟨_, exec_parkClockTrigger_due ha hw hdue, ?_⟩⟩
  · split
    · next h =>
      rw [latch_rinse, parked_rinse]
      refine ⟨rfl, fun _ => ⟨?_, rfl, ?_⟩, fun hne => absurd h hne, ?_, fun a hmem => ?_⟩
      · rw [latch_rd, parked_rd]
      · rw [parked_latch_eq]
      · rw [parked_latch_eq]
      · rw [latch_word, parked_word _ _ _ fun e => hmem (by simp [e])]
    · next h =>
      obtain ⟨hpark, hwindow, hleft, -⟩ := eq_of_noBursts (windowOpened_noBursts s b 1 (s.rd (R.BAR_PARK_LINES b)))
      exact ⟨hpark, fun e => absurd e h, fun _ => ⟨windowOpened_spitting _ _ _ _, hwindow, hleft⟩,
        windowOpened_eq _ _ _ _, windowOpened_words _ _ _ _⟩
  · obtain ⟨-, hwindow, hleft, -⟩ := eq_of_noBursts (windowOpened_noBursts s b 2 (s.rd (R.BAR_RINSE_SPIT_LINES b)))
    exact ⟨hwindow, hleft, windowOpened_spitting _ _ _ _,
      (windowOpened_parked _ _ _ _).trans hp, windowOpened_eq _ _ _ _, windowOpened_words _ _ _ _⟩
  · have hlast := parkLine_last s.toDay b
    have hmore := parkLine_more s.toDay b
    rw [toDay_rinse] at hlast
    rw [toDay_rinse, toDay_time] at hmore
    have hlseq : ((s.toDay.parkLine b).tg b).lseq = ((s.tg b).lseq + 1) % 2 ^ 32 := by
      rw [parkLine_tg, (parkLined_spec _ _).2.1, toDay_tg]
    have hframe := eq_of_sansPark (parkClock_sansPark s b)
    simp only [latch_rinse, latch_tg, latch_rd]
    by_cases h : (s.rinse b).left ≤ 1
    · obtain ⟨hleft, hlines, hwindow, hspit, hpark⟩ := hlast h
      exact ⟨by rw [if_pos h, hleft], hlines, hlseq, fun _ => ⟨hwindow, hspit, hpark⟩, fun hn => absurd h (by omega), hframe⟩
    · obtain ⟨hleft, hlines, hwindow, hclock⟩ := hmore (by omega)
      exact ⟨by rw [if_neg h, hleft], hlines, hlseq, fun hn => absurd hn h, fun _ => ⟨hwindow, hclock⟩, hframe⟩

/-! ## States that meet the hypotheses -/

/-- A module in Day that stopped bar 3 at its start, with a park delay of 2 ms and a park window of `lines` lines, 2 ms later. -/
def stoppedState (lines : Nat) : State :=
  ({ dayState with time := usTicks 2000, rinses := [(3, { parkFrom := some 0 })] }.wr (R.BAR_PARK_DELAY_MS 3) 2).wr (R.BAR_PARK_LINES 3) lines

/-- The park window opens when the delay ends. -/
theorem rinseWindows_park_witness :
    ∃ t, exec (.park 3) (stoppedState 8) = .next t ∧ (t.rinse 3).window = 1 ∧ (t.rinse 3).left = 8 := by
  obtain ⟨t, hrun, -, -, hopen, -⟩ := rinseWindows.1 (stoppedState 8) 3 0 rfl (by decide) (by decide)
  obtain ⟨-, hwindow, hleft⟩ := hopen (by decide)
  exact ⟨t, hrun, hwindow, hleft.trans (by decide)⟩

/-- Without park lines the bar is parked at once. -/
theorem rinseWindows_parked_witness : ∃ t, exec (.park 3) (stoppedState 0) = .next t ∧ t.rd (R.BAR_RSTAT_PARKED 3) = 1 := by
  obtain ⟨t, hrun, -, hparked, -⟩ := rinseWindows.1 (stoppedState 0) 3 0 rfl (by decide) (by decide)
  exact ⟨t, hrun, (hparked (by decide)).1⟩

/-- A module in Dusk whose bar 3 was parked at its start, with an idle window of 5 lines every second, one second later. -/
def parkedState : State :=
  (({ dayState with time := secTicks 1, pow := { State.reset.pow with phase := .dusk } }.wr (R.BAR_RSTAT_PARKED 3) 1).wr
    (R.BAR_IDLE_SPIT_S 3) 1).wr (R.BAR_RINSE_SPIT_LINES 3) 5

/-- The idle window opens. -/
theorem rinseWindows_idle_witness :
    ∃ t, exec (.idleWindow 3) parkedState = .next t ∧ (t.rinse 3).window = 2 ∧ (t.rinse 3).left = 5 := by
  obtain ⟨t, hrun, hwindow, hleft, -⟩ := rinseWindows.2.1 parkedState 3 rfl (by decide) rfl (by decide) (by decide) rfl (by decide)
  exact ⟨t, hrun, hwindow, hleft.trans (by decide)⟩

/-- A module in Day with a park window of bar 3 that has `left` lines left, one period of its park clock of 1,000 lines/s later. -/
def parkClockState (left : Nat) : State :=
  { dayState with time := 200000, rinses := [(3, { window := 1, left := left })] }.wr (R.BAR_IDLE_RATE 3) 1000

/-- The last line parks the bar. -/
theorem rinseWindows_last_witness :
    ∃ t, exec (.parkClockTrigger 3) (parkClockState 1) = .next t ∧ (t.rinse 3).window = 0 ∧ t.rd (R.BAR_RSTAT_PARKED 3) = 1 := by
  obtain ⟨t, hrun, -, -, -, hlast, -⟩ := rinseWindows.2.2 (parkClockState 1) 3 rfl (by decide) (by decide)
  obtain ⟨hwindow, -, hparked⟩ := hlast (by decide)
  exact ⟨t, hrun, hwindow, hparked rfl⟩

/-- A line before the last leaves one line fewer. -/
theorem rinseWindows_line_witness :
    ∃ t, exec (.parkClockTrigger 3) (parkClockState 2) = .next t ∧ (t.rinse 3).window = 1 ∧ (t.rinse 3).left = 1 := by
  obtain ⟨t, hrun, hleft, -, -, -, hmore, -⟩ := rinseWindows.2.2 (parkClockState 2) 3 rfl (by decide) (by decide)
  exact ⟨t, hrun, (hmore (by decide)).1, hleft⟩

end Sys2Proof.Machine
end

section
/-! PROOFS. The trims of a gate: GATE_TRIM moves one of them by one step, and GATE_TRIM_STORE keeps them as a set (R294 to R296). -/

namespace Sys2Proof.Machine

variable {s t u : State}

/-! ## The gates -/

theorem gate_onGate_same (s : State) (g : Nat) (f : Gate → Gate) : (s.onGate g f).gate g = f (s.gate g) := get_upd_same _ _ _ _

theorem gate_onGate_ne (s : State) (h g : Nat) (f : Gate → Gate) (hne : h ≠ g) : (s.onGate g f).gate h = s.gate h :=
  get_upd_ne _ _ _ _ _ hne

theorem gate_congr (h : t.gates = s.gates) (k : Nat) : t.gate k = s.gate k := by rw [State.gate, State.gate, h]

theorem onGate_rd (s : State) (g : Nat) (f : Gate → Gate) (h : Field) : (s.onGate g f).rd h = s.rd h := rfl

theorem wr_gate (s : State) (f : Field) (v g : Nat) : (s.wr f v).gate g = s.gate g := rfl

theorem latch_gate (s : State) (g : Nat) : s.latch.gate g = s.gate g := by simp only [State.gate, latch_frame]

/-- The state less registers, gates and what the leaves hold. -/
def State.sansGates (s : State) : State := { s with regs := [], spans := { s.spans with leaves := [] }, gates := [] }

theorem eq_of_sansGates (h : t.sansGates = s.sansGates) :
    t = { s with regs := t.regs, spans := { s.spans with leaves := t.spans.leaves }, gates := t.gates } :=
  calc
    t = { t.sansGates with regs := t.regs, spans := { t.sansGates.spans with leaves := t.spans.leaves }, gates := t.gates } := rfl
    _ = { s.sansGates with regs := t.regs, spans := { s.sansGates.spans with leaves := t.spans.leaves }, gates := t.gates } := by rw [h]
    _ = _ := rfl

theorem latch_sansGates (s : State) : s.latch.sansGates = s.sansGates := by
  rw [latch_eq_leaves]
  rfl

/-! ## What a step of the trims leaves alone (R294 to R296) -/

/-- The registers that show a gate's baseline, state, trims and AREF. -/
def trimWords (g : Nat) : List Nat := [R.GATE_LEVEL g, R.GATE_STATE g, R.GATE_TRIM g, R.GATE_AREF g]

/-- What a gate keeps while its trims move. -/
def Gate.untrimmed (x : Gate) : Gate := { x with amps := [], trimAt := 0 }

/-- `t` is `s` but for the words of one gate that show its trims, its amplitudes and the time of its last change. -/
structure TrimKeeps (g : Nat) (s t : State) : Prop where
  frame : t.sansGates = s.sansGates
  words : SameWords s t (trimWords g)
  same : (t.gate g).untrimmed = (s.gate g).untrimmed
  others : ∀ h, h ≠ g → t.gate h = s.gate h

namespace TrimKeeps

variable {g : Nat}

theorem refl (s : State) : TrimKeeps g s s := ⟨rfl, fun _ _ => rfl, rfl, fun _ _ => rfl⟩

theorem trans (h : TrimKeeps g s t) (h' : TrimKeeps g t u) : TrimKeeps g s u :=
  ⟨h'.frame.trans h.frame, fun a ha => (h'.words a ha).trans (h.words a ha), h'.same.trans h.same,
    fun k hk => (h'.others k hk).trans (h.others k hk)⟩

theorem wr (h : TrimKeeps g s t) (f : Field) (v : Nat) (hf : f.addr ∈ trimWords g) : TrimKeeps g s (t.wr f v) :=
  h.trans ⟨rfl, fun a ha => word_wr_ne t f v a fun e => ha (e ▸ hf), rfl, fun _ _ => rfl⟩

theorem onGate (h : TrimKeeps g s t) (f : Gate → Gate) (hf : ∀ x, (f x).untrimmed = x.untrimmed) : TrimKeeps g s (t.onGate g f) :=
  h.trans ⟨rfl, fun _ _ => rfl, by rw [gate_onGate_same, hf], fun k hk => gate_onGate_ne t k g f hk⟩

theorem ite {c : Prop} [Decidable c] (ht : TrimKeeps g s t) (hu : TrimKeeps g s u) : TrimKeeps g s (if c then t else u) := by
  split
  · exact ht
  · exact hu

theorem latch (h : TrimKeeps g s t) : TrimKeeps g s t.latch :=
  h.trans ⟨latch_sansGates t, fun a _ => latch_word t a, by rw [latch_gate], fun k _ => latch_gate t k⟩

/-- A register outside the gate's trims reads as before. -/
theorem rd (h : TrimKeeps g s t) (f : Field) (hf : f.addr ∉ trimWords g) : t.rd f = s.rd f := rd_congr _ _ f (h.words _ hf)

end TrimKeeps

section
variable (s : State) (g : Nat)

theorem gateReady_trimKeeps : TrimKeeps g s (s.gateReady g) := (TrimKeeps.refl s).wr _ _ (by simp [trimWords])

theorem gateAdvance_trimKeeps : TrimKeeps g s (s.gateAdvance g) := by
  unfold State.gateAdvance
  extract_lets st base
  have hready : TrimKeeps g s (s.gateReady g) := gateReady_trimKeeps s g
  have hlearn : TrimKeeps g s (s.wr (R.GATE_STATE_STATE g) 2) := (TrimKeeps.refl s).wr _ _ (by simp [trimWords])
  exact .ite (.ite (.ite hlearn hready) (.refl s)) (.ite hready (.refl s))

/-- The state of a gate moves without its trims. -/
theorem gateAdvance_trim : (s.gateAdvance g).word (R.GATE_TRIM g) = s.word (R.GATE_TRIM g) := by
  have hstate : ∀ v, (s.wr (R.GATE_STATE_STATE g) v).word (R.GATE_TRIM g) = s.word (R.GATE_TRIM g) := fun v =>
    word_wr_ne _ _ _ _ (by simp only [R.GATE_TRIM, R.GATE_STATE]; omega)
  unfold State.gateAdvance
  extract_lets st base
  split
  · split
    · split
      · exact hstate _
      · exact hstate _
    · rfl
  · split
    · exact hstate _
    · rfl

end

/-! ## One step of the trims (R294) -/

/-- The next GAIN, one nearer to the target amplitude. -/
def State.gainStep (s : State) (g : Nat) : Nat :=
  (clampI 16 255 ((s.rd (R.GATE_TRIM_GAIN g) : Int) + (if s.rd (R.GATE_AREF_AREF g) < s.rd R.GATE_TARGET_AMP then 1 else -1))).toNat

/-- The next OFFSET, nearer to the target baseline by at most 256. -/
def State.offsetStep (s : State) (g : Nat) : Nat :=
  (clampI 0 4095 ((s.rd (R.GATE_TRIM_OFFSET g) : Int) +
    clampI (-256) 256 ((s.rd R.GATE_TARGET_BASE : Int) - s.rd (R.GATE_LEVEL_BASE g)))).toNat

/-- GAIN moves a step, and AREF with it. -/
def State.gainMoved (s : State) (g : Nat) : State :=
  (((s.wr (R.GATE_TRIM_GAIN g) (s.gainStep g)).wrB (R.GATE_STATE_TRIM_LIMIT g) (s.gainStep g == s.rd (R.GATE_TRIM_GAIN g))).wr
    (R.GATE_AREF_AREF g) (divOpenN 44 (s.rd (R.GATE_AREF_AREF g) * s.gainStep g) (max 1 (s.rd (R.GATE_TRIM_GAIN g))))).onGate g
      (fun x => { x with amps := [], trimAt := if s.gainStep g = s.rd (R.GATE_TRIM_GAIN g) then x.trimAt else s.time })

/-- OFFSET moves a step. -/
def State.offsetMoved (s : State) (g : Nat) : State :=
  ((s.wr (R.GATE_TRIM_OFFSET g) (s.offsetStep g)).wrB (R.GATE_STATE_TRIM_LIMIT g) (s.offsetStep g == s.rd (R.GATE_TRIM_OFFSET g))).onGate g
    (fun x => { x with trimAt := if s.offsetStep g = s.rd (R.GATE_TRIM_OFFSET g) then x.trimAt else s.time })

/-- The trims stand under TRIM_HOLD and near both targets; else GAIN moves, or OFFSET when the amplitude is near its target. -/
theorem gateAdjust_cases (s : State) (g : Nat) :
    s.gateAdjust g = s ∨ (s.rd (R.GATE_CFG_TRIM_HOLD g) ≠ 1 ∧ (s.gateAdjust g = s.gainMoved g ∨ s.gateAdjust g = s.offsetMoved g ∨
      s.gateAdjust g = s.wr (R.GATE_STATE_TRIM_LIMIT g) 0)) := by
  unfold State.gateAdjust
  extract_lets aref goal base gain g1 s1 s2 d off o1
  split
  · exact .inl rfl
  · next hhold =>
    refine .inr ⟨fun e => hhold ((flag_eq_true _ _).2 e), ?_⟩
    split
    · exact .inl rfl
    · split
      · exact .inr (.inl rfl)
      · exact .inr (.inr rfl)

/-- The trims of a gate moved by at most one step: GAIN by 1 or OFFSET by 256, and not both. -/
structure OneTrimStep (g : Nat) (s t : State) : Prop where
  either : t.rd (R.GATE_TRIM_GAIN g) = s.rd (R.GATE_TRIM_GAIN g) ∨ t.rd (R.GATE_TRIM_OFFSET g) = s.rd (R.GATE_TRIM_OFFSET g)
  gain : 16 ≤ s.rd (R.GATE_TRIM_GAIN g) → 16 ≤ t.rd (R.GATE_TRIM_GAIN g) ∧
    ((t.rd (R.GATE_TRIM_GAIN g) : Int) - s.rd (R.GATE_TRIM_GAIN g)).natAbs ≤ 1
  offset : ((t.rd (R.GATE_TRIM_OFFSET g) : Int) - s.rd (R.GATE_TRIM_OFFSET g)).natAbs ≤ 256

/-- Trims that read as before have moved no step. -/
theorem OneTrimStep.still {g : Nat} (hgain : t.rd (R.GATE_TRIM_GAIN g) = s.rd (R.GATE_TRIM_GAIN g))
    (hoffset : t.rd (R.GATE_TRIM_OFFSET g) = s.rd (R.GATE_TRIM_OFFSET g)) : OneTrimStep g s t :=
  ⟨.inl hgain, fun h => by rw [hgain]; exact ⟨h, by simp⟩, by rw [hoffset]; simp⟩

section
variable (s : State) (g : Nat)

theorem gainStep_bounds : 16 ≤ s.gainStep g ∧ s.gainStep g ≤ 255 ∧
    (16 ≤ s.rd (R.GATE_TRIM_GAIN g) → ((s.gainStep g : Int) - s.rd (R.GATE_TRIM_GAIN g)).natAbs ≤ 1) := by
  have hlt : s.rd (R.GATE_TRIM_GAIN g) < 256 := rd_lt s _
  unfold State.gainStep clampI
  split <;> omega

theorem offsetStep_bounds : s.offsetStep g ≤ 4095 ∧ ((s.offsetStep g : Int) - s.rd (R.GATE_TRIM_OFFSET g)).natAbs ≤ 256 := by
  have hlt : s.rd (R.GATE_TRIM_OFFSET g) < 4096 := rd_lt s _
  unfold State.offsetStep clampI
  omega

theorem gainMoved_rd (f : Field) (hstate : f.addr ≠ R.GATE_STATE g) (haref : f.addr ≠ R.GATE_AREF g) :
    (s.gainMoved g).rd f = (s.wr (R.GATE_TRIM_GAIN g) (s.gainStep g)).rd f := by
  rw [State.gainMoved, onGate_rd, rd_wr_word _ _ _ _ haref, State.wrB, rd_wr_word _ _ _ _ hstate]

theorem offsetMoved_rd (f : Field) (hstate : f.addr ≠ R.GATE_STATE g) :
    (s.offsetMoved g).rd f = (s.wr (R.GATE_TRIM_OFFSET g) (s.offsetStep g)).rd f := by
  rw [State.offsetMoved, onGate_rd, State.wrB, rd_wr_word _ _ _ _ hstate]

theorem trim_ne_state : R.GATE_TRIM g ≠ R.GATE_STATE g := by simp only [R.GATE_TRIM, R.GATE_STATE]; omega

theorem trim_ne_aref : R.GATE_TRIM g ≠ R.GATE_AREF g := by simp only [R.GATE_TRIM, R.GATE_AREF]; omega

theorem gainMoved_step : OneTrimStep g s (s.gainMoved g) := by
  obtain ⟨hlow, hhigh, hone⟩ := gainStep_bounds s g
  have hgain : (s.gainMoved g).rd (R.GATE_TRIM_GAIN g) = s.gainStep g := by
    rw [gainMoved_rd _ _ _ (trim_ne_state g) (trim_ne_aref g), rd_wr_same _ _ _ rfl]
    exact Nat.mod_eq_of_lt (show s.gainStep g < 256 by omega)
  have hoffset : (s.gainMoved g).rd (R.GATE_TRIM_OFFSET g) = s.rd (R.GATE_TRIM_OFFSET g) := by
    rw [gainMoved_rd _ _ _ (trim_ne_state g) (trim_ne_aref g), rd_wr_disjoint _ _ _ _ rfl rfl]
  exact ⟨.inr hoffset, fun h => by rw [hgain]; exact ⟨hlow, hone h⟩, by rw [hoffset]; simp⟩

theorem offsetMoved_step : OneTrimStep g s (s.offsetMoved g) := by
  obtain ⟨hhigh, hnear⟩ := offsetStep_bounds s g
  have hgain : (s.offsetMoved g).rd (R.GATE_TRIM_GAIN g) = s.rd (R.GATE_TRIM_GAIN g) := by
    rw [offsetMoved_rd _ _ _ (trim_ne_state g), rd_wr_disjoint _ _ _ _ rfl rfl]
  have hoffset : (s.offsetMoved g).rd (R.GATE_TRIM_OFFSET g) = s.offsetStep g := by
    rw [offsetMoved_rd _ _ _ (trim_ne_state g), rd_wr_same _ _ _ rfl]
    exact Nat.mod_eq_of_lt (show s.offsetStep g < 4096 by omega)
  exact ⟨.inl hgain, fun h => by rw [hgain]; exact ⟨h, by simp⟩, by rw [hoffset]; exact hnear⟩

theorem gateAdjust_step : OneTrimStep g s (s.gateAdjust g) := by
  obtain h | ⟨-, h | h | h⟩ := gateAdjust_cases s g <;> rw [h]
  · exact .still rfl rfl
  · exact gainMoved_step s g
  · exact offsetMoved_step s g
  · exact .still (rd_wr_word _ _ _ _ (trim_ne_state g)) (rd_wr_word _ _ _ _ (trim_ne_state g))

theorem gateAdjust_trimKeeps : TrimKeeps g s (s.gateAdjust g) := by
  obtain h | ⟨-, h | h | h⟩ := gateAdjust_cases s g <;> rw [h]
  · exact .refl s
  · exact ((((TrimKeeps.refl s).wr _ _ (by simp [trimWords])).wr _ _ (by simp [trimWords])).wr _ _ (by simp [trimWords])).onGate _
      fun _ => rfl
  · exact (((TrimKeeps.refl s).wr _ _ (by simp [trimWords])).wr _ _ (by simp [trimWords])).onGate _ fun _ => rfl
  · exact (TrimKeeps.refl s).wr _ _ (by simp [trimWords])

theorem gateAdjust_hold (h : s.rd (R.GATE_CFG_TRIM_HOLD g) = 1) : s.gateAdjust g = s := by
  obtain e | ⟨hne, -⟩ := gateAdjust_cases s g
  · exact e
  · exact absurd h hne

end

/-! ## GATE_TRIM (R294, R295) -/

/-- The gate takes the histogram of the last 100 ms. -/
def State.binned (s : State) (g : Nat) (bins : List Nat) : State := s.onGate g (fun x => { x with bins := bins, stepAt := s.time })

/-- The gate has measured its baseline, and its state follows; an empty histogram leaves both. -/
def State.measured (s : State) (g : Nat) (bins : List Nat) : State :=
  let b := baseline bins
  if bins.sum = 0 then s.binned g bins
  else (((s.binned g bins).wr (R.GATE_LEVEL_BASE g) b.1).wr (R.GATE_LEVEL_NOISE g) b.2).gateAdvance g

theorem gateStep_eq (s : State) (g : Nat) (bins : List Nat) :
    s.gateStep g bins = if s.inTestWindow g then s.measured g bins else (s.measured g bins).gateAdjust g := rfl

section
variable (s : State) (g : Nat) (bins : List Nat)

theorem measured_trimKeeps : TrimKeeps g (s.binned g bins) (s.measured g bins) := by
  have hlevel := ((TrimKeeps.refl (g := g) (s.binned g bins)).wr (R.GATE_LEVEL_BASE g) (baseline bins).1 (by simp [trimWords])).wr
    (R.GATE_LEVEL_NOISE g) (baseline bins).2 (by simp [trimWords])
  exact .ite (.refl _) (hlevel.trans (gateAdvance_trimKeeps _ g))

theorem measured_trim : (s.measured g bins).word (R.GATE_TRIM g) = s.word (R.GATE_TRIM g) := by
  have hlevel : R.GATE_TRIM g ≠ R.GATE_LEVEL g := by simp only [R.GATE_TRIM, R.GATE_LEVEL]; omega
  unfold State.measured
  extract_lets b
  split
  · rfl
  · rw [gateAdvance_trim, word_wr_ne _ _ _ _ hlevel, word_wr_ne _ _ _ _ hlevel]
    rfl

theorem gateStep_trimKeeps : TrimKeeps g (s.binned g bins) (s.gateStep g bins) := by
  rw [gateStep_eq]
  exact .ite (measured_trimKeeps s g bins) ((measured_trimKeeps s g bins).trans (gateAdjust_trimKeeps _ g))

/-- The gate keeps the histogram and the time, and what it kept before. -/
theorem gateStep_gate : (((s.gateStep g bins).gate g).bins = bins) ∧ ((s.gateStep g bins).gate g).stepAt = s.time ∧
    ((s.gateStep g bins).gate g).sets = (s.gate g).sets := by
  have h := (gateStep_trimKeeps s g bins).same
  rw [State.binned, gate_onGate_same] at h
  generalize (s.gateStep g bins).gate g = x at h
  exact ⟨(congrArg Gate.bins h :), (congrArg Gate.stepAt h :), (congrArg Gate.sets h :)⟩

theorem gateStep_others (h : Nat) (hne : h ≠ g) : (s.gateStep g bins).gate h = s.gate h :=
  ((gateStep_trimKeeps s g bins).others h hne).trans (gate_onGate_ne s h g _ hne)

theorem gateStep_step : OneTrimStep g s (s.gateStep g bins) := by
  have hread : ∀ f : Field, f.addr = R.GATE_TRIM g → (s.measured g bins).rd f = s.rd f := fun f hf =>
    rd_congr _ _ f (by rw [hf, measured_trim])
  rw [gateStep_eq]
  split
  · exact .still (hread _ rfl) (hread _ rfl)
  · obtain ⟨heither, hgain, hoffset⟩ := gateAdjust_step (s.measured g bins) g
    rw [hread _ rfl, hread _ rfl] at heither
    rw [hread _ rfl] at hgain hoffset
    exact ⟨heither, hgain, hoffset⟩

/-- Under TRIM_HOLD and inside a test window no trim changes. -/
theorem gateStep_held (h : s.rd (R.GATE_CFG_TRIM_HOLD g) = 1 ∨ s.inTestWindow g = true) :
    (s.gateStep g bins).word (R.GATE_TRIM g) = s.word (R.GATE_TRIM g) := by
  have hcfg : R.GATE_CFG g ∉ trimWords g := by simp [trimWords, R.GATE_LEVEL, R.GATE_STATE, R.GATE_TRIM, R.GATE_AREF, R.GATE_CFG]
  rw [gateStep_eq]
  split
  · exact measured_trim s g bins
  · next hwin =>
    have hhold := h.resolve_right hwin
    rw [gateAdjust_hold _ _ (((measured_trimKeeps s g bins).rd (R.GATE_CFG_TRIM_HOLD g) hcfg).trans hhold), measured_trim]

end

/-! ## GATE_TRIM_STORE (R296) -/

/-- The present trims as a set. -/
def State.trimSet (s : State) (g : Nat) : GateSet :=
  ⟨s.rdI (R.TS_TEMP 9), s.rd (R.GATE_TRIM_OFFSET g), s.rd (R.GATE_TRIM_GAIN g), s.rd (R.GATE_AREF_AREF g)⟩

/-- The set nearer to a temperature, the one before on a tie. -/
def nearerSet (t : Int) (b : Option GateSet) (x : GateSet) : Option GateSet :=
  match b with
  | none => some x
  | some y => if (x.temp - t).natAbs < (y.temp - t).natAbs then some x else b

/-- A search for the nearest of some sets ends in one of them. -/
theorem nearest_mem (t : Int) {l : List GateSet} (hl : l ≠ []) : ∃ y ∈ l, l.foldl (nearerSet t) none = some y := by
  obtain ⟨x, xs, rfl⟩ := List.exists_cons_of_ne_nil hl
  refine List.foldlRecOn (motive := fun o => ∃ y ∈ x :: xs, o = some y) xs (nearerSet t) ⟨x, List.mem_cons_self, rfl⟩ ?_
  rintro _ ⟨y, hy, rfl⟩ z hz
  simp only [nearerSet]
  split
  · exact ⟨z, List.mem_cons_of_mem x hz, rfl⟩
  · exact ⟨y, hy, rfl⟩

/-- The sets of a gate with its present trims among them: a ninth set replaces the nearest one. -/
def State.setsStored (s : State) (g : Nat) : List GateSet :=
  if (s.gate g).sets.length < 8 then (s.gate g).sets ++ [s.trimSet g]
  else match (s.gate g).sets.foldl (nearerSet (s.rdI (R.TS_TEMP 9))) none with
    | none => (s.gate g).sets
    | some y => (s.gate g).sets.map (fun z => if z = y then s.trimSet g else z)

theorem gateStore_eq (s : State) (g : Nat) : s.gateStore g =
    (s.onGate g (fun x => { x with sets := s.setsStored g })).wr (R.GATE_STATE_SETS g) (s.setsStored g).length := rfl

theorem setsStored_spec (s : State) (g : Nat) : s.trimSet g ∈ s.setsStored g ∧
    (s.setsStored g).length = max (s.gate g).sets.length (min 8 ((s.gate g).sets.length + 1)) := by
  unfold State.setsStored
  split
  · next h =>
    refine ⟨List.mem_append_right _ List.mem_cons_self, ?_⟩
    rw [List.length_append, List.length_singleton]
    omega
  · next h =>
    obtain ⟨y, hy, hfold⟩ := nearest_mem (s.rdI (R.TS_TEMP 9)) (l := (s.gate g).sets) (by rintro e; simp [e] at h)
    rw [hfold]
    refine ⟨List.mem_map.2 ⟨y, hy, if_pos rfl⟩, ?_⟩
    rw [List.length_map]
    omega

section
variable (s : State) (g : Nat)

theorem gateStore_gate : ((s.gateStore g).gate g).sets = s.setsStored g := by rw [gateStore_eq, wr_gate, gate_onGate_same]

theorem gateStore_others (h : Nat) (hne : h ≠ g) : (s.gateStore g).gate h = s.gate h := by
  rw [gateStore_eq, wr_gate, gate_onGate_ne _ _ _ _ hne]

theorem gateStore_shown : (s.gateStore g).rd (R.GATE_STATE_SETS g) = (s.setsStored g).length % 16 := by
  rw [gateStore_eq, rd_wr_same _ _ _ rfl]
  rfl

theorem gateStore_sansGates : (s.gateStore g).sansGates = s.sansGates := rfl

theorem gateStore_words : SameWords s (s.gateStore g) [R.GATE_STATE g] := by
  intro a ha
  rw [gateStore_eq, word_wr_ne _ _ _ _ fun e => ha (by simp [e])]
  rfl

end

/-! ## The commands -/

theorem exec_gateTrim_due {g : Fin 4} {bins : List Nat} (hbins : bins.length = 256) (hcore : s.coreOn = true) (hon : s.gateOn g = true)
    (hdue : (s.gate g).stepAt + usTicks 100000 ≤ s.time) : exec (.gateTrim g bins) s = .next (s.gateStep g bins).latch := by
  show execGateTrim g bins s = _
  rw [execGateTrim, if_neg (not_not.2 hbins), if_pos ⟨hcore, hon, hdue⟩, State.done]

theorem exec_gateTrim_illFormed {g : Fin 4} {bins : List Nat} (hbins : bins.length ≠ 256) : exec (.gateTrim g bins) s = .fault .illFormed :=
  if_pos hbins

theorem exec_gateTrimStore_due {g : Fin 4} (hcore : s.coreOn = true) (hdue : s.gateSetDue g = true) :
    exec (.gateTrimStore g) s = .next (s.gateStore g).latch := if_pos ⟨hcore, hdue⟩

end Sys2Proof.Machine
end

section
/-! PROOFS. What a common stop changes (R1, R219 to R221). -/

namespace Sys2Proof.Machine

variable {s t : State} {W : Nat → Bool}

/-- What a common stop may change beside what is noticed: the stop itself, the generators' stop positions, the pieces it cuts and those it
keeps from starting, and when the module was last at work. -/
def sansStop (u : State) : State :=
  { u with
    pow := { u.pow with lastBusy := 0 }, pieces := [], ended := [], rejects := [], tgs := [], ring := [], stop := {}, evid := []
    verify := [] }

/-- A set of words that holds all those a common stop writes: the records of pieces and their loads, the compare units they give back,
the stop's own registers, and what events write. -/
structure StopWords (W : Nat → Bool) : Prop where
  high : ∀ a, 0xC0000 ≤ a → W a = true
  plumb : ∀ a, plumbWord a = true → W a = true
  compare : ∀ k, W (R.CMP_STATUS k) = true
  position : ∀ j, W (R.TG_STOP j) = true
  cause : W R.STOP_CAUSE = true
  demand : W R.SD_NOW = true

/-- The stop is active, with the cause that set it. -/
def State.stopActive (s : State) (cause : Nat) : State :=
  if s.stop.active then s
  else (({ s with stop := { s.stop with active := true } }.wr R.STOP_CAUSE_FIRST cause).wr R.STOP_CAUSE_SETTING cause).lifeAdd
    (0x068 + 2 * (cause - 1)) 2 1

theorem onTg_stop (h : Keeps sansStop W s t) (k : Nat) (f : Tg → Tg) : Keeps sansStop W s (t.onTg k f) := h.update rfl rfl

section
variable (hW : StopWords W)
include hW

theorem speedDemand_keeps (s : State) : Keeps sansStop W s s.speedDemand := ((Keeps.refl s).wr _ _ hW.demand).wr _ _ hW.demand

theorem notPrinted_stop (s : State) (num reason : Nat) : Keeps sansStop W s (s.notPrinted num reason) := by
  unfold State.notPrinted
  split
  · exact .refl s
  · next p _ =>
    obtain ⟨u, hrun, -, hkeeps⟩ := complete_raises hW.high s p (.notPrinted reason) fun k _ => hW.compare k
    rw [hrun]
    exact (hkeeps.mono (fun _ => rfl) fun _ h => h).raise hW.plumb _ _ _

theorem dropUnstarted_stop (s : State) : Keeps sansStop W s s.dropUnstarted := Keeps.foldl (fun t n _ => notPrinted_stop hW t n 0x12) s

theorem setStop_stop (s : State) (k cause : Nat) : Keeps sansStop W s (s.setStop k cause) := by
  unfold State.setStop
  extract_lets p grp s1 s2 s3
  have h1 : Keeps sansStop W s s1 :=
    Keeps.foldl (fun t j _ => onTg_stop ((Keeps.refl t).wr (R.TG_STOP_POS j) _ (hW.position j)) j _) s
  clear_value s1
  have h3 : Keeps sansStop W s s3 := (h1.wr R.STOP_CAUSE_SETTING cause hW.cause).update rfl rfl
  exact h3.raise hW.plumb _ _ _

theorem stopGroup_stop (s : State) (cause k : Nat) : Keeps sansStop W s (s.stopGroup cause k) := by
  unfold State.stopGroup
  split
  · exact .ite (setStop_stop hW s k cause) (.refl s)
  · exact setStop_stop hW s k cause

omit hW in
theorem requestStop_eq (s : State) (cause : Nat) : s.requestStop cause =
    ((s.stopActive cause).stopLeaders.foldl (fun (t : State) k => t.stopGroup cause k) (s.stopActive cause)).dropUnstarted.speedDemand := rfl

theorem stopActive_stop (s : State) (cause : Nat) : Keeps sansStop W s (s.stopActive cause) := by
  have hactive : Keeps sansStop W s { s with stop := { s.stop with active := true } } := (Keeps.refl s).update rfl rfl
  exact .ite (.refl s) (((hactive.wr R.STOP_CAUSE_FIRST _ hW.cause).wr R.STOP_CAUSE_SETTING _ hW.cause).lifeAdd _ _ _)

theorem requestStop_stop (s : State) (cause : Nat) : Keeps sansStop W s (s.requestStop cause) := by
  rw [requestStop_eq]
  have hgroups := Keeps.foldl (fun t k _ => stopGroup_stop hW t cause k) (s.stopActive cause) (l := (s.stopActive cause).stopLeaders)
  exact (((stopActive_stop hW s cause).trans hgroups).trans (dropUnstarted_stop hW _)).trans (speedDemand_keeps hW _)

theorem faultStop_stop (s : State) (e : Event) (source : Nat) : Keeps sansStop W s (s.faultStop e source) :=
  ((Keeps.refl s).update (u := { s with stop := { s.stop with faults := s.stop.faults ++ [(e.code, source)] } }) rfl rfl).trans
    (requestStop_stop hW _ 5)

end

end Sys2Proof.Machine
end

section
/-! PROOFS. GATE_WINDOW_END: how a shot is classed and counted, and what its class does to the fail runs and the mending list
(R290 to R295, R299 to R303). -/

namespace Sys2Proof.Machine

variable {s t : State} {W : Nat → Bool}

/-! ## The mending list (R299 to R303) -/

/-- What a result may change beside what is noticed: what a common stop changes, the list, and the fail runs. -/
def sansMend (u : State) : State :=
  { sansStop u with darn := { u.darn with list := [], gone := [], change := 0, runs := [], carry := [] } }

theorem darn_of_keeps (h : Keeps sansStop W s t) : t.darn = s.darn := (congrArg State.darn h.1 :)

theorem gates_of_keeps (h : Keeps sansMend W s t) : t.gates = s.gates := (congrArg State.gates h.1 :)

theorem darnTested_of_keeps (h : Keeps sansMend W s t) : t.darn.tested = s.darn.tested :=
  (congrArg (fun u : State => u.darn.tested) h.1 :)

/-- A set of words that holds all those a result writes: those of a common stop and the counts of the list. -/
structure MendWords (W : Nat → Bool) : Prop extends StopWords W where
  mend : ∀ a, 0x80800 ≤ a → a < 0x80818 → W a = true

/-- The list with one entry more, and no run left for its nozzle. -/
def State.entered (s : State) (n source : Nat) (ambig : Bool) : State :=
  s.onDarn (fun d => { d with
    list := d.list ++ [{ nozzle := n, source := source, ambig := ambig, listed := s.tb2 / 1000000000 % 2 ^ 32, since := d.change + 1 }]
    change := d.change + 1
    runs := Sparse.set 0 d.runs n 0 })

/-- The counts of the list follow a new entry, and its event is raised. -/
def State.listingTold (s : State) (n source : Nat) : State :=
  ((((s.wr R.MEND_COUNT_ENTRIES s.darn.list.length).inc R.MEND_LISTED_COUNT).lifeAdd 0x178 4 1).lifeMax 0x180 s.darn.list.length).raise
    Ev.NOZZLE_MENDED n source

theorem Keeps.lifeMax {E : State → State} (h : Keeps E W s t) (off n : Nat) : Keeps E W s (t.lifeMax off n) := h.update rfl rfl

theorem entered_listed (s : State) (n source : Nat) (ambig : Bool) : (s.entered n source ambig).listed n = true := by
  simp [State.listed, State.mend, State.entered, State.onDarn, List.find?_append]

theorem entered_length (s : State) (n source : Nat) (ambig : Bool) :
    (s.entered n source ambig).darn.list.length = s.darn.list.length + 1 := List.length_append

theorem listed_congr (h : t.darn = s.darn) (n : Nat) : t.listed n = s.listed n := by
  rw [State.listed, State.listed, State.mend, State.mend, h]

section
variable (hW : MendWords W)
include hW

omit hW in
theorem list_of_room (s : State) (n source : Nat) (ambig : Bool) (h : s.darn.list.length < 16384) :
    s.list n source ambig = (s.entered n source ambig).listingTold n source := if_neg (by omega)

/-- A list with room takes the entry; its counts and the event follow. -/
theorem list_room (s : State) (n source : Nat) (ambig : Bool) (h : s.darn.list.length < 16384) :
    Keeps sansStop W (s.entered n source ambig) (s.list n source ambig) := by
  rw [list_of_room s n source ambig h]
  generalize s.entered n source ambig = u
  have hcount : Keeps sansStop W u ((u.wr R.MEND_COUNT_ENTRIES u.darn.list.length).inc R.MEND_LISTED_COUNT) :=
    ((Keeps.refl u).wr _ _ (hW.mend _ (by decide) (by decide))).wr R.MEND_LISTED_COUNT _ (hW.mend _ (by decide) (by decide))
  exact ((hcount.lifeAdd _ _ _).lifeMax _ _).raise hW.plumb _ _ _

/-- A full list takes no entry: the overflow counts and the module stops. -/
theorem list_full (s : State) (n source : Nat) (ambig : Bool) (h : 16384 ≤ s.darn.list.length) :
    Keeps sansStop W s (s.list n source ambig) := by
  unfold State.list
  rw [if_pos h]
  extract_lets k s1 s2
  have h1 : Keeps sansStop W s s1 :=
    ((Keeps.refl s).wr R.MEND_OVERFLOW_COUNT _ (hW.mend _ (by decide) (by decide))).wr _ _ (hW.mend _ (by decide) (by decide))
  clear_value s1
  have h2 : Keeps sansStop W s s2 := .ite h1 ((h1.lifeAdd _ _ _).condOn hW.plumb _ _ _)
  exact h2.trans (faultStop_stop hW.toStopWords s2 _ _)

theorem list_mend (s : State) (n source : Nat) (ambig : Bool) : Keeps sansMend W s (s.list n source ambig) := by
  by_cases h : s.darn.list.length < 16384
  · exact ((Keeps.refl s).update rfl rfl).trans ((list_room hW s n source ambig h).mono (fun _ => rfl) fun _ h => h)
  · exact (list_full hW s n source ambig (by omega)).mono (fun _ => rfl) fun _ h => h

theorem unlist_mend (s : State) (n arg : Nat) : Keeps sansMend W s (s.unlist n arg) := by
  unfold State.unlist
  split
  · exact .refl s
  · extract_lets c bar s1 s2
    have h1 : Keeps sansMend W s s1 := (Keeps.refl s).update rfl rfl
    clear_value s1
    have h2 : Keeps sansMend W s s2 :=
      ((h1.wr _ _ (hW.mend _ (by decide) (by decide))).wr R.MEND_REMOVED_COUNT _ (hW.mend _ (by decide) (by decide))).lifeAdd _ _ _
    exact ((h2.wr _ _ (hW.mend _ (by decide) (by decide))).condOff hW.plumb _ _ _).raise hW.plumb _ _ _

end

/-! ## What a result does (R301, R302) -/

/-- The nozzle is marked as tested at this tick. -/
def State.marked (s : State) (n : Nat) : State := s.onDarn (fun d => { d with tested := Sparse.set 0 d.tested n (s.time + 1) })

theorem marked_gates (s : State) (n : Nat) : (s.marked n).gates = s.gates := rfl

theorem marked_tested (s : State) (n : Nat) : Sparse.get 0 (s.marked n).darn.tested n = s.time + 1 := get_set_same _ _ _ _

/-- A listed nozzle that has passed eight tests leaves the list, unless it is pinned. -/
def State.recovered (s : State) (n : Nat) : State :=
  match s.mend n with
  | some m => if m.passes = 8 ∧ !m.pinned then s.unlist n 0 else s
  | none => s

theorem judge_void (s : State) (g n : Nat) : s.judge g n .void = s.marked n := rfl

theorem judge_good (s : State) (g n : Nat) : s.judge g n .good =
    if s.listed n then ((s.marked n).onMend n (fun m => { m with passes := min 8 (m.passes + 1) })).recovered n
    else (s.marked n).onDarn (fun d => { d with runs := Sparse.set 0 d.runs n 0 }) := rfl

/-- A failed test: no pass of a listed nozzle counts any more, and the run of another grows, or ends in its listing. -/
theorem judge_fail (s : State) (g n : Nat) {c : GateClass} (hv : c ≠ .void) (hg : c ≠ .good) : s.judge g n c =
    if s.listed n then (s.marked n).onMend n (fun m => { m with passes := 0 })
    else if s.rd (R.GATE_CLASS_FAIL_N g) ≤ Sparse.get 0 s.darn.runs n + 1 then (s.marked n).list n 1 false
    else (s.marked n).onDarn (fun d => { d with runs := Sparse.set 0 d.runs n (Sparse.get 0 s.darn.runs n + 1) }) := by
  cases c with
  | good => exact absurd rfl hg
  | void => exact absurd rfl hv
  | weak | missing | slow => rfl

section
variable (hW : MendWords W)
include hW

theorem recovered_mend (s : State) (n : Nat) : Keeps sansMend W s (s.recovered n) := by
  unfold State.recovered
  split
  · exact .ite (unlist_mend hW s n 0) (.refl s)
  · exact .refl s

theorem judge_mend (s : State) (g n : Nat) (c : GateClass) : Keeps sansMend W (s.marked n) (s.judge g n c) := by
  by_cases hv : c = .void
  · rw [hv, judge_void]
    exact .refl _
  by_cases hg : c = .good
  · rw [hg, judge_good]
    have hpass : Keeps sansMend W (s.marked n) ((s.marked n).onMend n (fun m => { m with passes := min 8 (m.passes + 1) })) :=
      (Keeps.refl _).update rfl rfl
    exact .ite (hpass.trans (recovered_mend hW _ n)) ((Keeps.refl _).update rfl rfl)
  · rw [judge_fail s g n hv hg]
    exact .ite ((Keeps.refl _).update rfl rfl) (.ite (list_mend hW _ n 1 false) ((Keeps.refl _).update rfl rfl))

/-- At FAIL_N the nozzle is listed, if the list has room. -/
theorem judge_lists (s : State) (g n : Nat) {c : GateClass} (hv : c ≠ .void) (hg : c ≠ .good) (hn : s.listed n = false)
    (hrun : s.rd (R.GATE_CLASS_FAIL_N g) ≤ Sparse.get 0 s.darn.runs n + 1) (hroom : s.darn.list.length < 16384) :
    (s.judge g n c).listed n = true ∧ (s.judge g n c).darn.list.length = s.darn.list.length + 1 := by
  have hdarn : (s.judge g n c).darn = ((s.marked n).entered n 1 false).darn := by
    rw [judge_fail s g n hv hg, if_neg (by simp [hn]), if_pos hrun]
    exact darn_of_keeps (list_room hW (s.marked n) n 1 false hroom)
  rw [listed_congr hdarn, hdarn]
  exact ⟨entered_listed _ _ _ _, entered_length _ _ _ _⟩

end

/-- Before FAIL_N the run of the nozzle grows by one. -/
theorem judge_runs (s : State) (g n : Nat) {c : GateClass} (hv : c ≠ .void) (hg : c ≠ .good) (hn : s.listed n = false)
    (hrun : Sparse.get 0 s.darn.runs n + 1 < s.rd (R.GATE_CLASS_FAIL_N g)) :
    (s.judge g n c).darn.list = s.darn.list ∧ Sparse.get 0 (s.judge g n c).darn.runs n = Sparse.get 0 s.darn.runs n + 1 := by
  rw [judge_fail s g n hv hg, if_neg (by simp [hn]), if_neg (by omega)]
  exact ⟨rfl, get_set_same _ _ _ _⟩

/-! ## A shot is classed and counted (R292) -/

/-- A sample at either end of the converter's range makes a test VOID. -/
theorem classify_of_edge (s : State) (g : Nat) (x : TestShot) (v : GateSamples)
    (h : ∃ y ∈ v.pre ++ v.win, y.toNat = 0 ∨ y.toNat = 4095) :
    s.classify g x (v.pre.map (·.toNat)) (v.win.map (·.toNat)) = .void := by
  obtain ⟨y, hy, hedge⟩ := h
  have hbad : ((v.pre.map (·.toNat) ++ v.win.map (·.toNat)).any fun z => z == 0 || z == 4095) = true := by
    rw [← List.map_append, List.any_map]
    exact List.any_eq_true.2 ⟨y, hy, by simpa using hedge⟩
  exact if_pos (.inr (.inl hbad))

/-- The shot has left its gate, and its nozzle the gate's queue. -/
def State.shotGone (s : State) (g : Nat) (x : TestShot) : State :=
  s.onGate g (fun y => { y with shots := y.shots.erase x, queue := y.queue.filter (fun n => n != x.nozzle) })

/-- The shot has left its gate, and GATEg_LAST and GATEg_LAST_AMP show its nozzle, class, amplitude and time. -/
def State.shotShown (s : State) (g : Nat) (x : TestShot) (c : GateClass) (a : Int × Int) : State :=
  ((((s.shotGone g x).wr (R.GATE_LAST_NOZZLE g) x.nozzle).wr (R.GATE_LAST_CLASS g) c.code).wr (R.GATE_LAST_AMP_AMP g)
    (a.1.toNat % 4096)).wrI (R.GATE_LAST_AMP_TIME g) a.2

/-- The test counts, and as VOID or as failed where it is. -/
def State.testCounted (s : State) (g : Nat) (c : GateClass) : State :=
  let u := (s.inc (R.GATE_TESTS_COUNT g)).lifeAdd 0x184 4 1
  match c with
  | .void => u.inc (R.GATE_VOID_COUNT g)
  | .good => u
  | _ => u.inc (R.GATE_FAILS_COUNT g)

/-- The shot as it stands before its nozzle is judged: shown, counted, and its amplitude in the histogram where it counts for AREF. -/
def State.tallied (s : State) (g : Nat) (x : TestShot) (c : GateClass) (a : Int × Int) : State :=
  let u := (s.shotShown g x c a).testCounted g c
  if c ≠ .void ∨ s.rd (R.GATE_STATE_STATE g) = 2 then u.addAmp g a.1.toNat else u

/-- TEST_NOW of the nozzle's leaf clears when this was its last test. -/
def State.testSeen (s : State) (n : Nat) : State :=
  match s.nozzleAt n with
  | some e => s.testNowDone e.1
  | none => s

/-- The amplitude and time of a shot's window. -/
def State.shotAmp (s : State) (g : Nat) (x : TestShot) (v : List Nat) : Int × Int :=
  amplitude (s.flag (R.GATE_CFG_POL g)) x.base (s.rd (R.GATE_TIMING_WIDTH g)) v

theorem windowEnd_eq (s : State) (g : Nat) (x : TestShot) (pre v : List Nat) : s.windowEnd g x pre v =
    ((s.tallied g x (s.classify g x pre v) (s.shotAmp g x v)).judge g x.nozzle (s.classify g x pre v)).testSeen x.nozzle := by
  unfold State.windowEnd
  extract_lets c a s1 s2 s3 s4 s5 s6
  have h4 : s4 = (s.shotShown g x c a).testCounted g c := rfl
  have h5 : s5 = s.tallied g x c a := by simp only [s5, State.tallied, h4]
  have h6 : s6 = (s.tallied g x c a).judge g x.nozzle c := congrArg (fun u : State => u.judge g x.nozzle c) h5
  refine Eq.trans ?_ (congrArg (fun u : State => u.testSeen x.nozzle) h6)
  clear_value s6
  unfold State.testSeen
  generalize s6.nozzleAt x.nozzle = o
  cases o <;> rfl

/-! ### The shot in its gate -/

/-- The state less the gates. -/
def sansShots (u : State) : State := { u with gates := [] }

/-- The registers that a shot's class and amplitude change. -/
def shotWord (g a : Nat) : Bool :=
  [R.GATE_LAST g, R.GATE_LAST_AMP g, R.GATE_TESTS g, R.GATE_VOID g, R.GATE_FAILS g, R.GATE_AREF g, R.GATE_STATE g].contains a

section
variable (s : State) (g : Nat) (x : TestShot) (c : GateClass) (a : Int × Int)

theorem shotShown_keeps (hlast : W (R.GATE_LAST g) = true) (hamp : W (R.GATE_LAST_AMP g) = true) :
    Keeps sansShots W s (s.shotShown g x c a) := by
  have hgone : Keeps sansShots W s (s.shotGone g x) := (Keeps.refl s).update rfl rfl
  exact (((hgone.wr (R.GATE_LAST_NOZZLE g) _ hlast).wr (R.GATE_LAST_CLASS g) _ hlast).wr (R.GATE_LAST_AMP_AMP g) _ hamp).wr
    (R.GATE_LAST_AMP_TIME g) _ hamp

theorem testCounted_eq : s.testCounted g c =
    if c = .void then ((s.inc (R.GATE_TESTS_COUNT g)).lifeAdd 0x184 4 1).inc (R.GATE_VOID_COUNT g)
    else if c = .good then (s.inc (R.GATE_TESTS_COUNT g)).lifeAdd 0x184 4 1
    else ((s.inc (R.GATE_TESTS_COUNT g)).lifeAdd 0x184 4 1).inc (R.GATE_FAILS_COUNT g) := by
  cases c <;> rfl

theorem testCounted_keeps {E : State → State} (htests : W (R.GATE_TESTS g) = true) (hvoid : W (R.GATE_VOID g) = true)
    (hfails : W (R.GATE_FAILS g) = true) : Keeps E W s (s.testCounted g c) := by
  have h : Keeps E W s ((s.inc (R.GATE_TESTS_COUNT g)).lifeAdd 0x184 4 1) :=
    ((Keeps.refl s).wr (R.GATE_TESTS_COUNT g) _ htests).lifeAdd _ _ _
  rw [testCounted_eq]
  exact .ite (h.wr (R.GATE_VOID_COUNT g) _ hvoid) (.ite h (h.wr (R.GATE_FAILS_COUNT g) _ hfails))

theorem testCounted_gates : (s.testCounted g c).gates = s.gates := by cases c <;> rfl

theorem addAmp_keeps (n : Nat) (haref : W (R.GATE_AREF g) = true) (hstate : W (R.GATE_STATE g) = true) :
    Keeps sansShots W s (s.addAmp g n) := by
  unfold State.addAmp
  extract_lets s1
  have h1 : Keeps sansShots W s s1 := (Keeps.refl s).update rfl rfl
  clear_value s1
  have hready : Keeps sansShots W s ((s1.setAref g).gateReady g) :=
    (h1.drawn.wr (R.GATE_AREF_AREF g) _ haref).wr (R.GATE_STATE_STATE g) _ hstate
  exact .ite (.ite hready h1) hready

theorem addAmp_gates (n : Nat) : (s.addAmp g n).gates = (s.onGate g (fun y => { y with amps := (n :: y.amps).take 1024 })).gates := by
  unfold State.addAmp
  extract_lets s1
  split
  · split <;> rfl
  · rfl

/-- Only the gate's amplitudes, AREF and STATE differ from the shot shown and counted. -/
theorem tallied_counted (haref : W (R.GATE_AREF g) = true) (hstate : W (R.GATE_STATE g) = true) :
    Keeps sansShots W ((s.shotShown g x c a).testCounted g c) (s.tallied g x c a) := .ite (addAmp_keeps _ g _ haref hstate) (.refl _)

theorem tallied_keeps : Keeps sansShots (shotWord g) s (s.tallied g x c a) :=
  ((shotShown_keeps s g x c a (by simp [shotWord]) (by simp [shotWord])).trans
    (testCounted_keeps _ g c (by simp [shotWord]) (by simp [shotWord]) (by simp [shotWord]))).trans
      (tallied_counted s g x c a (by simp [shotWord]) (by simp [shotWord]))

theorem tallied_darn : (s.tallied g x c a).darn = s.darn := (congrArg State.darn (tallied_keeps s g x c a).1 :)

theorem tallied_time : (s.tallied g x c a).time = s.time := (congrArg State.time (tallied_keeps s g x c a).1 :)

theorem tallied_failN : (s.tallied g x c a).rd (R.GATE_CLASS_FAIL_N g) = s.rd (R.GATE_CLASS_FAIL_N g) :=
  (tallied_keeps s g x c a).rd _ (by
    simp [shotWord, R.GATE_CLASS, R.GATE_LAST, R.GATE_LAST_AMP, R.GATE_TESTS, R.GATE_VOID, R.GATE_FAILS, R.GATE_AREF, R.GATE_STATE])

/-- GATEg_LAST shows the nozzle and the class. -/
theorem tallied_last : (s.tallied g x c a).rd (R.GATE_LAST_NOZZLE g) = x.nozzle % 2 ^ 20 ∧
    (s.tallied g x c a).rd (R.GATE_LAST_CLASS g) = c.code := by
  have hkeeps : Keeps sansShots (fun b => b != R.GATE_LAST g) (s.shotShown g x c a) (s.tallied g x c a) :=
    (testCounted_keeps _ g c (by simp [R.GATE_LAST, R.GATE_TESTS]) (by simp [R.GATE_LAST, R.GATE_VOID])
      (by simp [R.GATE_LAST, R.GATE_FAILS])).trans
        (tallied_counted s g x c a (by simp [R.GATE_LAST, R.GATE_AREF]) (by simp [R.GATE_LAST, R.GATE_STATE]))
  have hamp : R.GATE_LAST g ≠ R.GATE_LAST_AMP g := by simp [R.GATE_LAST, R.GATE_LAST_AMP]
  have hshown : ∀ f : Field, f.addr = R.GATE_LAST g → (s.tallied g x c a).rd f =
      (((s.shotGone g x).wr (R.GATE_LAST_NOZZLE g) x.nozzle).wr (R.GATE_LAST_CLASS g) c.code).rd f := fun f hf => by
    rw [hkeeps.rd f (by simp [hf]), State.shotShown, State.wrI, rd_wr_word _ _ _ _ (hf ▸ hamp), rd_wr_word _ _ _ _ (hf ▸ hamp)]
  rw [hshown _ rfl, hshown _ rfl, rd_wr_disjoint _ _ _ _ rfl rfl, rd_wr_same _ _ _ rfl, rd_wr_same _ _ _ rfl]
  exact ⟨rfl, by cases c <;> rfl⟩

/-- TESTS counts the test, VOID and FAILS as its class says. -/
theorem testCounted_rd :
    (s.testCounted g c).rd (R.GATE_TESTS_COUNT g) = (s.rd (R.GATE_TESTS_COUNT g) + 1) % 2 ^ 32 ∧
      (s.testCounted g c).rd (R.GATE_VOID_COUNT g) = (s.rd (R.GATE_VOID_COUNT g) + (if c = .void then 1 else 0)) % 2 ^ 32 ∧
      (s.testCounted g c).rd (R.GATE_FAILS_COUNT g) =
        (s.rd (R.GATE_FAILS_COUNT g) + (if c = .void ∨ c = .good then 0 else 1)) % 2 ^ 32 := by
  have htv : R.GATE_TESTS g ≠ R.GATE_VOID g := by simp [R.GATE_TESTS, R.GATE_VOID]
  have htf : R.GATE_TESTS g ≠ R.GATE_FAILS g := by simp [R.GATE_TESTS, R.GATE_FAILS]
  have hvf : R.GATE_VOID g ≠ R.GATE_FAILS g := by simp [R.GATE_VOID, R.GATE_FAILS]
  have hvoid : s.rd (R.GATE_VOID_COUNT g) < 2 ^ 32 := rd_lt s _
  have hfails : s.rd (R.GATE_FAILS_COUNT g) < 2 ^ 32 := rd_lt s _
  let u := (s.inc (R.GATE_TESTS_COUNT g)).lifeAdd 0x184 4 1
  have htests : u.rd (R.GATE_TESTS_COUNT g) = (s.rd (R.GATE_TESTS_COUNT g) + 1) % 2 ^ 32 := rd_inc s _ rfl
  have huvoid : u.rd (R.GATE_VOID_COUNT g) = s.rd (R.GATE_VOID_COUNT g) := rd_wr_word s _ _ _ htv.symm
  have hufails : u.rd (R.GATE_FAILS_COUNT g) = s.rd (R.GATE_FAILS_COUNT g) := rd_wr_word s _ _ _ htf.symm
  rw [testCounted_eq]
  change State.rd (if c = .void then u.inc _ else if c = .good then u else u.inc _) _ = _ ∧
    State.rd (if c = .void then u.inc _ else if c = .good then u else u.inc _) _ = _ ∧
    State.rd (if c = .void then u.inc _ else if c = .good then u else u.inc _) _ = _
  clear_value u
  by_cases hv : c = .void
  · simp only [hv, if_true, true_or, Nat.add_zero]
    exact ⟨(rd_wr_word u _ _ _ htv).trans htests, by rw [rd_inc _ _ rfl, huvoid],
      by rw [Nat.mod_eq_of_lt hfails]; exact (rd_wr_word u _ _ _ hvf.symm).trans hufails⟩
  by_cases hg : c = .good
  · simp only [hg, if_false, if_true, or_true, Nat.add_zero, reduceCtorEq]
    exact ⟨htests, by rw [Nat.mod_eq_of_lt hvoid, huvoid], by rw [Nat.mod_eq_of_lt hfails, hufails]⟩
  · simp only [hv, hg, if_false, or_self, Nat.add_zero]
    exact ⟨(rd_wr_word u _ _ _ htf).trans htests, by rw [Nat.mod_eq_of_lt hvoid]; exact (rd_wr_word u _ _ _ hvf).trans huvoid,
      by rw [rd_inc _ _ rfl, hufails]⟩

theorem tallied_rd :
    (s.tallied g x c a).rd (R.GATE_TESTS_COUNT g) = (s.rd (R.GATE_TESTS_COUNT g) + 1) % 2 ^ 32 ∧
      (s.tallied g x c a).rd (R.GATE_VOID_COUNT g) = (s.rd (R.GATE_VOID_COUNT g) + (if c = .void then 1 else 0)) % 2 ^ 32 ∧
      (s.tallied g x c a).rd (R.GATE_FAILS_COUNT g) =
        (s.rd (R.GATE_FAILS_COUNT g) + (if c = .void ∨ c = .good then 0 else 1)) % 2 ^ 32 := by
  have hamp := tallied_counted (W := fun b => b == R.GATE_AREF g || b == R.GATE_STATE g) s g x c a (by simp) (by simp)
  have hshown := shotShown_keeps (W := fun b => b == R.GATE_LAST g || b == R.GATE_LAST_AMP g) s g x c a (by simp) (by simp)
  have hcounts := testCounted_rd (s.shotShown g x c a) g c
  rw [hshown.rd (R.GATE_TESTS_COUNT g) (by simp [R.GATE_TESTS, R.GATE_LAST, R.GATE_LAST_AMP]),
    hshown.rd (R.GATE_VOID_COUNT g) (by simp [R.GATE_VOID, R.GATE_LAST, R.GATE_LAST_AMP]),
    hshown.rd (R.GATE_FAILS_COUNT g) (by simp [R.GATE_FAILS, R.GATE_LAST, R.GATE_LAST_AMP])] at hcounts
  rw [hamp.rd (R.GATE_TESTS_COUNT g) (by simp [R.GATE_TESTS, R.GATE_AREF, R.GATE_STATE]),
    hamp.rd (R.GATE_VOID_COUNT g) (by simp [R.GATE_VOID, R.GATE_AREF, R.GATE_STATE]),
    hamp.rd (R.GATE_FAILS_COUNT g) (by simp [R.GATE_FAILS, R.GATE_AREF, R.GATE_STATE])]
  exact hcounts

/-- The shot has left its gate, the nozzle is queued no more, and the other gates stay as they are. -/
theorem tallied_gate : ((s.tallied g x c a).gate g).shots = (s.gate g).shots.erase x ∧ x.nozzle ∉ ((s.tallied g x c a).gate g).queue ∧
    ∀ k, k ≠ g → (s.tallied g x c a).gate k = s.gate k := by
  have hcounted : ∀ k, ((s.shotShown g x c a).testCounted g c).gate k = (s.shotGone g x).gate k :=
    gate_congr (testCounted_gates (s.shotShown g x c a) g c)
  unfold State.tallied
  extract_lets u
  have hown : (u.gate g).shots = (s.gate g).shots.erase x ∧ x.nozzle ∉ (u.gate g).queue := by
    rw [hcounted, State.shotGone, gate_onGate_same]
    exact ⟨rfl, by simp⟩
  have hothers : ∀ k, k ≠ g → u.gate k = s.gate k := fun k hk => (hcounted k).trans (gate_onGate_ne s k g _ hk)
  clear_value u
  split
  · rw [gate_congr (addAmp_gates u g a.1.toNat), gate_onGate_same]
    exact ⟨hown.1, hown.2, fun k hk =>
      (gate_congr (addAmp_gates u g a.1.toNat) k).trans ((gate_onGate_ne u k g _ hk).trans (hothers k hk))⟩
  · exact ⟨hown.1, hown.2, hothers⟩

end

/-! ## The end of a test window (R292, R301 to R303) -/

/-- Every word but those that show a gate's last test and its counts. -/
def resultWord (g a : Nat) : Bool := !([R.GATE_LAST g, R.GATE_TESTS g, R.GATE_VOID g, R.GATE_FAILS g].contains a)

theorem resultWord_of_ne {g a : Nat}
    (h : a ≠ 0x8001C + 64 * g ∧ a ≠ 0x80028 + 64 * g ∧ a ≠ 0x8002C + 64 * g ∧ a ≠ 0x80030 + 64 * g) :
    resultWord g a = true := by simpa [resultWord] using h

/-- What a result changes besides lies outside the words of the gate's last test: no stop position and no compare unit, whatever its
number, shares an address with them. -/
theorem resultWord_mendWords (g : Fin 4) : MendWords (resultWord g) where
  high a ha := resultWord_of_ne (by omega)
  plumb a ha := by
    have := plumbWord_cases ha
    exact resultWord_of_ne (by omega)
  compare k := resultWord_of_ne (by simp only [R.CMP_STATUS]; omega)
  position j := resultWord_of_ne (by simp only [R.TG_STOP]; omega)
  cause := resultWord_of_ne (by simp only [R.STOP_CAUSE]; omega)
  demand := resultWord_of_ne (by simp only [R.SD_NOW]; omega)
  mend a _ _ := resultWord_of_ne (by omega)

theorem testNowDone_keeps {E : State → State} (s : State) (c : Nat) : Keeps E W s (s.testNowDone c) := by
  have hdone : Keeps E W s (s.ctrlDone c ctrlTest) := .of_unnoticed rfl fun _ _ => rfl
  exact .ite (.refl s) (.ite hdone (.ite hdone (.refl s)))

theorem testSeen_keeps {E : State → State} (s : State) (n : Nat) : Keeps E W s (s.testSeen n) := by
  unfold State.testSeen
  split
  · exact testNowDone_keeps _ _
  · exact .refl _

/-- What the end of a test window may change beside what is noticed. -/
def sansTest (u : State) : State := { sansMend u with darn := { (sansMend u).darn with tested := [] }, gates := [] }

theorem eq_of_sansTest (h : sansTest t.unnoticed = sansTest s.unnoticed) :
    t = { s.noticed t with
      pow := { s.pow with lastBusy := t.pow.lastBusy }, pieces := t.pieces, ended := t.ended, rejects := t.rejects,
      tgs := t.tgs, ring := t.ring, stop := { s.stop with active := t.stop.active, faults := t.stop.faults },
      darn := { s.darn with
        carry := t.darn.carry, change := t.darn.change, gone := t.darn.gone, list := t.darn.list,
        runs := t.darn.runs, tested := t.darn.tested },
      gates := t.gates, evid := t.evid, verify := t.verify } :=
  calc
    t = { (sansTest t.unnoticed).noticed t with
      pow := { (sansTest t.unnoticed).pow with lastBusy := t.pow.lastBusy }, pieces := t.pieces, ended := t.ended, rejects := t.rejects,
      tgs := t.tgs, ring := t.ring, stop := { s.stop with active := t.stop.active, faults := t.stop.faults },
      darn := { (sansTest t.unnoticed).darn with
        carry := t.darn.carry, change := t.darn.change, gone := t.darn.gone, list := t.darn.list,
        runs := t.darn.runs, tested := t.darn.tested },
      gates := t.gates, evid := t.evid, verify := t.verify } := rfl
    _ = { (sansTest s.unnoticed).noticed t with
      pow := { (sansTest s.unnoticed).pow with lastBusy := t.pow.lastBusy }, pieces := t.pieces, ended := t.ended, rejects := t.rejects,
      tgs := t.tgs, ring := t.ring, stop := { s.stop with active := t.stop.active, faults := t.stop.faults },
      darn := { (sansTest s.unnoticed).darn with
        carry := t.darn.carry, change := t.darn.change, gone := t.darn.gone, list := t.darn.list,
        runs := t.darn.runs, tested := t.darn.tested },
      gates := t.gates, evid := t.evid, verify := t.verify } := by rw [h]
    _ = _ := rfl

/-- The state after the end of a test window: the tally, the result for the nozzle, TEST_NOW, and the latch. -/
def State.tested (s : State) (g : Nat) (x : TestShot) (c : GateClass) (a : Int × Int) : State :=
  (((s.tallied g x c a).judge g x.nozzle c).testSeen x.nozzle).latch

theorem exec_gateWindowEnd_shot {g : Fin 4} {v : GateSamples} {x : TestShot} (hpre : v.pre.length = 32)
    (hwin : v.win.length = s.rd (R.GATE_TIMING_WIDTH g)) (hcore : s.coreOn = true) (hshot : s.endedShot g = some x) :
    exec (.gateWindowEnd g v) s = .next (s.tested g x (s.classify g x (v.pre.map (·.toNat)) (v.win.map (·.toNat)))
      (s.shotAmp g x (v.win.map (·.toNat)))) := by
  show execGateWindowEnd g v s = _
  rw [execGateWindowEnd, if_neg (by simp [hpre, hwin]), if_pos hcore, hshot, State.tested, ← windowEnd_eq]
  rfl

theorem exec_gateWindowEnd_illFormed {g : Fin 4} {v : GateSamples}
    (h : v.pre.length ≠ 32 ∨ v.win.length ≠ s.rd (R.GATE_TIMING_WIDTH g)) :
    exec (.gateWindowEnd g v) s = .fault .illFormed := if_pos h

section
variable (s : State) (g : Fin 4) (x : TestShot) (c : GateClass) (a : Int × Int)

theorem tested_judged {E : State → State} : Keeps E W ((s.tallied g x c a).judge g x.nozzle c) (s.tested g x c a) :=
  (testSeen_keeps _ _).latch

theorem tested_marked : Keeps sansMend (resultWord g) ((s.tallied g x c a).marked x.nozzle) (s.tested g x c a) :=
  (judge_mend (resultWord_mendWords g) _ g x.nozzle c).trans (tested_judged s g x c a)

theorem tested_darn : (s.tested g x c a).darn = ((s.tallied g x c a).judge g x.nozzle c).darn :=
  darn_of_keeps (tested_judged (W := resultWord g) s g x c a)

theorem tested_gates : (s.tested g x c a).gates = (s.tallied g x c a).gates :=
  (gates_of_keeps (tested_marked s g x c a)).trans (marked_gates _ _)

theorem tested_rd (f : Field) (hf : resultWord g f.addr = false) : (s.tested g x c a).rd f = (s.tallied g x c a).rd f :=
  (tested_marked s g x c a).rd f hf

theorem tested_mark : Sparse.get 0 (s.tested g x c a).darn.tested x.nozzle = s.time + 1 := by
  rw [darnTested_of_keeps (tested_marked s g x c a), marked_tested, tallied_time]

theorem tested_frame : sansTest (s.tested g x c a).unnoticed = sansTest s.unnoticed := by
  have htally : Keeps sansTest (fun _ => true) s (s.tallied g x c a) := (tallied_keeps s g x c a).mono (fun _ => rfl) (by simp)
  have hmark : Keeps sansTest (fun _ => true) (s.tallied g x c a) ((s.tallied g x c a).marked x.nozzle) := (Keeps.refl _).update rfl rfl
  have hresult : Keeps sansTest (fun _ => true) ((s.tallied g x c a).marked x.nozzle) (s.tested g x c a) :=
    (tested_marked s g x c a).mono (fun _ => rfl) (by simp)
  exact ((htally.trans hmark).trans hresult).1

theorem tested_void (hc : c = .void) : (s.tested g x c a).darn.list = s.darn.list ∧ (s.tested g x c a).darn.runs = s.darn.runs := by
  rw [tested_darn, hc, judge_void, ← tallied_darn s g x .void a]
  exact ⟨rfl, rfl⟩

theorem tested_fail (hv : c ≠ .void) (hg : c ≠ .good) (hn : s.listed x.nozzle = false) :
    (Sparse.get 0 s.darn.runs x.nozzle + 1 < s.rd (R.GATE_CLASS_FAIL_N g) → (s.tested g x c a).darn.list = s.darn.list ∧
      Sparse.get 0 (s.tested g x c a).darn.runs x.nozzle = Sparse.get 0 s.darn.runs x.nozzle + 1) ∧
    (s.rd (R.GATE_CLASS_FAIL_N g) ≤ Sparse.get 0 s.darn.runs x.nozzle + 1 → s.darn.list.length < 16384 →
      (s.tested g x c a).listed x.nozzle = true ∧ (s.tested g x c a).darn.list.length = s.darn.list.length + 1) := by
  have hlisted : (s.tallied g x c a).listed x.nozzle = false := (listed_congr (tallied_darn s g x c a) _).trans hn
  rw [listed_congr (tested_darn s g x c a), tested_darn, ← tallied_darn s g x c a, ← tallied_failN s g x c a]
  exact ⟨judge_runs _ g _ hv hg hlisted, judge_lists (resultWord_mendWords g) _ g _ hv hg hlisted⟩

end

/-- Settles O53: the end of a test window goes through the tally of the shot, the result for its nozzle, and what a result may change;
a step of the trims and a stored set name the state they leave. -/
theorem gateTests : Obligations.GateTests := by
  refine ⟨fun s g v x c hpre hwin hcore hshot hclass => ⟨_, exec_gateWindowEnd_shot hpre hwin hcore hshot, ?_⟩,
    fun s g v h => exec_gateWindowEnd_illFormed h,
    fun s g bins hbins hcore hon hdue => ⟨_, exec_gateTrim_due hbins hcore hon hdue, ?_⟩,
    fun s g bins hbins => exec_gateTrim_illFormed hbins,
    fun s g hcore hdue => ⟨_, exec_gateTrimStore_due hcore hdue, ?_⟩⟩
  · rw [← hclass]
    generalize s.shotAmp g x (v.win.map (·.toNat)) = a
    obtain ⟨hnozzle, hcode⟩ := tallied_last s g x c a
    obtain ⟨htests, hvoid, hfails⟩ := tallied_rd s g x c a
    obtain ⟨hshots, hqueue, hothers⟩ := tallied_gate s g x c a
    have hgate := gate_congr (tested_gates s g x c a)
    have hread := tested_rd s g x c a
    refine ⟨(hread _ ?_).trans htests, (hread _ ?_).trans hnozzle, (hread _ ?_).trans hcode,
      fun h => hclass.trans (classify_of_edge s g x v h), (hread _ ?_).trans hvoid, (hread _ ?_).trans hfails, by rw [hgate, hshots],
      by rw [hgate]; exact hqueue, tested_mark s g x c a, tested_void s g x c a, tested_fail s g x c a, fun h hne => ?_,
      eq_of_sansTest (tested_frame s g x c a)⟩
    · simp [resultWord]
    · simp [resultWord]
    · simp [resultWord]
    · simp [resultWord]
    · simp [resultWord]
    · rw [hgate, hothers _ (Fin.val_ne_of_ne hne)]
  · obtain ⟨hhist, hstep, hsets⟩ := gateStep_gate s g bins
    obtain ⟨heither, hgain, hoffset⟩ := gateStep_step s g bins
    have hheld := gateStep_held s g bins
    have hkeeps := (gateStep_trimKeeps s g bins).latch
    simp only [latch_gate, latch_rd]
    exact ⟨hstep, hhist, hsets, heither, hgain, hoffset, fun h => ⟨rd_congr _ _ _ (hheld h), rd_congr _ _ _ (hheld h)⟩,
      fun h hne => gateStep_others s g bins h (Fin.val_ne_of_ne hne), eq_of_sansGates hkeeps.frame, hkeeps.words⟩
  · obtain ⟨hmem, hlength⟩ := setsStored_spec s g
    simp only [latch_gate, latch_rd, gateStore_gate]
    exact ⟨hmem, hlength, gateStore_shown s g, fun h hne => gateStore_others s g h (Fin.val_ne_of_ne hne),
      eq_of_sansGates ((latch_sansGates _).trans (gateStore_sansGates s g)),
      fun a ha => (latch_word _ a).trans (gateStore_words s g a ha)⟩

/-! ## States that meet the hypotheses -/

/-- A shot at nozzle 7 at tick 0, with a baseline of 100 codes. -/
def firstShot : TestShot := { nozzle := 7, fire := 0, base := 100, noise := 4, aref := 50 }

/-- A module in Day whose gate 0 is READY, with test windows of 4 samples, a GOOD amplitude from 50 % of AREF on, a WEAK one from 20 % on,
and a listing at the second failed test in a row; that shot's window has ended, and the run of its nozzle is `run`. -/
def shotState (run : Nat) : State :=
  { dayState with
    time := 100
    regs := [(R.GATE_TIMING 0, 4 * 2 ^ 12), (R.GATE_CLASS 0, 50 + 20 * 2 ^ 7 + 2 * 2 ^ 22), (R.GATE_STATE 0, 3)]
    gates := [(0, { shots := [firstShot], queue := [7] })], darn := { runs := Sparse.set 0 [] 7 run } }

/-- Samples that stay at one code, before the window and in it. -/
def flatSamples (code : BitVec 12) : GateSamples := ⟨List.replicate 32 code, List.replicate 4 code⟩

/-- No drop crosses the beam: the class is MISSING, and the nozzle is listed at its second failed test. -/
theorem gateTests_listed_witness : ∃ t, exec (.gateWindowEnd 0 (flatSamples 100)) (shotState 1) = .next t ∧
    t.rd (R.GATE_TESTS_COUNT 0) = 1 ∧ t.rd (R.GATE_LAST_CLASS 0) = 3 ∧ t.rd (R.GATE_FAILS_COUNT 0) = 1 ∧ t.listed 7 = true := by
  obtain ⟨t, hrun, htests, -, hcode, -, -, hfails, -, -, -, -, hfail, -⟩ :=
    gateTests.1 (shotState 1) 0 (flatSamples 100) firstShot .missing
    rfl (by decide) rfl (by decide) (by decide)
  obtain ⟨-, hlists⟩ := hfail (by decide) (by decide) (by decide)
  exact ⟨t, hrun, htests.trans (by decide), hcode, hfails.trans (by decide), (hlists (by decide) (by decide)).1⟩

/-- At its first failed test only its run grows. -/
theorem gateTests_run_witness : ∃ t, exec (.gateWindowEnd 0 (flatSamples 100)) (shotState 0) = .next t ∧
    Sparse.get 0 t.darn.runs 7 = 1 ∧ t.darn.list = [] := by
  obtain ⟨t, hrun, -, -, -, -, -, -, -, -, -, -, hfail, -⟩ := gateTests.1 (shotState 0) 0 (flatSamples 100) firstShot .missing
    rfl (by decide) rfl (by decide) (by decide)
  obtain ⟨hlist, hgrows⟩ := (hfail (by decide) (by decide) (by decide)).1 (by decide)
  exact ⟨t, hrun, hgrows, hlist⟩

/-- Samples at the end of the converter's range make the test VOID, and the list and the runs stay as they are. -/
theorem gateTests_void_witness : ∃ t, exec (.gateWindowEnd 0 (flatSamples 4095)) (shotState 1) = .next t ∧
    t.rd (R.GATE_VOID_COUNT 0) = 1 ∧ t.darn.runs = (shotState 1).darn.runs := by
  obtain ⟨t, hrun, -, -, -, -, hvoid, -, -, -, -, hsame, -⟩ := gateTests.1 (shotState 1) 0 (flatSamples 4095) firstShot .void
    rfl (by decide) rfl (by decide) (by decide)
  exact ⟨t, hrun, hvoid.trans (by decide), (hsame rfl).2⟩

/-- One sample too few before the window is ill formed. -/
theorem gateTests_short_witness : exec (.gateWindowEnd 0 ⟨List.replicate 31 100, List.replicate 4 100⟩) (shotState 0) =
    .fault .illFormed :=
  gateTests.2.1 (shotState 0) 0 _ (.inl (by decide))

/-- A module in Day whose gate 0 is enabled since its start, with a GAIN of 16, an AREF of 400 and a target amplitude of 1,000, 10 s
later. -/
def trimState : State :=
  { dayState with
    time := secTicks 10
    regs := [(R.GATE_TRIM 0, 16 * 2 ^ 12), (R.GATE_AREF 0, 400), (R.GATE_TARGET, 1000 * 2 ^ 12)], conf := [(R.GATE_CFG 0, 1)] }

/-- An empty histogram: GAIN stays within a step of 16, and not below. -/
theorem gateTests_trim_witness : ∃ t, exec (.gateTrim 0 (List.replicate 256 0)) trimState = .next t ∧
    16 ≤ t.rd (R.GATE_TRIM_GAIN 0) ∧ ((t.rd (R.GATE_TRIM_GAIN 0) : Int) - trimState.rd (R.GATE_TRIM_GAIN 0)).natAbs ≤ 1 := by
  obtain ⟨t, hrun, -, -, -, -, hgain, -⟩ :=
    gateTests.2.2.1 trimState 0 (List.replicate 256 0) List.length_replicate rfl (by decide) (by decide)
  exact ⟨t, hrun, hgain (by decide)⟩

/-- One bin too few is ill formed. -/
theorem gateTests_bins_witness : exec (.gateTrim 0 (List.replicate 255 0)) trimState = .fault .illFormed :=
  gateTests.2.2.2.1 trimState 0 _ (by rw [List.length_replicate]; decide)

/-- The first set is kept and shown. -/
theorem gateTests_store_witness : ∃ t, exec (.gateTrimStore 0) trimState = .next t ∧ t.rd (R.GATE_STATE_SETS 0) = 1 := by
  obtain ⟨t, hrun, -, hlength, hshown, -⟩ := gateTests.2.2.2.2 trimState 0 rfl (by decide)
  exact ⟨t, hrun, hshown.trans (by rw [hlength]; rfl)⟩

end Sys2Proof.Machine
end

section
/-! PROOFS. What a step does at its surface: the front of the queue, the byte memories, and the operands a wire can carry (R59, R75). -/

namespace Sys2Proof.Machine

variable {s t : State}

/-- Settles O1: `step` takes the front of the queue off and runs it. -/
theorem stepRunsFront : Obligations.StepRunsFront := fun _ _ _ => rfl

/-! ## The byte memories (R59, R75) -/

/-- What programming leaves at an address of its run: the bits that were 1 and are asked to stay so (R59). -/
theorem get_flashProgram_in (s : State) (a i : Nat) (bs : List Byte) (h : a ≤ i ∧ i < a + bs.length) :
    Sparse.get 0xFF (s.flashProgram a bs).flash i = Sparse.get 0xFF s.flash i &&& bs.getD (i - a) 0 := by
  obtain ⟨hlo, hhi⟩ := h
  obtain ⟨j, rfl⟩ := Nat.exists_eq_add_of_le hlo
  have hj : j < bs.length := by omega
  have hlen : (s.flashRead a bs.length).length = bs.length := by simp [State.flashRead, Sparse.range]
  have hold : (s.flashRead a bs.length)[j]'(by omega) = Sparse.get 0xFF s.flash (a + j) := by
    simp only [State.flashRead, Sparse.range, List.getElem_map, List.getElem_range, Sparse.get]
    rw [find_filter (fun k => decide (a ≤ k ∧ k < a + bs.length)), if_pos (by simpa using hj)]
  have hin : a ≤ a + j ∧ a + j < a + (List.zipWith (fun x y => x &&& y) (s.flashRead a bs.length) bs).length := by
    rw [List.length_zipWith, hlen, Nat.min_self]
    omega
  show Sparse.get 0xFF (Sparse.splice 0xFF s.flash a _) (a + j) = _
  rw [get_splice, if_pos hin, Nat.add_sub_cancel_left, List.getD_eq_getElem _ _ (by omega), List.getElem_zipWith, hold,
    List.getD_eq_getElem _ _ hj]

/-- Settles O7: a write to HBM is a splice, an erase a clear, and the flash ANDs inside the run it programs. -/
theorem byteMemories : Obligations.ByteMemories := by
  refine ⟨fun s a bs i => get_splice 0 s.hbm a i bs, fun s a bs i => ?_, get_flashErase⟩
  split
  · next h => exact get_flashProgram_in s a i bs h
  · next h => exact get_flashProgram_out s a i bs (by omega)

/-! ## Operands that a wire can carry -/

namespace Goes

theorem done (t : State) : Goes t.done := ⟨t.latch, rfl⟩

theorem still (s : State) : Goes (.next s) := ⟨s, rfl⟩

theorem branch {p : Prop} [Decidable p] {a b : Outcome} (ha : Goes a) (hb : Goes b) : Goes (if p then a else b) := by
  split
  · exact ha
  · exact hb

/-- A command whose conditions do not hold goes on all the same. -/
theorem guarded {p : Prop} [Decidable p] : Goes (if p then t.done else .next s) := branch (done t) (still s)

/-- A command goes on once its operands have passed the check of their lengths. -/
theorem checked {p : Prop} [Decidable p] {r : Fault} {o : Outcome} (hp : ¬p) (ho : Goes o) : Goes (if p then .fault r else o) := by
  rwa [if_neg hp]

end Goes

open Goes

theorem nightWake_goes (src : WakeSrc) (us : Nat) (motion : Int) (fails : Bool) (s : State) :
    Goes (execNightWake src us motion fails s) := by
  unfold execNightWake
  split
  · exact guarded
  · exact branch (still s) (branch (done _) (done _))
  · exact still s

theorem backstopTrip_goes (sensor : Fin 16) (reading : Int) (spiBits : Fin 8) (s : State) :
    Goes (execBackstopTrip sensor reading spiBits s) := by
  unfold execBackstopTrip
  split
  · exact still s
  · exact still s
  · exact still s
  · exact guarded

theorem gateWindowEnd_goes (g : Fin 4) (v : GateSamples) (s : State) (hpre : v.pre.length = 32)
    (hwin : v.win.length = s.rd (R.GATE_TIMING_WIDTH g)) : Goes (execGateWindowEnd g v s) := by
  refine checked (by simp [hpre, hwin]) ?_
  split
  · exact still s
  · exact done _

theorem untriedSlotCheck_goes (s : State) : Goes (execUntriedSlotCheck s) := by
  unfold execUntriedSlotCheck
  split
  · exact still s
  · exact branch (still s) (done _)

theorem linesyncOut_goes (s : State) : Goes (execLinesyncOut s) := by
  unfold execLinesyncOut
  split
  · exact still s
  · exact branch (still s) (done _)

theorem indexMissing_goes (enc : Fin 2) (s : State) : Goes (execIndexMissing enc s) := by
  unfold execIndexMissing
  split
  · exact still s
  · exact done _

theorem formPoint_goes (bar : Fin 16) (evs : List MemEv) (checks : BitVec 2) (s : State) : Goes (execFormPoint bar evs checks s) := by
  unfold execFormPoint
  split
  · exact still s
  · exact done _

theorem markerDepart_goes (lane bar : Fin 16) (count : Nat) (ord : Fin 32) (lag : Bool) (s : State) : Goes (execMarkerDepart lane bar count ord lag s) := by
  unfold execMarkerDepart
  split
  · exact still s
  · exact done _

theorem lineBlanked_goes (bar : Fin 16) (count : Nat) (lane : Fin 16) (s : State) : Goes (execLineBlanked bar count lane s) := by
  unfold execLineBlanked
  split
  · exact still s
  · exact guarded

theorem renderStart_goes (piece : Word) (evs : List MemEv) (s : State) : Goes (execRenderStart piece evs s) := by
  unfold execRenderStart
  split
  · exact still s
  · exact guarded

theorem ceAge_goes (cls : Fin 3) (entry : Fin 16) (s : State) : Goes (execCeAge cls entry s) := by
  unfold execCeAge
  split
  · exact still s
  · exact guarded

theorem replay_goes (lane : Fin 16) (ra rb : Word) (s : State) : Goes (execReplay lane ra rb s) := by
  unfold execReplay
  split
  · exact still s
  · exact branch (still s) (branch (done _) (done _))

theorem retrainPause_goes (formingDone : Bool) (ticksToForm : Nat) (s : State) : Goes (execRetrainPause formingDone ticksToForm s) := by
  unfold execRetrainPause
  split
  · exact still s
  · exact branch (still s) (branch (done _) (done _))

theorem lateMarker_goes (lane bar : Fin 16) (count : Nat) (ord : Fin 32) (late : Nat) (s : State) :
    Goes (execLateMarker lane bar count ord late s) := by
  unfold execLateMarker
  split
  · exact branch (still s) (done _)
  · exact still s

/-- A well-formed command that is no message goes on: its conditions hold and it latches, or they do not and nothing changes. -/
theorem exec_goes_of_no_message {c : Instr} (hc : messageOf c = none) (s : State) (hw : c.wellFormed = true)
    (hg : ∀ g v, c = .gateWindowEnd g v → v.win.length = s.rd (R.GATE_TIMING_WIDTH g)) : Goes (exec c s) := by
  cases c <;> cases hc
  case nightWake => exact nightWake_goes ..
  case backstopTrip => exact backstopTrip_goes ..
  case gateWindowEnd g v => exact gateWindowEnd_goes g v s (by simpa [Instr.wellFormed] using hw) (hg g v rfl)
  case untriedSlotCheck => exact untriedSlotCheck_goes ..
  case linesyncOut => exact linesyncOut_goes ..
  case indexMissing => exact indexMissing_goes ..
  case formPoint => exact formPoint_goes ..
  case markerDepart => exact markerDepart_goes ..
  case lineBlanked => exact lineBlanked_goes ..
  case renderStart => exact renderStart_goes ..
  case ceAge => exact ceAge_goes ..
  case replay => exact replay_goes ..
  case retrainPause => exact retrainPause_goes ..
  case lateMarker => exact lateMarker_goes ..
  case coreShutdown | sync | delayResp | pdelayReq | pdelayResp | delayReq | announce => exact done _
  case vauxLost | linesyncIn | reject | dipEnd | vioReturn | scrubRead | trimStep => exact branch (still s) (done _)
  case vioLost | icmpEcho | laneCrcCompare | slice | refresh | actLimit | supplyStop | park | recoveryCycle =>
    exact branch (still s) (branch (done _) (done _))
  case encoderEdge => exact branch (done _) (branch (still s) (done _))
  case trainingSetRx => exact branch (still s) (branch (done _) (branch (done _) guarded))
  case statusRx | thermalSample => exact checked (by simpa [Instr.wellFormed] using hw) (branch (still s) (done _))
  case echoBurst => exact checked (by simpa [Instr.wellFormed] using hw) (branch (still s) (branch (done _) (done _)))
  case gateTrim => exact checked (by simpa [Instr.wellFormed] using hw) guarded
  case idcode | samplePreload | clamp | highz | tstatus | bypass => exact branch (still _) (still s)
  case extest | scan | memacc => exact branch (still s) (branch (still _) (still _))
  all_goals exact guarded

/-- A command whose operands no wire can carry faults, in every state. -/
theorem exec_illFormed {c : Instr} (hw : c.wellFormed = false) (s : State) : exec c s = .fault .illFormed := by
  cases c
  case thermalSample | statusRx | echoBurst | gateTrim => exact if_pos (by simpa [Instr.wellFormed] using hw)
  case gateWindowEnd => exact if_pos (.inl (by simpa [Instr.wellFormed] using hw))
  all_goals cases hw

/-- Settles O3: a message is answered and latches, any other command goes on as its arm says, and the five checks of lengths fault. -/
theorem wellFormedCommandsGoOn : Obligations.WellFormedCommandsGoOn := by
  refine ⟨fun c s hw hg => ?_, fun c s hw => exec_illFormed hw s⟩
  cases hc : messageOf c with
  | some w =>
    obtain ⟨t, ht, -⟩ := exec_messageOf hc s
    rw [ht]
    exact done t
  | none => exact exec_goes_of_no_message hc s hw hg

/-! ## Commands that meet the hypotheses -/

/-- 32 samples before the window, and as many in it as WINDOW asks for after Dawn. -/
theorem wellFormedCommandsGoOn_witness :
    Goes (exec (.gateWindowEnd 0 ⟨List.replicate 32 0, List.replicate (State.reset.rd (R.GATE_TIMING_WIDTH 0)) 0⟩) State.reset) :=
  wellFormedCommandsGoOn.1 _ _ (by decide) fun g v h => by
    cases h
    rw [List.length_replicate]
    rfl

/-- One sample too few before the window. -/
theorem wellFormedCommandsGoOn_fault_witness :
    exec (.gateWindowEnd 0 ⟨List.replicate 31 0, []⟩) State.reset = .fault .illFormed :=
  wellFormedCommandsGoOn.2 _ _ (by decide)

end Sys2Proof.Machine
end

section
/-! PROOFS. The tick of a step on an empty queue (R197, R373, R396, R398, R448). -/

namespace Sys2Proof.Machine

variable {s t : State} {E : State → State} {W : Nat → Bool}

/-! ## The sequencers' registers (R387, R398) -/

/-- A set of words that holds those of the sequencers' states and what events write. -/
structure SeqWords (W : Nat → Bool) : Prop where
  plumb : ∀ a, plumbWord a = true → W a = true
  state : W R.SEQ_STATE = true
  status : ∀ n, W (R.SQ_STATUS n) = true
  handbacks : W R.SEQ_HANDBACKS = true

theorem setSq_keeps (hstate : W R.SEQ_STATE = true) (s : State) (n st : Nat) : Keeps E W s (s.setSq n st) :=
  (Keeps.ite ((Keeps.refl s).wr _ _ hstate) ((Keeps.refl s).wr _ _ hstate)).wr _ _ hstate

section
variable (hW : SeqWords W)
include hW

theorem takeControl_keeps (s : State) (n : Nat) : Keeps E W s (s.takeControl n) :=
  (((setSq_keeps hW.state s n sqActive).wr _ _ hW.state).wr _ _ (hW.status n)).wr _ _ (hW.status n)

theorem handbackDone_keeps (s : State) : Keeps E W s s.handbackDone := by
  have hstandby := ((setSq_keeps (E := E) hW.state s (twinOf (s.rd R.SEQ_CFG_PREF)) sqStandby).wr
    (R.SQ_STATUS_DONE (twinOf (s.rd R.SEQ_CFG_PREF))) 1 (hW.status _)).wr (R.SQ_STATUS_ABORTED (twinOf (s.rd R.SEQ_CFG_PREF))) 0
    (hW.status _)
  exact (((((hstandby.trans (takeControl_keeps hW _ (s.rd R.SEQ_CFG_PREF))).wr _ _ hW.state).wr _ _ hW.state).wr _ _ hW.handbacks).lifeAdd
    _ _ _).raise hW.plumb _ _ _

theorem takeBars_keeps (s : State) (mask : Nat) : Keeps E W s (s.takeBars mask) := by
  have hbars := (Keeps.refl (E := E) s).wr R.SEQ_STATE_BARS (s.rd R.SEQ_STATE_BARS ||| mask) hW.state
  exact .ite (.ite (hbars.trans (handbackDone_keeps hW _)) hbars) (.refl s)

theorem takeIdle_keeps (s : State) : Keeps E W s s.takeIdle := .ite (takeBars_keeps hW s _) (.refl s)

end

/-! ## What a tick may change -/

/-- The state less what a tick changes beside what is noticed, but for the time itself. -/
def sansTick (u : State) : State :=
  { u with pow := { u.pow with lastBusy := 0 }, tbs := [], cams := [], seqs := [], lifeRem := [] }

/-- What one tick keeps; registers count and show. -/
abbrev TickKeeps := Keeps sansTick (fun _ => true)

theorem eq_of_sansTick (h : sansTick t.unnoticed = sansTick s.unnoticed) :
    t = { s.noticed t with
      pow := { s.pow with lastBusy := t.pow.lastBusy }, tbs := t.tbs, cams := t.cams, seqs := t.seqs, lifeRem := t.lifeRem } :=
  calc
    t = { (sansTick t.unnoticed).noticed t with
      pow := { (sansTick t.unnoticed).pow with lastBusy := t.pow.lastBusy }, tbs := t.tbs, cams := t.cams, seqs := t.seqs
      lifeRem := t.lifeRem
      nvm := { (sansTick t.unnoticed).nvm with due := t.nvm.due, lastHostFault := t.nvm.lastHostFault } } := rfl
    _ = _ := by rw [h]; rfl

theorem anyWord_seqWords : SeqWords (fun _ => true) := ⟨fun _ _ => rfl, rfl, fun _ => rfl, rfl⟩

theorem tickSecond_keeps (s : State) (off : Nat) : TickKeeps s (s.tickSecond off) := by
  have hrem (l : Sparse Nat) : TickKeeps s { s with lifeRem := l } := (Keeps.refl s).update rfl rfl
  exact .ite ((hrem _).lifeAdd _ _ _) (hrem _)

theorem tickIsland_keeps (s : State) : TickKeeps s s.tickIsland :=
  .ite ((tickSecond_keeps s 0x018).lifeAdd _ _ _) (tickSecond_keeps s 0x018)

theorem tickTb_keeps (s : State) (k : Nat) : TickKeeps s (s.tickTb k) := by
  unfold State.tickTb
  extract_lets code s1 s2
  have h1 : TickKeeps s s1 := (Keeps.refl s).update rfl rfl
  clear_value s1
  have h2 : TickKeeps s s2 := .ite (h1.wr _ _ rfl) h1
  exact .ite h2 (h2.trans (tbFlags_keeps (fun _ _ => rfl) (fun _ _ => rfl) _ _))

theorem tickTbs_keeps (s : State) : TickKeeps s ((List.range 4).foldl (fun (t : State) k => t.tickTb k) s) :=
  Keeps.foldl (fun t k _ => tickTb_keeps t k) s

theorem tickSeconds_keeps (s : State) : TickKeeps s s.tickSeconds := by
  unfold State.tickSeconds
  extract_lets s2 s3 s4
  have h2 : TickKeeps s s2 := by
    show TickKeeps s (match s.pow.phase with
      | .day | .nightEntry => s.tickSecond 0x01C
      | .dusk => s.tickSecond 0x020
      | _ => s)
    split
    · exact tickSecond_keeps s _
    · exact tickSecond_keeps s _
    · exact tickSecond_keeps s _
    · exact .refl s
  have h3 : TickKeeps s s3 := .ite h2 (h2.trans (tickSecond_keeps _ _))
  have h4 : TickKeeps s s4 := .ite (h3.wr _ _ rfl) h3
  exact .ite (h4.trans (tickSecond_keeps _ _)) h4

theorem tickSq_keeps (s : State) (n : Nat) : TickKeeps s (s.tickSq n) := by
  unfold State.tickSq
  split
  · extract_lets u
    have hu : TickKeeps s u :=
      ((Keeps.refl s).update (u := s.onSq n (fun (q : Seq) => { q with active := q.active + 1 })) rfl rfl).trans (tickSecond_keeps _ _)
    exact .ite (hu.wr _ _ rfl) hu
  · exact .refl s

theorem onCam_tick (s : State) (n : Nat) (f : Cam → Cam) : TickKeeps s (s.onCam n f) := (Keeps.refl s).update rfl rfl

theorem camTrigger_tick (s : State) (src : Nat) : TickKeeps s (s.camTrigger src) :=
  Keeps.foldl (fun t _ _ => .ite (onCam_tick t _ _) (.refl t)) s

theorem dueTriggers_keeps (s : State) : TickKeeps s s.dueTriggers :=
  Keeps.foldl (fun t _ _ => .ite (camTrigger_tick t _) (.refl t)) s

theorem tickCore_keeps (s : State) : TickKeeps s s.tickCore := by
  unfold State.tickCore
  extract_lets s1 s7
  have h7 : TickKeeps s s7 :=
    (((((tickTbs_keeps s).trans (tickSeconds_keeps _)).trans (tickSq_keeps _ 0)).trans (tickSq_keeps _ 1)).trans
      (takeIdle_keeps anyWord_seqWords _)).trans (dueTriggers_keeps _)
  clear_value s7
  split
  · exact .ite h7 (h7.update rfl rfl)
  · exact h7

/-- Whatever runs in a tick, it comes after the tick itself. -/
theorem tickRun_keeps (s : State) : TickKeeps { s with time := s.time + 1 } s.tickRun := by
  unfold State.tickRun
  extract_lets t
  split
  · exact .refl t
  · exact (tickIsland_keeps t).trans (tickSecond_keeps _ _)
  · exact (tickIsland_keeps t).trans (tickCore_keeps _)
  · exact (tickIsland_keeps t).trans (tickCore_keeps _)
  · exact (tickIsland_keeps t).trans (tickCore_keeps _)
  · exact (tickIsland_keeps t).trans (tickTbs_keeps _)
  · exact tickIsland_keeps t

/-- Settles O2: a step on an empty queue is a tick, and all that a tick runs keeps what `sansTick` leaves. -/
theorem emptyQueueTicks : Obligations.EmptyQueueTicks := by
  intro s hq
  have hkeeps : sansTick s.tick.unnoticed = sansTick ({ s with time := s.time + 1 } : State).unnoticed := by
    rw [State.tick, latch_unnoticed]
    exact (tickRun_keeps s).1
  have hframe := eq_of_sansTick hkeeps
  refine ⟨s.tick, by rw [step, hq], (congrArg State.time hkeeps :), ?_, ?_⟩
  · exact sameMemory_of_eq (congrArg State.hbm hkeeps :) (congrArg State.flash hkeeps :)
  · have htime : s.tick.time = s.time + 1 := (congrArg State.time hkeeps :)
    rw [htime]
    exact hframe

/-- A queue that is empty: the tick of a module in Day. -/
theorem emptyQueueTicks_witness : ∃ t, step dayState = .next t ∧ t.time = 1 := by
  obtain ⟨t, hrun, htime, -⟩ := emptyQueueTicks dayState rfl
  exact ⟨t, hrun, htime⟩

end Sys2Proof.Machine
end

section
/-! PROOFS. The hardware trip and the backstop trip (R431 to R433). -/

namespace Sys2Proof.Machine

variable {s t : State}

/-- The power state of a tripped module: the core has stopped, and the island's trip register shows what tripped it. -/
def State.trippedPow (s : State) (kind sensor : Nat) (reading : Int) : Power :=
  { s.stoppedPow .tripped (if kind = 2 then 5 else 4) with
    cause := if kind = 2 then 5 else 4, tripKind := kind, tripSensor := sensor, tripTemp := reading, tripNew := true
    trips := if kind = 1 then min 255 (s.pow.trips + 1) else s.pow.trips
    backstops := if kind = 2 then min 255 (s.pow.backstops + 1) else s.pow.backstops }

theorem trip_latch_pow (s : State) (kind sensor : Nat) (reading : Int) (spiIdle : Bool) :
    (s.trip kind sensor reading spiIdle).latch.pow = s.trippedPow kind sensor reading := by
  obtain ⟨-, hpow, -⟩ := same_of_sansFlash (coreStop_sansFlash s .tripped (if kind = 2 then 5 else 4) spiIdle)
  simp only [latch_frame]
  unfold State.trip State.onPow
  simp only [hpow]
  rfl

theorem trip_sansFlash (s : State) (kind sensor : Nat) (reading : Int) (spiIdle : Bool) :
    (s.trip kind sensor reading spiIdle).latch.sansFlash = ({ s with pow := s.trippedPow kind sensor reading } : State).sansFlash := by
  have hstop := coreStop_sansFlash s .tripped (if kind = 2 then 5 else 4) spiIdle
  have hpow := trip_latch_pow s kind sensor reading spiIdle
  rw [latch_sansFlash]
  calc
    (s.trip kind sensor reading spiIdle).sansFlash =
        { (s.coreStop .tripped (if kind = 2 then 5 else 4) spiIdle).sansFlash with
          pow := (s.trip kind sensor reading spiIdle).latch.pow } := by simp only [latch_frame]; rfl
    _ = _ := by rw [hstop, hpow]; rfl

/-- A trip leaves the power state of `trippedPow`, and changes nothing else but the flash, its engine and what the end of a commit
raises. -/
theorem trip_latch_eq (s : State) (kind sensor : Nat) (reading : Int) (spiIdle : Bool) :
    (s.trip kind sensor reading spiIdle).latch =
      { s.noticed (s.trip kind sensor reading spiIdle).latch with
        flash := (s.trip kind sensor reading spiIdle).latch.flash
        pow := (s.trip kind sensor reading spiIdle).latch.pow
        nvm := (s.trip kind sensor reading spiIdle).latch.nvm } := by
  have hframe := eq_noticed_of_sansFlash (trip_sansFlash s kind sensor reading spiIdle)
  rw [trip_latch_pow]
  exact hframe

theorem exec_backstopTrip {k : Fin 16} {x : Int} {b : Fin 8} (hs : s.powered = true ∨ s.pow.phase = .night ∨ s.pow.phase = .off)
    (hx : 2000 ≤ x) : exec (.backstopTrip k x b) s = .next (s.trip 2 k x (b == 0)).latch := by
  show execBackstopTrip k x b s = _
  unfold execBackstopTrip
  rw [powered_iff] at hs
  rcases hs with (hp | hp | hp | hp) | hp | hp <;> rw [hp] <;> exact if_pos hx

theorem exec_backstopTrip_cool {k : Fin 16} {x : Int} {b : Fin 8} (hx : x < 2000) : exec (.backstopTrip k x b) s = .next s := by
  show execBackstopTrip k x b s = _
  unfold execBackstopTrip
  split
  · rfl
  · rfl
  · rfl
  · exact if_neg (by omega)

/-- Settles O11: both trips are the one operation `trip`, with the island's sensor and reading or with the backstop's. -/
theorem trips : Obligations.Trips := by
  refine ⟨fun s b hdue => ?_, fun s k x b hs hx => ?_, fun s k x b hx => exec_backstopTrip_cool hx⟩
  · refine ⟨(s.trip 1 s.therm.islSensor s.therm.isl (b == 0)).latch, if_pos hdue, ?_⟩
    have hframe := trip_latch_eq s 1 s.therm.islSensor s.therm.isl (b == 0)
    rw [trip_latch_pow] at hframe ⊢
    exact ⟨rfl, rfl, rfl, rfl, rfl, rfl, rfl, rfl, hframe⟩
  · refine ⟨(s.trip 2 k x (b == 0)).latch, exec_backstopTrip hs hx, ?_⟩
    have hframe := trip_latch_eq s 2 k x (b == 0)
    rw [trip_latch_pow] at hframe ⊢
    exact ⟨rfl, rfl, rfl, rfl, rfl, rfl, rfl, rfl, hframe⟩

/-! ## States that meet the hypotheses -/

/-- A module waiting for its first Dawn, 110 °C on the island for 100 ms, and 255 trips counted. -/
def hotOffState : State :=
  { State.reset with
    time := usTicks 100000, therm := { isl := 1760, islSensor := 3, tripSince := some 0 }, pow := { trips := 255 } }

/-- The count of trips stays at 255. -/
theorem trips_hardware_witness : ∃ t, exec (.hardwareTrip 0) hotOffState = .next t ∧ t.pow.tripSensor = 3 ∧ t.pow.trips = 255 := by
  obtain ⟨t, hrun, -, -, -, hsensor, -, -, htrips, -⟩ := trips.1 hotOffState 0 (by decide)
  exact ⟨t, hrun, hsensor, htrips⟩

/-- Exactly 125 °C trips the backstop. -/
theorem trips_backstop_witness : ∃ t, exec (.backstopTrip 8 2000 1) dayState = .next t ∧ t.pow.cause = 5 := by
  obtain ⟨t, hrun, -, hcause, -⟩ := trips.2.1 dayState 8 2000 1 (.inl rfl) (by decide)
  exact ⟨t, hrun, hcause⟩

theorem trips_cool_witness : exec (.backstopTrip 8 1999 1) dayState = .next dayState := trips.2.2 dayState 8 1999 1 (by decide)

end Sys2Proof.Machine
end

section
/-! PROOFS. The 1 ms sample of temperatures and supplies (R424 to R427). -/

namespace Sys2Proof.Machine

variable {s t : State} {E : State → State} {W : Nat → Bool}

/-! ## Fields read behind writes and events -/

/-- What events write, and nothing else. -/
theorem plumb_self : ∀ a, plumbWord a = true → plumbWord a = true := fun _ h => h

theorem Keeps.oneOn (hW : ∀ a, plumbWord a = true → W a = true) (h : Keeps E W s t) (e : Event) (source arg : Nat) :
    Keeps E W s (t.oneOn e source arg) :=
  .ite h (h.condOn hW _ _ _)

theorem oneOn_rd (s : State) (e : Event) (source arg : Nat) (f : Field) (h : plumbWord f.addr = false) :
    (s.oneOn e source arg).rd f = s.rd f :=
  ((Keeps.refl (E := id) s).oneOn plumb_self e source arg).rd f h

theorem oneOff_rd (s : State) (e : Event) (arg : Nat) (f : Field) (h : plumbWord f.addr = false) : (s.oneOff e arg).rd f = s.rd f :=
  ((Keeps.refl (E := id) s).oneOff plumb_self e arg).rd f h

theorem onTherm_rd (s : State) (f : Therm → Therm) (g : Field) : (s.onTherm f).rd g = s.rd g := rfl

theorem speedDemand_shows (hsd : W R.SD_NOW = true) (s : State) : Keeps E W s s.speedDemand :=
  ((Keeps.refl s).wr R.SD_NOW_DEMAND _ hsd).wr R.SD_NOW_LIMIT _ hsd

theorem tempDefer_shows (hp : ∀ a, plumbWord a = true → W a = true) (herr : W R.NVM_ERR = true) (s : State) :
    Keeps E W s s.tempDefer :=
  (Keeps.ite ((Keeps.refl s).wr R.NVM_ERR_TEMP_DEFER 1 herr) (.refl s)).cond hp _ _ _ _

/-! ## The readings of the island (R424, R425) -/

/-- The registers of the 16 sensors. -/
def sensorWord (a : Nat) : Bool := ((List.range 16).map R.TS).contains a

theorem hottest_sensor_le (i : Nat) (ts : List Int) : (hottest i ts).2 ≤ i + ts.length := by
  induction ts generalizing i with
  | nil => exact Nat.le_refl i
  | cons x ts ih =>
    have := ih (i + 1)
    simp only [hottest, List.length_cons]
    split
    · omega
    · exact Nat.le_add_right _ _

/-- Each reading stands in the register of its place; the words of no reading stay. -/
theorem readings_word (ts : List Int) (i : Nat) (s : State) :
    (∀ k, i ≤ k → k < i + ts.length →
      ((ts.zipIdx i).foldl (fun (t : State) e => t.wrI (R.TS_TEMP e.2) e.1) s).rd (R.TS_TEMP k) = unsigned 16 (ts.getD (k - i) 0)) ∧
    (∀ a, (∀ k, i ≤ k → k < i + ts.length → a ≠ R.TS k) →
      ((ts.zipIdx i).foldl (fun (t : State) e => t.wrI (R.TS_TEMP e.2) e.1) s).word a = s.word a) := by
  induction ts generalizing i s with
  | nil => exact ⟨fun k h h' => absurd h' (by simpa using h), fun a _ => rfl⟩
  | cons x ts ih =>
    obtain ⟨hin, hout⟩ := ih (i + 1) (s.wrI (R.TS_TEMP i) x)
    simp only [List.length_cons, List.zipIdx_cons, List.foldl_cons] at hin hout ⊢
    refine ⟨fun k hlo hhi => ?_, fun a ha => ?_⟩
    · rcases Nat.eq_or_lt_of_le hlo with rfl | hlt
      · rw [State.rd, hout _ (fun k hk _ => by simp only [R.TS]; omega), ← State.rd, State.wrI, rd_wr_same _ _ _ rfl]
        simp only [Nat.sub_self, List.getD_cons_zero, unsigned]
        omega
      · rw [hin k (by omega) (by omega), show k - i = k - (i + 1) + 1 by omega, List.getD_cons_succ]
    · rw [hout a (fun k hk hk' => ha k (by omega) (by omega))]
      exact word_wr_ne _ _ _ _ (ha i (Nat.le_refl i) (by omega))

/-! ## The heat half (R425 to R430) -/

/-- The state less what the heat half of a sample settles. -/
def sansHeat (u : State) : State := { u with therm := { u.therm with hot := 0, hotSensor := 0, theta := 0, hotSince := none } }

/-- The words it writes: the HBM sensor, T_hot, the state of the heat, and what THROTTLE raises. -/
def heatWord (a : Nat) : Bool := a == R.THERM_HBM || a == R.THERM_HOT || a == R.THERM_STATE || plumbWord a

theorem heatWord_plumb (a : Nat) (h : plumbWord a = true) : heatWord a = true := by simp [heatWord, h]

/-- T_hot and what follows from it at once. -/
def State.heatShown (s : State) (h : Int × Nat) (hbm : Int) (th : Nat) : State :=
  ((((s.wrI R.THERM_HBM_TEMP hbm).wrI R.THERM_HOT_TEMP h.1).wr R.THERM_HOT_SENSOR h.2).wr R.THERM_HOT_THETA th).onTherm
    (fun t => { t with hot := h.1, hotSensor := h.2, theta := th, hotSince := since (decide (1760 ≤ h.1)) s.time t.hotSince })

/-- THROTTLE with its event (R428). -/
def State.throttleJudged (s : State) (h : Int × Nat) (th : Nat) : State :=
  if 1520 < h.1 then (s.wr R.THERM_STATE_THROTTLE 1).oneOn Ev.THROTTLE h.2 th
  else if h.1 < 1472 then (s.wr R.THERM_STATE_THROTTLE 0).oneOff Ev.THROTTLE th else s

/-- The end of the orderly stop's cause (R430). -/
def State.stopCauseJudged (s : State) (hot : Int) : State :=
  if hot < 1360 then (s.wr R.THERM_STATE_STOP_DIE 0).wr R.THERM_STATE_BG_HELD 0 else s

/-- θ of a T_hot, in thousandths (R427). -/
def throttleShare (hot : Int) : Nat := (clampI 0 1000 (divOpen 89 ((hot - 1520) * 1000) 160)).toNat

theorem heatSample_eq (s : State) (ts : List Int) (hbm : Int) (h : Int × Nat)
    (hh : h = hottest 0 (if s.pow.phase = .maint then ts else ts ++ [hbm])) :
    s.heatSample ts hbm = (((s.heatShown h hbm (throttleShare h.1)).throttleJudged h (throttleShare h.1)).stopCauseJudged h.1).wrB
      R.THERM_STATE_TRIP_ARMED (!s.inService) := by
  subst hh
  rfl

theorem onTherm_heat (s : State) (h : Int) (n th : Nat) (since : Option Nat → Option Nat) : Keeps sansHeat W s (s.onTherm
    (fun t => { t with hot := h, hotSensor := n, theta := th, hotSince := since t.hotSince })) :=
  ⟨rfl, fun _ _ => rfl⟩

theorem heatShown_keeps (hhbm : W R.THERM_HBM = true) (hhot : W R.THERM_HOT = true) (s : State) (h : Int × Nat) (hbm : Int) (th : Nat) :
    Keeps sansHeat W s (s.heatShown h hbm th) := by
  have hwr := ((((Keeps.refl (E := sansHeat) (W := W) s).wr R.THERM_HBM_TEMP (unsigned 16 hbm) hhbm).wr R.THERM_HOT_TEMP
    (unsigned 16 h.1) hhot).wr R.THERM_HOT_SENSOR h.2 hhot).wr R.THERM_HOT_THETA th hhot
  exact hwr.trans (onTherm_heat _ h.1 h.2 th (since (decide (1760 ≤ h.1)) s.time))

/-- What is judged from T_hot writes THERM_STATE only, and raises. -/
def stateWord (a : Nat) : Bool := a == R.THERM_STATE || plumbWord a

theorem stateWord_plumb (a : Nat) (h : plumbWord a = true) : stateWord a = true := by simp [stateWord, h]

theorem throttleJudged_keeps (s : State) (h : Int × Nat) (th : Nat) : Keeps E stateWord s (s.throttleJudged h th) :=
  .ite (((Keeps.refl s).wr _ _ rfl).oneOn stateWord_plumb _ _ _)
    (.ite (((Keeps.refl s).wr _ _ rfl).oneOff stateWord_plumb _ _) (.refl s))

theorem stopCauseJudged_keeps (s : State) (hot : Int) : Keeps E stateWord s (s.stopCauseJudged hot) :=
  .ite (((Keeps.refl s).wr _ _ rfl).wr _ _ rfl) (.refl s)

/-- After T_hot is shown, nothing but THERM_STATE and what THROTTLE raises changes. -/
theorem heatSample_judged (s : State) (ts : List Int) (hbm : Int) (h : Int × Nat)
    (hh : h = hottest 0 (if s.pow.phase = .maint then ts else ts ++ [hbm])) :
    Keeps E stateWord (s.heatShown h hbm (throttleShare h.1)) (s.heatSample ts hbm) := by
  rw [heatSample_eq s ts hbm h hh]
  exact ((throttleJudged_keeps _ _ _).trans (stopCauseJudged_keeps _ _)).wr _ _ rfl

theorem heatSample_keeps (s : State) (ts : List Int) (hbm : Int) : Keeps sansHeat heatWord s (s.heatSample ts hbm) := by
  have hstate : ∀ a, heatWord a = false → stateWord a = false := by simp +contextual [heatWord, stateWord]
  exact (heatShown_keeps rfl rfl s _ hbm _).trans ((heatSample_judged s ts hbm _ rfl).mono (fun _ => rfl) hstate)

theorem throttleJudged_rd (s : State) (h : Int × Nat) (th : Nat) :
    (s.throttleJudged h th).rd R.THERM_STATE_THROTTLE =
      (if 1520 < h.1 then 1 else if h.1 < 1472 then 0 else s.rd R.THERM_STATE_THROTTLE) ∧
    (s.throttleJudged h th).rd R.THERM_STATE_STOP_DIE = s.rd R.THERM_STATE_STOP_DIE := by
  unfold State.throttleJudged
  split
  · rw [oneOn_rd _ _ _ _ _ rfl, oneOn_rd _ _ _ _ _ rfl, rd_wr_same _ _ _ rfl, rd_wr_apart _ _ _ _ rfl rfl]
    exact ⟨rfl, rfl⟩
  · split
    · rw [oneOff_rd _ _ _ _ rfl, oneOff_rd _ _ _ _ rfl, rd_wr_same _ _ _ rfl, rd_wr_apart _ _ _ _ rfl rfl]
      exact ⟨rfl, rfl⟩
    · exact ⟨rfl, rfl⟩

theorem stopCauseJudged_rd (s : State) (hot : Int) :
    (s.stopCauseJudged hot).rd R.THERM_STATE_THROTTLE = s.rd R.THERM_STATE_THROTTLE ∧
    (s.stopCauseJudged hot).rd R.THERM_STATE_STOP_DIE = if hot < 1360 then 0 else s.rd R.THERM_STATE_STOP_DIE := by
  unfold State.stopCauseJudged
  split
  · rw [rd_wr_apart _ _ _ _ rfl rfl, rd_wr_apart _ _ _ _ rfl rfl, rd_wr_apart _ _ _ _ rfl rfl, rd_wr_same _ _ _ rfl]
    exact ⟨rfl, rfl⟩
  · exact ⟨rfl, rfl⟩

/-- What the heat half shows in a module that counts the HBM sensor. -/
theorem heatSample_shows (s : State) (ts : List Int) (hbm : Int) (h : Int × Nat) (hlen : ts.length = 16) (hp : s.pow.phase ≠ .maint)
    (hh : h = hottest 0 (ts ++ [hbm])) :
    (s.heatSample ts hbm).therm.hot = h.1 ∧ (s.heatSample ts hbm).rd R.THERM_HOT_TEMP = unsigned 16 h.1 ∧
    (s.heatSample ts hbm).rd R.THERM_HOT_SENSOR = h.2 ∧
    (s.heatSample ts hbm).rd R.THERM_STATE_THROTTLE =
      (if 1520 < h.1 then 1 else if h.1 < 1472 then 0 else s.rd R.THERM_STATE_THROTTLE) ∧
    (s.heatSample ts hbm).rd R.THERM_STATE_STOP_DIE = if h.1 < 1360 then 0 else s.rd R.THERM_STATE_STOP_DIE := by
  have hall : h = hottest 0 (if s.pow.phase = .maint then ts else ts ++ [hbm]) := by rw [if_neg hp, hh]
  have hjudged := heatSample_judged (E := id) s ts hbm h hall
  have hsensor : h.2 % 2 ^ 5 = h.2 := by
    have := hottest_sensor_le 0 (ts ++ [hbm])
    rw [hh]
    simp only [List.length_append, hlen, List.length_singleton] at this
    omega
  obtain ⟨hthrottle, hdie⟩ := throttleJudged_rd (s.heatShown h hbm (throttleShare h.1)) h (throttleShare h.1)
  obtain ⟨hthrottle', hdie'⟩ := stopCauseJudged_rd ((s.heatShown h hbm (throttleShare h.1)).throttleJudged h (throttleShare h.1)) h.1
  have hstate (f : Field) (hf : f.addr = R.THERM_STATE) : (s.heatShown h hbm (throttleShare h.1)).rd f = s.rd f :=
    (heatShown_keeps (W := fun a => a == R.THERM_HBM || a == R.THERM_HOT) rfl rfl s h hbm _).rd f (by rw [hf]; rfl)
  refine ⟨(congrArg (fun u => u.therm.hot) hjudged.1 :), ?_, ?_, ?_, ?_⟩
  · rw [hjudged.rd _ rfl, State.heatShown, onTherm_rd, rd_wr_apart _ _ _ _ rfl rfl, rd_wr_apart _ _ _ _ rfl rfl, State.wrI,
      rd_wr_same _ _ _ rfl]
    simp only [unsigned]
    omega
  · rw [hjudged.rd _ rfl, State.heatShown, onTherm_rd, rd_wr_apart _ _ _ _ rfl rfl, rd_wr_same _ _ _ rfl, hsensor]
  · rw [heatSample_eq s ts hbm h hall, State.wrB, rd_wr_apart _ _ _ _ rfl rfl, hthrottle', hthrottle, hstate _ rfl]
  · rw [heatSample_eq s ts hbm h hall, State.wrB, rd_wr_apart _ _ _ _ rfl rfl, hdie', hdie, hstate _ rfl]

/-! ## The supply half (R58, R448) -/

/-- The state less what the supply half of a sample notes. -/
def sansSupply (u : State) : State := { u with therm := { u.therm with vSeen := false }, lifeRem := [] }

def supplyWord (a : Nat) : Bool := a == R.SUP_VIN || a == R.SUP_IIN || a == R.SUP_PIN || a == R.SUP_VAUX

theorem lifeExtreme_keeps (s : State) (off v : Nat) (seen better : Bool) : Keeps E W s (s.lifeExtreme off seen v better) :=
  .ite (.refl s) (.of_unnoticed rfl fun _ _ => rfl)

/-- The readings of the supplies. -/
def State.supplyShown (s : State) (vin low iin p vaux : Nat) : State :=
  ((((s.wr R.SUP_VIN_VIN_MV vin).wr R.SUP_VIN_VIN_MIN_MV low).wr R.SUP_IIN_IIN_MA iin).wr R.SUP_PIN_PIN_10MW p).wr R.SUP_VAUX_VAUX_MV vaux

theorem vSeen_keeps (s : State) : Keeps sansSupply W s (s.onTherm (fun t => { t with vSeen := true })) := ⟨rfl, fun _ _ => rfl⟩

theorem lifeRem_keeps (s : State) (l : Sparse Nat) : Keeps sansSupply W s { s with lifeRem := l } := ⟨rfl, fun _ _ => rfl⟩

theorem supplySample_noted (s : State) (vin iin vinMin vaux : Nat) :
    ∃ low p, Keeps sansSupply (fun _ => false) (s.supplyShown vin low iin p vaux) (s.supplySample vin iin vinMin vaux) := by
  unfold State.supplySample
  extract_lets low p s1 s2 e
  refine ⟨low, p, ?_⟩
  have h2 : Keeps sansSupply (fun _ => false) s1 s2 :=
    .ite (((lifeExtreme_keeps s1 _ _ _ _).lifeMax _ _).trans (vSeen_keeps _)) (.refl s1)
  exact (h2.trans (lifeRem_keeps s2 _)).lifeAdd _ _ _

theorem supplySample_keeps (s : State) (vin iin vinMin vaux : Nat) : Keeps sansSupply supplyWord s (s.supplySample vin iin vinMin vaux) := by
  obtain ⟨low, p, h⟩ := supplySample_noted s vin iin vinMin vaux
  have hshown : Keeps sansSupply supplyWord s (s.supplyShown vin low iin p vaux) :=
    (((((Keeps.refl s).wr _ _ rfl).wr _ _ rfl).wr _ _ rfl).wr _ _ rfl).wr _ _ rfl
  exact hshown.trans (h.mono (fun _ => rfl) fun _ _ => rfl)

theorem supplySample_shows (s : State) (vin iin vinMin vaux : Nat) :
    (s.supplySample vin iin vinMin vaux).rd R.SUP_VIN_VIN_MV = vin % 2 ^ 16 ∧
    (s.supplySample vin iin vinMin vaux).rd R.SUP_IIN_IIN_MA = iin % 2 ^ 16 := by
  obtain ⟨low, p, h⟩ := supplySample_noted s vin iin vinMin vaux
  rw [h.rd _ rfl, h.rd _ rfl, State.supplyShown, rd_wr_word _ _ _ _ (by decide), rd_wr_word _ _ _ _ (by decide),
    rd_wr_word _ _ _ _ (by decide), rd_wr_apart _ _ _ _ rfl rfl, rd_wr_same _ _ _ rfl, rd_wr_word _ _ _ _ (by decide),
    rd_wr_word _ _ _ _ (by decide), rd_wr_same _ _ _ rfl]
  exact ⟨rfl, rfl⟩

/-! ## The whole sample -/

/-- The state less what a sample settles beside what is noticed. -/
def sansSample (u : State) : State :=
  { u with
    nvm := { u.nvm with windowShut := false }
    therm := { u.therm with
      hot := 0, hotSensor := 0, hotSince := none, isl := 0, islSensor := 0, sampleAt := none, tSeen := false, theta := 0
      tripSince := none, vSeen := false }
    lifeRem := [] }

theorem eq_of_sansSample (h : sansSample t.unnoticed = sansSample s.unnoticed) :
    t = { s.noticed t with
      nvm := { s.nvm with due := t.nvm.due, lastHostFault := t.nvm.lastHostFault, windowShut := t.nvm.windowShut }
      therm := { s.therm with
        hot := t.therm.hot, hotSensor := t.therm.hotSensor, hotSince := t.therm.hotSince, isl := t.therm.isl
        islSensor := t.therm.islSensor, sampleAt := t.therm.sampleAt, tSeen := t.therm.tSeen, theta := t.therm.theta
        tripSince := t.therm.tripSince, vSeen := t.therm.vSeen }
      lifeRem := t.lifeRem } :=
  calc
    t = { (sansSample t.unnoticed).noticed t with
      nvm := { (sansSample t.unnoticed).nvm with
        due := t.nvm.due, lastHostFault := t.nvm.lastHostFault, windowShut := t.nvm.windowShut }
      therm := { (sansSample t.unnoticed).therm with
        hot := t.therm.hot, hotSensor := t.therm.hotSensor, hotSince := t.therm.hotSince, isl := t.therm.isl
        islSensor := t.therm.islSensor, sampleAt := t.therm.sampleAt, tSeen := t.therm.tSeen, theta := t.therm.theta
        tripSince := t.therm.tripSince, vSeen := t.therm.vSeen }
      lifeRem := t.lifeRem } := rfl
    _ = _ := by rw [h]; rfl

/-- What a sample keeps of the state before, with the words it may write. -/
abbrev SampleKeeps (W : Nat → Bool) := Keeps sansSample W

/-- The words of a sample. -/
def sampleWord (a : Nat) : Bool := sensorWord a || supplyWord a || heatWord a || a == R.NVM_ERR || a == R.SD_NOW

theorem sampleWord_plumb (a : Nat) (h : plumbWord a = true) : sampleWord a = true := by simp [sampleWord, heatWord, h]

/-- The 16 readings stand in their registers. -/
def State.sensorsShown (s : State) (ts : List Int) : State := (ts.zipIdx).foldl (fun (t : State) e => t.wrI (R.TS_TEMP e.2) e.1) s

/-- The island's half of a sample, which every power state has (R424). -/
def State.islandSample (s : State) (ts : List Int) : State :=
  let h := hottest 0 ts
  let seen := s.therm.tSeen
  let s2 := ((s.sensorsShown ts).lifeExtreme 0x0A0 seen (unsigned 16 h.1)
    (decide (signed 16 (Sparse.get 0 s.life 0x0A0) < h.1))).lifeExtreme 0x0A2 seen (unsigned 16 h.1)
    (decide (h.1 < signed 16 (Sparse.get 0 s.life 0x0A2)))
  s2.onTherm (fun t => { t with
    isl := h.1, islSensor := h.2, tSeen := true, tripSince := since (decide (1760 ≤ h.1)) s.time t.tripSince })

/-- The halves that need the core. -/
def State.coreSample (s : State) (ts : List Int) (hbm : Int) (vin iin vinMin vaux : Nat) : State :=
  if s.powered then (s.supplySample vin iin vinMin vaux).heatSample ts hbm else s

/-- The sample is noted with its time, and the write window shuts outside its range (R436). -/
def State.sampleNoted (s : State) (now : Nat) (t8 : Int) : State :=
  let s6 := s.onTherm (fun t => { t with sampleAt := some now })
  if t8 < -400 ∨ 1520 < t8 then s6.onNvm (fun n => { n with windowShut := true }) else s6

theorem thermSample_eq (s : State) (ts : List Int) (hbm : Int) (vin iin vinMin vaux : Nat) :
    s.thermSample ts hbm vin iin vinMin vaux =
      if s.powered then
        ((((s.islandSample ts).supplySample vin iin vinMin vaux).heatSample ts hbm).sampleNoted s.time (ts.getD 8 0)).tempDefer.speedDemand
      else (s.islandSample ts).sampleNoted s.time (ts.getD 8 0) := by
  unfold State.thermSample
  split <;> rfl

theorem sensorsShown_rd {ts : List Int} (hlen : ts.length = 16) (s : State) (k : Fin 16) :
    (s.sensorsShown ts).rd (R.TS_TEMP k) = unsigned 16 (ts.getD k 0) := by
  have := (readings_word ts 0 s).1 k (Nat.zero_le _) (by omega)
  exact this

theorem sensorsShown_unnoticed (ts : List Int) (s : State) : (s.sensorsShown ts).unnoticed = s.unnoticed :=
  foldl_keeps State.unnoticed (fun (t : State) (e : Int × Nat) => t.wrI (R.TS_TEMP e.2) e.1) (fun _ _ => rfl) _ s

theorem sensorsShown_keeps {ts : List Int} (hlen : ts.length = 16) (hs : ∀ a, sensorWord a = true → W a = true) (s : State) :
    Keeps E W s (s.sensorsShown ts) := by
  refine .of_unnoticed (sensorsShown_unnoticed ts s) fun a ha => (readings_word ts 0 s).2 a ?_
  rintro k - hk rfl
  have hin : sensorWord (R.TS k) = true := by
    simp only [sensorWord, List.contains_iff_mem]
    exact List.mem_map_of_mem (List.mem_range.2 (by omega))
  rw [hs _ hin] at ha
  exact absurd ha (by simp)

theorem islandSample_keeps {ts : List Int} (hlen : ts.length = 16) (s : State) : SampleKeeps sensorWord s (s.islandSample ts) :=
  (((sensorsShown_keeps hlen (fun _ h => h) s).trans (lifeExtreme_keeps _ _ _ _ _)).trans (lifeExtreme_keeps _ _ _ _ _)).trans ⟨rfl, fun _ _ => rfl⟩

theorem islandSample_rd (ts : List Int) (s : State) (f : Field) : (s.islandSample ts).rd f = (s.sensorsShown ts).rd f := by
  have h := (lifeExtreme_keeps (E := id) (W := fun _ => false) (s.sensorsShown ts) 0x0A0 (unsigned 16 (hottest 0 ts).1) s.therm.tSeen
    (decide (signed 16 (Sparse.get 0 s.life 0x0A0) < (hottest 0 ts).1))).trans (lifeExtreme_keeps _ 0x0A2 (unsigned 16 (hottest 0 ts).1)
    s.therm.tSeen (decide ((hottest 0 ts).1 < signed 16 (Sparse.get 0 s.life 0x0A2))))
  exact h.rd f rfl

theorem sampleNoted_therm (s : State) (now : Nat) (t8 : Int) : (s.sampleNoted now t8).therm = { s.therm with sampleAt := some now } := by
  unfold State.sampleNoted
  split <;> rfl

theorem sampleNoted_keeps (s : State) (now : Nat) (t8 : Int) : SampleKeeps W s (s.sampleNoted now t8) :=
  .ite ⟨rfl, fun _ _ => rfl⟩ ⟨rfl, fun _ _ => rfl⟩

/-- The last words of a sample with the core on: TEMP_DEFER and SPEED_DEMAND. -/
def tailWord (a : Nat) : Bool := a == R.NVM_ERR || a == R.SD_NOW || plumbWord a

theorem tail_keeps (s : State) : Keeps E tailWord s s.tempDefer.speedDemand :=
  (tempDefer_shows (fun a h => by simp [tailWord, h]) rfl s).trans (speedDemand_shows rfl _)

theorem tail_therm (s : State) : s.tempDefer.speedDemand.therm = s.therm := (congrArg State.therm (tail_keeps (E := id) s).1 :)

theorem supplySample_therm (s : State) (vin iin vinMin vaux : Nat) :
    (s.supplySample vin iin vinMin vaux).therm.isl = s.therm.isl ∧ (s.supplySample vin iin vinMin vaux).therm.islSensor = s.therm.islSensor :=
  have h := (supplySample_keeps s vin iin vinMin vaux).1
  ⟨(congrArg (fun u => u.therm.isl) h :), (congrArg (fun u => u.therm.islSensor) h :)⟩

theorem heatSample_therm (s : State) (ts : List Int) (hbm : Int) :
    (s.heatSample ts hbm).therm.isl = s.therm.isl ∧ (s.heatSample ts hbm).therm.islSensor = s.therm.islSensor :=
  have h := (heatSample_keeps s ts hbm).1
  ⟨(congrArg (fun u => u.therm.isl) h :), (congrArg (fun u => u.therm.islSensor) h :)⟩

/-- The state of a sample with the core on, before TEMP_DEFER and SPEED_DEMAND. -/
def State.poweredSample (s : State) (ts : List Int) (hbm : Int) (vin iin vinMin vaux : Nat) : State :=
  (((s.islandSample ts).supplySample vin iin vinMin vaux).heatSample ts hbm).sampleNoted s.time (ts.getD 8 0)

/-- What is said of the words of a sample: all of them, those after the sensors, those after the supplies. -/
theorem sample_words (a : Nat) : (sampleWord a = false → sensorWord a = false ∧ supplyWord a = false ∧ heatWord a = false ∧ tailWord a = false) := by
  simp +contextual [sampleWord, tailWord, heatWord]

theorem thermSample_keeps {ts : List Int} (hlen : ts.length = 16) (s : State) (hbm : Int) (vin iin vinMin vaux : Nat) :
    SampleKeeps sampleWord s (s.thermSample ts hbm vin iin vinMin vaux) := by
  have hisland : SampleKeeps sampleWord s (s.islandSample ts) :=
    (islandSample_keeps hlen s).mono (fun _ => rfl) fun a h => (sample_words a h).1
  rw [thermSample_eq]
  refine .ite ?_ (hisland.trans (sampleNoted_keeps _ _ _))
  have hsupply := (supplySample_keeps (s.islandSample ts) vin iin vinMin vaux).mono (E' := sansSample) (fun _ => rfl)
    fun a h => (sample_words a h).2.1
  have hheat := (heatSample_keeps ((s.islandSample ts).supplySample vin iin vinMin vaux) ts hbm).mono (E' := sansSample) (fun _ => rfl)
    fun a h => (sample_words a h).2.2.1
  exact (((hisland.trans hsupply).trans hheat).trans (sampleNoted_keeps _ _ _)).trans
    ((tail_keeps _).mono (fun _ => rfl) fun a h => (sample_words a h).2.2.2)

/-- What follows the island's half leaves the sensors' registers alone. -/
theorem thermSample_sensor {ts : List Int} (hlen : ts.length = 16) (s : State) (hbm : Int) (vin iin vinMin vaux : Nat) (k : Fin 16) :
    (s.thermSample ts hbm vin iin vinMin vaux).rd (R.TS_TEMP k) = unsigned 16 (ts.getD k 0) := by
  have hsupply : supplyWord (R.TS k) = false := by revert k; decide
  have hheat : heatWord (R.TS k) = false := by revert k; decide
  have htail : tailWord (R.TS k) = false := by revert k; decide
  rw [thermSample_eq]
  split
  · rw [(tail_keeps (E := id) _).rd _ htail, (sampleNoted_keeps (W := fun _ => false) _ _ _).rd _ rfl, (heatSample_keeps _ _ _).rd _ hheat,
      (supplySample_keeps _ _ _ _ _).rd _ hsupply, islandSample_rd, sensorsShown_rd hlen]
  · rw [(sampleNoted_keeps (W := fun _ => false) _ _ _).rd _ rfl, islandSample_rd, sensorsShown_rd hlen]

/-- The island's T_hot with its sensor and the time of the sample. -/
theorem thermSample_island (s : State) (ts : List Int) (hbm : Int) (vin iin vinMin vaux : Nat) :
    (s.thermSample ts hbm vin iin vinMin vaux).therm.isl = (hottest 0 ts).1 ∧
    (s.thermSample ts hbm vin iin vinMin vaux).therm.islSensor = (hottest 0 ts).2 ∧
    (s.thermSample ts hbm vin iin vinMin vaux).therm.sampleAt = some s.time := by
  rw [thermSample_eq]
  split
  · obtain ⟨hisl, hsensor⟩ := heatSample_therm ((s.islandSample ts).supplySample vin iin vinMin vaux) ts hbm
    obtain ⟨hisl', hsensor'⟩ := supplySample_therm (s.islandSample ts) vin iin vinMin vaux
    rw [tail_therm, sampleNoted_therm]
    exact ⟨hisl.trans hisl', hsensor.trans hsensor', rfl⟩
  · rw [sampleNoted_therm]
    exact ⟨rfl, rfl, rfl⟩

/-- What a sample shows with the core on. -/
theorem thermSample_supply (s : State) (ts : List Int) (hbm : Int) (vin iin vinMin vaux : Nat) (hp : s.powered = true) :
    (s.thermSample ts hbm vin iin vinMin vaux).rd R.SUP_VIN_VIN_MV = vin % 2 ^ 16 ∧
    (s.thermSample ts hbm vin iin vinMin vaux).rd R.SUP_IIN_IIN_MA = iin % 2 ^ 16 := by
  obtain ⟨hvin, hiin⟩ := supplySample_shows (s.islandSample ts) vin iin vinMin vaux
  have hrd (f : Field) (htail : tailWord f.addr = false) (hheat : heatWord f.addr = false) :
      (s.thermSample ts hbm vin iin vinMin vaux).rd f = ((s.islandSample ts).supplySample vin iin vinMin vaux).rd f := by
    rw [thermSample_eq, if_pos hp, (tail_keeps (E := id) _).rd _ htail, (sampleNoted_keeps (W := fun _ => false) _ _ _).rd _ rfl,
      (heatSample_keeps _ _ _).rd _ hheat]
  rw [hrd _ rfl rfl, hrd _ rfl rfl]
  exact ⟨hvin, hiin⟩

/-- What a sample shows of the heat in Day and Dusk. -/
theorem thermSample_heat (s : State) {ts : List Int} (hlen : ts.length = 16) (hbm : Int) (vin iin vinMin vaux : Nat) (ha : s.awake = true)
    {u : State} (hu : u = s.thermSample ts hbm vin iin vinMin vaux) :
    u.therm.hot = (hottest 0 (ts ++ [hbm])).1 ∧ u.rd R.THERM_HOT_TEMP = unsigned 16 u.therm.hot ∧
    u.rd R.THERM_HOT_SENSOR = (hottest 0 (ts ++ [hbm])).2 ∧
    u.rd R.THERM_STATE_THROTTLE = (if 1520 < u.therm.hot then 1 else if u.therm.hot < 1472 then 0 else s.rd R.THERM_STATE_THROTTLE) ∧
    u.rd R.THERM_STATE_STOP_DIE = if u.therm.hot < 1360 then 0 else s.rd R.THERM_STATE_STOP_DIE := by
  have hp : s.powered = true := by
    revert ha
    unfold State.awake State.powered
    cases s.pow.phase <;> simp
  have hmaint : s.pow.phase ≠ .maint := fun h => by simp [State.awake, h] at ha
  let v := (s.islandSample ts).supplySample vin iin vinMin vaux
  have hv (f : Field) (hs : supplyWord f.addr = false) (hf : sensorWord f.addr = false) : v.rd f = s.rd f := by
    rw [(supplySample_keeps _ _ _ _ _).rd _ hs, (islandSample_keeps hlen s).rd _ hf]
  have hphase : v.pow.phase = s.pow.phase :=
    (congrArg (fun u => u.pow.phase) (supplySample_keeps (s.islandSample ts) vin iin vinMin vaux).1 :).trans
      (congrArg (fun u => u.pow.phase) (islandSample_keeps hlen s).1 :)
  obtain ⟨hhot, htemp, hsensor, hthrottle, hdie⟩ := heatSample_shows v ts hbm _ hlen (by rw [hphase]; exact hmaint) rfl
  have hrd (f : Field) (htail : tailWord f.addr = false) : u.rd f = (v.heatSample ts hbm).rd f := by
    rw [hu, thermSample_eq, if_pos hp, (tail_keeps (E := id) _).rd _ htail, (sampleNoted_keeps (W := fun _ => false) _ _ _).rd _ rfl]
  have htherm : u.therm.hot = (hottest 0 (ts ++ [hbm])).1 := by
    rw [hu, thermSample_eq, if_pos hp, tail_therm, sampleNoted_therm]
    exact hhot
  rw [hrd _ rfl, hrd _ rfl, hrd _ rfl, hrd _ rfl, htherm, htemp, hsensor, hthrottle, hdie, hv _ rfl rfl, hv _ rfl rfl]
  exact ⟨rfl, rfl, rfl, rfl, rfl⟩

theorem sampleWord_mem {a : Nat} (h : sampleWord a = true) :
    a ∈ (List.range 16).map R.TS ++ [R.THERM_HBM, R.THERM_HOT, R.THERM_STATE, R.SUP_VIN, R.SUP_IIN, R.SUP_PIN, R.SUP_VAUX, R.NVM_ERR,
      R.SD_NOW] ++ eventWords := by
  simp only [sampleWord, sensorWord, supplyWord, heatWord, Bool.or_eq_true, List.contains_iff_mem, beq_iff_eq] at h
  simp only [List.mem_append, List.mem_cons]
  rcases h with (((h | h) | h) | h) | h
  · exact .inl (.inl h)
  · tauto
  · rcases h with h | h
    · tauto
    · exact .inr (plumbWord_mem_eventWords h)
  · tauto
  · tauto

/-- Settles O16: the sample has an island's half, a supply half, a heat half and a tail, and each has its lemma for what it shows and
what it keeps. -/
theorem thermalSamples : Obligations.ThermalSamples := by
  intro s ts hbm vin iin vmin vaux hlen hvaux hdue
  have hrun : exec (.thermalSample ts hbm vin iin vmin vaux) s = .next (s.thermSample ts hbm vin iin vmin vaux).latch := by
    show execThermalSample ts hbm vin iin vmin vaux s = _
    unfold execThermalSample
    rw [if_neg (by simp [hlen]), if_neg (by simp [hvaux, hdue]), State.done]
  have hkeeps := thermSample_keeps hlen s hbm vin iin vmin vaux
  have htherm : (s.thermSample ts hbm vin iin vmin vaux).latch.therm = (s.thermSample ts hbm vin iin vmin vaux).therm := by
    simp only [latch_frame]
  refine ⟨_, hrun, fun k => ?_, ?_, ?_, ?_, fun ha => ?_, fun hp => ?_, eq_of_sansSample ?_, fun a ha => ?_⟩
  · rw [latch_rd, thermSample_sensor hlen]
  · rw [htherm, (thermSample_island s ts hbm vin iin vmin vaux).1]
  · rw [htherm, (thermSample_island s ts hbm vin iin vmin vaux).2.1]
  · rw [htherm, (thermSample_island s ts hbm vin iin vmin vaux).2.2]
  · rw [htherm, latch_rd, latch_rd, latch_rd, latch_rd]
    exact thermSample_heat s hlen hbm vin iin vmin vaux ha rfl
  · rw [latch_rd, latch_rd]
    exact thermSample_supply s ts hbm vin iin vmin vaux hp
  · rw [latch_unnoticed]
    exact hkeeps.1
  · rw [latch_word]
    exact hkeeps.2 a (Bool.eq_false_iff.2 fun h => ha (sampleWord_mem h))

/-- A sample 1 ms after the last, in Day: 95.0625 °C at the HBM sensor throttles. -/
theorem thermalSamples_witness :
    ∃ t, exec (.thermalSample (List.replicate 16 400) 1521 24000 1000 23000 5000)
        { dayState with time := usTicks 1000, therm := { sampleAt := some 0 } } = .next t ∧
      t.therm.hot = 1521 ∧ t.rd R.THERM_STATE_THROTTLE = 1 := by
  obtain ⟨t, hrun, -, -, -, -, hday, -⟩ := thermalSamples { dayState with time := usTicks 1000, therm := { sampleAt := some 0 } }
    (List.replicate 16 400) 1521 24000 1000 23000 5000 rfl (by decide) (by decide)
  obtain ⟨hhot, -, -, hthrottle, -⟩ := hday rfl
  have h1521 : t.therm.hot = 1521 := hhot
  exact ⟨t, hrun, h1521, by rw [hthrottle, h1521]; rfl⟩

end Sys2Proof.Machine
end

section
/-! PROOFS. An orderly stop that ends a piece bound to a compare unit which the module does not have (R122, R219, R221, R430). -/

namespace Sys2Proof.Machine

/-! ## The status of a compare unit over the cause of the stop -/

/-- A compare unit beyond the 64 of the module, whose status word is STOP_CAUSE; its bit ARMED is bit 0 of FIRST. -/
def strayCompare : Nat := 2049

theorem strayCompare_status : R.CMP_STATUS strayCompare = R.STOP_CAUSE := rfl

/-- An admitted piece bound to that unit, which a stop position before its start keeps from starting. -/
def strayComparePiece : Piece :=
  { desc := List.replicate 64 0, stage := .admitted, start := some 0, cut := some 0, compare := some strayCompare }

/-- A module in Day with that piece, whose T_hot has been at 110 °C for 100 ms. -/
def strayCompareState : State :=
  { dayState with time := usTicks 100000, therm := { hotSince := some 0 }, pieces := [strayComparePiece] }

theorem strayCompareState_due : strayCompareState.orderlyNow = true := by decide +kernel

/-- The state after the orderly stop: the piece is not printed, and its unit is given back. -/
def strayCompareStopped : State := strayCompareState.orderlyStop.latch

theorem exec_orderlyStop_strayCompare : exec .orderlyStop strayCompareState = .next strayCompareStopped :=
  if_pos (e := .next strayCompareState) strayCompareState_due

/-- The state in which the orderly stop asks for the stop of the pieces in flight. -/
def strayCompareAsked : State :=
  (((strayCompareState.wr R.THERM_STATE_STOP_DIE 1).addSat R.THERM_COUNTS_ORDERLY 1).raise Ev.ORDERLY_STOP 15 400).stopActive 3

/-- No piece is in flight, so that no group stops. -/
theorem strayCompareAsked_leaders : strayCompareAsked.stopLeaders = [] := by decide +kernel

theorem strayCompareAsked_pieces : strayCompareAsked.pieces = [strayComparePiece] := by
  unfold strayCompareAsked State.stopActive
  simp
  rfl

/-- The words beside STOP_CAUSE that the end of a piece may change. -/
def endWord (a : Nat) : Bool := decide (0xC0000 ≤ a) || plumbWord a

/-- A piece bound to that unit that ends leaves bit 0 of STOP_CAUSE at 0. -/
theorem complete_strayCompare (s : State) (p : Piece) (f : Fate) (hp : p.compare = some strayCompare) :
    (s.complete p f).rd (R.CMP_STATUS_ARMED strayCompare) = 0 := by
  have hhigh : ∀ a, 0xC0000 ≤ a → endWord a = true := fun a ha => by simp [endWord, ha]
  have hplumb : ∀ a, plumbWord a = true → endWord a = true := fun a ha => by simp [endWord, ha]
  have hlow : endWord (R.CMP_STATUS strayCompare) = false := by decide
  unfold State.complete
  extract_lets k s1 s2 s3 bad s4
  have h3 : s3.rd (R.CMP_STATUS_ARMED strayCompare) = 0 := by
    have hs3 : s3 = s2.freeCompare strayCompare := by simp only [s3, hp, Option.elim]
    rw [hs3]
    exact rd_wr_same _ _ _ rfl
  clear_value s3
  have h4 : Keeps (fun _ => s) endWord s3 s4 := (Keeps.refl s3).update rfl rfl
  clear_value s4
  have hfreed : Keeps (fun _ => s) endWord s3 s4.loads.poolFree := (h4.trans (loads_keeps hhigh s4)).trans (poolFree_keeps hhigh _)
  have hbusy : Keeps (fun _ => s) endWord s3 s4.loads.poolFree.busy := hfreed.update rfl rfl
  rw [(hbusy.raise hplumb _ _ _).rd _ hlow, h3]

/-- The state after the piece is ended that the stop keeps from starting. -/
def strayCompareDropped : State := strayCompareAsked.complete strayComparePiece (.notPrinted 0x12)

theorem dropUnstarted_strayCompare (s : State) (hpieces : s.pieces = [strayComparePiece]) :
    s.dropUnstarted = s.complete strayComparePiece (.notPrinted 0x12) := by
  have hpiece : s.piece 0 = some strayComparePiece := by
    unfold State.piece
    rw [hpieces]
    rfl
  unfold State.dropUnstarted
  rw [hpieces]
  show s.notPrinted 0 0x12 = _
  rw [State.notPrinted, hpiece]

theorem strayCompareAsked_drops : strayCompareAsked.dropUnstarted = strayCompareDropped :=
  dropUnstarted_strayCompare _ strayCompareAsked_pieces

theorem orderlyDone_cause (s : State) : s.orderlyDone.word R.STOP_CAUSE = s.word R.STOP_CAUSE := by
  unfold State.orderlyDone
  split
  · exact ((((Keeps.refl (E := fun _ => s) (W := fun a => a == R.THERM_STATE) s).wr R.THERM_STATE_BG_HELD 1 rfl).update
      (u := (s.wr R.THERM_STATE_BG_HELD 1).onNvm (fun n => { n with stDue := true })) rfl rfl).journalDue 5).2 _ rfl
  · rfl

theorem strayCompareStopped_eq : strayCompareStopped = strayCompareDropped.speedDemand.orderlyDone.latch := by
  rw [← strayCompareAsked_drops]
  have hstop : strayCompareStopped =
      (strayCompareAsked.stopLeaders.foldl (fun (t : State) k => t.stopGroup 3 k) strayCompareAsked).dropUnstarted.speedDemand.orderlyDone.latch :=
    rfl
  rw [hstop, strayCompareAsked_leaders]
  rfl

/-- FIRST was written 3, and lost its bit 0 with the unit. -/
theorem strayCompareStopped_first : strayCompareStopped.rd R.STOP_CAUSE_FIRST ≠ 3 := by
  have hcause : strayCompareStopped.word R.STOP_CAUSE = strayCompareDropped.word R.STOP_CAUSE := by
    rw [strayCompareStopped_eq, latch_word, orderlyDone_cause]
    exact (speedDemand_shows (E := id) (W := fun a => a == R.SD_NOW) rfl _).2 _ rfl
  have hbit : strayCompareStopped.rd (R.CMP_STATUS_ARMED strayCompare) = 0 := by
    rw [rd_congr _ _ (R.CMP_STATUS_ARMED strayCompare) hcause, strayCompareDropped]
    exact complete_strayCompare _ _ _ rfl
  simp only [State.rd, bits, strayCompare_status] at hbit ⊢
  omega

/-- Refutes O17: the orderly stop is to show cause 3 in STOP_CAUSE_FIRST. The stop ends the admitted pieces it keeps from starting, each
of which gives its compare unit back (R221). For a piece bound to unit 2049, which no admission can bring about but the statement does
not exclude, the status of the unit lies over STOP_CAUSE, and giving it back clears bit 0 of FIRST. -/
theorem not_heatStops : ¬ Obligations.HeatStops := by
  rintro ⟨horderly, -⟩
  obtain ⟨t, hrun, -, -, -, hfirst, -⟩ := horderly strayCompareState strayCompareState_due
  obtain rfl : strayCompareStopped = t := Host.Outcome.next.inj (exec_orderlyStop_strayCompare.symm.trans hrun)
  exact strayCompareStopped_first hfirst

end Sys2Proof.Machine
end

section
/-! PROOFS. Supply dips from their start to their end (R439, R443). -/

namespace Sys2Proof.Machine

variable {s t : State} {E : State → State} {W : Nat → Bool}

/-! ## What a kick of the flash may change (R436) -/

/-- The flash engine less what a kick may start, and what raising an event may change. -/
def Nvm.sansKick (n : Nvm) : Nvm :=
  { n with
    commit := {}, due := [], held := [], jWrite := none, lastHostFault := none, stBodyNew := [], stDue := false, stPend := false
    stWrite := none }

/-- The state less what a kick of the flash may start. -/
def sansKick (u : State) : State := { u with nvm := u.nvm.sansKick }

theorem onNvm_kick (s : State) (f : Nvm → Nvm) (hf : (f s.nvm).sansKick = s.nvm.sansKick) : Keeps sansKick W s (s.onNvm f) := by
  refine ⟨?_, fun _ _ => rfl⟩
  calc
    sansKick (s.onNvm f).unnoticed = { s.unnoticed with nvm := (f s.nvm).sansKick } := rfl
    _ = _ := by rw [hf]; rfl

theorem engineWord_plumb (a : Nat) (h : plumbWord a = true) : engineWord a = true := by simp [engineWord, h]

theorem tempDefer_kick (s : State) : Keeps sansKick engineWord s s.tempDefer := tempDefer_shows engineWord_plumb rfl s

theorem storeStart_kick (s : State) : Keeps sansKick W s s.storeStart := (onNvm_kick s _ rfl).lifeAdd _ _ _

theorem commitTo_kick (s : State) (st : CommitStep) : Keeps sansKick engineWord s (s.commitTo st) := by
  unfold State.commitTo
  extract_lets hold s1 s2
  have h1 : Keeps sansKick engineWord s s1 := onNvm_kick s _ rfl
  have h2 : Keeps sansKick engineWord s s2 := by
    refine Keeps.ite h1 ?_
    cases st
    case eraseHeader => exact h1.lifeAdd _ _ _
    case eraseBlocks => exact h1.lifeAdd _ _ _
    all_goals exact h1
  exact (h2.wr _ _ rfl).trans (tempDefer_kick _)

theorem flashKick_keeps (s : State) : Keeps sansKick engineWord s s.flashKick := by
  rcases flashKick_cases s with h | ⟨c, b, rest, h⟩ | h
  · rw [h]
    exact .refl s
  · rw [h]
    exact ((onNvm_kick s _ rfl).trans (onNvm_kick _ _ rfl)).trans (tempDefer_kick _)
  · rw [h]
    have hstore : Keeps sansKick engineWord s s.storeKicked := .ite (storeStart_kick s) (.refl s)
    exact (hstore.trans (.ite (commitTo_kick _ _) (.refl _))).trans (tempDefer_kick _)

theorem Keeps.therm (h : Keeps sansKick W s t) : t.therm = s.therm := by
  show (sansKick t.unnoticed).therm = (sansKick s.unnoticed).therm
  rw [h.1]

/-! ## What a dip may change (R439) -/

/-- The state less what a dip settles, and what a kick of the flash may start. -/
def sansDip (u : State) : State :=
  { sansKick u with
    therm := { u.therm with
      acfail := false, dipEnded := none, dipStart := none, dipStopped := false, dipUnder := false, vinWarn := false } }

theorem eq_of_sansDip (h : sansDip t.unnoticed = sansDip s.unnoticed) :
    t = { s.noticed t with
      nvm := { s.nvm with
        commit := t.nvm.commit, due := t.nvm.due, held := t.nvm.held, jWrite := t.nvm.jWrite
        lastHostFault := t.nvm.lastHostFault, stBodyNew := t.nvm.stBodyNew, stDue := t.nvm.stDue, stPend := t.nvm.stPend
        stWrite := t.nvm.stWrite }
      therm := { s.therm with
        acfail := t.therm.acfail, dipEnded := t.therm.dipEnded, dipStart := t.therm.dipStart, dipStopped := t.therm.dipStopped
        dipUnder := t.therm.dipUnder, vinWarn := t.therm.vinWarn } } :=
  calc
    t = { (sansDip t.unnoticed).noticed t with
      nvm := { (sansDip t.unnoticed).nvm with
        commit := t.nvm.commit, due := t.nvm.due, held := t.nvm.held, jWrite := t.nvm.jWrite
        lastHostFault := t.nvm.lastHostFault, stBodyNew := t.nvm.stBodyNew, stDue := t.nvm.stDue, stPend := t.nvm.stPend
        stWrite := t.nvm.stWrite }
      therm := { (sansDip t.unnoticed).therm with
        acfail := t.therm.acfail, dipEnded := t.therm.dipEnded, dipStart := t.therm.dipStart, dipStopped := t.therm.dipStopped
        dipUnder := t.therm.dipUnder, vinWarn := t.therm.vinWarn } } := rfl
    _ = _ := by rw [h]; rfl

/-- The state less what the inputs of a dip settle. -/
def sansInputs (u : State) : State :=
  { u with therm := { u.therm with acfail := false, dipStart := none, dipUnder := false, vinWarn := false } }

theorem eq_of_sansInputs (h : sansInputs t.unnoticed = sansInputs s.unnoticed) :
    t = { s.noticed t with
      therm := { s.therm with
        acfail := t.therm.acfail, dipStart := t.therm.dipStart, dipUnder := t.therm.dipUnder, vinWarn := t.therm.vinWarn } } :=
  calc
    t = { (sansInputs t.unnoticed).noticed t with
      therm := { (sansInputs t.unnoticed).therm with
        acfail := t.therm.acfail, dipStart := t.therm.dipStart, dipUnder := t.therm.dipUnder, vinWarn := t.therm.vinWarn } } := rfl
    _ = _ := by rw [h]; rfl

/-- The words of a dip in progress: its inputs, SPEED_DEMAND, and what its inputs raise. -/
def dipWord (a : Nat) : Bool := a == R.SUP_STATE || a == R.SD_NOW || plumbWord a

theorem dipWord_plumb (a : Nat) (h : plumbWord a = true) : dipWord a = true := by simp [dipWord, h]

theorem dipWord_mem {a : Nat} (h : dipWord a = true) : a ∈ [R.SUP_STATE, R.SD_NOW] ++ eventWords := by
  simp only [dipWord, Bool.or_eq_true, beq_iff_eq] at h
  simp only [List.mem_append, List.mem_cons]
  rcases h with (h | h) | h
  · tauto
  · tauto
  · exact .inr (plumbWord_mem_eventWords h)

/-- SUP_STATE shows the two inputs. -/
def State.inputsShown (s : State) : State := (s.wrB R.SUP_STATE_ACFAIL s.therm.acfail).wrB R.SUP_STATE_VIN_WARN s.therm.vinWarn

theorem inputsShown_keeps (s : State) (hW : W R.SUP_STATE = true) : Keeps E W s s.inputsShown := ((Keeps.refl s).wr _ _ hW).wr _ _ hW

theorem inputsShown_rd (s : State) : s.inputsShown.rd R.SUP_STATE_ACFAIL = b2n s.therm.acfail ∧
    s.inputsShown.rd R.SUP_STATE_VIN_WARN = b2n s.therm.vinWarn ∧ s.inputsShown.rd R.SUP_STATE_DIP = s.rd R.SUP_STATE_DIP := by
  unfold State.inputsShown State.wrB
  refine ⟨?_, ?_, ?_⟩
  · rw [rd_wr_apart _ _ _ _ rfl rfl, rd_wr_same _ _ _ rfl]
    cases s.therm.acfail <;> rfl
  · rw [rd_wr_same _ _ _ rfl]
    cases s.therm.vinWarn <;> rfl
  · rw [rd_wr_apart _ _ _ _ rfl rfl, rd_wr_apart _ _ _ _ rfl rfl]

/-! ## The start of a dip (R439) -/

/-- The dip and its inputs at its start. -/
def Therm.dipBegun (th : Therm) (now : Nat) (ac : Bool) (mv : Nat) : Therm :=
  { th with
    acfail := th.acfail || ac, vinWarn := th.vinWarn || decide (mv < 10200), dipStart := some (th.dipStart.getD now)
    dipUnder := th.dipUnder || decide (mv < 9000) }

/-- What a dip shows at its start, before its inputs raise their conditions. -/
def State.dipOpened (s : State) (ac : Bool) (mv : Nat) : State :=
  (s.onTherm (fun th => th.dipBegun s.time ac mv)).inputsShown.wr R.SUP_STATE_DIP 1

/-- The conditions of the two inputs. -/
def State.inputsRaised (s : State) (ac low : Bool) : State :=
  let s1 := if ac then s.condOn Ev.ACFAIL else s
  if low then s1.condOn Ev.VIN_WARNING else s1

theorem dipBegin_eq (s : State) (acfail : Bool) (mv : Nat) (h : (acfail = true ∧ s.acfailPin = true) ∨ mv < 10200) :
    s.dipBegin acfail mv = (s.dipOpened (acfail && s.acfailPin) mv).inputsRaised (acfail && s.acfailPin) (decide (mv < 10200)) := by
  have hstarts : ¬ ((!(acfail && s.acfailPin)) = true ∧ (!decide (mv < 10200)) = true) := by
    rcases h with ⟨ha, hp⟩ | h
    · simp [ha, hp]
    · simp [h]
  exact if_neg hstarts

theorem inputsRaised_keeps (s : State) (ac low : Bool) : Keeps E plumbWord s (s.inputsRaised ac low) := by
  have hac : Keeps E plumbWord s (if ac then s.condOn Ev.ACFAIL else s) := .ite ((Keeps.refl s).condOn plumb_self _ _ _) (.refl s)
  exact .ite (hac.condOn plumb_self _ _ _) hac

theorem onTherm_inputs (s : State) (f : Therm → Therm) (hf : sansInputs { s with therm := f s.therm } = sansInputs s) :
    Keeps sansInputs W s (s.onTherm f) := by
  refine ⟨?_, fun _ _ => rfl⟩
  calc
    sansInputs (s.onTherm f).unnoticed = { s.unnoticed with therm := (sansInputs { s with therm := f s.therm }).therm } := rfl
    _ = _ := by rw [hf]; rfl

theorem dipOpened_keeps (s : State) (ac : Bool) (mv : Nat) : Keeps sansInputs dipWord s (s.dipOpened ac mv) :=
  ((onTherm_inputs s _ rfl).trans (inputsShown_keeps _ rfl)).wr _ _ rfl

theorem dipOpened_rd (s : State) (ac : Bool) (mv : Nat) : (s.dipOpened ac mv).rd R.SUP_STATE_DIP = 1 ∧
    (s.dipOpened ac mv).rd R.SUP_STATE_ACFAIL = b2n (s.therm.acfail || ac) ∧
    (s.dipOpened ac mv).rd R.SUP_STATE_VIN_WARN = b2n (s.therm.vinWarn || decide (mv < 10200)) := by
  obtain ⟨hac, hvin, -⟩ := inputsShown_rd (s.onTherm (fun th => th.dipBegun s.time ac mv))
  unfold State.dipOpened
  rw [rd_wr_same _ _ _ rfl, rd_wr_apart _ _ _ _ rfl rfl, rd_wr_apart _ _ _ _ rfl rfl, hac, hvin]
  exact ⟨rfl, rfl, rfl⟩

/-- What DIP_START shows, of a dip that it opens. -/
theorem exec_dipStart (s : State) (ac : Bool) (mv : Nat) (hp : s.powered = true) (h : (ac = true ∧ s.acfailPin = true) ∨ mv < 10200) :
    exec (.dipStart ac mv) s = .next (((s.dipOpened (ac && s.acfailPin) mv).inputsRaised (ac && s.acfailPin)
      (decide (mv < 10200))).speedDemand).latch := by
  show execDipStart ac mv s = _
  unfold execDipStart
  rw [if_pos (by simp [State.watched, hp]), dipBegin_eq s ac mv h, State.done]

theorem dipStart_keeps (s : State) (ac low : Bool) (mv : Nat) :
    Keeps sansInputs dipWord s ((s.dipOpened ac mv).inputsRaised ac low).speedDemand :=
  ((dipOpened_keeps s ac mv).trans ((inputsRaised_keeps _ ac low).mono (fun _ => rfl)
    (by simp +contextual [dipWord]))).trans (speedDemand_shows rfl _)

/-- What the inputs raise leaves them as they are shown. -/
theorem dipStart_rest (u : State) (ac low : Bool) :
    Keeps id (fun a => a == R.SD_NOW || plumbWord a) u (u.inputsRaised ac low).speedDemand :=
  ((inputsRaised_keeps u ac low).mono (fun _ => rfl) (by simp +contextual)).trans (speedDemand_shows rfl _)

theorem dipStart_warning (u : State) (ac : Bool) : ((u.inputsRaised ac true).speedDemand).condActive Ev.VIN_WARNING 0 = true :=
  condOn_active _ _ _ _

/-! ## The release of the inputs (R439) -/

/-- The two inputs after a release. -/
def Therm.released (th : Therm) (ac vin : Bool) : Therm := { th with acfail := th.acfail && !ac, vinWarn := th.vinWarn && !vin }

/-- The inputs after a release, before their conditions end. -/
def State.inputsReleased (s : State) (ac vin : Bool) : State := (s.onTherm (·.released ac vin)).inputsShown

theorem dipRelease_rest (s : State) (ac vin : Bool) : Keeps E plumbWord (s.inputsReleased ac vin) (s.dipRelease ac vin) := by
  have hac : Keeps E plumbWord (s.inputsReleased ac vin)
      (if ac then (s.inputsReleased ac vin).condOff Ev.ACFAIL else s.inputsReleased ac vin) :=
    .ite ((Keeps.refl _).condOff plumb_self _ _ _) (.refl _)
  exact .ite (hac.condOff plumb_self _ _ _) hac

theorem dipRelease_keeps (s : State) (ac vin : Bool) : Keeps sansInputs dipWord s (s.dipRelease ac vin) :=
  ((onTherm_inputs s _ rfl).trans (inputsShown_keeps _ rfl)).trans ((dipRelease_rest s ac vin).mono (fun _ => rfl)
    (by simp +contextual [dipWord]))

theorem dipRelease_therm (s : State) (ac vin : Bool) : (s.dipRelease ac vin).therm = s.therm.released ac vin :=
  ((dipRelease_rest (E := sansKick) s ac vin).therm).trans rfl

theorem dipRelease_rd (s : State) (ac vin : Bool) :
    (s.dipRelease ac vin).rd R.SUP_STATE_ACFAIL = b2n (s.therm.acfail && !ac) ∧
    (s.dipRelease ac vin).rd R.SUP_STATE_VIN_WARN = b2n (s.therm.vinWarn && !vin) ∧
    (s.dipRelease ac vin).rd R.SUP_STATE_DIP = s.rd R.SUP_STATE_DIP := by
  have hrest := dipRelease_rest (E := id) s ac vin
  rw [hrest.rd _ rfl, hrest.rd _ rfl, hrest.rd _ rfl]
  exact inputsShown_rd (s.onTherm (·.released ac vin))

/-! ## The end of a dip (R439, R443) -/

/-- The dip that has ended. -/
def Therm.dipClosed (th : Therm) (now : Nat) : Therm :=
  { th with dipStart := none, dipUnder := false, dipStopped := false, dipEnded := if th.dipStopped then some now else th.dipEnded }

/-- What the closing of a dip shows. -/
def State.dipShown (s : State) (us : Nat) : State := ((s.onTherm (·.dipClosed s.time)).wr R.SUP_STATE_DIP 0).wr R.SUP_LAST_DIP_US us

/-- A dip of `d` ticks closes: DIP clears, its length `us` is shown, its bin counts. -/
def State.dipClosed (s : State) (d us : Nat) : State := (s.dipShown us).binDip (dipBin d)

/-- The length of a dip of `d` ticks as SUP_LAST_DIP shows it. -/
def dipMicros (d : Nat) : Nat := min 16777215 (d / 200)

theorem dipMicros_lt (d : Nat) : dipMicros d < 2 ^ 24 := by
  unfold dipMicros
  omega

/-- A dip of `d` ticks counts as ridden. -/
def State.ridCounted (s : State) (d : Nat) : State :=
  ((s.addSat R.SUP_DIPS_RIDDEN 1).lifeAdd 0x0C4 4 1).raise Ev.DIP_RIDDEN 0 (d / 200)

theorem dipOver_eq (s : State) (ridden : Bool) {t0 : Nat} (h : s.therm.dipStart = some t0) :
    s.dipOver ridden =
      (if ridden then (s.dipClosed (s.time - t0) (dipMicros (s.time - t0))).ridCounted (s.time - t0) else s.dipClosed (s.time - t0) (dipMicros (s.time - t0))).flashKick := by
  unfold State.dipOver
  rw [h]
  rfl

theorem dipBin_lt (d : Nat) : dipBin d < 8 := by
  unfold dipBin
  (repeat' split) <;> decide

/-- The words of a dip that ends in bin `i`. -/
def dipEndWord (i a : Nat) : Bool :=
  dipWord a || engineWord a || a == R.SUP_LAST_DIP || a == R.SUP_DIPS || a == R.DIP_HIST i

theorem dipEndWord_plumb {i : Nat} (a : Nat) (h : plumbWord a = true) : dipEndWord i a = true := by simp [dipEndWord, dipWord, h]

theorem dipEndWord_mem {i a : Nat} (h : dipEndWord i a = true) :
    a ∈ [R.SUP_STATE, R.SD_NOW, R.SUP_LAST_DIP, R.SUP_DIPS, R.DIP_HIST i, R.NVM_ERR, R.NVM_OP] ++ eventWords := by
  simp only [dipEndWord, engineWord, dipWord, Bool.or_eq_true, beq_iff_eq] at h
  simp only [List.mem_append, List.mem_cons]
  rcases h with ((((h | h) | h) | h) | h) | h
  · tauto
  · exact .inr (plumbWord_mem_eventWords h)
  · rcases h with (h | h) | h
    · tauto
    · tauto
    · exact .inr (plumbWord_mem_eventWords h)
  · tauto
  · tauto
  · tauto

/-- No register of a dip lies on the bins of the histogram, nor do those of the flash engine and of events. -/
theorem dipHist_apart : ∀ i < 8, engineWord (R.DIP_HIST i) = false ∧ plumbWord (R.DIP_HIST i) = false ∧ R.DIP_HIST i ≠ R.SUP_STATE ∧
    R.DIP_HIST i ≠ R.SUP_LAST_DIP ∧ R.DIP_HIST i ≠ R.SUP_DIPS ∧ R.DIP_HIST i ≠ R.SD_NOW := by decide

theorem onTherm_dipClosed (s : State) (now : Nat) : Keeps sansDip W s (s.onTherm (·.dipClosed now)) := ⟨rfl, fun _ _ => rfl⟩

theorem dipClosed_keeps (s : State) (d us : Nat) : Keeps sansDip (dipEndWord (dipBin d)) s (s.dipClosed d us) :=
  ((((onTherm_dipClosed s s.time).wr _ _ rfl).wr _ _ rfl).wr (R.DIP_HIST_COUNT (dipBin d)) _ (by simp [dipEndWord])).lifeAdd _ _ _

theorem ridCounted_keeps (s : State) (d i : Nat) : Keeps E (dipEndWord i) s (s.ridCounted d) :=
  (((Keeps.refl s).wr R.SUP_DIPS_RIDDEN _ rfl).lifeAdd _ _ _).raise dipEndWord_plumb _ _ _

theorem dipOver_keeps (s : State) (ridden : Bool) {t0 : Nat} (h : s.therm.dipStart = some t0) :
    Keeps sansDip (dipEndWord (dipBin (s.time - t0))) s (s.dipOver ridden) := by
  rw [dipOver_eq s ridden h]
  have hcounted : Keeps sansDip (dipEndWord (dipBin (s.time - t0))) (s.dipClosed (s.time - t0) (dipMicros (s.time - t0)))
      (if ridden then (s.dipClosed (s.time - t0) (dipMicros (s.time - t0))).ridCounted (s.time - t0) else s.dipClosed (s.time - t0) (dipMicros (s.time - t0))) :=
    .ite (ridCounted_keeps _ _ _) (.refl _)
  exact ((dipClosed_keeps s _ _).trans hcounted).trans ((flashKick_keeps _).mono (fun _ => rfl) (by simp +contextual [dipEndWord]))

/-- What follows the closing of a dip changes neither heat and supply nor a word but RIDDEN. -/
theorem dipOver_rest (s : State) (ridden : Bool) {t0 : Nat} (h : s.therm.dipStart = some t0) :
    Keeps sansKick (fun a => a == R.SUP_DIPS || engineWord a) (s.dipClosed (s.time - t0) (dipMicros (s.time - t0))) (s.dipOver ridden) := by
  rw [dipOver_eq s ridden h]
  have hplumb : ∀ a, plumbWord a = true → (a == R.SUP_DIPS || engineWord a) = true := fun a ha => by simp [engineWord, ha]
  refine Keeps.trans (.ite ?_ (.refl _)) ((flashKick_keeps _).mono (fun _ => rfl) (by simp +contextual))
  exact (((Keeps.refl _).wr R.SUP_DIPS_RIDDEN _ rfl).lifeAdd _ _ _).raise hplumb _ _ _

theorem dipOver_therm (s : State) (ridden : Bool) {t0 : Nat} (h : s.therm.dipStart = some t0) :
    (s.dipOver ridden).therm = s.therm.dipClosed s.time :=
  (dipOver_rest s ridden h).therm

theorem dipShown_rd (s : State) (us : Nat) (hus : us < 2 ^ 24) : (s.dipShown us).rd R.SUP_STATE_DIP = 0 ∧
    (s.dipShown us).rd R.SUP_LAST_DIP_US = us ∧ (s.dipShown us).rd R.SUP_STATE_ACFAIL = s.rd R.SUP_STATE_ACFAIL ∧
    (s.dipShown us).rd R.SUP_STATE_VIN_WARN = s.rd R.SUP_STATE_VIN_WARN := by
  unfold State.dipShown
  refine ⟨?_, ?_, ?_, ?_⟩
  · rw [rd_wr_word _ _ _ _ (by decide), rd_wr_same _ _ _ rfl, Nat.zero_mod]
  · rw [rd_wr_same _ _ _ rfl]
    exact Nat.mod_eq_of_lt hus
  · rw [rd_wr_word _ _ _ _ (by decide), rd_wr_apart _ _ _ _ rfl rfl, onTherm_rd]
  · rw [rd_wr_word _ _ _ _ (by decide), rd_wr_apart _ _ _ _ rfl rfl, onTherm_rd]

theorem dipShown_word (s : State) (us : Nat) (f : Field) (hstate : f.addr ≠ R.SUP_STATE) (hlast : f.addr ≠ R.SUP_LAST_DIP) :
    (s.dipShown us).rd f = s.rd f := by
  unfold State.dipShown
  rw [rd_wr_word _ _ _ _ hlast, rd_wr_word _ _ _ _ hstate, onTherm_rd]

theorem dipClosed_shown (s : State) (d us : Nat) (f : Field) (hf : f.addr ≠ R.DIP_HIST (dipBin d)) :
    (s.dipClosed d us).rd f = (s.dipShown us).rd f := by
  rw [State.dipClosed, State.binDip, rd_lifeAdd, State.inc, State.add, rd_wr_word _ _ _ _ hf]

theorem dipClosed_rd (s : State) (d us : Nat) (hus : us < 2 ^ 24) : (s.dipClosed d us).rd R.SUP_STATE_DIP = 0 ∧
    (s.dipClosed d us).rd R.SUP_LAST_DIP_US = us ∧
    (s.dipClosed d us).rd R.SUP_STATE_ACFAIL = s.rd R.SUP_STATE_ACFAIL ∧
    (s.dipClosed d us).rd R.SUP_STATE_VIN_WARN = s.rd R.SUP_STATE_VIN_WARN := by
  obtain ⟨-, -, hstate, hlast, -, -⟩ := dipHist_apart (dipBin d) (dipBin_lt d)
  rw [dipClosed_shown _ _ _ _ hstate.symm, dipClosed_shown _ _ _ _ hlast.symm, dipClosed_shown _ _ _ _ hstate.symm,
    dipClosed_shown _ _ _ _ hstate.symm]
  exact dipShown_rd s us hus

theorem dipClosed_ridden (s : State) (d us : Nat) : (s.dipClosed d us).rd R.SUP_DIPS_RIDDEN = s.rd R.SUP_DIPS_RIDDEN := by
  obtain ⟨-, -, -, -, hdips, -⟩ := dipHist_apart (dipBin d) (dipBin_lt d)
  rw [dipClosed_shown _ _ _ _ hdips.symm, dipShown_word _ _ _ (by decide) (by decide)]

theorem dipClosed_bin (s : State) (d us : Nat) :
    (s.dipClosed d us).rd (R.DIP_HIST_COUNT (dipBin d)) = (s.rd (R.DIP_HIST_COUNT (dipBin d)) + 1) % 2 ^ 32 := by
  obtain ⟨-, -, hstate, hlast, -, -⟩ := dipHist_apart (dipBin d) (dipBin_lt d)
  rw [← dipShown_word s us (R.DIP_HIST_COUNT (dipBin d)) hstate hlast]
  rw [State.dipClosed, State.binDip, rd_lifeAdd]
  exact rd_inc (s.dipShown us) (R.DIP_HIST_COUNT (dipBin d)) rfl

theorem dipOver_rd (s : State) (ridden : Bool) {t0 : Nat} (h : s.therm.dipStart = some t0) (f : Field) (hdips : f.addr ≠ R.SUP_DIPS)
    (hf : engineWord f.addr = false) : (s.dipOver ridden).rd f = (s.dipClosed (s.time - t0) (dipMicros (s.time - t0))).rd f :=
  (dipOver_rest s ridden h).rd f (by simp [hdips, hf])

theorem dipOver_ridden (s : State) {t0 : Nat} (h : s.therm.dipStart = some t0) :
    (s.dipOver true).rd R.SUP_DIPS_RIDDEN = min 65535 (s.rd R.SUP_DIPS_RIDDEN + 1) := by
  rw [dipOver_eq s true h, if_pos rfl, (flashKick_keeps _).rd _ rfl]
  unfold State.ridCounted State.addSat
  rw [raise_rd _ _ _ _ _ rfl, rd_lifeAdd, rd_wr_same _ _ _ rfl, dipClosed_ridden]
  show min 65535 (s.rd R.SUP_DIPS_RIDDEN + 1) % 65536 = _
  exact Nat.mod_eq_of_lt (by omega)

/-! ## The three operations -/

theorem dipStart_shows (s : State) (ac : Bool) (mv : Nat) (hp : s.powered = true) (h : (ac = true ∧ s.acfailPin = true) ∨ mv < 10200) :
    ∃ t, exec (.dipStart ac mv) s = .next t ∧ t.therm.dipStart = some (s.therm.dipStart.getD s.time) ∧
      t.rd R.SUP_STATE_DIP = 1 ∧ t.rd R.SUP_STATE_ACFAIL = b2n (s.therm.acfail || (ac && s.acfailPin)) ∧
      t.rd R.SUP_STATE_VIN_WARN = b2n (s.therm.vinWarn || decide (mv < 10200)) ∧
      (mv < 10200 → t.condActive Ev.VIN_WARNING 0 = true) ∧ Keeps sansInputs dipWord s t := by
  refine ⟨_, exec_dipStart s ac mv hp h, ?_, ?_, ?_, ?_, fun hlow => ?_, (dipStart_keeps s _ _ mv).latch⟩
  all_goals have hrest := dipStart_rest (s.dipOpened (ac && s.acfailPin) mv) (ac && s.acfailPin) (decide (mv < 10200))
  all_goals obtain ⟨hdip, hac, hvin⟩ := dipOpened_rd s (ac && s.acfailPin) mv
  · simp only [latch_frame]
    exact congrArg Therm.dipStart ((hrest.mono (E' := sansKick) (fun _ => rfl) fun _ h => h).therm)
  · rw [latch_rd, hrest.rd _ rfl, hdip]
  · rw [latch_rd, hrest.rd _ rfl, hac]
  · rw [latch_rd, hrest.rd _ rfl, hvin]
  · rw [decide_eq_true hlow]
    have hwarning := dipStart_warning (s.dipOpened (ac && s.acfailPin) mv) (ac && s.acfailPin)
    rw [State.condActive] at hwarning ⊢
    simpa only [latch_frame] using hwarning

/-- The dip in progress after the release of inputs. -/
theorem dipRelease_start (s : State) (ac vin : Bool) : (s.dipRelease ac vin).therm.dipStart = s.therm.dipStart := by
  rw [dipRelease_therm]
  rfl

/-- The state after the release of the last inputs of a dip, which then ends. -/
def State.dipFinished (s : State) (ac vin ridden : Bool) : State := ((s.dipRelease ac vin).dipOver ridden).speedDemand

theorem exec_dipRidden (s : State) (hp : s.powered = true) (hr : s.dipRidable = true) :
    exec .dipRidden s = .next (s.dipFinished true true true).latch := by
  show execDipRidden s = _
  unfold execDipRidden
  rw [if_pos ⟨by simp [State.watched, hp], hr⟩]
  rfl


theorem dipRelease_time (s : State) (ac vin : Bool) : (s.dipRelease ac vin).time = s.time := by
  have h := (dipRelease_keeps s ac vin).1
  show (sansInputs (s.dipRelease ac vin).unnoticed).time = (sansInputs s.unnoticed).time
  rw [h]

theorem dipRelease_word (s : State) (ac vin : Bool) (f : Field) (hf : dipWord f.addr = false) : (s.dipRelease ac vin).rd f = s.rd f :=
  (dipRelease_keeps s ac vin).rd f hf

section
variable (s : State) (ac vin ridden : Bool) {t0 : Nat} (h : s.therm.dipStart = some t0)
include h

theorem dipFinished_keeps : Keeps sansDip (dipEndWord (dipBin (s.time - t0))) s (s.dipFinished ac vin ridden) := by
  have hover := dipOver_keeps (s.dipRelease ac vin) ridden ((dipRelease_start s ac vin).trans h)
  rw [dipRelease_time] at hover
  have hrelease : Keeps sansDip (dipEndWord (dipBin (s.time - t0))) s (s.dipRelease ac vin) :=
    (dipRelease_keeps s ac vin).mono (fun _ => rfl) (by simp +contextual [dipEndWord])
  exact (hrelease.trans hover).trans (speedDemand_shows rfl _)

theorem dipFinished_therm : (s.dipFinished ac vin ridden).therm = (s.therm.released ac vin).dipClosed s.time := by
  have hover := dipOver_therm (s.dipRelease ac vin) ridden ((dipRelease_start s ac vin).trans h)
  rw [dipRelease_time, dipRelease_therm] at hover
  exact hover

theorem dipFinished_shown (f : Field) (hsd : f.addr ≠ R.SD_NOW) (hdips : f.addr ≠ R.SUP_DIPS) (hf : engineWord f.addr = false) :
    (s.dipFinished ac vin ridden).rd f =
      ((s.dipRelease ac vin).dipClosed (s.time - t0) (dipMicros (s.time - t0))).rd f := by
  have hover := dipOver_rd (s.dipRelease ac vin) ridden ((dipRelease_start s ac vin).trans h) f hdips hf
  rw [dipRelease_time] at hover
  rw [← hover]
  exact (speedDemand_shows (E := id) (W := fun a => a == R.SD_NOW) rfl _).rd f (by simpa using hsd)

theorem dipFinished_rd : (s.dipFinished ac vin ridden).rd R.SUP_STATE_DIP = 0 ∧
    (s.dipFinished ac vin ridden).rd R.SUP_LAST_DIP_US = min 16777215 ((s.time - t0) / 200) ∧
    (s.dipFinished ac vin ridden).rd R.SUP_STATE_ACFAIL = b2n (s.therm.acfail && !ac) ∧
    (s.dipFinished ac vin ridden).rd R.SUP_STATE_VIN_WARN = b2n (s.therm.vinWarn && !vin) := by
  have hshown := dipFinished_shown s ac vin ridden h
  obtain ⟨hdip, hlast, hac, hvin⟩ :=
    dipClosed_rd (s.dipRelease ac vin) (s.time - t0) (dipMicros (s.time - t0)) (dipMicros_lt _)
  obtain ⟨hac', hvin', -⟩ := dipRelease_rd s ac vin
  rw [hshown _ (by decide) (by decide) rfl, hshown _ (by decide) (by decide) rfl, hshown _ (by decide) (by decide) rfl,
    hshown _ (by decide) (by decide) rfl, hdip, hlast, hac, hvin, hac', hvin']
  exact ⟨rfl, rfl, rfl, rfl⟩

theorem dipFinished_bin : (s.dipFinished ac vin ridden).rd (R.DIP_HIST_COUNT (dipBin (s.time - t0))) =
    (s.rd (R.DIP_HIST_COUNT (dipBin (s.time - t0))) + 1) % 2 ^ 32 := by
  obtain ⟨hengine, hplumb, hstate, hlast, hdips, hsd⟩ := dipHist_apart (dipBin (s.time - t0)) (dipBin_lt _)
  rw [dipFinished_shown s ac vin ridden h _ hsd hdips hengine, dipClosed_bin, dipRelease_word _ _ _ _ (by simp [dipWord, hstate, hsd, hplumb])]

theorem dipFinished_ridden : (s.dipFinished ac vin true).rd R.SUP_DIPS_RIDDEN = min 65535 (s.rd R.SUP_DIPS_RIDDEN + 1) := by
  have hover := dipOver_ridden (s.dipRelease ac vin) ((dipRelease_start s ac vin).trans h)
  rw [dipRelease_word _ _ _ _ rfl] at hover
  rw [← hover]
  exact (speedDemand_shows (E := id) (W := fun a => a == R.SD_NOW) rfl _).rd _ rfl

end

/-- SPEED_DEMAND alone. -/
def dipTailWord (a : Nat) : Bool := a == R.SD_NOW

/-- What a release shows where no dip ends: an input is left, or none was in progress. -/
theorem dipRelease_shows (s : State) (ac vin : Bool) (t : State) (ht : Keeps sansKick dipTailWord (s.dipRelease ac vin) t) :
    t.therm = s.therm.released ac vin ∧ t.rd R.SUP_STATE_ACFAIL = b2n (s.therm.acfail && !ac) ∧
    t.rd R.SUP_STATE_VIN_WARN = b2n (s.therm.vinWarn && !vin) ∧ t.rd R.SUP_STATE_DIP = s.rd R.SUP_STATE_DIP ∧
    sansDip t.unnoticed = sansDip s.unnoticed := by
  obtain ⟨hac, hvin, hdip⟩ := dipRelease_rd s ac vin
  rw [ht.therm, ht.rd _ rfl, ht.rd _ rfl, ht.rd _ rfl, hac, hvin, hdip, dipRelease_therm]
  have hframe : Keeps sansDip (fun _ => true) s t :=
    ((dipRelease_keeps s ac vin).mono (fun _ => rfl) (by simp)).trans (ht.mono (fun _ => rfl) (by simp))
  exact ⟨rfl, rfl, rfl, rfl, hframe.1⟩

theorem dipFinished_none (s : State) (ac vin ridden : Bool) (h : s.therm.dipStart = none) :
    s.dipFinished ac vin ridden = (s.dipRelease ac vin).speedDemand := by
  have hover : (s.dipRelease ac vin).dipOver ridden = s.dipRelease ac vin := by
    unfold State.dipOver
    rw [dipRelease_start, h]
  rw [State.dipFinished, hover]

/-- The state after DIP_END, before statuses latch. -/
def State.dipEndDone (s : State) (ac vin : Bool) : State :=
  if (s.dipRelease ac vin).therm.acfail ∨ (s.dipRelease ac vin).therm.vinWarn then s.dipRelease ac vin
  else s.dipFinished ac vin (s.dipRelease ac vin).dipRidable

theorem exec_dipEnd (s : State) (ac vin : Bool) (hp : s.powered = true) :
    exec (.dipEnd ac vin) s = .next (s.dipEndDone ac vin).latch := by
  show execDipEnd ac vin s = _
  unfold execDipEnd
  rw [if_neg (by simp [State.watched, hp])]
  rfl

theorem dipRelease_inputs (s : State) (ac vin : Bool) : (s.dipRelease ac vin).therm.acfail = (s.therm.acfail && !ac) ∧
    (s.dipRelease ac vin).therm.vinWarn = (s.therm.vinWarn && !vin) := by
  rw [dipRelease_therm]
  exact ⟨rfl, rfl⟩

/-- An input is left, or none was in progress: the inputs are shown and the dip stays as it is. Else it ends. -/
theorem dipEndDone_cases (s : State) (ac vin : Bool) :
    (Keeps sansKick dipTailWord (s.dipRelease ac vin) (s.dipEndDone ac vin) ∧
      ∀ t0, (s.therm.acfail && !ac) = false → (s.therm.vinWarn && !vin) = false → s.therm.dipStart ≠ some t0) ∨
    ∃ ridden t0, (s.therm.acfail && !ac) = false ∧ (s.therm.vinWarn && !vin) = false ∧ s.therm.dipStart = some t0 ∧
      s.dipEndDone ac vin = s.dipFinished ac vin ridden := by
  obtain ⟨hac, hvin⟩ := dipRelease_inputs s ac vin
  unfold State.dipEndDone
  rw [hac, hvin]
  by_cases hopen : (s.therm.acfail && !ac) = true ∨ (s.therm.vinWarn && !vin) = true
  · rw [if_pos hopen]
    refine .inl ⟨.refl _, fun t0 ha hv => ?_⟩
    rw [ha, hv] at hopen
    exact absurd hopen (by decide)
  · rw [if_neg hopen]
    obtain ⟨ha, hv⟩ := not_or.1 hopen
    cases h : s.therm.dipStart with
    | none =>
      rw [dipFinished_none _ _ _ _ h]
      exact .inl ⟨speedDemand_shows rfl _, fun t0 _ _ => by simp⟩
    | some t0 => exact .inr ⟨_, t0, Bool.eq_false_iff.2 ha, Bool.eq_false_iff.2 hv, rfl, rfl⟩

theorem dipEndDone_shows (s : State) (ac vin : Bool) :
    (s.dipEndDone ac vin).therm.acfail = (s.therm.acfail && !ac) ∧ (s.dipEndDone ac vin).therm.vinWarn = (s.therm.vinWarn && !vin) ∧
    (s.dipEndDone ac vin).rd R.SUP_STATE_ACFAIL = b2n (s.therm.acfail && !ac) ∧
    (s.dipEndDone ac vin).rd R.SUP_STATE_VIN_WARN = b2n (s.therm.vinWarn && !vin) ∧
    ((s.therm.acfail && !ac) = true ∨ (s.therm.vinWarn && !vin) = true →
      (s.dipEndDone ac vin).therm.dipStart = s.therm.dipStart ∧ (s.dipEndDone ac vin).rd R.SUP_STATE_DIP = s.rd R.SUP_STATE_DIP) ∧
    (∀ t0, (s.therm.acfail && !ac) = false → (s.therm.vinWarn && !vin) = false → s.therm.dipStart = some t0 →
      (s.dipEndDone ac vin).therm.dipStart = none ∧ (s.dipEndDone ac vin).rd R.SUP_STATE_DIP = 0 ∧
      (s.dipEndDone ac vin).rd R.SUP_LAST_DIP_US = min 16777215 ((s.time - t0) / 200)) ∧
    sansDip (s.dipEndDone ac vin).unnoticed = sansDip s.unnoticed := by
  rcases dipEndDone_cases s ac vin with ⟨hkeeps, hnone⟩ | ⟨ridden, t0, ha, hv, hstart, heq⟩
  · obtain ⟨hth, hac, hvin, hdip, hframe⟩ := dipRelease_shows s ac vin _ hkeeps
    rw [hth, hac, hvin, hdip]
    exact ⟨rfl, rfl, rfl, rfl, fun _ => ⟨rfl, rfl⟩, fun t0 ha hv h => absurd h (hnone t0 ha hv), hframe⟩
  · obtain ⟨hdip, hlast, hac, hvin⟩ := dipFinished_rd s ac vin ridden hstart
    rw [heq, dipFinished_therm s ac vin ridden hstart, hdip, hlast, hac, hvin]
    refine ⟨rfl, rfl, rfl, rfl, fun hopen => ?_, fun t1 _ _ h => ?_, (dipFinished_keeps s ac vin ridden hstart).1⟩
    · rw [ha, hv] at hopen
      exact absurd hopen (by decide)
    · rw [hstart] at h
      obtain rfl := Option.some.inj h
      exact ⟨rfl, rfl, rfl⟩

/-- Settles O18: a dip begins with `dipOpened`, its inputs release with `inputsReleased`, and it ends with `dipClosed`; the rest raises,
counts and lets the flash go on. -/
theorem dips : Obligations.Dips := by
  refine ⟨fun s ac mv hp h => ?_, fun s t0 hp hr h => ?_, fun s ac vin hp => ?_⟩
  · obtain ⟨t, hrun, hstart, hdip, hac, hvin, hwarning, hkeeps⟩ := dipStart_shows s ac mv hp h
    exact ⟨t, hrun, hstart, hdip, hac, hvin, hwarning, eq_of_sansInputs hkeeps.1, fun a ha =>
      hkeeps.2 a (Bool.eq_false_iff.2 fun hw => ha (dipWord_mem hw))⟩
  · obtain ⟨hdip, hlast, hac, hvin⟩ := dipFinished_rd s true true true h
    have hkeeps := (dipFinished_keeps s true true true h).latch
    refine ⟨_, exec_dipRidden s hp hr, ?_, ?_, ?_, ?_, ?_, ?_, ?_, eq_of_sansDip hkeeps.1, fun a ha =>
      hkeeps.2 a (Bool.eq_false_iff.2 fun hw => ha (dipEndWord_mem hw))⟩
    · simp only [latch_frame]
      rw [dipFinished_therm s true true true h]
      rfl
    · rw [latch_rd, hdip]
    · rw [latch_rd, hac, Bool.not_true, Bool.and_false]
      rfl
    · rw [latch_rd, hvin, Bool.not_true, Bool.and_false]
      rfl
    · rw [latch_rd, hlast]
    · rw [latch_rd, dipFinished_ridden s true true h]
    · rw [latch_rd, dipFinished_bin s true true true h]
  · obtain ⟨hac, hvin, hacr, hvinr, hleft, hends, hframe⟩ := dipEndDone_shows s ac vin
    have htherm : (s.dipEndDone ac vin).latch.therm = (s.dipEndDone ac vin).therm := by simp only [latch_frame]
    have hframe' : sansDip (s.dipEndDone ac vin).latch.unnoticed = sansDip s.unnoticed := by rw [latch_unnoticed, hframe]
    refine ⟨_, exec_dipEnd s ac vin hp, ?_, ?_, ?_, ?_, ?_, ?_, eq_of_sansDip hframe'⟩
    · rw [htherm, hac]
    · rw [htherm, hvin]
    · rw [latch_rd, htherm, hac, hacr]
    · rw [latch_rd, htherm, hvin, hvinr]
    · rw [latch_rd, htherm, hac, hvin]
      exact hleft
    · rw [latch_rd, latch_rd, htherm, hac, hvin]
      exact hends

/-- In Day, VIN falls to 9.5 V, and no pin carries ACFAIL_N. -/
theorem dipStart_witness : ∃ t, exec (.dipStart true 9500) dayState = .next t ∧ t.rd R.SUP_STATE_DIP = 1 := by
  obtain ⟨t, hrun, -, hdip, -⟩ := dips.1 dayState true 9500 rfl (.inr (by decide))
  exact ⟨t, hrun, hdip⟩

/-- A dip of 100 µs is ridden. -/
theorem dipRidden_witness : ∃ t, exec .dipRidden { dayState with time := usTicks 100, therm := { dipStart := some 0 } } = .next t ∧
    t.rd R.SUP_LAST_DIP_US = 100 := by
  obtain ⟨t, hrun, -, -, -, -, hlast, -⟩ :=
    dips.2.1 { dayState with time := usTicks 100, therm := { dipStart := some 0 } } 0 rfl (by decide +kernel) rfl
  exact ⟨t, hrun, hlast.trans (by decide)⟩

end Sys2Proof.Machine
end

section
/-! PROOFS. The supply stop, its clearing, the current ceiling and the write window (R436, R439, R440, R444, R445). -/

namespace Sys2Proof.Machine

variable {s t : State} {E : State → State} {W : Nat → Bool}

/-! ## A requested stop is active (R219, R220) -/

theorem notPrinted_stopKept (s : State) (num reason : Nat) : (s.notPrinted num reason).stop = s.stop := by
  unfold State.notPrinted
  split
  · rfl
  · next p _ =>
    obtain ⟨u, hrun, -, hkeeps⟩ := complete_raises (W := fun _ => true) (fun _ _ => rfl) s p (.notPrinted reason) fun _ _ => rfl
    have hstop : u.stop = s.stop := (congrArg State.stop hkeeps.1 :)
    simp only [hrun, raise_frame, hstop]

theorem setStop_stopKept (s : State) (k cause : Nat) : (s.setStop k cause).stop = s.stop := by
  unfold State.setStop
  extract_lets p grp s1 s2 s3
  have h1 : s1.stop = s.stop :=
    foldl_keeps State.stop (fun (t : State) j => (t.wr (R.TG_STOP_POS j) (p % 2 ^ 32)).onTg j (fun g => { g with stopP := some p }))
      (fun _ _ => rfl) grp s
  simp only [raise_frame]
  exact h1

theorem stopGroup_stopKept (s : State) (cause k : Nat) : (s.stopGroup cause k).stop = s.stop := by
  unfold State.stopGroup
  split
  · split
    · exact setStop_stopKept s k cause
    · rfl
  · exact setStop_stopKept s k cause

theorem stopActive_active (s : State) (cause : Nat) : (s.stopActive cause).stop = { s.stop with active := true } := by
  unfold State.stopActive
  split
  · next h => rw [← h]
  · rfl

/-- A requested stop is active, and nothing else of the stop changes. -/
theorem requestStop_active (s : State) (cause : Nat) : (s.requestStop cause).stop = { s.stop with active := true } := by
  rw [requestStop_eq]
  calc
    _ = ((s.stopActive cause).stopLeaders.foldl (fun (t : State) k => t.stopGroup cause k) (s.stopActive cause)).stop :=
      foldl_keeps State.stop _ (fun t n => notPrinted_stopKept t n 0x12) _ _
    _ = (s.stopActive cause).stop := foldl_keeps State.stop _ (fun t k => stopGroup_stopKept t cause k) _ _
    _ = _ := stopActive_active s cause

/-- The words of a stop: all from the first compare unit's status up, and what events write. -/
def stopWord (a : Nat) : Bool := decide (0x41014 ≤ a) || plumbWord a

theorem stopWord_stopWords : StopWords stopWord where
  high a ha := by
    have : 0x41014 ≤ a := by omega
    simp [stopWord, this]
  plumb a ha := by simp [stopWord, ha]
  compare k := by simp [stopWord, R.CMP_STATUS]
  position j := by
    have : 0x41014 ≤ R.TG_STOP j := by simp only [R.TG_STOP]; omega
    simp [stopWord, this]
  cause := rfl
  demand := rfl

/-- The frame of a stop requested behind a change of the supply's state. -/
theorem eq_of_sansStop {f : Therm → Therm} {th : Therm} (h : Keeps sansStop W (s.onTherm f) t) (hth : t.therm = th)
    (hstop : t.stop = { s.stop with active := t.stop.active }) :
    t = { s.noticed t with
      pow := { s.pow with lastBusy := t.pow.lastBusy }, therm := th, pieces := t.pieces, ended := t.ended, rejects := t.rejects
      tgs := t.tgs, ring := t.ring, stop := { s.stop with active := t.stop.active }, evid := t.evid, verify := t.verify } := by
  calc
    t = { (sansStop t.unnoticed).noticed t with
      pow := { (sansStop t.unnoticed).pow with lastBusy := t.pow.lastBusy }, therm := t.therm, pieces := t.pieces, ended := t.ended
      rejects := t.rejects, tgs := t.tgs, ring := t.ring, stop := t.stop, evid := t.evid, verify := t.verify } := rfl
    _ = { s.noticed t with
      pow := { s.pow with lastBusy := t.pow.lastBusy }, therm := t.therm, pieces := t.pieces, ended := t.ended, rejects := t.rejects
      tgs := t.tgs, ring := t.ring, stop := t.stop, evid := t.evid, verify := t.verify } := by rw [h.1]; rfl
    _ = _ := by rw [hth, ← hstop]

theorem therm_of_sansStop (h : Keeps sansStop W s t) : t.therm = s.therm := (congrArg State.therm h.1 :)

/-! ## The supply stop (R440) -/

theorem journalDue_due (s : State) {cause : Nat} (h7 : cause ≠ 7) (h8 : cause ≠ 8) : cause ∈ (s.journalDue cause).nvm.due := by
  simp only [State.journalDue, h7, h8, or_self, if_false]
  split
  · next h => simpa using h
  · simp

/-- The supply's state when a dip makes a supply stop. -/
def Therm.stopped (th : Therm) (mv : Nat) : Therm :=
  { th with dipUnder := th.dipUnder || decide (mv < 9000), dipStopped := true, supplyDip := true, dipEnded := none }

/-- SUPPLY_STOP shows the cause, and the stop counts. -/
def State.supplyStopShown (s : State) (mv : Nat) : State :=
  (s.onTherm (·.stopped mv)).supplyFlag.addSat R.SUP_DIPS_STOPS 1

theorem exec_supplyStop (s : State) (mv : Nat) (ha : s.awake = true) (hdip : s.therm.dipStart.isSome = true)
    (hst : s.therm.dipStopped = false) (h : s.dipLong = true ∨ s.therm.dipUnder = true ∨ mv < 9000) :
    exec (.supplyStop mv) s = .next (((s.supplyStopShown mv).requestStop 4).journalDue 6).latch := by
  show execSupplyStop mv s = _
  unfold execSupplyStop
  have hcore : s.coreOn = true := by simp [State.coreOn, ha]
  have hstop : (s.onTherm (fun t => { t with dipUnder := t.dipUnder || decide (mv < 9000) })).dipLong ∨
      (s.onTherm (fun t => { t with dipUnder := t.dipUnder || decide (mv < 9000) })).therm.dipUnder := by
    rcases h with h | h | h
    · exact .inl h
    · exact .inr (by simp [State.onTherm, h])
    · exact .inr (by simp [State.onTherm, h])
  rw [if_neg (by simp [hcore, hst, Option.isSome_iff_ne_none.1 hdip]), if_pos hstop]
  rfl

theorem supplyStopShown_keeps (s : State) (mv : Nat) :
    Keeps E (fun a => a == R.SUP_STATE || a == R.SUP_DIPS) (s.onTherm (·.stopped mv)) (s.supplyStopShown mv) :=
  ((Keeps.refl _).wr _ _ rfl).wr _ _ rfl

theorem addSat_rd (s : State) (f : Field) (n : Nat) (hf : f.fits = true) :
    (s.addSat f n).rd f = min (2 ^ f.width - 1) (s.rd f + n) := by
  unfold State.addSat
  rw [rd_wr_same _ _ _ hf]
  exact Nat.mod_eq_of_lt (Nat.lt_of_le_of_lt (Nat.min_le_left _ _) (Nat.sub_one_lt (Nat.two_pow_pos _).ne'))

theorem supplyFlag_rd (s : State) : s.supplyFlag.rd R.SUP_STATE_SUPPLY_STOP = b2n (s.therm.supplyDip || s.therm.supplyCeil) := by
  unfold State.supplyFlag State.wrB
  rw [rd_wr_same _ _ _ rfl]
  cases s.therm.supplyDip || s.therm.supplyCeil <;> rfl

theorem supplyStopShown_rd (s : State) (mv : Nat) : (s.supplyStopShown mv).rd R.SUP_STATE_SUPPLY_STOP = 1 ∧
    (s.supplyStopShown mv).rd R.SUP_DIPS_STOPS = min 65535 (s.rd R.SUP_DIPS_STOPS + 1) := by
  constructor
  · rw [State.supplyStopShown, State.addSat, rd_wr_word _ _ _ _ (by decide), supplyFlag_rd]
    rfl
  · rw [State.supplyStopShown, addSat_rd _ _ _ rfl, State.supplyFlag, State.wrB, rd_wr_word _ _ _ _ (by decide), onTherm_rd]
    rfl

theorem supplyStopShown_parts (s : State) (mv : Nat) :
    (s.supplyStopShown mv).therm = s.therm.stopped mv ∧ (s.supplyStopShown mv).stop = s.stop := ⟨rfl, rfl⟩

theorem supplyStop_shows (s : State) (mv : Nat) : ∃ t, t = (((s.supplyStopShown mv).requestStop 4).journalDue 6).latch ∧
    t.therm = s.therm.stopped mv ∧ t.rd R.SUP_STATE_SUPPLY_STOP = 1 ∧ t.rd R.SUP_DIPS_STOPS = min 65535 (s.rd R.SUP_DIPS_STOPS + 1) ∧
    t.stop = { s.stop with active := true } ∧ 6 ∈ t.nvm.due ∧ Keeps sansStop (fun _ => true) (s.onTherm (·.stopped mv)) t := by
  have hstop : Keeps sansStop stopWord (s.supplyStopShown mv) (((s.supplyStopShown mv).requestStop 4).journalDue 6).latch :=
    ((requestStop_stop stopWord_stopWords _ 4).journalDue 6).latch
  obtain ⟨hflag, hcount⟩ := supplyStopShown_rd s mv
  obtain ⟨htherm, hshown⟩ := supplyStopShown_parts s mv
  refine ⟨_, rfl, (therm_of_sansStop hstop).trans htherm, ?_, ?_, ?_, ?_, ((supplyStopShown_keeps s mv).mono (E := sansStop) (fun _ => rfl) (by simp)).trans
    (hstop.mono (fun _ => rfl) (by simp))⟩
  · rw [hstop.rd _ (by decide), hflag]
  · rw [hstop.rd _ (by decide), hcount]
  · simp only [latch_frame, journalDue_frame, requestStop_active, hshown]
  · simp only [latch_frame]
    exact journalDue_due _ (by decide) (by decide)

/-! ## The cause clears (R440) -/

/-- The state after SUPPLY_STOP_CLEAR, before statuses latch. -/
def State.supplyCleared (s : State) : State := (s.onTherm (fun t => { t with supplyDip := false, dipEnded := none })).supplyFlag

theorem exec_supplyStopClear (s : State) {e : Nat} (hd : s.therm.supplyDip = true) (he : s.therm.dipEnded = some e)
    (hdue : e + secTicks 1 ≤ s.time) : exec .supplyStopClear s = .next s.supplyCleared.latch := by
  show execSupplyStopClear s = _
  unfold execSupplyStopClear
  have hpast : s.therm.dipEnded.any (fun t => decide (t + secTicks 1 ≤ s.time)) = true := by
    rw [he, Option.any_some]
    exact decide_eq_true hdue
  rw [if_pos ⟨hd, hpast⟩, State.done, State.supplyCleared]

theorem supplyCleared_rd (s : State) : s.supplyCleared.rd R.SUP_STATE_SUPPLY_STOP = b2n s.therm.supplyCeil := by
  rw [State.supplyCleared, supplyFlag_rd]
  rfl

theorem supplyCleared_word (s : State) (a : Nat) (h : a ≠ R.SUP_STATE) : s.supplyCleared.word a = s.word a := word_wr_ne _ _ _ _ h

/-! ## The governor (R444, R445) -/

theorem governor_fits (iin ceil g u : Nat) (hg : g < 32) (hu : u < 128) :
    (governor iin ceil g u).1 < 32 ∧ (governor iin ceil g u).2 < 128 := by
  unfold governor
  (repeat' split) <;> exact ⟨by omega, by omega⟩

/-- What the governor shows of its step. -/
def State.governed (s : State) (r : Nat × Nat) : State :=
  (((s.wr R.CEIL_STATE_G r.1).wr R.CEIL_STATE_U r.2).wrB R.PIN_ERR_CEIL_ACTIVE (decide (r.1 < 16 ∨ r.2 < 64))).cond
    (decide (r.1 < 16 ∨ r.2 < 64)) Ev.CEIL_ACTIVE

/-- The step the governor takes (R444). -/
def State.governorStep (s : State) : Nat × Nat :=
  governor (s.rd R.SUP_IIN_IIN_MA) (s.rd R.VIN_CEIL_CEIL_MA) (s.rd R.CEIL_STATE_G) (s.rd R.CEIL_STATE_U)

/-- The governor's times (R445). -/
def Therm.governed (th : Therm) (now : Nat) (past low : Bool) : Therm :=
  { th with govAt := some now, ceilSince := since past now th.ceilSince, ceilLowSince := since low now th.ceilLowSince }

/-- The ceiling's cause ends. -/
def State.ceilCleared (s : State) : State := (s.onTherm (fun t => { t with supplyCeil := false })).supplyFlag

/-- The ceiling has been kept for 1 s (R445). -/
def State.ceilKept (s : State) (now : Nat) : Bool :=
  s.therm.supplyCeil && (match s.therm.ceilLowSince with
    | some t => decide (t + secTicks 1 ≤ now)
    | none => false)

/-- The ceiling is passed with nothing left to give. -/
def State.ceilPast (s : State) : Bool :=
  decide (s.rd R.VIN_CEIL_CEIL_MA < s.rd R.SUP_IIN_IIN_MA) && decide (s.governorStep = (0, 0))

/-- The current is at most 15/16 of the ceiling. -/
def State.ceilEased (s : State) : Bool := decide (16 * s.rd R.SUP_IIN_IIN_MA ≤ 15 * s.rd R.VIN_CEIL_CEIL_MA)

/-- The governor's step and its times. -/
def State.governorTimed (s : State) : State := (s.governed s.governorStep).onTherm (·.governed s.time s.ceilPast s.ceilEased)

theorem governorRun_eq (s : State) : s.governorRun =
    (if s.governorTimed.ceilKept s.time then s.governorTimed.ceilCleared else s.governorTimed).speedDemand := by
  unfold State.governorRun
  extract_lets iin ceil r on s1 s2 clear
  have h2 : s2 = s.governorTimed := rfl
  have hc : clear = s.governorTimed.ceilKept s.time := by
    rw [← h2]
    rfl
  rw [hc, h2, State.ceilCleared]

theorem governed_keeps (s : State) (r : Nat × Nat) :
    Keeps E (fun a => a == R.CEIL_STATE || a == R.PIN_ERR || plumbWord a) s (s.governed r) :=
  ((((Keeps.refl s).wr _ _ rfl).wr _ _ rfl).wr _ _ rfl).cond (by simp +contextual) _ _ _ _

theorem governed_rd (s : State) {r : Nat × Nat} (hg : r.1 < 2 ^ 5) (hu : r.2 < 2 ^ 7) : (s.governed r).rd R.CEIL_STATE_G = r.1 ∧
    (s.governed r).rd R.CEIL_STATE_U = r.2 ∧ (s.governed r).rd R.PIN_ERR_CEIL_ACTIVE = b2n (decide (r.1 < 16 ∨ r.2 < 64)) := by
  unfold State.governed State.wrB
  refine ⟨?_, ?_, ?_⟩
  · rw [cond_rd _ _ _ _ _ _ rfl, rd_wr_word _ _ _ _ (by decide), rd_wr_apart _ _ _ _ rfl rfl, rd_wr_same _ _ _ rfl]
    exact Nat.mod_eq_of_lt hg
  · rw [cond_rd _ _ _ _ _ _ rfl, rd_wr_word _ _ _ _ (by decide), rd_wr_same _ _ _ rfl]
    exact Nat.mod_eq_of_lt hu
  · rw [cond_rd _ _ _ _ _ _ rfl, rd_wr_same _ _ _ rfl]
    cases decide (r.1 < 16 ∨ r.2 < 64) <;> rfl

theorem governorStep_fits (s : State) : s.governorStep.1 < 2 ^ 5 ∧ s.governorStep.2 < 2 ^ 7 :=
  governor_fits _ _ _ _ (rd_lt s R.CEIL_STATE_G) (rd_lt s R.CEIL_STATE_U)

/-- The state less what the governor settles. -/
def sansGovernor (u : State) : State :=
  { u with therm := { u.therm with ceilLowSince := none, ceilSince := none, govAt := none, supplyCeil := false } }

theorem eq_of_sansGovernor (h : sansGovernor t.unnoticed = sansGovernor s.unnoticed) :
    t = { s.noticed t with
      therm := { s.therm with
        ceilLowSince := t.therm.ceilLowSince, ceilSince := t.therm.ceilSince, govAt := t.therm.govAt
        supplyCeil := t.therm.supplyCeil } } :=
  calc
    t = { (sansGovernor t.unnoticed).noticed t with
      therm := { (sansGovernor t.unnoticed).therm with
        ceilLowSince := t.therm.ceilLowSince, ceilSince := t.therm.ceilSince, govAt := t.therm.govAt
        supplyCeil := t.therm.supplyCeil } } := rfl
    _ = _ := by rw [h]; rfl

/-- The words of a run of the governor. -/
def governorWord (a : Nat) : Bool := a == R.CEIL_STATE || a == R.PIN_ERR || a == R.SD_NOW || a == R.SUP_STATE || plumbWord a

theorem governorWord_mem {a : Nat} (h : governorWord a = true) :
    a ∈ [R.CEIL_STATE, R.PIN_ERR, R.SD_NOW, R.SUP_STATE] ++ eventWords := by
  simp only [governorWord, Bool.or_eq_true, beq_iff_eq] at h
  simp only [List.mem_append, List.mem_cons]
  rcases h with (((h | h) | h) | h) | h
  · tauto
  · tauto
  · tauto
  · tauto
  · exact .inr (plumbWord_mem_eventWords h)

theorem onTherm_governed (s : State) (now : Nat) (past low : Bool) :
    Keeps sansGovernor W s (s.onTherm (·.governed now past low)) := ⟨rfl, fun _ _ => rfl⟩

theorem onTherm_ceilCleared (s : State) : Keeps sansGovernor W s (s.onTherm (fun t => { t with supplyCeil := false })) :=
  ⟨rfl, fun _ _ => rfl⟩

theorem ceilCleared_keeps (s : State) (hW : W R.SUP_STATE = true) : Keeps sansGovernor W s s.ceilCleared :=
  (onTherm_ceilCleared s).wr _ _ hW

theorem governorRun_shows (s : State) : s.governorRun.therm.govAt = some s.time ∧
    Keeps sansGovernor (fun a => a == R.SD_NOW || a == R.SUP_STATE) (s.governed s.governorStep) s.governorRun := by
  have hgov : Keeps sansGovernor (fun a => a == R.SD_NOW || a == R.SUP_STATE) (s.governed s.governorStep) s.governorTimed :=
    onTherm_governed _ _ _ _
  rw [governorRun_eq]
  refine ⟨?_, (hgov.trans (.ite (ceilCleared_keeps _ rfl) (.refl _))).trans (speedDemand_shows rfl _)⟩
  split
  · rfl
  · rfl

theorem governorRun_keeps (s : State) : Keeps sansGovernor governorWord s s.governorRun :=
  ((governed_keeps s _).mono (E := sansGovernor) (fun _ => rfl) (by simp +contextual [governorWord])).trans
    ((governorRun_shows s).2.mono (fun _ => rfl) (by simp +contextual [governorWord]))

theorem exec_ceilGovernor (s : State) (ha : s.awake = true)
    (hdue : s.therm.govAt.any (fun x => decide (s.time < x + usTicks 1000)) = false) :
    exec .ceilGovernor s = .next s.governorRun.latch := by
  show execCeilGovernor s = _
  unfold execCeilGovernor
  rw [if_pos ⟨by simp [State.coreOn, ha], by rw [hdue]; rfl⟩, State.done]

/-! ## The supply stop of the ceiling (R445) -/

/-- SUPPLY_STOP shows the ceiling's cause. -/
def State.ceilStopShown (s : State) : State := (s.onTherm (fun t => { t with supplyCeil := true })).supplyFlag

theorem exec_ceilActive (s : State) (ha : s.awake = true) (hl : s.ceilLost = true) :
    exec .ceilActive s = .next (s.ceilStopShown.requestStop 4).latch := by
  show execCeilActive s = _
  unfold execCeilActive
  rw [if_pos ⟨by simp [State.coreOn, ha], hl⟩]
  rfl

theorem ceilStopShown_rd (s : State) : s.ceilStopShown.rd R.SUP_STATE_SUPPLY_STOP = 1 := by
  rw [State.ceilStopShown, supplyFlag_rd]
  show b2n (s.therm.supplyDip || true) = 1
  rw [Bool.or_true]
  rfl

theorem ceilStopShown_keeps (s : State) :
    Keeps E (fun a => a == R.SUP_STATE) (s.onTherm (fun t => { t with supplyCeil := true })) s.ceilStopShown :=
  (Keeps.refl _).wr _ _ rfl

/-! ## The write window (R436) -/

/-- The state less what the reopening of the write window may change. -/
def sansNvmWindow (u : State) : State := { sansKick u with nvm := { u.nvm.sansKick with windowShut := false } }

theorem eq_of_sansNvmWindow (h : sansNvmWindow t.unnoticed = sansNvmWindow s.unnoticed) :
    t = { s.noticed t with
      nvm := { s.nvm with
        commit := t.nvm.commit, due := t.nvm.due, held := t.nvm.held, jWrite := t.nvm.jWrite
        lastHostFault := t.nvm.lastHostFault, stBodyNew := t.nvm.stBodyNew, stDue := t.nvm.stDue, stPend := t.nvm.stPend
        stWrite := t.nvm.stWrite, windowShut := t.nvm.windowShut } } :=
  calc
    t = { (sansNvmWindow t.unnoticed).noticed t with
      nvm := { (sansNvmWindow t.unnoticed).nvm with
        commit := t.nvm.commit, due := t.nvm.due, held := t.nvm.held, jWrite := t.nvm.jWrite
        lastHostFault := t.nvm.lastHostFault, stBodyNew := t.nvm.stBodyNew, stDue := t.nvm.stDue, stPend := t.nvm.stPend
        stWrite := t.nvm.stWrite, windowShut := t.nvm.windowShut } } := rfl
    _ = _ := by rw [h]; rfl

/-- The write window is open. -/
def State.nvmOpened (s : State) : State := s.onNvm (fun n => { n with windowShut := false })

theorem exec_nvmWindowOpen (s : State) (hp : s.powered = true) (hshut : s.nvm.windowShut = true) (hlo : -352 ≤ s.rdI (R.TS_TEMP 8))
    (hhi : s.rdI (R.TS_TEMP 8) ≤ 1472) : exec .nvmWindowOpen s = .next s.nvmOpened.flashKick.latch := by
  show execNvmWindowOpen s = _
  unfold execNvmWindowOpen State.windowReopen
  simp only [hp, hshut, hlo, hhi, and_self, if_true]
  rfl

theorem nvmOpened_keeps (s : State) : Keeps sansNvmWindow W s s.nvmOpened := ⟨rfl, fun _ _ => rfl⟩

theorem windowShut_of_kick (h : Keeps sansKick W s t) : t.nvm.windowShut = s.nvm.windowShut :=
  (congrArg (fun u : State => u.nvm.windowShut) h.1 :)

theorem engineWord_mem {a : Nat} (h : engineWord a = true) : a ∈ [R.NVM_ERR, R.NVM_OP] ++ eventWords := by
  simp only [engineWord, Bool.or_eq_true, beq_iff_eq] at h
  simp only [List.mem_append, List.mem_cons]
  rcases h with (h | h) | h
  · tauto
  · tauto
  · exact .inr (plumbWord_mem_eventWords h)

/-! ## The statement -/

/-- Settles O19: a stop's request leaves the heat and supply state alone and makes the stop active, whatever it ends; the governor's step
and the write window have their lemmas. -/
theorem supplyStops : Obligations.SupplyStops := by
  refine ⟨fun s mv ha hdip hst h => ?_, fun s e hd he hdue => ?_, fun s ha hdue => ?_, fun s ha hl => ?_, fun s hp hshut hlo hhi => ?_⟩
  · obtain ⟨t, ht, htherm, hflag, hcount, hstop, hjournal, hkeeps⟩ := supplyStop_shows s mv
    refine ⟨t, ht ▸ exec_supplyStop s mv ha hdip hst h, ?_, ?_, hflag, hcount, ?_, hjournal, eq_of_sansStop hkeeps ?_ ?_⟩
    · rw [htherm]
      rfl
    · rw [htherm]
      rfl
    · rw [hstop]
    · rw [htherm]
      rfl
    · rw [hstop]
  · refine ⟨_, exec_supplyStopClear s hd he hdue, ?_, ?_, ?_, ?_, fun a ha => ?_⟩
    · simp only [latch_frame]
      rfl
    · simp only [latch_frame]
      rfl
    · rw [latch_rd, supplyCleared_rd]
    · simp only [latch_frame]
      rw [latch_eq_leaves]
      rfl
    · rw [latch_word, supplyCleared_word _ _ (by simpa using ha)]
  · obtain ⟨hgov, hshown⟩ := governorRun_shows s
    obtain ⟨hgf, huf⟩ := governorStep_fits s
    obtain ⟨hg, hu, hactive⟩ := governed_rd s hgf huf
    have hg' : s.governorRun.latch.rd R.CEIL_STATE_G = s.governorStep.1 := by rw [latch_rd, hshown.rd _ rfl, hg]
    have hu' : s.governorRun.latch.rd R.CEIL_STATE_U = s.governorStep.2 := by rw [latch_rd, hshown.rd _ rfl, hu]
    have hkeeps := (governorRun_keeps s).latch
    refine ⟨_, exec_ceilGovernor s ha hdue, ?_, ?_, ?_, eq_of_sansGovernor hkeeps.1, fun a ha =>
      hkeeps.2 a (Bool.eq_false_iff.2 fun hw => ha (governorWord_mem hw))⟩
    · rw [hg', hu']
      rfl
    · rw [hg', hu', latch_rd, hshown.rd _ rfl, hactive]
    · simp only [latch_frame]
      exact hgov
  · have hstop : Keeps sansStop stopWord s.ceilStopShown (s.ceilStopShown.requestStop 4).latch :=
      (requestStop_stop stopWord_stopWords _ 4).latch
    have htherm : (s.ceilStopShown.requestStop 4).latch.therm = { s.therm with supplyCeil := true } := therm_of_sansStop hstop
    have hactive : (s.ceilStopShown.requestStop 4).latch.stop = { s.stop with active := true } := by
      simp only [latch_frame, requestStop_active]
      rfl
    have hkeeps := ((ceilStopShown_keeps s).mono (E := sansStop) (W' := fun _ => true) (fun _ => rfl) (by simp)).trans
      (hstop.mono (E' := sansStop) (fun _ => rfl) (by simp))
    refine ⟨_, exec_ceilActive s ha hl, ?_, ?_, ?_, eq_of_sansStop hkeeps ?_ ?_⟩
    · rw [htherm]
    · rw [hstop.rd _ (by decide), ceilStopShown_rd]
    · rw [hactive]
    · rw [htherm]
    · rw [hactive]
  · have hkick := flashKick_keeps s.nvmOpened
    have hkeeps := ((nvmOpened_keeps s).trans (hkick.mono (fun _ => rfl) fun _ h => h)).latch
    refine ⟨_, exec_nvmWindowOpen s hp hshut hlo hhi, ?_, eq_of_sansNvmWindow hkeeps.1, fun a ha =>
      hkeeps.2 a (Bool.eq_false_iff.2 fun hw => ha (engineWord_mem hw))⟩
    simp only [latch_frame]
    rw [windowShut_of_kick hkick]
    rfl

/-- In Day, VIN falls below 9.0 V in a dip. -/
theorem supplyStop_witness : ∃ t, exec (.supplyStop 8999) { dayState with therm := { dipStart := some 0 } } = .next t ∧
    t.stop.active = true := by
  obtain ⟨t, hrun, -, -, -, -, hactive, -⟩ :=
    supplyStops.1 { dayState with therm := { dipStart := some 0 } } 8999 rfl rfl rfl (.inr (.inr (by decide)))
  exact ⟨t, hrun, hactive⟩

/-- The write window reopens in Day at 0 °C. -/
theorem nvmWindowOpen_witness : ∃ t, exec .nvmWindowOpen { dayState with nvm := { windowShut := true } } = .next t ∧
    t.nvm.windowShut = false := by
  obtain ⟨t, hrun, hopen, -⟩ :=
    supplyStops.2.2.2.2 { dayState with nvm := { windowShut := true } } rfl rfl (by decide +kernel) (by decide +kernel)
  exact ⟨t, hrun, hopen⟩

end Sys2Proof.Machine
end

section
/-! PROOFS. What the clocks and the PTP ports change, and that no link's event is among it (R368 to R383). -/

namespace Sys2Proof.Machine

variable {s t u : State} {E : State → State} {W : Nat → Bool}

/-- A set of words that holds all those the clocks write: their own, those of the PTP instances but for configuration, NPn_PTP, and what
events write. -/
structure ClockWords (W : Nat → Bool) : Prop where
  plumb : ∀ a, plumbWord a = true → W a = true
  base : ∀ a, 0xC0800 ≤ a → W a = true
  inst : ∀ i a, i < 2 → R.PI_STATUS i ≤ a → a ≤ R.PI_GMQ i → W a = true
  port : ∀ n, n < 2 → W (R.NP_PTP n) = true

/-- The words the clocks may write. -/
def timeWord (a : Nat) : Bool :=
  decide (0xC0800 ≤ a) || (decide (0xC0400 ≤ a) && decide (12 ≤ a % 64)) || a == R.NP_PTP 0 || a == R.NP_PTP 1 || plumbWord a

theorem timeWord_clockWords : ClockWords timeWord where
  plumb a ha := by simp [timeWord, ha]
  base a ha := by simp [timeWord, ha]
  inst i a hi hlo hhi := by
    simp only [R.PI_STATUS, R.PI_GMQ] at hlo hhi
    have hrange : 0xC0400 ≤ a ∧ 12 ≤ a % 64 := by omega
    simp [timeWord, hrange.1, hrange.2]
  port n hn := by
    obtain rfl | rfl : n = 0 ∨ n = 1 := by omega
    · rfl
    · rfl

/-- `t` is `s` but for what `Keeps` lets change, and shows the same links as down. -/
structure ClockKeeps (E : State → State) (W : Nat → Bool) (s t : State) : Prop where
  keeps : Keeps E W s t
  links : ∀ n, t.condActive Ev.LINK_DOWN n = s.condActive Ev.LINK_DOWN n

namespace ClockKeeps

theorem refl (s : State) : ClockKeeps E W s s := ⟨.refl s, fun _ => rfl⟩

theorem trans (h : ClockKeeps E W s t) (h' : ClockKeeps E W t u) : ClockKeeps E W s u :=
  ⟨h.keeps.trans h'.keeps, fun n => (h'.links n).trans (h.links n)⟩

theorem ite {c : Prop} [Decidable c] (ht : ClockKeeps E W s t) (hu : ClockKeeps E W s u) : ClockKeeps E W s (if c then t else u) := by
  split
  · exact ht
  · exact hu

theorem foldl {α : Type} {f : State → α → State} {l : List α} (h : ∀ t, ∀ x ∈ l, ClockKeeps E W t (f t x)) (s : State) :
    ClockKeeps E W s (l.foldl f s) := by
  induction l generalizing s with
  | nil => exact refl s
  | cons x l ih =>
    exact (h s x List.mem_cons_self).trans (ih (fun t y hy => h t y (List.mem_cons_of_mem x hy)) (f s x))

theorem foldl_range {f : State → Nat → State} {n : Nat} (h : ∀ t k, k < n → ClockKeeps E W t (f t k)) (s : State) :
    ClockKeeps E W s ((List.range n).foldl f s) :=
  foldl (fun t k hk => h t k (List.mem_range.1 hk)) s

theorem wr (h : ClockKeeps E W s t) (f : Field) (v : Nat) (hf : W f.addr = true) : ClockKeeps E W s (t.wr f v) :=
  ⟨h.keeps.wr f v hf, h.links⟩

theorem emit (h : ClockKeeps E W s t) (o : Output) : ClockKeeps E W s (t.emit o) := ⟨h.keeps.emit o, h.links⟩

theorem lifeAdd (h : ClockKeeps E W s t) (off width n : Nat) : ClockKeeps E W s (t.lifeAdd off width n) :=
  ⟨h.keeps.lifeAdd off width n, h.links⟩

/-- A step that changes nothing but what `E` erases. -/
theorem update (h : ClockKeeps E W s t) (hE : E u.unnoticed = E t.unnoticed) (hr : u.regs = t.regs) (hc : u.conds = t.conds) :
    ClockKeeps E W s u :=
  h.trans ⟨(Keeps.refl t).update hE hr, fun n => by simp only [State.condActive, hc]⟩

theorem condOn (hW : ClockWords W) (h : ClockKeeps E W s t) {e : Event} (he : e.code ≠ Ev.LINK_DOWN.code) (source arg : Nat) :
    ClockKeeps E W s (t.condOn e source arg) := by
  refine ⟨h.keeps.condOn hW.plumb e source arg, fun n => (Eq.trans ?_ (h.links n))⟩
  unfold State.condOn
  split
  · rfl
  · simp [State.condActive, he.symm]

theorem condOff (hW : ClockWords W) (h : ClockKeeps E W s t) {e : Event} (he : e.code ≠ Ev.LINK_DOWN.code) (source arg : Nat) :
    ClockKeeps E W s (t.condOff e source arg) := by
  refine ⟨h.keeps.condOff hW.plumb e source arg, fun n => (Eq.trans ?_ (h.links n))⟩
  unfold State.condOff
  split
  · simp [State.condActive, List.range, List.range.loop, he.symm]
  · rfl

theorem oneOff (hW : ClockWords W) (h : ClockKeeps E W s t) {e : Event} (he : e.code ≠ Ev.LINK_DOWN.code) (arg : Nat) :
    ClockKeeps E W s (t.oneOff e arg) :=
  h.trans (foldl (fun u c _ => (refl u).condOff hW he c.2 arg) t)

end ClockKeeps

section
variable (hW : ClockWords W) (htbs : ∀ (u : State) b, E { u with tbs := b } = E u)
include hW

omit hW in
include htbs in
theorem onTb_clock (s : State) (k : Nat) (f : TimeBase → TimeBase) : ClockKeeps E W s (s.onTb k f) :=
  (ClockKeeps.refl s).update (htbs s.unnoticed _) rfl rfl

theorem tbFlags_clock (s : State) (k : Nat) : ClockKeeps E W s (s.tbFlags k) := by
  have hst : W (R.TB_STATUS k) = true := hW.base _ (by simp only [R.TB_STATUS]; omega)
  have h1 : ClockKeeps E W s (((s.wrB (R.TB_STATUS_LOCKED k) (s.tbLocked k)).wrB (R.TB_STATUS_REFUSED k) (s.tbRefused k)).wrB
      (R.TB_STATUS_USABLE k) (s.tbLocked k && !s.tbRefused k)) := (((ClockKeeps.refl s).wr _ _ hst).wr _ _ hst).wr _ _ hst
  have h2 := ClockKeeps.ite (c := k = 0 ∧ s.tbLocked k = true ∧ (!s.tbRefused k) = true)
    (h1.oneOff hW (e := Ev.HOLDOVER_DATE) (by decide) 0) h1
  exact .ite (h2.condOff hW (by decide) _ _) (.ite (h2.condOn hW (by decide) _ _) h2)

theorem clearJump_clock (s : State) (k : Nat) : ClockKeeps E W s (s.clearJump k) :=
  .ite (tbFlags_clock hW _ _)
    ((((ClockKeeps.refl s).wr _ _ (hW.base _ (by simp only [R.TB_PEND]; omega))).condOff hW (by decide) _ _).trans (tbFlags_clock hW _ _))

include htbs

theorem setTb_clock (s : State) (k code : Nat) : ClockKeeps E W s (s.setTb k code) := by
  have hst : W (R.TB_STATUS k) = true := hW.base _ (by simp only [R.TB_STATUS]; omega)
  have h1 : ClockKeeps E W s
      (if s.rd (R.TB_STATUS_STATE k) = 2 ∧ code ≠ 2 then s.onTb k (fun t => { t with lastLocked := some s.time }) else s) :=
    .ite (onTb_clock htbs _ _ _) (.refl s)
  have h2 := ClockKeeps.ite (c := code = 2)
    (h1.trans (onTb_clock htbs _ k (fun t => { t with freeDone := true, lastLocked := some s.time }))) h1
  exact (h2.wr _ _ hst).trans (tbFlags_clock hW _ _)

theorem enterHoldover_clock (s : State) (k : Nat) : ClockKeeps E W s (s.enterHoldover k) :=
  .ite ((onTb_clock htbs _ _ _).trans (setTb_clock hW htbs _ _ _)) (.refl s)

theorem refuseJump_clock (s : State) (k : Nat) (o : Rat) : ClockKeeps E W s (s.refuseJump k o) := by
  have h1 : ClockKeeps E W s ((s.wr (R.TB_PEND_US k) (jumpUs o)).condOn Ev.TIME_JUMP_REFUSED k (jumpUs o)) :=
    ((ClockKeeps.refl s).wr _ _ (hW.base _ (by simp only [R.TB_PEND]; omega))).condOn hW (by decide) _ _
  have h2 := ClockKeeps.ite (c := s.condActive Ev.TIME_JUMP_REFUSED k = true) h1 (h1.lifeAdd 0x1A2 2 1)
  exact (h2.trans (enterHoldover_clock hW htbs _ _)).trans (tbFlags_clock hW _ _)

theorem utcFollow_clock (s : State) (i : Nat) (leap : Bool) : ClockKeeps E W s (s.utcFollow i leap) := by
  have hutc : W R.TB0_UTC = true := hW.base _ (by decide)
  simp only [State.utcFollow]
  split
  · split
    · split
      · exact .ite (((onTb_clock htbs _ _ _).wr _ _ hutc).trans (clearJump_clock hW _ _)) ((onTb_clock htbs _ _ _).wr _ _ hutc)
      · exact ((onTb_clock htbs _ _ _).wr _ _ hutc).trans (refuseJump_clock hW htbs _ _ _)
    · exact (ClockKeeps.refl s).wr _ _ hutc
  · exact .refl s

variable {i : Nat} (hi : i < 2)
include hi

theorem parentData_clock (s : State) (a : AnnounceData) : ClockKeeps E W s (s.parentData i a) := by
  have hst : W (R.PI_STATUS i) = true := hW.inst i _ hi (Nat.le_refl _) (by simp only [R.PI_STATUS, R.PI_GMQ]; omega)
  have hlo : W (R.PI_GM_LO i) = true := hW.inst i _ hi (by simp only [R.PI_STATUS, R.PI_GM_LO]; omega) (by simp only [R.PI_GM_LO, R.PI_GMQ]; omega)
  have hhi : W (R.PI_GM_HI i) = true := hW.inst i _ hi (by simp only [R.PI_STATUS, R.PI_GM_HI]; omega) (by simp only [R.PI_GM_HI, R.PI_GMQ]; omega)
  have hq : W (R.PI_GMQ i) = true := hW.inst i _ hi (by simp only [R.PI_STATUS, R.PI_GMQ]; omega) (Nat.le_refl _)
  have h1 := ((((((ClockKeeps.refl (E := E) s).wr (R.PI_STATUS_PARENT i) (b2n true) hst).wr (R.PI_STATUS_UTC_VALID i) (b2n a.utcValid)
    hst).wr (R.PI_STATUS_LEAP61 i) (b2n a.leap61) hst).wr (R.PI_STATUS_LEAP59 i) (b2n a.leap59) hst).wr (R.PI_STATUS_TRACEABLE i)
    (b2n a.traceable) hst).wr (R.PI_STATUS_UTC_OFFSET i) (unsigned 16 a.utcOffset) hst
  have h2 := (h1.wr (R.PI_GM_LO_ID i) (a.gmId.toNat % 2 ^ 32) hlo).wr (R.PI_GM_HI_ID i) (a.gmId.toNat / 2 ^ 32) hhi
  exact (((h2.wr _ _ hq).wr _ _ hq).wr _ _ hq).trans (utcFollow_clock hW htbs _ _ _)

theorem noParent_clock (s : State) : ClockKeeps E W s (s.noParent i) :=
  ((ClockKeeps.refl s).wr _ _ (hW.inst i _ hi (Nat.le_refl _) (by simp only [R.PI_STATUS, R.PI_GMQ]; omega))).trans
    (.foldl (fun _ _ _ => enterHoldover_clock hW htbs _ _) _)

end

section
variable (hW : ClockWords W) (hptp : ∀ (u : State) b, E { u with ptp := b } = E u)
include hW hptp

theorem onPtp_clock (s : State) (i : Nat) {n : Nat} (hn : n < 2) (f : PtpPort → PtpPort) : ClockKeeps E W s (s.onPtp i n f) := by
  have h : ClockKeeps E W s { s with ptp := Sparse.upd {} s.ptp (2 * i + n) f } :=
    (ClockKeeps.refl s).update (hptp s.unnoticed _) rfl rfl
  have hw := hW.port n hn
  unfold State.onPtp State.ptpShow
  split
  · exact (h.wr _ _ hw).wr _ _ hw
  · exact (h.wr _ _ hw).wr _ _ hw

theorem ptpDecide_clock (s : State) (i : Nat) {n : Nat} (hn : n < 2) (best : Option (Foreign × Nat)) :
    ClockKeeps E W s (s.ptpDecide i n best) := by
  have hon : ∀ f, ClockKeeps E W s (s.onPtp i n f) := fun f => onPtp_clock hW hptp s i hn f
  simp only [State.ptpDecide]
  split
  · exact hon _
  · split
    · exact hon _
    · split
      · exact .ite (.refl s) (hon _)
      · exact hon _

/-- The best master of a PTP clock. -/
def State.bestMaster (s : State) (i : Nat) : Option (Foreign × Nat) :=
  bestOf (((s.ptpPorts i).filter s.linkOn).flatMap (fun n => s.qualified i n))

/-- The ports of a PTP clock once each has taken its state. -/
def State.portsDecided (s : State) (i : Nat) : State :=
  (s.ptpPorts i).foldl (fun (t : State) n => t.ptpDecide i n (s.bestMaster i)) s

theorem portsDecided_clock (s : State) (i : Nat) : ClockKeeps E W s (s.portsDecided i) :=
  .foldl (fun t n hn => ptpDecide_clock hW hptp t i (mem_ptpPorts s i n hn) _) s

end

/-- Once the ports have decided, only the time bases and the PTP clock's data follow. -/
theorem bmca_decided (hW : ClockWords W) (htbs : ∀ (u : State) b, E { u with tbs := b } = E u) (s : State) {i : Nat} (hi : i < 2) :
    ClockKeeps E W (s.portsDecided i) (s.bmca i) := by
  have hst : W (R.PI_STATUS i) = true := hW.inst i _ hi (Nat.le_refl _) (by simp only [R.PI_STATUS, R.PI_GMQ]; omega)
  have h2 := ClockKeeps.ite (c := (s.slavePort i).isSome = true ∧ (s.portsDecided i).slavePort i ≠ s.slavePort i)
    (noParent_clock hW htbs hi (s.portsDecided i)) (.refl _)
  simp only [State.bmca]
  split
  · exact h2.trans (parentData_clock hW htbs hi _ _)
  · exact h2.wr _ _ hst

theorem bmca_clock (hW : ClockWords W) (htbs : ∀ (u : State) b, E { u with tbs := b } = E u)
    (hptp : ∀ (u : State) b, E { u with ptp := b } = E u) (s : State) {i : Nat} (hi : i < 2) : ClockKeeps E W s (s.bmca i) :=
  (portsDecided_clock hW hptp s i).trans (bmca_decided hW htbs s hi)

/-! ## One PTP port after a change of another -/

theorem ptpShow_ptp (s : State) (n : Nat) : (s.ptpShow n).ptp = s.ptp := by
  unfold State.ptpShow
  split <;> rfl

theorem onPtp_same (s : State) (i n : Nat) (f : PtpPort → PtpPort) : (s.onPtp i n f).ptpPort i n = f (s.ptpPort i n) := by
  unfold State.onPtp State.ptpPort
  rw [ptpShow_ptp]
  exact get_upd_same _ _ _ _

theorem onPtp_other (s : State) (i n j m : Nat) (f : PtpPort → PtpPort) (h : 2 * j + m ≠ 2 * i + n) :
    (s.onPtp i n f).ptpPort j m = s.ptpPort j m := by
  unfold State.onPtp State.ptpPort
  rw [ptpShow_ptp]
  exact get_upd_ne _ _ _ _ _ h

/-- The state less the time bases and the pulses: a step that keeps it leaves the PTP ports alone. -/
def sansBases (u : State) : State := { u with tbs := [], tps := [] }

theorem ClockKeeps.ptpPort (h : ClockKeeps sansBases W s t) (i n : Nat) : t.ptpPort i n = s.ptpPort i n := by
  have hptp : t.ptp = s.ptp := (congrArg State.ptp h.keeps.1 :)
  rw [State.ptpPort, hptp, State.ptpPort]

/-- What a port's decision may make of it: nothing, its default state, or another state and parent with the masters it has heard. -/
theorem ptpDecide_port (s : State) (i n j m : Nat) (best : Option (Foreign × Nat)) :
    ((s.ptpDecide i n best).ptpPort j m = s.ptpPort j m) ∨
    (2 * j + m = 2 * i + n ∧ s.linkOn n = false ∧ (s.ptpDecide i n best).ptpPort j m = {}) ∨
    (2 * j + m = 2 * i + n ∧ s.linkOn n = true ∧ ((s.ptpDecide i n best).ptpPort j m).foreign = (s.ptpPort j m).foreign) := by
  by_cases hkey : 2 * j + m = 2 * i + n
  · have hport : ∀ t : State, t.ptpPort j m = t.ptpPort i n := fun t => by rw [State.ptpPort, hkey, State.ptpPort]
    simp only [hport]
    cases hlink : s.linkOn n
    · refine .inr (.inl ⟨hkey, rfl, ?_⟩)
      simp only [State.ptpDecide, hlink, Bool.not_false, if_true, onPtp_same]
    · have hon : ∀ f : PtpPort → PtpPort, (f (s.ptpPort i n)).foreign = (s.ptpPort i n).foreign →
          ((s.onPtp i n f).ptpPort i n).foreign = (s.ptpPort i n).foreign := fun f hf => by rw [onPtp_same, hf]
      refine .inr (.inr ⟨hkey, rfl, ?_⟩)
      simp only [State.ptpDecide, hlink, Bool.not_true, Bool.false_eq_true, if_false]
      split
      · exact hon _ rfl
      · split
        · split
          · rfl
          · exact hon _ rfl
        · exact hon _ rfl
  · refine .inl ?_
    have hon : ∀ f, (s.onPtp i n f).ptpPort j m = s.ptpPort j m := fun f => onPtp_other s i n j m f hkey
    simp only [State.ptpDecide]
    split
    · exact hon _
    · split
      · exact hon _
      · split
        · split
          · rfl
          · exact hon _
        · exact hon _

end Sys2Proof.Machine
end

section
/-! PROOFS. Links, ARP, ICMP and the frames a port discards (R361 to R367). -/

namespace Sys2Proof.Machine

variable {s t u : State} {E : State → State} {W : Nat → Bool}

/-! ## Frames -/

/-- The state less registers, ports and what was sent. -/
def sansNet (u : State) : State := { u with regs := [], ports := [], out := [] }

theorem latch_of_sansNet (h : sansNet u = sansNet s) :
    u.latch = { s with
      regs := u.latch.regs, spans := { s.spans with leaves := u.latch.spans.leaves }, ports := u.latch.ports, out := u.latch.out } :=
  calc
    u.latch = { u with spans := { u.spans with leaves := u.latch.spans.leaves } } := latch_eq_leaves u
    _ = { sansNet u with
      regs := u.regs, spans := { (sansNet u).spans with leaves := u.latch.spans.leaves }, ports := u.ports, out := u.out } := rfl
    _ = { s with regs := u.regs, spans := { s.spans with leaves := u.latch.spans.leaves }, ports := u.ports, out := u.out } := by
      rw [h]; rfl
    _ = _ := by simp only [latch_frame]

theorem latch_of_sansNet_ports (h : sansNet u = sansNet s) (hp : u.ports = s.ports) :
    u.latch = { s with regs := u.latch.regs, spans := { s.spans with leaves := u.latch.spans.leaves }, out := u.latch.out } :=
  (latch_of_sansNet h).trans (by simp only [latch_frame, hp])

theorem latch_of_sansNet_out (h : sansNet u = sansNet s) (hp : u.ports = s.ports) (ho : u.out = s.out) :
    u.latch = { s with regs := u.latch.regs, spans := { s.spans with leaves := u.latch.spans.leaves } } :=
  (latch_of_sansNet_ports h hp).trans (by simp only [latch_frame, ho])

theorem latch_sameWords {l : List Nat} (h : SameWords s u l) : SameWords s u.latch l := fun a ha => (latch_word u a).trans (h a ha)

theorem sameWords_wr {l : List Nat} (h : SameWords s u l) (f : Field) (v : Nat) (hf : f.addr ∈ l) : SameWords s (u.wr f v) l :=
  fun a ha => (word_wr_ne u f v a fun e => ha (e ▸ hf)).trans (h a ha)

theorem port_onPort_same (s : State) (n : Nat) (f : Port → Port) : (s.onPort n f).port n = f (s.port n) := get_upd_same _ _ _ _

theorem port_onPort_other (s : State) (n m : Nat) (f : Port → Port) (h : m ≠ n) : (s.onPort n f).port m = s.port m :=
  get_upd_ne _ _ _ _ _ h

theorem latch_port (s : State) (n : Nat) : s.latch.port n = s.port n := by simp only [State.port, latch_frame]

/-! ## ARP requests and echo requests (R362, R365 to R367) -/

theorem arpRequest_answered (s : State) (np : Fin 2) (sha src : BitVec 48) (spa tpa : Word) (hup : s.netUp np = true) :
    ∃ t, exec (.arpRequest np sha spa tpa src) s = .next t ∧
      t.rd (R.NP_RX_FRAMES_COUNT np) = (s.rd (R.NP_RX_FRAMES_COUNT np) + 1) % 2 ^ 32 ∧
      t.out = s.out ++ (if tpa = s.ownIp np then [.arpReply np src sha spa] else []) ∧
      t.rd (R.NP_TX_FRAMES_COUNT np) = (s.rd (R.NP_TX_FRAMES_COUNT np) + b2n (decide (tpa = s.ownIp np))) % 2 ^ 32 ∧
      t = { s with regs := t.regs, spans := { s.spans with leaves := t.spans.leaves }, out := t.out } ∧
      SameWords s t [R.NP_RX_FRAMES np, R.NP_TX_FRAMES np] := by
  have hapart : R.NP_TX_FRAMES np ≠ R.NP_RX_FRAMES np := by simp only [R.NP_TX_FRAMES, R.NP_RX_FRAMES]; omega
  have hrx : SameWords s (s.inc (R.NP_RX_FRAMES_COUNT np)) [R.NP_RX_FRAMES np, R.NP_TX_FRAMES np] :=
    sameWords_wr (fun _ _ => rfl) _ _ (by simp)
  have hrun (u : State) (hu : (if tpa = s.ownIp np then
      ((s.inc (R.NP_RX_FRAMES_COUNT np)).emit (.arpReply np src sha spa)).inc (R.NP_TX_FRAMES_COUNT np)
      else s.inc (R.NP_RX_FRAMES_COUNT np)) = u) : exec (.arpRequest np sha spa tpa src) s = .next u.latch := by
    rw [← hu]
    exact if_pos (e := Host.Outcome.next s) hup
  by_cases hown : tpa = s.ownIp np
  · refine ⟨_, hrun _ (if_pos hown), ?_, ?_, ?_, latch_of_sansNet_ports rfl rfl, latch_sameWords (sameWords_wr ?_ _ _ (by simp))⟩
    · rw [latch_rd, State.inc, State.add, rd_wr_word _ _ _ _ hapart.symm]
      exact rd_inc s _ rfl
    · rw [if_pos hown]
      simp only [latch_frame]
      rfl
    · rw [latch_rd, rd_inc _ _ rfl, decide_eq_true hown]
      have hsame : ((s.inc (R.NP_RX_FRAMES_COUNT np)).emit (.arpReply np src sha spa)).rd (R.NP_TX_FRAMES_COUNT np) =
          s.rd (R.NP_TX_FRAMES_COUNT np) := rd_wr_word s _ _ _ hapart
      rw [hsame]
      rfl
    · exact hrx
  · refine ⟨_, hrun _ (if_neg hown), ?_, ?_, ?_, latch_of_sansNet_ports rfl rfl, latch_sameWords hrx⟩
    · rw [latch_rd]
      exact rd_inc s _ rfl
    · rw [if_neg hown, List.append_nil]
      simp only [latch_frame]
      rfl
    · rw [latch_rd, decide_eq_false hown, State.inc, State.add, rd_wr_word _ _ _ _ hapart]
      exact (Nat.mod_eq_of_lt (rd_lt s (R.NP_TX_FRAMES_COUNT np))).symm

theorem icmpEcho_answered (s : State) (np : Fin 2) (mac : BitVec 48) (src dst : Word) (ident seq : BitVec 16) (data : List Byte)
    (hup : s.netUp np = true) :
    ∃ t, exec (.icmpEcho np mac src dst ident seq data) s = .next t ∧
      (s.rd (R.NP_CFG_FRAME np) < 46 + data.length → t.out = s.out ∧
        t.rd (R.NP_RX_BAD_COUNT np) = (s.rd (R.NP_RX_BAD_COUNT np) + 1) % 2 ^ 32) ∧
      (46 + data.length ≤ s.rd (R.NP_CFG_FRAME np) →
        t.rd (R.NP_RX_FRAMES_COUNT np) = (s.rd (R.NP_RX_FRAMES_COUNT np) + 1) % 2 ^ 32 ∧
        (dst = s.ownIp np → t.out = s.out ++ [.icmpReply np mac src ident seq data]) ∧
        (dst ≠ s.ownIp np → t.out = s.out ∧
          t.rd (R.NP_RX_DISCARD_COUNT np) = (s.rd (R.NP_RX_DISCARD_COUNT np) + 1) % 2 ^ 32)) ∧
      t = { s with regs := t.regs, spans := { s.spans with leaves := t.spans.leaves }, out := t.out } ∧
      SameWords s t [R.NP_RX_BAD np, R.NP_RX_FRAMES np, R.NP_RX_DISCARD np, R.NP_TX_FRAMES np] := by
  have hrx : SameWords s (s.inc (R.NP_RX_FRAMES_COUNT np)) [R.NP_RX_BAD np, R.NP_RX_FRAMES np, R.NP_RX_DISCARD np, R.NP_TX_FRAMES np] :=
    sameWords_wr (fun _ _ => rfl) _ _ (by simp)
  have hrun (u : State) (hu : (if s.rd (R.NP_CFG_FRAME np) < 28 + data.length + 18 then s.inc (R.NP_RX_BAD_COUNT np)
      else if dst = s.ownIp np then ((s.inc (R.NP_RX_FRAMES_COUNT np)).emit (.icmpReply np mac src ident seq data)).inc
        (R.NP_TX_FRAMES_COUNT np)
      else (s.inc (R.NP_RX_FRAMES_COUNT np)).inc (R.NP_RX_DISCARD_COUNT np)) = u) :
      exec (.icmpEcho np mac src dst ident seq data) s = .next u.latch := by
    show execIcmpEcho np mac src dst ident seq data s = _
    rw [← hu, execIcmpEcho, if_neg (by simp [hup])]
    split
    · rfl
    · rfl
  by_cases hbad : s.rd (R.NP_CFG_FRAME np) < 28 + data.length + 18
  · refine ⟨_, hrun _ (if_pos hbad), fun _ => ⟨?_, ?_⟩, fun hfit => absurd hfit (by omega), latch_of_sansNet_ports rfl rfl,
      latch_sameWords (sameWords_wr (fun _ _ => rfl) _ _ (by simp))⟩
    · simp only [latch_frame]
      rfl
    · rw [latch_rd, rd_inc _ _ rfl]
  · by_cases hown : dst = s.ownIp np
    · refine ⟨_, hrun _ ((if_neg hbad).trans (if_pos hown)), fun h => absurd h (by omega), fun _ => ⟨?_, fun _ => ?_, fun h => absurd hown h⟩,
        latch_of_sansNet_ports rfl rfl, latch_sameWords (sameWords_wr hrx _ _ (by simp))⟩
      · rw [latch_rd, State.inc, State.add, rd_wr_word _ _ _ _ (by simp only [R.NP_TX_FRAMES, R.NP_RX_FRAMES]; omega)]
        exact rd_inc s _ rfl
      · simp only [latch_frame]
        rfl
    · refine ⟨_, hrun _ ((if_neg hbad).trans (if_neg hown)), fun h => absurd h (by omega), fun _ => ⟨?_, fun h => absurd h hown,
        fun _ => ⟨?_, ?_⟩⟩, latch_of_sansNet_ports rfl rfl, latch_sameWords (sameWords_wr hrx _ _ (by simp))⟩
      · rw [latch_rd, State.inc, State.add, rd_wr_word _ _ _ _ (by simp only [R.NP_RX_DISCARD, R.NP_RX_FRAMES]; omega)]
        exact rd_inc s _ rfl
      · simp only [latch_frame]
        rfl
      · have hsame : (s.inc (R.NP_RX_FRAMES_COUNT np)).rd (R.NP_RX_DISCARD_COUNT np) = s.rd (R.NP_RX_DISCARD_COUNT np) :=
          rd_wr_word s _ _ _ (by simp only [R.NP_RX_DISCARD, R.NP_RX_FRAMES]; omega)
        rw [latch_rd, rd_inc _ _ rfl, hsame]

/-! ## Frames that a port discards (R362, R365, R367) -/

theorem npRxDiscard_counts (s : State) (np : Fin 2) (len : Nat) (fcsOk : Bool) (vid : Option (BitVec 12)) (accepted : Bool)
    (hup : s.netUp np = true) (hvlan : s.rd (R.NP_CFG_VLAN_EN np) = 0)
    (hgone : fcsOk = false ∨ len < 64 ∨ s.rd (R.NP_CFG_FRAME np) < len ∨ vid ≠ none ∨ accepted = false) :
    ∃ t, exec (.npRxDiscard np len fcsOk vid accepted) s = .next t ∧
      (if fcsOk = false ∨ len < 64 ∨ s.rd (R.NP_CFG_FRAME np) < len then
        t.rd (R.NP_RX_BAD_COUNT np) = (s.rd (R.NP_RX_BAD_COUNT np) + 1) % 2 ^ 32 ∧ SameWords s t [R.NP_RX_BAD np]
      else t.rd (R.NP_RX_FRAMES_COUNT np) = (s.rd (R.NP_RX_FRAMES_COUNT np) + 1) % 2 ^ 32 ∧
        t.rd (R.NP_RX_DISCARD_COUNT np) = (s.rd (R.NP_RX_DISCARD_COUNT np) + 1) % 2 ^ 32 ∧
        SameWords s t [R.NP_RX_FRAMES np, R.NP_RX_DISCARD np]) ∧
      t = { s with regs := t.regs, spans := { s.spans with leaves := t.spans.leaves } } := by
  have hrun : exec (.npRxDiscard np len fcsOk vid accepted) s = .next (s.rxDiscard np len fcsOk vid accepted).latch := if_pos hup
  have hflag : s.flag (R.NP_CFG_VLAN_EN np) = false := by simp [State.flag, hvlan]
  rw [hrun]
  by_cases hbad : fcsOk = false ∨ len < 64 ∨ s.rd (R.NP_CFG_FRAME np) < len
  · have heq : s.rxDiscard np len fcsOk vid accepted = s.inc (R.NP_RX_BAD_COUNT np) := by
      have hcond : (decide (s.rd (R.NP_CFG_FRAME np) + 0 < len ∨ len < 64) || !fcsOk) = true := by
        rcases hbad with h | h | h <;> simp [h]
      simp only [State.rxDiscard, hflag, Bool.false_eq_true, if_false, hcond, if_true]
    rw [heq]
    refine ⟨_, rfl, ?_, latch_of_sansNet_out rfl rfl rfl⟩
    rw [if_pos hbad, latch_rd]
    exact ⟨rd_inc s _ rfl, latch_sameWords (sameWords_wr (fun _ _ => rfl) _ _ (by simp))⟩
  · have heq : s.rxDiscard np len fcsOk vid accepted = (s.inc (R.NP_RX_FRAMES_COUNT np)).inc (R.NP_RX_DISCARD_COUNT np) := by
      have hok : fcsOk = true ∧ 64 ≤ len ∧ len ≤ s.rd (R.NP_CFG_FRAME np) := by
        refine ⟨?_, by omega, by omega⟩
        cases fcsOk
        · exact absurd (.inl rfl) hbad
        · rfl
      obtain ⟨hfcs, hmin, hmax⟩ := hok
      have hcond : (decide (s.rd (R.NP_CFG_FRAME np) + 0 < len ∨ len < 64) || !fcsOk) = false := by
        simp [hfcs, hmin, hmax]
      have hmine : (!vid.isNone) = true ∨ (!accepted) = true := by
        rcases hgone with h | h | h | h | h
        · exact absurd (.inl h) hbad
        · exact absurd (.inr (.inl h)) hbad
        · exact absurd (.inr (.inr h)) hbad
        · exact .inl (by simpa using Option.isSome_iff_ne_none.2 h)
        · exact .inr (by simp [h])
      simp only [State.rxDiscard, hflag, Bool.false_eq_true, if_false, hcond, hmine, if_true]
    have hapart : R.NP_RX_DISCARD np ≠ R.NP_RX_FRAMES np := by simp only [R.NP_RX_DISCARD, R.NP_RX_FRAMES]; omega
    rw [heq]
    refine ⟨_, rfl, ?_, latch_of_sansNet_out rfl rfl rfl⟩
    rw [if_neg hbad, latch_rd, latch_rd, rd_inc _ _ rfl]
    refine ⟨?_, ?_, latch_sameWords (sameWords_wr (sameWords_wr (fun _ _ => rfl) _ _ (by simp)) _ _ (by simp))⟩
    · rw [State.inc, State.add, rd_wr_word _ _ _ _ hapart.symm]
      exact rd_inc s _ rfl
    · have hsame : (s.inc (R.NP_RX_FRAMES_COUNT np)).rd (R.NP_RX_DISCARD_COUNT np) = s.rd (R.NP_RX_DISCARD_COUNT np) :=
        rd_wr_word s _ _ _ hapart
      rw [hsame]

/-! ## The ARP cache (R366) -/

/-- The datagrams that wait for an address leave. -/
def State.released (s : State) (n : Nat) (mac : BitVec 48) (ds : List Datagram) : State :=
  ds.foldl (fun (t : State) d => (t.emit (.udp (some mac) d)).inc (R.NP_TX_FRAMES_COUNT n)) s

/-- The datagrams that wait for an address at a port. -/
def Port.waiting (p : Port) (ip : Word) : List Datagram := (p.resolve.filter (fun r => r.ip == ip)).flatMap (·.wait)

/-- The port once an address is answered. -/
def Port.answered (p : Port) (mac : BitVec 48) (ip : Word) (now : Nat) : Port :=
  { p with arp := arpPut p.arp ⟨ip, mac, now⟩, resolve := p.resolve.filter (fun r => r.ip != ip) }

theorem arpAnswer_eq (s : State) (n : Nat) (mac : BitVec 48) (ip : Word) :
    s.arpAnswer n mac ip = (s.onPort n (·.answered mac ip s.time)).released n mac ((s.port n).waiting ip) := rfl

theorem released_ports (s : State) (n : Nat) (mac : BitVec 48) (ds : List Datagram) : (s.released n mac ds).ports = s.ports := by
  refine foldl_keeps State.ports _ (fun t d => ?_) ds s
  rfl

theorem released_sansNet (s : State) (n : Nat) (mac : BitVec 48) (ds : List Datagram) : sansNet (s.released n mac ds) = sansNet s := by
  refine foldl_keeps sansNet _ (fun t d => ?_) ds s
  rfl

theorem released_word (s : State) (n : Nat) (mac : BitVec 48) (ds : List Datagram) (a : Nat) (h : a ≠ R.NP_TX_FRAMES n) :
    (s.released n mac ds).word a = s.word a :=
  foldl_keeps (fun u => u.word a) _ (fun t d => word_wr_ne (t.emit (.udp (some mac) d)) _ _ a h) ds s

theorem released_out (s : State) (n : Nat) (mac : BitVec 48) (ds : List Datagram) :
    (s.released n mac ds).out = s.out ++ ds.map (fun d => .udp (some mac) d) := by
  induction ds generalizing s with
  | nil => simp [State.released]
  | cons d ds ih =>
    have h := ih ((s.emit (.udp (some mac) d)).inc (R.NP_TX_FRAMES_COUNT n))
    simp only [State.released, List.foldl_cons] at h ⊢
    rw [h]
    simp [State.emit, State.inc, State.add]

theorem arpPut_mem (l : List ArpEntry) (e : ArpEntry) : e ∈ arpPut l e := by simp [arpPut]

theorem arpPut_length (l : List ArpEntry) (e : ArpEntry) (h : l.length ≤ 64) : (arpPut l e).length ≤ 64 := by
  have hfilter : (l.filter (fun x => x.ip != e.ip)).length ≤ l.length := List.length_filter_le _ _
  unfold arpPut
  extract_lets m
  have hm : m.length ≤ 64 := hfilter.trans h
  split
  · simp only [List.length_append, List.length_singleton]
    omega
  · simp only [List.length_append, List.length_singleton, List.length_drop]
    omega

theorem waiting_mem {p : Port} {ip : Word} {r : Resolve} (hr : r ∈ p.resolve) (hip : r.ip = ip) {d : Datagram} (hd : d ∈ r.wait) :
    d ∈ p.waiting ip :=
  List.mem_flatMap.2 ⟨r, List.mem_filter.2 ⟨hr, by simp [hip]⟩, hd⟩

theorem arpReply_fills (s : State) (np : Fin 2) (sha : BitVec 48) (spa : Word) (hup : s.netUp np = true) :
    ∃ t, exec (.arpReply np sha spa) s = .next t ∧ ArpEntry.mk spa sha s.time ∈ (t.port np).arp ∧
      ((s.port np).arp.length ≤ 64 → (t.port np).arp.length ≤ 64) ∧ (∀ r ∈ (t.port np).resolve, r.ip ≠ spa) ∧
      (∀ r ∈ (s.port np).resolve, r.ip = spa → ∀ d ∈ r.wait, Output.udp (some sha) d ∈ t.out) ∧
      (∀ r ∈ (s.port np).resolve, r.ip ≠ spa → r ∈ (t.port np).resolve) ∧ (∀ m : Fin 2, m ≠ np → t.port m = s.port m) ∧
      t = { s with regs := t.regs, spans := { s.spans with leaves := t.spans.leaves }, ports := t.ports, out := t.out } ∧
      SameWords s t [R.NP_RX_FRAMES np, R.NP_TX_FRAMES np] := by
  let v := (s.inc (R.NP_RX_FRAMES_COUNT np)).onPort np (·.answered sha spa s.time)
  let ds := (s.port np).waiting spa
  have hrun : exec (.arpReply np sha spa) s = .next (v.released np sha ds).latch := if_pos hup
  have hports (m : Nat) : (v.released np sha ds).latch.port m = v.port m := by
    rw [latch_port, State.port, released_ports, State.port]
  have hsame : v.port np = (s.port np).answered sha spa s.time := port_onPort_same _ _ _
  refine ⟨_, hrun, ?_, ?_, ?_, ?_, ?_, ?_, latch_of_sansNet (released_sansNet _ _ _ _), ?_⟩
  · rw [hports, hsame]
    exact arpPut_mem _ _
  · rw [hports, hsame]
    exact arpPut_length _ _
  · rw [hports, hsame]
    intro r hr
    simpa using (List.mem_filter.1 hr).2
  · intro r hr hip d hd
    simp only [latch_frame]
    rw [released_out]
    exact List.mem_append_right _ (List.mem_map_of_mem (waiting_mem hr hip hd))
  · rw [hports, hsame]
    exact fun r hr hip => List.mem_filter.2 ⟨hr, by simp [hip]⟩
  · intro m hm
    rw [hports]
    exact port_onPort_other _ _ _ _ fun e => hm (Fin.ext e)
  · intro a ha
    simp only [List.mem_cons, List.not_mem_nil, or_false, not_or] at ha
    rw [latch_word, released_word _ _ _ _ _ ha.2]
    exact word_wr_ne s _ _ a ha.1

/-- The requests of a port once the one for an address has been sent again. -/
def Port.asked (p : Port) (ip : Word) (now : Nat) : Port :=
  { p with resolve := p.resolve.map (fun x => if x.ip = ip then { x with sent := x.sent + 1, last := now } else x) }

/-- The port once an address has been given up. -/
def Port.gaveUp (p : Port) (ip : Word) : Port :=
  { p with resolve := p.resolve.filter (fun x => x.ip != ip), arp := p.arp.filter (fun x => x.ip != ip) }

/-- A request that leaves, where the port carries frames. -/
def State.requested (s : State) (n : Nat) (ip : Word) : State :=
  if s.carries n then (s.emit (.arpRequest n ip)).inc (R.NP_TX_FRAMES_COUNT n) else s

theorem requested_frame (s : State) (n : Nat) (ip : Word) : (s.requested n ip).ports = s.ports ∧ sansNet (s.requested n ip) = sansNet s ∧
    (s.requested n ip).out = s.out ++ (if s.carries n = true then [.arpRequest n ip] else []) ∧
    SameWords s (s.requested n ip) [R.NP_TX_FRAMES n] := by
  unfold State.requested
  split
  · exact ⟨rfl, rfl, rfl, sameWords_wr (fun _ _ => rfl) _ _ (by simp)⟩
  · exact ⟨rfl, rfl, by simp, fun _ _ => rfl⟩

theorem exec_arpRetry {np : Fin 2} {ip : Word} {r : Resolve} (hp : s.powered = true)
    (hr : (s.port np).resolve.find? (fun x => x.ip == ip) = some r) (hdue : r.first + secTicks r.sent ≤ s.time) :
    exec (.arpRetry np ip) s = .next (if r.sent < 3 then (s.onPort np (·.asked ip s.time)).requested np ip
      else (s.onPort np (·.gaveUp ip)).add (R.NP_TX_DROP_COUNT np) r.wait.length).latch := by
  show execArpRetry np ip s = _
  rw [execArpRetry, if_pos hp, State.arpAgain, hr, State.done]
  dsimp only
  rw [if_neg (Nat.not_lt.2 hdue)]
  rfl

theorem arpRetry_goesOn (s : State) (np : Fin 2) (ip : Word) (r : Resolve) (hp : s.powered = true)
    (hr : (s.port np).resolve.find? (fun x => x.ip == ip) = some r) (hdue : r.first + secTicks r.sent ≤ s.time) :
    ∃ t, exec (.arpRetry np ip) s = .next t ∧
      (r.sent < 3 → { r with sent := r.sent + 1, last := s.time } ∈ (t.port np).resolve ∧ (t.port np).arp = (s.port np).arp ∧
        t.out = s.out ++ (if s.carries np = true then [.arpRequest np ip] else [])) ∧
      (3 ≤ r.sent → (∀ x ∈ (t.port np).resolve, x.ip ≠ ip) ∧ (∀ e ∈ (t.port np).arp, e.ip ≠ ip) ∧ t.out = s.out ∧
        t.rd (R.NP_TX_DROP_COUNT np) = (s.rd (R.NP_TX_DROP_COUNT np) + r.wait.length) % 2 ^ 32) ∧
      (∀ m : Fin 2, m ≠ np → t.port m = s.port m) ∧
      t = { s with regs := t.regs, spans := { s.spans with leaves := t.spans.leaves }, ports := t.ports, out := t.out } ∧
      SameWords s t [R.NP_TX_FRAMES np, R.NP_TX_DROP np] := by
  have hip : r.ip = ip := by simpa using List.find?_some hr
  refine ⟨_, exec_arpRetry hp hr hdue, ?_⟩
  by_cases hsent : r.sent < 3
  · rw [if_pos hsent]
    obtain ⟨hports, hnet, hout, hwords⟩ := requested_frame (s.onPort np (·.asked ip s.time)) np ip
    have hport (m : Nat) : ((s.onPort np (·.asked ip s.time)).requested np ip).latch.port m = (s.onPort np (·.asked ip s.time)).port m := by
      rw [latch_port, State.port, hports, State.port]
    refine ⟨fun _ => ⟨?_, ?_, ?_⟩, fun h => absurd h (by omega), fun m hm => ?_, latch_of_sansNet hnet, latch_sameWords fun a ha => ?_⟩
    · rw [hport, port_onPort_same]
      exact List.mem_map.2 ⟨r, List.mem_of_find?_eq_some hr, if_pos hip⟩
    · rw [hport, port_onPort_same]
      rfl
    · simp only [latch_frame]
      exact hout
    · rw [hport]
      exact port_onPort_other _ _ _ _ fun e => hm (Fin.ext e)
    · exact hwords a (fun h => ha (by simp only [List.mem_singleton] at h; simp [h]))
  · rw [if_neg hsent]
    refine ⟨fun h => absurd h hsent, fun _ => ⟨?_, ?_, ?_, ?_⟩, fun m hm => ?_, latch_of_sansNet rfl,
      latch_sameWords (sameWords_wr (fun _ _ => rfl) _ _ (by simp))⟩
    · rw [latch_port]
      have hsame : ((s.onPort np (·.gaveUp ip)).add (R.NP_TX_DROP_COUNT np) r.wait.length).port np = (s.port np).gaveUp ip :=
        port_onPort_same s np (·.gaveUp ip)
      rw [hsame]
      exact fun x hx => by simpa using (List.mem_filter.1 hx).2
    · rw [latch_port]
      have hsame : ((s.onPort np (·.gaveUp ip)).add (R.NP_TX_DROP_COUNT np) r.wait.length).port np = (s.port np).gaveUp ip :=
        port_onPort_same s np (·.gaveUp ip)
      rw [hsame]
      exact fun x hx => by simpa using (List.mem_filter.1 hx).2
    · simp only [latch_frame]
      rfl
    · rw [latch_rd]
      exact rd_wr_same _ _ _ rfl
    · rw [latch_port]
      exact port_onPort_other s np m (·.gaveUp ip) fun e => hm (Fin.ext e)

theorem exec_arpAge {np : Fin 2} {ip : Word} {e : ArpEntry} (hup : s.netUp np = true)
    (he : (s.port np).arp.find? (fun x => x.ip == ip) = some e) (hold : e.at_ + secTicks (s.rd R.ARP_CFG_AGE) ≤ s.time)
    (hfree : (s.port np).resolve.any (fun r => r.ip == ip) = false) :
    exec (.arpAge np ip) s = .next (if (s.destinations np).any (fun d => s.nextHop np d == some ip) then
      ((s.onPort np (fun p => { p with resolve := p.resolve ++ [⟨ip, 1, s.time, s.time, [], true⟩] })).emit (.arpRequest np ip)).inc
        (R.NP_TX_FRAMES_COUNT np)
      else s.onPort np (fun p => { p with arp := p.arp.filter (fun x => x.ip != ip) })).latch := by
  have hage : s.arpOld e = true := decide_eq_true hold
  have hres : s.resolve np ip [] true =
      ((s.onPort np (fun p => { p with resolve := p.resolve ++ [⟨ip, 1, s.time, s.time, [], true⟩] })).emit (.arpRequest np ip)).inc
        (R.NP_TX_FRAMES_COUNT np) := if_neg (by simp [hfree])
  show execArpAge np ip s = _
  rw [execArpAge, if_pos hup, State.arpExpire, he, State.done]
  dsimp only
  rw [if_neg (by simp [hage, hfree]), hres]

theorem arpAge_goes (s : State) (np : Fin 2) (ip : Word) (e : ArpEntry) (hup : s.netUp np = true)
    (he : (s.port np).arp.find? (fun x => x.ip == ip) = some e) (hold : e.at_ + secTicks (s.rd R.ARP_CFG_AGE) ≤ s.time)
    (hfree : (s.port np).resolve.any (fun r => r.ip == ip) = false) :
    ∃ t, exec (.arpAge np ip) s = .next t ∧
      ((s.destinations np).any (fun d => s.nextHop np d == some ip) = false → t.out = s.out ∧ (t.port np).resolve = (s.port np).resolve ∧
        (t.port np).arp = (s.port np).arp.filter (fun x => x.ip != ip)) ∧
      ((s.destinations np).any (fun d => s.nextHop np d == some ip) = true → (t.port np).arp = (s.port np).arp ∧
        t.out = s.out ++ [.arpRequest np ip] ∧ (t.port np).resolve = (s.port np).resolve ++ [⟨ip, 1, s.time, s.time, [], true⟩]) ∧
      (∀ m : Fin 2, m ≠ np → t.port m = s.port m) ∧
      t = { s with regs := t.regs, spans := { s.spans with leaves := t.spans.leaves }, ports := t.ports, out := t.out } ∧
      SameWords s t [R.NP_TX_FRAMES np] := by
  refine ⟨_, exec_arpAge hup he hold hfree, ?_⟩
  cases huse : (s.destinations np).any (fun d => s.nextHop np d == some ip)
  · rw [if_neg (by simp)]
    refine ⟨fun _ => ⟨?_, ?_, ?_⟩, fun h => absurd h (by simp), fun m hm => ?_, latch_of_sansNet rfl, latch_sameWords fun _ _ => rfl⟩
    · simp only [latch_frame]
      rfl
    · rw [latch_port, port_onPort_same]
    · rw [latch_port, port_onPort_same]
    · rw [latch_port]
      exact port_onPort_other _ _ _ _ fun e => hm (Fin.ext e)
  · rw [if_pos rfl]
    have hport (m : Nat) : (((s.onPort np (fun p => { p with resolve := p.resolve ++ [⟨ip, 1, s.time, s.time, [], true⟩] })).emit
        (.arpRequest np ip)).inc (R.NP_TX_FRAMES_COUNT np)).latch.port m =
        (s.onPort np (fun p => { p with resolve := p.resolve ++ [⟨ip, 1, s.time, s.time, [], true⟩] })).port m := latch_port _ _
    refine ⟨fun h => absurd h (by simp), fun _ => ⟨?_, ?_, ?_⟩, fun m hm => ?_, latch_of_sansNet rfl,
      latch_sameWords (sameWords_wr (fun _ _ => rfl) _ _ (by simp))⟩
    · rw [hport, port_onPort_same]
    · simp only [latch_frame]
      rfl
    · rw [hport, port_onPort_same]
    · rw [hport]
      exact port_onPort_other _ _ _ _ fun e => hm (Fin.ext e)

end Sys2Proof.Machine
end

section
/-! PROOFS. Links that come up and go down, with the PTP ports on them (R100, R361, R363, R366, R369). -/

namespace Sys2Proof.Machine

variable {s t u : State} {E : State → State} {W : Nat → Bool}

theorem ptpPorts_congr {i : Nat} (h : t.word (R.PI_CFG i) = s.word (R.PI_CFG i)) : t.ptpPorts i = s.ptpPorts i := by
  rw [State.ptpPorts, State.ptpPorts, flag_congr (R.PI_CFG_EN i) h, flag_congr (R.PI_CFG_ROLE i) h, rd_congr _ _ (R.PI_CFG_PORT i) h]

/-! ## A link comes up (R363, R366) -/

/-- NPn_STATUS of a link that has come up. -/
def State.linkShown (s : State) (n : Nat) : State :=
  ((s.wrB (R.NP_STATUS_FEC_LOCK n) (decide (s.netMode n = 3) && s.flag (R.NP_CFG_FEC n))).wrB (R.NP_STATUS_AN_DONE n)
    (decide (s.netMode n = 1) && s.flag (R.NP_CFG_AN37 n))).wr (R.NP_STATUS_LINK n) 1

/-- The link is shown, the port takes its MAC address, and its gratuitous ARP leaves. -/
def State.linkRaised (s : State) (n : Nat) : State :=
  (((s.linkShown n).onPort n (fun p => { p with mac := some (s.macOf n) })).emit (.gratuitousArp n)).inc (R.NP_TX_FRAMES_COUNT n)

theorem linkReport_up {n : Nat} {fec an : Bool} (hmode : s.netMode n ≠ 0) (hoff : s.linkOn n = false) (hloop : s.looped n = false)
    (hfar : s.farLoop n = false) (hfec : s.netMode n = 3 → s.rd (R.NP_CFG_FEC n) = 1 → fec = true)
    (han : s.netMode n = 1 → s.rd (R.NP_CFG_AN37 n) = 1 → an = true) :
    s.linkReport n true fec an = ((s.linkRaised n).condOff Ev.LINK_DOWN n).ptpLink n true := by
  have hfec' : (fec && decide (s.netMode n = 3 ∧ s.flag (R.NP_CFG_FEC n) = true)) =
      (decide (s.netMode n = 3) && s.flag (R.NP_CFG_FEC n)) := by
    by_cases h : s.netMode n = 3 ∧ s.flag (R.NP_CFG_FEC n) = true
    · simp [h.1, h.2, hfec h.1 ((flag_eq_true _ _).1 h.2)]
    · rw [decide_eq_false h, Bool.and_false, eq_comm, Bool.and_eq_false_iff, decide_eq_false_iff_not]
      exact (not_and_or.1 h).imp_right Bool.eq_false_iff.2
  have han' : (an && decide (s.netMode n = 1 ∧ s.flag (R.NP_CFG_AN37 n) = true)) =
      (decide (s.netMode n = 1) && s.flag (R.NP_CFG_AN37 n)) := by
    by_cases h : s.netMode n = 1 ∧ s.flag (R.NP_CFG_AN37 n) = true
    · simp [h.1, h.2, han h.1 ((flag_eq_true _ _).1 h.2)]
    · rw [decide_eq_false h, Bool.and_false, eq_comm, Bool.and_eq_false_iff, decide_eq_false_iff_not]
      exact (not_and_or.1 h).imp_right Bool.eq_false_iff.2
  have hall : true = true ∧ ((s.netMode n = 3 ∧ s.flag (R.NP_CFG_FEC n) = true) → fec = true) ∧
      ((s.netMode n = 1 ∧ s.flag (R.NP_CFG_AN37 n) = true) → an = true) :=
    ⟨rfl, fun h => hfec h.1 ((flag_eq_true _ _).1 h.2), fun h => han h.1 ((flag_eq_true _ _).1 h.2)⟩
  unfold State.linkReport
  extract_lets mode useFec useAn s1 s2 s3
  rw [if_neg (by simp [mode, hmode, hoff, hloop]), if_pos hall]
  have h1 : s1 = (s.wrB (R.NP_STATUS_FEC_LOCK n) (decide (s.netMode n = 3) && s.flag (R.NP_CFG_FEC n))).wrB (R.NP_STATUS_AN_DONE n)
      (decide (s.netMode n = 1) && s.flag (R.NP_CFG_AN37 n)) := by rw [← hfec', ← han']
  have h3 : s3 = s.linkRaised n := by
    simp only [s3, hfar, Bool.false_eq_true, if_false, s2, h1]
    rfl
  rw [h3]

/-- The PTP port of PTP clock `i` on a link that has come up. -/
def State.ptpUp (s : State) (n i : Nat) : State := if (s.ptpPorts i).contains n then s.onPtp i n (fun _ => { state := 4 }) else s

theorem ptpLink_up_eq (s : State) (n : Nat) : s.ptpLink n true = (s.ptpUp n 0).ptpUp n 1 := rfl

/-- The state less the PTP ports. -/
def sansPtp (u : State) : State := { u with ptp := [] }

theorem onPtp_ptp (s : State) (i n : Nat) (f : PtpPort → PtpPort) (hw : W (R.NP_PTP n) = true) : Keeps sansPtp W s (s.onPtp i n f) := by
  have h : Keeps sansPtp W s { s with ptp := Sparse.upd {} s.ptp (2 * i + n) f } := (Keeps.refl s).update rfl rfl
  unfold State.onPtp State.ptpShow
  split
  · exact (h.wr _ _ hw).wr _ _ hw
  · exact (h.wr _ _ hw).wr _ _ hw

theorem ptpUp_keeps (s : State) (n i : Nat) (hw : W (R.NP_PTP n) = true) : Keeps sansPtp W s (s.ptpUp n i) :=
  .ite (onPtp_ptp s i n _ hw) (.refl s)

theorem ptpUp_state (s : State) (n i : Nat) (h : (s.ptpPorts i).contains n = true) : ((s.ptpUp n i).ptpPort i n).state = 4 := by
  rw [State.ptpUp, if_pos h, onPtp_same]

theorem ptpUp_other (s : State) (n i j : Nat) (h : j ≠ i) : (s.ptpUp n i).ptpPort j n = s.ptpPort j n := by
  unfold State.ptpUp
  split
  · exact onPtp_other _ _ _ _ _ _ (by omega)
  · rfl

theorem ptpLink_up_state (s : State) (n : Fin 2) (i : Fin 2) (h : (s.ptpPorts i).contains n.val = true) :
    ((s.ptpLink n true).ptpPort i n).state = 4 := by
  have hcfg : R.NP_PTP n ≠ R.PI_CFG 1 := by simp only [R.NP_PTP, R.PI_CFG]; omega
  have hkeep : (s.ptpUp n 0).word (R.PI_CFG 1) = s.word (R.PI_CFG 1) :=
    (ptpUp_keeps (W := fun a => a == R.NP_PTP n) s n 0 (by simp)).2 _ (by simpa using hcfg.symm)
  rw [ptpLink_up_eq]
  match i with
  | 0 =>
    rw [show ((0 : Fin 2) : Nat) = 0 from rfl, ptpUp_other _ _ _ _ (by decide)]
    exact ptpUp_state s n 0 h
  | 1 => exact ptpUp_state _ n 1 (by rw [ptpPorts_congr hkeep]; exact h)

/-- The words of a link that comes up. -/
def linkWord (n a : Nat) : Bool := a == R.NP_STATUS n || a == R.NP_PTP n || plumbWord a

theorem linkWord_plumb {n : Nat} (a : Nat) (h : plumbWord a = true) : linkWord n a = true := by simp [linkWord, h]

theorem linkWord_mem {n a : Nat} (h : linkWord n a = true) : a ∈ [R.NP_STATUS n, R.NP_PTP n] ++ eventWords := by
  simp only [linkWord, Bool.or_eq_true, beq_iff_eq] at h
  simp only [List.mem_append, List.mem_cons]
  rcases h with (h | h) | h
  · tauto
  · tauto
  · exact .inr (plumbWord_mem_eventWords h)

theorem txFrames_plumb (n : Fin 2) : plumbWord (R.NP_TX_FRAMES n) = true := by
  match n with
  | 0 => rfl
  | 1 => rfl

theorem onPort_keeps (s : State) (n : Nat) (f : Port → Port) : Keeps E W s (s.onPort n f) := .of_unnoticed rfl fun _ _ => rfl

theorem linkShown_keeps (s : State) (n : Nat) (hw : W (R.NP_STATUS n) = true) : Keeps E W s (s.linkShown n) :=
  (((Keeps.refl s).wr _ _ hw).wr _ _ hw).wr _ _ hw

theorem linkRaised_rest (s : State) (n : Fin 2) : Keeps E plumbWord (s.linkShown n) (s.linkRaised n) :=
  ((onPort_keeps _ _ _).emit _).wr _ _ (txFrames_plumb n)

theorem ptpLink_up_keeps (s : State) (n : Nat) (hw : W (R.NP_PTP n) = true) : Keeps sansPtp W s (s.ptpLink n true) :=
  (ptpUp_keeps s n 0 hw).trans (ptpUp_keeps _ n 1 hw)

/-- A link once it is up, with its event cleared and its PTP ports started. -/
def State.linkStarted (s : State) (n : Nat) : State := (((s.linkRaised n).condOff Ev.LINK_DOWN n).ptpLink n true).flushEvents

/-- After NPn_STATUS is shown only NPn_PTP and what events write change. -/
theorem linkStarted_rest (s : State) (n : Fin 2) :
    Keeps sansPtp (fun a => a == R.NP_PTP n || plumbWord a) (s.linkShown n) (s.linkStarted n) := by
  have hp : ∀ a, plumbWord a = true → (a == R.NP_PTP n || plumbWord a) = true := fun a h => by simp [h]
  have hraised : Keeps sansPtp (fun a => a == R.NP_PTP n || plumbWord a) (s.linkShown n) (s.linkRaised n) :=
    (linkRaised_rest s n).mono (E := sansPtp) (fun _ => rfl) (by simp +contextual)
  exact ((hraised.condOff hp _ _ _).trans (ptpLink_up_keeps _ n (by simp))).flushEvents hp

theorem linkStarted_keeps (s : State) (n : Fin 2) : Keeps sansPtp (linkWord n) s (s.linkStarted n) :=
  (linkShown_keeps s n (by simp [linkWord])).trans ((linkStarted_rest s n).mono (fun _ => rfl) (by simp +contextual [linkWord]))

theorem ptpLink_up_frame (s : State) (n : Nat) : (s.ptpLink n true).out = s.out ∧ (s.ptpLink n true).conds = s.conds := by
  have hone : ∀ (u : State) i, (u.ptpUp n i).out = u.out ∧ (u.ptpUp n i).conds = u.conds := by
    intro u i
    unfold State.ptpUp State.onPtp State.ptpShow
    (repeat' split) <;> exact ⟨rfl, rfl⟩
  rw [ptpLink_up_eq, (hone _ 1).1, (hone _ 1).2, (hone s 0).1, (hone s 0).2]
  exact ⟨rfl, rfl⟩

theorem linkStarted_inactive (s : State) (n : Nat) : (s.linkStarted n).condActive Ev.LINK_DOWN n = false := by
  rw [State.linkStarted, State.condActive, (flushEvents_frame2 _).2.2.2, (ptpLink_up_frame _ n).2]
  exact condOff_inactive _ _ _ _

theorem condOff_out (s : State) (e : Event) (source arg : Nat) : s.out <+: (s.condOff e source arg).out := by
  unfold State.condOff
  split
  · have h := foldl_keeps State.out (fun (t : State) k => t.enqueue e (BitVec.ofNat 32 source) (BitVec.ofNat 32 arg) true k)
      (fun t k => by simp only [enqueue_frame2]) (List.range 4) { s with conds := s.conds.filter (fun c => c != (e.code, source)) }
    have hpre : s.out <+: _ := ⟨[], (List.append_nil _).trans h.symm⟩
    exact hpre.trans (flushEvents_out _)
  · exact List.prefix_rfl

theorem linkStarted_out (s : State) (n : Nat) : Output.gratuitousArp n ∈ (s.linkStarted n).out := by
  have hsent : Output.gratuitousArp n ∈ (s.linkRaised n).out := List.mem_append_right _ (List.mem_singleton_self _)
  refine (flushEvents_out _).subset ?_
  rw [(ptpLink_up_frame _ n).1]
  exact (condOff_out _ _ _ _).subset hsent

/-- Fields whose bits do not meet are apart, whatever their words. -/
theorem apart_of_bits {f g : Field} (h : f.lo + f.width ≤ g.lo ∨ g.lo + g.width ≤ f.lo) : f.apart g = true := by
  rcases h with h | h <;> simp [Field.apart, h]

theorem linkShown_rd (s : State) (n : Nat) : (s.linkShown n).linkOn n = true ∧
    (s.linkShown n).rd (R.NP_STATUS_FEC_LOCK n) = b2n (decide (s.netMode n = 3) && s.flag (R.NP_CFG_FEC n)) ∧
    (s.linkShown n).rd (R.NP_STATUS_AN_DONE n) = b2n (decide (s.netMode n = 1) && s.flag (R.NP_CFG_AN37 n)) := by
  have hlock : (R.NP_STATUS_LINK n).apart (R.NP_STATUS_FEC_LOCK n) = true := apart_of_bits (by simp)
  have hdone : (R.NP_STATUS_LINK n).apart (R.NP_STATUS_AN_DONE n) = true := apart_of_bits (by simp)
  have hboth : (R.NP_STATUS_AN_DONE n).apart (R.NP_STATUS_FEC_LOCK n) = true := apart_of_bits (by simp)
  unfold State.linkShown State.wrB State.linkOn
  refine ⟨(flag_eq_true _ _).2 (rd_wr_same _ _ _ rfl), ?_, ?_⟩
  · rw [rd_wr_apart _ _ _ _ rfl hlock, rd_wr_apart _ _ _ _ rfl hboth, rd_wr_same _ _ _ rfl]
    cases decide (s.netMode n = 3) && s.flag (R.NP_CFG_FEC n) <;> rfl
  · rw [rd_wr_apart _ _ _ _ rfl hdone, rd_wr_same _ _ _ rfl]
    cases decide (s.netMode n = 1) && s.flag (R.NP_CFG_AN37 n) <;> rfl

theorem status_apart (n : Fin 2) : (R.NP_STATUS n == R.NP_PTP n || plumbWord (R.NP_STATUS n)) = false := by
  match n with
  | 0 => rfl
  | 1 => rfl

theorem ptpPort_congr (h : t.ptp = s.ptp) (i n : Nat) : t.ptpPort i n = s.ptpPort i n := by rw [State.ptpPort, h, State.ptpPort]

theorem linkStarted_state (s : State) (n i : Fin 2) (h : (s.ptpPorts i).contains n.val = true) :
    ((s.linkStarted n).ptpPort i n).state = 4 := by
  have hcfg : linkWord n (R.PI_CFG i) = false := by
    match n, i with
    | 0, 0 => rfl
    | 0, 1 => rfl
    | 1, 0 => rfl
    | 1, 1 => rfl
  have hraised : Keeps sansPtp (linkWord n) s ((s.linkRaised n).condOff Ev.LINK_DOWN n) :=
    ((linkShown_keeps s n (by simp [linkWord])).trans ((linkRaised_rest s n).mono (fun _ => rfl) (by simp +contextual [linkWord]))).condOff
      linkWord_plumb _ _ _
  have hports := ptpPorts_congr (i := i) (hraised.2 _ hcfg)
  have hflush : (s.linkStarted n).ptp = (((s.linkRaised n).condOff Ev.LINK_DOWN n).ptpLink n true).ptp := by
    simp only [State.linkStarted, flushEvents_frame]
  rw [ptpPort_congr hflush]
  exact ptpLink_up_state _ n i (by rw [hports]; exact h)

/-! ## A link goes down (R363) -/

/-- NPn_STATUS and the count of a link that has gone down. -/
def State.linkCut (s : State) (n : Nat) : State :=
  (((s.wr (R.NP_STATUS_LINK n) 0).wr (R.NP_STATUS_FEC_LOCK n) 0).wr (R.NP_STATUS_AN_DONE n) 0).inc (R.NP_LINK_DOWNS_COUNT n)

/-- The link is shown as down with its event; its PTP ports are yet to follow. -/
def State.linkFallen (s : State) (n cause : Nat) : State := ((s.linkCut n).lifeAdd (0x168 + 2 * n) 2 1).condOn Ev.LINK_DOWN n cause

theorem linkLost_eq (s : State) (n cause : Nat) (h : s.linkOn n = true) : s.linkLost n cause = (s.linkFallen n cause).ptpLink n false :=
  if_pos h

theorem linkCut_rd (s : State) (n : Nat) : (s.linkCut n).linkOn n = false ∧ (s.linkCut n).rd (R.NP_STATUS_FEC_LOCK n) = 0 ∧
    (s.linkCut n).rd (R.NP_LINK_DOWNS_COUNT n) = (s.rd (R.NP_LINK_DOWNS_COUNT n) + 1) % 2 ^ 32 := by
  have hapart : R.NP_STATUS n ≠ R.NP_LINK_DOWNS n := by simp only [R.NP_STATUS, R.NP_LINK_DOWNS]; omega
  have hlock : (R.NP_STATUS_FEC_LOCK n).apart (R.NP_STATUS_LINK n) = true := apart_of_bits (by simp)
  have hdone : (R.NP_STATUS_AN_DONE n).apart (R.NP_STATUS_LINK n) = true := apart_of_bits (by simp)
  have hboth : (R.NP_STATUS_AN_DONE n).apart (R.NP_STATUS_FEC_LOCK n) = true := apart_of_bits (by simp)
  have hlink : (s.linkCut n).rd (R.NP_STATUS_LINK n) = 0 := by
    rw [State.linkCut, State.inc, State.add, rd_wr_word _ _ _ _ hapart, rd_wr_apart _ _ _ _ rfl hdone, rd_wr_apart _ _ _ _ rfl hlock,
      rd_wr_same _ _ _ rfl, Nat.zero_mod]
  refine ⟨?_, ?_, ?_⟩
  · rw [State.linkOn, State.flag, hlink]
    rfl
  · rw [State.linkCut, State.inc, State.add, rd_wr_word _ _ _ _ hapart, rd_wr_apart _ _ _ _ rfl hboth, rd_wr_same _ _ _ rfl, Nat.zero_mod]
  · rw [State.linkCut, rd_inc _ _ rfl, rd_wr_word _ _ _ _ hapart.symm, rd_wr_word _ _ _ _ hapart.symm, rd_wr_word _ _ _ _ hapart.symm]

/-- The PTP port of PTP clock `i` on a link that has gone down. -/
def State.ptpDown (s : State) (n i : Nat) : State :=
  if (s.ptpPorts i).contains n then
    (if s.slavePort i = some n then (s.onPtp i n (fun _ => {})).noParent i else s.onPtp i n (fun _ => {})).bmca i
  else s

theorem ptpLink_down_eq (s : State) (n : Nat) : s.ptpLink n false = (s.ptpDown n 0).ptpDown n 1 := rfl

section
variable (hW : ClockWords W) (htbs : ∀ (u : State) b, E { u with tbs := b } = E u)
include hW htbs

theorem ptpDown_clock (hptp : ∀ (u : State) b, E { u with ptp := b } = E u) (s : State) {n i : Nat} (hn : n < 2) (hi : i < 2) :
    ClockKeeps E W s (s.ptpDown n i) := by
  have hon := onPtp_clock hW hptp s i hn (fun _ => {})
  exact .ite ((ClockKeeps.ite (hon.trans (noParent_clock hW htbs hi _)) hon).trans (bmca_clock hW htbs hptp _ hi)) (.refl s)

end

/-- The state less the time bases and the PTP ports. -/
def sansClock (u : State) : State := { u with tbs := [], ptp := [] }

theorem eq_of_sansClock (h : sansClock t.unnoticed = sansClock s.unnoticed) : t = { s.noticed t with tbs := t.tbs, ptp := t.ptp } :=
  calc
    t = { (sansClock t.unnoticed).noticed t with tbs := t.tbs, ptp := t.ptp } := rfl
    _ = _ := by rw [h]; rfl

theorem ptpLink_down_clock (s : State) (n : Fin 2) : ClockKeeps sansClock timeWord s (s.ptpLink n false) := by
  rw [ptpLink_down_eq]
  exact (ptpDown_clock timeWord_clockWords (fun _ _ => rfl) (fun _ _ => rfl) s n.isLt (by decide)).trans
    (ptpDown_clock timeWord_clockWords (fun _ _ => rfl) (fun _ _ => rfl) _ n.isLt (by decide))

theorem status_time (n : Fin 2) : timeWord (R.NP_STATUS n) = false := by
  match n with
  | 0 => rfl
  | 1 => rfl

/-- A link that is down stays down while the ports of a PTP clock decide. -/
theorem linkOn_time (h : ClockKeeps E timeWord s t) (n : Fin 2) : t.linkOn n = s.linkOn n :=
  flag_congr _ (h.keeps.2 _ (status_time n))

/-- A PTP port in its default state, on a link that is down, stays so. -/
theorem portsDecided_off (s : State) (i : Nat) (n : Fin 2) (hoff : s.linkOn n = false) (h : s.ptpPort i n = {}) :
    (s.portsDecided i).ptpPort i n = {} := by
  refine (List.foldlRecOn (motive := fun u : State => u.linkOn n = false ∧ u.ptpPort i n = {}) (s.ptpPorts i) _ ⟨hoff, h⟩
    fun u hu m hm => ?_).2
  obtain ⟨hlink, hport⟩ := hu
  have hclock : ClockKeeps sansPtp timeWord u (u.ptpDecide i m (s.bestMaster i)) :=
    ptpDecide_clock timeWord_clockWords (fun _ _ => rfl) u i (mem_ptpPorts s i m hm) _
  refine ⟨(linkOn_time hclock n).trans hlink, ?_⟩
  rcases ptpDecide_port u i m i n (s.bestMaster i) with hkept | ⟨-, -, hdef⟩ | ⟨hkey, hon, -⟩
  · rw [hkept, hport]
  · exact hdef
  · obtain rfl : n.val = m := by omega
    rw [hlink] at hon
    exact absurd hon (by decide)

theorem ptpDown_state (s : State) (n : Fin 2) {i : Nat} (hi : i < 2) (hoff : s.linkOn n = false)
    (h : (s.ptpPorts i).contains n.val = true) : (s.ptpDown n i).ptpPort i n = {} := by
  have hstopped : ∀ u : State, u.linkOn n = false → u.ptpPort i n = {} → (u.bmca i).ptpPort i n = {} := fun u hu hp => by
    rw [(bmca_decided (E := sansBases) timeWord_clockWords (fun _ _ => rfl) u hi).ptpPort, portsDecided_off u i n hu hp]
  have hon : ClockKeeps sansPtp timeWord s (s.onPtp i n (fun _ => {})) :=
    onPtp_clock timeWord_clockWords (fun _ _ => rfl) s i n.isLt _
  have hlink : (s.onPtp i n (fun _ => {})).linkOn n = false := (linkOn_time hon n).trans hoff
  rw [State.ptpDown, if_pos h]
  split
  · have hparent : ClockKeeps sansBases timeWord (s.onPtp i n (fun _ => {})) ((s.onPtp i n (fun _ => {})).noParent i) :=
      noParent_clock timeWord_clockWords (fun _ _ => rfl) hi _
    exact hstopped _ ((linkOn_time hparent n).trans hlink) (by rw [hparent.ptpPort, onPtp_same])
  · exact hstopped _ hlink (onPtp_same _ _ _ _)

/-- The ports of the other PTP clock stay as they are. -/
theorem portsDecided_other (s : State) (i j n : Nat) (hj : j ≠ i) (hn : n < 2) : (s.portsDecided i).ptpPort j n = s.ptpPort j n := by
  refine List.foldlRecOn (motive := fun u : State => u.ptpPort j n = s.ptpPort j n) (s.ptpPorts i) _ rfl fun u hu m hm => ?_
  have hm2 := mem_ptpPorts s i m hm
  rcases ptpDecide_port u i m j n (s.bestMaster i) with hkept | ⟨hkey, -, -⟩ | ⟨hkey, -, -⟩
  · rw [hkept, hu]
  · omega
  · omega

theorem ptpDown_other (s : State) (n : Fin 2) {i j : Nat} (hi : i < 2) (hj : j ≠ i) : (s.ptpDown n i).ptpPort j n = s.ptpPort j n := by
  have hstopped : ∀ u : State, (u.bmca i).ptpPort j n = u.ptpPort j n := fun u => by
    rw [(bmca_decided (E := sansBases) timeWord_clockWords (fun _ _ => rfl) u hi).ptpPort, portsDecided_other u i j n hj n.isLt]
  have hon : (s.onPtp i n (fun _ => {})).ptpPort j n = s.ptpPort j n := onPtp_other _ _ _ _ _ _ (by omega)
  unfold State.ptpDown
  split
  · rw [hstopped]
    split
    · rw [(noParent_clock (E := sansBases) timeWord_clockWords (fun _ _ => rfl) hi _).ptpPort, hon]
    · exact hon
  · rfl

theorem ptpLink_down_state (s : State) (n i : Fin 2) (hoff : s.linkOn n = false) (h : (s.ptpPorts i).contains n.val = true) :
    (s.ptpLink n false).ptpPort i n = {} := by
  have hfirst : ClockKeeps sansClock timeWord s (s.ptpDown n 0) :=
    ptpDown_clock timeWord_clockWords (fun _ _ => rfl) (fun _ _ => rfl) s n.isLt (by decide)
  rw [ptpLink_down_eq]
  match i with
  | 0 =>
    rw [show ((0 : Fin 2) : Nat) = 0 from rfl, ptpDown_other _ n (by decide) (by decide)]
    exact ptpDown_state s n (by decide) hoff h
  | 1 =>
    refine ptpDown_state _ n (by decide) ((linkOn_time hfirst n).trans hoff) ?_
    rw [ptpPorts_congr (hfirst.keeps.2 _ rfl)]
    exact h

/-! ## The statement -/

theorem linkUp_shows (s : State) (np : Fin 2) (fec an : Bool) (hp : s.powered = true) (hmode : s.netMode np ≠ 0)
    (hoff : s.linkOn np = false) (hloop : s.looped np = false) (hfar : s.farLoop np = false)
    (hfec : s.netMode np = 3 → s.rd (R.NP_CFG_FEC np) = 1 → fec = true)
    (han : s.netMode np = 1 → s.rd (R.NP_CFG_AN37 np) = 1 → an = true) :
    ∃ t, exec (.linkUp np true fec an) s = .next t ∧ t.linkOn np = true ∧
      t.rd (R.NP_STATUS_FEC_LOCK np) = b2n (decide (s.netMode np = 3) && s.flag (R.NP_CFG_FEC np)) ∧
      t.rd (R.NP_STATUS_AN_DONE np) = b2n (decide (s.netMode np = 1) && s.flag (R.NP_CFG_AN37 np)) ∧
      Output.gratuitousArp np ∈ t.out ∧ t.condActive Ev.LINK_DOWN np = false ∧
      (∀ i : Fin 2, (s.ptpPorts i).contains np = true → (t.ptpPort i np).state = 4) ∧ t.tbs = s.tbs ∧
      t = { s.noticed t with tbs := t.tbs, ptp := t.ptp } ∧ SameWords s t ([R.NP_STATUS np, R.NP_PTP np] ++ eventWords) := by
  have hrun : exec (.linkUp np true fec an) s = .next (s.linkStarted np).latch := by
    show execLinkUp np true fec an s = _
    rw [execLinkUp, if_pos hp, linkReport_up hmode hoff hloop hfar hfec han]
    rfl
  have hkeeps := (linkStarted_keeps s np).latch
  have hrest := (linkStarted_rest s np).latch
  obtain ⟨hon, hlock, hdone⟩ := linkShown_rd s np
  refine ⟨_, hrun, ?_, ?_, ?_, ?_, ?_, fun i hi => ?_, (congrArg State.tbs hkeeps.1 :), eq_of_sansClock ?_, fun a ha =>
    hkeeps.2 a (Bool.eq_false_iff.2 fun hw => ha (linkWord_mem hw))⟩
  · rw [State.linkOn, flag_of_rd (hrest.rd _ (status_apart np))]
    exact hon
  · rw [hrest.rd _ (status_apart np), hlock]
  · rw [hrest.rd _ (status_apart np), hdone]
  · simp only [latch_frame]
    exact linkStarted_out s np
  · have hinactive := linkStarted_inactive s np
    rw [State.condActive] at hinactive ⊢
    simpa only [latch_frame] using hinactive
  · rw [ptpPort_congr (s := s.linkStarted np) (by simp only [latch_frame])]
    exact linkStarted_state s np i hi
  · have hframe : Keeps sansClock (linkWord np) s (s.linkStarted np).latch := hkeeps.mono (fun _ => rfl) fun _ h => h
    exact hframe.1

/-- The words that show a link as down. -/
def linkCutWord (n a : Nat) : Bool := a == R.NP_STATUS n || a == R.NP_LINK_DOWNS n

theorem linkCut_keeps (s : State) (n : Nat) : Keeps E (linkCutWord n) s (s.linkCut n) :=
  ((((Keeps.refl s).wr _ _ (by simp [linkCutWord])).wr _ _ (by simp [linkCutWord])).wr _ _ (by simp [linkCutWord])).wr _ _
    (by simp [linkCutWord])

theorem linkCutWord_apart (n : Fin 2) {a : Nat} (h : linkCutWord n a = true) : timeWord a = false ∧ plumbWord a = false := by
  simp only [linkCutWord, Bool.or_eq_true, beq_iff_eq] at h
  match n with
  | 0 => rcases h with rfl | rfl <;> exact ⟨rfl, rfl⟩
  | 1 => rcases h with rfl | rfl <;> exact ⟨rfl, rfl⟩

theorem instanceCfg_apart (n i : Fin 2) : linkCutWord n (R.PI_CFG i) = false ∧ plumbWord (R.PI_CFG i) = false := by
  match n, i with
  | 0, 0 => exact ⟨rfl, rfl⟩
  | 0, 1 => exact ⟨rfl, rfl⟩
  | 1, 0 => exact ⟨rfl, rfl⟩
  | 1, 1 => exact ⟨rfl, rfl⟩

theorem linkFallen_rest (s : State) (n cause : Nat) : Keeps E plumbWord (s.linkCut n) (s.linkFallen n cause) :=
  ((Keeps.refl _).lifeAdd _ _ _).condOn plumb_self _ _ _

theorem linkDown_shows (s : State) (np : Fin 2) (cause : Fin 4) (hp : s.powered = true) (hon : s.linkOn np = true)
    (hcause : cause.val < 2 ∨ (cause = 2 ∧ s.looped np = true) ∨ (cause = 3 ∧ s.netMode np = 0)) :
    ∃ t, exec (.linkDown np cause) s = .next t ∧ t.linkOn np = false ∧ t.rd (R.NP_STATUS_FEC_LOCK np) = 0 ∧
      t.rd (R.NP_LINK_DOWNS_COUNT np) = (s.rd (R.NP_LINK_DOWNS_COUNT np) + 1) % 2 ^ 32 ∧ t.condActive Ev.LINK_DOWN np = true ∧
      (∀ i : Fin 2, (s.ptpPorts i).contains np = true → (t.ptpPort i np).state = 3) ∧
      t = { s.noticed t with tbs := t.tbs, ptp := t.ptp } := by
  have hcause' : s.powered = true ∧ (cause.val < 2 ∨ (cause.val = 2 ∧ s.looped np = true) ∨ (cause.val = 3 ∧ s.netMode np = 0)) := by
    refine ⟨hp, hcause.imp_right (Or.imp (And.imp_left ?_) (And.imp_left ?_))⟩
    · rintro rfl
      rfl
    · rintro rfl
      rfl
  have hrun : exec (.linkDown np cause) s = .next ((s.linkFallen np cause).ptpLink np false).latch := by
    show execLinkDown np cause s = _
    rw [execLinkDown, if_pos hcause', linkLost_eq s np cause hon]
    rfl
  have hcut : Keeps sansClock (linkCutWord np) s (s.linkCut np) := linkCut_keeps s np
  have hfallen : Keeps sansClock plumbWord (s.linkCut np) (s.linkFallen np cause) := linkFallen_rest s np cause
  have hclock := ptpLink_down_clock (s.linkFallen np cause) np
  obtain ⟨hoff, hlock, hcount⟩ := linkCut_rd s np
  have hrd (f : Field) (hf : linkCutWord np f.addr = true) : ((s.linkFallen np cause).ptpLink np false).latch.rd f = (s.linkCut np).rd f := by
    rw [latch_rd, hclock.keeps.rd f (linkCutWord_apart np hf).1, hfallen.rd f (linkCutWord_apart np hf).2]
  have hstatus : linkCutWord np (R.NP_STATUS np) = true := by simp [linkCutWord]
  have hdowns : linkCutWord np (R.NP_LINK_DOWNS np) = true := by simp [linkCutWord]
  have hcfg (i : Fin 2) : (s.linkFallen np cause).word (R.PI_CFG i) = s.word (R.PI_CFG i) := by
    rw [hfallen.2 _ (instanceCfg_apart np i).2, hcut.2 _ (instanceCfg_apart np i).1]
  refine ⟨_, hrun, ?_, ?_, ?_, ?_, fun i hi => ?_, eq_of_sansClock ?_⟩
  · rw [State.linkOn, flag_of_rd (hrd _ hstatus)]
    exact hoff
  · rw [hrd _ hstatus, hlock]
  · rw [hrd _ hdowns, hcount]
  · have hactive := (hclock.links np).trans (condOn_active ((s.linkCut np).lifeAdd (0x168 + 2 * np) 2 1) Ev.LINK_DOWN np cause)
    rw [State.condActive] at hactive ⊢
    simpa only [latch_frame] using hactive
  · have hdown : (s.linkFallen np cause).linkOn np = false := (flag_of_rd (hfallen.rd _ (linkCutWord_apart np hstatus).2)).trans hoff
    rw [ptpPort_congr (s := (s.linkFallen np cause).ptpLink np false) (by simp only [latch_frame]), ptpLink_down_state _ np i hdown (by rw [ptpPorts_congr (hcfg i)]; exact hi)]
  · rw [latch_unnoticed, hclock.keeps.1, hfallen.1, hcut.1]

/-- Settles O56: each clause is the lemma about its command. -/
theorem networkPorts : Obligations.NetworkPorts :=
  ⟨linkUp_shows, linkDown_shows, arpRequest_answered, arpReply_fills, arpRetry_goesOn, icmpEcho_answered, npRxDiscard_counts, arpAge_goes⟩

/-- A frame of 63 bytes on a link that is up counts as bad. -/
theorem npRxDiscard_witness : ∃ t, exec (.npRxDiscard 0 63 true none true) (dayState.wr (R.NP_STATUS_LINK 0) 1) = .next t ∧
    t.rd (R.NP_RX_BAD_COUNT 0) = 1 := by
  obtain ⟨t, hrun, hshort, -⟩ := npRxDiscard_counts (dayState.wr (R.NP_STATUS_LINK 0) 1) 0 63 true none true (by decide +kernel)
    (by decide +kernel) (.inr (.inl (by decide)))
  rw [if_pos (.inr (.inl (by decide)))] at hshort
  exact ⟨t, hrun, hshort.1.trans (by decide +kernel)⟩

end Sys2Proof.Machine
end

section
/-! PROOFS. PTP messages, the servo, holdover and time pulses (R368 to R383). -/

namespace Sys2Proof.Machine

variable {s t u : State} {E : State → State} {W : Nat → Bool}

/-! ## What the servo and the pulses change (R374, R381 to R383) -/

section
variable (hW : ClockWords W) (htbs : ∀ (u : State) b, E { u with tbs := b } = E u) (htps : ∀ (u : State) b, E { u with tps := b } = E u)
include hW

theorem ClockKeeps.wrW (h : ClockKeeps E W s t) (lo hi : Field) (v : Nat) (hlo : 0xC0800 ≤ lo.addr) (hhi : 0xC0800 ≤ hi.addr) :
    ClockKeeps E W s (t.wrW lo hi v) :=
  (h.wr lo _ (hW.base _ hlo)).wr hi _ (hW.base _ hhi)

theorem snapshotTime_clock (s : State) : ClockKeeps E W s s.snapshotTime := by
  have htb : ClockKeeps E W s ((List.range 4).foldl (fun (t : State) k => t.wrW (R.SNAP_TB_LO_NS k) (R.SNAP_TB_HI_NS k) (s.tb k).ns) s) :=
    .foldl (fun t k _ => (ClockKeeps.refl t).wrW hW _ _ _ (by simp only [R.SNAP_TB_LO]; omega) (by simp only [R.SNAP_TB_HI]; omega)) s
  exact ((htb.wrW hW _ _ _ (by decide) (by decide)).wrW hW _ _ _ (by decide) (by decide)).wr _ _ (hW.base _ (by decide))

include htps in
theorem tpFire_clock (s : State) (p n : Nat) (late : Bool) : ClockKeeps E W s (s.tpFire p n late) := by
  have h0 : ClockKeeps E W s { s with tps := Sparse.set 0 s.tps p n } := (ClockKeeps.refl s).update (htps s.unnoticed _) rfl rfl
  unfold State.tpFire
  extract_lets s1 s2 s3
  have h1 : ClockKeeps E W s s1 := (h0.emit _).wr _ _ (hW.base _ (by simp only [R.TP_COUNT]; omega))
  have h2 : ClockKeeps E W s s2 := .ite (h1.wr _ _ (hW.base _ (by simp only [R.TP_LATE]; omega))) h1
  have h3 : ClockKeeps E W s s3 := .ite (h2.wr _ _ (hW.base _ (by simp only [R.TP_CFG]; omega))) h2
  exact .ite (h3.trans (snapshotTime_clock hW _)) h3

include htbs

theorem tbRate_clock (s : State) (k : Nat) (x : Rat) : ClockKeeps E W s (s.tbRate k x) :=
  (onTb_clock htbs _ _ _).wr _ _ (hW.base _ (by simp only [R.TB_ADJ]; omega))

include htps

theorem stepTb_clock (s : State) (k : Nat) (v : Int) : ClockKeeps E W s (s.stepTb k v) :=
  (onTb_clock htbs _ _ _).trans (.foldl (fun t p _ => .ite (tpFire_clock hW htps t p _ true) (.refl t)) _)

theorem applyOffset_clock (s : State) (i k : Nat) (o : Rat) : ClockKeeps E W s (s.applyOffset i k o) := by
  have h1 := ClockKeeps.ite (c := (s.tb k).refused = true)
    ((onTb_clock (E := E) (W := W) htbs s k (fun t => { t with refused := false, pend := 0 })).trans (clearJump_clock hW _ k)) (.refl s)
  unfold State.applyOffset
  extract_lets tb s1 st s2 r s3 lock s4 s5
  have h2 : ClockKeeps E W s s2 := h1.trans (.ite (setTb_clock hW htbs _ _ _) (.refl _))
  clear_value s2
  have h3 : ClockKeeps E W s s3 := h2.trans (.ite ((onTb_clock htbs _ _ _).trans (stepTb_clock hW htbs htps _ _ _))
    ((onTb_clock htbs _ _ _).trans (tbRate_clock hW htbs _ _ _)))
  clear_value s3
  have h4 : ClockKeeps E W s s4 := h3.trans (onTb_clock htbs _ _ _)
  clear_value s4
  have h5 : ClockKeeps E W s s5 := h4.trans (.ite (setTb_clock hW htbs _ _ _) (.refl _))
  clear_value s5
  exact .ite (.refl s) (.ite (h1.trans ((onTb_clock htbs _ _ _).trans (refuseJump_clock hW htbs _ _ _)))
    (h5.trans (.ite (setTb_clock hW htbs _ _ _) (.refl _))))

theorem instOffset_clock (s : State) {i : Nat} (hi : i < 2) (o : Rat) : ClockKeeps E W s (s.instOffset i o) :=
  ((ClockKeeps.refl s).wr _ _ (hW.inst i _ hi (by simp only [R.PI_STATUS, R.PI_OFFSET]; omega) (by simp only [R.PI_OFFSET, R.PI_GMQ]; omega))).trans
    (.foldl (fun t k _ => applyOffset_clock hW htbs htps t i k o) _)

end

/-! ## Messages of no PTP clock, and those that are served (R368) -/

theorem ptpServe_foreign (s : State) (h : PtpHdr) (f : State → State) (hc : s.carries h.np = true) (hp : s.powered = true)
    (hm : s.pow.phase ≠ .maint) (hmine : s.ptpMine h = false) :
    s.ptpServe h true f = (s.inc (R.NP_RX_FRAMES_COUNT h.np)).inc (R.PI_RX_ERR_COUNT h.inst) := by
  simp [State.ptpServe, hc, hp, hm, hmine]

theorem carries_of_ptpMine (s : State) (h : PtpHdr) (hmine : s.ptpMine h = true) : s.carries h.np = true := by
  simp only [State.ptpMine, Bool.and_eq_true] at hmine
  exact hmine.1.1.1

/-- The received message has been counted. -/
def State.ptpHeard (s : State) (h : PtpHdr) : State := s.inc (R.NP_RX_FRAMES_COUNT h.np)

theorem ptpServe_mine (s : State) (h : PtpHdr) (f : State → State) (hp : s.powered = true) (hm : s.pow.phase ≠ .maint)
    (hmine : s.ptpMine h = true) : s.ptpServe h true f = f (s.ptpHeard h) := by
  simp [State.ptpServe, State.ptpHeard, carries_of_ptpMine s h hmine, hp, hm, hmine]

theorem ptpHeard_word (s : State) (h : PtpHdr) (a : Nat) (ha : a ≠ R.NP_RX_FRAMES h.np) : (s.ptpHeard h).word a = s.word a :=
  word_wr_ne _ _ _ _ ha

theorem ptpHeard_flag (s : State) (h : PtpHdr) (f : Field) (hf : 0xC0400 ≤ f.addr) : (s.ptpHeard h).flag f = s.flag f :=
  flag_congr f (ptpHeard_word s h _ (by have := h.np.isLt; simp only [R.NP_RX_FRAMES]; omega))

theorem ptpHeard_port (s : State) (h : PtpHdr) (i n : Nat) : (s.ptpHeard h).ptpPort i n = s.ptpPort i n := rfl

theorem ptpForeign_counts (s : State) (h : PtpHdr) (f : Bool) (t1 t2 t3 t4 : Int) (id : BitVec 64) (pn : BitVec 16) (a : AnnounceData)
    (c : Instr) (hc : s.carries h.np = true) (hp : s.powered = true) (hm : s.pow.phase ≠ .maint) (hmine : s.ptpMine h = false)
    (hcmd : c = .sync h f t1 t2 ∨ c = .delayResp h t4 id pn ∨ c = .pdelayReq h t2 ∨ c = .pdelayResp h f t2 t3 t4 ∨ c = .delayReq h t4 ∨
      c = .announce h a) :
    ∃ t, exec c s = .next t ∧ t.rd (R.NP_RX_FRAMES_COUNT h.np) = (s.rd (R.NP_RX_FRAMES_COUNT h.np) + 1) % 2 ^ 32 ∧
      t.rd (R.PI_RX_ERR_COUNT h.inst) = (s.rd (R.PI_RX_ERR_COUNT h.inst) + 1) % 2 ^ 32 ∧
      t = { s with regs := t.regs, spans := { s.spans with leaves := t.spans.leaves } } ∧
      SameWords s t [R.NP_RX_FRAMES h.np, R.PI_RX_ERR h.inst] := by
  have hapart : R.NP_RX_FRAMES h.np ≠ R.PI_RX_ERR h.inst := by
    have := h.np.isLt
    simp only [R.NP_RX_FRAMES, R.PI_RX_ERR]
    omega
  have hserve (f : State → State) : (s.ptpServe h true f).done =
      .next ((s.inc (R.NP_RX_FRAMES_COUNT h.np)).inc (R.PI_RX_ERR_COUNT h.inst)).latch := by
    rw [ptpServe_foreign s h f hc hp hm hmine]
    rfl
  have hrun : exec c s = .next ((s.inc (R.NP_RX_FRAMES_COUNT h.np)).inc (R.PI_RX_ERR_COUNT h.inst)).latch := by
    rcases hcmd with rfl | rfl | rfl | rfl | rfl | rfl
    · exact hserve _
    · exact hserve _
    · exact hserve _
    · exact hserve _
    · exact hserve _
    · exact hserve _
  refine ⟨_, hrun, ?_, ?_, latch_of_sansNet_out rfl rfl rfl,
    latch_sameWords (sameWords_wr (sameWords_wr (fun _ _ => rfl) _ _ (by simp)) _ _ (by simp))⟩
  · rw [latch_rd, State.inc, State.add, rd_wr_word _ _ _ _ hapart]
    exact rd_inc s _ rfl
  · rw [latch_rd, rd_inc _ _ rfl]
    congr 2
    exact rd_wr_word s _ _ _ hapart.symm

/-! ## Sync and Follow_Up (R371, R372) -/

/-- The state less the time bases, the pulses and the PTP ports. -/
def sansTime (u : State) : State := { u with tbs := [], ptp := [], tps := [] }

theorem sansTime_tbs (u : State) (b : Sparse TimeBase) : sansTime { u with tbs := b } = sansTime u := rfl
theorem sansTime_ptp (u : State) (b : Sparse PtpPort) : sansTime { u with ptp := b } = sansTime u := rfl
theorem sansTime_tps (u : State) (b : Sparse Nat) : sansTime { u with tps := b } = sansTime u := rfl

theorem eq_of_sansTime (h : sansTime t.unnoticed = sansTime s.unnoticed) :
    t = { s.noticed t with tbs := t.tbs, ptp := t.ptp, tps := t.tps } :=
  calc
    t = { (sansTime t.unnoticed).noticed t with tbs := t.tbs, ptp := t.ptp, tps := t.tps } := rfl
    _ = _ := by rw [h]; rfl

theorem onPtp_time (s : State) (i : Nat) (n : Fin 2) (f : PtpPort → PtpPort) : ClockKeeps sansTime timeWord s (s.onPtp i n f) :=
  onPtp_clock timeWord_clockWords sansTime_ptp s i n.isLt f

theorem ptpOffset_time (s : State) (i n : Fin 2) (t1c t2 : Int) (mean : Rat) : ClockKeeps sansTime timeWord s (s.ptpOffset i n t1c t2 mean) :=
  (onPtp_time s i n _).trans (instOffset_clock timeWord_clockWords sansTime_tbs sansTime_tps _ i.isLt _)

/-- The port is SLAVE once the offset is known; nothing else of it changes. -/
theorem ptpOffset_port (s : State) (i n : Fin 2) (t1c t2 : Int) (mean : Rat) :
    (s.ptpOffset i n t1c t2 mean).ptpPort i n = { s.ptpPort i n with state := 9 } := by
  have hservo := instOffset_clock (E := sansBases) timeWord_clockWords (fun _ _ => rfl) (fun _ _ => rfl)
    (s.onPtp i n (fun p => { p with state := 9 })) i.isLt
  rw [State.ptpOffset, (hservo _).ptpPort, onPtp_same]

theorem syncDone_time (s : State) (i n : Fin 2) (t1c t2 : Int) : ClockKeeps sansTime timeWord s (s.syncDone i n t1c t2) := by
  have h1 := onPtp_time s i n (fun p => { p with sync := some (t1c, t2), two := none })
  unfold State.syncDone
  extract_lets s1
  split
  · split
    · exact h1.trans (ptpOffset_time _ i n _ _ _)
    · exact h1
  · exact h1

theorem syncDone_port (s : State) (i n : Fin 2) (t1c t2 : Int) :
    ((s.syncDone i n t1c t2).ptpPort i n).sync = some (t1c, t2) ∧ ((s.syncDone i n t1c t2).ptpPort i n).two = none := by
  have h1 := onPtp_same s i n (fun p => { p with sync := some (t1c, t2), two := none })
  unfold State.syncDone
  extract_lets s1
  split
  · split
    · rw [ptpOffset_port, h1]
      exact ⟨rfl, rfl⟩
    · rw [h1]
      exact ⟨rfl, rfl⟩
  · rw [h1]
    exact ⟨rfl, rfl⟩

/-- The time bases of a list have met a Sync at this instant. -/
def State.syncMet (s : State) (ks : List Nat) : State :=
  ks.foldl (fun (t : State) k => t.onTb k (fun b => { b with lastSync := some s.time })) s

theorem syncMet_clock (htbs : ∀ (u : State) b, E { u with tbs := b } = E u) (s : State) (ks : List Nat) : ClockKeeps E W s (s.syncMet ks) :=
  .foldl (fun t k _ => onTb_clock htbs t k _) s

theorem tb_onTb (s : State) (k j : Nat) (f : TimeBase → TimeBase) : (s.onTb k f).tb j = if j = k then f (s.tb k) else s.tb j :=
  get_set _ _ _ _ _

theorem syncMet_lastSync (s : State) (ks : List Nat) {k : Nat} (hk : k ∈ ks) : ((s.syncMet ks).tb k).lastSync = some s.time := by
  have hstep : ∀ (l : List Nat) (t : State), k ∈ l ∨ (t.tb k).lastSync = some s.time →
      ((l.foldl (fun (t : State) k => t.onTb k (fun b => { b with lastSync := some s.time })) t).tb k).lastSync = some s.time := by
    intro l
    induction l with
    | nil =>
      intro t h
      exact h.resolve_left (by simp)
    | cons j l ih =>
      intro t h
      refine ih _ ?_
      rw [tb_onTb]
      split
      · exact .inr rfl
      · next hne => exact h.imp_left fun hmem => (List.mem_cons.1 hmem).resolve_left hne
  exact hstep ks s (.inl hk)

theorem onPtp_tb (s : State) (i n k : Nat) (f : PtpPort → PtpPort) : (s.onPtp i n f).tb k = s.tb k := by
  unfold State.onPtp State.ptpShow
  split <;> rfl

theorem latch_tb (s : State) (k : Nat) : s.latch.tb k = s.tb k := by simp only [State.tb, latch_frame]

theorem instTbs_congr (h : ∀ k, k < 4 → t.word (R.TB_CFG k) = s.word (R.TB_CFG k)) (i : Nat) : t.instTbs i = s.instTbs i := by
  unfold State.instTbs
  refine List.filter_congr fun k hk => ?_
  rw [State.tbInst, State.tbInst, rd_congr _ _ (R.TB_CFG_SRC k) (h k (List.mem_range.1 hk))]

theorem ptpHeard_clock (s : State) (h : PtpHdr) : Keeps E (fun a => a == R.NP_RX_FRAMES h.np) s (s.ptpHeard h) :=
  (Keeps.refl s).wr _ _ (by simp)

theorem syncRx_time (s : State) (h : PtpHdr) (f : Bool) (t1 t2 : Int) : ClockKeeps sansTime timeWord s (s.syncRx h f t1 t2) := by
  have hmet := syncMet_clock (W := timeWord) sansTime_tbs s (s.instTbs h.inst)
  unfold State.syncRx
  extract_lets i n s1
  refine .ite (.refl s) (.ite ?_ (.ite (hmet.trans (onPtp_time _ _ _ _)) (hmet.trans (syncDone_time _ _ _ _ _))))
  split
  · exact .ite (syncDone_time _ _ _ _ _) (.refl s)
  · exact .refl s

theorem sync_taken (s : State) (h : PtpHdr) (f : Bool) (t1 t2 : Int) (hp : s.powered = true) (hm : s.pow.phase ≠ .maint)
    (hmine : s.ptpMine h = true) (hparent : s.fromParent h = true) :
    ∃ t, exec (.sync h f t1 t2) s = .next t ∧
      (f = false → h.twoStep = true → (t.ptpPort h.inst h.np).two = some (h.seq, t2, h.correction) ∧
        ∀ k ∈ s.instTbs h.inst, (t.tb k).lastSync = some s.time) ∧
      (f = false → h.twoStep = false → (t.ptpPort h.inst h.np).sync = some (t1 + h.correction, t2)) ∧
      (∀ r2 c, f = true → (s.ptpPort h.inst h.np).two = some (h.seq, r2, c) →
        (t.ptpPort h.inst h.np).sync = some (t1 + c + h.correction, r2) ∧ (t.ptpPort h.inst h.np).two = none) ∧
      t = { s.noticed t with tbs := t.tbs, ptp := t.ptp, tps := t.tps } := by
  have hrun : exec (.sync h f t1 t2) s = .next ((s.ptpHeard h).syncRx h f t1 t2).latch := by
    show (s.ptpServe h true _).done = _
    rw [ptpServe_mine s h _ hp hm hmine]
    rfl
  have hport (u : State) : u.latch.ptpPort h.inst h.np = u.ptpPort h.inst h.np := ptpPort_congr (by simp only [latch_frame]) _ _
  have hparent' : (s.ptpHeard h).fromParent h = true := hparent
  have htbs : (s.ptpHeard h).instTbs h.inst = s.instTbs h.inst :=
    instTbs_congr (fun k _ => ptpHeard_word s h _ (by have := h.np.isLt; simp only [R.TB_CFG, R.NP_RX_FRAMES]; omega)) _
  have hkeeps : Keeps sansTime (fun _ => true) s ((s.ptpHeard h).syncRx h f t1 t2).latch :=
    (((ptpHeard_clock s h).mono (fun _ => rfl) (by simp)).trans ((syncRx_time _ h f t1 t2).keeps.mono (fun _ => rfl) (by simp))).latch
  refine ⟨_, hrun, ?_, ?_, ?_, eq_of_sansTime hkeeps.1⟩
  · rintro rfl htwo
    have heq : (s.ptpHeard h).syncRx h false t1 t2 =
        ((s.ptpHeard h).syncMet (s.instTbs h.inst)).onPtp h.inst h.np (fun p => { p with two := some (h.seq, t2, h.correction) }) := by
      rw [← htbs]
      simp [State.syncRx, hparent', htwo, State.syncMet]
    rw [hport, heq, onPtp_same]
    refine ⟨rfl, fun k hk => ?_⟩
    rw [latch_tb, onPtp_tb]
    exact syncMet_lastSync (s.ptpHeard h) _ hk
  · rintro rfl htwo
    have heq : (s.ptpHeard h).syncRx h false t1 t2 =
        ((s.ptpHeard h).syncMet ((s.ptpHeard h).instTbs h.inst)).syncDone h.inst h.np (t1 + h.correction) t2 := by
      simp [State.syncRx, hparent', htwo, State.syncMet]
    rw [hport, heq]
    exact (syncDone_port _ _ _ _ _).1
  · rintro r2 c rfl htwo
    have htwo' : ((s.ptpHeard h).ptpPort h.inst h.np).two = some (h.seq, r2, c) := htwo
    have heq : (s.ptpHeard h).syncRx h true t1 t2 = (s.ptpHeard h).syncDone h.inst h.np (t1 + c + h.correction) r2 := by
      simp [State.syncRx, hparent', htwo']
    rw [hport, heq]
    exact syncDone_port _ _ _ _ _

end Sys2Proof.Machine
end

section
/-! PROOFS. The exchanges that measure a delay, Announce messages, and the messages a port sends (R369 to R372). -/

namespace Sys2Proof.Machine

variable {s t u : State} {E : State → State} {W : Nat → Bool}

/-! ## Frames -/

/-- The state less registers, PTP ports, what was sent and the draws. -/
def sansPtpNet (u : State) : State := { u with regs := [], ptp := [], out := [], free := 0 }

theorem eq_of_sansPtpNet (h : sansPtpNet u = sansPtpNet s) :
    u = { s with regs := u.regs, ptp := u.ptp, out := u.out, free := u.free } :=
  calc
    u = { sansPtpNet u with regs := u.regs, ptp := u.ptp, out := u.out, free := u.free } := rfl
    _ = _ := by rw [h]; rfl

theorem latch_of_sansPtpNet (h : sansPtpNet u = sansPtpNet s) :
    u.latch = { s with
      regs := u.latch.regs, spans := { s.spans with leaves := u.latch.spans.leaves }, ptp := u.latch.ptp, out := u.latch.out
      free := u.latch.free } :=
  calc
    u.latch = { u with spans := { u.spans with leaves := u.latch.spans.leaves } } := latch_eq_leaves u
    _ = { sansPtpNet u with
      regs := u.regs, spans := { (sansPtpNet u).spans with leaves := u.latch.spans.leaves }, ptp := u.ptp, out := u.out, free := u.free } :=
      rfl
    _ = { s with
      regs := u.regs, spans := { s.spans with leaves := u.latch.spans.leaves }, ptp := u.ptp, out := u.out, free := u.free } := by
      rw [h]; rfl
    _ = _ := by simp only [latch_frame]

theorem onPtp_sansPtpNet (s : State) (i n : Nat) (f : PtpPort → PtpPort) : sansPtpNet (s.onPtp i n f) = sansPtpNet s := by
  unfold State.onPtp State.ptpShow
  split <;> rfl

theorem onPtp_out (s : State) (i n : Nat) (f : PtpPort → PtpPort) : (s.onPtp i n f).out = s.out ∧ (s.onPtp i n f).free = s.free := by
  unfold State.onPtp State.ptpShow
  split <;> exact ⟨rfl, rfl⟩

theorem onPtp_words {l : List Nat} (h : SameWords s u l) (i n : Nat) (f : PtpPort → PtpPort) (hn : R.NP_PTP n ∈ l) :
    SameWords s (u.onPtp i n f) l := by
  have hu : SameWords s { u with ptp := Sparse.upd {} u.ptp (2 * i + n) f } l := h
  unfold State.onPtp State.ptpShow
  split
  · exact sameWords_wr (sameWords_wr hu _ _ hn) _ _ hn
  · exact sameWords_wr (sameWords_wr hu _ _ hn) _ _ hn

theorem ptpTx_words {l : List Nat} (h : SameWords s u l) (i n type : Nat) (q : BitVec 16) (x c : Int)
    (r : Option (BitVec 64 × BitVec 16)) (a : Option AnnounceData) (hn : R.NP_TX_FRAMES n ∈ l) : SameWords s (u.ptpTx i n type q x c r a) l :=
  sameWords_wr h _ _ hn

section
variable (u : State) (i n type : Nat) (q : BitVec 16) (x c : Int) (r : Option (BitVec 64 × BitVec 16)) (a : Option AnnounceData)

theorem ptpTx_out : (u.ptpTx i n type q x c r a).out = u.out ++ [.ptp n i type q x c r a] := rfl

theorem ptpTx_port (j m : Nat) : (u.ptpTx i n type q x c r a).ptpPort j m = u.ptpPort j m := rfl

theorem ptpTx_rest : sansPtpNet (u.ptpTx i n type q x c r a) = sansPtpNet u ∧ (u.ptpTx i n type q x c r a).free = u.free := ⟨rfl, rfl⟩

end

theorem drawn_words {l : List Nat} (h : SameWords s u l) : SameWords s u.drawn l := h

/-! ## Delay_Resp (R372, R374) -/

theorem setMean_rd (s : State) (n : Nat) (m : Rat) : (s.setMean n m).rd (R.NP_MEANDELAY_PS n) =
    unsigned 32 (clampI (-2147483648) 4294967295 (ratOpen 87 (m * 1000 / 65536))) :=
  (rd_wr_same _ _ _ rfl).trans (Nat.mod_eq_of_lt (unsigned_lt 32 _))

theorem meanDelay_time (n : Fin 2) : timeWord (R.NP_MEANDELAY n) = false := by
  match n with
  | 0 => rfl
  | 1 => rfl

theorem delayResp_taken (s : State) (h : PtpHdr) (t4 t1 t2 t3 : Int) (m : Rat) (hp : s.powered = true) (hm : s.pow.phase ≠ .maint)
    (hmine : s.ptpMine h = true) (hparent : s.fromParent h = true) (hdelay : s.rd (R.PI_CFG_DELAY h.inst) = 0)
    (hsync : (s.ptpPort h.inst h.np).sync = some (t1, t2)) (hreq : (s.ptpPort h.inst h.np).dreq = some (h.seq, t3))
    (hmean : m = (((t2 - t1) + (t4 - t3 - h.correction) : Int) : Rat) / 2) :
    ∃ t, exec (.delayResp h t4 clockId (s.portNo h.inst h.np)) s = .next t ∧
      (t.ptpPort h.inst h.np).state = 9 ∧ (t.ptpPort h.inst h.np).dreq = none ∧
      t.rd (R.NP_MEANDELAY_PS h.np) = unsigned 32 (clampI (-2147483648) 4294967295 (ratOpen 87 (m * 1000 / 65536))) ∧
      t = { s.noticed t with tbs := t.tbs, ptp := t.ptp, tps := t.tps } := by
  let mid := ((s.ptpHeard h).onPtp h.inst h.np (fun p => { p with dreq := none })).setMean h.np m
  have hflag : (s.ptpHeard h).flag (R.PI_CFG_DELAY h.inst) = false := by
    rw [ptpHeard_flag s h _ (by simp only [R.PI_CFG]; omega), State.flag, hdelay]
    rfl
  have hparent' : (s.ptpHeard h).fromParent h = true := hparent
  have hsync' : ((s.ptpHeard h).ptpPort h.inst h.np).sync = some (t1, t2) := hsync
  have hreq' : ((s.ptpHeard h).ptpPort h.inst h.np).dreq = some (h.seq, t3) := hreq
  have heq : (s.ptpHeard h).delayRespRx h t4 = mid.ptpOffset h.inst h.np t1 t2 m := by
    simp only [State.delayRespRx, hsync', hreq', hparent', hflag, and_self, if_true, ← hmean, mid]
  have hrun : exec (.delayResp h t4 clockId (s.portNo h.inst h.np)) s = .next (mid.ptpOffset h.inst h.np t1 t2 m).latch := by
    show (s.ptpServe h true _).done = _
    rw [ptpServe_mine s h _ hp hm hmine]
    rw [if_pos ⟨rfl, rfl⟩, heq, State.done]
  have hoff := ptpOffset_time mid h.inst h.np t1 t2 m
  have hmid : Keeps sansTime (fun _ => true) s mid :=
    (((ptpHeard_clock s h).mono (fun _ => rfl) (by simp)).trans ((onPtp_time _ _ _ _).keeps.mono (fun _ => rfl) (by simp))).wr _ _ rfl
  have hall : Keeps sansTime (fun _ => true) s (mid.ptpOffset h.inst h.np t1 t2 m).latch :=
    (hmid.trans (hoff.keeps.mono (fun _ => rfl) (by simp))).latch
  have hlatch : (mid.ptpOffset h.inst h.np t1 t2 m).latch.ptpPort h.inst h.np = { mid.ptpPort h.inst h.np with state := 9 } := by
    rw [ptpPort_congr (s := mid.ptpOffset h.inst h.np t1 t2 m) (by simp only [latch_frame]), ptpOffset_port]
  have hdreq : mid.ptpPort h.inst h.np = { s.ptpPort h.inst h.np with dreq := none } := onPtp_same (s.ptpHeard h) _ _ _
  refine ⟨_, hrun, ?_, ?_, ?_, eq_of_sansTime hall.1⟩
  · rw [hlatch]
  · rw [hlatch, hdreq]
  · rw [latch_rd, hoff.keeps.rd _ (meanDelay_time h.np)]
    exact setMean_rd _ _ _

/-! ## Pdelay_Req and Delay_Req (R368, R371) -/

theorem drawn_rest (u : State) : sansPtpNet u.drawn = sansPtpNet u ∧ u.drawn.ptp = u.ptp := ⟨rfl, rfl⟩

theorem ptpTx_ptp (u : State) (i n type : Nat) (q : BitVec 16) (x c : Int) (r : Option (BitVec 64 × BitVec 16)) (a : Option AnnounceData) :
    (u.ptpTx i n type q x c r a).ptp = u.ptp := rfl

theorem pdelayReqRx_frame (u : State) (h : PtpHdr) (t2 : Int) :
    sansPtpNet (u.pdelayReqRx h t2) = sansPtpNet u ∧ (u.pdelayReqRx h t2).ptp = u.ptp := by
  unfold State.pdelayReqRx
  extract_lets i n turn who
  split
  · split
    · rw [(drawn_rest _).1, (drawn_rest _).2, (ptpTx_rest _ _ _ _ _ _ _ _ _).1, ptpTx_ptp]
      exact ⟨rfl, rfl⟩
    · rw [(drawn_rest _).1, (drawn_rest _).2, (ptpTx_rest _ _ _ _ _ _ _ _ _).1, (ptpTx_rest _ _ _ _ _ _ _ _ _).1, ptpTx_ptp, ptpTx_ptp]
      exact ⟨rfl, rfl⟩
  · exact ⟨rfl, rfl⟩

theorem pdelayReq_answered (s : State) (h : PtpHdr) (t2 : Int) (hp : s.powered = true) (hm : s.pow.phase ≠ .maint)
    (hmine : s.ptpMine h = true) (hdelay : s.rd (R.PI_CFG_DELAY h.inst) = 1) :
    ∃ t, exec (.pdelayReq h t2) s = .next t ∧
      (∃ turn : Nat, t.out = s.out ++ (if s.rd (R.PI_CFG_ONESTEP h.inst) = 1
        then [.ptp h.np h.inst 3 h.seq 0 (h.correction + turn) (some (h.srcId, h.srcPort)) none]
        else [.ptp h.np h.inst 3 h.seq t2 0 (some (h.srcId, h.srcPort)) none,
          .ptp h.np h.inst 10 h.seq (t2 + turn) h.correction (some (h.srcId, h.srcPort)) none])) ∧
      t = { s with
          regs := t.regs, spans := { s.spans with leaves := t.spans.leaves }, out := t.out, free := t.free } ∧ SameWords s t
            [R.NP_RX_FRAMES h.np, R.NP_TX_FRAMES h.np] := by
  have hflag : (s.ptpHeard h).flag (R.PI_CFG_DELAY h.inst) = true := by
    rw [ptpHeard_flag s h _ (by simp only [R.PI_CFG]; omega)]
    exact (flag_eq_true _ _).2 hdelay
  have hstep : (s.ptpHeard h).flag (R.PI_CFG_ONESTEP h.inst) = s.flag (R.PI_CFG_ONESTEP h.inst) :=
    ptpHeard_flag s h _ (by simp only [R.PI_CFG]; omega)
  have hheard : SameWords s (s.ptpHeard h) [R.NP_RX_FRAMES h.np, R.NP_TX_FRAMES h.np] := sameWords_wr (fun _ _ => rfl) _ _ (by simp)
  have hrun : exec (.pdelayReq h t2) s = .next ((s.ptpHeard h).pdelayReqRx h t2).latch := by
    show (s.ptpServe h true _).done = _
    rw [ptpServe_mine s h _ hp hm hmine]
    rfl
  rw [hrun]
  have hframe := pdelayReqRx_frame (s.ptpHeard h) h t2
  refine ⟨_, rfl, ⟨(s.ptpHeard h).draw 81, ?_⟩, (latch_of_sansPtpNet hframe.1).trans ?_, latch_sameWords ?_⟩
  · rw [latch_out, State.pdelayReqRx, if_pos hflag, hstep]
    by_cases hone : s.rd (R.PI_CFG_ONESTEP h.inst) = 1
    · rw [if_pos hone, if_pos ((flag_eq_true _ _).2 hone)]
      exact ptpTx_out _ _ _ _ _ _ _ _ _
    · rw [if_neg hone, if_neg (fun hf => hone ((flag_eq_true _ _).1 hf))]
      exact List.append_assoc s.out [_] [_]
  · simp only [latch_frame, hframe.2]
    rfl
  · rw [State.pdelayReqRx, if_pos hflag]
    split
    · exact drawn_words (ptpTx_words hheard _ _ _ _ _ _ _ _ (by simp))
    · exact drawn_words (ptpTx_words (ptpTx_words hheard _ _ _ _ _ _ _ _ (by simp)) _ _ _ _ _ _ _ _ (by simp))

theorem delayReq_answered (s : State) (h : PtpHdr) (t4 : Int) (hp : s.powered = true) (hm : s.pow.phase ≠ .maint)
    (hmine : s.ptpMine h = true) (hdelay : s.rd (R.PI_CFG_DELAY h.inst) = 0) (hmaster : (s.ptpPort h.inst h.np).state = 6) :
    ∃ t, exec (.delayReq h t4) s = .next t ∧
      t.out = s.out ++ [.ptp h.np h.inst 9 h.seq t4 h.correction (some (h.srcId, h.srcPort)) none] ∧
      t = { s with
          regs := t.regs, spans := { s.spans with leaves := t.spans.leaves }, out := t.out } ∧ SameWords s t [R.NP_RX_FRAMES h.np,
            R.NP_TX_FRAMES h.np] := by
  have hflag : (s.ptpHeard h).flag (R.PI_CFG_DELAY h.inst) = false := by
    rw [ptpHeard_flag s h _ (by simp only [R.PI_CFG]; omega), State.flag, hdelay]
    rfl
  have hheard : SameWords s (s.ptpHeard h) [R.NP_RX_FRAMES h.np, R.NP_TX_FRAMES h.np] := sameWords_wr (fun _ _ => rfl) _ _ (by simp)
  have hrun : exec (.delayReq h t4) s =
      .next ((s.ptpHeard h).ptpTx h.inst h.np 9 h.seq t4 h.correction (some (h.srcId, h.srcPort)) none).latch := by
    show (s.ptpServe h true _).done = _
    rw [ptpServe_mine s h _ hp hm hmine]
    show ((s.ptpHeard h).delayReqRx h t4).done = _
    rw [State.delayReqRx, if_pos ⟨hmaster, hflag⟩]
    rfl
  refine ⟨_, hrun, ?_, latch_of_sansNet_ports rfl rfl, latch_sameWords (ptpTx_words hheard _ _ _ _ _ _ _ _ (by simp))⟩
  rw [latch_out]
  rfl

/-! ## Pdelay_Resp (R371, R372) -/

theorem peerDone_port (s : State) (i n : Nat) (t1 t2 t3 t4 c : Int) :
    ((s.peerDone i n t1 t2 t3 t4 c).ptpPort i n).pdreq = none ∧
    ((s.peerDone i n t1 t2 t3 t4 c).ptpPort i n).peerDelay = some ((((t4 - t1) - (t3 - t2) - c : Int) : Rat) / 2) := by
  have hport : (s.peerDone i n t1 t2 t3 t4 c).ptpPort i n = { s.ptpPort i n with
      pdreq := none, pdResp := none, peerDelay := some ((((t4 - t1) - (t3 - t2) - c : Int) : Rat) / 2) } := onPtp_same s i n _
  rw [hport]
  exact ⟨rfl, rfl⟩

theorem peerDone_frame {l : List Nat} (h : SameWords s u l) (i n : Nat) (t1 t2 t3 t4 c : Int) (hn : R.NP_PTP n ∈ l)
    (hd : R.NP_MEANDELAY n ∈ l) :
    SameWords s (u.peerDone i n t1 t2 t3 t4 c) l ∧ sansPtpNet (u.peerDone i n t1 t2 t3 t4 c) = sansPtpNet u ∧
      (u.peerDone i n t1 t2 t3 t4 c).out = u.out ∧ (u.peerDone i n t1 t2 t3 t4 c).free = u.free :=
  ⟨sameWords_wr (onPtp_words h _ _ _ hn) _ _ hd, onPtp_sansPtpNet u i n _, onPtp_out u i n _⟩

theorem pdelayRespRx_frame {l : List Nat} (hu : SameWords s u l) (h : PtpHdr) (f : Bool) (t2 t3 t4 : Int) (hn : R.NP_PTP h.np ∈ l)
    (hd : R.NP_MEANDELAY h.np ∈ l) :
    SameWords s (u.pdelayRespRx h f t2 t3 t4) l ∧ sansPtpNet (u.pdelayRespRx h f t2 t3 t4) = sansPtpNet u ∧
      (u.pdelayRespRx h f t2 t3 t4).out = u.out ∧ (u.pdelayRespRx h f t2 t3 t4).free = u.free := by
  unfold State.pdelayRespRx
  extract_lets i n p
  split
  · split
    · exact ⟨hu, rfl, rfl, rfl⟩
    · split
      · split
        · exact peerDone_frame hu _ _ _ _ _ _ _ hn hd
        · exact ⟨hu, rfl, rfl, rfl⟩
      · split
        · exact ⟨onPtp_words hu _ _ _ hn, onPtp_sansPtpNet u _ _ _, onPtp_out u _ _ _⟩
        · exact peerDone_frame hu _ _ _ _ _ _ _ hn hd
  · exact ⟨hu, rfl, rfl, rfl⟩

theorem pdelayResp_taken (s : State) (h : PtpHdr) (f : Bool) (t1 t2 t3 t4 : Int) (hp : s.powered = true) (hm : s.pow.phase ≠ .maint)
    (hmine : s.ptpMine h = true) (hdelay : s.rd (R.PI_CFG_DELAY h.inst) = 1) (hreq : (s.ptpPort h.inst h.np).pdreq = some (h.seq, t1)) :
    ∃ t, exec (.pdelayResp h f t2 t3 t4) s = .next t ∧
      (f = false → h.twoStep = false →
        (t.ptpPort h.inst h.np).peerDelay = some ((((t4 - t1) - h.correction : Int) : Rat) / 2)) ∧
      (f = false → h.twoStep = true → (t.ptpPort h.inst h.np).pdResp = some (t2, t4, h.correction)) ∧
      (∀ r2 r4 c, f = true → (s.ptpPort h.inst h.np).pdResp = some (r2, r4, c) → (t.ptpPort h.inst h.np).pdreq = none ∧
        (t.ptpPort h.inst h.np).peerDelay = some ((((r4 - t1) - (t3 - r2) - (c + h.correction) : Int) : Rat) / 2)) ∧
      t = { s with
          regs := t.regs, spans := { s.spans with leaves := t.spans.leaves }, ptp := t.ptp } ∧
      SameWords s t [R.NP_RX_FRAMES h.np, R.NP_MEANDELAY h.np, R.NP_PTP h.np] := by
  have hflag : (s.ptpHeard h).flag (R.PI_CFG_DELAY h.inst) = true := by
    rw [ptpHeard_flag s h _ (by simp only [R.PI_CFG]; omega)]
    exact (flag_eq_true _ _).2 hdelay
  have hreq' : ((s.ptpHeard h).ptpPort h.inst h.np).pdreq = some (h.seq, t1) := hreq
  have hrun : exec (.pdelayResp h f t2 t3 t4) s = .next ((s.ptpHeard h).pdelayRespRx h f t2 t3 t4).latch := by
    show (s.ptpServe h true _).done = _
    rw [ptpServe_mine s h _ hp hm hmine]
    rfl
  have hheard : SameWords s (s.ptpHeard h) [R.NP_RX_FRAMES h.np, R.NP_MEANDELAY h.np, R.NP_PTP h.np] :=
    sameWords_wr (fun _ _ => rfl) _ _ (by simp)
  obtain ⟨hwords, hsame, hout, hfree⟩ := pdelayRespRx_frame hheard h f t2 t3 t4 (by simp) (by simp)
  have hport (u : State) : u.latch.ptpPort h.inst h.np = u.ptpPort h.inst h.np := ptpPort_congr (by simp only [latch_frame]) _ _
  refine ⟨_, hrun, ?_, ?_, ?_, (latch_of_sansPtpNet hsame).trans (by simp only [latch_frame, hout, hfree]; rfl), latch_sameWords hwords⟩
  · rintro rfl htwo
    have heq : (s.ptpHeard h).pdelayRespRx h false t2 t3 t4 = (s.ptpHeard h).peerDone h.inst h.np t1 0 0 t4 h.correction := by
      simp [State.pdelayRespRx, hreq', hflag, htwo]
    rw [hport, heq, (peerDone_port _ _ _ _ _ _ _ _).2, Int.sub_self, Int.sub_zero]
  · rintro rfl htwo
    have heq : (s.ptpHeard h).pdelayRespRx h false t2 t3 t4 =
        (s.ptpHeard h).onPtp h.inst h.np (fun p => { p with pdResp := some (t2, t4, h.correction) }) := by
      simp [State.pdelayRespRx, hreq', hflag, htwo]
    rw [hport, heq, onPtp_same]
  · rintro r2 r4 c rfl hresp
    have hresp' : ((s.ptpHeard h).ptpPort h.inst h.np).pdResp = some (r2, r4, c) := hresp
    have heq : (s.ptpHeard h).pdelayRespRx h true t2 t3 t4 = (s.ptpHeard h).peerDone h.inst h.np t1 r2 t3 r4 (c + h.correction) := by
      simp [State.pdelayRespRx, hreq', hflag, hresp']
    rw [hport, heq]
    exact peerDone_port _ _ _ _ _ _ _ _

/-! ## Announce and its timeout (R369) -/

theorem carries_linkOn (s : State) (n : Nat) (h : s.carries n = true) : s.linkOn n = true := by
  simp only [State.carries, Bool.and_eq_true] at h
  exact h.1

/-- The masters a port whose link is up has heard stay while the best one is chosen. -/
theorem bmca_foreign (s : State) {i : Nat} (hi : i < 2) (n : Fin 2) (hon : s.linkOn n = true) :
    ((s.bmca i).ptpPort i n).foreign = (s.ptpPort i n).foreign := by
  rw [(bmca_decided (E := sansBases) timeWord_clockWords (fun _ _ => rfl) s hi).ptpPort]
  refine (List.foldlRecOn (motive := fun u : State => u.linkOn n = true ∧ (u.ptpPort i n).foreign = (s.ptpPort i n).foreign)
    (s.ptpPorts i) _ ⟨hon, rfl⟩ fun u hu m hm => ?_).2
  obtain ⟨hlink, hport⟩ := hu
  have hclock : ClockKeeps sansPtp timeWord u (u.ptpDecide i m (s.bestMaster i)) :=
    ptpDecide_clock timeWord_clockWords (fun _ _ => rfl) u i (mem_ptpPorts s i m hm) _
  refine ⟨(linkOn_time hclock n).trans hlink, ?_⟩
  rcases ptpDecide_port u i m i n (s.bestMaster i) with hkept | ⟨hkey, hoff, -⟩ | ⟨-, -, hforeign⟩
  · rw [hkept, hport]
  · obtain rfl : n.val = m := by omega
    rw [hlink] at hoff
    exact absurd hoff (by decide)
  · rw [hforeign, hport]

/-- The masters a port has heard when the best one is chosen are among those it had heard before. -/
theorem bmca_foreign_subset (s : State) {i : Nat} (hi : i < 2) (n : Fin 2) :
    ((s.bmca i).ptpPort i n).foreign ⊆ (s.ptpPort i n).foreign := by
  rw [(bmca_decided (E := sansBases) timeWord_clockWords (fun _ _ => rfl) s hi).ptpPort]
  refine List.foldlRecOn (motive := fun u : State => (u.ptpPort i n).foreign ⊆ (s.ptpPort i n).foreign)
    (s.ptpPorts i) _ (List.Subset.refl _) fun u hu m hm => ?_
  rcases ptpDecide_port u i m i n (s.bestMaster i) with hkept | ⟨-, -, hdef⟩ | ⟨-, -, hforeign⟩
  · rw [hkept]
    exact hu
  · rw [hdef]
    exact List.nil_subset _
  · rw [hforeign]
    exact hu

theorem bmca_time (s : State) (i : Fin 2) : ClockKeeps sansClock timeWord s (s.bmca i) :=
  bmca_clock timeWord_clockWords (fun _ _ => rfl) (fun _ _ => rfl) s i.isLt

theorem noteForeign_mem (l : List Foreign) (now win : Nat) (src : BitVec 64) (port : BitVec 16) (a : AnnounceData) :
    ∃ n, Foreign.mk src port a n now ∈ noteForeign l now win src port a := ⟨_, List.mem_append_right _ (List.mem_singleton_self _)⟩

theorem announce_kept (s : State) (h : PtpHdr) (a : AnnounceData) (hp : s.powered = true) (hm : s.pow.phase ≠ .maint)
    (hmine : s.ptpMine h = true) :
    ∃ t, exec (.announce h a) s = .next t ∧
      (h.srcId ≠ clockId → a.steps.toNat < 255 → ∃ n, Foreign.mk h.srcId h.srcPort a n s.time ∈ (t.ptpPort h.inst h.np).foreign) ∧
      (h.srcId = clockId ∨ a.steps.toNat = 255 → t.ptp = s.ptp ∧ SameWords s t [R.NP_RX_FRAMES h.np]) ∧
      t = { s.noticed t with tbs := t.tbs, ptp := t.ptp } := by
  have hrun : exec (.announce h a) s = .next ((s.ptpHeard h).announceRx h a).latch := by
    show (s.ptpServe h true _).done = _
    rw [ptpServe_mine s h _ hp hm hmine]
    rfl
  have hheard : Keeps sansClock (fun _ => true) s (s.ptpHeard h) := (ptpHeard_clock s h).mono (fun _ => rfl) (by simp)
  have hon (f : PtpPort → PtpPort) : ClockKeeps sansClock timeWord (s.ptpHeard h) ((s.ptpHeard h).onPtp h.inst h.np f) :=
    onPtp_clock timeWord_clockWords (fun _ _ => rfl) _ _ h.np.isLt f
  have hlink : (s.ptpHeard h).linkOn h.np = true := by
    rw [State.linkOn, flag_congr _ (ptpHeard_word s h _ (by simp only [R.NP_STATUS, R.NP_RX_FRAMES]; omega))]
    exact carries_linkOn s h.np (carries_of_ptpMine s h hmine)
  refine ⟨_, hrun, fun hsrc hsteps => ?_, fun hskip => ?_, eq_of_sansClock (Keeps.latch (W := fun _ => true) ?_).1⟩
  · rw [ptpPort_congr (s := (s.ptpHeard h).announceRx h a) (by simp only [latch_frame]), State.announceRx, if_neg (by simp [hsrc]; omega)]
    rw [bmca_foreign _ h.inst.isLt h.np ((linkOn_time (hon _) h.np).trans hlink), onPtp_same]
    exact noteForeign_mem _ _ _ _ _ _
  · rw [State.announceRx, if_pos (hskip.imp_right fun he => by omega)]
    exact ⟨by simp only [latch_frame]; rfl, latch_sameWords (sameWords_wr (fun _ _ => rfl) _ _ (by simp))⟩
  · exact hheard.trans (.ite (.refl _) (((hon _).trans (bmca_time _ _)).keeps.mono (fun _ => rfl) (by simp)))

theorem announceTimeout_forgets (s : State) (np inst : Fin 2) (hon : s.coreOn = true) (hover : s.announceOver inst np = true) :
    ∃ t, exec (.announceTimeout np inst) s = .next t ∧
      (∀ f ∈ (t.ptpPort inst np).foreign, (s.ptpPort inst np).parent ≠ some (f.src, f.srcPort)) ∧
      t = { s.noticed t with tbs := t.tbs, ptp := t.ptp } := by
  have hrun : exec (.announceTimeout np inst) s = .next (s.announceLost inst np).latch := if_pos ⟨hon, hover⟩
  have hkeeps : ClockKeeps sansClock timeWord s (s.announceLost inst np) :=
    (onPtp_clock timeWord_clockWords (fun _ _ => rfl) s _ np.isLt _).trans (bmca_time _ inst)
  refine ⟨_, hrun, fun f hf => ?_, eq_of_sansClock hkeeps.keeps.latch.1⟩
  rw [ptpPort_congr (s := s.announceLost inst np) (by simp only [latch_frame])] at hf
  have hmem := bmca_foreign_subset _ inst.isLt np hf
  rw [onPtp_same, List.mem_filter] at hmem
  simpa using hmem.2

end Sys2Proof.Machine
end

section
/-! PROOFS. The messages a port sends, holdover, time pulses and the loss of lock (R371, R375, R376, R381). -/

namespace Sys2Proof.Machine

variable {s t u : State} {E : State → State} {W : Nat → Bool}

/-! ## Periodic messages (R369, R371) -/

/-- The port has noted that it sends a message of a kind. -/
def State.ptpNoted (s : State) (i n kind : Nat) : State :=
  s.onPtp i n (fun p => { p with sent := Sparse.put p.sent kind s.time, seqs := Sparse.upd 0 p.seqs kind (· + 1) })

/-- `t` is `s` with one message of a kind sent, perhaps another after it, and the port's record brought up to date. -/
structure Sent (s t : State) (i n kind : Nat) : Prop where
  out : ∃ v a, Output.ptp n i ([0, 11, 1, 2].getD kind 0) (BitVec.ofNat 16 (Sparse.get 0 (s.ptpPort i n).seqs kind)) v 0 none a ∈ t.out
  seqs : Sparse.get 0 (t.ptpPort i n).seqs kind = Sparse.get 0 (s.ptpPort i n).seqs kind + 1
  sent : Sparse.find (t.ptpPort i n).sent kind = some s.time
  same : sansPtpNet t = sansPtpNet s
  free : t.free = s.free
  words : SameWords s t [R.NP_PTP n, R.NP_TX_FRAMES n]

theorem ptpNoted_words (s : State) (i n kind : Nat) : SameWords s (s.ptpNoted i n kind) [R.NP_PTP n, R.NP_TX_FRAMES n] :=
  onPtp_words (fun _ _ => rfl) _ _ _ (by simp)

theorem ptpNoted_port (s : State) (i n kind : Nat) : (s.ptpNoted i n kind).ptpPort i n = { s.ptpPort i n with
    sent := Sparse.put (s.ptpPort i n).sent kind s.time, seqs := Sparse.upd 0 (s.ptpPort i n).seqs kind (· + 1) } := onPtp_same _ _ _ _

theorem sent_tx (s : State) (i n kind : Nat) (v : Int) (a : Option AnnounceData) :
    Sent s ((s.ptpNoted i n kind).ptpTx i n ([0, 11, 1, 2].getD kind 0) (BitVec.ofNat 16 (Sparse.get 0 (s.ptpPort i n).seqs kind)) v 0 none a)
      i n kind where
  out := by
    rw [ptpTx_out]
    exact ⟨v, a, List.mem_append_right _ (List.mem_singleton_self _)⟩
  seqs := by
    rw [ptpTx_port, ptpNoted_port]
    exact get_upd_same _ _ _ _
  sent := by
    rw [ptpTx_port, ptpNoted_port]
    exact find_put_same _ _ _
  same := (ptpTx_rest _ _ _ _ _ _ _ _ _).1.trans (onPtp_sansPtpNet s i n _)
  free := (ptpTx_rest _ _ _ _ _ _ _ _ _).2.trans (onPtp_out s i n _).2
  words := ptpTx_words (ptpNoted_words s i n kind) _ _ _ _ _ _ _ _ (by simp)

/-- A Follow_Up after the message changes nothing of the record. -/
theorem Sent.tx {i n kind : Nat} (h : Sent s t i n kind) (type : Nat) (q : BitVec 16) (v c : Int) :
    Sent s (t.ptpTx i n type q v c none none) i n kind where
  out := by
    obtain ⟨w, a, hmem⟩ := h.out
    rw [ptpTx_out]
    exact ⟨w, a, List.mem_append_left _ hmem⟩
  seqs := (congrArg (fun p : PtpPort => Sparse.get 0 p.seqs kind) (ptpTx_port t i n type q v c none none i n)).trans h.seqs
  sent := (congrArg (fun p : PtpPort => Sparse.find p.sent kind) (ptpTx_port t i n type q v c none none i n)).trans h.sent
  same := (ptpTx_rest _ _ _ _ _ _ _ _ _).1.trans h.same
  free := (ptpTx_rest _ _ _ _ _ _ _ _ _).2.trans h.free
  words := ptpTx_words h.words _ _ _ _ _ _ _ _ (by simp)

/-- The port notes the request it has sent. -/
theorem Sent.onPtp {i n kind : Nat} (h : Sent s t i n kind) (f : PtpPort → PtpPort) (hseqs : ∀ p, (f p).seqs = p.seqs)
    (hsent : ∀ p, (f p).sent = p.sent) : Sent s (t.onPtp i n f) i n kind where
  out := by
    rw [(onPtp_out t i n f).1]
    exact h.out
  seqs := by rw [onPtp_same, hseqs, h.seqs]
  sent := by rw [onPtp_same, hsent, h.sent]
  same := (onPtp_sansPtpNet t i n f).trans h.same
  free := (onPtp_out t i n f).2.trans h.free
  words := onPtp_words h.words _ _ _ (by simp)

theorem ptpPeriodic_sent (s : State) (i n : Nat) (kind : Fin 4) (x : Int) : Sent s (s.ptpPeriodic i n kind x) i n kind := by
  match kind with
  | 0 =>
    show Sent s (if s.flag (R.PI_CFG_ONESTEP i) then (s.ptpNoted i n 0).ptpTx i n 0 _ x 0 none none
      else ((s.ptpNoted i n 0).ptpTx i n 0 _ 0 0 none none).ptpTx i n 8 _ x 0 none none) i n 0
    split
    · exact sent_tx s i n 0 x none
    · exact (sent_tx s i n 0 0 none).tx _ _ _ _
  | 1 => exact sent_tx s i n 1 0 (s.announced i)
  | 2 => exact (sent_tx s i n 2 0 none).onPtp _ (fun _ => rfl) (fun _ => rfl)
  | 3 => exact (sent_tx s i n 3 0 none).onPtp _ (fun _ => rfl) (fun _ => rfl)

theorem ptpPeriodic_dreq (s : State) (i n : Nat) (x : Int) :
    ((s.ptpPeriodic i n 2 x).ptpPort i n).dreq = some (BitVec.ofNat 16 (Sparse.get 0 (s.ptpPort i n).seqs 2), x) := by
  have hport : (s.ptpPeriodic i n 2 x).ptpPort i n = { (s.ptpNoted i n 2).ptpPort i n with
      dreq := some (BitVec.ofNat 16 (Sparse.get 0 (s.ptpPort i n).seqs 2), x) } := onPtp_same _ _ _ _
  rw [hport]

theorem ptpSend_leaves (s : State) (np inst : Fin 2) (kind : Fin 4) (u : Int) (hon : s.coreOn = true) (hmay : s.ptpMay inst np kind = true) :
    ∃ t, exec (.ptpSend np inst kind u) s = .next t ∧
      (∃ v a, Output.ptp np inst ([0, 11, 1, 2].getD kind 0) (BitVec.ofNat 16 (Sparse.get 0 (s.ptpPort inst np).seqs kind)) v 0 none a ∈
        t.out) ∧
      Sparse.get 0 (t.ptpPort inst np).seqs kind = Sparse.get 0 (s.ptpPort inst np).seqs kind + 1 ∧
      Sparse.find (t.ptpPort inst np).sent kind = some s.time ∧
      (kind = 2 → (t.ptpPort inst np).dreq = some (BitVec.ofNat 16 (Sparse.get 0 (s.ptpPort inst np).seqs 2), u)) ∧
      t = { s with
          regs := t.regs, spans := { s.spans with leaves := t.spans.leaves }, ptp := t.ptp, out := t.out } ∧ SameWords s t [R.NP_PTP np,
            R.NP_TX_FRAMES np] := by
  have hrun : exec (.ptpSend np inst kind u) s = .next (s.ptpPeriodic inst np kind u).latch := if_pos ⟨hon, hmay⟩
  have hport : (s.ptpPeriodic inst np kind u).latch.ptpPort inst np = (s.ptpPeriodic inst np kind u).ptpPort inst np :=
    ptpPort_congr (by simp only [latch_frame]) _ _
  obtain ⟨hout, hseqs, hsent, hsame, hfree, hwords⟩ := ptpPeriodic_sent s inst np kind u
  refine ⟨_, hrun, ?_, ?_, ?_, ?_, (latch_of_sansPtpNet hsame).trans (by simp only [latch_frame, hfree]), latch_sameWords hwords⟩
  · rw [latch_out]
    exact hout
  · rw [hport, hseqs]
  · rw [hport, hsent]
  · rintro rfl
    rw [hport]
    exact ptpPeriodic_dreq s inst np u

/-! ## A time base loses its lock or its Sync (R375, R376) -/

/-- The words that show a time base's state. -/
def lockWord (k a : Nat) : Bool := a == R.TB_STATUS k || plumbWord a

theorem lockWord_plumb {k : Nat} (a : Nat) (h : plumbWord a = true) : lockWord k a = true := by simp [lockWord, h]

theorem lockWord_mem {k a : Nat} (h : lockWord k a = true) : a ∈ [R.TB_STATUS k] ++ eventWords := by
  simp only [lockWord, Bool.or_eq_true, beq_iff_eq] at h
  exact h.elim (fun h => h ▸ List.mem_cons_self) fun h => List.mem_cons_of_mem _ (plumbWord_mem_eventWords h)

/-- The state of a time base's lock as TBk_STATUS shows it. -/
def State.lockShown (s : State) (k : Nat) : State :=
  ((s.wrB (R.TB_STATUS_LOCKED k) (s.tbLocked k)).wrB (R.TB_STATUS_REFUSED k) (s.tbRefused k)).wrB (R.TB_STATUS_USABLE k)
    (s.tbLocked k && !s.tbRefused k)

theorem lockShown_keeps (s : State) (k : Nat) (hw : W (R.TB_STATUS k) = true) : Keeps E W s (s.lockShown k) :=
  (((Keeps.refl s).wr _ _ hw).wr _ _ hw).wr _ _ hw

/-- Once the lock is shown, only events follow. -/
theorem lockShown_rest (s : State) (k : Nat) : Keeps E plumbWord (s.lockShown k) (s.tbFlags k) := by
  have h2 : Keeps E plumbWord (s.lockShown k) (if k = 0 ∧ s.tbLocked k = true ∧ (!s.tbRefused k) = true then
      (s.lockShown k).oneOff Ev.HOLDOVER_DATE 0 else s.lockShown k) := .ite ((Keeps.refl _).oneOff plumb_self _ _) (.refl _)
  exact .ite (h2.condOff plumb_self _ _ _) (.ite (h2.condOn plumb_self _ _ _) h2)

theorem lockWord_status (k : Nat) : lockWord k (R.TB_STATUS k) = true := by simp [lockWord]

theorem tbFlags_lock (s : State) (k : Nat) : Keeps E (lockWord k) s (s.tbFlags k) :=
  (lockShown_keeps s k (lockWord_status k)).trans ((lockShown_rest s k).mono (fun _ => rfl) (by simp +contextual [lockWord]))

theorem status_unplumbed (k : Nat) : plumbWord (R.TB_STATUS k) = false := by
  simp only [plumbWord, R.TB_STATUS, R.FAULT_LATCH, R.EVT_LOST, R.NP_TX_FRAMES, R.NP_TX_DROP, Bool.or_eq_false_iff, beq_eq_false_iff_ne]
  omega

theorem lockShown_state (s : State) (k : Nat) : (s.lockShown k).rd (R.TB_STATUS_STATE k) = s.rd (R.TB_STATUS_STATE k) := by
  unfold State.lockShown State.wrB
  rw [rd_wr_apart _ _ _ _ rfl (apart_of_bits (by simp)), rd_wr_apart _ _ _ _ rfl (apart_of_bits (by simp)),
    rd_wr_apart _ _ _ _ rfl (apart_of_bits (by simp))]

theorem tbFlags_state (s : State) (k : Nat) : (s.tbFlags k).rd (R.TB_STATUS_STATE k) = s.rd (R.TB_STATUS_STATE k) := by
  have hrest : Keeps id plumbWord (s.lockShown k) (s.tbFlags k) := lockShown_rest s k
  rw [hrest.rd _ (status_unplumbed k), lockShown_state]

theorem setTb_state (s : State) (k code : Nat) : (s.setTb k code).rd (R.TB_STATUS_STATE k) = code % 4 := by
  unfold State.setTb
  extract_lets s1 s2
  rw [tbFlags_state, rd_wr_same _ _ _ rfl]
  rfl

theorem setTb_lock (htbs : ∀ (u : State) b, E { u with tbs := b } = E u) (s : State) (k code : Nat) :
    Keeps E (lockWord k) s (s.setTb k code) := by
  have hon (u : State) (f : TimeBase → TimeBase) : Keeps E (lockWord k) u (u.onTb k f) := (Keeps.refl u).update (htbs u.unnoticed _) rfl
  unfold State.setTb
  extract_lets s1 s2
  have h1 : Keeps E (lockWord k) s s1 := .ite (hon s _) (.refl s)
  have h2 : Keeps E (lockWord k) s s2 := .ite (h1.trans (hon s1 _)) h1
  exact (h2.wr _ _ (lockWord_status k)).trans (tbFlags_lock _ k)

/-- Leaving the locked state a time base notes when; nothing else of the time bases changes. -/
theorem setTb_tb (s : State) (k code j : Nat) (hcode : code ≠ 2) :
    (s.setTb k code).tb j = if j = k ∧ s.rd (R.TB_STATUS_STATE k) = 2 then { s.tb k with lastLocked := some s.time } else s.tb j := by
  have htbs (u : State) : (u.tbFlags k).tbs = u.tbs :=
    have h : Keeps id (lockWord k) u (u.tbFlags k) := tbFlags_lock u k
    (congrArg State.tbs h.1 :)
  have htb : (s.setTb k code).tb j =
      (if s.rd (R.TB_STATUS_STATE k) = 2 ∧ code ≠ 2 then s.onTb k (fun t => { t with lastLocked := some s.time }) else s).tb j := by
    unfold State.setTb
    extract_lets s1 s2
    rw [State.tb, htbs, show s2 = s1 from if_neg hcode]
    rfl
  rw [htb]
  by_cases hst : s.rd (R.TB_STATUS_STATE k) = 2
  · rw [if_pos ⟨hst, hcode⟩, tb_onTb]
    simp [hst]
  · rw [if_neg fun h => hst h.1, if_neg fun h => hst h.2]

/-- The state less the time bases. -/
def sansTbs (u : State) : State := { u with tbs := [] }

theorem eq_of_sansTbs (h : sansTbs t.unnoticed = sansTbs s.unnoticed) : t = { s.noticed t with tbs := t.tbs } :=
  calc
    t = { (sansTbs t.unnoticed).noticed t with tbs := t.tbs } := rfl
    _ = _ := by rw [h]; rfl

theorem eq_of_unnoticed (h : t.unnoticed = s.unnoticed) : t = s.noticed t :=
  calc
    t = t.unnoticed.noticed t := rfl
    _ = _ := by rw [h]; rfl

theorem holdover_entered (s : State) (k : Fin 4) (hon : s.coreOn = true) (hover : s.syncOver k = true)
    (hstate : s.rd (R.TB_STATUS_STATE k) = 1 ∨ s.rd (R.TB_STATUS_STATE k) = 2) :
    ∃ t, exec (.holdover k) s = .next t ∧ t.rd (R.TB_STATUS_STATE k) = 3 ∧ (t.tb k).rate = (s.tb k).meanRate ∧
      (t.tb k).ns = (s.tb k).ns ∧ (∀ j : Fin 4, j ≠ k → t.tb j = s.tb j) ∧
      t = { s.noticed t with tbs := t.tbs } ∧ SameWords s t ([R.TB_STATUS k] ++ eventWords) := by
  let mid := s.onTb k (fun t => { t with rate := t.meanRate })
  have hinst : (s.tbInst k).isSome = true := by
    unfold State.syncOver at hover
    split at hover
    · exact absurd hover (by decide)
    · next h => rw [h]; rfl
  have hrun : exec (.holdover k) s = .next (mid.setTb k 3).latch := by
    show execHoldover k s = _
    rw [execHoldover, if_pos ⟨hon, hover⟩, State.enterHoldover, if_pos ⟨hinst, hstate⟩]
    rfl
  have hmid : Keeps sansTbs (lockWord k) s mid := (Keeps.refl s).update rfl rfl
  have hkeeps : Keeps sansTbs (lockWord k) s (mid.setTb k 3).latch := (hmid.trans (setTb_lock (fun _ _ => rfl) mid k 3)).latch
  refine ⟨_, hrun, ?_, ?_, ?_, fun j hj => ?_, eq_of_sansTbs hkeeps.1, fun a ha => hkeeps.2 a (Bool.eq_false_iff.2 fun hw => ha (lockWord_mem hw))⟩
  · rw [latch_rd, setTb_state]
  · rw [latch_tb, setTb_tb _ _ _ _ (by decide), tb_onTb, if_pos rfl]
    split <;> rfl
  · rw [latch_tb, setTb_tb _ _ _ _ (by decide), tb_onTb, if_pos rfl]
    split <;> rfl
  · have hne : j.val ≠ k.val := fun h => hj (Fin.ext h)
    rw [latch_tb, setTb_tb _ _ _ _ (by decide), if_neg fun h => hne h.1, tb_onTb, if_neg hne]

theorem ptpUnlocked_shown (s : State) (k : Fin 4) (hp : s.powered = true) (hlocked : s.rd (R.TB_STATUS_LOCKED k) = 1)
    (hlost : s.tbLocked k = false) :
    ∃ t, exec (.ptpUnlocked k) s = .next t ∧ t.rd (R.TB_STATUS_LOCKED k) = 0 ∧ t.rd (R.TB_STATUS_USABLE k) = 0 ∧
      (s.tbInst k ≠ none → t.condActive Ev.PTP_UNLOCKED k = true) ∧
      t = s.noticed t ∧ SameWords s t ([R.TB_STATUS k] ++ eventWords) := by
  have hflag : s.flag (R.TB_STATUS_LOCKED k) = true := (flag_eq_true _ _).2 hlocked
  have hrun : exec (.ptpUnlocked k) s = .next (s.tbFlags k).latch := if_pos ⟨hp, hflag, by rw [hlost]; rfl⟩
  have hkeeps : Keeps id (lockWord k) s (s.tbFlags k).latch := (tbFlags_lock s k).latch
  have hrest : Keeps id plumbWord (s.lockShown k) (s.tbFlags k).latch := (lockShown_rest s k).latch
  refine ⟨_, hrun, ?_, ?_, fun hinst => ?_, eq_of_unnoticed hkeeps.1, fun a ha => hkeeps.2 a (Bool.eq_false_iff.2 fun hw => ha (lockWord_mem hw))⟩
  · rw [hrest.rd _ (status_unplumbed k), State.lockShown, State.wrB, rd_wr_apart _ _ _ _ rfl (apart_of_bits (by simp)), State.wrB,
      rd_wr_apart _ _ _ _ rfl (apart_of_bits (by simp)), State.wrB, rd_wr_same _ _ _ rfl, hlost]
    rfl
  · rw [hrest.rd _ (status_unplumbed k), State.lockShown, State.wrB, rd_wr_same _ _ _ rfl, hlost]
    rfl
  · have hshown : s.tbFlags k = (s.lockShown k).condOn Ev.PTP_UNLOCKED k := by
      simp only [State.tbFlags, hlost, hflag, Option.isSome_iff_ne_none.2 hinst, State.lockShown, Bool.false_eq_true, if_false,
        Bool.and_true, if_true, false_and, and_false]
    have hactive := condOn_active (s.lockShown k) Ev.PTP_UNLOCKED k
    have hlatch (u : State) : u.latch.condActive Ev.PTP_UNLOCKED k = u.condActive Ev.PTP_UNLOCKED k := by
      simp only [State.condActive, latch_frame]
    rw [hlatch, hshown]
    exact hactive 0

end Sys2Proof.Machine
end

section
/-! PROOFS. Time pulses and snapshots (R381, R383), and the statement about PTP and time. -/

namespace Sys2Proof.Machine

variable {s t u : State} {E : State → State} {W : Nat → Bool}

/-! ## Snapshots (R383) -/

/-- The snapshot's registers of the time bases. -/
def State.snapTbs (s t : State) : State := (List.range 4).foldl (fun (u : State) k => u.wrW (R.SNAP_TB_LO_NS k) (R.SNAP_TB_HI_NS k) (s.tb k).ns) t

/-- The words of a snapshot's values. -/
def snapWord (a : Nat) : Bool := decide (R.SNAP_TB_LO 0 ≤ a)

theorem snapTbs_keeps (s t : State) : Keeps E snapWord t (s.snapTbs t) :=
  .foldl (fun u k _ => (Keeps.refl u).wrW _ _ _ (by simp [snapWord, R.SNAP_TB_LO]) (by simp [snapWord, R.SNAP_TB_LO, R.SNAP_TB_HI]; omega)) t

theorem snapTbs_rdW (s t : State) (k : Fin 4) : (s.snapTbs t).rdW (R.SNAP_TB_LO_NS k) (R.SNAP_TB_HI_NS k) = (s.tb k).ns % 2 ^ 64 := by
  have hwritten (u : State) (j v : Nat) : (u.wrW (R.SNAP_TB_LO_NS j) (R.SNAP_TB_HI_NS j) v).rdW (R.SNAP_TB_LO_NS j) (R.SNAP_TB_HI_NS j) = v % 2 ^ 64 :=
    rdW_wrW u _ _ v rfl rfl rfl (by simp)
  have hkept (u : State) (i j v : Nat) (hij : i ≠ j) : (u.wrW (R.SNAP_TB_LO_NS j) (R.SNAP_TB_HI_NS j) v).rdW (R.SNAP_TB_LO_NS i) (R.SNAP_TB_HI_NS i) =
      u.rdW (R.SNAP_TB_LO_NS i) (R.SNAP_TB_HI_NS i) :=
    rdW_congr _ _
      (wrW_word _ _ _ _ _ (by simp only [R.SNAP_TB_LO]; omega) (by simp only [R.SNAP_TB_LO, R.SNAP_TB_HI]; omega))
      (wrW_word _ _ _ _ _ (by simp only [R.SNAP_TB_LO, R.SNAP_TB_HI]; omega) (by simp only [R.SNAP_TB_HI]; omega))
  simp only [State.snapTbs, List.range_succ, List.range_zero, List.nil_append, List.foldl_append, List.foldl_cons, List.foldl_nil]
  match k with
  | 0 => exact (hkept _ 0 3 _ (by decide)).trans ((hkept _ 0 2 _ (by decide)).trans ((hkept _ 0 1 _ (by decide)).trans (hwritten _ 0 _)))
  | 1 => exact (hkept _ 1 3 _ (by decide)).trans ((hkept _ 1 2 _ (by decide)).trans (hwritten _ 1 _))
  | 2 => exact (hkept _ 2 3 _ (by decide)).trans (hwritten _ 2 _)
  | 3 => exact hwritten _ 3 _

/-- The snapshot's registers of the encoders. -/
def State.snapEncs (s t : State) : State :=
  (t.wrW R.SNAP_ENC0_LO_POS R.SNAP_ENC0_HI_POS (s.encTrue 0)).wrW R.SNAP_ENC1_LO_POS R.SNAP_ENC1_HI_POS (s.encTrue 1)

theorem snapshotTime_eq (s : State) : s.snapshotTime = (s.snapEncs (s.snapTbs s)).inc R.SNAP_SEQ_COUNT := rfl

/-- The words of the encoders' snapshot. -/
def snapEncWord (a : Nat) : Bool := decide (R.SNAP_ENC0_LO ≤ a)

theorem snapEncs_keeps (s t : State) : Keeps E snapEncWord t (s.snapEncs t) := ((Keeps.refl t).wrW _ _ _ rfl rfl).wrW _ _ _ rfl rfl

/-- A snapshot is counted and writes its registers only. -/
theorem snapshotTime_keeps (s : State) : Keeps E (fun a => decide (R.SNAP_SEQ ≤ a)) s s.snapshotTime := by
  rw [snapshotTime_eq]
  refine (((snapTbs_keeps s s).mono (fun _ => rfl) ?_).trans ((snapEncs_keeps s _).mono (fun _ => rfl) ?_)).wr _ _ rfl
  · intro a ha
    simp only [snapWord, R.SNAP_SEQ, R.SNAP_TB_LO, decide_eq_false_iff_not] at *
    omega
  · intro a ha
    simp only [snapEncWord, R.SNAP_SEQ, R.SNAP_ENC0_LO, decide_eq_false_iff_not] at *
    omega

theorem snapshotTime_seq (s : State) : s.snapshotTime.rd R.SNAP_SEQ_COUNT = (s.rd R.SNAP_SEQ_COUNT + 1) % 2 ^ 32 := by
  have hencs : Keeps id snapEncWord (s.snapTbs s) (s.snapEncs (s.snapTbs s)) := snapEncs_keeps s _
  have htbs : Keeps id snapWord s (s.snapTbs s) := snapTbs_keeps s s
  rw [snapshotTime_eq, rd_inc _ _ rfl, hencs.rd _ rfl, htbs.rd _ rfl]

theorem snapshotTime_tb (s : State) (k : Fin 4) : s.snapshotTime.rdW (R.SNAP_TB_LO_NS k) (R.SNAP_TB_HI_NS k) = (s.tb k).ns % 2 ^ 64 := by
  have hencs : Keeps id snapEncWord (s.snapTbs s) (s.snapEncs (s.snapTbs s)) := snapEncs_keeps s _
  rw [snapshotTime_eq, State.inc, State.add, rdW_congr (s := s.snapEncs (s.snapTbs s)) _ _
    (word_wr_ne _ _ _ _ (by simp only [R.SNAP_TB_LO, R.SNAP_SEQ]; omega))
    (word_wr_ne _ _ _ _ (by simp only [R.SNAP_TB_HI, R.SNAP_SEQ]; omega)),
    hencs.rdW _ _ (by simp only [snapEncWord, R.SNAP_TB_LO, R.SNAP_ENC0_LO, decide_eq_false_iff_not]; omega)
      (by simp only [snapEncWord, R.SNAP_TB_HI, R.SNAP_ENC0_LO, decide_eq_false_iff_not]; omega)]
  exact snapTbs_rdW s s k

/-- The state less the registers. -/
def sansRegs (u : State) : State := { u with regs := [] }

theorem sansRegs_wr (u : State) (f : Field) (v : Nat) : sansRegs (u.wr f v) = sansRegs u := rfl

theorem snapTbs_sansRegs (s t : State) : sansRegs (s.snapTbs t) = sansRegs t :=
  foldl_keeps sansRegs (fun (u : State) k => u.wrW (R.SNAP_TB_LO_NS k) (R.SNAP_TB_HI_NS k) (s.tb k).ns)
    (fun u k => by simp only [State.wrW, sansRegs_wr]) _ _

theorem snapshotTime_sansRegs (s : State) : sansRegs s.snapshotTime = sansRegs s := by
  rw [snapshotTime_eq, State.inc, State.add, sansRegs_wr, State.snapEncs, State.wrW, sansRegs_wr, sansRegs_wr, State.wrW, sansRegs_wr,
    sansRegs_wr, snapTbs_sansRegs]

theorem sansRegs_fields (h : sansRegs t = sansRegs s) : t.out = s.out ∧ t.tps = s.tps :=
  ⟨(congrArg State.out h :), (congrArg State.tps h :)⟩

/-! ## Time pulses (R381) -/

/-- A pulse has left and is counted; its next scheduled time is `n`. -/
def State.tpLeft (s : State) (p n : Nat) : State :=
  ({ s with tps := Sparse.set 0 s.tps p n }.emit (.timePulse p false)).inc (R.TP_COUNT_COUNT p)

/-- A one-shot pulse that has left disables itself. -/
def State.tpSpent (s : State) (p n : Nat) : State := if s.tpPeriod p = 0 then (s.tpLeft p n).wrB (R.TP_CFG_EN p) false else s.tpLeft p n

theorem tpFire_eq (s : State) (p n : Nat) :
    s.tpFire p n false = if s.flag (R.TP_CFG_SNAP p) then (s.tpSpent p n).snapshotTime else s.tpSpent p n := rfl

/-- The words of a pulse. -/
def pulseWord (p a : Nat) : Bool := a == R.TP_COUNT p || a == R.TP_CFG p

theorem tpSpent_word (s : State) (p n a : Nat) (ha : pulseWord p a = false) : (s.tpSpent p n).word a = s.word a := by
  simp only [pulseWord, Bool.or_eq_false_iff, beq_eq_false_iff_ne] at ha
  have hleft : (s.tpLeft p n).word a = s.word a := word_wr_ne _ _ _ _ ha.1
  unfold State.tpSpent State.wrB
  split
  · exact (word_wr_ne _ _ _ _ ha.2).trans hleft
  · exact hleft

theorem pulseWord_snap (p : Fin 4) {a : Nat} (ha : R.SNAP_SEQ ≤ a) : pulseWord p a = false := by
  simp only [pulseWord, R.TP_COUNT, R.TP_CFG, R.SNAP_SEQ, Bool.or_eq_false_iff, beq_eq_false_iff_ne] at *
  omega

theorem tpSpent_rd (s : State) (p n : Nat) (hen : s.rd (R.TP_CFG_EN p) = 1) :
    (s.tpSpent p n).rd (R.TP_COUNT_COUNT p) = (s.rd (R.TP_COUNT_COUNT p) + 1) % 2 ^ 32 ∧
    (s.tpSpent p n).rd (R.TP_CFG_EN p) = if s.tpPeriod p = 0 then 0 else 1 := by
  have hapart : R.TP_CFG p ≠ R.TP_COUNT p := by simp only [R.TP_CFG, R.TP_COUNT]; omega
  have hcount : (s.tpLeft p n).rd (R.TP_COUNT_COUNT p) = (s.rd (R.TP_COUNT_COUNT p) + 1) % 2 ^ 32 := rd_inc _ _ rfl
  have hcfg : (s.tpLeft p n).rd (R.TP_CFG_EN p) = 1 := by
    rw [State.tpLeft, State.inc, State.add, rd_wr_word _ _ _ _ hapart]
    exact hen
  unfold State.tpSpent State.wrB
  split
  · exact ⟨(rd_wr_word _ _ _ _ hapart.symm).trans hcount, rd_wr_same _ _ _ rfl⟩
  · exact ⟨hcount, hcfg⟩

theorem tpSpent_fields (s : State) (p n : Nat) : (s.tpSpent p n).out = s.out ++ [.timePulse p false] ∧
    (s.tpSpent p n).tps = Sparse.set 0 s.tps p n ∧ (s.tpSpent p n).tbs = s.tbs := by
  unfold State.tpSpent
  split <;> exact ⟨rfl, rfl, rfl⟩

/-- The state less registers, pulses and what was sent. -/
def sansPulse (u : State) : State := { u with regs := [], tps := [], out := [] }

theorem latch_of_sansPulse (h : sansPulse u = sansPulse s) :
    u.latch = { s with regs := u.latch.regs, spans := { s.spans with leaves := u.latch.spans.leaves }, tps := u.latch.tps, out := u.latch.out } :=
  calc
    u.latch = { u with spans := { u.spans with leaves := u.latch.spans.leaves } } := latch_eq_leaves u
    _ = { sansPulse u with
      regs := u.regs, spans := { (sansPulse u).spans with leaves := u.latch.spans.leaves }, tps := u.tps, out := u.out } := rfl
    _ = { s with regs := u.regs, spans := { s.spans with leaves := u.latch.spans.leaves }, tps := u.tps, out := u.out } := by
      rw [h]; rfl
    _ = _ := by simp only [latch_frame]

theorem sansPulse_of_sansRegs (h : sansRegs t = sansRegs s) : sansPulse t = sansPulse s :=
  calc
    sansPulse t = sansPulse (sansRegs t) := rfl
    _ = sansPulse (sansRegs s) := by rw [h]
    _ = sansPulse s := rfl

theorem tpSpent_sansPulse (s : State) (p n : Nat) : sansPulse (s.tpSpent p n) = sansPulse s := by
  unfold State.tpSpent
  split <;> rfl

/-- What a pulse changes, its snapshot aside. -/
structure Pulsed (s t : State) (p n : Nat) : Prop where
  out : t.out = s.out ++ [.timePulse p false]
  tps : t.tps = Sparse.set 0 s.tps p n
  count : t.rd (R.TP_COUNT_COUNT p) = (s.rd (R.TP_COUNT_COUNT p) + 1) % 2 ^ 32
  en : t.rd (R.TP_CFG_EN p) = if s.tpPeriod p = 0 then 0 else 1
  rest : sansPulse t = sansPulse s

theorem tpSpent_pulsed (s : State) (p n : Nat) (hen : s.rd (R.TP_CFG_EN p) = 1) : Pulsed s (s.tpSpent p n) p n where
  out := (tpSpent_fields s p n).1
  tps := (tpSpent_fields s p n).2.1
  count := (tpSpent_rd s p n hen).1
  en := (tpSpent_rd s p n hen).2
  rest := tpSpent_sansPulse s p n

theorem snapshotTime_pulsed {p : Fin 4} {n : Nat} (h : Pulsed s t p n) : Pulsed s t.snapshotTime p n := by
  have hregs := snapshotTime_sansRegs t
  have hrd (f : Field) (hf : f.addr < R.SNAP_SEQ) : t.snapshotTime.rd f = t.rd f := by
    have hkeeps : Keeps id (fun a => decide (R.SNAP_SEQ ≤ a)) t t.snapshotTime := snapshotTime_keeps t
    exact hkeeps.rd f (decide_eq_false (by omega))
  obtain ⟨hout, htps⟩ := sansRegs_fields hregs
  exact ⟨hout.trans h.out, htps.trans h.tps,
    (hrd _ (by simp only [R.TP_COUNT, R.SNAP_SEQ]; omega)).trans h.count, (hrd _ (by simp only [R.TP_CFG, R.SNAP_SEQ]; omega)).trans h.en,
    (sansPulse_of_sansRegs hregs).trans h.rest⟩

theorem tpDue_en (s : State) (p : Nat) (h : s.tpDue p = true) : s.rd (R.TP_CFG_EN p) = 1 := by
  simp only [State.tpDue, Bool.and_eq_true] at h
  exact (flag_eq_true _ _).1 h.1.1

theorem timePulse_leaves (s : State) (p : Fin 4) (hon : s.coreOn = true) (hdue : s.tpDue p = true) :
    ∃ t, exec (.timePulse p) s = .next t ∧ t.out = s.out ++ [.timePulse p false] ∧
      t.rd (R.TP_COUNT_COUNT p) = (s.rd (R.TP_COUNT_COUNT p) + 1) % 2 ^ 32 ∧ Sparse.get 0 t.tps p = Sparse.get 0 s.tps p + 1 ∧
      t.rd (R.TP_CFG_EN p) = (if s.tpPeriod p = 0 then 0 else 1) ∧
      t.rd R.SNAP_SEQ_COUNT = (s.rd R.SNAP_SEQ_COUNT + s.rd (R.TP_CFG_SNAP p)) % 2 ^ 32 ∧
      (s.rd (R.TP_CFG_SNAP p) = 1 → ∀ k : Fin 4, t.rdW (R.SNAP_TB_LO_NS k) (R.SNAP_TB_HI_NS k) = (s.tb k).ns % 2 ^ 64) ∧
      t = { s with
          regs := t.regs, spans := { s.spans with leaves := t.spans.leaves }, tps := t.tps, out := t.out } := by
  let n := Sparse.get 0 s.tps p + 1
  let u := s.tpFire p n false
  have hrun : exec (.timePulse p) s = .next u.latch := if_pos ⟨hon, hdue⟩
  have hspent := tpSpent_pulsed s p n (tpDue_en s p hdue)
  have hseq : (s.tpSpent p n).rd R.SNAP_SEQ_COUNT = s.rd R.SNAP_SEQ_COUNT :=
    rd_congr _ _ _ (tpSpent_word s p n _ (pulseWord_snap p (Nat.le_refl _)))
  have hu : Pulsed s u p n ∧ u.rd R.SNAP_SEQ_COUNT = (s.rd R.SNAP_SEQ_COUNT + s.rd (R.TP_CFG_SNAP p)) % 2 ^ 32 ∧
      (s.rd (R.TP_CFG_SNAP p) = 1 → ∀ k : Fin 4, u.rdW (R.SNAP_TB_LO_NS k) (R.SNAP_TB_HI_NS k) = (s.tb k).ns % 2 ^ 64) := by
    have hbit : s.rd (R.TP_CFG_SNAP p) < 2 := rd_lt s (R.TP_CFG_SNAP p)
    by_cases hsnap : s.rd (R.TP_CFG_SNAP p) = 1
    · have hfire : u = (s.tpSpent p n).snapshotTime := if_pos ((flag_eq_true _ _).2 hsnap)
      rw [hfire, hsnap, snapshotTime_seq, hseq]
      refine ⟨snapshotTime_pulsed hspent, rfl, fun _ k => ?_⟩
      rw [snapshotTime_tb, State.tb, (tpSpent_fields s p n).2.2, State.tb]
    · have hfire : u = s.tpSpent p n := if_neg fun h => hsnap ((flag_eq_true _ _).1 h)
      have hzero : s.rd (R.TP_CFG_SNAP p) = 0 := by omega
      rw [hfire, hseq, hzero, Nat.add_zero, Nat.mod_eq_of_lt (rd_lt s R.SNAP_SEQ_COUNT)]
      exact ⟨hspent, rfl, fun h => absurd h (by decide)⟩
  obtain ⟨⟨hout, htps, hcount, hen, hrest⟩, hseq', hsnap⟩ := hu
  refine ⟨_, hrun, ?_, ?_, ?_, ?_, ?_, fun h k => ?_, latch_of_sansPulse hrest⟩
  · rw [latch_out, hout]
  · rw [latch_rd, hcount]
  · simp only [latch_frame, htps]
    exact get_set_same _ _ _ _
  · rw [latch_rd, hen]
  · rw [latch_rd, hseq']
  · rw [rdW_congr (s := u) _ _ (latch_word _ _) (latch_word _ _)]
    exact hsnap h k

/-! ## The statement -/

/-- Settles O57: each clause is the lemma about its command. -/
theorem ptpAndTime : Obligations.PtpAndTime :=
  ⟨ptpForeign_counts, sync_taken, delayResp_taken, pdelayReq_answered, pdelayResp_taken, delayReq_answered, announce_kept,
    announceTimeout_forgets, ptpSend_leaves, holdover_entered, timePulse_leaves, ptpUnlocked_shown⟩

/-- TB0 shows LOCKED and was never set. -/
theorem ptpUnlocked_witness : ∃ t, exec (.ptpUnlocked 0) (dayState.wr (R.TB_STATUS_LOCKED 0) 1) = .next t ∧
    t.rd (R.TB_STATUS_USABLE 0) = 0 := by
  obtain ⟨t, hrun, -, husable, -⟩ :=
    ptpUnlocked_shown (dayState.wr (R.TB_STATUS_LOCKED 0) 1) 0 rfl (rd_wr_same _ _ _ rfl) (by decide +kernel)
  exact ⟨t, hrun, husable⟩

end Sys2Proof.Machine
end

section
/-! PROOFS. The states of the twin sequencers as their operations set them (R386 to R399). -/

namespace Sys2Proof.Machine

variable {s t u : State} {E : State → State} {W : Nat → Bool}

/-! ## The two states and SOLO (R387, R389) -/

theorem sqState_zero (s : State) : s.sqState 0 = s.rd R.SEQ_STATE_SQA := rfl

theorem sqState_one (s : State) : s.sqState 1 = s.rd R.SEQ_STATE_SQB := rfl

theorem sqState_congr (h : t.word R.SEQ_STATE = s.word R.SEQ_STATE) (n : Nat) : t.sqState n = s.sqState n := by
  simp only [State.sqState, rd_congr t s R.SEQ_STATE_SQA h, rd_congr t s R.SEQ_STATE_SQB h]

/-- A write of a field above the two states leaves them. -/
theorem sqState_wr (s : State) (f : Field) (v n : Nat) (hf : 6 ≤ f.lo) : (s.wr f v).sqState n = s.sqState n := by
  unfold State.sqState
  rw [rd_wr_apart _ _ _ _ rfl (apart_of_bits (.inr (by simp only; omega))),
    rd_wr_apart _ _ _ _ rfl (apart_of_bits (.inr (by simp only; omega)))]

theorem sqForms_of_state {n m : Nat} (h : t.sqState n = s.sqState m) : t.sqForms n = s.sqForms m := by rw [State.sqForms, State.sqForms, h]

/-- Showing SOLO leaves the states. -/
theorem setSq_shown (s : State) (n m st : Nat) :
    (s.setSq n st).sqState m = (if n = 0 then s.wr R.SEQ_STATE_SQA st else s.wr R.SEQ_STATE_SQB st).sqState m :=
  sqState_wr _ _ _ _ (by decide)

theorem setSq_state (s : State) (n m : Fin 2) (st : Nat) : (s.setSq n st).sqState m = if m = n then st % 8 else s.sqState m := by
  rw [setSq_shown]
  match n, m with
  | 0, 0 => exact (rd_wr_same s R.SEQ_STATE_SQA st rfl).trans (if_pos rfl).symm
  | 0, 1 => exact (rd_wr_apart s R.SEQ_STATE_SQA R.SEQ_STATE_SQB st rfl rfl).trans (if_neg (by decide)).symm
  | 1, 0 => exact (rd_wr_apart s R.SEQ_STATE_SQB R.SEQ_STATE_SQA st rfl rfl).trans (if_neg (by decide)).symm
  | 1, 1 => exact (rd_wr_same s R.SEQ_STATE_SQB st rfl).trans (if_pos rfl).symm

/-- SOLO shows that one of the two does not form lines. -/
theorem setSq_solo (s : State) (n : Fin 2) (st : Nat) : (s.setSq n st).rd R.SEQ_STATE_SOLO =
    b2n (!((s.setSq n st).sqForms 0 && (s.setSq n st).sqForms 1)) := by
  have hforms (m : Nat) : (s.setSq n st).sqForms m = (if n.val = 0 then s.wr R.SEQ_STATE_SQA st else s.wr R.SEQ_STATE_SQB st).sqForms m :=
    sqForms_of_state (setSq_shown _ _ _ _)
  rw [hforms, hforms, State.setSq, State.wrB, rd_wr_same _ _ _ rfl]
  cases !((if n.val = 0 then s.wr R.SEQ_STATE_SQA st else s.wr R.SEQ_STATE_SQB st).sqForms 0 &&
    (if n.val = 0 then s.wr R.SEQ_STATE_SQA st else s.wr R.SEQ_STATE_SQB st).sqForms 1) <;> rfl

/-- The other sequencer of the two. -/
def other (n : Fin 2) : Fin 2 := 1 - n

theorem twinOf_eq (n : Fin 2) : twinOf n = other n := by
  match n with
  | 0 => rfl
  | 1 => rfl

theorem other_ne (n : Fin 2) : other n ≠ n := by
  match n with
  | 0 => decide
  | 1 => decide

theorem forms_pair (n : Fin 2) : (s.sqForms 0 && s.sqForms 1) = (s.sqForms n && s.sqForms (other n)) := by
  match n with
  | 0 => rfl
  | 1 => exact Bool.and_comm _ _

/-- The sequencer has left: it forms no lines, SOLO shows it, and its twin is in a state of `states`. -/
structure Left (t : State) (n : Fin 2) (twin : Nat) : Prop where
  gone : t.sqForms n = false
  solo : t.rd R.SEQ_STATE_SOLO = 1
  twin : t.sqState (other n) = twin

theorem sqForms_code (s : State) (n : Nat) : s.sqForms n = (s.sqState n == 1 || s.sqState n == 2) := rfl

theorem setSq_left (s : State) (n : Fin 2) {st : Nat} (hst : (st % 8 == 1 || st % 8 == 2) = false) :
    Left (s.setSq n st) n (s.sqState (other n)) := by
  have hgone : (s.setSq n st).sqForms n = false := by rw [sqForms_code, setSq_state, if_pos rfl, hst]
  refine ⟨hgone, ?_, ?_⟩
  · rw [setSq_solo, forms_pair n, hgone]
    rfl
  · rw [setSq_state, if_neg (other_ne n)]

namespace Left

variable {n : Fin 2} {c : Nat}

theorem keeps (h : Left s n c) (hk : Keeps E W s t) (hw : W R.SEQ_STATE = false) : Left t n c :=
  ⟨(sqForms_congr _ (hk.2 _ hw)).trans h.gone, (hk.rd R.SEQ_STATE_SOLO hw).trans h.solo, (sqState_congr (hk.2 _ hw) _).trans h.twin⟩

/-- A write of another word, or of a field of SEQ_STATE above the states and beside SOLO. -/
theorem wr (h : Left s n c) (f : Field) (v : Nat) (hlo : 6 ≤ f.lo) (hsolo : f.apart R.SEQ_STATE_SOLO = true) : Left (s.wr f v) n c :=
  ⟨(sqForms_of_state (sqState_wr _ _ _ _ hlo)).trans h.gone, (rd_wr_apart _ _ _ _ rfl hsolo).trans h.solo,
    (sqState_wr _ _ _ _ hlo).trans h.twin⟩

theorem dropHandback (h : Left s n c) : Left s.dropHandback n c := (h.wr _ _ (by decide) rfl).wr _ _ (by decide) rfl

/-- The twin takes control. -/
theorem takeControl (h : Left s n c) : Left (s.takeControl (twinOf n)) n sqActive := by
  have hset : Left (s.setSq (other n) sqActive) n sqActive := by
    have hgone : (s.setSq (other n) sqActive).sqForms n = false := by
      rw [sqForms_code, setSq_state, if_neg (other_ne n).symm, ← sqForms_code]
      exact h.gone
    refine ⟨hgone, ?_, ?_⟩
    · rw [setSq_solo, forms_pair n, hgone]
      rfl
    · exact (setSq_state _ _ _ _).trans (if_pos rfl)
  have hactive := hset.wr R.SEQ_STATE_ACTIVE (other n) (by decide) rfl
  have hstatus (u : State) : Keeps id (fun a => a == R.SQ_STATUS (other n)) u ((u.wr (R.SQ_STATUS_DONE (other n)) 0).wr (R.SQ_STATUS_ABORTED (other n)) 0) :=
    ((Keeps.refl u).wr _ _ (by simp)).wr _ _ (by simp)
  rw [twinOf_eq]
  refine hactive.keeps (hstatus _) ?_
  rw [beq_eq_false_iff_ne]
  simp only [R.SEQ_STATE, R.SQ_STATUS]
  omega

end Left

/-! ## Giving up while the twin forms lines (R394 to R399) -/

/-- What a sequencer that gives up may change beside what is noticed. -/
def leaveWord (n : Fin 2) (a : Nat) : Bool :=
  a == R.SEQ_STATE || a == R.SQ_STATUS 0 || a == R.SQ_STATUS 1 || a == R.SQ_GIVEUPS n || a == R.SEQ_FAILOVERS || a == R.SEQ_DOUBLED ||
    plumbWord a

theorem leaveWord_plumb {n : Fin 2} (a : Nat) (h : plumbWord a = true) : leaveWord n a = true := by simp [leaveWord, h]

theorem leaveWord_status (n m : Fin 2) : leaveWord n (R.SQ_STATUS m) = true := by
  match m with
  | 0 => simp [leaveWord]
  | 1 => simp [leaveWord]

theorem addStat_keeps (s : State) (b : Nat) (x : LineStat) : Keeps sansTwin W s (s.addStat b x) := by
  have hdrops : Keeps sansTwin W s (x.drops.foldl (fun (t : State) e => t.leafLine e.1 e.2) s) :=
    Keeps.foldl (f := fun (t : State) (e : Nat × Nat) => t.leafLine e.1 e.2) (fun t e _ => (Keeps.refl t).update rfl rfl) s
  exact hdrops.update rfl rfl

theorem countDoubled_keeps (hw : W R.SEQ_DOUBLED = true) (s : State) : Keeps sansTwin W s s.countDoubled := by
  refine .foldl (fun t b _ => .foldl (fun u x _ => ?_) t) s
  extract_lets u1 u2 u3
  have h1 : Keeps sansTwin W u u1 := addStat_keeps u b x
  clear_value u1
  have h3 : Keeps sansTwin W u u3 := h1.update rfl rfl
  clear_value u3
  exact (h3.wr _ _ hw).lifeAdd _ _ _

theorem retireSq_keeps (hW : ∀ a, plumbWord a = true → W a = true) (hstate : W R.SEQ_STATE = true) (s : State) (n : Nat) :
    Keeps E W s (s.retireSq n) := ((setSq_keeps hstate s n sqRetired).lifeAdd _ _ _).condOn hW _ _ _

theorem retireSq_left (s : State) (n : Fin 2) : Left (s.retireSq n) n (s.sqState (other n)) := by
  have hset := setSq_left s n (st := sqRetired) rfl
  have hrest : Keeps id plumbWord (s.setSq n sqRetired) (s.retireSq n) := ((Keeps.refl _).lifeAdd _ _ _).condOn plumb_self _ _ _
  exact hset.keeps hrest rfl

end Sys2Proof.Machine
end

section
/-! PROOFS. A sequencer that gives up or takes a strike (R391, R393 to R399). -/

namespace Sys2Proof.Machine

variable {s t u : State} {E : State → State} {W : Nat → Bool}

/-- The sequencer has left for a cause while its twin forms lines; `twin` is the twin's state. -/
structure GaveUp (s t : State) (n : Fin 2) (twin cause : Nat) : Prop where
  left : Left t n twin
  keeps : Keeps sansTwin (leaveWord n) s t
  cause : t.rd (R.SQ_STATUS_LAST_CAUSE n) = cause % 8

namespace GaveUp

variable {n : Fin 2} {c cause : Nat}

/-- A step that leaves SEQ_STATE and the sequencer's own status alone. -/
theorem next (h : GaveUp s t n c cause) (hk : Keeps sansTwin W t u) (hW : ∀ a, W a = true → leaveWord n a = true)
    (hstate : W R.SEQ_STATE = false) (hstatus : W (R.SQ_STATUS n) = false) : GaveUp s u n c cause where
  left := h.left.keeps hk hstate
  keeps := h.keeps.trans (hk.mono (fun _ => rfl) fun a ha => Bool.eq_false_iff.2 fun hw => Bool.eq_false_iff.1 ha (hW a hw))
  cause := (hk.rd _ hstatus).trans h.cause

/-- A write of another field of the sequencer's own status. -/
theorem status (h : GaveUp s t n c cause) (f : Field) (v : Nat) (hf : f.addr = R.SQ_STATUS n)
    (hapart : f.apart (R.SQ_STATUS_LAST_CAUSE n) = true) : GaveUp s (t.wr f v) n c cause where
  left := h.left.keeps (W := fun a => a == f.addr) (E := id) ((Keeps.refl t).wr f v (by simp)) (by
    rw [hf, beq_eq_false_iff_ne]
    simp only [R.SEQ_STATE, R.SQ_STATUS]
    omega)
  keeps := h.keeps.wr f v (hf ▸ leaveWord_status n n)
  cause := (rd_wr_apart _ _ _ _ rfl hapart).trans h.cause

/-- A write of a field of SEQ_STATE above the states and beside SOLO. -/
theorem state (h : GaveUp s t n c cause) (f : Field) (v : Nat) (hf : f.addr = R.SEQ_STATE) (hlo : 6 ≤ f.lo)
    (hsolo : f.apart R.SEQ_STATE_SOLO = true) : GaveUp s (t.wr f v) n c cause where
  left := h.left.wr f v hlo hsolo
  keeps := h.keeps.wr f v (by simp [leaveWord, hf])
  cause := (rd_wr_word _ _ _ _ (by rw [hf]; simp only [R.SQ_STATUS, R.SEQ_STATE]; omega)).trans h.cause

theorem plumb (h : GaveUp s t n c cause) (hk : Keeps sansTwin plumbWord t u) : GaveUp s u n c cause :=
  h.next hk leaveWord_plumb rfl (by match n with | 0 => rfl | 1 => rfl)

/-- The words of the twin taking control. -/
theorem takeControl (h : GaveUp s t n c cause) : GaveUp s (t.takeControl (twinOf n)) n sqActive cause := by
  have hk : Keeps sansTwin (fun a => a == R.SEQ_STATE || a == R.SQ_STATUS (other n)) t (t.takeControl (twinOf n)) := by
    rw [twinOf_eq]
    exact (((setSq_keeps (by simp) t (other n) sqActive).wr _ _ (by simp)).wr _ _ (by simp)).wr _ _ (by simp)
  have hstatus : (R.SQ_STATUS n == R.SEQ_STATE || R.SQ_STATUS n == R.SQ_STATUS (other n)) = false := by
    match n with
    | 0 => rfl
    | 1 => rfl
  refine ⟨h.left.takeControl, h.keeps.trans (hk.mono (fun _ => rfl) fun a ha => ?_), (hk.rd _ hstatus).trans h.cause⟩
  rw [Bool.or_eq_false_iff, beq_eq_false_iff_ne, beq_eq_false_iff_ne]
  refine ⟨fun he => ?_, fun he => ?_⟩
  · rw [he] at ha
    exact absurd ha (by simp [leaveWord])
  · rw [he, leaveWord_status] at ha
    exact absurd ha (by decide)

theorem dropHandback (h : GaveUp s t n c cause) : GaveUp s t.dropHandback n c cause :=
  (h.state _ _ rfl (by decide) rfl).state _ _ rfl (by decide) rfl

theorem retireSq (h : GaveUp s t n c cause) : GaveUp s (t.retireSq n) n c cause where
  left := h.left.twin ▸ retireSq_left t n
  keeps := h.keeps.trans (retireSq_keeps leaveWord_plumb (by simp [leaveWord]) t n)
  cause := by
    have hk : Keeps id (fun a => a == R.SEQ_STATE || plumbWord a) t (t.retireSq n) :=
      retireSq_keeps (fun a ha => by simp [ha]) (by simp) t n
    refine (hk.rd _ ?_).trans h.cause
    match n with
    | 0 => rfl
    | 1 => rfl

end GaveUp

theorem onSq_keeps (s : State) (n : Nat) (f : Seq → Seq) : Keeps sansTwin W s (s.onSq n f) := (Keeps.refl s).update rfl rfl

/-- The cause is shown, the count goes up, and the sequencer's record is as given. -/
def State.sqGoing (s : State) (n cause : Nat) (q : Seq → Seq) : State :=
  (((s.wr (R.SQ_STATUS_LAST_CAUSE n) cause).inc (R.SQ_GIVEUPS_COUNT n)).lifeAdd (0x0D4 + 16 * n) 2 1).onSq n q

theorem sqGoing_keeps (s : State) (n cause : Nat) (q : Seq → Seq) :
    Keeps sansTwin (fun a => a == R.SQ_STATUS n || a == R.SQ_GIVEUPS n) s (s.sqGoing n cause q) :=
  ((((Keeps.refl s).wr _ _ (by simp)).wr _ _ (by simp)).lifeAdd _ _ _).trans (onSq_keeps _ n q)

theorem sqGoing_cause (s : State) (n cause : Nat) (q : Seq → Seq) :
    (s.sqGoing n cause q).rd (R.SQ_STATUS_LAST_CAUSE n) = cause % 8 := by
  have hcount : (s.sqGoing n cause q).word (R.SQ_STATUS n) = (s.wr (R.SQ_STATUS_LAST_CAUSE n) cause).word (R.SQ_STATUS n) :=
    word_wr_ne _ _ _ _ (by simp only [R.SQ_STATUS, R.SQ_GIVEUPS]; omega)
  exact (rd_congr _ _ (R.SQ_STATUS_LAST_CAUSE n) hcount).trans (rd_wr_same _ _ _ rfl)

theorem going_apart (n : Fin 2) : (R.SEQ_STATE == R.SQ_STATUS n || R.SEQ_STATE == R.SQ_GIVEUPS n) = false ∧
    (R.SQ_STATUS n == R.SEQ_STATE) = false := by
  match n with
  | 0 => exact ⟨rfl, rfl⟩
  | 1 => exact ⟨rfl, rfl⟩

theorem leaveWord_going (n : Fin 2) {a : Nat} (h : (a == R.SQ_STATUS n || a == R.SQ_GIVEUPS n) = true) : leaveWord n a = true := by
  rw [Bool.or_eq_true, beq_iff_eq, beq_iff_eq] at h
  rcases h with rfl | rfl
  · exact leaveWord_status n n
  · simp [leaveWord]

theorem sqGone_gaveUp (s : State) (n : Fin 2) (cause : Nat) (q : Seq → Seq) :
    GaveUp s ((s.sqGoing n cause q).setSq n sqOut) n (s.sqState (other n)) cause := by
  have hgoing := sqGoing_keeps s n cause q
  have hcause := sqGoing_cause s n cause q
  have hset : Keeps sansTwin (fun a => a == R.SEQ_STATE) (s.sqGoing n cause q) ((s.sqGoing n cause q).setSq n sqOut) :=
    setSq_keeps (by simp) _ n sqOut
  obtain ⟨hstate, hstatus⟩ := going_apart n
  refine ⟨?_, ?_, (hset.rd _ hstatus).trans hcause⟩
  · rw [← sqState_congr (hgoing.2 _ hstate)]
    exact setSq_left _ n rfl
  · refine (hgoing.mono (fun _ => rfl) fun a ha => ?_).trans (hset.mono (fun _ => rfl) (by simp +contextual [leaveWord]))
    exact Bool.eq_false_iff.2 fun hw => Bool.eq_false_iff.1 ha (leaveWord_going n hw)

/-- The twin has taken control, and the lines in flight are counted twice. -/
def State.handedOver (s : State) (n cause : Nat) : State :=
  (((((s.wrB (R.SQ_STATUS_ABORTED n) (cause == 5)).wrB (R.SQ_STATUS_DONE n) (cause != 5)).takeControl (twinOf n)).inc
    R.SEQ_FAILOVERS_COUNT).lifeAdd 0x0F0 4 1).wr R.SEQ_STATE_OVERLAP 1 |>.countDoubled

theorem handedOver_gaveUp {n : Fin 2} {c cause : Nat} (h : GaveUp s t n c cause) : GaveUp s (t.handedOver n cause) n sqActive cause := by
  have hcontrol := ((h.status (R.SQ_STATUS_ABORTED n) (b2n (cause == 5)) rfl (apart_of_bits (by simp))).status (R.SQ_STATUS_DONE n)
    (b2n (cause != 5)) rfl (apart_of_bits (by simp))).takeControl
  have hcounted (v : State) : Keeps sansTwin (fun a => a == R.SEQ_FAILOVERS) v ((v.inc R.SEQ_FAILOVERS_COUNT).lifeAdd 0x0F0 4 1) :=
    ((Keeps.refl v).wr _ _ (by simp)).lifeAdd _ _ _
  have hoverlap := (hcontrol.next (hcounted _) (by simp +contextual [leaveWord]) rfl (by match n with | 0 => rfl | 1 => rfl)).state
    R.SEQ_STATE_OVERLAP 1 rfl (by decide) rfl
  exact hoverlap.next (countDoubled_keeps (W := fun a => a == R.SEQ_DOUBLED) (by simp) _) (by simp +contextual [leaveWord]) rfl
    (by match n with | 0 => rfl | 1 => rfl)

theorem giveUp_gaveUp (s : State) (n : Fin 2) (cause : Nat) (hn : s.sqForms n = true) (htwin : s.sqForms (other n) = true) :
    GaveUp s (s.giveUp n cause) n (if s.sqState n = sqActive then sqActive else s.sqState (other n)) cause := by
  unfold State.giveUp
  extract_lets s0 was recent s1 s2 s3 s4
  rw [if_neg (by simp [hn]), if_neg (by simp [twinOf_eq, htwin])]
  have h1 : GaveUp s s1 n (s.sqState (other n)) cause := sqGone_gaveUp s n cause _
  clear_value s1
  have h2 : GaveUp s s2 n (s.sqState (other n)) cause :=
    ((h1.status _ _ rfl (apart_of_bits (by simp))).status _ _ rfl (apart_of_bits (by simp))).status _ _ rfl (apart_of_bits (by simp))
  clear_value s2
  have hs3 : s3 = if s.sqState n = sqActive then s2.handedOver n cause else s2 := rfl
  have h3 : GaveUp s s3 n (if s.sqState n = sqActive then sqActive else s.sqState (other n)) cause := by
    rw [hs3]
    split
    · exact handedOver_gaveUp h2
    · exact h2
  clear_value s3
  have h4 : GaveUp s s4 n (if s.sqState n = sqActive then sqActive else s.sqState (other n)) cause :=
    h3.dropHandback.plumb ((Keeps.refl _).raise plumb_self _ _ _)
  clear_value s4
  split
  · exact h4.retireSq
  · exact h4

/-! ## Giving up alone (R395) -/

/-- The sequencer goes on, marked failed, and a common stop is asked for. -/
def State.failedAlone (s : State) (n cause : Nat) : State :=
  (((s.wr (R.SQ_STATUS_LAST_CAUSE n) cause).wr (R.SQ_STATUS_DIAG n) 1).onSq n (fun q => { q with failed := true })).raise Ev.FAILOVER n
    (cause + 512)

theorem giveUp_alone (s : State) (n : Fin 2) (cause : Nat) (hn : s.sqForms n = true) (htwin : s.sqForms (other n) = false) :
    s.giveUp n cause = (s.failedAlone n cause).requestStop 5 := by
  unfold State.giveUp
  rw [if_neg (by simp [hn]), if_pos (by simp [twinOf_eq, htwin])]
  rfl

theorem giveUp_gone (s : State) (n cause : Nat) (hn : s.sqForms n = false) : s.giveUp n cause = s := by
  unfold State.giveUp
  rw [if_pos (by simp [hn])]

end Sys2Proof.Machine
end

section
/-! PROOFS. Comparison, replay and slices of the twin sequencers (R389 to R396). -/

namespace Sys2Proof.Machine

variable {s t u : State} {E : State → State} {W : Nat → Bool}

/-! ## What they may change -/

/-- The state less what a sequencer that gives up, with or without a common stop, may change beside what is noticed. -/
def sansDuo (u : State) : State :=
  { u with
    pow := { u.pow with lastBusy := 0 }, pieces := [], ended := [], rejects := [], tgs := [], ring := []
    stop := { u.stop with active := false }, hist := [], evid := [], seqs := [], verify := [] }

theorem eq_of_sansDuo (h : sansDuo t.unnoticed = sansDuo s.unnoticed) :
    t = { s.noticed t with
      pow := { s.pow with lastBusy := t.pow.lastBusy }, pieces := t.pieces, ended := t.ended, rejects := t.rejects
      tgs := t.tgs, ring := t.ring, stop := { s.stop with active := t.stop.active }, hist := t.hist, evid := t.evid
      seqs := t.seqs, verify := t.verify } :=
  calc
    t = { (sansDuo t.unnoticed).noticed t with
      pow := { (sansDuo t.unnoticed).pow with lastBusy := t.pow.lastBusy }, pieces := t.pieces, ended := t.ended
      rejects := t.rejects, tgs := t.tgs, ring := t.ring
      stop := { (sansDuo t.unnoticed).stop with active := t.stop.active }, hist := t.hist, evid := t.evid
      seqs := t.seqs, verify := t.verify } := rfl
    _ = _ := by rw [h]; rfl

/-- The words they leave alone: the last mismatch, and the counts of strikes and of failed slices. -/
def duoKept (a : Nat) : Bool :=
  a == R.SEQ_LAST_MISMATCH || a == R.SQ_STRIKES 0 || a == R.SQ_STRIKES 1 || a == R.SQ_SLICE_FAIL 0 || a == R.SQ_SLICE_FAIL 1

/-- The words they may write. -/
def duoWord (a : Nat) : Bool := !duoKept a

theorem duoWord_of {a : Nat} (h : ∀ b, duoKept b = true → a ≠ b) : duoWord a = true := by
  cases hk : duoKept a
  · rw [duoWord, hk]
    rfl
  · exact absurd rfl (h a hk)

theorem duoKept_mem {b : Nat} (h : duoKept b = true) : b ∈ [0x6002C, 0x60110, 0x60150, 0x60108, 0x60148] := by
  simpa [duoKept, R.SEQ_LAST_MISMATCH, R.SQ_STRIKES, R.SQ_SLICE_FAIL, or_assoc] using h

theorem duoWord_stopWords : StopWords duoWord where
  high a ha := duoWord_of fun b hb he => by
    have := duoKept_mem hb
    simp only [List.mem_cons, List.not_mem_nil, or_false] at this
    omega
  plumb a ha := duoWord_of fun b hb he => by
    subst he
    have := duoKept_mem hb
    simp only [List.mem_cons, List.not_mem_nil, or_false] at this
    rcases this with rfl | rfl | rfl | rfl | rfl <;> exact absurd ha (by decide)
  compare k := duoWord_of fun b hb he => by
    have := duoKept_mem hb
    simp only [List.mem_cons, List.not_mem_nil, or_false, R.CMP_STATUS] at this he
    omega
  position j := duoWord_of fun b hb he => by
    have := duoKept_mem hb
    simp only [List.mem_cons, List.not_mem_nil, or_false, R.TG_STOP] at this he
    omega
  cause := rfl
  demand := rfl

theorem leaveWord_duo (n : Fin 2) (a : Nat) (h : leaveWord n a = true) : duoWord a = true := duoWord_of fun b hb he => by
  subst he
  have := duoKept_mem hb
  simp only [List.mem_cons, List.not_mem_nil, or_false] at this
  match n with
  | 0 => rcases this with rfl | rfl | rfl | rfl | rfl <;> exact absurd h (by decide)
  | 1 => rcases this with rfl | rfl | rfl | rfl | rfl <;> exact absurd h (by decide)

theorem requestStop_duo (s : State) (cause : Nat) : Keeps sansDuo duoWord s (s.requestStop cause) := by
  have h : Keeps sansStop duoWord s (s.requestStop cause) := requestStop_stop duoWord_stopWords s cause
  refine ⟨?_, h.2⟩
  calc
    sansDuo (s.requestStop cause).unnoticed = { sansStop (s.requestStop cause).unnoticed with
      hist := [], seqs := [], stop := { (s.requestStop cause).stop with active := false } } := rfl
    _ = { sansStop s.unnoticed with hist := [], seqs := [], stop := { s.stop with active := false } } := by
      rw [h.1, requestStop_active]
    _ = sansDuo s.unnoticed := rfl

theorem GaveUp.duo {n : Fin 2} {c cause : Nat} (h : GaveUp s t n c cause) : Keeps sansDuo duoWord s t :=
  h.keeps.mono (fun _ => rfl) fun a ha => Bool.eq_false_iff.2 fun hw => Bool.eq_false_iff.1 ha (leaveWord_duo n a hw)

theorem failedAlone_keeps (s : State) (n : Fin 2) (cause : Nat) :
    Keeps sansTwin (fun a => a == R.SQ_STATUS n || plumbWord a) s (s.failedAlone n cause) :=
  ((((Keeps.refl s).wr _ _ (by simp)).wr _ _ (by simp)).trans (onSq_keeps _ n _)).raise (by simp +contextual) _ _ _

theorem failedAlone_duo (s : State) (n : Fin 2) (cause : Nat) : Keeps sansDuo duoWord s (s.failedAlone n cause) := by
  refine (failedAlone_keeps s n cause).mono (fun _ => rfl) fun a ha => ?_
  rw [Bool.or_eq_false_iff]
  refine ⟨Bool.eq_false_iff.2 fun hw => ?_, Bool.eq_false_iff.2 fun hw => ?_⟩
  · rw [beq_iff_eq] at hw
    rw [hw, leaveWord_duo n _ (leaveWord_status n n)] at ha
    exact absurd ha (by decide)
  · rw [leaveWord_duo n a (leaveWord_plumb a hw)] at ha
    exact absurd ha (by decide)

theorem giveUp_duo (s : State) (n : Fin 2) (cause : Nat) : Keeps sansDuo duoWord s (s.giveUp n cause) := by
  cases hn : s.sqForms n
  · rw [giveUp_gone s n cause hn]
    exact .refl s
  · cases htwin : s.sqForms (other n)
    · rw [giveUp_alone s n cause hn htwin]
      exact (failedAlone_duo s n cause).trans (requestStop_duo _ 5)
    · exact (giveUp_gaveUp s n cause hn htwin).duo

/-! ## A strike (R391) -/

/-- The strike is counted and noted. -/
def State.struck (s : State) (n : Nat) : State :=
  ((s.inc (R.SQ_STRIKES_COUNT n)).lifeAdd (0x0D6 + 16 * n) 2 1).onSq n (fun q => { q with strikes := [s.time] })

theorem strike_eq (s : State) (n : Nat) : s.strike n =
    if (s.sq n).strikes.any (fun t => decide (s.time ≤ t + secTicks (s.rd R.SEQ_LIMITS_STRIKE_S))) then (s.struck n).giveUp n 4
    else (s.struck n).priorityCycle n := rfl

theorem struck_keeps (s : State) (n : Nat) : Keeps sansTwin (fun a => a == R.SQ_STRIKES n) s (s.struck n) :=
  (((Keeps.refl s).wr _ _ (by simp)).lifeAdd _ _ _).trans (onSq_keeps _ n _)

theorem struck_state (s : State) (n : Nat) : (s.struck n).word R.SEQ_STATE = s.word R.SEQ_STATE :=
  (struck_keeps s n).2 _ (by rw [beq_eq_false_iff_ne]; simp only [R.SEQ_STATE, R.SQ_STRIKES]; omega)

theorem lifeAdd_rd (s : State) (off width n : Nat) (f : Field) : (s.lifeAdd off width n).rd f = s.rd f := rfl

theorem onSq_rd (s : State) (n : Nat) (q : Seq → Seq) (f : Field) : (s.onSq n q).rd f = s.rd f := rfl

theorem struck_count (s : State) (n : Nat) : (s.struck n).rd (R.SQ_STRIKES_COUNT n) = (s.rd (R.SQ_STRIKES_COUNT n) + 1) % 2 ^ 32 := by
  rw [State.struck, onSq_rd, lifeAdd_rd, rd_inc _ _ rfl]

theorem sq_onSq (s : State) (n m : Nat) (f : Seq → Seq) : (s.onSq n f).sq m = if m = n then f (s.sq n) else s.sq m := get_set _ _ _ _ _

theorem sq_wr (s : State) (f : Field) (v m : Nat) : (s.wr f v).sq m = s.sq m := rfl

theorem priorityCycle_keeps (s : State) (n : Nat) : Keeps sansTwin (fun a => a == R.SQ_STATUS n) s (s.priorityCycle n) :=
  (onSq_keeps s n _).wr _ _ (by simp)

theorem priorityCycle_shows (s : State) (n : Nat) :
    (s.priorityCycle n).rd (R.SQ_STATUS_DIAG n) = 1 ∧ ((s.priorityCycle n).sq n).priority = true := by
  refine ⟨rd_wr_same _ _ _ rfl, ?_⟩
  rw [State.priorityCycle, sq_wr, sq_onSq, if_pos rfl]

theorem priorityCycle_state (s : State) (n m : Nat) : (s.priorityCycle n).sqState m = s.sqState m :=
  sqState_congr ((priorityCycle_keeps s n).2 _ (by rw [beq_eq_false_iff_ne]; simp only [R.SEQ_STATE, R.SQ_STATUS]; omega)) m

theorem priorityCycle_duo (s : State) (n : Fin 2) : Keeps sansDuo duoWord s (s.priorityCycle n) := by
  refine (priorityCycle_keeps s n).mono (fun _ => rfl) fun a ha => Bool.eq_false_iff.2 fun hw => ?_
  rw [beq_iff_eq] at hw
  rw [hw, leaveWord_duo n _ (leaveWord_status n n)] at ha
  exact absurd ha (by decide)

theorem strikes_kept (n : Fin 2) : duoWord (R.SQ_STRIKES n) = false := by
  match n with
  | 0 => rfl
  | 1 => rfl

/-- What follows a counted strike leaves the count. -/
theorem strike_rest (s : State) (n : Fin 2) : Keeps sansDuo duoWord (s.struck n) (s.strike n) := by
  rw [strike_eq]
  split
  · exact giveUp_duo _ n 4
  · exact priorityCycle_duo _ n

theorem strike_count (s : State) (n : Fin 2) : (s.strike n).rd (R.SQ_STRIKES_COUNT n) = (s.rd (R.SQ_STRIKES_COUNT n) + 1) % 2 ^ 32 :=
  ((strike_rest s n).rd _ (strikes_kept n)).trans (struck_count s n)

/-- A first strike begins a priority cycle. -/
theorem strike_first (s : State) (n : Nat) (h : (s.sq n).strikes = []) : (s.strike n).sqForms n = s.sqForms n ∧
    ((s.strike n).sq n).priority = true ∧ (s.strike n).rd (R.SQ_STATUS_DIAG n) = 1 := by
  have heq : s.strike n = (s.struck n).priorityCycle n := by
    rw [strike_eq, h]
    rfl
  obtain ⟨hdiag, hpriority⟩ := priorityCycle_shows (s.struck n) n
  rw [heq]
  exact ⟨(sqForms_of_state (priorityCycle_state _ n n)).trans (sqForms_congr n (struck_state s n)), hpriority, hdiag⟩

/-- A second strike of the same instant makes the sequencer give up. -/
theorem strike_second (s : State) (n : Fin 2) (h : s.time ∈ (s.sq n).strikes) (hn : s.sqForms n = true) (htwin : s.sqForms (other n) = true) :
    GaveUp (s.struck n) (s.strike n) n (if s.sqState n = sqActive then sqActive else s.sqState (other n)) 4 := by
  have hword := struck_state s n
  have heq : s.strike n = (s.struck n).giveUp n 4 := by
    rw [strike_eq, if_pos (List.any_eq_true.2 ⟨s.time, h, decide_eq_true (Nat.le_add_right _ _)⟩)]
  rw [heq, ← sqState_congr hword n, ← sqState_congr hword (other n)]
  exact giveUp_gaveUp _ n 4 ((sqForms_congr _ hword).trans hn) ((sqForms_congr _ hword).trans htwin)

end Sys2Proof.Machine
end

section
/-! PROOFS. LANE_CRC_COMPARE, REPLAY, SLICE and OVERLAP_END (R389 to R396). -/

namespace Sys2Proof.Machine

variable {s t u : State} {E : State → State} {W : Nat → Bool}

/-! ## Comparison (R389) -/

theorem mismatchKnown_keeps (s : State) (x : Mismatch) (outcome : Nat) :
    Keeps E (fun a => a == R.SEQ_LAST_MISMATCH || plumbWord a) s (s.mismatchKnown x outcome) :=
  (((((Keeps.refl s).wr _ _ (by simp)).wr _ _ (by simp)).wr _ _ (by simp)).wr _ _ (by simp)).raise (by simp +contextual) _ _ _

theorem mismatchKnown_outcome (s : State) (x : Mismatch) (outcome : Nat) :
    (s.mismatchKnown x outcome).rd R.SEQ_LAST_MISMATCH_OUTCOME = outcome % 16 := by
  rw [State.mismatchKnown, raise_rd _ _ _ _ _ rfl, rd_wr_apart _ _ _ _ rfl rfl]
  exact rd_wr_same _ _ _ rfl

/-- A frame has been compared and differed. -/
def State.compared (s : State) : State := ((s.inc R.SEQ_COMPARED_COUNT).inc R.SEQ_MISMATCHES_COUNT).lifeAdd 0x0F8 4 1

theorem compared_rd (s : State) : s.compared.rd R.SEQ_COMPARED_COUNT = (s.rd R.SEQ_COMPARED_COUNT + 1) % 2 ^ 32 ∧
    s.compared.rd R.SEQ_MISMATCHES_COUNT = (s.rd R.SEQ_MISMATCHES_COUNT + 1) % 2 ^ 32 ∧ s.compared.rd R.SEQ_DATA_COUNT = s.rd R.SEQ_DATA_COUNT := by
  have hother (f : Field) (h : f.addr ≠ R.SEQ_COMPARED) : (s.inc R.SEQ_COMPARED_COUNT).rd f = s.rd f := rd_wr_word _ _ _ _ h
  have hother' (v : State) (f : Field) (h : f.addr ≠ R.SEQ_MISMATCHES) : (v.inc R.SEQ_MISMATCHES_COUNT).rd f = v.rd f := rd_wr_word _ _ _ _ h
  unfold State.compared
  refine ⟨?_, ?_, ?_⟩
  · rw [lifeAdd_rd, hother' _ _ (by decide), rd_inc _ _ rfl]
  · rw [lifeAdd_rd, rd_inc _ _ rfl, hother _ (by decide)]
  · rw [lifeAdd_rd, hother' _ _ (by decide), hother _ (by decide)]

/-- The words of a comparison. -/
def compareWord (a : Nat) : Bool :=
  a == R.SEQ_COMPARED || a == R.SEQ_MISMATCHES || a == R.SEQ_DATA || a == R.SEQ_LAST_MISMATCH || plumbWord a

theorem compareWord_mem {a : Nat} (h : compareWord a = true) :
    a ∈ [R.SEQ_COMPARED, R.SEQ_MISMATCHES, R.SEQ_DATA, R.SEQ_LAST_MISMATCH] ++ eventWords := by
  simp only [compareWord, Bool.or_eq_true, beq_iff_eq] at h
  simp only [List.mem_append, List.mem_cons, List.not_mem_nil, or_false]
  rcases h with (((h | h) | h) | h) | h
  · tauto
  · tauto
  · tauto
  · tauto
  · exact .inr (plumbWord_mem_eventWords h)

theorem compared_keeps (s : State) : Keeps E compareWord s s.compared := (((Keeps.refl s).wr _ _ rfl).wr _ _ rfl).lifeAdd _ _ _

/-- The state less the mismatches. -/
def sansMismatches (u : State) : State := { u with mismatches := [] }

theorem eq_of_sansMismatches (h : sansMismatches t.unnoticed = sansMismatches s.unnoticed) : t = { s.noticed t with mismatches := t.mismatches } :=
  calc
    t = { (sansMismatches t.unnoticed).noticed t with mismatches := t.mismatches } := rfl
    _ = _ := by rw [h]; rfl

/-- A mismatch awaits its replay. -/
def State.awaiting (s : State) (x : Mismatch) : State := { s with mismatches := s.mismatches ++ [x] }

theorem awaiting_keeps (s : State) (x : Mismatch) : Keeps sansMismatches W s (s.awaiting x) := (Keeps.refl s).update rfl rfl

theorem awaiting_rd (s : State) (x : Mismatch) (f : Field) : (s.awaiting x).rd f = s.rd f := rfl

theorem mismatches_of_keeps (h : Keeps id W s t) : t.mismatches = s.mismatches := (congrArg State.mismatches h.1 :)

theorem compared_mismatches (s : State) : s.compared.mismatches = s.mismatches := mismatches_of_keeps (compared_keeps s)

theorem latch_mismatches (s : State) : s.latch.mismatches = s.mismatches := by simp only [latch_frame]

theorem laneCrcCompare_counts (s : State) (lane bar : Fin 16) (q a b : Word) (ueA ueB : Bool) (hon : s.coreOn = true)
    (h0 : s.sqForms 0 = true) (h1 : s.sqForms 1 = true) :
    ∃ t, exec (.laneCrcCompare lane bar q a b ueA ueB) s = .next t ∧
      t.rd R.SEQ_COMPARED_COUNT = (s.rd R.SEQ_COMPARED_COUNT + 1) % 2 ^ 32 ∧
      t.rd R.SEQ_MISMATCHES_COUNT = (s.rd R.SEQ_MISMATCHES_COUNT + (if a = b then 0 else 1)) % 2 ^ 32 ∧
      t.rd R.SEQ_DATA_COUNT = (s.rd R.SEQ_DATA_COUNT + (if a ≠ b ∧ (ueA = true ∨ ueB = true) then 1 else 0)) % 2 ^ 32 ∧
      t.mismatches = s.mismatches ++ (if a ≠ b ∧ ueA = false ∧ ueB = false then [⟨lane, bar, q.toNat, a.toNat, b.toNat⟩] else []) ∧
      t = { s.noticed t with mismatches := t.mismatches } ∧ SameWords s t ([R.SEQ_COMPARED, R.SEQ_MISMATCHES, R.SEQ_DATA,
        R.SEQ_LAST_MISMATCH] ++ eventWords) := by
  obtain ⟨hcompared, hcount, hdata⟩ := compared_rd s
  have hfinish (u : State) (hk : Keeps sansMismatches compareWord s u) : u.latch = { s.noticed u.latch with mismatches := u.latch.mismatches } ∧
      SameWords s u.latch ([R.SEQ_COMPARED, R.SEQ_MISMATCHES, R.SEQ_DATA, R.SEQ_LAST_MISMATCH] ++ eventWords) :=
    ⟨eq_of_sansMismatches hk.latch.1, fun a ha => hk.latch.2 a (Bool.eq_false_iff.2 fun hw => ha (compareWord_mem hw))⟩
  have hrun (v : State) (hv : (if a = b then s.inc R.SEQ_COMPARED_COUNT
      else if ueA = true ∨ ueB = true then (s.compared.inc R.SEQ_DATA_COUNT).mismatchKnown ⟨lane, bar, q.toNat, a.toNat, b.toNat⟩ 0
      else s.compared.awaiting ⟨lane, bar, q.toNat, a.toNat, b.toNat⟩) = v) :
      exec (.laneCrcCompare lane bar q a b ueA ueB) s = .next v.latch := by
    show execLaneCrcCompare lane bar q a b ueA ueB s = _
    rw [← hv, execLaneCrcCompare, if_neg (by simp [hon, h0, h1])]
    split
    · rfl
    · rfl
  by_cases hab : a = b
  · have hk : Keeps sansMismatches compareWord s (s.inc R.SEQ_COMPARED_COUNT) := (Keeps.refl s).wr _ _ rfl
    refine ⟨_, hrun _ (if_pos hab), ?_, ?_, ?_, ?_, hfinish _ hk⟩
    · rw [latch_rd, rd_inc _ _ rfl]
    · rw [latch_rd, if_pos hab, State.inc, State.add, rd_wr_word _ _ _ _ (by decide), Nat.add_zero, Nat.mod_eq_of_lt (rd_lt s R.SEQ_MISMATCHES_COUNT)]
    · rw [latch_rd, if_neg (by simp [hab]), State.inc, State.add, rd_wr_word _ _ _ _ (by decide), Nat.add_zero,
        Nat.mod_eq_of_lt (rd_lt s R.SEQ_DATA_COUNT)]
    · rw [latch_mismatches, if_neg (by simp [hab]), List.append_nil]
      rfl
  · by_cases hue : ueA = true ∨ ueB = true
    · have hknown : Keeps sansMismatches compareWord (s.compared.inc R.SEQ_DATA_COUNT)
          ((s.compared.inc R.SEQ_DATA_COUNT).mismatchKnown ⟨lane, bar, q.toNat, a.toNat, b.toNat⟩ 0) :=
        (mismatchKnown_keeps _ _ 0).mono (fun _ => rfl) (by simp +contextual [compareWord])
      have hk : Keeps sansMismatches compareWord s ((s.compared.inc R.SEQ_DATA_COUNT).mismatchKnown ⟨lane, bar, q.toNat, a.toNat, b.toNat⟩ 0) :=
        ((compared_keeps s).wr R.SEQ_DATA_COUNT _ rfl).trans hknown
      have hrd (f : Field) (hf : (f.addr == R.SEQ_LAST_MISMATCH || plumbWord f.addr) = false) :
          ((s.compared.inc R.SEQ_DATA_COUNT).mismatchKnown ⟨lane, bar, q.toNat, a.toNat, b.toNat⟩ 0).rd f = (s.compared.inc R.SEQ_DATA_COUNT).rd f :=
        (mismatchKnown_keeps (E := id) _ _ 0).rd f hf
      refine ⟨_, hrun _ ((if_neg hab).trans (if_pos hue)), ?_, ?_, ?_, ?_, hfinish _ hk⟩
      · rw [latch_rd, hrd _ rfl, State.inc, State.add, rd_wr_word _ _ _ _ (by decide), hcompared]
      · rw [latch_rd, hrd _ rfl, State.inc, State.add, rd_wr_word _ _ _ _ (by decide), hcount, if_neg hab]
      · rw [latch_rd, hrd _ rfl, rd_inc _ _ rfl, hdata, if_pos ⟨hab, hue⟩]
      · have hsame : ((s.compared.inc R.SEQ_DATA_COUNT).mismatchKnown ⟨lane, bar, q.toNat, a.toNat, b.toNat⟩ 0).mismatches = s.mismatches :=
          (mismatches_of_keeps (mismatchKnown_keeps _ _ 0)).trans
            ((mismatches_of_keeps (W := compareWord) ((Keeps.refl _).wr R.SEQ_DATA_COUNT _ rfl)).trans (compared_mismatches s))
        have hnot : ¬(a ≠ b ∧ ueA = false ∧ ueB = false) := by
          rintro ⟨-, ha, hb⟩
          simp [ha, hb] at hue
        rw [latch_mismatches, if_neg hnot, List.append_nil, hsame]
    · have hnone : ueA = false ∧ ueB = false := by simpa using hue
      have hk : Keeps sansMismatches compareWord s (s.compared.awaiting ⟨lane, bar, q.toNat, a.toNat, b.toNat⟩) :=
        (compared_keeps s).trans (awaiting_keeps _ _)
      refine ⟨_, hrun _ ((if_neg hab).trans (if_neg hue)), ?_, ?_, ?_, ?_, hfinish _ hk⟩
      · rw [latch_rd, awaiting_rd, hcompared]
      · rw [latch_rd, awaiting_rd, hcount, if_neg hab]
      · rw [latch_rd, awaiting_rd, hdata, if_neg fun h => hue h.2, Nat.add_zero, Nat.mod_eq_of_lt (rd_lt s R.SEQ_DATA_COUNT)]
      · rw [latch_mismatches, if_pos ⟨hab, hnone⟩, ← compared_mismatches s]
        rfl

/-! ## Replay (R390) -/

theorem replayCode_range (a b ra rb : Nat) : 1 ≤ replayCode a b ra rb ∧ replayCode a b ra rb ≤ 6 := by
  unfold replayCode
  (repeat' split) <;> decide

/-- The mismatch no longer waits, and its outcome is known. -/
def State.replayed (s : State) (x : Mismatch) (code : Nat) : State :=
  ({ s with mismatches := s.mismatches.erase x } : State).mismatchKnown x code

theorem replayed_keeps (s : State) (x : Mismatch) (code : Nat) :
    Keeps id (fun a => a == R.SEQ_LAST_MISMATCH || plumbWord a) { s with mismatches := s.mismatches.erase x } (s.replayed x code) :=
  mismatchKnown_keeps _ x code

theorem replayed_word (s : State) (x : Mismatch) (code : Nat) {a : Nat} (ha : (a == R.SEQ_LAST_MISMATCH || plumbWord a) = false) :
    (s.replayed x code).word a = s.word a := (replayed_keeps s x code).2 a ha

theorem replayed_same (s : State) (x : Mismatch) (code : Nat) :
    (s.replayed x code).seqs = s.seqs ∧ (s.replayed x code).time = s.time ∧ (s.replayed x code).stop = s.stop := by
  have h := (replayed_keeps s x code).1
  exact ⟨(congrArg State.seqs h :), (congrArg State.time h :), (congrArg State.stop h :)⟩

theorem replayEffect_duo (s : State) (code : Nat) :
    ∃ v, (v = s.struck 0 ∨ v = s.struck 1 ∨ v = s ∨ v = s.inc R.SEQ_UNRESOLVED_COUNT) ∧ Keeps sansDuo duoWord v (s.replayEffect code) := by
  unfold State.replayEffect
  split
  · exact ⟨_, .inl rfl, strike_rest s 0⟩
  · exact ⟨_, .inr (.inl rfl), strike_rest s 1⟩
  · exact ⟨_, .inr (.inr (.inl rfl)), giveUp_duo s 0 3⟩
  · exact ⟨_, .inr (.inr (.inl rfl)), giveUp_duo s 1 3⟩
  · refine ⟨_, .inr (.inr (.inl rfl)), ?_⟩
    have ha : s.rd R.SEQ_STATE_ACTIVE < 2 := rd_lt s R.SEQ_STATE_ACTIVE
    have hboth (n : Fin 2) : Keeps sansDuo duoWord s ((s.giveUp n 3).giveUp (twinOf n) 3) := by
      rw [twinOf_eq]
      exact (giveUp_duo s n 3).trans (giveUp_duo _ (other n) 3)
    exact hboth ⟨_, ha⟩
  · exact ⟨_, .inr (.inr (.inr rfl)), (priorityCycle_duo _ 0).trans (priorityCycle_duo _ 1)⟩

/-- Whatever the outcome does, the last mismatch stays shown. -/
theorem replayEffect_keeps (s : State) (code : Nat) : Keeps sansDuo (fun a => a != R.SEQ_LAST_MISMATCH) s (s.replayEffect code) := by
  obtain ⟨v, hv, hk⟩ := replayEffect_duo s code
  have hsv : Keeps sansDuo (fun a => a != R.SEQ_LAST_MISMATCH) s v := by
    rcases hv with rfl | rfl | rfl | rfl
    · refine (struck_keeps s 0).mono (fun _ => rfl) fun a ha => ?_
      obtain rfl : a = R.SEQ_LAST_MISMATCH := by simpa using ha
      rfl
    · refine (struck_keeps s 1).mono (fun _ => rfl) fun a ha => ?_
      obtain rfl : a = R.SEQ_LAST_MISMATCH := by simpa using ha
      rfl
    · exact .refl _
    · exact (Keeps.refl s).wr _ _ rfl
  refine hsv.trans (hk.mono (fun _ => rfl) fun a ha => ?_)
  obtain rfl : a = R.SEQ_LAST_MISMATCH := by simpa using ha
  rfl

theorem replayEffect_strike (s : State) (n : Fin 2) : s.replayEffect (n + 1) = s.strike n := by
  match n with
  | 0 => rfl
  | 1 => rfl

theorem replayEffect_blame (s : State) (n : Fin 2) : s.replayEffect (n + 3) = s.giveUp n 3 := by
  match n with
  | 0 => rfl
  | 1 => rfl

/-- With both blamed the active one leaves, and the other asks for a common stop. -/
theorem replayEffect_both (s : State) (h0 : s.sqForms 0 = true) (h1 : s.sqForms 1 = true) : (s.replayEffect 5).stop.active = true := by
  have hstop (n : Fin 2) : ((s.giveUp n 3).giveUp (twinOf n) 3).stop.active = true := by
    have hn : s.sqForms n = true ∧ s.sqForms (other n) = true := by
      match n with
      | 0 => exact ⟨h0, h1⟩
      | 1 => exact ⟨h1, h0⟩
    have hleft := (giveUp_gaveUp s n 3 hn.1 hn.2).left
    have htwin : (s.giveUp n 3).sqForms (other n) = true := by
      rw [sqForms_code, hleft.twin]
      split
      · rfl
      · rw [← sqForms_code]
        exact hn.2
    have hback : other (other n) = n := by
      match n with
      | 0 => rfl
      | 1 => rfl
    rw [twinOf_eq, giveUp_alone _ (other n) 3 htwin (by rw [hback]; exact hleft.gone), requestStop_active]
  exact hstop ⟨s.rd R.SEQ_STATE_ACTIVE, rd_lt s R.SEQ_STATE_ACTIVE⟩

theorem inc_word (s : State) (f : Field) (a : Nat) (h : a ≠ f.addr) : (s.inc f).word a = s.word a := word_wr_ne _ _ _ _ h

/-- With no outcome both begin priority cycles. -/
theorem replayEffect_none (s : State) : (s.replayEffect 6).rd R.SEQ_UNRESOLVED_COUNT = (s.rd R.SEQ_UNRESOLVED_COUNT + 1) % 2 ^ 32 ∧
    (∀ n : Fin 2, ((s.replayEffect 6).sq n).priority = true ∧ (s.replayEffect 6).sqState n = s.sqState n) := by
  have heq : s.replayEffect 6 = ((s.inc R.SEQ_UNRESOLVED_COUNT).priorityCycle 0).priorityCycle 1 := rfl
  have hstate (n : Nat) : (s.inc R.SEQ_UNRESOLVED_COUNT).sqState n = s.sqState n := sqState_congr (inc_word s _ _ (by decide)) n
  rw [heq]
  refine ⟨?_, fun n => ⟨?_, by rw [priorityCycle_state, priorityCycle_state, hstate]⟩⟩
  · rw [(priorityCycle_keeps _ 1).rd _ rfl, (priorityCycle_keeps _ 0).rd _ rfl, rd_inc _ _ rfl]
  · match n with
    | 0 =>
      have hkept : (((s.inc R.SEQ_UNRESOLVED_COUNT).priorityCycle 0).priorityCycle 1).sq 0 = ((s.inc R.SEQ_UNRESOLVED_COUNT).priorityCycle 0).sq 0 := by
        rw [State.priorityCycle, sq_wr, sq_onSq, if_neg (by decide)]
      exact (congrArg Seq.priority hkept).trans (priorityCycle_shows _ 0).2
    | 1 => exact (priorityCycle_shows _ 1).2

end Sys2Proof.Machine
end

section
/-! PROOFS. REPLAY, SLICE, OVERLAP_END and RECOVERY_CYCLE (R390 to R399). -/

namespace Sys2Proof.Machine

variable {s t u : State} {E : State → State} {W : Nat → Bool}

theorem latch_sq (s : State) (n : Nat) : s.latch.sq n = s.sq n := by simp only [State.sq, latch_frame]

theorem latch_sqState (s : State) (n : Nat) : s.latch.sqState n = s.sqState n := sqState_congr (latch_word s _) n

theorem latch_sqForms (s : State) (n : Nat) : s.latch.sqForms n = s.sqForms n := sqForms_congr n (latch_word s _)

theorem latch_stop (s : State) : s.latch.stop = s.stop := by simp only [latch_frame]

/-! ## Replay (R390) -/

theorem replayed_strikes (s : State) (x : Mismatch) (code : Nat) (n : Fin 2) :
    (s.replayed x code).rd (R.SQ_STRIKES_COUNT n) = s.rd (R.SQ_STRIKES_COUNT n) := by
  refine rd_congr _ _ _ (replayed_word s x code ?_)
  match n with
  | 0 => rfl
  | 1 => rfl

theorem replayed_sq (s : State) (x : Mismatch) (code n : Nat) : (s.replayed x code).sq n = s.sq n := by
  rw [State.sq, (replayed_same s x code).1, State.sq]

theorem replayed_state (s : State) (x : Mismatch) (code n : Nat) : (s.replayed x code).sqState n = s.sqState n :=
  sqState_congr (replayed_word s x code rfl) n

theorem replayed_forms (s : State) (x : Mismatch) (code n : Nat) : (s.replayed x code).sqForms n = s.sqForms n :=
  sqForms_of_state (replayed_state s x code n)

/-- The state less what a replay may change beside what is noticed. -/
def sansReplay (u : State) : State := { sansDuo u with mismatches := [] }

theorem eq_of_sansReplay (h : sansReplay t.unnoticed = sansReplay s.unnoticed) :
    t = { s.noticed t with
      pow := { s.pow with lastBusy := t.pow.lastBusy }, pieces := t.pieces, ended := t.ended, rejects := t.rejects
      tgs := t.tgs, ring := t.ring, stop := { s.stop with active := t.stop.active }, hist := t.hist, evid := t.evid
      seqs := t.seqs, mismatches := t.mismatches, verify := t.verify } :=
  calc
    t = { (sansReplay t.unnoticed).noticed t with
      pow := { (sansReplay t.unnoticed).pow with lastBusy := t.pow.lastBusy }, pieces := t.pieces, ended := t.ended
      rejects := t.rejects, tgs := t.tgs, ring := t.ring
      stop := { (sansReplay t.unnoticed).stop with active := t.stop.active }, hist := t.hist, evid := t.evid
      seqs := t.seqs, mismatches := t.mismatches, verify := t.verify } := rfl
    _ = _ := by rw [h]; rfl

theorem erased_keeps (s : State) (x : Mismatch) : Keeps sansReplay W s { s with mismatches := s.mismatches.erase x } :=
  (Keeps.refl s).update rfl rfl

theorem mismatches_of_duo (h : Keeps sansDuo W s t) : t.mismatches = s.mismatches := (congrArg State.mismatches h.1 :)

theorem exec_replay {lane : Fin 16} {ra rb : Word} {x : Mismatch} (hon : s.coreOn = true) (h0 : s.sqForms 0 = true) (h1 : s.sqForms 1 = true)
    (hx : s.nextReplay = some x) (hlane : x.lane = lane) :
    exec (.replay lane ra rb) s = .next ((s.replayed x (replayCode x.a x.b ra.toNat rb.toNat)).replayEffect
      (replayCode x.a x.b ra.toNat rb.toNat)).latch := by
  show execReplay lane ra rb s = _
  rw [execReplay, if_pos hon, hx]
  show (if x.lane ≠ lane then Host.Outcome.next s else _) = _
  rw [if_neg (by simp [hlane])]
  rw [if_pos ⟨h0, h1⟩]
  rfl

theorem replay_shows (s : State) (lane : Fin 16) (ra rb : Word) (x : Mismatch) (code : Nat) (hon : s.coreOn = true)
    (h0 : s.sqForms 0 = true) (h1 : s.sqForms 1 = true) (hx : s.nextReplay = some x) (hlane : x.lane = lane)
    (hcode : code = replayCode x.a x.b ra.toNat rb.toNat) :
    ∃ t, exec (.replay lane ra rb) s = .next t ∧ t.mismatches = s.mismatches.erase x ∧
      t.rd R.SEQ_LAST_MISMATCH_OUTCOME = code ∧
      (∀ n : Fin 2, code = n.val + 1 → t.rd (R.SQ_STRIKES_COUNT n) = (s.rd (R.SQ_STRIKES_COUNT n) + 1) % 2 ^ 32 ∧
        ((s.sq n).strikes = [] → t.sqForms n = true ∧ (t.sq n).priority = true ∧ t.rd (R.SQ_STATUS_DIAG n) = 1)) ∧
      (∀ n : Fin 2, code = n.val + 3 ∨ (code = n.val + 1 ∧ s.time ∈ (s.sq n).strikes) → t.sqForms n = false ∧
        t.rd R.SEQ_STATE_SOLO = 1 ∧ (s.sqState n = sqActive → t.sqState (twinOf n) = sqActive)) ∧
      (code = 5 → t.stop.active = true) ∧
      (code = 6 → t.rd R.SEQ_UNRESOLVED_COUNT = (s.rd R.SEQ_UNRESOLVED_COUNT + 1) % 2 ^ 32 ∧
        (∀ n : Fin 2, (t.sq n).priority = true ∧ t.sqState n = s.sqState n)) ∧
      t = { s.noticed t with
          pow := { s.pow with lastBusy := t.pow.lastBusy }, pieces := t.pieces, ended := t.ended, rejects := t.rejects,
          tgs := t.tgs, ring := t.ring, stop := { s.stop with active := t.stop.active }, hist := t.hist, evid := t.evid,
          seqs := t.seqs, mismatches := t.mismatches, verify := t.verify } := by
  have hrun := exec_replay (lane := lane) (ra := ra) (rb := rb) hon h0 h1 hx hlane
  have hrange := replayCode_range x.a x.b ra.toNat rb.toNat
  rw [← hcode] at hrun hrange
  have heffect := replayEffect_keeps (s.replayed x code) code
  have hforms (n : Fin 2) : s.sqForms n = true := by
    match n with
    | 0 => exact h0
    | 1 => exact h1
  have hgone {n : Fin 2} {v : State} {cause : Nat}
      (h : GaveUp v ((s.replayed x code).replayEffect code) n (if (s.replayed x code).sqState n = sqActive then sqActive
        else (s.replayed x code).sqState (other n)) cause) :
      ((s.replayed x code).replayEffect code).latch.sqForms n = false ∧ ((s.replayed x code).replayEffect code).latch.rd R.SEQ_STATE_SOLO = 1 ∧
        (s.sqState n = sqActive → ((s.replayed x code).replayEffect code).latch.sqState (twinOf n) = sqActive) := by
    rw [latch_sqForms, latch_rd, latch_sqState, twinOf_eq, h.left.twin, replayed_state]
    exact ⟨h.left.gone, h.left.solo, fun hact => if_pos hact⟩
  have hframe : Keeps sansReplay (fun _ => true) s ((s.replayed x code).replayEffect code).latch :=
    ((erased_keeps s x).trans (((replayed_keeps s x code).mono (fun _ => rfl) (by simp)).trans (heffect.mono (fun _ => rfl) (by simp)))).latch
  refine ⟨_, hrun, ?_, ?_, fun n hn => ⟨?_, fun hfirst => ?_⟩, fun n hn => ?_, fun h5 => ?_, fun h6 => ?_, eq_of_sansReplay hframe.1⟩
  · rw [latch_mismatches, mismatches_of_duo heffect, mismatches_of_keeps (replayed_keeps s x code)]
  · rw [latch_rd, heffect.rd _ (by simp), State.replayed, mismatchKnown_outcome, Nat.mod_eq_of_lt (by omega)]
  · rw [latch_rd, hn, replayEffect_strike, strike_count, replayed_strikes]
  · rw [latch_sqForms, latch_rd, latch_sq, hn, replayEffect_strike]
    obtain ⟨hkept, hpriority, hdiag⟩ := strike_first (s.replayed x (n + 1)) n (by rw [replayed_sq]; exact hfirst)
    exact ⟨hkept.trans ((replayed_forms s x _ n).trans (hforms n)), hpriority, hdiag⟩
  · rcases hn with hn | ⟨hn, hagain⟩
    · refine hgone (v := s.replayed x code) (cause := 3) ?_
      rw [show (s.replayed x code).replayEffect code = (s.replayed x code).giveUp n 3 by rw [← replayEffect_blame, hn]]
      exact giveUp_gaveUp _ n 3 ((replayed_forms s x _ n).trans (hforms n)) ((replayed_forms s x _ _).trans (hforms (other n)))
    · refine hgone (v := (s.replayed x code).struck n) (cause := 4) ?_
      rw [show (s.replayed x code).replayEffect code = (s.replayed x code).strike n by rw [← replayEffect_strike, hn]]
      refine strike_second _ n ?_ ((replayed_forms s x _ n).trans (hforms n)) ((replayed_forms s x _ _).trans (hforms (other n)))
      rw [replayed_sq, (replayed_same s x code).2.1]
      exact hagain
  · rw [latch_stop, h5]
    exact replayEffect_both _ ((replayed_forms s x _ 0).trans h0) ((replayed_forms s x _ 1).trans h1)
  · obtain ⟨hcount, hboth⟩ := replayEffect_none (s.replayed x 6)
    rw [latch_rd, h6, hcount, rd_congr _ _ _ (replayed_word s x 6 (a := R.SEQ_UNRESOLVED) rfl)]
    refine ⟨rfl, fun n => ?_⟩
    rw [latch_sq, latch_sqState, (hboth n).2, replayed_state]
    exact ⟨(hboth n).1, rfl⟩

end Sys2Proof.Machine
end

section
/-! PROOFS. SLICE, OVERLAP_END and RECOVERY_CYCLE (R392 to R399). -/

namespace Sys2Proof.Machine

variable {s t u : State} {E : State → State} {W : Nat → Bool}

/-! ## Slices (R392 to R394) -/

/-- A failed slice is shown and counted. -/
theorem sliceFail_keeps (s : State) (n index : Nat) :
    Keeps E (fun a => a == R.SQ_LAST_SLICE n || a == R.SQ_SLICE_FAIL n) s (s.sliceFail n index) :=
  (((Keeps.refl s).wr _ _ (by simp)).wr _ _ (by simp)).lifeAdd _ _ _

theorem sliceFail_rd (s : State) (n index : Nat) :
    (s.sliceFail n index).rd (R.SQ_SLICE_FAIL_COUNT n) = (s.rd (R.SQ_SLICE_FAIL_COUNT n) + 1) % 2 ^ 32 ∧
    (s.sliceFail n index).rd (R.SQ_LAST_SLICE_INDEX n) = index % 2 ^ 13 := by
  have hapart : R.SQ_SLICE_FAIL n ≠ R.SQ_LAST_SLICE n := by simp only [R.SQ_SLICE_FAIL, R.SQ_LAST_SLICE]; omega
  rw [State.sliceFail, lifeAdd_rd, lifeAdd_rd, rd_inc _ _ rfl, rd_wr_word _ _ _ _ hapart, State.inc, State.add,
    rd_wr_word _ _ _ _ hapart.symm, rd_wr_same _ _ _ rfl]
  exact ⟨rfl, rfl⟩

theorem sliceFail_apart (n m : Fin 2) :
    (R.SEQ_STATE == R.SQ_LAST_SLICE n || R.SEQ_STATE == R.SQ_SLICE_FAIL n) = false ∧
    (R.SQ_STATUS m == R.SQ_LAST_SLICE n || R.SQ_STATUS m == R.SQ_SLICE_FAIL n) = false ∧ leaveWord n (R.SQ_SLICE_FAIL n) = false := by
  match n, m with
  | 0, 0 => exact ⟨rfl, rfl, rfl⟩
  | 0, 1 => exact ⟨rfl, rfl, rfl⟩
  | 1, 0 => exact ⟨rfl, rfl, rfl⟩
  | 1, 1 => exact ⟨rfl, rfl, rfl⟩

theorem sliceFail_forms (s : State) (n : Fin 2) (index m : Nat) : (s.sliceFail n index).sqForms m = s.sqForms m :=
  sqForms_congr m ((sliceFail_keeps (E := id) s n index).2 _ (sliceFail_apart n 0).1)

theorem sliceFail_state (s : State) (n : Fin 2) (index m : Nat) : (s.sliceFail n index).sqState m = s.sqState m :=
  sqState_congr ((sliceFail_keeps (E := id) s n index).2 _ (sliceFail_apart n 0).1) m

theorem cyclePass_keeps (s : State) (n : Nat) : Keeps E (fun a => a == R.SQ_CYCLES n) s (s.cyclePass n) :=
  ((Keeps.refl s).wr _ _ (by simp)).lifeAdd _ _ _

theorem sliceNext_keeps (s : State) (n : Nat) : Keeps sansTwin (fun a => a == R.SQ_CYCLES n || a == R.SQ_STATUS n) s (s.sliceNext n) := by
  unfold State.sliceNext
  extract_lets q s1
  have h1 : Keeps sansTwin (fun a => a == R.SQ_CYCLES n || a == R.SQ_STATUS n) s s1 := onSq_keeps s n _
  clear_value s1
  refine .ite (onSq_keeps s n _) (.ite h1 (h1.trans (Keeps.wr ?_ _ _ (by simp))))
  exact (cyclePass_keeps s1 n).mono (fun _ => rfl) (by simp +contextual)

theorem sliceNext_state (s : State) (n : Fin 2) (m : Nat) : (s.sliceNext n).sqForms m = s.sqForms m := by
  refine sqForms_congr m ((sliceNext_keeps s n).2 _ ?_)
  match n with
  | 0 => rfl
  | 1 => rfl

/-- A failed sequencer stays marked. -/
theorem sliceNext_failed (s : State) (n : Nat) (h : (s.sq n).failed = true) : ((s.sliceNext n).sq n).failed = true := by
  unfold State.sliceNext
  extract_lets q s1
  rw [if_pos (show q.failed = true from h)]
  split
  · rw [sq_onSq, if_pos rfl]
    exact h
  · rw [sq_onSq, if_pos rfl]
    exact h

theorem stop_of_twin (h : Keeps sansTwin W s t) : t.stop = s.stop := (congrArg State.stop h.1 :)

theorem seqs_of_stop (h : Keeps sansStop W s t) : t.seqs = s.seqs := (congrArg State.seqs h.1 :)

theorem sq_of_seqs (h : t.seqs = s.seqs) (n : Nat) : t.sq n = s.sq n := by rw [State.sq, h, State.sq]

theorem sq_raise (s : State) (e : Event) (source arg n : Nat) : (s.raise e source arg).sq n = s.sq n :=
  sq_of_seqs (by simp only [raise_frame]) n

theorem seqState_apart (n : Fin 2) : (R.SEQ_STATE == R.SQ_STATUS n || plumbWord R.SEQ_STATE) = false := by
  match n with
  | 0 => rfl
  | 1 => rfl

/-- A common stop leaves the sequencers. -/
theorem failedAlone_stop (s : State) (n : Fin 2) (cause : Nat) :
    (((s.failedAlone n cause).requestStop 5).sq n).failed = true ∧ ((s.failedAlone n cause).requestStop 5).sqForms n = s.sqForms n := by
  have hW : StopWords (fun a => a != R.SEQ_STATE) := {
    high := fun a ha => by simp only [R.SEQ_STATE, bne_iff_ne]; omega
    plumb := fun a ha => by
      rw [bne_iff_ne]
      rintro rfl
      exact absurd ha (by decide)
    compare := fun k => by simp only [R.SEQ_STATE, R.CMP_STATUS, bne_iff_ne]; omega
    position := fun j => by simp only [R.SEQ_STATE, R.TG_STOP, bne_iff_ne]; omega
    cause := rfl
    demand := rfl }
  have hstop : Keeps sansStop (fun a => a != R.SEQ_STATE) (s.failedAlone n cause) ((s.failedAlone n cause).requestStop 5) := requestStop_stop hW _ 5
  have hword : (s.failedAlone n cause).word R.SEQ_STATE = s.word R.SEQ_STATE := (failedAlone_keeps s n cause).2 _ (seqState_apart n)
  refine ⟨?_, (sqForms_congr _ (hstop.2 _ rfl)).trans (sqForms_congr _ hword)⟩
  rw [sq_of_seqs (seqs_of_stop hstop), State.failedAlone, sq_raise, sq_onSq, if_pos rfl]

theorem slice_shows (s : State) (n : Fin 2) (sig ref : Word) (hday : s.pow.phase = .day) (hforms : s.sqForms n = true) :
    ∃ t, exec (.slice n sig ref) s = .next t ∧
      (sig = ref → (s.sq n).slice < 8191 → t.sq n = { s.sq n with slice := (s.sq n).slice + 1 } ∧ t.sq (twinOf n) = s.sq (twinOf n) ∧
        SameWords s t []) ∧
      (sig = ref → 8191 ≤ (s.sq n).slice → (t.sq n).slice = 0 ∧ (t.sq n).priority = false ∧ ((s.sq n).failed = false →
        t.rd (R.SQ_CYCLES_COUNT n) = (s.rd (R.SQ_CYCLES_COUNT n) + 1) % 2 ^ 32 ∧ t.rd (R.SQ_STATUS_DIAG n) = 0)) ∧
      (sig ≠ ref → s.sqForms (twinOf n) = true → t.sqForms n = false ∧ t.rd (R.SQ_STATUS_LAST_CAUSE n) = 1 ∧
        t.rd (R.SQ_SLICE_FAIL_COUNT n) = (s.rd (R.SQ_SLICE_FAIL_COUNT n) + 1) % 2 ^ 32 ∧ t.stop = s.stop) ∧
      (sig ≠ ref → s.sqForms (twinOf n) = false → t.sqForms n = true ∧ (t.sq n).failed = true ∧ t.stop.active = true) ∧
      t = { s.noticed t with
          pow := { s.pow with lastBusy := t.pow.lastBusy }, pieces := t.pieces, ended := t.ended, rejects := t.rejects,
          tgs := t.tgs, ring := t.ring, stop := { s.stop with active := t.stop.active }, hist := t.hist, evid := t.evid,
          seqs := t.seqs, verify := t.verify } := by
  let mid := s.sliceFail n (s.sq n).slice
  let u := if sig = ref then s.sliceNext n else if (mid.giveUp n 1).sqForms n = true then (mid.giveUp n 1).sliceNext n else mid.giveUp n 1
  have hrun : exec (.slice n sig ref) s = .next u.latch := by
    show execSlice n sig ref s = _
    rw [execSlice, if_neg (by simp [hday, hforms])]
    by_cases hsig : sig = ref
    · rw [if_pos hsig, show u = s.sliceNext n from if_pos hsig]
      rfl
    · rw [if_neg hsig, show u = _ from if_neg hsig]
      rfl
  have hnext (v : State) : Keeps sansDuo (fun _ => true) v (v.sliceNext n) := (sliceNext_keeps v n).mono (fun _ => rfl) (by simp)
  have hmid : Keeps sansDuo (fun _ => true) s mid := (sliceFail_keeps s n _).mono (fun _ => rfl) (by simp)
  have hgive : Keeps sansDuo (fun _ => true) s (mid.giveUp n 1) := hmid.trans ((giveUp_duo mid n 1).mono (fun _ => rfl) (by simp))
  have hframe : Keeps sansDuo (fun _ => true) s u := .ite (hnext s) (.ite (hgive.trans (hnext _)) hgive)
  have hmidforms (m : Nat) : mid.sqForms m = s.sqForms m := sliceFail_forms s n _ m
  refine ⟨_, hrun, fun hsig hslice => ?_, fun hsig hslice => ?_, fun hsig htwin => ?_, fun hsig htwin => ?_, eq_of_sansDuo hframe.latch.1⟩
  · have hu : u = s.onSq n (fun q => { q with slice := q.slice + 1 }) := (if_pos hsig).trans (if_pos hslice)
    rw [latch_sq, latch_sq, hu, sq_onSq, sq_onSq, if_pos rfl, if_neg (by rw [twinOf_eq]; exact fun h => other_ne n (Fin.ext h))]
    exact ⟨rfl, rfl, latch_sameWords fun _ _ => rfl⟩
  · let s1 := s.onSq n (fun q => { q with slice := 0, priority := false })
    have hu : u = if (s.sq n).failed = true then s1 else (s1.cyclePass n).wr (R.SQ_STATUS_DIAG n) 0 := (if_pos hsig).trans (if_neg (by omega))
    have hsq : u.sq n = { s.sq n with slice := 0, priority := false } := by
      have hs1 : s1.sq n = { s.sq n with slice := 0, priority := false } := by rw [sq_onSq, if_pos rfl]
      rw [hu]
      split
      · exact hs1
      · exact hs1
    refine ⟨by rw [latch_sq, hsq], by rw [latch_sq, hsq], fun hfailed => ?_⟩
    rw [latch_rd, latch_rd, hu, if_neg (by simp [hfailed]), rd_wr_same _ _ _ rfl,
      rd_wr_word _ _ _ _ (by simp only [R.SQ_CYCLES, R.SQ_STATUS]; omega), State.cyclePass, lifeAdd_rd, rd_inc _ _ rfl]
    exact ⟨rfl, rfl⟩
  · rw [twinOf_eq] at htwin
    have hgave := giveUp_gaveUp mid n 1 ((hmidforms n).trans hforms) ((hmidforms _).trans htwin)
    have hu : u = mid.giveUp n 1 := (if_neg hsig).trans (if_neg (by rw [hgave.left.gone]; decide))
    rw [latch_sqForms, latch_rd, latch_rd, latch_stop, hu, hgave.cause, hgave.keeps.rd _ (sliceFail_apart n 0).2.2, (sliceFail_rd s n _).1,
      stop_of_twin hgave.keeps, stop_of_twin (sliceFail_keeps s n _)]
    exact ⟨hgave.left.gone, rfl, rfl, rfl⟩
  · rw [twinOf_eq] at htwin
    have hgive1 : mid.giveUp n 1 = (mid.failedAlone n 1).requestStop 5 :=
      giveUp_alone mid n 1 ((hmidforms n).trans hforms) ((hmidforms _).trans htwin)
    obtain ⟨hfailed, hstays⟩ := failedAlone_stop mid n 1
    rw [← hgive1] at hfailed hstays
    have hgoes : (mid.giveUp n 1).sqForms n = true := hstays.trans ((hmidforms n).trans hforms)
    have hu : u = (mid.giveUp n 1).sliceNext n := (if_neg hsig).trans (if_pos hgoes)
    rw [latch_sqForms, latch_sq, latch_stop, hu, sliceNext_state, stop_of_twin (sliceNext_keeps _ n)]
    refine ⟨hgoes, sliceNext_failed _ n hfailed, ?_⟩
    rw [hgive1, requestStop_active]

/-! ## OVERLAP_END (R395) -/

theorem overlapEnd_shows (s : State) (hon : s.coreOn = true) :
    ∃ t, exec .overlapEnd s = .next t ∧ t.rd R.SEQ_STATE_OVERLAP = 0 ∧
      t = { s with regs := t.regs, spans := { s.spans with leaves := t.spans.leaves } } ∧ SameWords s t [R.SEQ_STATE] := by
  have hrun : exec .overlapEnd s = .next (s.wr R.SEQ_STATE_OVERLAP 0).latch := if_pos hon
  refine ⟨_, hrun, ?_, latch_of_sansNet_out rfl rfl rfl, latch_sameWords (sameWords_wr (fun _ _ => rfl) _ _ (by simp))⟩
  rw [latch_rd, rd_wr_same _ _ _ rfl, Nat.zero_mod]

end Sys2Proof.Machine
end

section
/-! PROOFS. Hand-back and RECOVERY_CYCLE (R397 to R399). -/

namespace Sys2Proof.Machine

variable {s t u : State} {E : State → State} {W : Nat → Bool}

/-! ## What a hand-back leaves (R398) -/

/-- The words of the sequencers' states. -/
def joinWord (a : Nat) : Bool :=
  a == R.SEQ_STATE || a == R.SEQ_HANDBACKS || (decide (0x60100 ≤ a) && a % 64 == 0) || plumbWord a

theorem joinWord_seqWords : SeqWords joinWord where
  plumb a ha := by simp [joinWord, ha]
  state := rfl
  status n := by
    have hlo : 0x60100 ≤ R.SQ_STATUS n := by simp only [R.SQ_STATUS]; omega
    have hmod : R.SQ_STATUS n % 64 = 0 := by simp only [R.SQ_STATUS]; omega
    simp [joinWord, hlo, hmod]
  handbacks := rfl

theorem handback_keeps (s : State) : Keeps E joinWord s s.handback := by
  have hdrop : Keeps E joinWord s s.dropHandback := ((Keeps.refl s).wr _ _ rfl).wr _ _ rfl
  have hpend : Keeps E joinWord s (s.wr R.SEQ_STATE_HANDBACK_PEND 1) := (Keeps.refl s).wr _ _ rfl
  exact .ite (hpend.trans (takeBars_keeps joinWord_seqWords _ _)) (.ite hdrop (.refl s))

/-- What is true of a state of a sequencer that forms lines or not, and of its count of failed cycles, as the hand-back goes on. -/
structure Joined (s t : State) (n : Fin 2) : Prop where
  forms : s.sqForms n = true → t.sqForms n = true
  rfail : t.rd (R.SQ_STATUS_RFAIL n) = s.rd (R.SQ_STATUS_RFAIL n)

namespace Joined

variable {n : Fin 2}

theorem refl (s : State) : Joined s s n := ⟨id, rfl⟩

theorem trans (h : Joined s t n) (h' : Joined t u n) : Joined s u n := ⟨fun hs => h'.forms (h.forms hs), h'.rfail.trans h.rfail⟩

theorem keeps (h : Joined s t n) (hk : Keeps E W t u) (hstate : W R.SEQ_STATE = false) (hstatus : W (R.SQ_STATUS n) = false) : Joined s u n :=
  ⟨fun hs => (sqForms_congr _ (hk.2 _ hstate)).trans (h.forms hs), (hk.rd _ hstatus).trans h.rfail⟩

/-- A write above the two states, beside the count. -/
theorem wr (h : Joined s t n) (f : Field) (v : Nat) (hlo : 6 ≤ f.lo) (hw : f.addr ≠ R.SQ_STATUS n) : Joined s (t.wr f v) n :=
  ⟨fun hs => (sqForms_of_state (sqState_wr _ _ _ _ hlo)).trans (h.forms hs), (rd_wr_word _ _ _ _ hw.symm).trans h.rfail⟩

theorem status (h : Joined s t n) (f : Field) (v : Nat) (m : Nat) (hf : f.addr = R.SQ_STATUS m) (hapart : f.lo + f.width ≤ 8) :
    Joined s (t.wr f v) n := by
  refine ⟨fun hs => (sqForms_congr _ (word_wr_ne _ _ _ _ ?_)).trans (h.forms hs),
    (rd_wr_apart _ _ _ _ rfl (apart_of_bits (.inl hapart))).trans h.rfail⟩
  rw [hf]
  simp only [R.SEQ_STATE, R.SQ_STATUS]
  omega

theorem setSq (h : Joined s t n) (m : Fin 2) {st : Nat} (hst : st = sqActive ∨ st = sqStandby) : Joined s (t.setSq m st) n := by
  refine ⟨fun hs => ?_, ?_⟩
  · rw [sqForms_code, setSq_state]
    split
    · rcases hst with rfl | rfl <;> rfl
    · exact h.forms hs
  · have hk : Keeps id (fun a => a == R.SEQ_STATE) t (t.setSq m st) := setSq_keeps (by simp) t m st
    refine (hk.rd _ ?_).trans h.rfail
    match n with
    | 0 => rfl
    | 1 => rfl

theorem takeControl (h : Joined s t n) (m : Fin 2) : Joined s (t.takeControl m) n :=
  ((((h.setSq m (.inl rfl)).wr _ _ (by decide) (by simp only [R.SEQ_STATE, R.SQ_STATUS]; omega)).status _ _ m rfl (by simp))).status _ _ m rfl
    (by simp)

theorem dropHandback (h : Joined s t n) : Joined s t.dropHandback n :=
  (h.wr _ _ (by decide) (by simp only [R.SEQ_STATE, R.SQ_STATUS]; omega)).wr _ _ (by decide) (by simp only [R.SEQ_STATE, R.SQ_STATUS]; omega)

end Joined

theorem handbacks_apart (n : Fin 2) :
    (R.SEQ_STATE == R.SEQ_HANDBACKS || plumbWord R.SEQ_STATE) = false ∧ (R.SQ_STATUS n == R.SEQ_HANDBACKS || plumbWord (R.SQ_STATUS n)) = false := by
  match n with
  | 0 => exact ⟨rfl, rfl⟩
  | 1 => exact ⟨rfl, rfl⟩

theorem handbackDone_joined (s : State) (n : Fin 2) : Joined s s.handbackDone n := by
  have hdone (p : Fin 2) : Joined s ((((s.setSq (twinOf p) sqStandby).wr (R.SQ_STATUS_DONE (twinOf p)) 1).wr (R.SQ_STATUS_ABORTED (twinOf p)) 0).takeControl
      p).dropHandback n := by
    rw [twinOf_eq]
    exact ((((Joined.refl s).setSq (other p) (.inr rfl)).status _ _ _ rfl (by simp)).status _ _ _ rfl (by simp)).takeControl p |>.dropHandback
  have hrest (v : State) (p : Nat) : Keeps id (fun a => a == R.SEQ_HANDBACKS || plumbWord a) v
      (((v.inc R.SEQ_HANDBACKS_COUNT).lifeAdd 0x0F4 4 1).raise Ev.HANDBACK p) :=
    (((Keeps.refl v).wr _ _ (by simp)).lifeAdd _ _ _).raise (by simp +contextual) _ _ _
  exact (hdone ⟨s.rd R.SEQ_CFG_PREF, rd_lt s R.SEQ_CFG_PREF⟩).keeps (hrest _ _) (handbacks_apart n).1 (handbacks_apart n).2

theorem takeBars_joined (s : State) (mask : Nat) (n : Fin 2) : Joined s (s.takeBars mask) n := by
  unfold State.takeBars
  extract_lets m s1
  have h1 : Joined s s1 n := (Joined.refl s).wr _ _ (by decide) (by simp only [R.SEQ_STATE, R.SQ_STATUS]; omega)
  clear_value s1
  split
  · split
    · exact h1.trans (handbackDone_joined s1 n)
    · exact h1
  · exact .refl s

/-- A hand-back leaves each sequencer that forms lines forming, and the counts of failed cycles. -/
theorem handback_joined (s : State) (n : Fin 2) : Joined s s.handback n := by
  unfold State.handback
  split
  · exact ((Joined.refl s).wr _ _ (by decide) (by simp only [R.SEQ_STATE, R.SQ_STATUS]; omega)).trans (takeBars_joined _ _ n)
  · split
    · exact (Joined.refl s).dropHandback
    · exact .refl s

/-! ## Recovery cycles (R397, R399) -/

/-- The next recovery cycle begins now. -/
def State.cycleBegun (s : State) (n : Nat) : State := s.onSq n (fun q => { q with cycleFrom := s.time })

/-- A clean cycle is counted. -/
def State.cleanCycle (s : State) (n : Nat) : State := ((s.cycleBegun n).cyclePass n).wr (R.SQ_STATUS_CLEAN n) (min 3 (s.rd (R.SQ_STATUS_CLEAN n) + 1))

/-- A failed cycle is shown and counted. -/
def State.failedCycle (s : State) (n index : Nat) : State :=
  (((s.cycleBegun n).sliceFail n index).wr (R.SQ_STATUS_CLEAN n) 0).addSat (R.SQ_STATUS_RFAIL n) 1

theorem exec_recoveryCycle {n : Fin 2} {pass : Bool} {index : BitVec 13} (hday : s.pow.phase = .day) (hout : s.sqState n = sqOut)
    (hjoining : (s.sq n).joining = false) (hdue : (s.sq n).cycleFrom + 64 * (if pass then 8192 else index.toNat + 1) ≤ s.time) :
    exec (.recoveryCycle n pass index) s = if pass then
      (if 3 ≤ s.rd (R.SQ_STATUS_CLEAN n) + 1 then ((s.cleanCycle n).wr (R.SQ_STATUS_RFAIL n) 0).joinSq n else s.cleanCycle n).done
    else (if s.rd R.SEQ_LIMITS_RECOVER_MAX ≤ (s.failedCycle n index.toNat).rd (R.SQ_STATUS_RFAIL n)
      then (s.failedCycle n index.toNat).retireSq n else s.failedCycle n index.toNat).done := by
  show execRecoveryCycle n pass index s = _
  rw [execRecoveryCycle, if_neg]
  · rfl
  · simp [hday, hout, hjoining]
    simpa using hdue

/-- The state less the sequencers. -/
def sansSeqs (u : State) : State := { u with seqs := [] }

theorem eq_of_sansSeqs (h : sansSeqs t.unnoticed = sansSeqs s.unnoticed) : t = { s.noticed t with seqs := t.seqs } :=
  calc
    t = { (sansSeqs t.unnoticed).noticed t with seqs := t.seqs } := rfl
    _ = _ := by rw [h]; rfl

theorem cycleBegun_keeps (s : State) (n : Nat) : Keeps sansSeqs W s (s.cycleBegun n) := (Keeps.refl s).update rfl rfl

theorem cycleBegun_from (s : State) (n : Nat) : ((s.cycleBegun n).sq n).cycleFrom = s.time := by
  rw [State.cycleBegun, sq_onSq, if_pos rfl]

theorem cleanCycle_keeps (s : State) (n : Nat) : Keeps sansSeqs (fun a => a == R.SQ_CYCLES n || a == R.SQ_STATUS n) s (s.cleanCycle n) :=
  ((cycleBegun_keeps s n).trans ((cyclePass_keeps _ n).mono (fun _ => rfl) (by simp +contextual))).wr _ _ (by simp)

theorem failedCycle_keeps (s : State) (n index : Nat) :
    Keeps sansSeqs (fun a => a == R.SQ_LAST_SLICE n || a == R.SQ_SLICE_FAIL n || a == R.SQ_STATUS n) s (s.failedCycle n index) :=
  (((cycleBegun_keeps s n).trans ((sliceFail_keeps _ n index).mono (fun _ => rfl) (by simp +contextual))).wr _ _ (by simp)).wr _ _ (by simp)

theorem seqs_of_keeps (h : Keeps id W s t) : t.seqs = s.seqs := (congrArg State.seqs h.1 :)

theorem cleanCycle_from (s : State) (n : Nat) : ((s.cleanCycle n).sq n).cycleFrom = s.time := by
  rw [State.cleanCycle, sq_wr, sq_of_seqs (seqs_of_keeps (cyclePass_keeps _ n)), cycleBegun_from]

theorem failedCycle_from (s : State) (n index : Nat) : ((s.failedCycle n index).sq n).cycleFrom = s.time := by
  rw [State.failedCycle, State.addSat, sq_wr, sq_wr, sq_of_seqs (seqs_of_keeps (sliceFail_keeps _ n index)), cycleBegun_from]

theorem cleanCycle_rd (s : State) (n : Nat) : (s.cleanCycle n).rd (R.SQ_CYCLES_COUNT n) = (s.rd (R.SQ_CYCLES_COUNT n) + 1) % 2 ^ 32 ∧
    (s.cleanCycle n).rd (R.SQ_STATUS_CLEAN n) = min 3 (s.rd (R.SQ_STATUS_CLEAN n) + 1) := by
  refine ⟨?_, (rd_wr_same _ _ _ rfl).trans (Nat.mod_eq_of_lt ?_)⟩
  · rw [State.cleanCycle, rd_wr_word _ _ _ _ (by simp only [R.SQ_CYCLES, R.SQ_STATUS]; omega), State.cyclePass, lifeAdd_rd, rd_inc _ _ rfl,
      State.cycleBegun, onSq_rd]
  · show min 3 _ < 4
    omega

theorem failedCycle_rd (s : State) (n index : Nat) : (s.failedCycle n index).rd (R.SQ_STATUS_CLEAN n) = 0 ∧
    (s.failedCycle n index).rd (R.SQ_LAST_SLICE_INDEX n) = index % 2 ^ 13 ∧
    (s.failedCycle n index).rd (R.SQ_STATUS_RFAIL n) = min 255 (s.rd (R.SQ_STATUS_RFAIL n) + 1) := by
  have hapart : R.SQ_LAST_SLICE n ≠ R.SQ_STATUS n := by simp only [R.SQ_LAST_SLICE, R.SQ_STATUS]; omega
  have hword : ((s.cycleBegun n).sliceFail n index).word (R.SQ_STATUS n) = s.word (R.SQ_STATUS n) :=
    (sliceFail_keeps (E := id) _ n index).2 _ (by
      simp only [R.SQ_LAST_SLICE, R.SQ_STATUS, R.SQ_SLICE_FAIL, Bool.or_eq_false_iff, beq_eq_false_iff_ne]
      omega)
  have hrfail : (((s.cycleBegun n).sliceFail n index).wr (R.SQ_STATUS_CLEAN n) 0).rd (R.SQ_STATUS_RFAIL n) = s.rd (R.SQ_STATUS_RFAIL n) :=
    (rd_wr_apart _ _ _ _ rfl (apart_of_bits (by simp))).trans (rd_congr _ _ _ hword)
  refine ⟨?_, ?_, ?_⟩
  · rw [State.failedCycle, State.addSat, rd_wr_apart _ _ _ _ rfl (apart_of_bits (by simp)), rd_wr_same _ _ _ rfl, Nat.zero_mod]
  · rw [State.failedCycle, State.addSat, rd_wr_word _ _ _ _ hapart, rd_wr_word _ _ _ _ hapart, (sliceFail_rd _ n index).2]
  · rw [State.failedCycle, addSat_rd _ _ _ rfl, hrfail]
    rfl

end Sys2Proof.Machine
end

section
/-! PROOFS. RECOVERY_CYCLE (R397, R399). -/

namespace Sys2Proof.Machine

variable {s t u : State} {E : State → State} {W : Nat → Bool}

theorem sq_setSq (s : State) (n st m : Nat) : (s.setSq n st).sq m = s.sq m := sq_of_seqs (seqs_of_keeps (setSq_keeps (W := fun _ => true) rfl s n st)) m

theorem joinSq_keeps (s : State) (n : Nat) : Keeps sansSeqs joinWord s (s.joinSq n) := by
  have hset : Keeps sansSeqs joinWord s (s.setSq n sqStandby) := setSq_keeps rfl s n sqStandby
  have hon (v : State) (f : Seq → Seq) : Keeps sansSeqs joinWord v (v.onSq n f) := (Keeps.refl v).update rfl rfl
  exact (hset.trans (hon _ _)).trans (handback_keeps _)

theorem joinSq_shows (s : State) (n : Fin 2) : (s.joinSq n).sqForms n = true ∧ (s.joinSq n).rd (R.SQ_STATUS_RFAIL n) = s.rd (R.SQ_STATUS_RFAIL n) ∧
    ((s.joinSq n).sq n).cycleFrom = (s.sq n).cycleFrom := by
  let v := (s.setSq n sqStandby).onSq n (fun q => { q with joining := false, slice := 0 })
  have hset : (s.setSq n sqStandby).sqForms n = true := by
    rw [sqForms_code, setSq_state, if_pos rfl]
    rfl
  have hstandby : v.sqForms n = true := hset
  obtain ⟨hforms, hrfail⟩ := handback_joined v n
  have hrfail' : v.rd (R.SQ_STATUS_RFAIL n) = s.rd (R.SQ_STATUS_RFAIL n) := ((Joined.refl s).setSq n (.inr rfl)).rfail
  refine ⟨hforms hstandby, hrfail.trans hrfail', ?_⟩
  have hsq : (s.joinSq n).sq n = v.sq n := sq_of_seqs (seqs_of_keeps (handback_keeps v)) n
  rw [hsq, sq_onSq, if_pos rfl, sq_setSq]

theorem cycles_apart (n : Fin 2) : joinWord (R.SQ_CYCLES n) = false ∧ (R.SEQ_STATE == R.SQ_CYCLES n || R.SEQ_STATE == R.SQ_STATUS n) = false ∧
    (R.SEQ_STATE == R.SQ_LAST_SLICE n || R.SEQ_STATE == R.SQ_SLICE_FAIL n || R.SEQ_STATE == R.SQ_STATUS n) = false ∧
    (R.SQ_STATUS n == R.SEQ_STATE || plumbWord (R.SQ_STATUS n)) = false ∧
    (R.SQ_LAST_SLICE n == R.SEQ_STATE || plumbWord (R.SQ_LAST_SLICE n)) = false := by
  match n with
  | 0 => exact ⟨rfl, rfl, rfl, rfl, rfl⟩
  | 1 => exact ⟨rfl, rfl, rfl, rfl, rfl⟩

/-- A clean cycle short of the third only counts. -/
theorem cleanCycle_shows (s : State) (n : Fin 2) (hout : s.sqState n = sqOut) (hclean : s.rd (R.SQ_STATUS_CLEAN n) < 2) :
    (s.cleanCycle n).sqState n = sqOut ∧ (s.cleanCycle n).rd (R.SQ_STATUS_CLEAN n) = s.rd (R.SQ_STATUS_CLEAN n) + 1 := by
  refine ⟨(sqState_congr ((cleanCycle_keeps s n).2 _ (cycles_apart n).2.1) n).trans hout, ?_⟩
  rw [(cleanCycle_rd s n).2]
  omega

/-- The third clean cycle rejoins. -/
def State.rejoined (s : State) (n : Nat) : State := ((s.cleanCycle n).wr (R.SQ_STATUS_RFAIL n) 0).joinSq n

theorem rejoined_shows (s : State) (n : Fin 2) : (s.rejoined n).sqForms n = true ∧ (s.rejoined n).rd (R.SQ_STATUS_RFAIL n) = 0 ∧
    ((s.rejoined n).sq n).cycleFrom = s.time ∧ (s.rejoined n).rd (R.SQ_CYCLES_COUNT n) = (s.rd (R.SQ_CYCLES_COUNT n) + 1) % 2 ^ 32 := by
  obtain ⟨hforms, hrfail, hfrom⟩ := joinSq_shows ((s.cleanCycle n).wr (R.SQ_STATUS_RFAIL n) 0) n
  refine ⟨hforms, ?_, ?_, ?_⟩
  · rw [State.rejoined, hrfail, rd_wr_same _ _ _ rfl, Nat.zero_mod]
  · rw [State.rejoined, hfrom, sq_wr, cleanCycle_from]
  · rw [State.rejoined, (joinSq_keeps _ n).rd _ (cycles_apart n).1, rd_wr_word _ _ _ _ (by simp only [R.SQ_CYCLES, R.SQ_STATUS]; omega),
      (cleanCycle_rd s n).1]

theorem rejoined_keeps (s : State) (n : Nat) : Keeps sansSeqs (fun _ => true) s (s.rejoined n) :=
  (((cleanCycle_keeps s n).mono (fun _ => rfl) (by simp)).wr _ _ rfl).trans ((joinSq_keeps _ n).mono (fun _ => rfl) (by simp))

/-- A failed cycle retires the sequencer, or leaves it out. -/
def State.cycleFailed (s : State) (n index : Nat) : State :=
  if s.rd R.SEQ_LIMITS_RECOVER_MAX ≤ (s.failedCycle n index).rd (R.SQ_STATUS_RFAIL n) then (s.failedCycle n index).retireSq n
  else s.failedCycle n index

theorem retireSq_state (s : State) (n : Fin 2) : (s.retireSq n).sqState n = sqRetired := by
  have hrest : Keeps id plumbWord (s.setSq n sqRetired) (s.retireSq n) := ((Keeps.refl _).lifeAdd _ _ _).condOn plumb_self _ _ _
  exact (sqState_congr (hrest.2 _ rfl) n).trans ((setSq_state _ _ _ _).trans (if_pos rfl))

theorem cycleFailed_shows (s : State) (n : Fin 2) (index : Nat) (hout : s.sqState n = sqOut) :
    (s.cycleFailed n index).rd (R.SQ_STATUS_CLEAN n) = 0 ∧ (s.cycleFailed n index).rd (R.SQ_LAST_SLICE_INDEX n) = index % 2 ^ 13 ∧
    (s.cycleFailed n index).rd (R.SQ_STATUS_RFAIL n) = min 255 (s.rd (R.SQ_STATUS_RFAIL n) + 1) ∧
    (s.cycleFailed n index).sqState n = (if s.rd R.SEQ_LIMITS_RECOVER_MAX ≤ (s.cycleFailed n index).rd (R.SQ_STATUS_RFAIL n)
      then sqRetired else sqOut) ∧ ((s.cycleFailed n index).sq n).cycleFrom = s.time := by
  obtain ⟨-, -, hstate, hstatus, hlast⟩ := cycles_apart n
  obtain ⟨hclean, hindex, hrfail⟩ := failedCycle_rd s n index
  have hretire : Keeps id (fun a => a == R.SEQ_STATE || plumbWord a) (s.failedCycle n index) ((s.failedCycle n index).retireSq n) :=
    retireSq_keeps (by simp +contextual) (by simp) _ n
  unfold State.cycleFailed
  split
  · next h =>
    rw [hretire.rd _ hstatus, hretire.rd _ hlast, hretire.rd _ hstatus, if_pos h, retireSq_state, sq_of_seqs (seqs_of_keeps hretire)]
    exact ⟨hclean, hindex, hrfail, rfl, failedCycle_from s n index⟩
  · rw [sqState_congr ((failedCycle_keeps s n index).2 _ hstate)]
    exact ⟨hclean, hindex, hrfail, hout, failedCycle_from s n index⟩

theorem cycleFailed_keeps (s : State) (n index : Nat) : Keeps sansSeqs (fun _ => true) s (s.cycleFailed n index) := by
  have hfailed : Keeps sansSeqs (fun _ => true) s (s.failedCycle n index) := (failedCycle_keeps s n index).mono (fun _ => rfl) (by simp)
  exact .ite (hfailed.trans (retireSq_keeps (fun _ _ => rfl) rfl _ n)) hfailed

theorem recoveryCycle_shows (s : State) (n : Fin 2) (pass : Bool) (index : BitVec 13) (hday : s.pow.phase = .day) (hout : s.sqState n = sqOut)
    (hjoining : (s.sq n).joining = false) (hdue : (s.sq n).cycleFrom + 64 * (if pass then 8192 else index.toNat + 1) ≤ s.time) :
    ∃ t, exec (.recoveryCycle n pass index) s = .next t ∧ (t.sq n).cycleFrom = s.time ∧
      (pass = true → t.rd (R.SQ_CYCLES_COUNT n) = (s.rd (R.SQ_CYCLES_COUNT n) + 1) % 2 ^ 32 ∧
        (s.rd (R.SQ_STATUS_CLEAN n) < 2 → t.sqState n = sqOut ∧ t.rd (R.SQ_STATUS_CLEAN n) = s.rd (R.SQ_STATUS_CLEAN n) + 1) ∧
        (2 ≤ s.rd (R.SQ_STATUS_CLEAN n) → t.sqForms n = true ∧ t.rd (R.SQ_STATUS_RFAIL n) = 0)) ∧
      (pass = false → t.rd (R.SQ_STATUS_CLEAN n) = 0 ∧ t.rd (R.SQ_LAST_SLICE_INDEX n) = index.toNat ∧
        t.rd (R.SQ_STATUS_RFAIL n) = min 255 (s.rd (R.SQ_STATUS_RFAIL n) + 1) ∧
        t.sqState n = if s.rd R.SEQ_LIMITS_RECOVER_MAX ≤ t.rd (R.SQ_STATUS_RFAIL n) then sqRetired else sqOut) ∧
      t = { s.noticed t with seqs := t.seqs } := by
  have hrun := exec_recoveryCycle hday hout hjoining hdue
  cases pass with
  | true =>
    by_cases hclean : s.rd (R.SQ_STATUS_CLEAN n) < 2
    · obtain ⟨hstate, hcount⟩ := cleanCycle_shows s n hout hclean
      have hk : Keeps sansSeqs (fun _ => true) s (s.cleanCycle n) := (cleanCycle_keeps s n).mono (fun _ => rfl) (by simp)
      refine ⟨(s.cleanCycle n).latch, hrun.trans (congrArg State.done (if_neg (by omega))), ?_, fun _ => ⟨?_, fun _ => ⟨?_, ?_⟩, fun h =>
        absurd h (by omega)⟩, fun h => absurd h (by decide), eq_of_sansSeqs hk.latch.1⟩
      · rw [latch_sq, cleanCycle_from]
      · rw [latch_rd, (cleanCycle_rd s n).1]
      · rw [latch_sqState, hstate]
      · rw [latch_rd, hcount]
    · obtain ⟨hforms, hrfail, hfrom, hcycles⟩ := rejoined_shows s n
      refine ⟨(s.rejoined n).latch, hrun.trans (congrArg State.done (if_pos (by omega))), ?_, fun _ => ⟨?_, fun h => absurd h hclean, fun _ =>
        ⟨?_, ?_⟩⟩, fun h => absurd h (by decide), eq_of_sansSeqs (rejoined_keeps s n).latch.1⟩
      · rw [latch_sq, hfrom]
      · rw [latch_rd, hcycles]
      · rw [latch_sqForms, hforms]
      · rw [latch_rd, hrfail]
  | false =>
    obtain ⟨hclean, hindex, hrfail, hstate, hfrom⟩ := cycleFailed_shows s n index.toNat hout
    refine ⟨(s.cycleFailed n index.toNat).latch, hrun, ?_, fun h => absurd h (by decide), fun _ => ?_,
      eq_of_sansSeqs (cycleFailed_keeps s n index.toNat).latch.1⟩
    · rw [latch_sq, hfrom]
    · rw [latch_rd, latch_rd, latch_rd, latch_sqState]
      exact ⟨hclean, hindex.trans (Nat.mod_eq_of_lt index.isLt), hrfail, hstate⟩

end Sys2Proof.Machine
end

section
/-! PROOFS. The memory controller at work: scrubbing and ageing (R413 to R416). -/

namespace Sys2Proof.Machine

variable {s t u : State} {E : State → State} {W : Nat → Bool}

/-! ## A correction (R414 to R417) -/

/-- The state less what errors of the memories may change beside what is noticed: the tables of corrections, the remaps, the words that are
bad, wait or are withdrawn, and a common stop. -/
def sansCes (u : State) : State :=
  { u with
    pow := { u.pow with lastBusy := 0 }, pieces := [], ended := [], rejects := [], tgs := [], ring := []
    stop := { u.stop with active := false, faults := [] }
    mem := { u.mem with bad := [], ces := [], hbmMap := [], sramMap := [], waiting := [], withdrawn := [] }
    evid := [], verify := [] }

theorem eq_of_sansCes (h : sansCes t.unnoticed = sansCes s.unnoticed) :
    t = { s.noticed t with
      pow := { s.pow with lastBusy := t.pow.lastBusy }, pieces := t.pieces, ended := t.ended, rejects := t.rejects
      tgs := t.tgs, ring := t.ring, stop := { s.stop with active := t.stop.active, faults := t.stop.faults }
      mem := { s.mem with
        bad := t.mem.bad, ces := t.mem.ces, hbmMap := t.mem.hbmMap, sramMap := t.mem.sramMap, waiting := t.mem.waiting
        withdrawn := t.mem.withdrawn }
      evid := t.evid, verify := t.verify } :=
  calc
    t = { (sansCes t.unnoticed).noticed t with
      pow := { (sansCes t.unnoticed).pow with lastBusy := t.pow.lastBusy }, pieces := t.pieces, ended := t.ended
      rejects := t.rejects, tgs := t.tgs, ring := t.ring
      stop := { (sansCes t.unnoticed).stop with active := t.stop.active, faults := t.stop.faults }
      mem := { (sansCes t.unnoticed).mem with
        bad := t.mem.bad, ces := t.mem.ces, hbmMap := t.mem.hbmMap, sramMap := t.mem.sramMap, waiting := t.mem.waiting
        withdrawn := t.mem.withdrawn }
      evid := t.evid, verify := t.verify } := rfl
    _ = _ := by rw [h]; rfl

/-- The words a correction of a class may write beside its own count. -/
def remapWord (c a : Nat) : Bool := a == R.MEM_HARD c || a == R.MEM_CE_EVICT c || a == R.MEM_REMAP || plumbWord a

theorem remapWord_plumb {c : Nat} (a : Nat) (h : plumbWord a = true) : remapWord c a = true := by simp [remapWord, h]

theorem onCe_keeps (s : State) (c : Nat) (f : List Ce → List Ce) : Keeps sansCes W s (s.onCe c f) := (Keeps.refl s).update rfl rfl

theorem remap_keeps (hw : W R.MEM_REMAP = true) (s : State) (c : Nat) (a : Word) (bist : Bool) : Keeps sansCes W s (s.remap c a bist) := by
  have hhbm : Keeps sansCes W s { s with mem := { s.mem with hbmMap := s.mem.hbmMap ++ [(a, bist)] } } := (Keeps.refl s).update rfl rfl
  have hsram : Keeps sansCes W s { s with mem := { s.mem with sramMap := s.mem.sramMap ++ [(a, bist)] } } := (Keeps.refl s).update rfl rfl
  exact .ite ((hhbm.wr _ _ hw).lifeMax _ _) ((hsram.wr _ _ hw).lifeMax _ _)

theorem remapFull_keeps (hW : ∀ a, plumbWord a = true → W a = true) (hw : W R.MEM_REMAP = true) (s : State) (c : Nat) (a : Word) :
    Keeps sansCes W s (s.remapFull c a) := by
  unfold State.remapFull
  extract_lets w m s1 s2 flags s3
  have h1 : Keeps sansCes W s s1 := (Keeps.refl s).update rfl rfl
  clear_value s1
  have h2 : Keeps sansCes W s s2 := .ite (h1.wr _ _ hw) (h1.wr _ _ hw)
  clear_value s2
  have h3 : Keeps sansCes W s s3 := h2.update rfl rfl
  exact h3.condOn hW _ _ _

/-- The correction is counted. -/
def State.ceCounted (s : State) (c : Nat) : State := (s.inc (R.MEM_CE_COUNT c)).lifeAdd (0x100 + 16 * c) 4 1

/-- Once counted, a correction changes the tables, the remaps and their words. -/
theorem correct_rest (s : State) (c : Nat) (a : Word) (bt : Nat) : Keeps sansCes (remapWord c) (s.ceCounted c) (s.correct c a bt) := by
  have hremap (v : State) (b : Word) : Keeps sansCes (remapWord c) v (v.remap c b) := remap_keeps (by simp [remapWord]) v c b false
  have hfull (v : State) (b : Word) : Keeps sansCes (remapWord c) v (v.remapFull c b) :=
    remapFull_keeps remapWord_plumb (by simp [remapWord]) v c b
  unfold State.correct
  extract_lets s1 t more new
  change Keeps sansCes (remapWord c) s1 _
  clear_value s1
  have hmore (v : State) (h : Bool) : Keeps sansCes (remapWord c) v (more v h) := onCe_keeps _ _ _
  split
  · next e _ =>
    refine .ite (.ite ((hremap s1 a).trans (onCe_keeps _ _ _)) ((hmore s1 true).trans (hfull _ a))) ?_
    exact (((hmore s1 true).wr _ _ (by simp [remapWord])).lifeAdd _ _ _).raise remapWord_plumb _ _ _
  · split
    · exact onCe_keeps _ _ _
    · split
      · exact onCe_keeps _ _ _
      · split
        · exact .refl s1
        · next old _ =>
          refine .ite ((hremap s1 old.addr).trans (onCe_keeps _ _ _)) ?_
          exact (((Keeps.refl s1).wr _ _ (by simp [remapWord])).lifeAdd _ _ _).trans (hfull _ old.addr)

theorem ceCounted_keeps (s : State) (c : Nat) : Keeps E (fun a => a == R.MEM_CE c) s (s.ceCounted c) := ((Keeps.refl s).wr _ _ (by simp)).lifeAdd _ _ _

theorem ceCounted_rd (s : State) (c : Nat) : (s.ceCounted c).rd (R.MEM_CE_COUNT c) = (s.rd (R.MEM_CE_COUNT c) + 1) % 2 ^ 32 := by
  rw [State.ceCounted, lifeAdd_rd, rd_inc _ _ rfl]

/-! ## A scrub read (R413) -/

/-- A block or word the scrubber reads met a correction, or none. -/
def State.scrubMet (s : State) (cls : Fin 3) (ev : Option MemEv) : State :=
  s.memErrors (ev.toList.map (fun (e : MemEv) => { e with cls := cls, port := 5 }))

theorem scrubMet_none (s : State) (cls : Fin 3) : s.scrubMet cls none = s := rfl

theorem scrubMet_some (s : State) (cls : Fin 3) (e : MemEv) (h : e.uncorrectable = false) :
    s.scrubMet cls (some e) = s.correct cls e.addr e.bit.toNat := by
  show (if e.uncorrectable = true then _ else _) = _
  rw [if_neg (by simp [h])]

theorem ceWord_apart (c : Fin 3) : remapWord c (R.MEM_CE c) = false := by
  match c with
  | 0 => rfl
  | 1 => rfl
  | 2 => rfl

theorem scrubMet_count (s : State) (cls : Fin 3) (ev : Option MemEv) (h : ∀ e, ev = some e → e.uncorrectable = false) :
    (s.scrubMet cls ev).rd (R.MEM_CE_COUNT cls) = (s.rd (R.MEM_CE_COUNT cls) + b2n ev.isSome) % 2 ^ 32 := by
  cases ev with
  | none =>
    rw [scrubMet_none]
    exact (Nat.mod_eq_of_lt (rd_lt s (R.MEM_CE_COUNT cls))).symm
  | some e =>
    rw [scrubMet_some _ _ _ (h e rfl), (correct_rest s cls e.addr e.bit.toNat).rd _ (ceWord_apart cls), ceCounted_rd]
    rfl

/-- The words of a correction. -/
def correctWord (c a : Nat) : Bool := a == R.MEM_CE c || remapWord c a

theorem scrubMet_keeps (s : State) (cls : Fin 3) (ev : Option MemEv) (h : ∀ e, ev = some e → e.uncorrectable = false) :
    Keeps sansCes (correctWord cls) s (s.scrubMet cls ev) := by
  cases ev with
  | none => exact .refl s
  | some e =>
    rw [scrubMet_some _ _ _ (h e rfl)]
    exact ((ceCounted_keeps s cls).mono (fun _ => rfl) (by simp +contextual [correctWord])).trans
      ((correct_rest s cls e.addr e.bit.toNat).mono (fun _ => rfl) (by simp +contextual [correctWord]))

theorem scrubOn_keeps (s : State) (cls : Nat) (passEnd : Bool) :
    Keeps E (fun a => a == R.MEM_SCRUB_POS || a == R.MEM_HBM_PASSES || a == R.MEM_SRAM_PASSES) s (s.scrubOn cls passEnd) := by
  unfold State.scrubOn
  extract_lets p
  exact .ite (.ite (((Keeps.refl s).wr _ _ rfl).wr _ _ rfl) ((Keeps.refl s).wr _ _ rfl)) (.ite ((Keeps.refl s).wr _ _ rfl) (.refl s))

theorem scrubOn_hbm (s : State) (passEnd : Bool) :
    (s.scrubOn 0 passEnd).rd R.MEM_SCRUB_POS_BLOCK =
      (if s.rd R.MEM_SCRUB_POS_BLOCK + 1 = hbmBlocks then 0 else (s.rd R.MEM_SCRUB_POS_BLOCK + 1) % 2 ^ 28) ∧
    (s.scrubOn 0 passEnd).rd R.MEM_HBM_PASSES_COUNT =
      (s.rd R.MEM_HBM_PASSES_COUNT + b2n (s.rd R.MEM_SCRUB_POS_BLOCK + 1 == hbmBlocks)) % 2 ^ 32 := by
  unfold State.scrubOn
  rw [if_pos rfl]
  by_cases hend : s.rd R.MEM_SCRUB_POS_BLOCK + 1 = hbmBlocks
  · rw [if_pos hend, if_pos hend, beq_iff_eq.2 hend, State.inc, State.add, rd_wr_word _ _ _ _ (by decide), rd_wr_same _ _ _ rfl,
      rd_wr_same _ _ _ rfl, rd_wr_word _ _ _ _ (by decide), Nat.zero_mod]
    exact ⟨rfl, rfl⟩
  · rw [if_neg hend, if_neg hend, beq_eq_false_iff_ne.2 hend, rd_wr_same _ _ _ rfl, rd_wr_word _ _ _ _ (by decide)]
    exact ⟨rfl, (Nat.mod_eq_of_lt (rd_lt s R.MEM_HBM_PASSES_COUNT)).symm⟩

theorem scrubOn_sram (s : State) {cls : Nat} (h : cls ≠ 0) (passEnd : Bool) :
    (s.scrubOn cls passEnd).rd R.MEM_SCRUB_POS_BLOCK = s.rd R.MEM_SCRUB_POS_BLOCK ∧
    (s.scrubOn cls passEnd).rd R.MEM_SRAM_PASSES_COUNT = (s.rd R.MEM_SRAM_PASSES_COUNT + b2n passEnd) % 2 ^ 32 := by
  unfold State.scrubOn
  rw [if_neg h]
  cases passEnd
  · exact ⟨rfl, (Nat.mod_eq_of_lt (rd_lt s R.MEM_SRAM_PASSES_COUNT)).symm⟩
  · exact ⟨rd_wr_word _ _ _ _ (by decide), rd_inc _ _ rfl⟩

theorem correctWord_apart (c : Fin 3) : correctWord c R.MEM_SCRUB_POS = false ∧ correctWord c R.MEM_HBM_PASSES = false ∧
    correctWord c R.MEM_SRAM_PASSES = false := by
  match c with
  | 0 => exact ⟨rfl, rfl, rfl⟩
  | 1 => exact ⟨rfl, rfl, rfl⟩
  | 2 => exact ⟨rfl, rfl, rfl⟩

/-- Spares are withdrawn. -/
def State.sparesGone (s : State) (gone : List (Nat × Nat)) : State := { s with mem := { s.mem with withdrawn := s.mem.withdrawn ++ gone } }

theorem sparesGone_keeps (s : State) (gone : List (Nat × Nat)) : Keeps sansCes W s (s.sparesGone gone) := (Keeps.refl s).update rfl rfl

theorem sparesGone_rd (s : State) (gone : List (Nat × Nat)) (f : Field) : (s.sparesGone gone).rd f = s.rd f := rfl

theorem scrubRead_shows (s : State) (cls : Fin 3) (passEnd : Bool) (ev : Option MemEv) (spares : List (Fin 2 × Nat)) (hon : s.coreOn = true)
    (hscale : s.bgScale ≠ 0) (hev : ∀ e, ev = some e → e.uncorrectable = false) :
    ∃ t, exec (.scrubRead cls passEnd ev spares) s = .next t ∧
      t.rd (R.MEM_CE_COUNT cls) = (s.rd (R.MEM_CE_COUNT cls) + b2n ev.isSome) % 2 ^ 32 ∧
      (cls = 0 → t.rd R.MEM_SCRUB_POS_BLOCK =
          (if s.rd R.MEM_SCRUB_POS_BLOCK + 1 = hbmBlocks then 0 else (s.rd R.MEM_SCRUB_POS_BLOCK + 1) % 2 ^ 28) ∧
        t.rd R.MEM_HBM_PASSES_COUNT = (s.rd R.MEM_HBM_PASSES_COUNT + b2n (s.rd R.MEM_SCRUB_POS_BLOCK + 1 == hbmBlocks)) % 2 ^ 32) ∧
      (cls ≠ 0 → t.rd R.MEM_SCRUB_POS_BLOCK = s.rd R.MEM_SCRUB_POS_BLOCK ∧
        t.rd R.MEM_SRAM_PASSES_COUNT = (s.rd R.MEM_SRAM_PASSES_COUNT + b2n passEnd) % 2 ^ 32) ∧
      t = { s.noticed t with
          pow := { s.pow with lastBusy := t.pow.lastBusy }, pieces := t.pieces, ended := t.ended, rejects := t.rejects,
          tgs := t.tgs, ring := t.ring, stop := { s.stop with active := t.stop.active, faults := t.stop.faults },
          mem := { s.mem with
            bad := t.mem.bad, ces := t.mem.ces, hbmMap := t.mem.hbmMap, sramMap := t.mem.sramMap,
            waiting := t.mem.waiting, withdrawn := t.mem.withdrawn },
          evid := t.evid, verify := t.verify } := by
  let gone := if cls = 0 ∨ (!passEnd) = true then [] else spares.map (fun x => (x.1.val, x.2))
  let met := (s.scrubOn cls passEnd).scrubMet cls ev
  have hrun : exec (.scrubRead cls passEnd ev spares) s = .next (met.sparesGone gone).latch := by
    show execScrubRead cls passEnd ev spares s = _
    rw [execScrubRead, if_neg (by simp [hon, hscale])]
    rfl
  have hmet : Keeps sansCes (correctWord cls) (s.scrubOn cls passEnd) met := scrubMet_keeps _ cls ev hev
  have hon' := scrubOn_keeps (E := sansCes) s cls passEnd
  have hall : Keeps sansCes (fun _ => true) s (met.sparesGone gone).latch :=
    (((hon'.mono (fun _ => rfl) (by simp)).trans (hmet.mono (fun _ => rfl) (by simp))).trans (sparesGone_keeps met gone)).latch
  have hce : (R.MEM_CE cls == R.MEM_SCRUB_POS || R.MEM_CE cls == R.MEM_HBM_PASSES || R.MEM_CE cls == R.MEM_SRAM_PASSES) = false := by
    simp only [R.MEM_CE, R.MEM_SCRUB_POS, R.MEM_HBM_PASSES, R.MEM_SRAM_PASSES, Bool.or_eq_false_iff, beq_eq_false_iff_ne]
    omega
  have hrd (f : Field) (hf : correctWord cls f.addr = false) : (met.sparesGone gone).latch.rd f = (s.scrubOn cls passEnd).rd f := by
    rw [latch_rd, sparesGone_rd, hmet.rd f hf]
  obtain ⟨hpos, hhbm, hsram⟩ := correctWord_apart cls
  refine ⟨_, hrun, ?_, fun hcls => ?_, fun hcls => ?_, ?_⟩
  · rw [latch_rd, sparesGone_rd, scrubMet_count _ cls ev hev, hon'.rd _ hce]
  · rw [hrd _ hpos, hrd _ hhbm, hcls]
    exact scrubOn_hbm s passEnd
  · rw [hrd _ hpos, hrd _ hsram]
    exact scrubOn_sram s (fun h => hcls (Fin.ext h)) passEnd
  · exact eq_of_sansCes hall.1

end Sys2Proof.Machine
end

section
/-! PROOFS. Ageing, refresh, retraining pauses and row protection (R407 to R415), and the statement about the sequencers and the memory. -/

namespace Sys2Proof.Machine

variable {s t u : State} {E : State → State} {W : Nat → Bool}

theorem latch_mem (s : State) : s.latch.mem = s.mem := by simp only [latch_frame]

/-! ## Ageing (R415) -/

theorem latch_mem_eq (s : State) (m : Mem) : ({ s with mem := m } : State).latch = { s with
    spans := { s.spans with leaves := ({ s with mem := m } : State).latch.spans.leaves }, mem := m } := latch_eq_leaves _

theorem ceAge_frees (s : State) (cls : Fin 3) (k : Fin 16) (e : Ce) (hon : s.coreOn = true)
    (hfind : (s.ceTable cls).find? (fun x => x.slot == k.val && !x.hard) = some e)
    (hold : e.at_ + secTicks (3600 * s.rd R.MEM_SCRUB_CE_AGE_H) ≤ s.time) :
    ∃ t, exec (.ceAge cls k) s = .next t ∧ t.ceTable cls = (s.ceTable cls).filter (fun x => x.addr != e.addr) ∧
      (∀ c : Fin 3, c ≠ cls → t.ceTable c = s.ceTable c) ∧
      t = { s with
          spans := { s.spans with leaves := t.spans.leaves }, mem := { s.mem with ces := t.mem.ces } } := by
  have hrun : exec (.ceAge cls k) s = .next (s.onCe cls (dropCe e.addr)).latch := by
    show execCeAge cls k s = _
    rw [execCeAge, if_pos hon, hfind]
    exact if_pos hold
  have htable (c : Nat) : (s.onCe cls (dropCe e.addr)).latch.ceTable c = Sparse.get [] (Sparse.upd [] s.mem.ces cls (dropCe e.addr)) c := by
    rw [State.ceTable, latch_mem]
    rfl
  refine ⟨_, hrun, ?_, fun c hc => ?_, ?_⟩
  · rw [htable, get_upd_same]
    rfl
  · rw [htable, get_upd_ne _ _ _ _ _ fun h => hc (Fin.ext h)]
    rfl
  · refine (latch_mem_eq s _).trans ?_
    rw [latch_mem]
    rfl

/-! ## Refresh (R407, R408) -/

/-- A refresh that falls due while the bank is busy is owed, up to eight. -/
def State.refreshOwed (s : State) (k : Nat) : State := { s with mem := { s.mem with owed := Sparse.set 0 s.mem.owed k (Sparse.get 0 s.mem.owed k + 1) } }

/-- The bank makes so many refreshes and closes its row. -/
def State.refreshed (s : State) (k made : Nat) : State :=
  { s with
    mem := { s.mem with
      owed := Sparse.set 0 s.mem.owed k (Sparse.get 0 s.mem.owed k + 1 - made)
      refreshes := Sparse.upd 0 s.mem.refreshes k (· + made), openRows := Sparse.set 0 s.mem.openRows k 0 } }

theorem refresh_makes (s : State) (pc : Fin 32) (bank : Fin 16) (busy : Bool) (hon : s.coreOn = true) :
    ∃ t, exec (.refresh pc bank busy) s = .next t ∧
      Sparse.get 0 t.mem.owed (16 * pc.val + bank.val) + Sparse.get 0 t.mem.refreshes (16 * pc.val + bank.val) =
        Sparse.get 0 s.mem.owed (16 * pc.val + bank.val) + Sparse.get 0 s.mem.refreshes (16 * pc.val + bank.val) + 1 ∧
      Sparse.get 0 t.mem.owed (16 * pc.val + bank.val) ≤ 8 ∧
      (busy = false → Sparse.get 0 t.mem.owed (16 * pc.val + bank.val) = 0 ∧
        Sparse.get 0 t.mem.openRows (16 * pc.val + bank.val) = 0) ∧
      (∀ j, j ≠ 16 * pc.val + bank.val → Sparse.get 0 t.mem.owed j = Sparse.get 0 s.mem.owed j ∧
        Sparse.get 0 t.mem.refreshes j = Sparse.get 0 s.mem.refreshes j ∧ Sparse.get 0 t.mem.openRows j = Sparse.get 0 s.mem.openRows j) ∧
      t = { s with
          spans := { s.spans with leaves := t.spans.leaves },
          mem := { s.mem with openRows := t.mem.openRows, owed := t.mem.owed, refreshes := t.mem.refreshes } } := by
  generalize hk : 16 * pc.val + bank.val = k
  let owed := Sparse.get 0 s.mem.owed k + 1
  have hrun : exec (.refresh pc bank busy) s = (if busy = true ∧ owed ≤ 8 then s.refreshOwed k
      else s.refreshed k (if busy then owed - 8 else owed)).done := by
    show execRefresh pc bank busy s = _
    rw [execRefresh, if_neg (by simp [hon])]
    simp only [hk]
    split
    · rfl
    · rfl
  by_cases hwait : busy = true ∧ owed ≤ 8
  · refine ⟨(s.refreshOwed k).latch, hrun.trans (congrArg State.done (if_pos hwait)), ?_⟩
    have hmem : (s.refreshOwed k).latch.mem = { s.mem with owed := Sparse.set 0 s.mem.owed k owed } := latch_mem _
    rw [hmem]
    simp only [get_set_same]
    refine ⟨by omega, hwait.2, fun h => absurd hwait.1 (by simp [h]), fun j hj => ⟨get_set_ne _ _ _ _ _ hj, trivial, trivial⟩, latch_mem_eq s _⟩
  · refine ⟨(s.refreshed k (if busy then owed - 8 else owed)).latch, hrun.trans (congrArg State.done (if_neg hwait)), ?_⟩
    have hmem : (s.refreshed k (if busy then owed - 8 else owed)).latch.mem = { s.mem with
        owed := Sparse.set 0 s.mem.owed k (owed - if busy then owed - 8 else owed)
        refreshes := Sparse.upd 0 s.mem.refreshes k (· + if busy then owed - 8 else owed), openRows := Sparse.set 0 s.mem.openRows k 0 } :=
      latch_mem _
    rw [hmem]
    simp only [get_set_same, get_upd_same]
    refine ⟨?_, ?_, fun h => ⟨by simp [h], trivial⟩, fun j hj => ⟨get_set_ne _ _ _ _ _ hj, get_upd_ne _ _ _ _ _ hj, get_set_ne _ _ _ _ _ hj⟩,
      latch_mem_eq s _⟩
    · cases busy with
      | false => simp only [Bool.false_eq_true, if_false, owed]; omega
      | true =>
        have hmany : ¬owed ≤ 8 := fun h => hwait ⟨rfl, h⟩
        simp only [if_true, owed] at hmany ⊢
        omega
    · cases busy with
      | false => simp
      | true => simp only [if_true]; omega

/-! ## Retraining pauses (R409) -/

/-- A wait beyond the limit is counted. -/
def State.retrainLate (s : State) (late : Bool) : State := if late then s.inc R.MEM_RETRAIN_WAIT_COUNT else s

/-- A pause begins: its registers. -/
def State.retrainShown (s : State) (n : Nat) : State := ((s.inc R.MEM_RETRAINS_COUNT).wr R.MEM_RETRAIN_STAT_LAST n).wr R.MEM_RETRAIN_STAT_WAITING 0

/-- When the last pause was, from when the next is counted, and whether a wait has been counted. -/
def State.retrainNoted (s : State) (last train : Nat) (waited : Bool) : State :=
  { s with mem := { s.mem with lastRetrain := last, trainFrom := train, waited := waited } }

theorem retrainLate_keeps (s : State) (late : Bool) : SameWords s (s.retrainLate late) [R.MEM_RETRAIN_WAIT] ∧
    sansRegs (s.retrainLate late) = sansRegs s := by
  unfold State.retrainLate
  split
  · exact ⟨sameWords_wr (fun _ _ => rfl) _ _ (by simp), sansRegs_wr _ _ _⟩
  · exact ⟨fun _ _ => rfl, rfl⟩

theorem retrainShown_keeps (s : State) (n : Nat) : SameWords s (s.retrainShown n) [R.MEM_RETRAINS, R.MEM_RETRAIN_STAT] ∧
    sansRegs (s.retrainShown n) = sansRegs s :=
  ⟨sameWords_wr (sameWords_wr (sameWords_wr (fun _ _ => rfl) _ _ (by simp)) _ _ (by simp)) _ _ (by simp), rfl⟩

theorem retrainShown_rd (s : State) (n : Nat) : (s.retrainShown n).rd R.MEM_RETRAINS_COUNT = (s.rd R.MEM_RETRAINS_COUNT + 1) % 2 ^ 32 ∧
    (s.retrainShown n).rd R.MEM_RETRAIN_STAT_LAST = n % 16 ∧ (s.retrainShown n).rd R.MEM_RETRAIN_STAT_WAITING = 0 := by
  unfold State.retrainShown
  refine ⟨?_, ?_, ?_⟩
  · rw [rd_wr_word _ _ _ _ (by decide), rd_wr_word _ _ _ _ (by decide), rd_inc _ _ rfl]
  · exact (rd_wr_apart _ _ _ _ rfl rfl).trans (rd_wr_same _ _ _ rfl)
  · rw [rd_wr_same _ _ _ rfl, Nat.zero_mod]

theorem mem_of_sansRegs (h : sansRegs t = sansRegs s) : t.mem = s.mem := (congrArg State.mem h :)

theorem retrainNoted_latch (h : sansRegs t = sansRegs s) (last train : Nat) (waited : Bool) :
    (t.retrainNoted last train waited).latch = { s with
      regs := (t.retrainNoted last train waited).latch.regs
      spans := { s.spans with leaves := (t.retrainNoted last train waited).latch.spans.leaves }
      mem := { s.mem with lastRetrain := last, trainFrom := train, waited := waited } } :=
  calc
    (t.retrainNoted last train waited).latch = { sansRegs t with
      regs := t.regs, spans := { (sansRegs t).spans with leaves := (t.retrainNoted last train waited).latch.spans.leaves }
      mem := { (sansRegs t).mem with lastRetrain := last, trainFrom := train, waited := waited } } := latch_eq_leaves _
    _ = { sansRegs s with
      regs := t.regs, spans := { (sansRegs s).spans with leaves := (t.retrainNoted last train waited).latch.spans.leaves }
      mem := { (sansRegs s).mem with lastRetrain := last, trainFrom := train, waited := waited } } := by rw [h]
    _ = _ := by
      simp only [latch_frame]
      rfl

theorem retrainNoted_mem (s : State) (last train : Nat) (waited : Bool) : (s.retrainNoted last train waited).latch.mem =
    { s.mem with lastRetrain := last, trainFrom := train, waited := waited } := latch_mem _

theorem retrainNoted_rd (s : State) (last train : Nat) (waited : Bool) (f : Field) : (s.retrainNoted last train waited).latch.rd f = s.rd f :=
  latch_rd _ f

theorem retrainNoted_words {l : List Nat} (h : SameWords s t l) (last train : Nat) (waited : Bool) :
    SameWords s (t.retrainNoted last train waited).latch l := latch_sameWords h

theorem sameWords_trans {l l' k : List Nat} (h : SameWords s t l) (h' : SameWords t u l') (hl : l ⊆ k) (hl' : l' ⊆ k) : SameWords s u k :=
  fun a ha => (h' a fun hm => ha (hl' hm)).trans (h a fun hm => ha (hl hm))

theorem retrainPause_shows (s : State) (done : Bool) (form every : Nat) (hon : s.coreOn = true) (hevery : s.retrainEvery = some every)
    (hdue : s.mem.trainFrom + every ≤ s.time) :
    ∃ t, exec (.retrainPause done form) s = .next t ∧
      (s.retrainMay done form = true → t.rd R.MEM_RETRAINS_COUNT = (s.rd R.MEM_RETRAINS_COUNT + 1) % 2 ^ 32 ∧
        t.rd R.MEM_RETRAIN_STAT_LAST = s.rd R.MEM_RETRAINS_COUNT % 16 ∧ t.rd R.MEM_RETRAIN_STAT_WAITING = 0 ∧
        t.mem.lastRetrain = s.time ∧ s.mem.trainFrom ≤ t.mem.trainFrom ∧ t.mem.waited = false) ∧
      (s.retrainMay done form = false → t.rd R.MEM_RETRAINS_COUNT = s.rd R.MEM_RETRAINS_COUNT ∧
        t.rd R.MEM_RETRAIN_STAT_WAITING = 1 ∧ t.mem.trainFrom = s.mem.trainFrom ∧ t.mem.lastRetrain = s.mem.lastRetrain) ∧
      (s.mem.waited = true → t.rd R.MEM_RETRAIN_WAIT_COUNT = s.rd R.MEM_RETRAIN_WAIT_COUNT) ∧
      t = { s with
          regs := t.regs, spans := { s.spans with leaves := t.spans.leaves },
          mem := { s.mem with lastRetrain := t.mem.lastRetrain, trainFrom := t.mem.trainFrom, waited := t.mem.waited } } ∧
      SameWords s t [R.MEM_RETRAINS, R.MEM_RETRAIN_WAIT, R.MEM_RETRAIN_STAT] := by
  let due := s.mem.trainFrom + every
  let late := !s.mem.waited && decide (due + secTicks (s.rd R.MEM_RETRAIN_PERIOD_S) / 16 < s.time)
  let s1 := s.retrainLate late
  let train := if s.time < due + every then due else s.time
  let begun := (s1.retrainShown (s.rd R.MEM_RETRAINS_COUNT % 16)).retrainNoted s.time train false
  let waits := (s1.wr R.MEM_RETRAIN_STAT_WAITING 1).retrainNoted s1.mem.lastRetrain s1.mem.trainFrom (s1.mem.waited || late)
  obtain ⟨hwords, hregs⟩ := retrainLate_keeps s late
  have hmem := mem_of_sansRegs hregs
  have hrd (f : Field) (hf : f.addr ∉ [R.MEM_RETRAIN_WAIT]) : s1.rd f = s.rd f := rd_congr _ _ f (hwords _ hf)
  have hwait (h : s.mem.waited = true) : s1 = s := by
    have hlate : late = false := by simp [late, h]
    simp only [s1, State.retrainLate, hlate, Bool.false_eq_true, if_false]
  have hrun : exec (.retrainPause done form) s = (if s.retrainMay done form then begun else waits).done := by
    show execRetrainPause done form s = _
    rw [execRetrainPause, if_pos hon, hevery]
    show (if s.time < due then Host.Outcome.next s else _) = _
    rw [if_neg (by omega)]
    split
    · rfl
    · rfl
  cases hmay : s.retrainMay done form with
  | true =>
    obtain ⟨hcount, hlast, hwaiting⟩ := retrainShown_rd s1 (s.rd R.MEM_RETRAINS_COUNT % 16)
    obtain ⟨hshown, hshownregs⟩ := retrainShown_keeps s1 (s.rd R.MEM_RETRAINS_COUNT % 16)
    refine ⟨begun.latch, hrun.trans (by rw [hmay]; rfl), fun _ => ⟨?_, ?_, ?_, ?_, ?_, ?_⟩, fun h => absurd h (by decide), fun h => ?_, ?_, ?_⟩
    · rw [retrainNoted_rd, hcount, hrd _ (by decide)]
    · rw [retrainNoted_rd, hlast, Nat.mod_mod]
    · rw [retrainNoted_rd, hwaiting]
    · rw [retrainNoted_mem]
    · rw [retrainNoted_mem]
      show s.mem.trainFrom ≤ train
      simp only [train]
      split <;> omega
    · rw [retrainNoted_mem]
    · rw [retrainNoted_rd, rd_congr _ _ R.MEM_RETRAIN_WAIT_COUNT (hshown _ (by decide)), hwait h]
    · rw [retrainNoted_mem]
      exact retrainNoted_latch (hshownregs.trans hregs) _ _ _
    · exact retrainNoted_words (sameWords_trans hwords hshown (by simp) (by simp)) _ _ _
  | false =>
    have hshown : SameWords s1 (s1.wr R.MEM_RETRAIN_STAT_WAITING 1) [R.MEM_RETRAIN_STAT] := sameWords_wr (fun _ _ => rfl) _ _ (by simp)
    refine ⟨waits.latch, hrun.trans (by rw [hmay]; rfl), fun h => absurd h (by decide), fun _ => ⟨?_, ?_, ?_, ?_⟩, fun h => ?_, ?_, ?_⟩
    · rw [retrainNoted_rd, rd_wr_word _ _ _ _ (by decide), hrd _ (by decide)]
    · rw [retrainNoted_rd, rd_wr_same _ _ _ rfl]
      rfl
    · rw [retrainNoted_mem]
      exact (congrArg Mem.trainFrom hmem :)
    · rw [retrainNoted_mem]
      exact (congrArg Mem.lastRetrain hmem :)
    · rw [retrainNoted_rd, rd_wr_word _ _ _ _ (by decide), hwait h]
    · rw [retrainNoted_mem]
      exact retrainNoted_latch ((sansRegs_wr _ _ _).trans hregs) _ _ _
    · exact retrainNoted_words (sameWords_trans hwords hshown (by simp) (by simp)) _ _ _

/-! ## Row protection (R410) -/

/-- The last requester that met the limit. -/
def State.limitShown (s : State) (pc bank port req : Nat) : State :=
  (((s.wr R.MEM_ROWPROT_LAST_PC pc).wr R.MEM_ROWPROT_LAST_BANK bank).wr R.MEM_ROWPROT_LAST_PORT port).wr R.MEM_ROWPROT_LAST_REQ req

theorem limitShown_rd (s : State) (pc : Fin 32) (bank : Fin 16) (port : Fin 6) (req : BitVec 5) :
    (s.limitShown pc bank port req.toNat).rd R.MEM_ROWPROT_LAST_PC = pc.val ∧
    (s.limitShown pc bank port req.toNat).rd R.MEM_ROWPROT_LAST_BANK = bank.val ∧
    (s.limitShown pc bank port req.toNat).rd R.MEM_ROWPROT_LAST_PORT = port.val ∧
    (s.limitShown pc bank port req.toNat).rd R.MEM_ROWPROT_LAST_REQ = req.toNat := by
  unfold State.limitShown
  refine ⟨?_, ?_, ?_, ?_⟩
  · rw [rd_wr_apart _ _ _ _ rfl rfl, rd_wr_apart _ _ _ _ rfl rfl, rd_wr_apart _ _ _ _ rfl rfl, rd_wr_same _ _ _ rfl]
    exact Nat.mod_eq_of_lt pc.isLt
  · rw [rd_wr_apart _ _ _ _ rfl rfl, rd_wr_apart _ _ _ _ rfl rfl, rd_wr_same _ _ _ rfl]
    exact Nat.mod_eq_of_lt bank.isLt
  · rw [rd_wr_apart _ _ _ _ rfl rfl, rd_wr_same _ _ _ rfl]
    exact Nat.mod_eq_of_lt (Nat.lt_trans port.isLt (by decide))
  · rw [rd_wr_same _ _ _ rfl]
    exact Nat.mod_eq_of_lt req.isLt

theorem limitShown_keeps (s : State) (pc bank port req : Nat) : SameWords s (s.limitShown pc bank port req) [R.MEM_ROWPROT_LAST] ∧
    sansRegs (s.limitShown pc bank port req) = sansRegs s :=
  ⟨sameWords_wr (sameWords_wr (sameWords_wr (sameWords_wr (fun _ _ => rfl) _ _ (by simp)) _ _ (by simp)) _ _ (by simp)) _ _ (by simp),
    by rw [State.limitShown, sansRegs_wr, sansRegs_wr, sansRegs_wr, sansRegs_wr]⟩

/-- The open rows and the throttled requesters are as given, and one word is counted up. -/
def State.limited (s : State) (rows : Sparse Nat) (held : List (Nat × Nat)) (f : Field) : State :=
  ({ s with mem := { s.mem with openRows := rows, throttles := held } } : State).inc f

theorem limited_mem (s : State) (rows : Sparse Nat) (held : List (Nat × Nat)) (f : Field) :
    (s.limited rows held f).mem = { s.mem with openRows := rows, throttles := held } := rfl

theorem limited_rd (s : State) (rows : Sparse Nat) (held : List (Nat × Nat)) (f : Field) (hf : f.fits = true) :
    (s.limited rows held f).rd f = (s.rd f + 1) % 2 ^ f.width := rd_inc _ _ hf

theorem limited_other (s : State) (rows : Sparse Nat) (held : List (Nat × Nat)) (f g : Field) (h : g.addr ≠ f.addr) :
    (s.limited rows held f).rd g = s.rd g := rd_wr_word _ _ _ _ h

theorem limited_words {l : List Nat} (h : SameWords s t l) (rows : Sparse Nat) (held : List (Nat × Nat)) (f : Field) (hf : f.addr ∈ l) :
    SameWords s (t.limited rows held f) l := sameWords_wr (u := { t with mem := { t.mem with openRows := rows, throttles := held } }) h f _ hf

/-- The state less registers, open rows, throttled requesters and the draws. -/
def sansRows (u : State) : State := { u with regs := [], mem := { u.mem with openRows := [], throttles := [] }, free := 0 }

theorem latch_of_sansRows (h : sansRows u = sansRows s) :
    u.latch = { s with
      regs := u.latch.regs, spans := { s.spans with leaves := u.latch.spans.leaves }
      mem := { s.mem with openRows := u.latch.mem.openRows, throttles := u.latch.mem.throttles }, free := u.latch.free } :=
  calc
    u.latch = { u with spans := { u.spans with leaves := u.latch.spans.leaves } } := latch_eq_leaves u
    _ = { sansRows u with
      regs := u.regs, spans := { (sansRows u).spans with leaves := u.latch.spans.leaves }
      mem := { (sansRows u).mem with openRows := u.mem.openRows, throttles := u.mem.throttles }, free := u.free } := rfl
    _ = { s with
      regs := u.regs, spans := { s.spans with leaves := u.latch.spans.leaves }
      mem := { s.mem with openRows := u.mem.openRows, throttles := u.mem.throttles }, free := u.free } := by
      rw [h]; rfl
    _ = _ := by simp only [latch_frame]

theorem limited_sansRows (h : sansRegs t = sansRegs s) (rows : Sparse Nat) (held : List (Nat × Nat)) (f : Field) :
    sansRows (t.limited rows held f) = sansRows s :=
  calc
    sansRows (t.limited rows held f) = sansRows (sansRegs t) := rfl
    _ = sansRows (sansRegs s) := by rw [h]
    _ = sansRows s := rfl

theorem drawn_sansRows (s : State) : sansRows s.drawn = sansRows s := rfl

theorem drawn_mem (s : State) : s.drawn.mem = s.mem := rfl

theorem drawn_rd (s : State) (f : Field) : s.drawn.rd f = s.rd f := rfl

/-- The throttled requesters that are still held. -/
def State.heldBack (s : State) : List (Nat × Nat) := s.mem.throttles.filter (fun x => decide (s.time < x.2))

theorem exec_actLimit {pc : Fin 32} {bank : Fin 16} {row : BitVec 15} {port : Fin 6} {req : BitVec 5} (hon : s.coreOn = true)
    (hfree : s.heldBack.any (fun x => x.1 == throttleKey pc bank row.toNat port req.toNat) = false) :
    exec (.actLimit pc bank row port req) s = if port.val = 0
      then ((s.limitShown pc bank port req.toNat).limited (Sparse.set 0 s.mem.openRows (16 * pc.val + bank.val) (row.toNat + 1))
        s.mem.throttles R.MEM_NREFRESH_COUNT).done
      else ((s.limitShown pc bank port req.toNat).limited (Sparse.set 0 s.mem.openRows (16 * pc.val + bank.val) (row.toNat + 1))
        (s.heldBack ++ [(throttleKey pc bank row.toNat port req.toNat, s.time + 1 + s.draw 94 % 6400000)])
        (R.MEM_P_THROTTLES_COUNT port)).drawn.done := by
  show execActLimit pc bank row port req s = _
  rw [execActLimit]
  refine (if_neg ?_).trans ?_
  · rintro (h | h)
    · simp [hon] at h
    · exact Bool.false_ne_true (hfree.symm.trans h)
  · rfl

theorem actLimit_shows (s : State) (pc : Fin 32) (bank : Fin 16) (row : BitVec 15) (port : Fin 6) (req : BitVec 5) (key : Nat)
    (hon : s.coreOn = true) (hkey : key = throttleKey pc bank row.toNat port req.toNat)
    (hfree : ∀ x ∈ s.mem.throttles, s.time < x.2 → x.1 ≠ key) :
    ∃ t, exec (.actLimit pc bank row port req) s = .next t ∧ t.rd R.MEM_ROWPROT_LAST_PC = pc.val ∧
      t.rd R.MEM_ROWPROT_LAST_BANK = bank.val ∧ t.rd R.MEM_ROWPROT_LAST_PORT = port.val ∧ t.rd R.MEM_ROWPROT_LAST_REQ = req.toNat ∧
      (port = 0 → t.rd R.MEM_NREFRESH_COUNT = (s.rd R.MEM_NREFRESH_COUNT + 1) % 2 ^ 32 ∧ t.mem.throttles = s.mem.throttles) ∧
      (port ≠ 0 → t.rd (R.MEM_P_THROTTLES_COUNT port) = (s.rd (R.MEM_P_THROTTLES_COUNT port) + 1) % 2 ^ 32 ∧
        ∃ u, (key, u) ∈ t.mem.throttles ∧ s.time < u ∧ u ≤ s.time + 6400000) ∧
      Sparse.get 0 t.mem.openRows (16 * pc.val + bank.val) = row.toNat + 1 ∧
      t = { s with
          regs := t.regs, spans := { s.spans with leaves := t.spans.leaves },
          mem := { s.mem with openRows := t.mem.openRows, throttles := t.mem.throttles }, free := t.free } ∧
      SameWords s t [R.MEM_ROWPROT_LAST, R.MEM_NREFRESH, R.MEM_P_THROTTLES port] := by
  have hrun := exec_actLimit (s := s) (pc := pc) (bank := bank) (row := row) (port := port) (req := req) hon (by
    rw [List.any_eq_false]
    intro x hx
    obtain ⟨hmem, htime⟩ := List.mem_filter.1 hx
    rw [beq_iff_eq, ← hkey]
    exact hfree x hmem (of_decide_eq_true htime))
  rw [← hkey] at hrun
  obtain ⟨hpc, hbank, hport, hreq⟩ := limitShown_rd s pc bank port req
  obtain ⟨hwords, hregs⟩ := limitShown_keeps s pc bank port req.toNat
  have hkept (f : Field) (h : f.addr ∉ [R.MEM_ROWPROT_LAST]) : (s.limitShown pc bank port req.toNat).rd f = s.rd f := rd_congr _ _ f (hwords _ h)
  by_cases hzero : port = 0
  · let u := (s.limitShown pc bank port req.toNat).limited (Sparse.set 0 s.mem.openRows (16 * pc.val + bank.val) (row.toNat + 1))
      s.mem.throttles R.MEM_NREFRESH_COUNT
    refine ⟨u.latch, hrun.trans (if_pos (by rw [hzero]; rfl)), ?_, ?_, ?_, ?_, fun _ => ⟨?_, ?_⟩, fun h => absurd hzero h, ?_,
      latch_of_sansRows (limited_sansRows hregs _ _ _), latch_sameWords (limited_words (fun a ha => hwords a fun h => ha ?_) _ _ _ (by simp))⟩
    · rw [latch_rd, limited_other _ _ _ _ _ (by decide), hpc]
    · rw [latch_rd, limited_other _ _ _ _ _ (by decide), hbank]
    · rw [latch_rd, limited_other _ _ _ _ _ (by decide), hport]
    · rw [latch_rd, limited_other _ _ _ _ _ (by decide), hreq]
    · rw [latch_rd, limited_rd _ _ _ _ rfl, hkept _ (by decide)]
    · rw [latch_mem, limited_mem]
    · rw [latch_mem, limited_mem]
      exact get_set_same _ _ _ _
    · exact List.mem_cons.2 (.inl (List.mem_singleton.1 h))
  · have happart : R.MEM_ROWPROT_LAST ≠ R.MEM_P_THROTTLES port := by simp only [R.MEM_ROWPROT_LAST, R.MEM_P_THROTTLES]; omega
    let v := (s.limitShown pc bank port req.toNat).limited (Sparse.set 0 s.mem.openRows (16 * pc.val + bank.val) (row.toNat + 1))
      (s.heldBack ++ [(key, s.time + 1 + s.draw 94 % 6400000)]) (R.MEM_P_THROTTLES_COUNT port)
    have hmod : s.draw 94 % 6400000 < 6400000 := Nat.mod_lt _ (by decide)
    refine ⟨v.drawn.latch, hrun.trans (if_neg fun h => hzero (Fin.ext h)), ?_, ?_, ?_, ?_, fun h => absurd h hzero, fun _ => ⟨?_,
      s.time + 1 + s.draw 94 % 6400000, ?_, by omega, by omega⟩, ?_, latch_of_sansRows ((drawn_sansRows v).trans (limited_sansRows hregs _ _ _)),
      latch_sameWords (drawn_words (limited_words (fun a ha => hwords a fun h => ha ?_) _ _ _ (by simp)))⟩
    · rw [latch_rd, drawn_rd, limited_other _ _ _ _ _ happart, hpc]
    · rw [latch_rd, drawn_rd, limited_other _ _ _ _ _ happart, hbank]
    · rw [latch_rd, drawn_rd, limited_other _ _ _ _ _ happart, hport]
    · rw [latch_rd, drawn_rd, limited_other _ _ _ _ _ happart, hreq]
    · rw [latch_rd, drawn_rd, limited_rd _ _ _ _ rfl, hkept _ (by simpa using happart.symm)]
    · rw [latch_mem, drawn_mem, limited_mem]
      exact List.mem_append_right _ (List.mem_singleton_self _)
    · rw [latch_mem, drawn_mem, limited_mem]
      exact get_set_same _ _ _ _
    · exact List.mem_cons.2 (.inl (List.mem_singleton.1 h))

/-! ## The statement -/

/-- Settles O58: each clause is the lemma about its command. -/
theorem sequencersAndMemory : Obligations.SequencersAndMemory :=
  ⟨laneCrcCompare_counts, replay_shows, slice_shows, overlapEnd_shows, recoveryCycle_shows, scrubRead_shows, ceAge_frees, refresh_makes,
    retrainPause_shows, actLimit_shows⟩

/-- In Day a bank with a request at its head owes a first refresh. -/
theorem refresh_witness : ∃ t, exec (.refresh 0 0 true) dayState = .next t ∧
    Sparse.get 0 t.mem.owed 0 + Sparse.get 0 t.mem.refreshes 0 = 1 := by
  obtain ⟨t, hrun, hsum, -⟩ := refresh_makes dayState 0 0 true rfl
  exact ⟨t, hrun, hsum⟩

/-- In Day with both sequencers forming lines. -/
def twinState : State := (dayState.wr R.SEQ_STATE_SQA sqActive).wr R.SEQ_STATE_SQB sqStandby

/-- Two CRCs of a frame differ. -/
theorem laneCrcCompare_witness : ∃ t, exec (.laneCrcCompare 0 0 0 1 2 false false) twinState = .next t ∧ t.mismatches = [⟨0, 0, 0, 1, 2⟩] := by
  obtain ⟨t, hrun, -, -, -, hwaits, -⟩ :=
    laneCrcCompare_counts twinState 0 0 0 1 2 false false rfl (by decide +kernel) (by decide +kernel)
  exact ⟨t, hrun, hwaits⟩

end Sys2Proof.Machine
end

section
/-! PROOFS. Update points: how the gains of a bar move (R348 to R351). -/

namespace Sys2Proof.Machine

variable {s t u : State} {E : State → State} {W : Nat → Bool}

/-! ## What an update point may change -/

/-- The state less what the moves of an update point change beside what is noticed. -/
def sansUpdate (u : State) : State := { u with pendw := [], iron := { u.iron with limits := [], regs := [] } }

/-- The words that the gains of a bar move in. -/
def gainWord (b a : Nat) : Bool := decide (0x41000000 ≤ a) || a == R.IRON_GAINLIM || a == R.BAR_IUPD b || plumbWord a

/-- The words of the registration of a bar. -/
def regWord (b a : Nat) : Bool :=
  a == R.TG_REG b || a == R.BAR_REGSTAT b || a == R.BAR_REGERR b || a == R.BAR_REGUPD b || plumbWord a

theorem gainWord_plumb {b : Nat} (a : Nat) (h : plumbWord a = true) : gainWord b a = true := by simp [gainWord, h]

theorem regWord_plumb {b : Nat} (a : Nat) (h : plumbWord a = true) : regWord b a = true := by simp [regWord, h]

/-! ## One gain -/

theorem gainWord_table (b n : Nat) : gainWord b (ironAddr n) = true := by
  have h : 0x41000000 ≤ ironAddr n := Nat.le_add_right _ _
  simp [gainWord, h]

/-- A set of words below the Ironing table keeps the gains. -/
theorem gain_keeps (h : Keeps E W s t) (hW : ∀ a, W a = true → a < 0x41000000) (n : Nat) : t.gain n = s.gain n := by
  have hlow : W (ironAddr n) = false := Bool.eq_false_iff.2 fun hw => absurd (hW _ hw) (Nat.not_lt.2 (Nat.le_add_right _ _))
  rw [State.gain, h.2 _ hlow, State.gain]

theorem gain_setWord_other (s : State) (n m : Nat) (w : Word) (h : n ≠ m) : (s.setWord (ironAddr m) w).gain n = s.gain n := by
  have haddr : ironAddr n ≠ ironAddr m := fun he => h (by simpa [ironAddr] using he)
  rw [State.gain, word_setWord_ne _ _ _ _ haddr, State.gain]

/-- One nozzle takes a gain. -/
def State.gainTo (s : State) (n v : Nat) : State := s.setWord (ironAddr n) (BitVec.ofNat 32 (withBits (s.word (ironAddr n)).toNat 0 8 v))

theorem gainTo_same (s : State) (n v : Nat) (h : v < 256) : (s.gainTo n v).gain n = v := by
  rw [State.gain, State.gainTo, word_setWord_same, BitVec.toNat_ofNat, bits_mod _ _ _ _ (by decide), bits_withBits_same]
  exact Nat.mod_eq_of_lt h

theorem gainTo_other (s : State) (n m v : Nat) (h : n ≠ m) : (s.gainTo m v).gain n = s.gain n := gain_setWord_other s n m _ h

/-- The gain one step on, within the limits. -/
def nextGain (g : Nat) (d : Int) : Nat := (clampI 0x40 0xC0 (g + d)).toNat

/-- The gains of some nozzles one step on. -/
def State.stepGains (s : State) (d : Int) (l : List Nat) : State := l.foldl (fun (x : State) n => x.gainTo n (nextGain (x.gain n) d)) s

theorem nextGain_lt (g : Nat) (d : Int) : nextGain g d < 256 := by
  simp only [nextGain, clampI]
  omega

theorem stepGains_other (s : State) (d : Int) (l : List Nat) (n : Nat) (h : n ∉ l) : (s.stepGains d l).gain n = s.gain n := by
  induction l generalizing s with
  | nil => rfl
  | cons m l ih =>
    obtain ⟨hm, hl⟩ := not_or.1 (List.mem_cons.not.1 h)
    exact (ih _ hl).trans (gainTo_other s n m _ hm)

theorem stepGains_mem (s : State) (d : Int) (l : List Nat) (n : Nat) (h : n ∈ l) (hl : l.Nodup) :
    (s.stepGains d l).gain n = nextGain (s.gain n) d := by
  induction l generalizing s with
  | nil => exact absurd h (List.not_mem_nil)
  | cons m l ih =>
    obtain ⟨hm, hl⟩ := List.nodup_cons.1 hl
    by_cases hn : n = m
    · subst hn
      exact (stepGains_other _ d l n hm).trans (gainTo_same s n _ (nextGain_lt _ _))
    · exact (ih _ ((List.mem_cons.1 h).resolve_left hn) hl).trans (by rw [gainTo_other s n m _ hn])

theorem stepGains_keeps (s : State) (b : Nat) (d : Int) (l : List Nat) : Keeps E (gainWord b) s (s.stepGains d l) :=
  .foldl (fun t n _ => (Keeps.refl t).setWord _ _ (gainWord_table b n)) s

/-- A gain within the limits stays within, and moves by at most one step. -/
def GainStep (g g' : Nat) : Prop := 0x40 ≤ g → g ≤ 0xC0 → 0x40 ≤ g' ∧ g' ≤ 0xC0 ∧ g' ≤ g + 1 ∧ g ≤ g' + 1

theorem GainStep.refl (g : Nat) : GainStep g g := fun hlo hhi => ⟨hlo, hhi, by omega, by omega⟩

theorem nextGain_step (g : Nat) {d : Int} (h : d = 1 ∨ d = -1) : GainStep g (nextGain g d) := by
  intro hlo hhi
  simp only [nextGain, clampI]
  rcases h with rfl | rfl <;> omega

/-! ## The gains of one bin (R348, R351) -/

/-- The words of the limits. -/
def limitWord (a : Nat) : Bool := a == R.IRON_GAINLIM || plumbWord a

theorem limitWord_low (a : Nat) (h : limitWord a = true) : a < 0x41000000 := by
  simp only [limitWord, plumbWord, R.IRON_GAINLIM, R.FAULT_LATCH, R.EVT_LOST, R.NP_TX_FRAMES, R.NP_TX_DROP, Bool.or_eq_true, beq_iff_eq] at h
  omega

/-- A bin moves by one step, or not at all; then only its place at the limits follows. -/
theorem moveBin_steps (s : State) (b k : Nat) (o : Nat × Nat) (l : List Nat) :
    s.moveBin b k o l = s ∨ ∃ d, (d = 1 ∨ d = -1) ∧ Keeps sansUpdate limitWord (s.stepGains d l) (s.moveBin b k o l) := by
  unfold State.moveBin
  split
  · exact .inl rfl
  · extract_lets r m dead d s1
    split
    · exact .inl rfl
    · next hd =>
      refine .inr ⟨d, ?_, ?_⟩
      · simp only [d] at hd ⊢
        split
        · exact .inl rfl
        · next h1 =>
          split
          · exact .inr rfl
          · next h2 => exact absurd (by rw [if_neg h1, if_neg h2]) hd
      · have hs1 : s1 = s.stepGains d l := rfl
        rw [← hs1]
        clear_value s1
        refine .ite (.ite (.refl _) ?_) (.refl _)
        have hlimit : Keeps sansUpdate limitWord s1 { s1 with iron := { s1.iron with limits := s1.iron.limits ++ [(b, o.1, o.2)] } } :=
          (Keeps.refl s1).update rfl rfl
        exact (hlimit.wr _ _ rfl).raise (by simp +contextual [limitWord]) _ _ _

theorem moveBin_keeps (s : State) (b k : Nat) (o : Nat × Nat) (l : List Nat) : Keeps sansUpdate (gainWord b) s (s.moveBin b k o l) := by
  rcases moveBin_steps s b k o l with h | ⟨d, -, h⟩
  · rw [h]
    exact .refl s
  · refine (stepGains_keeps s b d l).trans (h.mono (fun _ => rfl) fun a ha => ?_)
    simp only [gainWord, Bool.or_eq_false_iff] at ha
    simp only [limitWord, Bool.or_eq_false_iff]
    exact ⟨ha.1.1.2, ha.2⟩

theorem moveBin_other (s : State) (b k : Nat) (o : Nat × Nat) (l : List Nat) (n : Nat) (h : n ∉ l) : (s.moveBin b k o l).gain n = s.gain n := by
  rcases moveBin_steps s b k o l with heq | ⟨d, -, hk⟩
  · rw [heq]
  · rw [gain_keeps hk limitWord_low, stepGains_other s d l n h]

theorem moveBin_step (s : State) (b k : Nat) (o : Nat × Nat) (l : List Nat) (n : Nat) (hl : l.Nodup) :
    GainStep (s.gain n) ((s.moveBin b k o l).gain n) := by
  by_cases h : n ∈ l
  · rcases moveBin_steps s b k o l with heq | ⟨d, hd, hk⟩
    · rw [heq]
      exact .refl _
    · rw [gain_keeps hk limitWord_low, stepGains_mem s d l n h hl]
      exact nextGain_step _ hd
  · rw [moveBin_other s b k o l n h]
    exact .refl _

/-! ## The gains of a bar -/

/-- The nozzles of a bin whose gains may move. -/
def binNozzles (owned : List ((Nat × Nat) × Nat × Bool)) (o : Nat × Nat) : List Nat := (owned.filter (fun e => e.1 == o && !e.2.2)).map (·.2.1)

/-- The gains of some bins of a bar move. -/
def State.moveBins (s : State) (b k : Nat) (owned : List ((Nat × Nat) × Nat × Bool)) (bins : List (Nat × Nat)) : State :=
  bins.foldl (fun (t : State) o => t.moveBin b k o (binNozzles owned o)) s

theorem moveGains_ink (s : State) (b : Nat) {k : Nat} (h : s.inkOf b = some k) : s.moveGains b =
    ((s.moveBins b k (s.ownedNozzles b) ((s.ownedNozzles b).map (·.1)).eraseDups).leaveLimits b k).inc (R.BAR_IUPD_COUNT b) := by
  rw [State.moveGains, h]
  rfl

theorem nodup_eraseDups {α : Type} [BEq α] [LawfulBEq α] (l : List α) : l.eraseDups.Nodup := by
  induction hn : l.length using Nat.strong_induction_on generalizing l with
  | _ n ih =>
    cases l with
    | nil => exact List.nodup_nil
    | cons a l =>
      rw [List.eraseDups_cons, List.nodup_cons]
      refine ⟨fun hmem => ?_, ih _ ?_ _ rfl⟩
      · have := List.mem_filter.1 (List.mem_eraseDups.1 hmem)
        simp at this
      · rw [← hn, List.length_cons]
        exact Nat.lt_succ_of_le (List.length_filter_le _ _)

/-- A nozzle is in one bin only. -/
theorem bin_unique {owned : List ((Nat × Nat) × Nat × Bool)} (h : (owned.map (·.2.1)).Nodup) {o p : Nat × Nat} {n : Nat}
    (ho : n ∈ binNozzles owned o) (hp : n ∈ binNozzles owned p) : o = p := by
  obtain ⟨e, he, hen⟩ := List.mem_map.1 ho
  obtain ⟨f, hf, hfn⟩ := List.mem_map.1 hp
  obtain ⟨hemem, heo⟩ := List.mem_filter.1 he
  obtain ⟨hfmem, hfp⟩ := List.mem_filter.1 hf
  have hef : e = f := List.inj_on_of_nodup_map h hemem hfmem (hen.trans hfn.symm)
  simp only [Bool.and_eq_true, beq_iff_eq] at heo hfp
  rw [← heo.1, ← hfp.1, hef]

theorem binNozzles_nodup {owned : List ((Nat × Nat) × Nat × Bool)} (h : (owned.map (·.2.1)).Nodup) (o : Nat × Nat) :
    (binNozzles owned o).Nodup := h.sublist ((List.filter_sublist).map _)

theorem moveBins_other (s : State) (b k : Nat) (owned : List ((Nat × Nat) × Nat × Bool)) (bins : List (Nat × Nat)) (n : Nat)
    (h : ∀ o ∈ bins, n ∉ binNozzles owned o) : (s.moveBins b k owned bins).gain n = s.gain n := by
  induction bins generalizing s with
  | nil => rfl
  | cons o bins ih =>
    exact (ih _ fun p hp => h p (List.mem_cons_of_mem _ hp)).trans (moveBin_other s b k o _ n (h o List.mem_cons_self))

/-- Over the bins, each once, a gain moves by at most one step. -/
theorem moveBins_step (s : State) (b k : Nat) {owned : List ((Nat × Nat) × Nat × Bool)} (h : (owned.map (·.2.1)).Nodup)
    (bins : List (Nat × Nat)) (hbins : bins.Nodup) (n : Nat) : GainStep (s.gain n) ((s.moveBins b k owned bins).gain n) := by
  induction bins generalizing s with
  | nil => exact .refl _
  | cons o bins ih =>
    obtain ⟨ho, hrest⟩ := List.nodup_cons.1 hbins
    by_cases hn : n ∈ binNozzles owned o
    · have hothers : ∀ p ∈ bins, n ∉ binNozzles owned p := fun p hp hmem => ho (bin_unique h hn hmem ▸ hp)
      have hkept : (s.moveBins b k owned (o :: bins)).gain n = (s.moveBin b k o (binNozzles owned o)).gain n := moveBins_other _ b k owned bins n hothers
      rw [hkept]
      exact moveBin_step s b k o _ n (binNozzles_nodup h o)
    · rw [← moveBin_other s b k o _ n hn]
      exact ih _ hrest

theorem moveBins_keeps (s : State) (b k : Nat) (owned : List ((Nat × Nat) × Nat × Bool)) (bins : List (Nat × Nat)) :
    Keeps sansUpdate (gainWord b) s (s.moveBins b k owned bins) := .foldl (fun t o _ => moveBin_keeps t b k o _) s

/-- The words of the count of update points. -/
theorem updated_keeps (s : State) (b : Nat) (k : Nat) :
    Keeps sansUpdate (fun a => a == R.BAR_IUPD b) s ((s.leaveLimits b k).inc (R.BAR_IUPD_COUNT b)) := by
  have h : Keeps sansUpdate (fun a => a == R.BAR_IUPD b) s (s.leaveLimits b k) := (Keeps.refl s).update rfl rfl
  exact h.wr _ _ (by simp)

theorem moveGains_keeps (s : State) (b : Nat) : Keeps sansUpdate (gainWord b) s (s.moveGains b) := by
  cases h : s.inkOf b with
  | none =>
    rw [State.moveGains, h]
    exact .refl s
  | some k =>
    rw [moveGains_ink s b h]
    exact (moveBins_keeps s b k _ _).trans ((updated_keeps _ b k).mono (fun _ => rfl) (by simp +contextual [gainWord]))

theorem moveGains_step (s : State) (b : Fin 16) (h : ((s.ownedNozzles b).map (·.2.1)).Nodup) (n : Nat) :
    GainStep (s.gain n) ((s.moveGains b).gain n) := by
  cases hink : s.inkOf b with
  | none =>
    rw [State.moveGains, hink]
    exact .refl _
  | some k =>
    rw [moveGains_ink s b hink, gain_keeps (updated_keeps _ b k) (fun a ha => by
      rw [beq_iff_eq] at ha
      simp only [ha, R.BAR_IUPD]
      omega)]
    exact moveBins_step s b k h _ (nodup_eraseDups _) n

end Sys2Proof.Machine
end

section
/-! PROOFS. Update points: registration (R355, R356), and the statement about them. -/

namespace Sys2Proof.Machine

variable {s t u : State} {E : State → State} {W : Nat → Bool}

/-! ## Registration along and across the web (R354 to R356) -/

theorem signed_unsigned {w : Nat} (hw : 0 < w) (v : Int) (hlo : -2 ^ (w - 1) ≤ v) (hhi : v < 2 ^ (w - 1)) : signed w (unsigned w v) = v := by
  obtain ⟨m, rfl⟩ : ∃ m, w = m + 1 := ⟨w - 1, by omega⟩
  simp only [Nat.add_sub_cancel] at hlo hhi
  have hpow : (2 : Int) ^ (m + 1) = 2 * 2 ^ m := by rw [pow_succ, mul_comm]
  have hlt := unsigned_lt (m + 1) v
  have hcast : ((unsigned (m + 1) v : Nat) : Int) = v % 2 ^ (m + 1) :=
    Int.toNat_of_nonneg (Int.emod_nonneg v (by positivity))
  have hpos : (0 : Int) < 2 ^ m := by positivity
  unfold signed
  rw [Nat.mod_eq_of_lt hlt, Nat.add_sub_cancel]
  by_cases hneg : v < 0
  · have hmod : v % 2 ^ (m + 1) = v + 2 ^ (m + 1) := by
      rw [← Int.add_emod_right, Int.emod_eq_of_lt (by omega) (by omega)]
    have hbig : ¬unsigned (m + 1) v < 2 ^ m := by
      zify
      rw [hcast, hmod]
      omega
    rw [if_neg hbig]
    rw [Int.emod_eq_of_lt (by omega) (by rw [hcast, hmod]; omega), hcast, hmod]
    omega
  · have hmod : v % 2 ^ (m + 1) = v := Int.emod_eq_of_lt (by omega) (by omega)
    have hsmall : unsigned (m + 1) v < 2 ^ m := by
      zify
      rw [hcast, hmod]
      exact hhi
    rw [if_pos hsmall]
    rw [Int.emod_eq_of_lt (by omega) (by rw [hcast, hmod]; omega), hcast, hmod]

/-- The sums start again, and the error along the web is no longer valid. -/
theorem restartY_keeps (s : State) (b : Nat) : Keeps sansUpdate (regWord b) s (s.restartY b) := by
  have h (f : RegSum → RegSum) : Keeps sansUpdate (regWord b) s (s.onReg b f) := (Keeps.refl s).update rfl rfl
  exact ((h _).wr _ _ (by simp [regWord])).wr _ _ (by simp [regWord])

theorem moveLat_keeps (s : State) (b : Nat) : Keeps sansUpdate (regWord b) s (s.moveLat b) := by
  unfold State.moveLat
  extract_lets e want w
  have hpend : Keeps sansUpdate (regWord b) s (s.setPend (R.BAR_LAT b) w) := (Keeps.refl s).update rfl rfl
  exact .ite (.refl s) (.ite (((Keeps.refl s).wr _ _ (by simp [regWord])).raise regWord_plumb _ _ _)
    ((hpend.wr _ _ (by simp [regWord])).wr _ _ (by simp [regWord])))

/-- REG has taken a value, its sums start again, and the move is counted. -/
def State.regMoved (s : State) (b : Nat) (v : Int) (limit : Bool) : State :=
  (((s.wrI (R.TG_REG_REG b) v).restartY b).addSat (R.BAR_REGUPD_REG b) 1).wrB (R.BAR_REGSTAT_REG_LIMIT b) limit

theorem regMoved_keeps (s : State) (b : Nat) (v : Int) (limit : Bool) : Keeps sansUpdate (regWord b) s (s.regMoved b v limit) :=
  ((((Keeps.refl s).wr _ _ (by simp [regWord])).trans (restartY_keeps _ b)).wr _ _ (by simp [regWord])).wr _ _ (by simp [regWord])

theorem moveReg_keeps (s : State) (b : Nat) : Keeps sansUpdate (regWord b) s (s.moveReg b) := by
  unfold State.moveReg
  extract_lets d want v s1
  have h1 : Keeps sansUpdate (regWord b) s s1 := regMoved_keeps s b v _
  exact .ite (.refl s) (.ite (.refl s) (.ite h1 (h1.raise regWord_plumb _ _ _)))

theorem regWord_low (b : Fin 16) (a : Nat) (h : regWord b a = true) : a < 0x41000000 := by
  simp only [regWord, plumbWord, R.TG_REG, R.BAR_REGSTAT, R.BAR_REGERR, R.BAR_REGUPD, R.FAULT_LATCH, R.EVT_LOST, R.NP_TX_FRAMES, R.NP_TX_DROP,
    Bool.or_eq_true, beq_iff_eq] at h
  omega

/-- What a move of REG shows. -/
structure RegShown (t : State) (b : Nat) (v : Int) : Prop where
  reg : t.rdI (R.TG_REG_REG b) = v
  yValid : t.rd (R.BAR_REGSTAT_Y_VALID b) = 0
  limit : t.rd (R.BAR_REGSTAT_REG_LIMIT b) = 0

theorem regMoved_shown (s : State) (b : Fin 16) (v : Int) (hlo : -4096 ≤ v) (hhi : v ≤ 4095) : RegShown (s.regMoved b v false) b v := by
  have hreg : R.TG_REG b ≠ R.BAR_REGSTAT b ∧ R.TG_REG b ≠ R.BAR_REGUPD b ∧ R.TG_REG b ≠ R.BAR_REGERR b := by
    simp only [R.TG_REG, R.BAR_REGSTAT, R.BAR_REGUPD, R.BAR_REGERR]
    omega
  have hstat : R.BAR_REGSTAT b ≠ R.BAR_REGUPD b ∧ R.BAR_REGSTAT b ≠ R.BAR_REGERR b := by
    simp only [R.BAR_REGSTAT, R.BAR_REGUPD, R.BAR_REGERR]
    omega
  unfold State.regMoved State.wrB State.addSat State.restartY
  refine ⟨?_, ?_, ?_⟩
  · rw [State.rdI, rd_wr_word _ _ _ _ hreg.1, rd_wr_word _ _ _ _ hreg.2.1, rd_wr_word _ _ _ _ hreg.2.2, rd_wr_word _ _ _ _ hreg.1]
    have hwritten : (s.wrI (R.TG_REG_REG b) v).rd (R.TG_REG_REG b) = unsigned 13 v :=
      (rd_wr_same _ _ _ rfl).trans (Nat.mod_eq_of_lt (unsigned_lt 13 v))
    exact (congrArg (signed 13) hwritten).trans (signed_unsigned (by decide) v (by omega) (by omega))
  · rw [rd_wr_apart _ _ _ _ rfl (apart_of_bits (by simp)), rd_wr_word _ _ _ _ hstat.1, rd_wr_word _ _ _ _ hstat.2, rd_wr_same _ _ _ rfl,
      Nat.zero_mod]
  · exact rd_wr_same _ _ _ rfl

/-- Registration across the web leaves what a move along it shows. -/
theorem moveLat_shown {b : Fin 16} {v : Int} (h : RegShown s b v) : RegShown (s.moveLat b) b v := by
  have happart : R.TG_REG b ≠ R.BAR_REGSTAT b ∧ R.TG_REG b ≠ R.BAR_REGUPD b ∧ R.BAR_REGSTAT b ≠ R.BAR_REGUPD b ∧
      plumbWord (R.TG_REG b) = false ∧ plumbWord (R.BAR_REGSTAT b) = false := by
    simp only [plumbWord, R.TG_REG, R.BAR_REGSTAT, R.BAR_REGUPD, R.FAULT_LATCH, R.EVT_LOST, R.NP_TX_FRAMES, R.NP_TX_DROP,
      Bool.or_eq_false_iff, beq_eq_false_iff_ne]
    omega
  obtain ⟨hreg, hupd, hstat, hregplumb, hstatplumb⟩ := happart
  have hlimit (u : State) (x : Nat) (hu : RegShown u b v) : RegShown (u.wr (R.BAR_REGSTAT_LAT_LIMIT b) x) b v :=
    ⟨(congrArg (signed 13) (rd_wr_word _ _ _ _ hreg)).trans hu.reg, (rd_wr_apart _ _ _ _ rfl (apart_of_bits (by simp))).trans hu.yValid,
      (rd_wr_apart _ _ _ _ rfl (apart_of_bits (by simp))).trans hu.limit⟩
  have hraise (u : State) (e : Event) (source arg : Nat) (hu : RegShown u b v) : RegShown (u.raise e source arg) b v :=
    ⟨(congrArg (signed 13) (raise_rd _ _ _ _ _ hregplumb)).trans hu.reg, (raise_rd _ _ _ _ _ hstatplumb).trans hu.yValid,
      (raise_rd _ _ _ _ _ hstatplumb).trans hu.limit⟩
  have hcount (u : State) (x : Nat) (hu : RegShown u b v) : RegShown (u.wr (R.BAR_REGUPD_LAT b) x) b v :=
    ⟨(congrArg (signed 13) (rd_wr_word _ _ _ _ hupd)).trans hu.reg, (rd_wr_word _ _ _ _ hstat).trans hu.yValid,
      (rd_wr_word _ _ _ _ hstat).trans hu.limit⟩
  unfold State.moveLat
  extract_lets e want w
  have hpend : RegShown (s.setPend (R.BAR_LAT b) w) b v := ⟨h.reg, h.yValid, h.limit⟩
  clear_value w
  split
  · exact h
  · split
    · exact hraise _ _ _ _ (hlimit _ _ h)
    · exact hlimit _ _ (hcount _ _ hpend)

/-! ## What registration reads -/

theorem gainWord_reads (b : Fin 16) {a : Nat} (hlo : 0x50000 ≤ a) (hhi : a < 0x53000) : gainWord b a = false := by
  simp only [gainWord, plumbWord, R.IRON_GAINLIM, R.BAR_IUPD, R.FAULT_LATCH, R.EVT_LOST, R.NP_TX_FRAMES, R.NP_TX_DROP, Bool.or_eq_false_iff,
    decide_eq_false_iff_not, beq_eq_false_iff_ne]
  omega

theorem gainWord_bar (b : Fin 16) : gainWord b (R.BAR_REGCFG b) = false ∧ gainWord b (R.BAR_REGERR b) = false ∧
    gainWord b (R.BAR_REGSTAT b) = false := by
  simp only [gainWord, plumbWord, R.IRON_GAINLIM, R.BAR_IUPD, R.BAR_REGCFG, R.BAR_REGERR, R.BAR_REGSTAT, R.FAULT_LATCH, R.EVT_LOST,
    R.NP_TX_FRAMES, R.NP_TX_DROP, Bool.or_eq_false_iff, decide_eq_false_iff_not, beq_eq_false_iff_ne]
  omega

theorem conf_of_update (h : Keeps sansUpdate W s t) : t.conf = s.conf := (congrArg State.conf h.1 :)

theorem cf_congr (h : t.conf = s.conf) (f : Field) : t.cf f = s.cf f := by rw [State.cf, h, State.cf]

theorem inkOf_congr (h : t.conf = s.conf) (b : Nat) : t.inkOf b = s.inkOf b := by
  simp only [State.inkOf, State.inks, State.inkBars, cf_congr h]

theorem barChannels_congr (h : t.conf = s.conf) (b : Nat) : t.barChannels b = s.barChannels b := by
  have hon : t.chOn = s.chOn := by
    funext c
    rw [State.chOn, cf_congr h, State.chOn]
  simp only [State.barChannels, State.channels, State.chBar, hon, cf_congr h]

theorem mem_barChannels_lt {b c : Nat} (h : c ∈ s.barChannels b) : c < 512 := by
  rw [State.barChannels, State.channels, List.mem_filter, List.mem_filter, List.mem_range] at h
  exact h.1.1

theorem nearReg_congr {b : Fin 16} (hk : Keeps sansUpdate (gainWord b) s t) (want : Int) : t.nearReg b want = s.nearReg b want := by
  have hphi : t.rd (R.TG_DELAY_PHI b) = s.rd (R.TG_DELAY_PHI b) :=
    hk.rd _ (gainWord_reads b (by simp only [R.TG_DELAY]; omega) (by simp only [R.TG_DELAY]; omega))
  have hfines : (t.barChannels b).map (fun c => 4 * (t.rd (R.CH_FINE_FINE c) : Int)) =
      (s.barChannels b).map (fun c => 4 * (s.rd (R.CH_FINE_FINE c) : Int)) := by
    rw [barChannels_congr (conf_of_update hk)]
    refine List.map_congr_left fun c hc => ?_
    have := mem_barChannels_lt hc
    rw [hk.rd _ (gainWord_reads b (by simp only [R.CH_FINE]; omega) (by simp only [R.CH_FINE]; omega))]
  unfold State.nearReg
  rw [hfines, hphi]

theorem le_foldl_max (g : Int → Int) (l : List Int) (m : Int) : m ≤ l.foldl (fun m f => max m (g f)) m := by
  induction l generalizing m with
  | nil => exact le_refl m
  | cons f l ih => exact (le_max_left m (g f)).trans (ih _)

theorem foldl_max_le (g : Int → Int) {l : List Int} {m k : Int} (hm : m ≤ k) (h : ∀ f ∈ l, g f ≤ k) : l.foldl (fun m f => max m (g f)) m ≤ k := by
  induction l generalizing m with
  | nil => exact hm
  | cons f l ih => exact ih (max_le hm (h f List.mem_cons_self)) fun e he => h e (List.mem_cons_of_mem f he)

theorem foldl_min_le (g : Int → Int) (l : List Int) (m : Int) : l.foldl (fun m f => min m (g f)) m ≤ m := by
  induction l generalizing m with
  | nil => exact le_refl m
  | cons f l ih => exact (ih _).trans (min_le_left m (g f))

/-- What keeps R210 fits the field. -/
theorem nearReg_range (s : State) (b : Nat) (want : Int) : -4096 ≤ s.nearReg b want ∧ s.nearReg b want ≤ 4095 := by
  unfold State.nearReg clampI
  extract_lets fines phi
  have hlo := le_foldl_max (fun f => -(phi + f)) fines (-4096)
  have hzero : fines.foldl (fun m f => max m (-(phi + f))) (-4096) ≤ 0 := foldl_max_le (fun f => -(phi + f)) (by decide) fun f hf => by
    obtain ⟨c, -, rfl⟩ := List.mem_map.1 hf
    simp only [phi]
    omega
  have hhi := foldl_min_le (fun f => 4095 - phi - f) fines 4095
  omega

/-- A valid error beyond the dead band moves REG. -/
theorem moveReg_shown (s : State) (b : Fin 16) (d : Int) (hen : s.rd (R.BAR_REGCFG_REG_EN b) = 1)
    (hvalid : s.rd (R.BAR_REGSTAT_Y_VALID b) = 1) (hd : d = divNear (s.rdI (R.BAR_REGERR_ERR_Y b) * s.rd (R.BAR_REGCFG_REG_GAIN b)) 8)
    (hdead : s.rd (R.BAR_REGCFG_REG_DEAD b) < d.natAbs)
    (hnear : s.nearReg b (s.rdI (R.TG_REG_REG b) + clampI (-256) 256 d) = s.rdI (R.TG_REG_REG b) + clampI (-256) 256 d) :
    RegShown (s.moveReg b) b (s.rdI (R.TG_REG_REG b) + clampI (-256) 256 d) := by
  have hrange : -4096 ≤ s.nearReg b (s.rdI (R.TG_REG_REG b) + clampI (-256) 256 d) ∧
      s.nearReg b (s.rdI (R.TG_REG_REG b) + clampI (-256) 256 d) ≤ 4095 := nearReg_range s b _
  rw [hnear] at hrange
  have heq : s.moveReg b = s.regMoved b (s.rdI (R.TG_REG_REG b) + clampI (-256) 256 d) false := by
    unfold State.moveReg
    rw [if_neg (by simp [State.flag, hen, hvalid])]
    extract_lets e want v s1
    have he : e = d := hd.symm
    have hwant : want = s.rdI (R.TG_REG_REG b) + clampI (-256) 256 d := by rw [← he]
    have hv : v = want := by
      rw [show v = s.nearReg b want from rfl, hwant]
      exact hnear
    have hs1 : s1 = s.regMoved b v (v != want) := rfl
    clear_value s1 v want e
    subst hs1 hv hwant he
    rw [if_neg (by omega), if_pos rfl, bne_self_eq_false]
  rw [heq]
  exact regMoved_shown s b _ hrange.1 hrange.2

/-! ## The statement -/

/-- The bar's gains have moved where the loop is on. -/
def State.gainsMoved (s : State) (b : Nat) : State := if s.flag R.IRON_CFG_EN then s.moveGains b else s

/-- The bar's registration has moved where it has an ink. -/
def State.regsMoved (s : State) (b : Nat) : State := if (s.inkOf b).isSome then (s.moveReg b).moveLat b else s

/-- The bar has used up an update point. -/
def State.updateUsed (s : State) (b : Nat) : State := s.onTg b (fun x => { x with updates := x.updates + 1 })

theorem updatePoint_eq (s : State) (b : Nat) : s.updatePoint b =
    if (s.tg b).pieceLines / 8192 ≤ (s.tg b).updates then s else ((s.updateUsed b).gainsMoved b).regsMoved b := rfl

theorem gainsMoved_keeps (s : State) (b : Nat) : Keeps sansUpdate (gainWord b) s (s.gainsMoved b) := .ite (moveGains_keeps s b) (.refl s)

theorem regsMoved_keeps (s : State) (b : Nat) : Keeps sansUpdate (regWord b) s (s.regsMoved b) :=
  .ite ((moveReg_keeps s b).trans (moveLat_keeps _ b)) (.refl s)

/-- The state less what an update point changes beside what is noticed. -/
def sansPoint (u : State) : State := { sansUpdate u with tgs := [] }

theorem eq_of_sansPoint (h : sansPoint t.unnoticed = sansPoint s.unnoticed) :
    t = { s.noticed t with
      pendw := t.pendw, tgs := t.tgs, iron := { s.iron with limits := t.iron.limits, regs := t.iron.regs } } :=
  calc
    t = { (sansPoint t.unnoticed).noticed t with
      pendw := t.pendw, tgs := t.tgs
      iron := { (sansPoint t.unnoticed).iron with limits := t.iron.limits, regs := t.iron.regs } } := rfl
    _ = _ := by rw [h]; rfl

theorem updateUsed_keeps (s : State) (b : Nat) : Keeps sansPoint W s (s.updateUsed b) := (Keeps.refl s).update rfl rfl

theorem tg_of_update (h : Keeps sansUpdate W s t) (b : Nat) : t.tg b = s.tg b := by
  have htgs : t.tgs = s.tgs := (congrArg State.tgs h.1 :)
  rw [State.tg, htgs, State.tg]

theorem updateUsed_word (s : State) (b a : Nat) : (s.updateUsed b).word a = s.word a := rfl

theorem updateUsed_tg (s : State) (b : Nat) : ((s.updateUsed b).tg b).updates = (s.tg b).updates + 1 := by
  rw [State.updateUsed, tg_onTg_same]

theorem updateUsed_nozzles (s : State) (b : Nat) : (s.updateUsed b).ownedNozzles b = s.ownedNozzles b := rfl

theorem gainsMoved_step (s : State) (b : Fin 16) (h : ((s.ownedNozzles b).map (·.2.1)).Nodup) (n : Nat) :
    GainStep (s.gain n) ((s.gainsMoved b).gain n) := by
  unfold State.gainsMoved
  split
  · exact moveGains_step s b h n
  · exact .refl _

/-- The reads of registration are as before the gains moved. -/
theorem regsMoved_shown {b : Fin 16} {d : Int} (hk : Keeps sansUpdate (gainWord b) s t) (hink : (s.inkOf b).isSome = true)
    (hen : s.rd (R.BAR_REGCFG_REG_EN b) = 1) (hvalid : s.rd (R.BAR_REGSTAT_Y_VALID b) = 1)
    (hd : d = divNear (s.rdI (R.BAR_REGERR_ERR_Y b) * s.rd (R.BAR_REGCFG_REG_GAIN b)) 8) (hdead : s.rd (R.BAR_REGCFG_REG_DEAD b) < d.natAbs)
    (hnear : s.nearReg b (s.rdI (R.TG_REG_REG b) + clampI (-256) 256 d) = s.rdI (R.TG_REG_REG b) + clampI (-256) 256 d) :
    RegShown (t.regsMoved b) b (s.rdI (R.TG_REG_REG b) + clampI (-256) 256 d) := by
  obtain ⟨hcfg, herr, hstat⟩ := gainWord_bar b
  have hreg : t.rdI (R.TG_REG_REG b) = s.rdI (R.TG_REG_REG b) :=
    congrArg (signed 13) (hk.rd (R.TG_REG_REG b) (gainWord_reads b (by simp only [R.TG_REG]; omega) (by simp only [R.TG_REG]; omega)))
  have herrY : t.rdI (R.BAR_REGERR_ERR_Y b) = s.rdI (R.BAR_REGERR_ERR_Y b) := congrArg (signed 16) (hk.rd (R.BAR_REGERR_ERR_Y b) herr)
  rw [State.regsMoved, if_pos (by rw [inkOf_congr (conf_of_update hk)]; exact hink), ← hreg]
  refine moveLat_shown (moveReg_shown t b d ?_ ?_ ?_ ?_ ?_)
  · rw [hk.rd _ hcfg, hen]
  · rw [hk.rd _ hstat, hvalid]
  · rw [herrY, hk.rd _ hcfg, hd]
  · rw [hk.rd _ hcfg]
    exact hdead
  · rw [nearReg_congr hk, hreg, hnear]

theorem updatePoint_moves (s : State) (b : Fin 16) (hawake : s.awake = true) (howed : (s.tg b).updates < (s.tg b).pieceLines / 8192) :
    ∃ t, exec (.updatePoint b) s = .next t ∧ (t.tg b).updates = (s.tg b).updates + 1 ∧
      (((s.ownedNozzles b).map (·.2.1)).Nodup →
        ∀ n, 0x40 ≤ s.gain n → s.gain n ≤ 0xC0 → 0x40 ≤ t.gain n ∧ t.gain n ≤ 0xC0 ∧ t.gain n ≤ s.gain n + 1 ∧ s.gain n ≤ t.gain n + 1) ∧
      (s.rd R.IRON_CFG_EN = 0 → ∀ n, t.gain n = s.gain n) ∧
      (∀ d, (s.inkOf b).isSome = true → s.rd (R.BAR_REGCFG_REG_EN b) = 1 → s.rd (R.BAR_REGSTAT_Y_VALID b) = 1 →
        d = divNear (s.rdI (R.BAR_REGERR_ERR_Y b) * s.rd (R.BAR_REGCFG_REG_GAIN b)) 8 → s.rd (R.BAR_REGCFG_REG_DEAD b) < d.natAbs →
        s.nearReg b (s.rdI (R.TG_REG_REG b) + clampI (-256) 256 d) = s.rdI (R.TG_REG_REG b) + clampI (-256) 256 d →
        t.rdI (R.TG_REG_REG b) = s.rdI (R.TG_REG_REG b) + clampI (-256) 256 d ∧ t.rd (R.BAR_REGSTAT_Y_VALID b) = 0 ∧
        t.rd (R.BAR_REGSTAT_REG_LIMIT b) = 0) ∧
      t = { s.noticed t with
          pendw := t.pendw, tgs := t.tgs, iron := { s.iron with limits := t.iron.limits, regs := t.iron.regs } } := by
  let used := s.updateUsed b
  let moved := used.gainsMoved b
  let u := moved.regsMoved b
  have hrun : exec (.updatePoint b) s = .next u.latch := by
    show execUpdatePoint b s = _
    rw [execUpdatePoint, if_pos hawake, updatePoint_eq, if_neg (by omega)]
    rfl
  have hgains : Keeps sansUpdate (gainWord b) used moved := gainsMoved_keeps used b
  have hregs : Keeps sansUpdate (regWord b) moved u := regsMoved_keeps moved b
  have hall : Keeps sansPoint (fun _ => true) s u :=
    ((updateUsed_keeps s b).trans (hgains.mono (fun _ => rfl) (by simp))).trans (hregs.mono (fun _ => rfl) (by simp))
  have hgain (n : Nat) : u.latch.gain n = moved.gain n := by
    rw [State.gain, latch_word, ← State.gain]
    exact gain_keeps hregs (regWord_low b) n
  refine ⟨_, hrun, ?_, fun hnodup n => ?_, fun hoff n => ?_, fun d hink hen hvalid hd hdead hnear => ?_, eq_of_sansPoint hall.latch.1⟩
  · rw [latch_tg, tg_of_update hregs, tg_of_update hgains, updateUsed_tg]
  · rw [hgain]
    exact gainsMoved_step used b (by rw [updateUsed_nozzles]; exact hnodup) n
  · have hsame : moved = used := if_neg (by rw [State.flag, rd_congr _ _ _ (updateUsed_word s b _), hoff]; decide)
    rw [hgain, hsame, State.gain, updateUsed_word, State.gain]
  · obtain ⟨hreg, hy, hlimit⟩ := regsMoved_shown (s := used) (d := d) hgains hink hen hvalid hd hdead hnear
    rw [latch_rd, latch_rd, State.rdI, latch_rd]
    exact ⟨hreg, hy, hlimit⟩

theorem updatePoint_kept (s : State) (b : Fin 16) (hawake : s.awake = true) (hnone : (s.tg b).pieceLines / 8192 ≤ (s.tg b).updates) :
    exec (.updatePoint b) s = .next s.latch := by
  show execUpdatePoint b s = _
  rw [execUpdatePoint, if_pos hawake, updatePoint_eq, if_pos hnone]
  rfl

/-- Settles O40: a bar that owes an update point, and one that owes none. -/
theorem updatePoints : Obligations.UpdatePoints := ⟨updatePoint_moves, updatePoint_kept⟩

/-- In Day a bar that has met 8,192 piece lines uses up its first update point. -/
theorem updatePoint_witness : ∃ t, exec (.updatePoint 0) (dayState.onTg 0 (fun g => { g with pieceLines := 8192 })) = .next t ∧
    (t.tg 0).updates = 1 := by
  obtain ⟨t, hrun, hused, -⟩ := updatePoint_moves (dayState.onTg 0 (fun g => { g with pieceLines := 8192 })) 0 rfl (by decide +kernel)
  exact ⟨t, hrun, hused⟩

end Sys2Proof.Machine
end

section
/-! PROOFS. Both memories, part 1: what leaves them alone. One frame per operation, in the order of the model; `simp` carries each from an
operation to the ones that call it. -/

namespace Sys2Proof.Machine

variable {s t : State} {E : State → State} {W : Nat → Bool}

/-- A frame that erases no memory keeps both. -/
theorem Keeps.memories (h : Keeps E W s t) (hE : ∀ u, (E u).hbm = u.hbm ∧ (E u).flash = u.flash) :
    t.hbm = s.hbm ∧ t.flash = s.flash := by
  have hu := h.1
  exact ⟨(hE t.unnoticed).1.symm.trans ((congrArg State.hbm hu).trans (hE s.unnoticed).1),
    (hE t.unnoticed).2.symm.trans ((congrArg State.flash hu).trans (hE s.unnoticed).2)⟩

@[simp] theorem hbm_ite (p : Prop) [Decidable p] (a b : State) : (if p then a else b).hbm = if p then a.hbm else b.hbm := apply_ite ..

@[simp] theorem flash_ite (p : Prop) [Decidable p] (a b : State) : (if p then a else b).flash = if p then a.flash else b.flash := apply_ite ..

/-- A fold whose steps leave the memories of the state it carries alone leaves them alone. -/
theorem fold_memories {α β : Type} (g : β → State) {f : β → α → β} (hf : ∀ r x, (g (f r x)).hbm = (g r).hbm ∧ (g (f r x)).flash = (g r).flash)
    (l : List α) (r : β) : (g (l.foldl f r)).hbm = (g r).hbm ∧ (g (l.foldl f r)).flash = (g r).flash := by
  induction l generalizing r with
  | nil => exact ⟨rfl, rfl⟩
  | cons x l ih => exact ⟨(ih _).1.trans (hf r x).1, (ih _).2.trans (hf r x).2⟩

theorem foldl_fst_memories {α β : Type} {f : State × β → α → State × β}
    (hf : ∀ r x, (f r x).1.hbm = r.1.hbm ∧ (f r x).1.flash = r.1.flash) (l : List α) (r : State × β) :
    (l.foldl f r).1.hbm = r.1.hbm ∧ (l.foldl f r).1.flash = r.1.flash := fold_memories Prod.fst hf l r

@[simp] theorem elim_memories {α : Type} {f : α → State} {s : State} (hf : ∀ x, (f x).hbm = s.hbm ∧ (f x).flash = s.flash) (o : Option α) :
    (o.elim s f).hbm = s.hbm ∧ (o.elim s f).flash = s.flash := by
  cases o with
  | none => exact ⟨rfl, rfl⟩
  | some x => exact hf x

@[simp] theorem foldl_memories {α : Type} {f : State → α → State} (hf : ∀ t x, (f t x).hbm = t.hbm ∧ (f t x).flash = t.flash) (l : List α) (s : State) :
    (l.foldl f s).hbm = s.hbm ∧ (l.foldl f s).flash = s.flash := fold_memories id hf l s

/-! ### Registers, completion records and pieces (R6, R101, R136) -/

@[simp] theorem applyPend_memories (s : State) (a : Nat) : (s.applyPend a).hbm = s.hbm ∧ (s.applyPend a).flash = s.flash := by
  unfold State.applyPend
  split <;> simp

@[simp] theorem oneOn_memories (s : State) (e : Event) (source arg : Nat) :
    (s.oneOn e source arg).hbm = s.hbm ∧ (s.oneOn e source arg).flash = s.flash := by simp [State.oneOn]

@[simp] theorem loads_memories (s : State) : s.loads.hbm = s.hbm ∧ s.loads.flash = s.flash := by simp [State.loads]

@[simp] theorem poolFree_memories (s : State) : s.poolFree.hbm = s.hbm ∧ s.poolFree.flash = s.flash := by simp [State.poolFree]

@[simp] theorem freeBands_memories (s : State) (bs : List BandRun) : (s.freeBands bs).hbm = s.hbm ∧ (s.freeBands bs).flash = s.flash := by
  simp [State.freeBands]

@[simp] theorem setWords_memories (s : State) (a : Nat) (ws : List Word) :
    (s.setWords a ws).hbm = s.hbm ∧ (s.setWords a ws).flash = s.flash := (setWords_dawn s a ws).memories fun _ => ⟨rfl, rfl⟩

@[simp] theorem setBytes_memories (s : State) (a : Nat) (bs : List Byte) :
    (s.setBytes a bs).hbm = s.hbm ∧ (s.setBytes a bs).flash = s.flash := by simp [State.setBytes]

@[simp] theorem freeCompare_memories (s : State) (k : Nat) : (s.freeCompare k).hbm = s.hbm ∧ (s.freeCompare k).flash = s.flash := by
  simp [State.freeCompare]

@[simp] theorem countRecord_memories (s : State) (p : Piece) (f : Fate) :
    (s.countRecord p f).hbm = s.hbm ∧ (s.countRecord p f).flash = s.flash := by
  unfold State.countRecord
  dsimp only
  split <;> simp

@[simp] theorem complete_memories (s : State) (p : Piece) (f : Fate) : (s.complete p f).hbm = s.hbm ∧ (s.complete p f).flash = s.flash := by
  unfold State.complete
  extract_lets k s1 s2 s3 bad s4
  have h3 : s3.hbm = s.hbm ∧ s3.flash = s.flash := by cases h : p.compare <;> simp [s3, s2, s1, h]
  simp [s4, h3]

@[simp] theorem abortPiece_memories (s : State) (num reason : Nat) :
    (s.abortPiece num reason).hbm = s.hbm ∧ (s.abortPiece num reason).flash = s.flash :=
  (abortPiece_keeps s num reason).memories fun _ => ⟨rfl, rfl⟩

@[simp] theorem notPrinted_memories (s : State) (num reason : Nat) :
    (s.notPrinted num reason).hbm = s.hbm ∧ (s.notPrinted num reason).flash = s.flash := by
  unfold State.notPrinted
  split <;> simp

/-! ### Timing generators and the common stop (R202 to R221) -/

@[simp] theorem setCount_memories (s : State) (k n : Nat) : (s.setCount k n).hbm = s.hbm ∧ (s.setCount k n).flash = s.flash := by
  simp [State.setCount]

@[simp] theorem feed_memories (s : State) (k src num den : Nat) :
    (s.feed k src num den).hbm = s.hbm ∧ (s.feed k src num den).flash = s.flash := by simp [State.feed, State.trigger]

@[simp] theorem feedAll_memories (s : State) (code src num den : Nat) :
    (s.feedAll code src num den).hbm = s.hbm ∧ (s.feedAll code src num den).flash = s.flash := by simp [State.feedAll]

@[simp] theorem updateLead_memories (s : State) (b : Nat) : (s.updateLead b).hbm = s.hbm ∧ (s.updateLead b).flash = s.flash := by
  simp [State.updateLead]

@[simp] theorem speedDemand_memories (s : State) : s.speedDemand.hbm = s.hbm ∧ s.speedDemand.flash = s.flash :=
  (speedDemand_dawn s).memories fun _ => ⟨rfl, rfl⟩

@[simp] theorem stopGroup_memories (s : State) (cause k : Nat) :
    (s.stopGroup cause k).hbm = s.hbm ∧ (s.stopGroup cause k).flash = s.flash := by
  unfold State.stopGroup
  split <;> simp [State.setStop]

@[simp] theorem requestStop_memories (s : State) (cause : Nat) :
    (s.requestStop cause).hbm = s.hbm ∧ (s.requestStop cause).flash = s.flash := by simp [State.requestStop, State.dropUnstarted]

@[simp] theorem faultStop_memories (s : State) (e : Event) (source : Nat) :
    (s.faultStop e source).hbm = s.hbm ∧ (s.faultStop e source).flash = s.flash := by simp [State.faultStop]

@[simp] theorem followCount_memories (s : State) (k n : Nat) : (s.followCount k n).hbm = s.hbm ∧ (s.followCount k n).flash = s.flash := by
  simp [State.followCount]

@[simp] theorem applyMode_memories (s : State) (k : Nat) : (s.applyMode k).hbm = s.hbm ∧ (s.applyMode k).flash = s.flash := by
  simp [State.applyMode]

/-! ### Encoders, line generators and compare units (R175 to R201) -/

@[simp] theorem setTrue_memories (s : State) (n v : Nat) : (s.setTrue n v).hbm = s.hbm ∧ (s.setTrue n v).flash = s.flash := by
  simp [State.setTrue]

@[simp] theorem setPrint_memories (s : State) (n v : Nat) : (s.setPrint n v).hbm = s.hbm ∧ (s.setPrint n v).flash = s.flash := by
  simp [State.setPrint]

@[simp] theorem lgAdvance_memories (s : State) (k n : Nat) : (s.lgAdvance k n).hbm = s.hbm ∧ (s.lgAdvance k n).flash = s.flash :=
  (lgAdvance_keeps s k n).memories fun _ => ⟨rfl, rfl⟩

@[simp] theorem reversal_memories (s : State) (n k : Nat) : (s.reversal n k).hbm = s.hbm ∧ (s.reversal n k).flash = s.flash :=
  (reversal_keeps s n k).memories fun _ => ⟨rfl, rfl⟩

@[simp] theorem encoutFeed_memories (s : State) (enc : Nat) (d p : Int) :
    (s.encoutFeed enc d p).1.hbm = s.hbm ∧ (s.encoutFeed enc d p).1.flash = s.flash :=
  (encoutFeed_keeps s enc d p).memories fun _ => ⟨rfl, rfl⟩

@[simp] theorem resetSpeed_memories (s : State) (n : Nat) : (s.resetSpeed n).hbm = s.hbm ∧ (s.resetSpeed n).flash = s.flash :=
  (resetSpeed_keeps s n).memories fun _ => ⟨rfl, rfl⟩

@[simp] theorem encCount_memories (s : State) (n : Nat) (d : Int) :
    (s.encCount n d).1.hbm = s.hbm ∧ (s.encCount n d).1.flash = s.flash := by
  unfold State.encCount
  dsimp only
  split <;> simp [State.follow, State.turn, State.markReversed]

@[simp] theorem estimate_memories (s : State) (n : Nat) : (s.estimate n).hbm = s.hbm ∧ (s.estimate n).flash = s.flash := by
  unfold State.estimate
  split <;> simp

@[simp] theorem crossTrack_memories (s : State) : s.crossTrack.hbm = s.hbm ∧ s.crossTrack.flash = s.flash :=
  (crossTrack_dawn s).memories fun _ => ⟨rfl, rfl⟩

@[simp] theorem mismatch_memories (s : State) (n count : Nat) :
    (s.mismatch n count).hbm = s.hbm ∧ (s.mismatch n count).flash = s.flash := by simp [State.mismatch, State.encFailover]

@[simp] theorem indexEdge_memories (s : State) (n : Nat) : (s.indexEdge n).hbm = s.hbm ∧ (s.indexEdge n).flash = s.flash := by
  unfold State.indexEdge
  dsimp only
  split <;> simp [State.clean]

@[simp] theorem lgApply_memories (s : State) (k : Nat) : (s.lgApply k).hbm = s.hbm ∧ (s.lgApply k).flash = s.flash := by
  simp [State.lgApply]

@[simp] theorem cmpFire_memories (s : State) (k : Nat) (late : Bool) :
    (s.cmpFire k late).hbm = s.hbm ∧ (s.cmpFire k late).flash = s.flash := by simp [State.cmpFire, State.cmpRejects]

@[simp] theorem cmpJudge_memories (s : State) (k : Nat) (events : Bool) :
    (s.cmpJudge k events).hbm = s.hbm ∧ (s.cmpJudge k events).flash = s.flash := by simp [State.cmpJudge]

@[simp] theorem cmpSettle_memories (s : State) (k : Nat) : (s.cmpSettle k).hbm = s.hbm ∧ (s.cmpSettle k).flash = s.flash := by
  unfold State.cmpSettle
  split <;> simp

/-! ### Spans (R110 to R113) -/

@[simp] theorem ctrlDone_memories (s : State) (c i : Nat) : (s.ctrlDone c i).hbm = s.hbm ∧ (s.ctrlDone c i).flash = s.flash := by
  simp [State.ctrlDone]

@[simp] theorem latchDawn_memories (s : State) : s.latchDawn.hbm = s.hbm ∧ s.latchDawn.flash = s.flash :=
  (latchDawn_dawn s).memories fun _ => ⟨rfl, rfl⟩

@[simp] theorem leafBlank_memories (s : State) (c : Nat) : (s.leafBlank c).hbm = s.hbm ∧ (s.leafBlank c).flash = s.flash := by
  simp [State.leafBlank]

@[simp] theorem snapshotSpans_memories (s : State) : s.snapshotSpans.hbm = s.hbm ∧ s.snapshotSpans.flash = s.flash := by
  simp [State.snapshotSpans]

/-! ### Head lanes (R254 to R284) -/

@[simp] theorem enter_memories (s : State) (n st : Nat) : (s.enter n st).hbm = s.hbm ∧ (s.enter n st).flash = s.flash :=
  (enter_dawn s n st).memories fun _ => ⟨rfl, rfl⟩

@[simp] theorem ctrlMsg_memories (s : State) (n msg : Nat) (payload : List Byte) :
    (s.ctrlMsg n msg payload).hbm = s.hbm ∧ (s.ctrlMsg n msg payload).flash = s.flash := by simp [State.ctrlMsg]

@[simp] theorem sendConfig_memories (s : State) (n : Nat) : (s.sendConfig n).hbm = s.hbm ∧ (s.sendConfig n).flash = s.flash := by
  simp [State.sendConfig]

@[simp] theorem resendCtrl_memories (s : State) (n : Nat) : (s.resendCtrl n).hbm = s.hbm ∧ (s.resendCtrl n).flash = s.flash := by
  unfold State.resendCtrl
  split <;> simp

@[simp] theorem startTrain_memories (s : State) (n rate : Nat) (fast : Bool) :
    (s.startTrain n rate fast).hbm = s.hbm ∧ (s.startTrain n rate fast).flash = s.flash := by simp [State.startTrain]

@[simp] theorem startDetect_memories (s : State) (n : Nat) : (s.startDetect n).hbm = s.hbm ∧ (s.startDetect n).flash = s.flash :=
  (startDetect_dawn s n).memories fun _ => ⟨rfl, rfl⟩

@[simp] theorem secondConfig_memories (s : State) (n : Nat) : (s.secondConfig n).hbm = s.hbm ∧ (s.secondConfig n).flash = s.flash := by
  simp [State.secondConfig]

@[simp] theorem startExchange_memories (s : State) (n : Nat) : (s.startExchange n).hbm = s.hbm ∧ (s.startExchange n).flash = s.flash := by
  simp [State.startExchange]

@[simp] theorem laneReject_memories (s : State) (n reason : Nat) :
    (s.laneReject n reason).hbm = s.hbm ∧ (s.laneReject n reason).flash = s.flash :=
  (laneReject_dawn s n reason).memories fun _ => ⟨rfl, rfl⟩

@[simp] theorem laneUp_memories (s : State) (n : Nat) : (s.laneUp n).hbm = s.hbm ∧ (s.laneUp n).flash = s.flash :=
  (laneUp_dawn s n).memories fun _ => ⟨rfl, rfl⟩

@[simp] theorem capInfo_memories (s : State) (n : Nat) (c : Cap) : (s.capInfo n c).hbm = s.hbm ∧ (s.capInfo n c).flash = s.flash :=
  (capInfo_dawn s n c).memories fun _ => ⟨rfl, rfl⟩

@[simp] theorem setRate_memories (s : State) (n rate : Nat) : (s.setRate n rate).hbm = s.hbm ∧ (s.setRate n rate).flash = s.flash :=
  (setRate_dawn s n rate).memories fun _ => ⟨rfl, rfl⟩

@[simp] theorem takeCap_memories (s : State) (n : Nat) (c : Cap) : (s.takeCap n c).hbm = s.hbm ∧ (s.takeCap n c).flash = s.flash := by
  simp [State.takeCap]

@[simp] theorem echoStart_memories (s : State) (n : Nat) : (s.echoStart n).hbm = s.hbm ∧ (s.echoStart n).flash = s.flash := by
  simp [State.echoStart]

@[simp] theorem takeAck_memories (s : State) (n msg crc : Nat) :
    (s.takeAck n msg crc).hbm = s.hbm ∧ (s.takeAck n msg crc).flash = s.flash := by simp [State.takeAck]

@[simp] theorem planLane_memories (s : State) (n : Nat) (new : List Marker) :
    (s.planLane n new).hbm = s.hbm ∧ (s.planLane n new).flash = s.flash := by simp [State.planLane]

@[simp] theorem settleAborted_memories (s : State) (n : Nat) : (s.settleAborted n).hbm = s.hbm ∧ (s.settleAborted n).flash = s.flash := by
  simp [State.settleAborted]

@[simp] theorem markerLeaves_memories (s : State) (n : Nat) (m : Marker) (late : Int) :
    (s.markerLeaves n m late).hbm = s.hbm ∧ (s.markerLeaves n m late).flash = s.flash := by
  simp [State.markerLeaves, State.countSlip, State.dropBound, State.unplan]

@[simp] theorem blankEvent_memories (s : State) (b : Nat) : (s.blankEvent b).hbm = s.hbm ∧ (s.blankEvent b).flash = s.flash := by
  unfold State.blankEvent
  dsimp only
  split <;> simp

@[simp] theorem countBlank_memories (s : State) (b : Nat) (chans pieces : List Nat) :
    (s.countBlank b chans pieces).hbm = s.hbm ∧ (s.countBlank b chans pieces).flash = s.flash := by simp [State.countBlank]

@[simp] theorem flagRows_memories (s : State) (f : HistRow → HistRow) (b : Nat) (rows : List Nat) :
    (s.flagRows f b rows).hbm = s.hbm ∧ (s.flagRows f b rows).flash = s.flash := by simp [State.flagRows]

@[simp] theorem resendOn_memories (s : State) (x : Flight) (c : FlightCh) (lane : Nat) :
    (s.resendOn x c lane).hbm = s.hbm ∧ (s.resendOn x c lane).flash = s.flash := by
  unfold State.resendOn
  split <;> simp

@[simp] theorem switchOver_memories (s : State) (n : Nat) (again : Bool) :
    (s.switchOver n again).hbm = s.hbm ∧ (s.switchOver n again).flash = s.flash := by simp [State.switchOver, State.switchFrom]

@[simp] theorem laneLost_memories (s : State) (n st : Nat) : (s.laneLost n st).hbm = s.hbm ∧ (s.laneLost n st).flash = s.flash := by
  simp [State.laneLost, State.stopUnserved, State.blankOn]

@[simp] theorem moveBack_memories (s : State) (n : Nat) : (s.moveBack n).hbm = s.hbm ∧ (s.moveBack n).flash = s.flash := by
  simp [State.moveBack]

@[simp] theorem laneAbort_memories (s : State) (n : Nat) : (s.laneAbort n).hbm = s.hbm ∧ (s.laneAbort n).flash = s.flash := by
  simp [State.laneAbort]

@[simp] theorem echoFail_memories (s : State) (n kept : Nat) : (s.echoFail n kept).hbm = s.hbm ∧ (s.echoFail n kept).flash = s.flash := by
  simp [State.echoFail]

@[simp] theorem echoPass_memories (s : State) (n : Nat) (rt : List Int) (tInt : Int) :
    (s.echoPass n rt tInt).hbm = s.hbm ∧ (s.echoPass n rt tInt).flash = s.flash := by simp [State.echoPass]

@[simp] theorem onRx_memories (s : State) (i : Nat) (f : Rx → Rx) : (s.onRx i f).hbm = s.hbm ∧ (s.onRx i f).flash = s.flash := by
  simp [State.onRx]

@[simp] theorem trained_memories (s : State) (i : Nat) (fast : Bool) :
    (s.trained i fast).hbm = s.hbm ∧ (s.trained i fast).flash = s.flash := by simp [State.trained]

@[simp] theorem toDay_memories (s : State) : s.toDay.hbm = s.hbm ∧ s.toDay.flash = s.flash := (toDay_keeps s).memories fun _ => ⟨rfl, rfl⟩

/-! ### Memory errors (R414 to R420) -/

@[simp] theorem remap_memories (s : State) (c : Nat) (a : Word) (bist : optParam Bool false) :
    (s.remap c a bist).hbm = s.hbm ∧ (s.remap c a bist).flash = s.flash := (remap_dawn s c a bist).memories fun _ => ⟨rfl, rfl⟩

@[simp] theorem remapFull_memories (s : State) (c : Nat) (a : Word) :
    (s.remapFull c a).hbm = s.hbm ∧ (s.remapFull c a).flash = s.flash := (remapFull_dawn s c a).memories fun _ => ⟨rfl, rfl⟩

@[simp] theorem correct_memories (s : State) (c : Nat) (a : Word) (bt : Nat) :
    (s.correct c a bt).hbm = s.hbm ∧ (s.correct c a bt).flash = s.flash := by
  unfold State.correct
  dsimp only
  repeat' split
  all_goals simp

@[simp] theorem memErrors_memories (s : State) (es : List MemEv) : (s.memErrors es).hbm = s.hbm ∧ (s.memErrors es).flash = s.flash := by
  simp [State.memErrors, State.memError, State.uncontained, State.countUe]

/-! ### The mending list, gates and rinse windows (R285 to R305) -/

@[simp] theorem onMend_memories (s : State) (n : Nat) (f : Mend → Mend) : (s.onMend n f).hbm = s.hbm ∧ (s.onMend n f).flash = s.flash := by
  simp [State.onMend]

@[simp] theorem list_memories (s : State) (n source : Nat) (ambig : Bool) :
    (s.list n source ambig).hbm = s.hbm ∧ (s.list n source ambig).flash = s.flash := by simp [State.list]

@[simp] theorem unlist_memories (s : State) (n arg : Nat) : (s.unlist n arg).hbm = s.hbm ∧ (s.unlist n arg).flash = s.flash := by
  unfold State.unlist
  split <;> simp

@[simp] theorem queueTest_memories (s : State) (n : Nat) : (s.queueTest n).hbm = s.hbm ∧ (s.queueTest n).flash = s.flash := by
  unfold State.queueTest
  split <;> simp

@[simp] theorem setAref_memories (s : State) (g : Nat) : (s.setAref g).hbm = s.hbm ∧ (s.setAref g).flash = s.flash := by
  simp [State.setAref]

@[simp] theorem gateReady_memories (s : State) (g : Nat) : (s.gateReady g).hbm = s.hbm ∧ (s.gateReady g).flash = s.flash := by
  simp [State.gateReady]

@[simp] theorem addAmp_memories (s : State) (g a : Nat) : (s.addAmp g a).hbm = s.hbm ∧ (s.addAmp g a).flash = s.flash := by
  unfold State.addAmp
  dsimp only
  repeat' split
  all_goals simp

@[simp] theorem judge_memories (s : State) (g n : Nat) (c : GateClass) : (s.judge g n c).hbm = s.hbm ∧ (s.judge g n c).flash = s.flash := by
  unfold State.judge
  dsimp only
  repeat' split
  all_goals simp

@[simp] theorem testNowDone_memories (s : State) (c : Nat) : (s.testNowDone c).hbm = s.hbm ∧ (s.testNowDone c).flash = s.flash := by
  simp [State.testNowDone]

@[simp] theorem windowEnd_memories (s : State) (g : Nat) (x : TestShot) (pre v : List Nat) :
    (s.windowEnd g x pre v).hbm = s.hbm ∧ (s.windowEnd g x pre v).flash = s.flash := by
  unfold State.windowEnd
  dsimp only
  repeat' split
  all_goals simp

@[simp] theorem gateAdjust_memories (s : State) (g : Nat) : (s.gateAdjust g).hbm = s.hbm ∧ (s.gateAdjust g).flash = s.flash := by
  simp [State.gateAdjust]

@[simp] theorem gateAdvance_memories (s : State) (g : Nat) : (s.gateAdvance g).hbm = s.hbm ∧ (s.gateAdvance g).flash = s.flash := by
  simp [State.gateAdvance]

@[simp] theorem gateStep_memories (s : State) (g : Nat) (bins : List Nat) :
    (s.gateStep g bins).hbm = s.hbm ∧ (s.gateStep g bins).flash = s.flash := by simp [State.gateStep]

@[simp] theorem gateStore_memories (s : State) (g : Nat) : (s.gateStore g).hbm = s.hbm ∧ (s.gateStore g).flash = s.flash := by
  simp [State.gateStore]

@[simp] theorem burstDue_memories (s : State) (b c : Nat) : (s.burstDue b c).hbm = s.hbm ∧ (s.burstDue b c).flash = s.flash := by
  simp [State.burstDue]

@[simp] theorem openWindow_memories (s : State) (b kind lines : Nat) :
    (s.openWindow b kind lines).hbm = s.hbm ∧ (s.openWindow b kind lines).flash = s.flash := by simp [State.openWindow]

@[simp] theorem closeWindow_memories (s : State) (b : Nat) : (s.closeWindow b).hbm = s.hbm ∧ (s.closeWindow b).flash = s.flash := by
  simp [State.closeWindow]

/-! ### The twin sequencers (R386 to R401) -/

@[simp] theorem addHist_memories (s : State) (b : Nat) (cells : List (Nat × Nat × Nat × Bool)) :
    (s.addHist b cells).hbm = s.hbm ∧ (s.addHist b cells).flash = s.flash := by simp [State.addHist]

@[simp] theorem addStat_memories (s : State) (b : Nat) (x : LineStat) : (s.addStat b x).hbm = s.hbm ∧ (s.addStat b x).flash = s.flash := by
  simp [State.addStat, State.leafLine]

@[simp] theorem onReg_memories (s : State) (b : Nat) (f : RegSum → RegSum) : (s.onReg b f).hbm = s.hbm ∧ (s.onReg b f).flash = s.flash := by
  simp [State.onReg]

@[simp] theorem restartY_memories (s : State) (b : Nat) : (s.restartY b).hbm = s.hbm ∧ (s.restartY b).flash = s.flash :=
  (restartY_keeps s b).memories fun _ => ⟨rfl, rfl⟩

@[simp] theorem applyLat_memories (s : State) (b l : Nat) : (s.applyLat b l).hbm = s.hbm ∧ (s.applyLat b l).flash = s.flash := by
  simp [State.applyLat, State.restartX]

@[simp] theorem setSq_memories (s : State) (n st : Nat) : (s.setSq n st).hbm = s.hbm ∧ (s.setSq n st).flash = s.flash :=
  (setSq_dawn s n st).memories fun _ => ⟨rfl, rfl⟩

@[simp] theorem takeControl_memories (s : State) (n : Nat) : (s.takeControl n).hbm = s.hbm ∧ (s.takeControl n).flash = s.flash := by
  simp [State.takeControl]

@[simp] theorem dropHandback_memories (s : State) : s.dropHandback.hbm = s.hbm ∧ s.dropHandback.flash = s.flash := by
  simp [State.dropHandback]

@[simp] theorem takeBars_memories (s : State) (mask : Nat) : (s.takeBars mask).hbm = s.hbm ∧ (s.takeBars mask).flash = s.flash := by
  simp [State.takeBars, State.handbackDone]

@[simp] theorem handback_memories (s : State) : s.handback.hbm = s.hbm ∧ s.handback.flash = s.flash := by simp [State.handback]

@[simp] theorem priorityCycle_memories (s : State) (n : Nat) : (s.priorityCycle n).hbm = s.hbm ∧ (s.priorityCycle n).flash = s.flash :=
  (priorityCycle_keeps s n).memories fun _ => ⟨rfl, rfl⟩

@[simp] theorem retireSq_memories (s : State) (n : Nat) : (s.retireSq n).hbm = s.hbm ∧ (s.retireSq n).flash = s.flash := by
  simp [State.retireSq]

@[simp] theorem giveUp_memories (s : State) (n cause : Nat) : (s.giveUp n cause).hbm = s.hbm ∧ (s.giveUp n cause).flash = s.flash := by
  simp [State.giveUp, State.countDoubled]

@[simp] theorem strike_memories (s : State) (n : Nat) : (s.strike n).hbm = s.hbm ∧ (s.strike n).flash = s.flash := by simp [State.strike]

@[simp] theorem sliceFail_memories (s : State) (n index : Nat) :
    (s.sliceFail n index).hbm = s.hbm ∧ (s.sliceFail n index).flash = s.flash := by simp [State.sliceFail]

@[simp] theorem cyclePass_memories (s : State) (n : Nat) : (s.cyclePass n).hbm = s.hbm ∧ (s.cyclePass n).flash = s.flash := by
  simp [State.cyclePass]

@[simp] theorem joinSq_memories (s : State) (n : Nat) : (s.joinSq n).hbm = s.hbm ∧ (s.joinSq n).flash = s.flash :=
  (joinSq_keeps s n).memories fun _ => ⟨rfl, rfl⟩

@[simp] theorem joinAborted_memories (s : State) : s.joinAborted.hbm = s.hbm ∧ s.joinAborted.flash = s.flash := by simp [State.joinAborted]

@[simp] theorem mismatchKnown_memories (s : State) (x : Mismatch) (outcome : Nat) :
    (s.mismatchKnown x outcome).hbm = s.hbm ∧ (s.mismatchKnown x outcome).flash = s.flash := by simp [State.mismatchKnown]

@[simp] theorem replayEffect_memories (s : State) (code : Nat) :
    (s.replayEffect code).hbm = s.hbm ∧ (s.replayEffect code).flash = s.flash := (replayEffect_keeps s code).memories fun _ => ⟨rfl, rfl⟩

/-! ### Live fields, serial lists and admission (R120 to R134, R222 to R249) -/

@[simp] theorem scheduleRejects_memories (s : State) : s.scheduleRejects.hbm = s.hbm ∧ s.scheduleRejects.flash = s.flash := by
  simp [State.scheduleRejects]

@[simp] theorem placePieces_memories (s : State) : s.placePieces.hbm = s.hbm ∧ s.placePieces.flash = s.flash := by simp [State.placePieces]

@[simp] theorem promoteSerial_memories (s : State) (k : Nat) : (s.promoteSerial k).hbm = s.hbm ∧ (s.promoteSerial k).flash = s.flash :=
  (promoteSerial_dawn s k).memories fun _ => ⟨rfl, rfl⟩

@[simp] theorem serialUse_memories (s : State) (k : Nat) : (s.serialUse k).hbm = s.hbm ∧ (s.serialUse k).flash = s.flash := by
  simp [State.serialUse]

@[simp] theorem counterStep_memories (s : State) (k : Nat) : (s.counterStep k).hbm = s.hbm ∧ (s.counterStep k).flash = s.flash := by
  simp [State.counterStep]

@[simp] theorem fieldFail_memories (s : State) (num cause ord : Nat) :
    (s.fieldFail num cause ord).hbm = s.hbm ∧ (s.fieldFail num cause ord).flash = s.flash := by
  unfold State.fieldFail
  split <;> simp

@[simp] theorem holdover_memories (s : State) (p : Piece) (usable : Bool) :
    (s.holdover p usable).hbm = s.hbm ∧ (s.holdover p usable).flash = s.flash := by simp [State.holdover]

@[simp] theorem render_memories (s : State) (p : Piece) (dead : List (Nat × Nat)) :
    (s.render p dead).hbm = s.hbm ∧ (s.render p dead).flash = s.flash := by simp [State.render]

/-! ### Decompressors, compressors and evidence (R149 to R173) -/

@[simp] theorem onBand_memories (s : State) (num entry : Nat) (f : BandRun → BandRun) :
    (s.onBand num entry f).hbm = s.hbm ∧ (s.onBand num entry f).flash = s.flash := by simp [State.onBand]

@[simp] theorem setOwner_memories (s : State) (b : BandRun) : (s.setOwner b).hbm = s.hbm ∧ (s.setOwner b).flash = s.flash := by
  simp [State.setOwner]

@[simp] theorem settleBand_memories (s : State) (num entry : Nat) :
    (s.settleBand num entry).hbm = s.hbm ∧ (s.settleBand num entry).flash = s.flash := by
  unfold State.settleBand
  split <;> simp

@[simp] theorem moveBand_memories (s : State) (n num entry : Nat) :
    (s.moveBand n num entry).hbm = s.hbm ∧ (s.moveBand n num entry).flash = s.flash := by
  unfold State.moveBand
  repeat' split
  all_goals simp

@[simp] theorem moveAll_memories (s : State) (n : Nat) : (s.moveAll n).hbm = s.hbm ∧ (s.moveAll n).flash = s.flash := by
  simp [State.moveAll]

@[simp] theorem moveDue_memories (s : State) (n : Nat) : (s.moveDue n).hbm = s.hbm ∧ (s.moveDue n).flash = s.flash := by
  simp [State.moveDue]

@[simp] theorem leaveAll_memories (s : State) (n : Nat) : (s.leaveAll n).hbm = s.hbm ∧ (s.leaveAll n).flash = s.flash := by
  simp [State.leaveAll]

@[simp] theorem spoil_memories (s : State) (num entry : Nat) (k : JobKind) (from_ till : Nat) :
    (s.spoil num entry k from_ till).hbm = s.hbm ∧ (s.spoil num entry k from_ till).flash = s.flash := by
  unfold State.spoil
  dsimp only
  split <;> simp

@[simp] theorem failSeg_memories (s : State) (n : Nat) (j : LineJob) (g : Seg) (cause : Nat) :
    (s.failSeg n j g cause).hbm = s.hbm ∧ (s.failSeg n j g cause).flash = s.flash := by simp [State.failSeg]

@[simp] theorem admitReady_memories (s : State) : s.admitReady.hbm = s.hbm ∧ s.admitReady.flash = s.flash :=
  (admitReady_queue s).memories fun _ => ⟨rfl, rfl⟩

@[simp] theorem putLine_memories (s : State) (n : Nat) (j : LineJob) (c : Container) (g : Seg) (data : List Byte) :
    (s.putLine n j c g data).hbm = s.hbm ∧ (s.putLine n j c g data).flash = s.flash := by
  simp [State.putLine]
  split <;> simp

@[simp] theorem dxRest_memories (s : State) (n : Nat) : (s.dxRest n).hbm = s.hbm ∧ (s.dxRest n).flash = s.flash :=
  (dxRest_dawn s n).memories fun _ => ⟨rfl, rfl⟩

@[simp] theorem lineJob_memories (s : State) (n : Nat) (stalled : Bool) (evs : List MemEv) :
    (s.lineJob n stalled evs).hbm = s.hbm ∧ (s.lineJob n stalled evs).flash = s.flash := by
  unfold State.lineJob
  dsimp only
  repeat' split
  all_goals simp

@[simp] theorem dxResume_memories (s : State) (n : Nat) : (s.dxResume n).hbm = s.hbm ∧ (s.dxResume n).flash = s.flash := by
  unfold State.dxResume
  dsimp only
  repeat' split
  all_goals simp

@[simp] theorem dxAbort_memories (s : State) (n : Nat) : (s.dxAbort n).1.hbm = s.hbm ∧ (s.dxAbort n).1.flash = s.flash := by
  unfold State.dxAbort
  dsimp only
  repeat' split
  all_goals simp

@[simp] theorem redecode_memories (s : State) (num entry line : Nat) :
    (s.redecode num entry line).hbm = s.hbm ∧ (s.redecode num entry line).flash = s.flash := by
  unfold State.redecode
  dsimp only
  repeat' split
  all_goals simp

@[simp] theorem sendBuffer_memories (s : State) (a : Nat) (e : Evd) (again : Bool) :
    (s.sendBuffer a e again).hbm = s.hbm ∧ (s.sendBuffer a e again).flash = s.flash := by simp [State.sendBuffer]

@[simp] theorem evdResend_memories (s : State) (a : Nat) : (s.evdResend a).hbm = s.hbm ∧ (s.evdResend a).flash = s.flash := by
  unfold State.evdResend
  split <;> simp

@[simp] theorem outWait_memories (s : State) (n w : Nat) : (s.outWait n w).hbm = s.hbm ∧ (s.outWait n w).flash = s.flash := by
  simp [State.outWait]

@[simp] theorem cxUse_memories (s : State) (n a : Nat) : (s.cxUse n a).hbm = s.hbm ∧ (s.cxUse n a).flash = s.flash := by simp [State.cxUse]

@[simp] theorem cxEnd_memories (s : State) (n : Nat) (crop : Crop) (aborted : Bool) :
    (s.cxEnd n crop aborted).hbm = s.hbm ∧ (s.cxEnd n crop aborted).flash = s.flash := by simp [State.cxEnd]

@[simp] theorem cxOpen_memories (s : State) (n : Nat) (bad : Bool) : (s.cxOpen n bad).hbm = s.hbm ∧ (s.cxOpen n bad).flash = s.flash := by
  unfold State.cxOpen
  split <;> simp

/-! ### Codes and the darning of nozzles (R208 to R211, R306 to R310) -/

@[simp] theorem takePeriod_memories (s : State) (b : Nat) (tr : Trigger) :
    (s.takePeriod b tr).hbm = s.hbm ∧ (s.takePeriod b tr).flash = s.flash := by simp [State.takePeriod]

@[simp] theorem undarned_memories (s : State) (n : Nat) : (s.undarned n).hbm = s.hbm ∧ (s.undarned n).flash = s.flash := by
  unfold State.undarned
  dsimp only
  split <;> simp

theorem darnNeighbours_memories (a : DarnAcc) (q : Piece) (j k : Nat) (n : Noz) (l r : Option Noz) :
    (darnNeighbours a q j k n l r).1.hbm = a.1.hbm ∧ (darnNeighbours a q j k n l r).1.flash = a.1.flash := by
  unfold darnNeighbours
  dsimp only
  split <;> simp [DarnAcc.put]

theorem darnOwn_memories (a : DarnAcc) (q : Piece) (j : Nat) (n : Noz) :
    (darnOwn a q j n).1.hbm = a.1.hbm ∧ (darnOwn a q j n).1.flash = a.1.flash := by
  unfold darnOwn
  extract_lets s kc
  split
  · simp [DarnAcc.method]
  · split
    · simp [s]
    · split <;> simp [DarnAcc.method, DarnAcc.put, darnNeighbours_memories, s]

theorem darnFor_memories (a : DarnAcc) (q : Piece) (j : Nat) (n m : Noz) :
    (darnFor a q j n m).1.hbm = a.1.hbm ∧ (darnFor a q j n m).1.flash = a.1.flash := by
  unfold darnFor
  extract_lets s kc
  split
  · simp
  · split <;> simp [apply_ite Prod.fst, DarnAcc.put]

theorem darnOne_memories (b l : Nat) (a : DarnAcc) (n : Noz) :
    (darnOne b l a n).1.hbm = a.1.hbm ∧ (darnOne b l a n).1.flash = a.1.flash := by
  unfold darnOne
  extract_lets s
  split
  · split
    · exact darnOwn_memories ..
    · simp
  · split
    · generalize s.nozzlesAt b (n.place + s.rdI (R.BAR_LAT_LAT b)) = ms
      refine foldl_fst_memories (fun r m => ?_) ms a
      split
      · simp [apply_ite Prod.fst, darnFor_memories]
      · simp
    · simp

@[simp] theorem darnLine_memories (s : State) (b l : Nat) : (s.darnLine b l).1.hbm = s.hbm ∧ (s.darnLine b l).1.flash = s.flash :=
  foldl_fst_memories (darnOne_memories b l) _ _

/-! ### One line of a bar (R206 to R215) -/

@[simp] theorem sendOnLane_memories (s : State) (b count lseq lane : Nat) (l : List OutCh) :
    (s.sendOnLane b count lseq lane l).1.hbm = s.hbm ∧ (s.sendOnLane b count lseq lane l).1.flash = s.flash := by simp [State.sendOnLane]

@[simp] theorem noteFires_memories (s : State) (b : Nat) (fs : List Nat) :
    (s.noteFires b fs).hbm = s.hbm ∧ (s.noteFires b fs).flash = s.flash := by simp [State.noteFires]

@[simp] theorem sendLine_memories (s : State) (b count lseq lp : Nat) (rinse : Bool) (l : List OutCh) :
    (s.sendLine b count lseq lp rinse l).hbm = s.hbm ∧ (s.sendLine b count lseq lp rinse l).flash = s.flash := by
  unfold State.sendLine
  split
  · simp
  · have h := foldl_fst_memories (f := fun (a : State × List FlightCh) lane =>
      let on := l.filter (fun x => s.laneOf x.chan == lane)
      if on.isEmpty then a else ((a.1.sendOnLane b count lseq lane on).1, a.2 ++ (a.1.sendOnLane b count lseq lane on).2))
      (fun a lane => by simp [apply_ite Prod.fst]) (List.range 16) (s, [])
    simpa using h

@[simp] theorem fixInstants_memories (s : State) (b : Nat) (bound lp reg : Int) (cs : List Nat) :
    (s.fixInstants b bound lp reg cs).1.hbm = s.hbm ∧ (s.fixInstants b bound lp reg cs).1.flash = s.flash := by simp [State.fixInstants]

@[simp] theorem beginPiece_memories (s : State) (b l : Nat) (p : Piece) :
    (s.beginPiece b l p).hbm = s.hbm ∧ (s.beginPiece b l p).flash = s.flash := by simp [State.beginPiece]

@[simp] theorem boundary_memories (s : State) (b l : Nat) : (s.boundary b l).hbm = s.hbm ∧ (s.boundary b l).flash = s.flash := by
  simp [State.boundary]

@[simp] theorem countFormed_memories (s : State) (b l : Nat) : (s.countFormed b l).hbm = s.hbm ∧ (s.countFormed b l).flash = s.flash := by
  simp [State.countFormed]

@[simp] theorem markEnds_memories (s : State) (b l : Nat) : (s.markEnds b l).hbm = s.hbm ∧ (s.markEnds b l).flash = s.flash := by
  simp [State.markEnds]

@[simp] theorem openGap_memories (s : State) (b l : Nat) : (s.openGap b l).hbm = s.hbm ∧ (s.openGap b l).flash = s.flash := by
  unfold State.openGap
  dsimp only
  split <;> simp

@[simp] theorem endPieces_memories (s : State) (b : Nat) : (s.endPieces b).hbm = s.hbm ∧ (s.endPieces b).flash = s.flash := by
  simp [State.endPieces]

@[simp] theorem freeSlots_memories (s : State) : s.freeSlots.hbm = s.hbm ∧ s.freeSlots.flash = s.flash := by simp [State.freeSlots]

@[simp] theorem lateFields_memories (s : State) (b l : Nat) : (s.lateFields b l).hbm = s.hbm ∧ (s.lateFields b l).flash = s.flash := by
  unfold State.lateFields
  refine foldl_memories (fun t x => ?_) _ _
  split <;> simp

@[simp] theorem deadField_memories (s : State) (b l num ord : Nat) :
    (s.deadField b l num ord).hbm = s.hbm ∧ (s.deadField b l num ord).flash = s.flash := by simp [State.deadField]

@[simp] theorem formErrors_memories (s : State) (b l : Nat) (evs : List MemEv) :
    (s.formErrors b l evs).hbm = s.hbm ∧ (s.formErrors b l evs).flash = s.flash := by simp [State.formErrors]

@[simp] theorem withListed_memories (s : State) (ns : List Nat) : (s.withListed ns).hbm = s.hbm ∧ (s.withListed ns).flash = s.flash := by
  simp [State.withListed]

@[simp] theorem placeTest_memories (s : State) (g b count lseq lp n : Nat) (sweep : Bool) (c i fire : Nat) :
    (s.placeTest g b count lseq lp n sweep c i fire).hbm = s.hbm ∧ (s.placeTest g b count lseq lp n sweep c i fire).flash = s.flash := by
  simp [State.placeTest]

@[simp] theorem spitLine_memories (s : State) (b count lseq lp : Nat) (fires : List (Nat × Nat)) :
    (s.spitLine b count lseq lp fires).hbm = s.hbm ∧ (s.spitLine b count lseq lp fires).flash = s.flash := by
  simp [State.spitLine, State.spitDone]

@[simp] theorem dueBursts_memories (s : State) (b : Nat) : (s.dueBursts b).hbm = s.hbm ∧ (s.dueBursts b).flash = s.flash := by
  simp [State.dueBursts]

@[simp] theorem rinseLine_memories (s : State) (b count lseq : Nat) (bound lp reg : Int) (cs : List Nat) (tests spits : Bool) :
    (s.rinseLine b count lseq bound lp reg cs tests spits).hbm = s.hbm ∧ (s.rinseLine b count lseq bound lp reg cs tests spits).flash = s.flash := by
  unfold State.rinseLine
  repeat' split
  all_goals simp

@[simp] theorem spitting_memories (s : State) (b : Nat) : (s.spitting b).hbm = s.hbm ∧ (s.spitting b).flash = s.flash := by
  simp [State.spitting]

@[simp] theorem countLine_memories (s : State) (b : Nat) (l : Option Nat) :
    (s.countLine b l).hbm = s.hbm ∧ (s.countLine b l).flash = s.flash := by simp [State.countLine]

@[simp] theorem countBad_memories (s : State) (ps : List Nat) : (s.countBad ps).hbm = s.hbm ∧ (s.countBad ps).flash = s.flash := by
  simp [State.countBad]

@[simp] theorem rejectBand_memories (s : State) (ps : List Nat) : (s.rejectBand ps).hbm = s.hbm ∧ (s.rejectBand ps).flash = s.flash := by
  simp [State.rejectBand]

@[simp] theorem makeLine_memories (s : State) (b l : Nat) (p : Int × Option Int) (evs : List MemEv) :
    (s.makeLine b l p evs).hbm = s.hbm ∧ (s.makeLine b l p evs).flash = s.flash := by simp [State.makeLine]

@[simp] theorem updateLeads_memories (s : State) : s.updateLeads.hbm = s.hbm ∧ s.updateLeads.flash = s.flash := by simp [State.updateLeads]

@[simp] theorem formLine_memories (s : State) (b : Nat) (tr : Trigger) (evs : List MemEv) :
    (s.formLine b tr evs).hbm = s.hbm ∧ (s.formLine b tr evs).flash = s.flash := by simp [State.formLine]

@[simp] theorem parkLine_memories (s : State) (b : Nat) : (s.parkLine b).hbm = s.hbm ∧ (s.parkLine b).flash = s.flash := by
  simp [State.parkLine]

end Sys2Proof.Machine
end

section
/-! PROOFS. Both memories, part 2: what the rest of the module does leaves them alone. -/

namespace Sys2Proof.Machine

/-! ### Camera lanes and pipelines (R311 to R339) -/

@[simp] theorem camTrigger_memories (s : State) (src : Nat) : (s.camTrigger src).hbm = s.hbm ∧ (s.camTrigger src).flash = s.flash :=
  (camTrigger_keeps s src).memories fun _ => ⟨rfl, rfl⟩

@[simp] theorem encoutTriggers_memories (s : State) (ps : List (Nat × Nat)) :
    (s.encoutTriggers ps).hbm = s.hbm ∧ (s.encoutTriggers ps).flash = s.flash := (encoutTriggers_keeps s ps).memories fun _ => ⟨rfl, rfl⟩

@[simp] theorem camSend_memories (s : State) (n cmd sid : Nat) (payload : List Byte) :
    (s.camSend n cmd sid payload).hbm = s.hbm ∧ (s.camSend n cmd sid payload).flash = s.flash := by simp [State.camSend]

@[simp] theorem armCam_memories (s : State) (n : Nat) : (s.armCam n).hbm = s.hbm ∧ (s.armCam n).flash = s.flash := by simp [State.armCam]

@[simp] theorem armRelease_memories (s : State) (n : Nat) : (s.armRelease n).hbm = s.hbm ∧ (s.armRelease n).flash = s.flash := by
  unfold State.armRelease
  split <;> simp

@[simp] theorem takePacket_memories (s : State) (n : Nat) (p : Packet) :
    (s.takePacket n p).1.hbm = s.hbm ∧ (s.takePacket n p).1.flash = s.flash := by simp [State.takePacket, apply_ite Prod.fst]

@[simp] theorem learnWhite_memories (s : State) (n : Nat) (f : CamFrame) :
    (s.learnWhite n f).hbm = s.hbm ∧ (s.learnWhite n f).flash = s.flash := by simp [State.learnWhite]

@[simp] theorem onFrame_memories (s : State) (n : Nat) (g : CamFrame → CamFrame) :
    (s.onFrame n g).hbm = s.hbm ∧ (s.onFrame n g).flash = s.flash := by simp [State.onFrame]

@[simp] theorem endCrop_memories (s : State) (n : Nat) (cut : Bool) :
    (s.endCrop n cut).hbm = s.hbm ∧ (s.endCrop n cut).flash = s.flash := by
  unfold State.endCrop
  split <;> simp [State.cropDone]

@[simp] theorem overflow_memories (s : State) (n k : Nat) : (s.overflow n k).hbm = s.hbm ∧ (s.overflow n k).flash = s.flash := by
  unfold State.overflow
  split <;> simp

@[simp] theorem s1Line_memories (s : State) (n : Nat) (l : CamLine) : (s.s1Line n l).hbm = s.hbm ∧ (s.s1Line n l).flash = s.flash := by
  unfold State.s1Line
  dsimp only
  repeat' split
  all_goals simp

@[simp] theorem s2Flush_memories (s : State) (n : Nat) : (s.s2Flush n).hbm = s.hbm ∧ (s.s2Flush n).flash = s.flash := by
  unfold State.s2Flush
  split <;> simp

@[simp] theorem writeProfile_memories (s : State) (n : Nat) (f : CamFrame) :
    (s.writeProfile n f).hbm = s.hbm ∧ (s.writeProfile n f).flash = s.flash := by simp [State.writeProfile]

@[simp] theorem flicker_memories (s : State) (n : Nat) (f : CamFrame) :
    (s.flicker n f).1.hbm = s.hbm ∧ (s.flicker n f).1.flash = s.flash := by
  unfold State.flicker
  split
  · simp
  · split <;> simp

@[simp] theorem writeRecord_memories (s : State) (n : Nat) (f : CamFrame) (x : FrameFlags) :
    (s.writeRecord n f x).hbm = s.hbm ∧ (s.writeRecord n f x).flash = s.flash := by simp [State.writeRecord]

@[simp] theorem dropFrame_memories (s : State) (n : Nat) (f : CamFrame) (short : Bool) :
    (s.dropFrame n f short).hbm = s.hbm ∧ (s.dropFrame n f short).flash = s.flash := by simp [State.dropFrame]

@[simp] theorem frameEnds_memories (s : State) (n : Nat) (f : CamFrame) :
    (s.frameEnds n f).1.hbm = s.hbm ∧ (s.frameEnds n f).1.flash = s.flash := by simp [State.frameEnds]

@[simp] theorem imageLine_memories (s : State) (n : Nat) (p : Packet) (lineNo : Option (BitVec 16)) (full : BitVec 4) (evs : List MemEv) :
    (s.imageLine n p lineNo full evs).hbm = s.hbm ∧ (s.imageLine n p lineNo full evs).flash = s.flash := by
  simp [State.imageLine, State.s2Line]
  split <;> simp

@[simp] theorem embeddedLine_memories (s : State) (n : Nat) (p : Packet) :
    (s.embeddedLine n p).hbm = s.hbm ∧ (s.embeddedLine n p).flash = s.flash := by
  unfold State.embeddedLine
  dsimp only
  repeat' split
  all_goals simp

@[simp] theorem believe_memories (s : State) (n : Nat) : (s.believe n).hbm = s.hbm ∧ (s.believe n).flash = s.flash := by
  unfold State.believe
  split <;> simp

@[simp] theorem camReply_memories (s : State) (n : Nat) (bs : List Byte) :
    (s.camReply n bs).hbm = s.hbm ∧ (s.camReply n bs).flash = s.flash := by simp [State.camReply]

@[simp] theorem ping_memories (s : State) (n : Nat) : (s.ping n).hbm = s.hbm ∧ (s.ping n).flash = s.flash := by simp [State.ping]

@[simp] theorem verifyFail_memories (s : State) (num ord result score : Nat) :
    (s.verifyFail num ord result score).hbm = s.hbm ∧ (s.verifyFail num ord result score).flash = s.flash := by
  simp [State.verifyFail]
  split <;> simp

@[simp] theorem fieldCheck_memories (s : State) (n num ord : Nat) :
    (s.fieldCheck n num ord).hbm = s.hbm ∧ (s.fieldCheck n num ord).flash = s.flash := by
  unfold State.fieldCheck
  repeat' split
  all_goals simp

/-! ### The Ironing loop, streaks and registration (R297, R343 to R357) -/

@[simp] theorem setEst_memories (s : State) (n i k : Nat) (e : ℚ) (valid : Bool) :
    (s.setEst n i k e valid).hbm = s.hbm ∧ (s.setEst n i k e valid).flash = s.flash := by simp [State.setEst]

@[simp] theorem admitFrame_memories (s : State) (n : Nat) (f : CamFrame) (flk lost : Bool) :
    (s.admitFrame n f flk lost).1.hbm = s.hbm ∧ (s.admitFrame n f flk lost).1.flash = s.flash := by
  simp [State.admitFrame, apply_ite Prod.fst]

@[simp] theorem solveBin_memories (s : State) (n i p : Nat) : (s.solveBin n i p).hbm = s.hbm ∧ (s.solveBin n i p).flash = s.flash := by
  unfold State.solveBin
  extract_lets x own least big ks ds rhs sol
  split
  · simp
  · refine foldl_memories (fun t k => ?_) _ _
    dsimp only
    split <;> simp

@[simp] theorem accumulate_memories (s : State) (n : Nat) (f : CamFrame) :
    (s.accumulate n f).hbm = s.hbm ∧ (s.accumulate n f).flash = s.flash := by simp [State.accumulate]

@[simp] theorem loseBin_memories (s : State) (n i : Nat) : (s.loseBin n i).hbm = s.hbm ∧ (s.loseBin n i).flash = s.flash := by
  simp [State.loseBin]

@[simp] theorem ironReset_memories (s : State) (k : Nat) : (s.ironReset k).hbm = s.hbm ∧ (s.ironReset k).flash = s.flash := by
  simp [State.ironReset]

@[simp] theorem streakBin_memories (s : State) (n i k : Nat) (spans : List (Int × Int)) (measured : Nat) (r : List ℚ) :
    (s.streakBin n i k spans measured r).hbm = s.hbm ∧ (s.streakBin n i k spans measured r).flash = s.flash := by
  unfold State.streakBin
  dsimp only
  repeat' split
  all_goals simp

@[simp] theorem streaks_memories (s : State) (n : Nat) (f : CamFrame) : (s.streaks n f).hbm = s.hbm ∧ (s.streaks n f).flash = s.flash := by
  simp [State.streaks]

@[simp] theorem regReport_memories (s : State) (b : Nat) (spacing : ℚ) :
    (s.regReport b spacing).hbm = s.hbm ∧ (s.regReport b spacing).flash = s.flash := by simp [State.regReport]

@[simp] theorem register_memories (s : State) (n : Nat) (f : CamFrame) :
    (s.register n f).hbm = s.hbm ∧ (s.register n f).flash = s.flash := by
  unfold State.register
  refine foldl_memories (fun t x => ?_) _ _
  split <;> simp

@[simp] theorem ironFrame_memories (s : State) (n : Nat) (f : CamFrame) (flk : Bool) (evs : List MemEv) :
    (s.ironFrame n f flk evs).hbm = s.hbm ∧ (s.ironFrame n f flk evs).flash = s.flash := by simp [State.ironFrame]

@[simp] theorem moveGains_memories (s : State) (b : Nat) : (s.moveGains b).hbm = s.hbm ∧ (s.moveGains b).flash = s.flash :=
  (moveGains_keeps s b).memories fun _ => ⟨rfl, rfl⟩

@[simp] theorem moveReg_memories (s : State) (b : Nat) : (s.moveReg b).hbm = s.hbm ∧ (s.moveReg b).flash = s.flash :=
  (moveReg_keeps s b).memories fun _ => ⟨rfl, rfl⟩

@[simp] theorem moveLat_memories (s : State) (b : Nat) : (s.moveLat b).hbm = s.hbm ∧ (s.moveLat b).flash = s.flash :=
  (moveLat_keeps s b).memories fun _ => ⟨rfl, rfl⟩

@[simp] theorem updatePoint_memories (s : State) (b : Nat) : (s.updatePoint b).hbm = s.hbm ∧ (s.updatePoint b).flash = s.flash := by
  simp [State.updatePoint]

@[simp] theorem endFrame_memories (s : State) (n : Nat) (evs : List MemEv) :
    (s.endFrame n evs).hbm = s.hbm ∧ (s.endFrame n evs).flash = s.flash := by
  unfold State.endFrame
  split
  · simp
  · dsimp only
    split <;> simp

@[simp] theorem camAbort_memories (s : State) (n : Nat) : (s.camAbort n).1.hbm = s.hbm ∧ (s.camAbort n).1.flash = s.flash := by
  unfold State.camAbort
  split <;> simp

@[simp] theorem frameStart_memories (s : State) (n : Nat) (p : Packet) :
    (s.frameStart n p).hbm = s.hbm ∧ (s.frameStart n p).flash = s.flash := by simp [State.frameStart, State.beginFrame, State.issueSettings]

@[simp] theorem frameEnd_memories (s : State) (n : Nat) (p : Packet) (evs : List MemEv) :
    (s.frameEnd n p evs).hbm = s.hbm ∧ (s.frameEnd n p evs).flash = s.flash := by simp [State.frameEnd]

@[simp] theorem camLaneLost_memories (s : State) (n invalid noIdle : Nat) :
    (s.camLaneLost n invalid noIdle).hbm = s.hbm ∧ (s.camLaneLost n invalid noIdle).flash = s.flash := by simp [State.camLaneLost]

@[simp] theorem camLaneLock_memories (s : State) (n sets : Nat) :
    (s.camLaneLock n sets).hbm = s.hbm ∧ (s.camLaneLock n sets).flash = s.flash := by simp [State.camLaneLock]

/-! ### Tables, messages and subscribers (R88 to R109) -/

@[simp] theorem tableWrite_memories (s : State) (a : Nat) (w : Word) :
    (s.tableWrite a w).hbm = s.hbm ∧ (s.tableWrite a w).flash = s.flash := by
  unfold State.tableWrite
  split <;> simp [State.madeGood]

@[simp] theorem loopMark_memories (s : State) (i : Nat) : (s.loopMark i).hbm = s.hbm ∧ (s.loopMark i).flash = s.flash := by
  simp [State.loopMark]

/-! ### Pieces, windows, probes and rejects (R120 to R140, R190) -/

@[simp] theorem winOpen_memories (s : State) (n : Nat) : (s.winOpen n).hbm = s.hbm ∧ (s.winOpen n).flash = s.flash := by
  simp [State.winOpen]

@[simp] theorem queuePiece_memories (s : State) (d : List Byte) : (s.queuePiece d).1.hbm = s.hbm ∧ (s.queuePiece d).1.flash = s.flash := by
  unfold State.queuePiece
  dsimp only
  repeat' split
  all_goals simp

@[simp] theorem endRepeats_memories (s : State) (p : Piece) : (s.endRepeats p).hbm = s.hbm ∧ (s.endRepeats p).flash = s.flash :=
  (endRepeats_queue s p).memories fun _ => ⟨rfl, rfl⟩

@[simp] theorem refusePiece_memories (s : State) (p : Piece) (reason detail : Nat) :
    (s.refusePiece p reason detail).hbm = s.hbm ∧ (s.refusePiece p reason detail).flash = s.flash := by simp [State.refusePiece]

@[simp] theorem reserve_memories (s : State) (p : Piece) (cs : List (Nat × Nat)) (c : Costs) (bands : List BandRun) :
    (s.reserve p cs c bands).hbm = s.hbm ∧ (s.reserve p cs c bands).flash = s.flash :=
  (reserve_queue s p cs c bands).memories fun _ => ⟨rfl, rfl⟩

@[simp] theorem admission_memories (s : State) (num : Nat) : (s.admission num).hbm = s.hbm ∧ (s.admission num).flash = s.flash := by
  unfold State.admission
  dsimp only
  repeat' split
  all_goals simp

@[simp] theorem unbound_memories (s : State) (p line : Nat) : (s.unbound p line).hbm = s.hbm ∧ (s.unbound p line).flash = s.flash := by
  simp [State.unbound]

@[simp] theorem bind_memories (s : State) (k : Nat) (p : Piece) (line t : Nat) (smp : Int × Bool) :
    (s.bind k p line t smp).hbm = s.hbm ∧ (s.bind k p line t smp).flash = s.flash := by simp [State.bind, State.armStart]

@[simp] theorem latchProbe_memories (s : State) (p t : Nat) : (s.latchProbe p t).hbm = s.hbm ∧ (s.latchProbe p t).flash = s.flash := by
  simp [State.latchProbe]

@[simp] theorem probeEdge_memories (s : State) (p : Nat) (rising : Bool) (age : Nat) :
    (s.probeEdge p rising age).hbm = s.hbm ∧ (s.probeEdge p rising age).flash = s.flash := by
  unfold State.probeEdge
  dsimp only
  repeat' split
  all_goals simp

@[simp] theorem verifyLate_memories (s : State) (num : Nat) : (s.verifyLate num).hbm = s.hbm ∧ (s.verifyLate num).flash = s.flash := by
  unfold State.verifyLate
  split <;> simp

@[simp] theorem rejectAct_memories (s : State) (num : Nat) : (s.rejectAct num).hbm = s.hbm ∧ (s.rejectAct num).flash = s.flash := by
  unfold State.rejectAct
  split <;> simp

/-! ### DMA channels (R141 to R147) -/

@[simp] theorem dmaMode_memories (s : State) (n v : Nat) : (s.dmaMode n v).hbm = s.hbm ∧ (s.dmaMode n v).flash = s.flash := by
  simp [State.dmaMode]

/-! ### Network ports, PTP and time bases (R358 to R385) -/

@[simp] theorem tbFlags_memories (s : State) (k : Nat) : (s.tbFlags k).hbm = s.hbm ∧ (s.tbFlags k).flash = s.flash := by
  simp [State.tbFlags, State.oneOff]

@[simp] theorem setTb_memories (s : State) (k code : Nat) : (s.setTb k code).hbm = s.hbm ∧ (s.setTb k code).flash = s.flash := by
  simp [State.setTb]

@[simp] theorem tbRate_memories (s : State) (k : Nat) (x : ℚ) : (s.tbRate k x).hbm = s.hbm ∧ (s.tbRate k x).flash = s.flash :=
  (tbRate_dawn s k x).memories fun _ => ⟨rfl, rfl⟩

@[simp] theorem enterHoldover_memories (s : State) (k : Nat) : (s.enterHoldover k).hbm = s.hbm ∧ (s.enterHoldover k).flash = s.flash := by
  simp [State.enterHoldover]

@[simp] theorem tpArm_memories (s : State) (p : Nat) : (s.tpArm p).hbm = s.hbm ∧ (s.tpArm p).flash = s.flash :=
  (tpArm_dawn s p).memories fun _ => ⟨rfl, rfl⟩

@[simp] theorem snapshotTime_memories (s : State) : s.snapshotTime.hbm = s.hbm ∧ s.snapshotTime.flash = s.flash := by
  simp [State.snapshotTime]

@[simp] theorem tpFire_memories (s : State) (p n : Nat) (late : Bool) :
    (s.tpFire p n late).hbm = s.hbm ∧ (s.tpFire p n late).flash = s.flash := by simp [State.tpFire]

@[simp] theorem stepTb_memories (s : State) (k : Nat) (v : Int) : (s.stepTb k v).hbm = s.hbm ∧ (s.stepTb k v).flash = s.flash := by
  simp [State.stepTb]

@[simp] theorem refuseJump_memories (s : State) (k : Nat) (o : ℚ) :
    (s.refuseJump k o).hbm = s.hbm ∧ (s.refuseJump k o).flash = s.flash := by simp [State.refuseJump]

@[simp] theorem clearJump_memories (s : State) (k : Nat) : (s.clearJump k).hbm = s.hbm ∧ (s.clearJump k).flash = s.flash := by
  simp [State.clearJump]

@[simp] theorem utcFollow_memories (s : State) (i : Nat) (leap : Bool) :
    (s.utcFollow i leap).hbm = s.hbm ∧ (s.utcFollow i leap).flash = s.flash := by simp [State.utcFollow]

@[simp] theorem utcSource_memories (s : State) (k : Nat) : (s.utcSource k).hbm = s.hbm ∧ (s.utcSource k).flash = s.flash := by
  unfold State.utcSource
  split
  · simp
  · split <;> simp

@[simp] theorem ptpShow_memories (s : State) (n : Nat) : (s.ptpShow n).hbm = s.hbm ∧ (s.ptpShow n).flash = s.flash := by
  unfold State.ptpShow
  split <;> simp

@[simp] theorem onPtp_memories (s : State) (i n : Nat) (f : PtpPort → PtpPort) :
    (s.onPtp i n f).hbm = s.hbm ∧ (s.onPtp i n f).flash = s.flash := by simp [State.onPtp]

@[simp] theorem noParent_memories (s : State) (i : Nat) : (s.noParent i).hbm = s.hbm ∧ (s.noParent i).flash = s.flash := by
  simp [State.noParent]

@[simp] theorem ptpDecide_memories (s : State) (i n : Nat) (best : Option (Foreign × Nat)) :
    (s.ptpDecide i n best).hbm = s.hbm ∧ (s.ptpDecide i n best).flash = s.flash := by
  unfold State.ptpDecide
  split
  · simp
  · split <;> simp

@[simp] theorem bmca_memories (s : State) (i : Nat) : (s.bmca i).hbm = s.hbm ∧ (s.bmca i).flash = s.flash := by
  unfold State.bmca
  dsimp only
  split <;> simp [State.parentData]

@[simp] theorem ptpLink_memories (s : State) (n : Nat) (up : Bool) : (s.ptpLink n up).hbm = s.hbm ∧ (s.ptpLink n up).flash = s.flash := by
  simp [State.ptpLink]

@[simp] theorem ptpServe_memories (s : State) (h : PtpHdr) (ok : Bool) (f : State → State) (hf : ∀ t, (f t).hbm = t.hbm ∧ (f t).flash = t.flash) :
    (s.ptpServe h ok f).hbm = s.hbm ∧ (s.ptpServe h ok f).flash = s.flash := by simp [State.ptpServe, hf]

@[simp] theorem ptpOffset_memories (s : State) (i n : Nat) (t1c t2 : Int) (mean : ℚ) :
    (s.ptpOffset i n t1c t2 mean).hbm = s.hbm ∧ (s.ptpOffset i n t1c t2 mean).flash = s.flash := by
  simp [State.ptpOffset, State.instOffset, State.applyOffset]

@[simp] theorem setMean_memories (s : State) (n : Nat) (mean : ℚ) :
    (s.setMean n mean).hbm = s.hbm ∧ (s.setMean n mean).flash = s.flash := by simp [State.setMean]

@[simp] theorem syncDone_memories (s : State) (i n : Nat) (t1c t2 : Int) :
    (s.syncDone i n t1c t2).hbm = s.hbm ∧ (s.syncDone i n t1c t2).flash = s.flash := by
  unfold State.syncDone
  split
  · split <;> simp
  · simp

@[simp] theorem syncRx_memories (s : State) (h : PtpHdr) (followUp : Bool) (t1 t2 : Int) :
    (s.syncRx h followUp t1 t2).hbm = s.hbm ∧ (s.syncRx h followUp t1 t2).flash = s.flash := by
  simp [State.syncRx]
  split <;> simp

@[simp] theorem delayRespRx_memories (s : State) (h : PtpHdr) (t4 : Int) :
    (s.delayRespRx h t4).hbm = s.hbm ∧ (s.delayRespRx h t4).flash = s.flash := by
  unfold State.delayRespRx
  dsimp only
  split <;> simp

@[simp] theorem peerDone_memories (s : State) (i n : Nat) (t1 t2 t3 t4 c : Int) :
    (s.peerDone i n t1 t2 t3 t4 c).hbm = s.hbm ∧ (s.peerDone i n t1 t2 t3 t4 c).flash = s.flash := by simp [State.peerDone]

@[simp] theorem pdelayRespRx_memories (s : State) (h : PtpHdr) (followUp : Bool) (t2 t3 t4 : Int) :
    (s.pdelayRespRx h followUp t2 t3 t4).hbm = s.hbm ∧ (s.pdelayRespRx h followUp t2 t3 t4).flash = s.flash := by
  unfold State.pdelayRespRx
  dsimp only
  repeat' split
  all_goals simp

@[simp] theorem ptpTx_memories (s : State) (i n type : Nat) (seq : BitVec 16) (t c : Int) (req : Option (BitVec 64 × BitVec 16)) (ann : Option AnnounceData) :
    (s.ptpTx i n type seq t c req ann).hbm = s.hbm ∧ (s.ptpTx i n type seq t c req ann).flash = s.flash := by simp [State.ptpTx]

@[simp] theorem pdelayReqRx_memories (s : State) (h : PtpHdr) (t2 : Int) :
    (s.pdelayReqRx h t2).hbm = s.hbm ∧ (s.pdelayReqRx h t2).flash = s.flash := by simp [State.pdelayReqRx]

@[simp] theorem delayReqRx_memories (s : State) (h : PtpHdr) (t4 : Int) :
    (s.delayReqRx h t4).hbm = s.hbm ∧ (s.delayReqRx h t4).flash = s.flash := by simp [State.delayReqRx]

@[simp] theorem announceRx_memories (s : State) (h : PtpHdr) (a : AnnounceData) :
    (s.announceRx h a).hbm = s.hbm ∧ (s.announceRx h a).flash = s.flash := by simp [State.announceRx]

@[simp] theorem announceLost_memories (s : State) (i n : Nat) :
    (s.announceLost i n).hbm = s.hbm ∧ (s.announceLost i n).flash = s.flash := by simp [State.announceLost]

@[simp] theorem ptpPeriodic_memories (s : State) (i n kind : Nat) (t : Int) :
    (s.ptpPeriodic i n kind t).hbm = s.hbm ∧ (s.ptpPeriodic i n kind t).flash = s.flash := by
  unfold State.ptpPeriodic
  split <;> simp

@[simp] theorem linkLost_memories (s : State) (n cause : Nat) :
    (s.linkLost n cause).hbm = s.hbm ∧ (s.linkLost n cause).flash = s.flash := by simp [State.linkLost]

@[simp] theorem linkReport_memories (s : State) (n : Nat) (lock fec an : Bool) :
    (s.linkReport n lock fec an).hbm = s.hbm ∧ (s.linkReport n lock fec an).flash = s.flash := by simp [State.linkReport]

@[simp] theorem arpAnswer_memories (s : State) (n : Nat) (mac : BitVec 48) (ip : Word) :
    (s.arpAnswer n mac ip).hbm = s.hbm ∧ (s.arpAnswer n mac ip).flash = s.flash := by simp [State.arpAnswer]

@[simp] theorem arpAgain_memories (s : State) (n : Nat) (ip : Word) :
    (s.arpAgain n ip).hbm = s.hbm ∧ (s.arpAgain n ip).flash = s.flash := by
  unfold State.arpAgain
  split <;> simp

@[simp] theorem arpExpire_memories (s : State) (n : Nat) (ip : Word) :
    (s.arpExpire n ip).hbm = s.hbm ∧ (s.arpExpire n ip).flash = s.flash := by
  unfold State.arpExpire
  split <;> simp

@[simp] theorem rxDiscard_memories (s : State) (n len : Nat) (fcsOk : Bool) (vid : Option (BitVec 12)) (accepted : Bool) :
    (s.rxDiscard n len fcsOk vid accepted).hbm = s.hbm ∧ (s.rxDiscard n len fcsOk vid accepted).flash = s.flash := by simp [State.rxDiscard]

/-! ### The configuration flash (R59 to R78) -/

@[simp] theorem nvmFail_memories (s : State) (f : Field) (e : Event) : (s.nvmFail f e).hbm = s.hbm ∧ (s.nvmFail f e).flash = s.flash := by
  simp [State.nvmFail]

@[simp] theorem flashFail_memories (s : State) (r : FlashResult) : (s.flashFail r).hbm = s.hbm ∧ (s.flashFail r).flash = s.flash := by
  unfold State.flashFail
  split <;> simp

@[simp] theorem journalMake_memories (s : State) (cause : Nat) :
    (s.journalMake cause).hbm = s.hbm ∧ (s.journalMake cause).flash = s.flash := by
  simp [State.journalMake, State.journalStart, State.journalHold]

@[simp] theorem keepErased_memories (s : State) (slot : Nat) : (s.keepErased slot).hbm = s.hbm ∧ (s.keepErased slot).flash = s.flash :=
  (keepErased_dawn s slot).memories fun _ => ⟨rfl, rfl⟩

@[simp] theorem storeStart_memories (s : State) : s.storeStart.hbm = s.hbm ∧ s.storeStart.flash = s.flash := by
  simp [State.storeStart, State.erases]

@[simp] theorem flashKick_memories (s : State) : s.flashKick.hbm = s.hbm ∧ s.flashKick.flash = s.flash :=
  (flashKick_keeps s).memories fun _ => ⟨rfl, rfl⟩

@[simp] theorem wipeKeys_memories (s : State) : s.wipeKeys.hbm = s.hbm ∧ s.wipeKeys.flash = s.flash := by simp [State.wipeKeys]

@[simp] theorem setSlot_memories (s : State) (k gen : Nat) (ok : Bool) :
    (s.setSlot k gen ok).hbm = s.hbm ∧ (s.setSlot k gen ok).flash = s.flash := (setSlot_dawn s k gen ok).memories fun _ => ⟨rfl, rfl⟩

@[simp] theorem commitFail_memories (s : State) (r : FlashResult) : (s.commitFail r).hbm = s.hbm ∧ (s.commitFail r).flash = s.flash := by
  simp [State.commitFail]

@[simp] theorem storeWrite_memories (s : State) : s.storeWrite.hbm = s.hbm ∧ s.storeWrite.flash = s.flash := by simp [State.storeWrite]

@[simp] theorem untriedDone_memories (s : State) (k : Nat) (ok : Bool) :
    (s.untriedDone k ok).hbm = s.hbm ∧ (s.untriedDone k ok).flash = s.flash := by simp [State.untriedDone]

/-! ### Heat and supply (R424 to R445) -/

@[simp] theorem supplyFlag_memories (s : State) : s.supplyFlag.hbm = s.hbm ∧ s.supplyFlag.flash = s.flash := by simp [State.supplyFlag]

@[simp] theorem orderlyDone_memories (s : State) : s.orderlyDone.hbm = s.hbm ∧ s.orderlyDone.flash = s.flash := by simp [State.orderlyDone]

@[simp] theorem heatSample_memories (s : State) (ts : List Int) (hbm : Int) :
    (s.heatSample ts hbm).hbm = s.hbm ∧ (s.heatSample ts hbm).flash = s.flash := (heatSample_keeps s ts hbm).memories fun _ => ⟨rfl, rfl⟩

@[simp] theorem supplySample_memories (s : State) (vin iin vinMin vaux : Nat) :
    (s.supplySample vin iin vinMin vaux).hbm = s.hbm ∧ (s.supplySample vin iin vinMin vaux).flash = s.flash :=
  (supplySample_keeps s vin iin vinMin vaux).memories fun _ => ⟨rfl, rfl⟩

@[simp] theorem thermSample_memories (s : State) (ts : List Int) (hbm : Int) (vin iin vinMin vaux : Nat) :
    (s.thermSample ts hbm vin iin vinMin vaux).hbm = s.hbm ∧ (s.thermSample ts hbm vin iin vinMin vaux).flash = s.flash := by
  simp [State.thermSample, State.lifeExtreme]

@[simp] theorem orderlyStop_memories (s : State) : s.orderlyStop.hbm = s.hbm ∧ s.orderlyStop.flash = s.flash := by simp [State.orderlyStop]

@[simp] theorem windowReopen_memories (s : State) : s.windowReopen.hbm = s.hbm ∧ s.windowReopen.flash = s.flash := by
  simp [State.windowReopen]

@[simp] theorem headFlags_memories (s : State) (c : Nat) : (s.headFlags c).hbm = s.hbm ∧ (s.headFlags c).flash = s.flash := by
  simp [State.headFlags]

@[simp] theorem headStop_memories (s : State) : s.headStop.hbm = s.hbm ∧ s.headStop.flash = s.flash := by simp [State.headStop]

@[simp] theorem headCode_memories (s : State) (c code : Nat) : (s.headCode c code).hbm = s.hbm ∧ (s.headCode c code).flash = s.flash := by
  simp [State.headCode]

@[simp] theorem headLimit_memories (s : State) (c : Nat) : (s.headLimit c).hbm = s.hbm ∧ (s.headLimit c).flash = s.flash := by
  simp [State.headLimit]

@[simp] theorem headSilent_memories (s : State) (c : Nat) : (s.headSilent c).hbm = s.hbm ∧ (s.headSilent c).flash = s.flash := by
  simp [State.headSilent]

@[simp] theorem binDip_memories (s : State) (i : Nat) : (s.binDip i).hbm = s.hbm ∧ (s.binDip i).flash = s.flash :=
  (binDip_dawn s i).memories fun _ => ⟨rfl, rfl⟩

@[simp] theorem dipBegin_memories (s : State) (acfail : Bool) (mv : Nat) :
    (s.dipBegin acfail mv).hbm = s.hbm ∧ (s.dipBegin acfail mv).flash = s.flash := by simp [State.dipBegin]

@[simp] theorem dipOver_memories (s : State) (ridden : Bool) : (s.dipOver ridden).hbm = s.hbm ∧ (s.dipOver ridden).flash = s.flash := by
  unfold State.dipOver
  split <;> simp

@[simp] theorem dipRelease_memories (s : State) (ac vin : Bool) :
    (s.dipRelease ac vin).hbm = s.hbm ∧ (s.dipRelease ac vin).flash = s.flash := (dipRelease_keeps s ac vin).memories fun _ => ⟨rfl, rfl⟩

@[simp] theorem supplyStop_memories (s : State) : s.supplyStop.hbm = s.hbm ∧ s.supplyStop.flash = s.flash := by simp [State.supplyStop]

@[simp] theorem governorRun_memories (s : State) : s.governorRun.hbm = s.hbm ∧ s.governorRun.flash = s.flash :=
  (governorRun_keeps s).memories fun _ => ⟨rfl, rfl⟩

@[simp] theorem ceilStop_memories (s : State) : s.ceilStop.hbm = s.hbm ∧ s.ceilStop.flash = s.flash := by simp [State.ceilStop]

/-! ### Dusk, Night and restarts (R79 to R85, R442) -/

@[simp] theorem lanesDown_memories (s : State) (from_ : List Nat) (st code : Nat) :
    (s.lanesDown from_ st code).hbm = s.hbm ∧ (s.lanesDown from_ st code).flash = s.flash := by simp [State.lanesDown]

@[simp] theorem toDusk_memories (s : State) : s.toDusk.hbm = s.hbm ∧ s.toDusk.flash = s.flash := by simp [State.toDusk]

@[simp] theorem camsDown_memories (s : State) : s.camsDown.hbm = s.hbm ∧ s.camsDown.flash = s.flash :=
  (camsDown_keeps s).memories fun _ => ⟨rfl, rfl⟩

@[simp] theorem nightStart_memories (s : State) : s.nightStart.hbm = s.hbm ∧ s.nightStart.flash = s.flash := by
  simp [State.nightStart, State.portsDown]

@[simp] theorem timeResume_memories (s : State) (us : Nat) (fresh : Bool) :
    (s.timeResume us fresh).hbm = s.hbm ∧ (s.timeResume us fresh).flash = s.flash :=
  (timeResume_dawn s us fresh).memories fun _ => ⟨rfl, rfl⟩

@[simp] theorem wakeSrc_memories (s : State) (src : WakeSrc) : (s.wakeSrc src).hbm = s.hbm ∧ (s.wakeSrc src).flash = s.flash := by
  unfold State.wakeSrc
  split <;> simp

@[simp] theorem nightExit_memories (s : State) (src : WakeSrc) (isl us : Nat) :
    (s.nightExit src isl us).hbm = s.hbm ∧ (s.nightExit src isl us).flash = s.flash := by
  simp [State.nightExit, State.mergeMotion, State.mergeLines]

@[simp] theorem vioLost_memories (s : State) : s.vioLost.hbm = s.hbm ∧ s.vioLost.flash = s.flash := by simp [State.vioLost]

/-! ### Module sets, pins and test (R114 to R119, R384, R455 to R463) -/

@[simp] theorem reportIn_memories (s : State) (k : Nat) (payload : List Byte) :
    (s.reportIn k payload).hbm = s.hbm ∧ (s.reportIn k payload).flash = s.flash := by simp [State.reportIn]

@[simp] theorem memberLost_memories (s : State) (k : Nat) : (s.memberLost k).hbm = s.hbm ∧ (s.memberLost k).flash = s.flash := by
  simp [State.memberLost]

@[simp] theorem sendReport_memories (s : State) : s.sendReport.hbm = s.hbm ∧ s.sendReport.flash = s.flash := by
  unfold State.sendReport
  split <;> simp

@[simp] theorem sendOn_memories (s : State) (k type seq : Nat) (payload : List Byte) :
    (s.sendOn k type seq payload).hbm = s.hbm ∧ (s.sendOn k type seq payload).flash = s.flash := by simp [State.sendOn]

@[simp] theorem forward_memories (s : State) (m : Msg) (type k addr addr' count : Nat) (words : List Word) :
    (s.forward m type k addr addr' count words).1.hbm = s.hbm ∧ (s.forward m type k addr addr' count words).1.flash = s.flash := by
  unfold State.forward
  split <;> simp

@[simp] theorem forwardSet_memories (s : State) (m : Msg) (addr : Nat) (words : List Word) :
    (s.forwardSet m addr words).1.hbm = s.hbm ∧ (s.forwardSet m addr words).1.flash = s.flash := by simp [State.forwardSet]

@[simp] theorem endFwd_memories (s : State) (f : Fwd) (status : Nat) (payload : List Byte) :
    (s.endFwd f status payload).hbm = s.hbm ∧ (s.endFwd f status payload).flash = s.flash := by simp [State.endFwd]

@[simp] theorem followerAnswer_memories (s : State) (k : Nat) (seq : Word) (status : Nat) (payload : List Byte) :
    (s.followerAnswer k seq status payload).hbm = s.hbm ∧ (s.followerAnswer k seq status payload).flash = s.flash := by
  unfold State.followerAnswer
  split <;> simp

@[simp] theorem followerSilent_memories (s : State) (k : Nat) (seq : Word) :
    (s.followerSilent k seq).hbm = s.hbm ∧ (s.followerSilent k seq).flash = s.flash := by
  unfold State.followerSilent
  split <;> simp

@[simp] theorem funcPend_memories (s : State) (n : Nat) (w : Word) : (s.funcPend n w).hbm = s.hbm ∧ (s.funcPend n w).flash = s.flash := by
  simp [State.funcPend]

@[simp] theorem funcApply_memories (s : State) : s.funcApply.hbm = s.hbm ∧ s.funcApply.flash = s.flash := by simp [State.funcApply]

@[simp] theorem bistNote_memories (s : State) (u i sig : Nat) :
    (s.bistNote u i sig).hbm = s.hbm ∧ (s.bistNote u i sig).flash = s.flash := (bistNote_dawn s u i sig).memories fun _ => ⟨rfl, rfl⟩

@[simp] theorem bistRemap_memories (s : State) (u : Nat) (a : Word) (dawn : Bool) :
    (s.bistRemap u a dawn).hbm = s.hbm ∧ (s.bistRemap u a dawn).flash = s.flash := (bistRemap_dawn s u a dawn).memories fun _ => ⟨rfl, rfl⟩

@[simp] theorem unitFails_memories (s : State) (u i : Nat) : (s.unitFails u i).hbm = s.hbm ∧ (s.unitFails u i).flash = s.flash := by
  unfold State.unitFails
  split <;> simp [State.laneFailed]

@[simp] theorem bistFail_memories (s : State) (u i sig : Nat) :
    (s.bistFail u i sig).hbm = s.hbm ∧ (s.bistFail u i sig).flash = s.flash := by simp [State.bistFail]

@[simp] theorem runSlice_memories (s : State) (u i : Nat) (fail : Option Word) :
    (s.runSlice u i fail).hbm = s.hbm ∧ (s.runSlice u i fail).flash = s.flash := by
  unfold State.runSlice
  split <;> simp

@[simp] theorem jtagBypass_memories (s : State) (code : Nat) (ins : List Bool) :
    (s.jtagBypass code ins).hbm = s.hbm ∧ (s.jtagBypass code ins).flash = s.flash := by simp [State.jtagBypass]

@[simp] theorem jtagBoundary_memories (s : State) (code : Nat) (shift captured : BitVec 24) :
    (s.jtagBoundary code shift captured).hbm = s.hbm ∧ (s.jtagBoundary code shift captured).flash = s.flash := by simp [State.jtagBoundary]

@[simp] theorem jtagShow_memories (s : State) (code w v : Nat) :
    (s.jtagShow code w v).hbm = s.hbm ∧ (s.jtagShow code w v).flash = s.flash := by simp [State.jtagShow]

@[simp] theorem wipeStart_memories (s : State) (v : Nat) : (s.wipeStart v).hbm = s.hbm ∧ (s.wipeStart v).flash = s.flash := by
  simp [State.wipeStart]

/-! ### What a word of a WRITE does (R6, R106) -/

@[simp] theorem onIdx_memories (a base step n : Nat) (f : Nat → State → State) (s : State) (hf : ∀ k t, (f k t).hbm = t.hbm ∧ (f k t).flash = t.flash) :
    (onIdx a base step n f s).hbm = s.hbm ∧ (onIdx a base step n f s).flash = s.flash := by
  unfold onIdx
  split
  · exact hf _ _
  · exact ⟨rfl, rfl⟩

@[simp] theorem storeWord_memories (s : State) (a : Nat) (w : Word) :
    (s.storeWord a w).hbm = s.hbm ∧ (s.storeWord a w).flash = s.flash := by
  unfold State.storeWord
  repeat' split
  all_goals simp

@[simp] theorem actSys_memories (s0 : State) (x : WriteCtx) (a w : Nat) (s : State) :
    (s0.actSys x a w s).hbm = s.hbm ∧ (s0.actSys x a w s).flash = s.flash := by
  simp [State.actSys, State.ctrlSet, State.ctrlClr, State.stickyClr, State.nightBegin, State.bistRun]

@[simp] theorem actMgmt_memories (s0 : State) (b : WriteCtx) (a d : Nat) (s : State) :
    (s0.actMgmt b a d s).hbm = s.hbm ∧ (s0.actMgmt b a d s).flash = s.flash := by simp [State.actMgmt, State.loopWrite, State.subChanged]

@[simp] theorem keyStore_memories (s : State) (k : Nat) (ws : List Word) :
    (s.keyStore k ws).hbm = s.hbm ∧ (s.keyStore k ws).flash = s.flash := by simp [State.keyStore]

@[simp] theorem keyErase_memories (s : State) (slots : Nat) : (s.keyErase slots).hbm = s.hbm ∧ (s.keyErase slots).flash = s.flash := by
  simp [State.keyErase]

@[simp] theorem lsiApply_memories (s : State) : s.lsiApply.hbm = s.hbm ∧ s.lsiApply.flash = s.flash := by simp [State.lsiApply]

@[simp] theorem actPos_memories (s0 : State) (b : WriteCtx) (a w : Nat) (s : State) :
    (s0.actPos b a w s).hbm = s.hbm ∧ (s0.actPos b a w s).flash = s.flash := by simp [State.actPos, State.resumeAll, State.presetEnc]

@[simp] theorem mendCmd_memories (s : State) (n op : Nat) : (s.mendCmd n op).hbm = s.hbm ∧ (s.mendCmd n op).flash = s.flash := by
  unfold State.mendCmd
  split <;> simp

@[simp] theorem pendSerial_memories (s : State) (k : Nat) : (s.pendSerial k).hbm = s.hbm ∧ (s.pendSerial k).flash = s.flash :=
  (pendSerial_dawn s k).memories fun _ => ⟨rfl, rfl⟩

@[simp] theorem actForm_memories (a : State) (b : WriteCtx) (a' w : Nat) (s : State) :
    (a.actForm b a' w s).hbm = s.hbm ∧ (a.actForm b a' w s).flash = s.flash := by
  simp [State.actForm, State.laneCtrl, State.laneResume, State.laneRetrain]

@[simp] theorem actNet_memories (s0 : State) (b : WriteCtx) (a w : Nat) (s : State) :
    (s0.actNet b a w s).hbm = s.hbm ∧ (s0.actNet b a w s).flash = s.flash := by
  simp [State.actNet, State.acceptJump, State.ptpRestart, State.linkRestart]

@[simp] theorem unretire_memories (s : State) (n : Nat) : (s.unretire n).hbm = s.hbm ∧ (s.unretire n).flash = s.flash := by
  simp [State.unretire]

@[simp] theorem actSeq_memories (a : State) (b : WriteCtx) (a' w : Nat) (s : State) :
    (a.actSeq b a' w s).hbm = s.hbm ∧ (a.actSeq b a' w s).flash = s.flash := by simp [State.actSeq]

@[simp] theorem countWord_memories (t s : State) (e : Nat × Word) : (t.countWord s e).hbm = s.hbm ∧ (t.countWord s e).flash = s.flash := by
  unfold State.countWord
  split
  · simp
  · split <;> simp

@[simp] theorem countExtra_memories (t : State) (x : WriteCtx) (s : State) :
    (t.countExtra x s).hbm = s.hbm ∧ (t.countExtra x s).flash = s.flash := by simp [State.countExtra]

@[simp] theorem afterRefusal_memories (s : State) (x : WriteCtx) (st i : Nat) :
    (s.afterRefusal x st i).hbm = s.hbm ∧ (s.afterRefusal x st i).flash = s.flash := by
  simp [State.afterRefusal, State.pinConflict]
  split <;> simp

@[simp] theorem read_memories (s : State) (m : Msg) (addr n : Nat) :
    (s.read m addr n).1.hbm = s.hbm ∧ (s.read m addr n).1.flash = s.flash := by
  unfold State.read
  split
  · simp
  · split <;> simp [State.readEnds]

/-! ### Configuration images and Dawn (R63 to R75) -/

@[simp] theorem lifeRestore_memories (s : State) (fresh : Bool) :
    (s.lifeRestore fresh).hbm = s.hbm ∧ (s.lifeRestore fresh).flash = s.flash := (lifeRestore_dawn s fresh).memories fun _ => ⟨rfl, rfl⟩

@[simp] theorem countDawn_memories (s : State) (cause : Nat) : (s.countDawn cause).hbm = s.hbm ∧ (s.countDawn cause).flash = s.flash :=
  (countDawn_dawn s cause).memories fun _ => ⟨rfl, rfl⟩

@[simp] theorem tripShow_memories (s : State) (p : Power) : (s.tripShow p).hbm = s.hbm ∧ (s.tripShow p).flash = s.flash :=
  (tripShow_dawn s p).memories fun _ => ⟨rfl, rfl⟩

@[simp] theorem dawnEnc_memories (b s : State) : (b.dawnEnc s).hbm = b.hbm ∧ (b.dawnEnc s).flash = b.flash :=
  (dawnEnc_dawn b s).memories fun _ => ⟨rfl, rfl⟩

@[simp] theorem dawnBist_memories (b : State) (fails : List BistFail) :
    (b.dawnBist fails).hbm = b.hbm ∧ (b.dawnBist fails).flash = b.flash := (dawnBist_dawn b fails).memories fun _ => ⟨rfl, rfl⟩

@[simp] theorem showSlots_memories (s b : State) (x : Applied) : (s.showSlots b x).hbm = s.hbm ∧ (s.showSlots b x).flash = s.flash :=
  (showSlots_dawn s b x).memories fun _ => ⟨rfl, rfl⟩

@[simp] theorem restoreStore_memories (s : State) (flags : Nat) :
    (s.restoreStore flags).hbm = s.hbm ∧ (s.restoreStore flags).flash = s.flash := (restoreStore_dawn s flags).memories fun _ => ⟨rfl, rfl⟩

@[simp] theorem dawnLane_memories (ups : List LaneUp) (s : State) (n : Nat) :
    (State.dawnLane ups s n).hbm = s.hbm ∧ (State.dawnLane ups s n).flash = s.flash := (dawnLane_dawn ups s n).memories fun _ => ⟨rfl, rfl⟩

@[simp] theorem dawnShort_memories (s : State) (n : Nat) : (s.dawnShort n).hbm = s.hbm ∧ (s.dawnShort n).flash = s.flash :=
  (dawnShort_dawn s n).memories fun _ => ⟨rfl, rfl⟩

@[simp] theorem dawnSq_memories (s : State) (bad : Nat → Bool) : (s.dawnSq bad).hbm = s.hbm ∧ (s.dawnSq bad).flash = s.flash :=
  (dawnSq_dawn s bad).memories fun _ => ⟨rfl, rfl⟩

@[simp] theorem dawnUnits_memories (s : State) (fails : List BistFail) :
    (s.dawnUnits fails).hbm = s.hbm ∧ (s.dawnUnits fails).flash = s.flash := (dawnUnits_dawn s fails).memories fun _ => ⟨rfl, rfl⟩

@[simp] theorem dawnBegin_memories (s : State) : s.dawnBegin.hbm = s.hbm ∧ s.dawnBegin.flash = s.flash :=
  (dawnBegin_dawn s).memories fun _ => ⟨rfl, rfl⟩

@[simp] theorem toMaint_memories (b : State) (why : Nat) : (b.toMaint why).hbm = b.hbm ∧ (b.toMaint why).flash = b.flash := by
  simp [State.toMaint]

@[simp] theorem toService_memories (b : State) (x : Applied) (s : State) (d : DawnIn) :
    (b.toService x s d).hbm = x.s.hbm ∧ (b.toService x s d).flash = x.s.flash := (toService_dawn b x s d).memories fun _ => ⟨rfl, rfl⟩

/-! ### Subscribers, aborts and the commands (R99 to R104) -/

@[simp] theorem subscribe_memories (s : State) (m : Msg) (payload : List Byte) :
    (s.subscribe m payload).1.hbm = s.hbm ∧ (s.subscribe m payload).1.flash = s.flash := by
  unfold State.subscribe
  split
  · simp
  · split <;> simp

@[simp] theorem freeSlot_memories (s : State) (k : Nat) : (s.freeSlot k).hbm = s.hbm ∧ (s.freeSlot k).flash = s.flash := by
  simp [State.freeSlot]

@[simp] theorem unsubscribe_memories (s : State) (m : Msg) : (s.unsubscribe m).hbm = s.hbm ∧ (s.unsubscribe m).flash = s.flash := by
  unfold State.unsubscribe
  split <;> simp

@[simp] theorem eventAck_memories (s : State) (m : Msg) (payload : List Byte) :
    (s.eventAck m payload).hbm = s.hbm ∧ (s.eventAck m payload).flash = s.flash := by
  unfold State.eventAck
  split <;> simp

@[simp] theorem resendEvents_memories (s : State) (k : Nat) : (s.resendEvents k).hbm = s.hbm ∧ (s.resendEvents k).flash = s.flash := by
  simp [State.resendEvents]

@[simp] theorem dropSub_memories (s : State) (k : Nat) : (s.dropSub k).hbm = s.hbm ∧ (s.dropSub k).flash = s.flash := by
  simp [State.dropSub]

@[simp] theorem abortLane_memories (s : State) (n : Nat) : (s.abortLane n).1.hbm = s.hbm ∧ (s.abortLane n).1.flash = s.flash := by
  simp [State.abortLane, apply_ite Prod.fst]

@[simp] theorem abortSeq_memories (s : State) (n : Nat) : (s.abortSeq n).1.hbm = s.hbm ∧ (s.abortSeq n).1.flash = s.flash := by
  simp [State.abortSeq, apply_ite Prod.fst]

@[simp] theorem abortPc_memories (s : State) (num : Nat) : (s.abortPc num).1.hbm = s.hbm ∧ (s.abortPc num).1.flash = s.flash := by
  unfold State.abortPc
  split
  · simp
  · split <;> simp

@[simp] theorem commit_memories (s : State) (payload : List Byte) :
    (s.commit payload).1.hbm = s.hbm ∧ (s.commit payload).1.flash = s.flash := by simp [State.commit, apply_ite Prod.fst]

@[simp] theorem checkTrip_memories (s : State) (n : Nat) (trips : Bool) :
    (s.checkTrip n trips).hbm = s.hbm ∧ (s.checkTrip n trips).flash = s.flash := by simp [State.checkTrip]

@[simp] theorem blankLane_memories (s : State) (x : Flight) (lane : Nat) :
    (s.blankLane x lane).hbm = s.hbm ∧ (s.blankLane x lane).flash = s.flash := by simp [State.blankLane]

@[simp] theorem groupStopped_memories (s : State) (k : Nat) : (s.groupStopped k).hbm = s.hbm ∧ (s.groupStopped k).flash = s.flash := by
  simp [State.groupStopped]

@[simp] theorem encLevels_memories (s : State) (n : Nat) (a b : Bool) :
    (s.encLevels n a b).hbm = s.hbm ∧ (s.encLevels n a b).flash = s.flash := by simp [State.encLevels]

@[simp] theorem islandLevels_memories (s : State) (a b : Bool) :
    (s.islandLevels a b).hbm = s.hbm ∧ (s.islandLevels a b).flash = s.flash := by simp [State.islandLevels]

@[simp] theorem skewTriggers_memories (s : State) (t : Nat) : (s.skewTriggers t).hbm = s.hbm ∧ (s.skewTriggers t).flash = s.flash := by
  simp [State.skewTriggers]

@[simp] theorem headCounts_memories (s : State) (n crc miss dup : Nat) :
    (s.headCounts n crc miss dup).hbm = s.hbm ∧ (s.headCounts n crc miss dup).flash = s.flash := by simp [State.headCounts]

@[simp] theorem sliceNext_memories (s : State) (n : Nat) : (s.sliceNext n).hbm = s.hbm ∧ (s.sliceNext n).flash = s.flash :=
  (sliceNext_keeps s n).memories fun _ => ⟨rfl, rfl⟩

@[simp] theorem scrubOn_memories (s : State) (cls : Nat) (passEnd : Bool) :
    (s.scrubOn cls passEnd).hbm = s.hbm ∧ (s.scrubOn cls passEnd).flash = s.flash := by simp [State.scrubOn]

end Sys2Proof.Machine
end

section
/-! PROOFS. Both memories, part 3: what writes them keeps their canonical form (R59, R75, R76, R141 to R173, R436). -/

namespace Sys2Proof.Machine

variable {s t u : State}

/-- The canonical form of both memories survives from `s` to `t`. -/
structure MemKept (s t : State) : Prop where
  wf : s.memoryWf → t.memoryWf

namespace MemKept

theorem same (h : t.hbm = s.hbm ∧ t.flash = s.flash) : MemKept s t := ⟨fun hs => ⟨h.1 ▸ hs.1, h.2 ▸ hs.2⟩⟩

protected theorem refl (s : State) : MemKept s s := ⟨id⟩

protected theorem trans (h : MemKept s t) (h' : MemKept t u) : MemKept s u := ⟨h'.wf ∘ h.wf⟩

/-- What follows leaves the memories alone. -/
theorem andSame (h : MemKept s t) (hu : u.hbm = t.hbm ∧ u.flash = t.flash) : MemKept s u := h.trans (same hu)

theorem hbmWrite (h : MemKept s t) (a : Nat) (bs : List Byte) : MemKept s (t.hbmWrite a bs) := ⟨fun hs => hbmWrite_memoryWf t a bs (h.wf hs)⟩

theorem flashProgram (h : MemKept s t) (a : Nat) (bs : List Byte) : MemKept s (t.flashProgram a bs) :=
  ⟨fun hs => flashProgram_memoryWf t a bs (h.wf hs)⟩

theorem flashErase (h : MemKept s t) (a b : Nat) : MemKept s (t.flashErase a b) := ⟨fun hs => flashErase_memoryWf t a b (h.wf hs)⟩

protected theorem ite {p : Prop} [Decidable p] (ht : MemKept s t) (hu : MemKept s u) : MemKept s (if p then t else u) := by
  split
  · exact ht
  · exact hu

protected theorem foldl {α : Type} {f : State → α → State} (hf : ∀ t x, MemKept t (f t x)) (l : List α) (s : State) :
    MemKept s (l.foldl f s) := by
  induction l generalizing s with
  | nil => exact .refl s
  | cons x l ih => exact (hf s x).trans (ih _)

protected theorem onIdx (a base step n : Nat) {f : Nat → State → State} (hf : ∀ k t, MemKept t (f k t)) (s : State) :
    MemKept s (onIdx a base step n f s) := by
  unfold Machine.onIdx
  split
  · exact hf _ _
  · exact .refl s

end MemKept

open MemKept

/-! ## The compressors and evidence (R162 to R173, R332) -/

theorem evidence_kept (s : State) (e : Evd) : MemKept s (s.evidence e) := by
  unfold State.evidence
  extract_lets s1
  have h1 : MemKept s s1 := same ⟨rfl, rfl⟩
  exact h1.ite ((h1.andSame (by simp)).hbmWrite _ _)

theorem markBuf_kept (s : State) (n a status : Nat) (crop : Crop) (bs : List Byte) : MemKept s (s.markBuf n a status crop bs) := by
  unfold State.markBuf
  extract_lets x d job s1 out s2 flags
  have h1 : MemKept s s1 := (((MemKept.refl s).hbmWrite _ _).hbmWrite _ _).hbmWrite _ _
  exact (h1.andSame (by simp [s2])).trans (evidence_kept ..)

theorem cxFill_kept (n : Nat) (crop : Crop) (bad : Bool) (k : Nat) (s : State) : MemKept s (State.cxFill n crop bad k s) := by
  induction k generalizing s with
  | zero => exact .refl s
  | succ k ih =>
    unfold State.cxFill
    extract_lets x go
    have hgo (t : State) (a : Nat) : MemKept t (go t a) :=
      ((markBuf_kept t n a (if crop.cut then 3 else 2) crop x.left).andSame (by simp)).ite
        (((markBuf_kept t n a 1 crop (x.left.take (le (t.hbmRead (a + 4) 4) 0 4))).andSame (by simp)).trans (ih _))
    split
    · exact hgo _ _
    · split
      · exact same (by simp)
      · exact (same (by simp)).ite ((same (by simp)).trans (hgo _ _))

theorem cxFinish_kept (s : State) (n : Nat) (crop : Crop) (bad : Bool) : MemKept s (s.cxFinish n crop bad) := by
  unfold State.cxFinish
  exact (same (by simp)).trans (cxFill_kept ..)

theorem compress_kept (s : State) (n : Nat) (evs : List MemEv) : MemKept s (s.compress n evs) := by
  unfold State.compress
  extract_lets x s1 bad
  have h1 : MemKept s s1 := same (by simp [s1])
  refine (MemKept.refl s).ite ?_
  split
  · exact (h1.trans (cxFinish_kept ..)).ite (.refl s)
  · refine (MemKept.refl s).ite ?_
    split
    · exact (h1.andSame (by simp)).trans (cxFinish_kept ..)
    · exact h1.andSame (by simp)
    · exact .refl s

theorem cxRing_kept (s : State) (n : Nat) : MemKept s (s.cxRing n) := by
  unfold State.cxRing
  dsimp only
  refine (same (by simp)).ite ((same (by simp)).ite ?_)
  split
  · exact .refl s
  · exact (cxFinish_kept ..).ite (same (by simp))

theorem cxAbort_kept (s : State) (n : Nat) : MemKept s (s.cxAbort n).1 := by
  unfold State.cxAbort
  extract_lets x
  split
  · exact .refl s
  · extract_lets taken out s1 s2
    have h1 : MemKept s s1 := by
      unfold s1
      split
      · exact .refl s
      · exact (same (by simp)).trans (markBuf_kept ..)
    have h2 : MemKept s s2 := h1.ite (h1.andSame ⟨rfl, rfl⟩)
    exact h2.andSame (by simp)

/-! ## The job store and the DMA channels (R123, R141 to R147) -/

theorem jobWrite_kept (s : State) (a : Nat) (bs : List Byte) : MemKept s (s.jobWrite a bs) :=
  ((MemKept.refl s).hbmWrite a bs).andSame ⟨rfl, rfl⟩

theorem put_kept (s : State) (payload : List Byte) : MemKept s (s.put payload).1 := by
  unfold State.put
  extract_lets w off d t r
  have ht : MemKept s t := same (by simp [t])
  split
  · exact ht
  · split
    · split
      · exact ht
      · exact ht.andSame (by simp [r])
    · split
      · exact ht
      · exact ht.trans (jobWrite_kept t _ _)

theorem dmaWrite_kept (s : State) (a : Nat) (bs : List Byte) : MemKept s (s.dmaWrite a bs) := by
  unfold State.dmaWrite
  split
  · exact jobWrite_kept ..
  · exact same (by simp)

theorem moveBytes_kept (s : State) (d : Desc) (a b : Nat) : MemKept s (s.moveBytes d a b) := (dmaWrite_kept ..).ite (.refl s)

theorem descStatus_kept (s : State) (a v : Nat) : MemKept s (s.descStatus a v) := (jobWrite_kept ..).ite (.refl s)

theorem dmaStop_kept (s : State) (n code : Nat) : MemKept s (s.dmaStop n code) := by
  unfold State.dmaStop
  extract_lets s1 s2
  have h2 : MemKept s s2 := (descStatus_kept s (s.dmaCur n) 3).andSame (by simp [s2, s1])
  exact (h2.andSame (by simp)).ite (h2.andSame (by simp))

theorem dmaFetch_kept (s : State) (n a : Nat) : MemKept s (s.dmaFetch n a) := by
  unfold State.dmaFetch
  extract_lets d s1
  have h1 : MemKept s s1 := same (by simp [s1])
  exact (h1.trans (dmaStop_kept ..)).ite ((h1.trans (dmaStop_kept ..)).ite (h1.andSame (by simp)))

theorem dmaStart_kept (s : State) (n : Nat) : MemKept s (s.dmaStart n) := by
  unfold State.dmaStart
  extract_lets s1
  have h1 : MemKept s s1 := same (by simp [s1])
  exact (h1.andSame (by simp)).ite (h1.trans (dmaFetch_kept ..))

theorem dmaMoveTo_kept (s : State) (n m : Nat) : MemKept s (s.dmaMoveTo n m) := by
  unfold State.dmaMoveTo
  extract_lets d a b
  exact (moveBytes_kept s d a b).andSame (by simp)

theorem dmaRing_kept (s : State) (n : Nat) : MemKept s (s.dmaRing n) := by
  unfold State.dmaRing
  extract_lets d
  exact (same (by simp)).ite ((same (by simp)).trans (dmaFetch_kept ..))

theorem dmaDone_kept (s : State) (n : Nat) : MemKept s (s.dmaDone n) := by
  unfold State.dmaDone
  extract_lets a s1 d s2
  have h2 : MemKept s s2 := ((dmaMoveTo_kept ..).trans (descStatus_kept s1 a 1)).andSame (by simp [s2])
  exact (h2.andSame (by simp)).ite (h2.trans (dmaFetch_kept ..))

theorem descDone_kept (s : State) (n : Nat) (evs : List MemEv) : MemKept s (s.descDone n evs) := by
  unfold State.descDone
  extract_lets s1 left
  have h1 : MemKept s s1 := same (by simp [s1])
  exact (MemKept.refl s).ite ((h1.trans (dmaDone_kept ..)).ite
    (((h1.andSame (by simp)).trans (dmaMoveTo_kept ..)).trans (dmaStop_kept ..)))

theorem dmaPause_kept (s : State) (n moved : Nat) : MemKept s (s.dmaPause n moved) := by
  unfold State.dmaPause
  extract_lets s1
  have h1 : MemKept s s1 := same (by simp [s1])
  exact ((h1.trans (dmaMoveTo_kept s1 n moved)).andSame (by simp)).ite ((h1.andSame (by simp)).ite h1)

theorem dmaResume_kept (s : State) (n : Nat) : MemKept s (s.dmaResume n) := by
  unfold State.dmaResume
  extract_lets s1
  have h1 : MemKept s s1 := same (by simp [s1])
  exact h1.ite (((h1.andSame (by simp)).trans (dmaRing_kept ..)).ite ((h1.andSame (by simp)).ite
    ((h1.andSame (by simp)).trans (dmaFetch_kept ..))))

theorem dmaBell_kept (s : State) (n : Nat) : MemKept s (s.dmaBell n) := (dmaRing_kept ..).ite (same (by simp))

theorem dmaAbort_kept (s : State) (n : Nat) : MemKept s (s.dmaAbort n).1 := by
  unfold State.dmaAbort
  extract_lets st left s1 s2
  have h1 : MemKept s s1 := ((same (by simp)).trans (dmaMoveTo_kept ..)).ite (.refl s)
  have h2 : MemKept s s2 := (h1.trans (descStatus_kept ..)).ite h1
  split
  · exact .refl s
  · split
    · exact .refl s
    · exact h2.andSame (by simp)

/-! ## The configuration flash (R59, R69, R76 to R78, R436) -/

theorem halfProgram_kept (s : State) (a n : Nat) : MemKept s (s.halfProgram a n) :=
  ((MemKept.refl s).flashProgram _ _).andSame ⟨rfl, rfl⟩

theorem wipeEnd_kept (s : State) : MemKept s s.wipeEnd := ⟨fun h => ⟨rfl, h.2⟩⟩

theorem journalDone_kept (s : State) (slot cause : Nat) (b : List Byte) (r : FlashResult) : MemKept s (s.journalDone slot cause b r) := by
  unfold State.journalDone
  extract_lets next a s1 s2
  have h2 : MemKept s s2 := ((MemKept.refl s).flashProgram a b).andSame (by simp [s2, s1])
  exact (h2.andSame (by simp)).ite ((halfProgram_kept s a 512).andSame (by simp))

theorem ringErased_kept (s : State) (blk : Nat) (r : FlashResult) : MemKept s (s.ringErased blk r) := by
  unfold State.ringErased
  extract_lets a s1
  have h1 : MemKept s s1 := same (by simp [s1])
  exact (h1.flashErase _ _).ite (h1.andSame (by simp))

theorem storeDone_kept (s : State) (half : Nat) (r : FlashResult) : MemKept s (s.storeDone half r) := by
  unfold State.storeDone
  extract_lets a wipe s0 s1 gen body h s2 s3
  have h1 : MemKept s s1 := (same (by simp [s0])).flashErase _ _
  have h3 : MemKept s s3 := ((h1.flashProgram (a + 0x1000) body).flashProgram a h).andSame (by simp [s3, s2])
  exact ((h3.trans (wipeEnd_kept _)).ite (h3.andSame (by simp))).ite (h1.andSame (by simp))

theorem commitNext_kept (s : State) : MemKept s s.commitNext := by
  unfold State.commitNext
  extract_lets c base blocks h s1
  split
  case h_1 => exact .refl s
  case h_2 => exact ((MemKept.refl s).flashErase base (base + 0x1000)).andSame (by simp)
  case h_3 left _ =>
    extract_lets a
    exact ((MemKept.refl s).flashErase a (a + 0x10000)).andSame (by simp)
  case h_4 page _ =>
    extract_lets n
    exact ((MemKept.refl s).flashProgram (base + 0x1000 + 256 * page) (s.hbmRead (stageBase + 256 * page) n)).andSame (by simp)
  case h_5 => exact same (by simp)
  case h_6 => exact ((MemKept.refl s).flashProgram base h).andSame (by simp [s1])

theorem flashDone_kept (s : State) (r : FlashResult) : MemKept s (s.flashDone r) := by
  unfold State.flashDone
  split
  · exact journalDone_kept ..
  · next blk _ _ => exact (ringErased_kept s blk r).andSame (by simp)
  · exact storeDone_kept ..
  · exact (MemKept.refl s).ite (((commitNext_kept s).andSame (by simp)).ite (same (by simp)))

theorem flashHalt_kept (s : State) (spiIdle : Bool) : MemKept s (s.flashHalt spiIdle) := by
  unfold State.flashHalt
  extract_lets begun s1
  have h1 : MemKept s s1 := by
    unfold s1
    split
    · exact ((MemKept.refl s).flashProgram _ _).ite (.refl s)
    · exact (ringErased_kept ..).ite (.refl s)
    · exact ((MemKept.refl s).flashErase _ _).ite (.refl s)
    · exact (commitNext_kept s).ite (.refl s)
  exact h1.andSame ⟨rfl, rfl⟩

theorem stage_kept (s : State) (payload : List Byte) : MemKept s (s.stage payload).1 := by
  unfold State.stage
  extract_lets off d t
  have ht : MemKept s t := same (by simp [t])
  split
  · exact ht
  · split
    · exact ht
    · exact (ht.hbmWrite (stageBase + off) d).andSame (by simp)

/-! ## Stops of the core (R199, R431) -/

theorem coreStop_kept (s : State) (phase : Phase) (cause : Nat) (spiIdle : Bool) : MemKept s (s.coreStop phase cause spiIdle) := by
  unfold State.coreStop
  extract_lets isl
  exact (same (by simp)).trans (flashHalt_kept ..)

theorem coreReset_kept (s : State) : MemKept s s.reset_ := by
  unfold State.reset_
  split
  case h_5 => exact coreStop_kept ..
  all_goals exact .refl s

theorem shutdownCore_kept (s : State) (spiIdle : Bool) : MemKept s (s.shutdownCore spiIdle) := by
  unfold State.shutdownCore
  split
  case h_4 => exact same (by simp)
  case h_5 => exact coreStop_kept ..
  all_goals exact .refl s

theorem vauxLost_kept (s : State) : MemKept s s.vauxLost := ⟨fun h => ⟨rfl, ((coreStop_kept s .noVaux 0 false).wf h).2⟩⟩

theorem trip_kept (s : State) (kind sensor : Nat) (reading : Int) (spiIdle : Bool) : MemKept s (s.trip kind sensor reading spiIdle) := by
  unfold State.trip
  extract_lets s1
  exact (coreStop_kept s .tripped (if kind = 2 then 5 else 4) spiIdle).andSame (by simp [s1])

end Sys2Proof.Machine
end

section
/-! PROOFS. Both memories, part 4: Dawn, the management messages, and every command (R71 to R75, R88 to R105, R117). -/

namespace Sys2Proof.Machine

variable {s t u : State} {c : Instr} {m : Msg}

open MemKept

/-! ## Dawn and the test port (R71 to R75, R459) -/

/-- A Dawn begins with an empty HBM and the flash as it was. -/
theorem dawnBase_memories (s : State) (d : DawnIn) : (s.dawnBase d).hbm = [] ∧ (s.dawnBase d).flash = s.flash := by
  simp [State.dawnBase]

theorem dawn_kept (s : State) (d : DawnIn) : MemKept s (s.dawn d) := by
  unfold State.dawn
  split
  · exact trip_kept ..
  · extract_lets b sq
    have hb : MemKept s b := ⟨fun h => by
      have hbase := dawnBase_memories s d
      exact ⟨by simp [b, hbase, Memory.wf, Sparse.wfFrom], by simpa [b, hbase] using h.2⟩⟩
    refine (hb.andSame (by simp)).ite ((hb.andSame (by simp)).ite ?_)
    split
    · exact hb.andSame (by simp)
    · next x hx =>
      exact (hb.andSame ((tryImages_dawn hx).memories fun _ => ⟨rfl, rfl⟩)).andSame (by simp)

theorem jtagMem_kept (s : State) (dr : Nat) : MemKept s (s.jtagMem dr) := by
  unfold State.jtagMem
  extract_lets a s1 inHbm s2
  have h1 : MemKept s s1 := same (by simp [s1])
  have h2 : MemKept s s2 := (h1.hbmWrite _ _).ite h1
  split
  · exact h2.andSame ⟨rfl, rfl⟩
  · exact h1.andSame (by simp)

/-! ## What a WRITE does (R97, R106) -/

theorem actDma_kept (s₀ : State) (x : WriteCtx) (a w : Nat) (s : State) : MemKept s (s₀.actDma x a w s) := by
  unfold State.actDma
  refine (MemKept.onIdx _ _ _ _ (fun k t => same (by simp)) s).trans ((MemKept.onIdx _ _ _ _ (fun k t => ?_) _).trans
    ((MemKept.onIdx _ _ _ _ (fun k t => dmaBell_kept t k) _).trans (MemKept.onIdx _ _ _ _ (fun k t => same (by simp)) _)))
  refine (dmaStart_kept t k).ite (MemKept.ite ?_ ((dmaResume_kept t k).ite (.refl t)))
  split
  · exact dmaPause_kept ..
  · exact (dmaPause_kept t k (t.draw 60)).andSame (by simp)

theorem actFlate_kept (s₀ : State) (x : WriteCtx) (a w : Nat) (s : State) : MemKept s (s₀.actFlate x a w s) := by
  have hring (u : State) : MemKept u (onIdx a (R.CX_DOORBELL 0) 64 4 (fun k t => t.cxRing k) u) :=
    MemKept.onIdx _ _ _ _ (fun k t => cxRing_kept t k) u
  have hlast (u : State) : MemKept u (if a = R.EVD_RESEND_HI then
      u.evdResend (bits (u.word R.EVD_RESEND_LO).toNat 5 27 * 32 + 2 ^ 32 * (w % 256)) else u) := same (by simp)
  exact (MemKept.trans (same (by simp)) (hring _)).trans (hlast _)

theorem actWord_kept (s₀ : State) (x : WriteCtx) (a : Nat) (w : Word) (s : State) : MemKept s (s₀.actWord x a w s) := by
  have hlast (u : State) : MemKept u (s₀.actSeq x a w.toNat (s₀.actNet x a w.toNat (s₀.actForm x a w.toNat (s₀.actPos x a w.toNat u)))) :=
    same (by simp)
  exact (MemKept.refl s).ite (((MemKept.trans (same (by simp)) (actDma_kept s₀ x a w.toNat _)).trans (actFlate_kept ..)).trans (hlast _))

theorem commitWrite_kept (s : State) (x : WriteCtx) : MemKept s (s.commitWrite x) := by
  unfold State.commitWrite
  extract_lets s1 s2 s3
  have h2 : MemKept s s2 := MemKept.trans (t := s1) (same (by simp [s1])) (MemKept.foldl (fun t (e : Nat × Word) => actWord_kept s x e.1 e.2 t) _ _)
  have h3 : MemKept s s3 := h2.andSame (by simp [s3])
  exact (h3.andSame (by simp)).ite h3

theorem writeHere_kept (s : State) (x : WriteCtx) : MemKept s (s.writeHere x).1 := by
  unfold State.writeHere
  split
  · exact same (by simp)
  · exact commitWrite_kept ..

theorem write_kept (s : State) (m : Msg) (addr : Nat) (ws : List Word) (ex : Extra) : MemKept s (s.write m addr ws ex).1 := by
  unfold State.write
  split
  · exact same (by simp)
  · extract_lets r
    have hr : MemKept s r.1 := writeHere_kept ..
    split
    · exact hr.andSame (by simp)
    · exact hr

/-! ## The management messages (R88 to R105) -/

theorem serveLater_kept (s : State) (m : Msg) (q : Request) {body : State → State × Option (Nat × List Byte)}
    (hb : ∀ t, MemKept t (body t).1) : MemKept s (s.serveLater m q body) := by
  unfold State.serveLater
  refine (MemKept.refl s).ite ?_
  extract_lets u quiet r
  have hu : MemKept s u := same (by simp [u])
  refine (hu.andSame (by simp)).ite ((hu.andSame (by simp)).ite ((hu.andSame (by simp)).ite (hu.ite ?_)))
  split
  · exact hu.andSame (by simp)
  · split
    · exact hu.andSame (by simp)
    · refine (hu.andSame (by simp)).ite ?_
      split
      · exact (hu.trans (hb u)).andSame (by simp [r])
      · exact hu.trans (hb u)

theorem serve_kept (s : State) (m : Msg) (q : Request) {body : State → State × Nat × List Byte} (hb : ∀ t, MemKept t (body t).1) :
    MemKept s (s.serve m q body) := serveLater_kept s m q hb

theorem serveQuiet_kept (s : State) (m : Msg) (type : Nat) (okLen : Bool) {body : State → State} (hb : ∀ t, MemKept t (body t)) :
    MemKept s (s.serveQuiet m type okLen body) := by
  unfold State.serveQuiet
  refine (MemKept.refl s).ite ?_
  extract_lets u
  have hu : MemKept s u := same (by simp [u])
  exact (hu.andSame (by simp)).ite ((hu.andSame (by simp)).ite ((hu.andSame (by simp)).ite (hu.ite ((hu.andSame (by simp)).ite
    (hu.trans (hb u))))))

theorem serveReport_kept (s : State) (m : Msg) (payload : List Byte) : MemKept s (s.serveReport m payload) := by
  unfold State.serveReport
  split
  · exact serveQuiet_kept _ _ _ _ fun t => same (by simp)
  · exact serve_kept _ _ _ fun t => .refl t

theorem serveRead_kept (s : State) (m : Msg) (payload : List Byte) : MemKept s (s.serveRead m payload) := by
  unfold State.serveRead
  exact serveLater_kept _ _ _ fun t => same (by simp)

theorem serveWrite_kept (s : State) (m : Msg) (addr : Nat) (ws : List Word) (ex : Extra) : MemKept s (s.serveWrite m addr ws ex) :=
  serveLater_kept _ _ _ fun t => write_kept t ..

theorem serveWritePayload_kept (s : State) (m : Msg) (payload : List Byte) : MemKept s (s.serveWritePayload m payload) :=
  serveLater_kept _ _ _ fun t => write_kept t ..

theorem servePut_kept (s : State) (m : Msg) (payload : List Byte) : MemKept s (s.servePut m payload) :=
  serve_kept _ _ _ fun t => put_kept t payload

theorem abortUnit_kept (s : State) (unit n : Nat) : MemKept s (s.abortUnit unit n).1 := by
  have end_fst (r : State × Bool) : (State.abortEnd r).1 = r.1 := rfl
  unfold State.abortUnit
  split
  case h_1 =>
    split
    · exact dmaAbort_kept ..
    · exact .refl s
  case h_2 =>
    split
    · exact same (by simp [end_fst])
    · exact .refl s
  case h_3 =>
    split
    · exact cxAbort_kept ..
    · exact .refl s
  case h_4 =>
    split
    · exact same (by simp [end_fst])
    · exact .refl s
  all_goals exact same (by simp)

theorem serveAbort_kept (s : State) (m : Msg) (payload : List Byte) : MemKept s (s.serveAbort m payload) :=
  serve_kept _ _ _ fun t => abortUnit_kept t ..

/-! ## Every command -/

/-- How the arms of `exec` end: both memories keep their canonical form, or the operands are ill-formed. -/
inductive Sound (s : State) : Outcome → Prop
  | next (v : State) (h : MemKept s v) : Sound s (.next v)
  | fault (r : Fault) : Sound s (.fault r)

namespace Sound

theorem done (h : MemKept s t) : Sound s t.done := .next _ (h.andSame (by simp))

theorem still (s : State) : Sound s (.next s) := .next s (.refl s)

theorem branch {p : Prop} [Decidable p] {a b : Outcome} (ha : Sound s a) (hb : Sound s b) : Sound s (if p then a else b) := by
  split
  · exact ha
  · exact hb

/-- A command whose conditions do not hold changes nothing. -/
theorem guarded {p : Prop} [Decidable p] (h : MemKept s t) : Sound s (if p then t.done else .next s) := branch (done h) (still s)

end Sound

open Sound

/-- A management message keeps the memories in their form. -/
theorem message_sound (h : messageOf c = some (m, port)) (s : State) : Sound s (exec c s) := by
  cases hw : writeOf c with
  | some w =>
    rw [exec_writeOf hw s]
    exact done (serveWrite_kept ..)
  | none =>
    simp only [messageOf, hw] at h
    cases c <;> cases h
    case none.eventAck => exact done (serveQuiet_kept _ _ _ _ fun t => same (by simp))
    case none.setReport => exact done (serveReport_kept ..)
    case none.read => exact done (serveRead_kept ..)
    case none.write => exact done (serveWritePayload_kept ..)
    case none.put | none.putPiece => exact done (servePut_kept ..)
    case none.subscribe | none.unsubscribe | none.nvmCommit => exact done (serve_kept _ _ _ fun t => same (by simp))
    case none.nvmRead => exact done (serve_kept _ _ _ fun t => .refl t)
    case none.nvmData => exact done (serve_kept _ _ _ fun t => stage_kept t _)
    all_goals exact done (serveAbort_kept ..)

/-! The commands that ask for something that may not be there. -/

theorem nightWake_sound (src : WakeSrc) (us : Nat) (motion : Int) (fails : Bool) (s : State) :
    Sound s (execNightWake src us motion fails s) := by
  unfold execNightWake
  split
  · exact guarded (same (by simp))
  · exact branch (still s) (branch (done (MemKept.trans (same (by simp)) (coreStop_kept ..))) (done (same (by simp))))
  · exact still s

theorem backstopTrip_sound (sensor : Fin 16) (reading : Int) (spiBits : Fin 8) (s : State) :
    Sound s (execBackstopTrip sensor reading spiBits s) := by
  unfold execBackstopTrip
  split
  · exact still s
  · exact still s
  · exact still s
  · exact guarded (trip_kept ..)

theorem gateWindowEnd_sound (g : Fin 4) (v : GateSamples) (s : State) : Sound s (execGateWindowEnd g v s) := by
  refine branch (.fault _) ?_
  split
  · exact still s
  · exact done (same (by simp))

theorem untriedSlotCheck_sound (s : State) : Sound s (execUntriedSlotCheck s) := by
  unfold execUntriedSlotCheck
  split
  · exact still s
  · exact branch (still s) (done (same (by simp)))

theorem linesyncOut_sound (s : State) : Sound s (execLinesyncOut s) := by
  unfold execLinesyncOut
  split
  · exact still s
  · exact branch (still s) (done (same (by simp)))

theorem indexMissing_sound (enc : Fin 2) (s : State) : Sound s (execIndexMissing enc s) := by
  unfold execIndexMissing
  split
  · exact still s
  · exact done (same (by simp))

theorem formPoint_sound (bar : Fin 16) (evs : List MemEv) (checks : BitVec 2) (s : State) : Sound s (execFormPoint bar evs checks s) := by
  unfold execFormPoint
  split
  · exact still s
  · exact done (same (by simp))

theorem markerDepart_sound (lane bar : Fin 16) (count : Nat) (ord : Fin 32) (lag : Bool) (s : State) : Sound s (execMarkerDepart lane bar count ord lag s) := by
  unfold execMarkerDepart
  split
  · exact still s
  · exact done (same (by simp))

theorem lineBlanked_sound (bar : Fin 16) (count : Nat) (lane : Fin 16) (s : State) : Sound s (execLineBlanked bar count lane s) := by
  unfold execLineBlanked
  split
  · exact still s
  · exact guarded (same (by simp))

theorem renderStart_sound (piece : Word) (evs : List MemEv) (s : State) : Sound s (execRenderStart piece evs s) := by
  unfold execRenderStart
  split
  · exact still s
  · exact guarded (same (by simp))

theorem ceAge_sound (cls : Fin 3) (entry : Fin 16) (s : State) : Sound s (execCeAge cls entry s) := by
  unfold execCeAge
  split
  · exact still s
  · exact guarded (same (by simp))

theorem replay_sound (lane : Fin 16) (ra rb : Word) (s : State) : Sound s (execReplay lane ra rb s) := by
  unfold execReplay
  split
  · exact still s
  · exact branch (still s) (branch (done (same (by simp))) (done (same (by simp))))

theorem retrainPause_sound (formingDone : Bool) (ticksToForm : Nat) (s : State) : Sound s (execRetrainPause formingDone ticksToForm s) := by
  unfold execRetrainPause
  split
  · exact still s
  · exact branch (still s) (branch (done (same (by simp))) (done (same (by simp))))

theorem lateMarker_sound (lane bar : Fin 16) (count : Nat) (ord : Fin 32) (late : Nat) (s : State) :
    Sound s (execLateMarker lane bar count ord late s) := by
  unfold execLateMarker
  split
  · exact branch (still s) (done (same (by simp)))
  · exact still s

/-- A command that is no message keeps the memories in their form. -/
theorem exec_sound_of_no_message (hc : messageOf c = none) (s : State) : Sound s (exec c s) := by
  cases c <;> cases hc
  case nightWake => exact nightWake_sound ..
  case backstopTrip => exact backstopTrip_sound ..
  case gateWindowEnd => exact gateWindowEnd_sound ..
  case untriedSlotCheck => exact untriedSlotCheck_sound ..
  case linesyncOut => exact linesyncOut_sound ..
  case indexMissing => exact indexMissing_sound ..
  case formPoint => exact formPoint_sound ..
  case markerDepart => exact markerDepart_sound ..
  case lineBlanked => exact lineBlanked_sound ..
  case renderStart => exact renderStart_sound ..
  case ceAge => exact ceAge_sound ..
  case replay => exact replay_sound ..
  case retrainPause => exact retrainPause_sound ..
  case lateMarker => exact lateMarker_sound ..
  case compressJob => exact guarded (compress_kept ..)
  case coreShutdown => exact done (shutdownCore_kept ..)
  case dawnStart | tripRestart => exact guarded (dawn_kept ..)
  case descriptorDone => exact guarded (descDone_kept ..)
  case flashOpDone => exact guarded (flashDone_kept ..)
  case hardwareTrip => exact guarded (trip_kept ..)
  case resetN => exact guarded (coreReset_kept s)
  case restartDawn => exact guarded (coreStop_kept ..)
  case vauxLost => exact branch (still s) (done (vauxLost_kept s))
  case memacc => exact branch (still s) (branch (.next _ (jtagMem_kept ..)) (.next _ (same (by simp))))
  case sync | delayResp | pdelayReq | pdelayResp | delayReq | announce => exact done (same (by simp))
  case linesyncIn | reject | dipEnd | vioReturn | scrubRead | trimStep => exact branch (still s) (done (same (by simp)))
  case vioLost | icmpEcho | laneCrcCompare | slice | refresh | actLimit | supplyStop | park | recoveryCycle =>
    exact branch (still s) (branch (done (same (by simp))) (done (same (by simp))))
  case encoderEdge => exact branch (done (same (by simp))) (branch (still s) (done (same (by simp))))
  case trainingSetRx =>
    exact branch (still s) (branch (done (same (by simp))) (branch (done (same (by simp))) (guarded (same (by simp)))))
  case statusRx | thermalSample => exact branch (.fault _) (branch (still s) (done (same (by simp))))
  case echoBurst => exact branch (.fault _) (branch (still s) (branch (done (same (by simp))) (done (same (by simp)))))
  case gateTrim => exact branch (.fault _) (guarded (same (by simp)))
  case idcode | samplePreload | clamp | highz | tstatus | bypass => exact branch (.next _ (same (by simp))) (still s)
  case extest | scan => exact branch (still s) (branch (.next _ (same (by simp))) (.next _ (same (by simp))))
  all_goals exact guarded (same (by simp))

theorem exec_sound (c : Instr) (s : State) : Sound s (exec c s) := by
  cases hc : messageOf c with
  | some w => exact message_sound (m := w.1) (port := w.2) hc s
  | none => exact exec_sound_of_no_message hc s

/-- A tick touches neither memory. -/
theorem tick_kept (s : State) : MemKept s s.tick := by
  have hrun := (tickRun_keeps s).memories fun _ => ⟨rfl, rfl⟩
  exact same (by simp [State.tick, hrun])

/-- Settles O6: HBM and the flash change only by splices and erasures, or start afresh, and every command and every tick is made of those. -/
theorem stepKeepsMemory : Obligations.StepKeepsMemory := by
  intro s t hs hstep
  unfold step at hstep
  split at hstep
  · cases hstep
    exact (tick_kept s).wf hs
  · next c cs hp =>
    have hsound := exec_sound c { s with pending := cs }
    rw [hstep] at hsound
    cases hsound with
    | next _ h => exact h.wf hs

/-- The test port's MEMACC about to write the word 0x00000700 at address 2 of an HBM that holds 9 at address 3. -/
def scannedState : State :=
  { State.reset with
    hbm := [(3, 9)], pow := { State.reset.pow with phase := .day, scanOpen := true }, pending := [.memacc (2 + 2 ^ 40 * 0x700 + 2 ^ 72)] }

/-- The word replaces the 9 by a 7, and its zero bytes are not listed. -/
theorem stepKeepsMemory_witness : ∃ t, step scannedState = .next t ∧ t.memoryWf ∧ t.hbm = [(3, 7)] := by
  have hrun : step scannedState = .next (State.jtagMem { scannedState with pending := [] } (2 + 2 ^ 40 * 0x700 + 2 ^ 72)) := by
    show execMemacc (2 + 2 ^ 40 * 0x700 + 2 ^ 72) { scannedState with pending := [] } = _
    rw [execMemacc, if_neg (by decide), if_pos (by decide)]
    rfl
  exact ⟨_, hrun, stepKeepsMemory _ _ ⟨rfl, rfl⟩ hrun, by decide⟩

end Sys2Proof.Machine
end

section
/-! PROOFS. What the end of a camera frame may change beside its own registers (R297, R321, R326 to R338, R343 to R354). -/

namespace Sys2Proof.Machine

variable {s t u : State} {E : State → State} {n : Nat}

/-- What the loops make of a frame may change beside what is noticed: what a common stop changes, the mending list, the gates' queues, the
fired history and the sums of the Ironing loop. -/
def sansLoops (u : State) : State :=
  { sansStop u with
    darn := { u.darn with list := [], change := 0, runs := [], streaks := [] }, gates := [], hist := []
    iron := { u.iron with bins := [], est := [], regs := [] } }

/-- What the end of a frame may change beside what is noticed. -/
def sansFrames (u : State) : State := { sansLoops u with cams := [] }

/-- The words of a pipeline and its lane that tell its frames: nothing but the frame's own end writes them. -/
def frameKept (n a : Nat) : Bool :=
  a == R.CP_STATUS n || a == R.CP_FRAMES n || a == R.CP_SHORT n || a == R.CP_LONG n || a == R.CP_LOST n || a == R.CL_STATUS n ||
    a == R.CL_SYMERR n || a == R.CL_LOCK_LOSS n

/-- The words that the end of a frame may write on the way. -/
def frameWord (n a : Nat) : Bool := !frameKept n a

theorem frameKept_cases {a : Nat} (h : frameKept n a = true) :
    a = 0x90050 + 512 * n ∨ a = 0x9005C + 512 * n ∨ a = 0x90060 + 512 * n ∨ a = 0x90064 + 512 * n ∨ a = 0x90068 + 512 * n ∨
      a = 0x90804 + 32 * n ∨ a = 0x90808 + 32 * n ∨ a = 0x9081C + 32 * n := by
  simpa [frameKept, R.CP_STATUS, R.CP_FRAMES, R.CP_SHORT, R.CP_LONG, R.CP_LOST, R.CL_STATUS, R.CL_SYMERR, R.CL_LOCK_LOSS, or_assoc] using h

theorem frameWord_of {a : Nat} (h : frameKept n a = true → False) : frameWord n a = true := by
  cases hk : frameKept n a
  · rw [frameWord, hk]
    rfl
  · exact absurd hk h

theorem frameWord_low {a : Nat} (h : a < 0x90050) : frameWord n a = true := frameWord_of fun hk => by
  have := frameKept_cases hk
  omega

theorem frameWord_compare (k : Nat) : frameWord n (R.CMP_STATUS k) = true := frameWord_of fun hk => by
  have := frameKept_cases hk
  simp only [R.CMP_STATUS] at this
  omega

section
variable (hn : n < 4)
include hn

theorem frameWord_high {a : Nat} (h : 0x90880 ≤ a) : frameWord n a = true := frameWord_of fun hk => by
  have := frameKept_cases hk
  omega

theorem frameWord_plumb (a : Nat) (h : plumbWord a = true) : frameWord n a = true := by
  have := plumbWord_cases h
  by_cases ha : a < 0x90050
  · exact frameWord_low ha
  · exact frameWord_high hn (by omega)

end

/-! ## A common stop (R219 to R221) -/

section
variable (hn : n < 4)
include hn

theorem notPrinted_loops (s : State) (num reason : Nat) : Keeps sansStop (frameWord n) s (s.notPrinted num reason) := by
  unfold State.notPrinted
  split
  · exact .refl s
  · next p _ =>
    obtain ⟨u, hrun, -, hkeeps⟩ := complete_raises (W := frameWord n) (fun a ha => frameWord_high hn (by omega)) s p (.notPrinted reason)
      fun k _ => frameWord_compare k
    rw [hrun]
    exact (hkeeps.mono (fun _ => rfl) fun _ h => h).raise (frameWord_plumb hn) _ _ _

theorem setStop_loops (s : State) (k cause : Nat) : Keeps sansStop (frameWord n) s (s.setStop k cause) := by
  unfold State.setStop
  extract_lets p grp s1 s2 s3
  have h1 : Keeps sansStop (frameWord n) s s1 := Keeps.foldl (fun t j hj => by
    have : j < 16 := List.mem_range.1 (List.mem_of_mem_filter hj)
    exact onTg_stop ((Keeps.refl t).wr (R.TG_STOP_POS j) _ (frameWord_low (show 0x5003C + 64 * j < 0x90050 by omega))) j _) s
  clear_value s1
  have h3 : Keeps sansStop (frameWord n) s s3 := (h1.wr R.STOP_CAUSE_SETTING cause (frameWord_low (by decide))).update rfl rfl
  exact h3.raise (frameWord_plumb hn) _ _ _

theorem stopGroup_loops (s : State) (cause k : Nat) : Keeps sansStop (frameWord n) s (s.stopGroup cause k) := by
  unfold State.stopGroup
  split
  · exact .ite (setStop_loops hn s k cause) (.refl s)
  · exact setStop_loops hn s k cause

omit hn in
theorem stopActive_loops (s : State) (cause : Nat) : Keeps sansStop (frameWord n) s (s.stopActive cause) := by
  have hactive : Keeps sansStop (frameWord n) s { s with stop := { s.stop with active := true } } := (Keeps.refl s).update rfl rfl
  exact .ite (.refl s) (((hactive.wr R.STOP_CAUSE_FIRST _ (frameWord_low (by decide))).wr R.STOP_CAUSE_SETTING _
    (frameWord_low (by decide))).lifeAdd _ _ _)

omit hn in
theorem speedDemand_loops (s : State) : Keeps sansStop (frameWord n) s s.speedDemand :=
  ((Keeps.refl s).wr _ _ (frameWord_low (show R.SD_NOW < _ by decide))).wr _ _ (frameWord_low (show R.SD_NOW < _ by decide))

theorem requestStop_loops (s : State) (cause : Nat) : Keeps sansStop (frameWord n) s (s.requestStop cause) := by
  rw [requestStop_eq]
  have hgroups := Keeps.foldl (fun t k _ => stopGroup_loops hn t cause k) (s.stopActive cause) (l := (s.stopActive cause).stopLeaders)
  exact (((stopActive_loops s cause).trans hgroups).trans (Keeps.foldl (fun t q _ => notPrinted_loops hn t q 0x12) _)).trans
    (speedDemand_loops _)

theorem faultStop_loops (s : State) (e : Event) (source : Nat) : Keeps sansStop (frameWord n) s (s.faultStop e source) :=
  ((Keeps.refl s).update (u := { s with stop := { s.stop with faults := s.stop.faults ++ [(e.code, source)] } }) rfl rfl).trans
    (requestStop_loops hn _ 5)

/-! ## Streaks and the mending list (R297 to R299) -/

theorem list_loops (s : State) (z source : Nat) (ambig : Bool) : Keeps sansLoops (frameWord n) s (s.list z source ambig) := by
  unfold State.list
  split
  · extract_lets k s1 s2
    have h1 : Keeps sansLoops (frameWord n) s s1 :=
      ((Keeps.refl s).wr R.MEND_OVERFLOW_COUNT _ (frameWord_low (by decide))).wr _ _ (frameWord_low (by decide))
    clear_value s1
    have h2 : Keeps sansLoops (frameWord n) s s2 := .ite h1 ((h1.lifeAdd _ _ _).condOn (frameWord_plumb hn) _ _ _)
    exact h2.trans ((faultStop_loops hn s2 _ _).mono (fun _ => rfl) fun _ h => h)
  · extract_lets c s1 k
    have h1 : Keeps sansLoops (frameWord n) s s1 := (Keeps.refl s).update rfl rfl
    clear_value s1
    have h2 := (h1.wr R.MEND_COUNT_ENTRIES k (frameWord_low (by decide))).wr R.MEND_LISTED_COUNT
      ((s1.wr R.MEND_COUNT_ENTRIES k).rd R.MEND_LISTED_COUNT + 1) (frameWord_low (by decide))
    exact ((h2.lifeAdd _ _ _).lifeMax _ _).raise (frameWord_plumb hn) _ _ _

omit hn in
theorem onGate_loops (s : State) (g : Nat) (f : Gate → Gate) : Keeps sansLoops (frameWord n) s (s.onGate g f) := (Keeps.refl s).update rfl rfl

omit hn in
theorem queueTest_loops (s : State) (z : Nat) : Keeps sansLoops (frameWord n) s (s.queueTest z) := by
  unfold State.queueTest
  split
  · exact .refl s
  · exact Keeps.foldl (fun t g _ => .ite (onGate_loops t g _) (.refl t)) s

omit hn in
theorem onDarn_loops (s : State) (l : Sparse Nat) : Keeps sansLoops (frameWord n) s (s.onDarn fun d => { d with streaks := l }) :=
  (Keeps.refl s).update rfl rfl

omit hn in
theorem inc_loops {W : Nat → Bool} (s : State) (f : Field) (hf : W f.addr = true) : Keeps sansLoops W s (s.inc f) := (Keeps.refl s).wr f _ hf

theorem streakBin_loops (s : State) (m i k : Nat) (spans : List (Int × Int)) (measured : Nat) (r : List Rat) :
    Keeps sansLoops (frameWord n) s (s.streakBin m i k spans measured r) := by
  unfold State.streakBin
  extract_lets key cover pred weak run s1 s2
  have h1 : Keeps sansLoops (frameWord n) s s1 := onDarn_loops s _
  have h2 : Keeps sansLoops (frameWord n) s s2 := (h1.trans (inc_loops s1 _ (frameWord_low (by decide)))).trans (onDarn_loops _ _)
  clear_value s1 s2
  refine .ite h1 ?_
  split
  · exact h2.trans (inc_loops s2 _ (frameWord_low (by decide)))
  · exact h2.trans (Keeps.foldl (fun t z _ => (Keeps.ite (list_loops hn t z 2 _) (.refl t)).trans (queueTest_loops _ z)) s2)

theorem streaks_loops (s : State) (m : Nat) (f : CamFrame) : Keeps sansLoops (frameWord n) s (s.streaks m f) := by
  unfold State.streaks
  exact Keeps.foldl (fun t i _ => Keeps.foldl (fun u k _ => streakBin_loops hn u m i k _ _ _) t) s

end

end Sys2Proof.Machine
end

section
/-! PROOFS. The end of a camera frame (R319, R321, R327 to R330, R338, R345 to R354). -/

namespace Sys2Proof.Machine

variable {s t u : State} {n : Nat} {f : CamFrame}

/-! ## The Ironing loop and the tables (R327, R330, R345 to R354) -/

section
variable (hn : n < 4)
include hn

theorem setWord_loops (s : State) (a : Nat) (w : Word) (ha : 0x90880 ≤ a) : Keeps sansLoops (frameWord n) s (s.setWord a w) :=
  (Keeps.refl s).setWord a w (frameWord_high hn ha)

theorem setEst_loops (s : State) (m i k : Nat) (e : Rat) (valid : Bool) : Keeps sansLoops (frameWord n) s (s.setEst m i k e valid) := by
  unfold State.setEst
  exact ((Keeps.refl s).update rfl rfl).trans (setWord_loops hn _ _ _ (by omega))

theorem estGone_loops (s : State) (m i k : Nat) :
    Keeps sansLoops (frameWord n) s (if s.estValid m i k then s.setEst m i k (s.estOf m i k) false else s) :=
  .ite (setEst_loops hn s m i k _ _) (.refl s)

theorem solveBin_loops (s : State) (m i p : Nat) : Keeps sansLoops (frameWord n) s (s.solveBin m i p) := by
  unfold State.solveBin
  extract_lets x own least big ks ds rhs sol
  refine .ite (Keeps.foldl (fun t k _ => estGone_loops hn t m i k) s) (Keeps.foldl (fun t k _ => ?_) s)
  dsimp only
  split
  · exact .ite (setEst_loops hn t m i k _ _) (estGone_loops hn t m i k)
  · exact estGone_loops hn t m i k

omit hn in
theorem binAdded_loops (s : State) (l : Sparse IronBin) : Keeps sansLoops (frameWord n) s { s with iron := { s.iron with bins := l } } :=
  (Keeps.refl s).update rfl rfl

theorem accumulate_loops (s : State) (m : Nat) (f : CamFrame) : Keeps sansLoops (frameWord n) s (s.accumulate m f) := by
  unfold State.accumulate
  extract_lets spans prof lam planes
  refine Keeps.foldl (fun t i _ => ?_) s
  refine .ite (.refl t) (Keeps.foldl (fun u p _ => ?_) t)
  exact (binAdded_loops u _).trans (solveBin_loops hn _ m i p)

theorem regReport_loops (s : State) (b : Nat) (spacing : Rat) : Keeps sansLoops (frameWord n) s (s.regReport b spacing) := by
  have herr : frameWord n (R.BAR_REGERR b) = true := frameWord_high hn (show _ ≤ 0xA0210 + 32 * b by omega)
  have hstat : frameWord n (R.BAR_REGSTAT b) = true := frameWord_high hn (show _ ≤ 0xA0214 + 32 * b by omega)
  unfold State.regReport
  exact (((((Keeps.refl s).wr (R.BAR_REGERR_ERR_Y b) _ herr).wr (R.BAR_REGERR_ERR_X b) _ herr).wr (R.BAR_REGSTAT_Y_VALID b) _ hstat).wr
    (R.BAR_REGSTAT_X_VALID b) _ hstat).wr (R.BAR_REGSTAT_FRESH b) _ hstat

omit hn in
theorem onReg_loops (s : State) (b : Nat) (g : RegSum → RegSum) : Keeps sansLoops (frameWord n) s (s.onReg b g) :=
  (Keeps.refl s).update rfl rfl

theorem register_loops (s : State) (m : Nat) (f : CamFrame) : Keeps sansLoops (frameWord n) s (s.register m f) := by
  unfold State.register
  extract_lets ls first spacing
  refine Keeps.foldl (fun t b _ => ?_) s
  split
  · exact .refl t
  · refine .ite (.refl t) (.ite (.refl t) ?_)
    exact (onReg_loops t b _).trans (regReport_loops hn _ b spacing)

theorem admitFrame_loops (s : State) (m : Nat) (f : CamFrame) (flk lost : Bool) :
    Keeps sansLoops (frameWord n) s (s.admitFrame m f flk lost).1 := by
  unfold State.admitFrame
  split
  · exact inc_loops s _ (frameWord_high hn (by decide))
  · split
    · exact inc_loops s _ (frameWord_high hn (by decide))
    · split
      · exact inc_loops s _ (frameWord_high hn (by decide))
      · split
        · exact inc_loops s _ (frameWord_high hn (by decide))
        · exact inc_loops s _ (frameWord_high hn (by decide))

theorem ironFrame_loops (s : State) (m : Nat) (f : CamFrame) (flk : Bool) : Keeps sansLoops (frameWord n) s (s.ironFrame m f flk []) := by
  unfold State.ironFrame
  extract_lets s1 r
  have hr : Keeps sansLoops (frameWord n) s r.1 := admitFrame_loops hn s m f flk _
  have hsolved : Keeps sansLoops (frameWord n) s (if s.streamOn m 0 then (r.1.streaks m f).accumulate m f else r.1) :=
    .ite ((hr.trans (streaks_loops hn r.1 m f)).trans (accumulate_loops hn _ m f)) hr
  exact .ite hr (hsolved.trans (register_loops hn _ m f))

theorem learnWhite_loops (s : State) (m : Nat) (f : CamFrame) : Keeps sansLoops (frameWord n) s (s.learnWhite m f) := by
  unfold State.learnWhite
  extract_lets pl ls
  exact Keeps.foldl (fun t x _ => .ite (.refl t)
    (Keeps.foldl (fun u k _ => setWord_loops hn u _ _ (show _ ≤ 0x46080000 + 0x20000 * m + 8 * x + 4 * (k / 2) by omega)) t)) s

theorem writeProfile_loops (s : State) (m : Nat) (f : CamFrame) : Keeps sansLoops (frameWord n) s (s.writeProfile m f) :=
  setWords_keeps (fun a ha => frameWord_high hn (by omega)) s _ _ (by omega)

end

/-! ## The frame in progress (R319, R333) -/

@[simp] theorem cam_onCam_same (s : State) (n : Nat) (g : Cam → Cam) : (s.onCam n g).cam n = g (s.cam n) := get_upd_same _ _ _ _

theorem cam_onCam_ne (s : State) (g : Cam → Cam) {k n : Nat} (h : k ≠ n) : (s.onCam n g).cam k = s.cam k := get_upd_ne _ _ _ _ _ h

theorem cam_congr (h : t.cams = s.cams) (k : Nat) : t.cam k = s.cam k := by rw [State.cam, State.cam, h]

theorem cams_of_loops {W : Nat → Bool} (h : Keeps sansLoops W s t) : t.cams = s.cams := (congrArg State.cams h.1 :)

theorem setBytes_cams (s : State) (a : Nat) (bs : List Byte) (ha : 0xC0000 ≤ a) : (s.setBytes a bs).cams = s.cams :=
  cams_of_loops (setBytes_keeps (W := fun _ => true) (fun _ _ => rfl) s a bs ha)

/-- Pipeline `n` carries the same frame, and what places the next one; the other pipelines are as they were. -/
structure FrameOn (n : Nat) (s t : State) : Prop where
  others : ∀ k, k ≠ n → t.cam k = s.cam k
  frame : ∀ f, (s.cam n).frame = some f → ∃ g, (t.cam n).frame = some g ∧ g.lines = f.lines ∧ g.extra = f.extra ∧ g.num = f.num
  lastNum : (t.cam n).lastNum = (s.cam n).lastNum
  gap : (t.cam n).gap = (s.cam n).gap

namespace FrameOn

protected theorem refl (s : State) : FrameOn n s s := ⟨fun _ _ => rfl, fun f hf => ⟨f, hf, rfl, rfl, rfl⟩, rfl, rfl⟩

protected theorem trans (h : FrameOn n s t) (h' : FrameOn n t u) : FrameOn n s u where
  others k hk := (h'.others k hk).trans (h.others k hk)
  frame f hf := by
    obtain ⟨g, hg, hlines, hextra, hnum⟩ := h.frame f hf
    obtain ⟨g', hg', hlines', hextra', hnum'⟩ := h'.frame g hg
    exact ⟨g', hg', hlines'.trans hlines, hextra'.trans hextra, hnum'.trans hnum⟩
  lastNum := h'.lastNum.trans h.lastNum
  gap := h'.gap.trans h.gap

theorem congr (h : FrameOn n s t) (hu : u.cams = t.cams) : FrameOn n s u where
  others k hk := (cam_congr hu k).trans (h.others k hk)
  frame f hf := by
    rw [cam_congr hu]
    exact h.frame f hf
  lastNum := (congrArg Cam.lastNum (cam_congr hu n)).trans h.lastNum
  gap := (congrArg Cam.gap (cam_congr hu n)).trans h.gap

protected theorem ite {p : Prop} [Decidable p] (ht : FrameOn n s t) (hu : FrameOn n s u) : FrameOn n s (if p then t else u) := by
  split
  · exact ht
  · exact hu

theorem onCam (h : FrameOn n s t) {g : Cam → Cam} (hg : ∀ c, (g c).frame = c.frame ∧ (g c).lastNum = c.lastNum ∧ (g c).gap = c.gap) :
    FrameOn n s (t.onCam n g) := h.trans
  { others := fun k hk => cam_onCam_ne t g hk
    frame := fun f hf => ⟨f, by rw [cam_onCam_same, (hg _).1, hf], rfl, rfl, rfl⟩
    lastNum := by rw [cam_onCam_same, (hg _).2.1]
    gap := by rw [cam_onCam_same, (hg _).2.2] }

theorem onFrame (h : FrameOn n s t) {g : CamFrame → CamFrame}
    (hg : ∀ f, (g f).lines = f.lines ∧ (g f).extra = f.extra ∧ (g f).num = f.num) : FrameOn n s (t.onFrame n g) := h.trans
  { others := fun k hk => cam_onCam_ne t _ hk
    frame := fun f hf => ⟨g f, by rw [State.onFrame, cam_onCam_same, hf, Option.map_some], hg f⟩
    lastNum := by rw [State.onFrame, cam_onCam_same]
    gap := by rw [State.onFrame, cam_onCam_same] }

end FrameOn

theorem s2Flush_frameOn (s : State) (n : Nat) : FrameOn n s (s.s2Flush n) := by
  unfold State.s2Flush
  split
  · exact .refl s
  · refine .ite (.refl s) (.ite ?_ ?_)
    · exact ((FrameOn.refl s).onCam (by exact fun _ => ⟨rfl, rfl, rfl⟩)).onFrame (by exact fun _ => ⟨rfl, rfl, rfl⟩)
    · extract_lets sx pl w k stride row padded a
      have hset : (s.setBytes a padded).cams = s.cams := setBytes_cams s _ _ (by omega)
      have hinc : FrameOn n s ((s.setBytes a padded).inc (R.CP_S2_LINES_COUNT n)) := (FrameOn.refl s).congr hset
      exact (hinc.onCam (by exact fun _ => ⟨rfl, rfl, rfl⟩)).onFrame (by exact fun _ => ⟨rfl, rfl, rfl⟩)

end Sys2Proof.Machine
end

section
/-! PROOFS. A camera frame that is over: its counts, its record and what the next one is placed by (R321, R328, R338). -/

namespace Sys2Proof.Machine

variable {s t u : State} {E : State → State} {W : Nat → Bool} {n : Nat} {f : CamFrame}

/-- A weaker frame, by the words it adds. -/
theorem Keeps.widen {E' : State → State} {W' : Nat → Bool} (h : Keeps E W s t) (hE : ∀ u, E' (E u) = E' u)
    (hW : ∀ a, W a = true → W' a = true) : Keeps E' W' s t :=
  h.mono hE fun a ha => Bool.eq_false_iff.2 fun hw => Bool.eq_false_iff.1 ha (hW a hw)

theorem onCam_frames (s : State) (n : Nat) (g : Cam → Cam) : Keeps sansFrames W s (s.onCam n g) := (Keeps.refl s).update rfl rfl

theorem Keeps.frames (h : Keeps sansLoops W s t) : Keeps sansFrames W s t := h.mono (fun _ => rfl) fun _ h => h

/-- A word that tells the frames is not among those written on the way. -/
theorem frameWord_kept {a : Nat} (h : frameKept n a = true) : frameWord n a = false := by rw [frameWord, h]; rfl

theorem flkWord (n : Nat) : frameWord n (R.CP_FLK n) = true ∧ frameWord n (R.CP_FLK_FREQ n) = true ∧ frameWord n (R.CP_S2_LINES n) = true ∧
    frameWord n (R.CP_MISMATCH n) = true ∧ frameWord n (R.CP_OVF n) = true := by
  refine ⟨frameWord_of fun h => ?_, frameWord_of fun h => ?_, frameWord_of fun h => ?_, frameWord_of fun h => ?_, frameWord_of fun h => ?_⟩ <;>
  · have := frameKept_cases h
    simp only [R.CP_FLK, R.CP_FLK_FREQ, R.CP_S2_LINES, R.CP_MISMATCH, R.CP_OVF] at this
    omega

theorem s2Flush_frames (hn : n < 4) (s : State) : Keeps sansFrames (frameWord n) s (s.s2Flush n) := by
  unfold State.s2Flush
  split
  · exact .refl s
  · refine .ite (.refl s) (.ite ((onCam_frames s n _).trans (onCam_frames _ n _)) ?_)
    extract_lets sx pl w k stride row padded a
    have hset : Keeps sansFrames (frameWord n) s (s.setBytes a padded) :=
      setBytes_keeps (fun b hb => frameWord_high hn (by omega)) s a padded (by omega)
    exact ((hset.wr (R.CP_S2_LINES_COUNT n) _ (flkWord n).2.2.1).trans (onCam_frames _ n _)).trans (onCam_frames _ n _)

/-! ## Flicker (R328) -/

theorem flicker_frames (s : State) (n : Nat) (f : CamFrame) : Keeps sansFrames (frameWord n) s (s.flicker n f).1 := by
  unfold State.flicker
  split
  · exact onCam_frames s n _
  · split
    · exact .refl s
    · extract_lets c pts r res bad hz dur freq s1
      have h1 : Keeps sansFrames (frameWord n) s s1 := onCam_frames s n _
      exact ((h1.wr (R.CP_FLK_AMP n) _ (flkWord n).1).wr (R.CP_FLK_RES n) _ (flkWord n).1).wr (R.CP_FLK_FREQ_HZ n) _ (flkWord n).2.1

theorem flicker_frameOn (s : State) (n : Nat) (f : CamFrame) : FrameOn n s (s.flicker n f).1 := by
  unfold State.flicker
  split
  · exact (FrameOn.refl s).onCam (by exact fun _ => ⟨rfl, rfl, rfl⟩)
  · split
    · exact .refl s
    · extract_lets c pts r res bad hz dur freq s1
      have h1 : FrameOn n s s1 := (FrameOn.refl s).onCam (by exact fun _ => ⟨rfl, rfl, rfl⟩)
      exact h1.congr (by simp)

/-! ## SHORT and LONG (R321) -/

/-- A count goes up and an event is raised, where `p` holds. -/
theorem counted_keeps {p : Prop} [Decidable p] (s : State) (c : Field) (e : Event) (source arg : Nat) :
    Keeps sansLoops (fun a => a == c.addr || plumbWord a) s (if p then (s.inc c).raise e source arg else s) :=
  .ite (((Keeps.refl s).wr c _ (by simp)).raise (by simp +contextual) e source arg) (.refl s)

theorem counted_rd {p : Prop} [Decidable p] (s : State) (c : Field) (e : Event) (source arg : Nat) (hc : c.fits = true) (hp : plumbWord c.addr = false) :
    (if p then (s.inc c).raise e source arg else s).rd c = (s.rd c + if p then 1 else 0) % 2 ^ c.width := by
  split
  · rw [← rd_inc s c hc]
    exact rd_congr _ _ c (raise_word _ _ _ _ _ hp)
  · exact (Nat.mod_eq_of_lt (rd_lt s c)).symm

theorem plumbWord_mid {a : Nat} (hlo : 0x161 ≤ a) (hhi : a < 0xC003C) : plumbWord a = false := by
  cases h : plumbWord a
  · rfl
  · have := plumbWord_cases h
    omega

theorem shortLong_plumb (hn : n < 4) : plumbWord (R.CP_SHORT n) = false ∧ plumbWord (R.CP_LONG n) = false :=
  ⟨plumbWord_mid (show _ ≤ 0x90060 + 512 * n by omega) (show 0x90060 + 512 * n < _ by omega),
    plumbWord_mid (show _ ≤ 0x90064 + 512 * n by omega) (show 0x90064 + 512 * n < _ by omega)⟩

/-- What SHORT and LONG make of a frame's end. -/
structure EndCounted (n : Nat) (f : CamFrame) (s t : State) : Prop where
  keeps : Keeps sansLoops (fun a => a == R.CP_SHORT n || a == R.CP_LONG n || frameWord n a) s t
  short : t.rd (R.CP_SHORT_COUNT n) = (s.rd (R.CP_SHORT_COUNT n) + if f.lines.length < s.cpHeight n then 1 else 0) % 2 ^ 32
  long : t.rd (R.CP_LONG_COUNT n) = (s.rd (R.CP_LONG_COUNT n) + if 0 < f.extra then 1 else 0) % 2 ^ 32

theorem frameEnds_counted (hn : n < 4) (s : State) (f : CamFrame) : EndCounted n f s (s.frameEnds n f).1 := by
  unfold State.frameEnds
  extract_lets short long s1 s2 told s3
  obtain ⟨hsp, hlp⟩ := shortLong_plumb hn
  have h1 := counted_keeps (p := short = true) s (R.CP_SHORT_COUNT n) Ev.FRAME_SHORT n f.lines.length
  have hs : s1.rd (R.CP_SHORT_COUNT n) = _ := counted_rd (p := short = true) s _ Ev.FRAME_SHORT n f.lines.length rfl hsp
  have h2 := counted_keeps (p := long = true) s1 (R.CP_LONG_COUNT n) Ev.FRAME_LONG n f.extra
  have hl : s2.rd (R.CP_LONG_COUNT n) = _ := counted_rd (p := long = true) s1 _ Ev.FRAME_LONG n f.extra rfl hlp
  have h3 := counted_keeps (p := f.mismatch = true) s2 (R.CP_MISMATCH_COUNT n) Ev.SETTINGS_MISMATCH n
    ((f.belief.map (·.sid)).getD 0 + 256 * told)
  have hplumb (a : Nat) (ha : plumbWord a = true) : frameWord n a = true := frameWord_plumb hn a ha
  have hmis := (flkWord n).2.2.2.1
  have hwide {c : Nat} {g : Nat → Bool} (hc : g c = true) (hg : ∀ a, frameWord n a = true → g a = true) (a : Nat)
      (ha : (a == c || plumbWord a) = true) : g a = true := by
    rcases Bool.or_eq_true .. ▸ ha with h | h
    · exact (beq_iff_eq.1 h) ▸ hc
    · exact hg a (hplumb a h)
  refine ⟨((h1.widen (fun _ => rfl) (hwide (by simp) (by simp +contextual))).trans (h2.widen (fun _ => rfl) (hwide (by simp) (by simp +contextual)))).trans
    (h3.widen (fun _ => rfl) (hwide (by simp [hmis]) (by simp +contextual))), ?_, ?_⟩
  · have hlong : s2.rd (R.CP_SHORT_COUNT n) = s1.rd (R.CP_SHORT_COUNT n) := h2.rd _ (by simp [hsp])
    have hmism : s3.rd (R.CP_SHORT_COUNT n) = s2.rd (R.CP_SHORT_COUNT n) := h3.rd _ (by simp [hsp])
    rw [hmism, hlong, hs]
    simp [short]
  · have hshort : s1.rd (R.CP_LONG_COUNT n) = s.rd (R.CP_LONG_COUNT n) := h1.rd _ (by simp [hlp])
    have hmism : s3.rd (R.CP_LONG_COUNT n) = s2.rd (R.CP_LONG_COUNT n) := h3.rd _ (by simp [hlp])
    rw [hmism, hl, hshort]
    simp [long]

/-! ## The record (R338) -/

/-- What the record of a frame that was not aborted leaves. -/
structure Recorded (n : Nat) (s t : State) : Prop where
  keeps : Keeps sansLoops (fun a => a == R.CP_FRAMES n || a == R.CP_STATUS n || frameWord n a) s t
  frames : t.rd (R.CP_FRAMES_COUNT n) = (s.rd (R.CP_FRAMES_COUNT n) + 1) % 2 ^ 32
  done : t.rd (R.CP_STATUS_DONE n) = 1
  aborted : t.rd (R.CP_STATUS_ABORTED n) = 0

theorem writeRecord_recorded (hn : n < 4) (s : State) (f : CamFrame) (x : FrameFlags) (hx : x.aborted = false) :
    Recorded n s (s.writeRecord n f x) := by
  unfold State.writeRecord
  extract_lets k
  have hset : Keeps sansLoops (fun a => a == R.CP_FRAMES n || a == R.CP_STATUS n || frameWord n a) s
      (s.setBytes (0x46000000 + 0x10000 * n + 64 * (k % 1024)) (s.frameRecord n f x)) :=
    (setBytes_keeps (W := frameWord n) (fun a ha => frameWord_high hn (by omega)) s _ _ (by omega)).widen (fun _ => rfl) (by simp +contextual)
  have hcount : (s.setBytes (0x46000000 + 0x10000 * n + 64 * (k % 1024)) (s.frameRecord n f x)).rd (R.CP_FRAMES_COUNT n) = k :=
    (setBytes_keeps (E := id) (W := frameWord n) (fun a ha => frameWord_high hn (by omega)) s _ _ (by omega)).rd _
      (frameWord_kept (by simp [frameKept]))
  generalize s.setBytes (0x46000000 + 0x10000 * n + 64 * (k % 1024)) (s.frameRecord n f x) = u at hset hcount ⊢
  rw [hx]
  refine ⟨((hset.wr (R.CP_FRAMES_COUNT n) _ (by simp)).wr (R.CP_STATUS_DONE n) _ (by simp)).wr (R.CP_STATUS_ABORTED n) _ (by simp), ?_, ?_, ?_⟩
  · rw [State.wrB, State.wrB, rd_wr_word _ _ _ _ (show 0x9005C + 512 * n ≠ 0x90050 + 512 * n by omega),
      rd_wr_word _ _ _ _ (show 0x9005C + 512 * n ≠ 0x90050 + 512 * n by omega), rd_inc _ _ rfl, hcount]
  · rw [State.wrB, rd_wr_apart _ _ _ _ rfl (by simp [Field.apart])]
    exact rd_wr_same _ _ _ rfl
  · exact rd_wr_same _ _ _ rfl

/-! ## The end -/

/-- The words a frame's end writes at all: its counts and STATUS, and what it writes on the way. -/
def frameEndWord (n a : Nat) : Bool := a == R.CP_SHORT n || a == R.CP_LONG n || a == R.CP_FRAMES n || a == R.CP_STATUS n || frameWord n a

theorem frameEndWord_of {a : Nat} (h : frameWord n a = true) : frameEndWord n a = true := by simp [frameEndWord, h]

/-- What the end of frame `f` of pipeline `n` leaves. -/
structure FrameOver (n : Nat) (f : CamFrame) (s t : State) : Prop where
  others : ∀ k, k ≠ n → t.cam k = s.cam k
  frame : (t.cam n).frame = none
  lastLines : (t.cam n).lastLines = some (f.lines.length + f.extra)
  lastNum : (t.cam n).lastNum = (s.cam n).lastNum
  keeps : Keeps sansFrames (frameEndWord n) s t
  frames : t.rd (R.CP_FRAMES_COUNT n) = (s.rd (R.CP_FRAMES_COUNT n) + 1) % 2 ^ 32
  short : t.rd (R.CP_SHORT_COUNT n) = (s.rd (R.CP_SHORT_COUNT n) + if f.lines.length < s.cpHeight n then 1 else 0) % 2 ^ 32
  long : t.rd (R.CP_LONG_COUNT n) = (s.rd (R.CP_LONG_COUNT n) + if 0 < f.extra then 1 else 0) % 2 ^ 32
  done : t.rd (R.CP_STATUS_DONE n) = 1
  aborted : t.rd (R.CP_STATUS_ABORTED n) = 0
  transition : t.rd (R.CP_STATUS_TRANSITION n) = 0

/-- The frame, once its boxes are flushed, up to where it is dropped. -/
def State.frameTold (s : State) (n : Nat) (f : CamFrame) : State :=
  let fk := s.flicker n f
  let r := fk.1.frameEnds n f
  let s1 := if r.1.streamOn n 0 then r.1.writeProfile n f else r.1
  let s2 := s1.writeRecord n f { r.2 with flicker := fk.2 }
  let s4 := if s2.flag (R.CP_FF_FF_EN n) ∧ !f.transition ∧ !fk.2 then s2.learnWhite n f else s2
  s4.ironFrame n f fk.2 []

theorem endFrame_eq {f g : CamFrame} (hf : (s.cam n).frame = some f) (hg : ((s.s2Flush n).cam n).frame = some g) :
    s.endFrame n [] = ((s.s2Flush n).frameTold n g).dropFrame n g (decide (g.lines.length < s.cpHeight n)) := by
  unfold State.endFrame
  rw [hf]
  dsimp only
  rw [hg]
  rfl

/-- Between the flush and the drop: the record is written, the counts have moved, and the pipeline still carries the frame. -/
structure FrameTold (n : Nat) (f : CamFrame) (s t : State) : Prop where
  on : FrameOn n s t
  keeps : Keeps sansFrames (frameEndWord n) s t
  frames : t.rd (R.CP_FRAMES_COUNT n) = (s.rd (R.CP_FRAMES_COUNT n) + 1) % 2 ^ 32
  short : t.rd (R.CP_SHORT_COUNT n) = (s.rd (R.CP_SHORT_COUNT n) + if f.lines.length < s.cpHeight n then 1 else 0) % 2 ^ 32
  long : t.rd (R.CP_LONG_COUNT n) = (s.rd (R.CP_LONG_COUNT n) + if 0 < f.extra then 1 else 0) % 2 ^ 32
  done : t.rd (R.CP_STATUS_DONE n) = 1
  aborted : t.rd (R.CP_STATUS_ABORTED n) = 0

theorem cpHeight_congr (h : t.conf = s.conf) (n : Nat) : t.cpHeight n = s.cpHeight n := cf_congr h _

theorem conf_of_frames {W : Nat → Bool} (h : Keeps sansFrames W s t) : t.conf = s.conf := (congrArg State.conf h.1 :)

theorem frameWord_counts (n : Nat) : frameWord n (R.CP_STATUS n) = false ∧ frameWord n (R.CP_FRAMES n) = false ∧
    frameWord n (R.CP_SHORT n) = false ∧ frameWord n (R.CP_LONG n) = false := by
  refine ⟨frameWord_kept ?_, frameWord_kept ?_, frameWord_kept ?_, frameWord_kept ?_⟩ <;> simp [frameKept]

theorem frameTold_told (hn : n < 4) (s : State) (f : CamFrame) : FrameTold n f s (s.frameTold n f) := by
  unfold State.frameTold
  extract_lets fk r s1 w s2 s4
  have hflk : Keeps sansFrames (frameWord n) s fk.1 := flicker_frames s n f
  have honflk : FrameOn n s fk.1 := flicker_frameOn s n f
  have hends : EndCounted n f fk.1 r.1 := frameEnds_counted hn fk.1 f
  have hprofile : Keeps sansLoops (frameWord n) r.1 s1 := .ite (writeProfile_loops hn r.1 n f) (.refl _)
  have hrec : Recorded n s1 s2 := writeRecord_recorded hn s1 f _ rfl
  have hwhite : Keeps sansLoops (frameWord n) s2 s4 := .ite (learnWhite_loops hn s2 n f) (.refl _)
  have hiron := ironFrame_loops hn s4 n f fk.2
  generalize s4.ironFrame n f fk.2 [] = t at hiron ⊢
  clear_value s4 s2 w s1 r fk
  have hlate : Keeps sansLoops (frameWord n) s2 t := hwhite.trans hiron
  obtain ⟨hstatus, hframes, hshort, hlong⟩ := frameWord_counts n
  have hheight : fk.1.cpHeight n = s.cpHeight n := cpHeight_congr (conf_of_frames hflk) n
  have hcams : t.cams = fk.1.cams := (cams_of_loops hlate).trans ((cams_of_loops hrec.keeps).trans ((cams_of_loops hprofile).trans
    (cams_of_loops hends.keeps)))
  have hmid : Keeps sansFrames (frameEndWord n) fk.1 t :=
    (((hends.keeps.frames.widen (fun _ => rfl) (by simp [frameEndWord]; tauto)).trans
      (hprofile.frames.widen (fun _ => rfl) fun _ => frameEndWord_of)).trans
      (hrec.keeps.frames.widen (fun _ => rfl) (by simp [frameEndWord]; tauto))).trans (hlate.frames.widen (fun _ => rfl) fun _ => frameEndWord_of)
  refine ⟨honflk.congr hcams, (hflk.widen (fun _ => rfl) fun _ => frameEndWord_of).trans hmid, ?_, ?_, ?_, ?_, ?_⟩
  · have hends' : r.1.rd (R.CP_FRAMES_COUNT n) = fk.1.rd (R.CP_FRAMES_COUNT n) :=
      hends.keeps.rd (R.CP_FRAMES_COUNT n) (by simp [hframes])
    rw [hlate.rd (R.CP_FRAMES_COUNT n) hframes, hrec.frames, hprofile.rd (R.CP_FRAMES_COUNT n) hframes, hends',
      hflk.rd (R.CP_FRAMES_COUNT n) hframes]
  · have hrec' : s2.rd (R.CP_SHORT_COUNT n) = s1.rd (R.CP_SHORT_COUNT n) :=
      hrec.keeps.rd (R.CP_SHORT_COUNT n) (by simp [hshort])
    rw [hlate.rd (R.CP_SHORT_COUNT n) hshort, hrec', hprofile.rd (R.CP_SHORT_COUNT n) hshort, hends.short,
      hflk.rd (R.CP_SHORT_COUNT n) hshort, hheight]
  · have hrec' : s2.rd (R.CP_LONG_COUNT n) = s1.rd (R.CP_LONG_COUNT n) :=
      hrec.keeps.rd (R.CP_LONG_COUNT n) (by simp [hlong])
    rw [hlate.rd (R.CP_LONG_COUNT n) hlong, hrec', hprofile.rd (R.CP_LONG_COUNT n) hlong, hends.long, hflk.rd (R.CP_LONG_COUNT n) hlong]
  · exact (hlate.rd (R.CP_STATUS_DONE n) hstatus).trans hrec.done
  · exact (hlate.rd (R.CP_STATUS_ABORTED n) hstatus).trans hrec.aborted

/-! ## The drop -/

/-- A pipeline whose frame is over. -/
def Cam.dropped (c : Cam) (f : CamFrame) (short : Bool) : Cam :=
  { c with frame := none, gap := short || bit f.ovf 3, lastLines := some (f.lines.length + f.extra), kept := (f.lines ++ c.kept).take 16384 }

theorem dropFrame_cams (s : State) (n : Nat) (f : CamFrame) (short : Bool) :
    (s.dropFrame n f short).cams = (s.onCam n (·.dropped f short)).cams := rfl

theorem dropFrame_cam_same (s : State) (n : Nat) (f : CamFrame) (short : Bool) :
    (s.dropFrame n f short).cam n = (s.cam n).dropped f short := by
  rw [cam_congr (dropFrame_cams s n f short), cam_onCam_same]

theorem dropFrame_cam_ne (s : State) (f : CamFrame) (short : Bool) {k : Nat} (h : k ≠ n) : (s.dropFrame n f short).cam k = s.cam k :=
  (cam_congr (dropFrame_cams s n f short) k).trans (cam_onCam_ne s _ h)

theorem dropFrame_keeps (s : State) (n : Nat) (f : CamFrame) (short : Bool) :
    Keeps sansFrames (fun a => a == R.CP_STATUS n) s (s.dropFrame n f short) :=
  (onCam_frames s n _).wr (R.CP_STATUS_TRANSITION n) 0 (by simp)

/-- The end of a frame in progress. -/
theorem endFrame_over (hn : n < 4) (hf : (s.cam n).frame = some f) : FrameOver n f s (s.endFrame n []) := by
  have hflush : Keeps sansFrames (frameWord n) s (s.s2Flush n) := s2Flush_frames hn s
  have hon : FrameOn n s (s.s2Flush n) := s2Flush_frameOn s n
  obtain ⟨g, hg, hlines, hextra, -⟩ := hon.frame f hf
  rw [endFrame_eq hf hg]
  generalize s.s2Flush n = u at hflush hon hg ⊢
  have htold : FrameTold n g u (u.frameTold n g) := frameTold_told hn u g
  generalize u.frameTold n g = v at htold ⊢
  have hheight : u.cpHeight n = s.cpHeight n := cpHeight_congr (conf_of_frames hflush) n
  obtain ⟨hstatus, hframes, hshort, hlong⟩ := frameWord_counts n
  have hrest (c : Field) (hc : c.fits = true) (hbits : (R.CP_STATUS_TRANSITION n).apart c = true) (b : Bool) :
      (v.dropFrame n g b).rd c = v.rd c := rd_wr_apart _ _ _ _ hc hbits
  have hdrop := dropFrame_keeps v n g (decide (g.lines.length < s.cpHeight n))
  refine ⟨fun k hk => ?_, ?_, ?_, ?_, ?_, ?_, ?_, ?_, ?_, ?_, rd_wr_same _ _ _ rfl⟩
  · rw [dropFrame_cam_ne v g _ hk, htold.on.others k hk, hon.others k hk]
  · rw [dropFrame_cam_same]; rfl
  · rw [dropFrame_cam_same, ← hlines, ← hextra]; rfl
  · rw [dropFrame_cam_same, ← hon.lastNum, ← htold.on.lastNum]; rfl
  · exact ((hflush.widen (fun _ => rfl) fun _ => frameEndWord_of).trans htold.keeps).trans
      (hdrop.widen (fun _ => rfl) (by simp +contextual [frameEndWord]))
  · rw [hrest _ rfl (by simp [Field.apart]), htold.frames, hflush.rd (R.CP_FRAMES_COUNT n) hframes]
  · rw [hrest _ rfl (by simp [Field.apart]), htold.short, hflush.rd (R.CP_SHORT_COUNT n) hshort, hlines, hheight]
  · rw [hrest _ rfl (by simp [Field.apart]), htold.long, hflush.rd (R.CP_LONG_COUNT n) hlong, hextra]
  · rw [hrest _ rfl (by simp [Field.apart]), htold.done]
  · rw [hrest _ rfl (by simp [Field.apart]), htold.aborted]

/-- Without a frame in progress nothing ends. -/
theorem endFrame_none (hf : (s.cam n).frame = none) : s.endFrame n [] = s := by
  rw [State.endFrame, hf]

end Sys2Proof.Machine
end

section
/-! PROOFS. Camera lanes and CAMCTL (R313, R318, R321 to R325), and the statement about them. -/

namespace Sys2Proof.Machine

variable {s t u : State} {E : State → State} {W : Nat → Bool} {n : Nat}

/-! ## What a camera's commands may change -/

/-- The state less registers, camera pipelines and what was sent. -/
def sansCam (u : State) : State := { u with regs := [], cams := [], out := [] }

theorem latch_of_sansCam (h : sansCam u = sansCam s) :
    u.latch = { s with
      regs := u.latch.regs, spans := { s.spans with leaves := u.latch.spans.leaves }, cams := u.latch.cams, out := u.latch.out } :=
  calc
    u.latch = { u with spans := { u.spans with leaves := u.latch.spans.leaves } } := latch_eq_leaves u
    _ = { sansCam u with
      regs := u.regs, spans := { (sansCam u).spans with leaves := u.latch.spans.leaves }, cams := u.cams, out := u.out } := rfl
    _ = { s with regs := u.regs, spans := { s.spans with leaves := u.latch.spans.leaves }, cams := u.cams, out := u.out } := by
      rw [h]; rfl
    _ = _ := by simp only [latch_frame]

theorem latch_of_sansCam_out (h : sansCam u = sansCam s) (ho : u.out = s.out) :
    u.latch = { s with regs := u.latch.regs, spans := { s.spans with leaves := u.latch.spans.leaves }, cams := u.latch.cams } :=
  (latch_of_sansCam h).trans (by simp only [latch_frame, ho])

theorem latch_of_sansCam_regs (h : sansCam u = sansCam s) (hr : u.regs = s.regs) :
    u.latch = { s with spans := { s.spans with leaves := u.latch.spans.leaves }, cams := u.latch.cams, out := u.latch.out } :=
  (latch_of_sansCam h).trans (by simp only [latch_frame, hr])

theorem latch_of_sansCam_words (h : sansCam u = sansCam s) (hc : u.cams = s.cams) (ho : u.out = s.out) :
    u.latch = { s with regs := u.latch.regs, spans := { s.spans with leaves := u.latch.spans.leaves } } :=
  (latch_of_sansCam_out h ho).trans (by simp only [latch_frame, hc])

theorem latch_cam (s : State) (n : Nat) : s.latch.cam n = s.cam n := cam_congr (by simp only [latch_frame]) n

theorem latch_cams (s : State) : s.latch.cams = s.cams := by simp only [latch_frame]

/-! ## Folds over pipelines -/

/-- What each element of a list brings about, and no other undoes, holds after the fold for all of them. -/
theorem foldl_each {α : Type} {P : α → State → Prop} {f : State → α → State} (hself : ∀ t k, P k (f t k))
    (hkept : ∀ t j k, P k t → P k (f t j)) (l : List α) (s : State) : ∀ k ∈ l, P k (l.foldl f s) := by
  have hall (l : List α) (t : State) (k : α) (h : P k t) : P k (l.foldl f t) := by
    induction l generalizing t with
    | nil => exact h
    | cons j l ih => exact ih (f t j) (hkept t j k h)
  induction l generalizing s with
  | nil => exact fun k hk => absurd hk List.not_mem_nil
  | cons j l ih =>
    intro k hk
    obtain rfl | hk := List.mem_cons.1 hk
    · exact hall l _ _ (hself s k)
    · exact ih _ k hk

/-- A fold leaves what each of its steps leaves. -/
theorem foldl_leaves {α : Type} {P : State → State → Prop} {f : State → α → State} (hrefl : ∀ t, P t t)
    (htrans : ∀ t u v, P t u → P u v → P t v) (l : List α) (hf : ∀ t, ∀ k ∈ l, P t (f t k)) (s : State) : P s (l.foldl f s) := by
  induction l generalizing s with
  | nil => exact hrefl s
  | cons k l ih => exact htrans _ _ _ (hf s k List.mem_cons_self) (ih (fun t j hj => hf t j (List.mem_cons_of_mem k hj)) _)

theorem mem_armGroup {k : Nat} : k ∈ s.armGroup n ↔ k < 4 ∧ (s.cpOn k && (k == n || (s.cpTrig n != 0 && s.cpTrig k == s.cpTrig n))) = true := by
  rw [State.armGroup, List.mem_filter, List.mem_range]

theorem armGroup_congr (h : t.conf = s.conf) (hb : t.unitsBad = s.unitsBad) (n : Nat) : t.armGroup n = s.armGroup n := by
  simp only [State.armGroup, State.cpOn, State.cpTrig, State.unitBad, cf_congr h, hb]

/-! ## CAMCTL messages (R322, R323) -/

theorem camSend_cam_same (s : State) (n cmd sid : Nat) (payload : List Byte) :
    s.time ≤ ((s.camSend n cmd sid payload).cam n).ctlEnd ∧ ((s.camSend n cmd sid payload).cam n).wait = some (cmd, sid) := by
  unfold State.camSend
  extract_lets m ticks
  rw [cam_onCam_same]
  exact ⟨(le_max_left _ _).trans (Nat.le_add_right _ _), rfl⟩

theorem camSend_cam_ne (s : State) (cmd sid : Nat) (payload : List Byte) {k : Nat} (h : k ≠ n) : (s.camSend n cmd sid payload).cam k = s.cam k := by
  unfold State.camSend
  extract_lets m ticks
  exact cam_onCam_ne _ _ h

/-- A CAMCTL message leaves, and nothing but its pipeline changes. -/
theorem camSend_frame (s : State) (n cmd sid : Nat) (payload : List Byte) :
    (s.camSend n cmd sid payload).out = s.out ++ [.camctl n (camMsg cmd sid payload)] ∧ (s.camSend n cmd sid payload).regs = s.regs ∧
      sansCam (s.camSend n cmd sid payload) = sansCam s := ⟨rfl, rfl, rfl⟩

/-! ## Arming (R318) -/

/-- START has left for some pipelines. -/
def State.started (s : State) (g : List Nat) : State := g.foldl (fun (t : State) k => t.camSend k 2 0 []) s

/-- A pipeline takes a state of its own, and shows `locked` where its lane is locked. -/
def State.camSet (f : State → Nat → Cam → Cam) (locked : Nat) (t : State) (k : Nat) : State :=
  (t.onCam k (f t k)).wr (R.CP_STATUS_STATE k) (if t.rd (R.CL_STATUS_STATE k) = 2 then locked else 1)

/-- A pipeline that is armed, its pin held until a tick. -/
def armedCam (rel : Nat) (t : State) (k : Nat) (c : Cam) : Cam :=
  { c with
    trigs := [], count := 0, release := some rel, base := 0, lastLines := none, a := 0, b := 0,
    freq := (t.rd (R.CP_FLK_CFG_FLK_HZ k) : Rat) / 100, strips := [], gap := true,
    frame := c.frame.map (fun f => { f with base := 2 ^ 64 }) }

/-- The tick the pins of some pipelines are held until. -/
def State.heldUntil (s : State) (g : List Nat) : Nat :=
  maxOf (g.map (fun k => (s.cam k).ctlEnd + usTicks (s.rd (R.CP_CAMCTL_START_HOLD k))))

theorem armCam_eq (s : State) (n : Nat) :
    s.armCam n = (s.armGroup n).foldl (State.camSet (armedCam ((s.started (s.armGroup n)).heldUntil (s.armGroup n))) 2) (s.started (s.armGroup n)) := rfl

theorem le_maxOf {l : List Nat} {x : Nat} (h : x ∈ l) : x ≤ maxOf l := by
  rw [maxOf, List.foldl_eq_foldr]
  exact List.le_max_of_le h le_rfl

/-- START has left for a group. -/
structure Started (s t : State) (g : List Nat) : Prop where
  sent : ∀ k ∈ g, Output.camctl k (camMsg 2 0 []) ∈ t.out
  ends : ∀ k ∈ g, s.time ≤ (t.cam k).ctlEnd
  others : ∀ k, k ∉ g → t.cam k = s.cam k
  regs : t.regs = s.regs
  rest : sansCam t = sansCam s

theorem started_of_state (s : State) (g : List Nat) : Started s (s.started g) g where
  sent := foldl_each (P := fun k t => Output.camctl k (camMsg 2 0 []) ∈ t.out) (fun t k => by rw [(camSend_frame t k 2 0 []).1]; simp)
    (fun t j k h => by rw [(camSend_frame t j 2 0 []).1]; exact List.mem_append_left _ h) g s
  ends := by
    have h : ∀ k ∈ g, (s.started g).time ≤ ((s.started g).cam k).ctlEnd :=
      foldl_each (P := fun k t => t.time ≤ (t.cam k).ctlEnd) (fun t k => (camSend_cam_same t k 2 0 []).1) (fun t j k h => by
        rcases eq_or_ne k j with rfl | hne
        · exact (camSend_cam_same t k 2 0 []).1
        · rw [camSend_cam_ne t 2 0 [] hne]
          exact h) g s
    have htime : (s.started g).time = s.time := foldl_keeps State.time (fun t k => t.camSend k 2 0 []) (fun _ _ => rfl) g s
    rw [htime] at h
    exact h
  others := fun k hk => foldl_leaves (P := fun t u => u.cam k = t.cam k) (fun _ => rfl) (fun _ _ _ h h' => h'.trans h) g
    (fun t j hj => camSend_cam_ne t 2 0 [] fun h => hk (h ▸ hj)) s
  regs := foldl_keeps State.regs (fun t k => t.camSend k 2 0 []) (fun _ _ => rfl) g s
  rest := foldl_keeps sansCam (fun t k => t.camSend k 2 0 []) (fun _ _ => rfl) g s

/-- The words that show the pipelines' states. -/
theorem camStatus_mem {k : Nat} (h : k < 4) : R.CP_STATUS k ∈ [R.CP_STATUS 0, R.CP_STATUS 1, R.CP_STATUS 2, R.CP_STATUS 3] := by
  obtain rfl | rfl | rfl | rfl : k = 0 ∨ k = 1 ∨ k = 2 ∨ k = 3 := by omega
  all_goals simp

/-- What arming or releasing a group of pipelines leaves: `c` of each pipeline's own, and `v` in CPn_STATUS.STATE. -/
structure GroupSet (s t : State) (g : List Nat) (c : Cam → Prop) (locked : Nat) : Prop where
  cam : ∀ k ∈ g, c (t.cam k)
  state : ∀ k ∈ g, t.rd (R.CP_STATUS_STATE k) = if s.rd (R.CL_STATUS_STATE k) = 2 then locked else 1
  others : ∀ k, k ∉ g → t.cam k = s.cam k
  words : SameWords s t [R.CP_STATUS 0, R.CP_STATUS 1, R.CP_STATUS 2, R.CP_STATUS 3]
  out : t.out = s.out
  rest : sansCam t = sansCam s

/-- The lanes' words are none of the pipelines' states. -/
theorem lane_not_camStatus (k : Nat) : R.CL_STATUS k ∉ [R.CP_STATUS 0, R.CP_STATUS 1, R.CP_STATUS 2, R.CP_STATUS 3] := by
  simp only [R.CL_STATUS, R.CP_STATUS, List.mem_cons, List.not_mem_nil, or_false]
  omega

section
variable (f : State → Nat → Cam → Cam) (locked : Nat)

theorem camSet_cam_same (t : State) (k : Nat) : (t.camSet f locked k).cam k = f t k (t.cam k) := cam_onCam_same t k _

theorem camSet_cam_ne (t : State) {j k : Nat} (h : k ≠ j) : (t.camSet f locked j).cam k = t.cam k := cam_onCam_ne t _ h

theorem camSet_state_same (hlocked : locked < 8) (t : State) (k : Nat) :
    (t.camSet f locked k).rd (R.CP_STATUS_STATE k) = if t.rd (R.CL_STATUS_STATE k) = 2 then locked else 1 := by
  rw [State.camSet, rd_wr_same _ _ _ rfl]
  exact Nat.mod_eq_of_lt (show _ < 8 by split <;> omega)

theorem camSet_state_ne (t : State) {j k : Nat} (h : k ≠ j) : (t.camSet f locked j).rd (R.CP_STATUS_STATE k) = t.rd (R.CP_STATUS_STATE k) :=
  rd_wr_word _ _ _ _ (by simp only [R.CP_STATUS]; omega)

theorem camSet_lane (t : State) (j k : Nat) : (t.camSet f locked j).rd (R.CL_STATUS_STATE k) = t.rd (R.CL_STATUS_STATE k) :=
  rd_wr_word _ _ _ _ (by simp only [R.CP_STATUS, R.CL_STATUS]; omega)

theorem camSet_words (t : State) {k : Nat} (hk : k < 4) :
    SameWords t (t.camSet f locked k) [R.CP_STATUS 0, R.CP_STATUS 1, R.CP_STATUS 2, R.CP_STATUS 3] :=
  sameWords_wr (fun _ _ => rfl) (R.CP_STATUS_STATE k) _ (camStatus_mem hk)

theorem groupSet_foldl (hlocked : locked < 8) (s : State) {g : List Nat} (hg : ∀ k ∈ g, k < 4) {c : Cam → Prop} (hc : ∀ t k x, c (f t k x)) :
    GroupSet s (g.foldl (State.camSet f locked) s) g c locked where
  cam := foldl_each (P := fun k t => c (t.cam k)) (fun t k => by rw [camSet_cam_same]; exact hc t k _) (fun t j k h => by
    rcases eq_or_ne k j with rfl | hne
    · rw [camSet_cam_same]
      exact hc t k _
    · rw [camSet_cam_ne f locked t hne]
      exact h) g s
  state := by
    have hlane (k : Nat) : (g.foldl (State.camSet f locked) s).rd (R.CL_STATUS_STATE k) = s.rd (R.CL_STATUS_STATE k) :=
      foldl_keeps (fun t => t.rd (R.CL_STATUS_STATE k)) (State.camSet f locked) (fun t j => camSet_lane f locked t j k) g s
    have hshown := foldl_each (P := fun k t => t.rd (R.CP_STATUS_STATE k) = if t.rd (R.CL_STATUS_STATE k) = 2 then locked else 1)
      (f := State.camSet f locked) (fun t k => by rw [camSet_lane, camSet_state_same f locked hlocked]) (fun t j k h => by
        rw [camSet_lane]
        rcases eq_or_ne k j with rfl | hne
        · exact camSet_state_same f locked hlocked t k
        · rw [camSet_state_ne f locked t hne, h]) g s
    intro k hk
    rw [hshown k hk, hlane]
  others := fun k hk => foldl_leaves (P := fun t u => u.cam k = t.cam k) (fun _ => rfl) (fun _ _ _ h h' => h'.trans h) g
    (fun t j hj => camSet_cam_ne f locked t fun h => hk (h ▸ hj)) s
  words := foldl_leaves (P := fun t u => SameWords t u [R.CP_STATUS 0, R.CP_STATUS 1, R.CP_STATUS 2, R.CP_STATUS 3]) (fun _ _ _ => rfl)
    (fun _ _ _ h h' a ha => (h' a ha).trans (h a ha)) g (fun t k hk => camSet_words f locked t (hg k hk)) s
  out := foldl_keeps State.out (State.camSet f locked) (fun _ _ => rfl) g s
  rest := foldl_keeps sansCam (State.camSet f locked) (fun _ _ => rfl) g s

end

/-! ## CL_LOCK and ARM_RELEASE (R313, R318) -/

theorem armGroup_lt {k : Nat} (h : k ∈ s.armGroup n) : k < 4 := (mem_armGroup.1 h).1

/-- An armed pipeline: no trigger, none counted, and its pin held until a tick. -/
def Cam.armed (rel : Nat) (c : Cam) : Prop := c.release = some rel ∧ c.trigs = [] ∧ c.count = 0

/-- A lane that locks. -/
def State.laneLocked (s : State) (n : Nat) : State := s.wr (R.CL_STATUS_STATE n) 2

theorem camLaneLock_eq {sets : Nat} (hstate : s.rd (R.CL_STATUS_STATE n) = 1) (hsets : 16 ≤ sets) :
    s.camLaneLock n sets = if s.cpOn n then (s.laneLocked n).armCam n else s.laneLocked n := by
  rw [State.camLaneLock, if_pos ⟨hstate, hsets⟩]
  rfl

theorem laneLocked_state (s : State) (n : Nat) : (s.laneLocked n).rd (R.CL_STATUS_STATE n) = 2 := rd_wr_same _ _ _ rfl

theorem laneLocked_words (s : State) (n : Nat) :
    SameWords s (s.laneLocked n) [R.CL_STATUS n, R.CP_STATUS 0, R.CP_STATUS 1, R.CP_STATUS 2, R.CP_STATUS 3] :=
  sameWords_wr (fun _ _ => rfl) (R.CL_STATUS_STATE n) _ List.mem_cons_self

/-- What arming leaves of the state before it. -/
theorem armCam_armed (s : State) (n : Nat) : ∃ r, GroupSet (s.started (s.armGroup n)) (s.armCam n) (s.armGroup n) (Cam.armed r) 2 ∧
    ∀ k ∈ s.armGroup n, s.time + usTicks (s.rd (R.CP_CAMCTL_START_HOLD k)) ≤ r := by
  have hstart : Started s (s.started (s.armGroup n)) (s.armGroup n) := started_of_state s _
  rw [armCam_eq]
  refine ⟨(s.started (s.armGroup n)).heldUntil (s.armGroup n),
    groupSet_foldl _ 2 (by decide) _ (fun k hk => armGroup_lt hk) (fun t k x => ⟨rfl, rfl, rfl⟩), fun k hk => ?_⟩
  have hhold : (s.started (s.armGroup n)).rd (R.CP_CAMCTL_START_HOLD k) = s.rd (R.CP_CAMCTL_START_HOLD k) :=
    rd_congr _ _ _ (word_congr _ _ _ hstart.regs)
  have hmax : ((s.started (s.armGroup n)).cam k).ctlEnd + usTicks ((s.started (s.armGroup n)).rd (R.CP_CAMCTL_START_HOLD k)) ≤
      (s.started (s.armGroup n)).heldUntil (s.armGroup n) := le_maxOf (List.mem_map.2 ⟨k, hk, rfl⟩)
  rw [hhold] at hmax
  exact (Nat.add_le_add_right (hstart.ends k hk) _).trans hmax

/-- What a lane that locks brings about, with the pipelines it arms. -/
structure LaneLocked (s u : State) (lane : Nat) : Prop where
  state : u.rd (R.CL_STATUS_STATE lane) = 2
  off : s.cpOn lane = false → u.cams = s.cams ∧ u.out = s.out
  on : s.cpOn lane = true → ∃ r, ∀ k ∈ s.armGroup lane, (u.cam k).release = some r ∧
    s.time + usTicks (s.rd (R.CP_CAMCTL_START_HOLD k)) ≤ r ∧ (u.cam k).trigs = [] ∧ (u.cam k).count = 0 ∧
    Output.camctl k (camMsg 2 0 []) ∈ u.out ∧ u.rd (R.CP_STATUS_STATE k) = (if u.rd (R.CL_STATUS_STATE k) = 2 then 2 else 1)
  others : ∀ k, k ∉ s.armGroup lane → u.cam k = s.cam k
  rest : sansCam u = sansCam s
  words : SameWords s u [R.CL_STATUS lane, R.CP_STATUS 0, R.CP_STATUS 1, R.CP_STATUS 2, R.CP_STATUS 3]

theorem camLaneLock_locks (s : State) {lane sets : Nat} (hstate : s.rd (R.CL_STATUS_STATE lane) = 1) (hsets : 16 ≤ sets) :
    LaneLocked s (s.camLaneLock lane sets) lane := by
  rw [camLaneLock_eq hstate hsets]
  cases hcp : s.cpOn lane with
  | false => exact ⟨laneLocked_state s lane, fun _ => ⟨rfl, rfl⟩, fun h => absurd (hcp.symm.trans h) (by decide), fun _ _ => rfl, rfl,
      laneLocked_words s lane⟩
  | true =>
    have hgroup : (s.laneLocked lane).armGroup lane = s.armGroup lane := armGroup_congr rfl rfl _
    obtain ⟨r, harmed, hheld⟩ := armCam_armed (s.laneLocked lane) lane
    have hstart := started_of_state (s.laneLocked lane) ((s.laneLocked lane).armGroup lane)
    rw [hgroup] at harmed hheld hstart
    have hlane (k : Nat) : ((s.laneLocked lane).armCam lane).rd (R.CL_STATUS_STATE k) =
        ((s.laneLocked lane).started (s.armGroup lane)).rd (R.CL_STATUS_STATE k) := rd_congr _ _ _ (harmed.words _ (lane_not_camStatus k))
    have hstartRd (c : Field) : ((s.laneLocked lane).started (s.armGroup lane)).rd c = (s.laneLocked lane).rd c :=
      rd_congr _ _ _ (word_congr _ _ _ hstart.regs)
    rw [if_pos rfl]
    refine ⟨?_, fun h => absurd (hcp.symm.trans h) (by decide), fun _ => ⟨r, fun k hk => ?_⟩, fun k hk => ?_, harmed.rest.trans hstart.rest,
      fun a ha => ?_⟩
    · rw [hlane, hstartRd, laneLocked_state]
    · obtain ⟨hrelease, htrigs, hcount⟩ := harmed.cam k hk
      have hhold : (s.laneLocked lane).rd (R.CP_CAMCTL_START_HOLD k) = s.rd (R.CP_CAMCTL_START_HOLD k) :=
        rd_wr_word _ _ _ _ (by have := armGroup_lt hk; simp only [R.CP_CAMCTL, R.CL_STATUS]; omega)
      refine ⟨hrelease, hhold ▸ hheld k hk, htrigs, hcount, ?_, ?_⟩
      · rw [harmed.out]
        exact hstart.sent k hk
      · rw [harmed.state k hk, hlane]
    · exact (harmed.others k hk).trans (hstart.others k hk)
    · have hstatus : a ∉ [R.CP_STATUS 0, R.CP_STATUS 1, R.CP_STATUS 2, R.CP_STATUS 3] := fun h => ha (List.mem_cons_of_mem _ h)
      exact (harmed.words a hstatus).trans ((word_congr _ _ a hstart.regs).trans (laneLocked_words s lane a ha))

theorem clLock_locks (s : State) (lane : Fin 4) (sets : Nat) (hon : s.coreOn = true) (hstate : s.rd (R.CL_STATUS_STATE lane) = 1)
    (hsets : 16 ≤ sets) :
    ∃ t, exec (.clLock lane sets) s = .next t ∧ t.rd (R.CL_STATUS_STATE lane) = 2 ∧
      (s.cpOn lane = false → t.cams = s.cams ∧ t.out = s.out) ∧
      (s.cpOn lane = true → ∃ r, ∀ k ∈ s.armGroup lane, (t.cam k).release = some r ∧
        s.time + usTicks (s.rd (R.CP_CAMCTL_START_HOLD k)) ≤ r ∧ (t.cam k).trigs = [] ∧ (t.cam k).count = 0 ∧
        Output.camctl k (camMsg 2 0 []) ∈ t.out ∧ t.rd (R.CP_STATUS_STATE k) = (if t.rd (R.CL_STATUS_STATE k) = 2 then 2 else 1)) ∧
      (∀ k : Fin 4, k.val ∉ s.armGroup lane → t.cam k = s.cam k) ∧
      t = { s with
          regs := t.regs, spans := { s.spans with leaves := t.spans.leaves }, cams := t.cams, out := t.out } ∧
      SameWords s t [R.CL_STATUS lane, R.CP_STATUS 0, R.CP_STATUS 1, R.CP_STATUS 2, R.CP_STATUS 3] := by
  have hrun : exec (.clLock lane sets) s = .next (s.camLaneLock lane sets).latch := by
    show execClLock lane sets s = _
    rw [execClLock, if_pos hon]
    rfl
  have hlocks := camLaneLock_locks s hstate hsets
  refine ⟨_, hrun, (latch_rd _ _).trans hlocks.state, fun h => ⟨(latch_cams _).trans (hlocks.off h).1, (latch_out _).trans (hlocks.off h).2⟩,
    fun h => ?_, fun k hk => (latch_cam _ _).trans (hlocks.others k hk), latch_of_sansCam hlocks.rest, latch_sameWords hlocks.words⟩
  obtain ⟨r, hr⟩ := hlocks.on h
  exact ⟨r, fun k hk => by simpa only [latch_cam, latch_rd, latch_out] using hr k hk⟩

theorem armRelease_releases (s : State) (n : Fin 4) (r : Nat) (hon : s.coreOn = true) (hheld : (s.cam n).release = some r) (hdue : r ≤ s.time) :
    ∃ t, exec (.armRelease n) s = .next t ∧
      (∀ k ∈ s.armGroup n, (t.cam k).release = none ∧
        t.rd (R.CP_STATUS_STATE k) = if s.rd (R.CL_STATUS_STATE k) = 2 then 3 else 1) ∧
      (∀ k : Fin 4, k.val ∉ s.armGroup n → t.cam k = s.cam k) ∧
      t = { s with
          regs := t.regs, spans := { s.spans with leaves := t.spans.leaves }, cams := t.cams } ∧
      SameWords s t [R.CP_STATUS 0, R.CP_STATUS 1, R.CP_STATUS 2, R.CP_STATUS 3] := by
  have hrun : exec (.armRelease n) s = .next ((s.armGroup n).foldl (State.camSet (fun _ _ c => { c with release := none }) 3) s).latch := by
    show execArmRelease n s = _
    rw [execArmRelease, if_pos hon, State.armRelease, hheld]
    dsimp only
    rw [if_neg (by omega)]
    rfl
  have hset := groupSet_foldl (fun _ _ c => { c with release := none }) 3 (by decide) s (g := s.armGroup n) (fun k hk => armGroup_lt hk)
    (c := fun c => c.release = none) (fun _ _ _ => rfl)
  refine ⟨_, hrun, fun k hk => ⟨?_, (latch_rd _ _).trans (hset.state k hk)⟩, fun k hk => (latch_cam _ _).trans (hset.others k hk),
    latch_of_sansCam_out hset.rest hset.out, latch_sameWords hset.words⟩
  rw [latch_cam]
  exact hset.cam k hk

end Sys2Proof.Machine
end

section
/-! PROOFS. A camera lane that loses its lock, answers on CAMCTL and PING (R313, R321 to R325), and the statement. -/

namespace Sys2Proof.Machine

variable {s t u : State} {E : State → State} {W : Nat → Bool} {n : Nat}

/-! ## CL_LOCK_LOSS (R313, R321) -/

theorem eq_of_sansFrames (h : sansFrames t.unnoticed = sansFrames s.unnoticed) : t = { s.noticed t with
    pow := { s.pow with lastBusy := t.pow.lastBusy }, pieces := t.pieces, ended := t.ended, rejects := t.rejects,
    tgs := t.tgs, ring := t.ring, stop := { s.stop with active := t.stop.active, faults := t.stop.faults },
    darn := { s.darn with change := t.darn.change, list := t.darn.list, runs := t.darn.runs, streaks := t.darn.streaks },
    gates := t.gates, hist := t.hist, cams := t.cams,
    iron := { s.iron with bins := t.iron.bins, est := t.iron.est, regs := t.iron.regs }, evid := t.evid, verify := t.verify } :=
  calc
    t = { (sansFrames t.unnoticed).noticed t with
      pow := { (sansFrames t.unnoticed).pow with lastBusy := t.pow.lastBusy }, pieces := t.pieces, ended := t.ended, rejects := t.rejects,
      tgs := t.tgs, ring := t.ring, stop := t.stop
      darn := { (sansFrames t.unnoticed).darn with
        change := t.darn.change, list := t.darn.list, runs := t.darn.runs, streaks := t.darn.streaks }
      gates := t.gates, hist := t.hist, cams := t.cams
      iron := { (sansFrames t.unnoticed).iron with bins := t.iron.bins, est := t.iron.est, regs := t.iron.regs }, evid := t.evid
      verify := t.verify } := rfl
    _ = _ := by rw [h]; rfl

/-- No frame is in progress any more, whether there was one or none. -/
theorem endFrame_ends (hn : n < 4) (s : State) :
    ((s.endFrame n []).cam n).frame = none ∧ Keeps sansFrames (frameEndWord n) s (s.endFrame n []) := by
  cases hf : (s.cam n).frame with
  | none =>
    rw [endFrame_none hf]
    exact ⟨hf, .refl s⟩
  | some f =>
    have hover := endFrame_over hn hf
    exact ⟨hover.frame, hover.keeps⟩

/-- The lane's own words are none of those a frame's end writes. -/
theorem frameEndWord_lane (hn : n < 4) :
    frameEndWord n (R.CL_SYMERR n) = false ∧ frameEndWord n (R.CL_STATUS n) = false ∧ frameEndWord n (R.CL_LOCK_LOSS n) = false := by
  have hkept : frameWord n (R.CL_SYMERR n) = false ∧ frameWord n (R.CL_STATUS n) = false ∧ frameWord n (R.CL_LOCK_LOSS n) = false := by
    refine ⟨frameWord_kept ?_, frameWord_kept ?_, frameWord_kept ?_⟩ <;> simp [frameKept]
  obtain ⟨h1, h2, h3⟩ := hkept
  simp only [frameEndWord, h1, h2, h3, R.CL_SYMERR, R.CL_STATUS, R.CL_LOCK_LOSS, R.CP_SHORT, R.CP_LONG, R.CP_FRAMES, R.CP_STATUS,
    Bool.or_false, Bool.or_eq_false_iff, beq_eq_false_iff_ne]
  omega

/-- The symbol errors of a lane have been counted. -/
def State.symCounted (s : State) (n invalid : Nat) : State := s.add (R.CL_SYMERR_COUNT n) invalid

/-- A lane that has lost its lock trains again, and the loss is counted. -/
def State.laneHunts (s : State) (n : Nat) : State := ((s.wr (R.CL_STATUS_STATE n) 1).inc (R.CL_LOCK_LOSS_COUNT n)).lifeAdd (0x160 + 2 * n) 2 1

/-- Its pipeline shows no lock. -/
def State.camUnlocked (s : State) (n : Nat) : State := if s.cpOn n then s.wr (R.CP_STATUS_STATE n) 1 else s

theorem camLaneLost_eq (s : State) (n invalid noIdle : Nat) : s.camLaneLost n invalid noIdle =
    if (s.symCounted n invalid).rd (R.CL_STATUS_STATE n) = 2 ∧ (8 ≤ invalid ∨ 16384 ≤ noIdle) then
      (((s.symCounted n invalid).laneHunts n).endFrame n []).camUnlocked n
    else s.symCounted n invalid := rfl

theorem symCounted_rd (s : State) (n invalid : Nat) :
    (s.symCounted n invalid).rd (R.CL_SYMERR_COUNT n) = (s.rd (R.CL_SYMERR_COUNT n) + invalid) % 2 ^ 32 := rd_wr_same _ _ _ rfl

theorem symCounted_ne (s : State) (n invalid : Nat) (c : Field) (h : c.addr ≠ R.CL_SYMERR n) : (s.symCounted n invalid).rd c = s.rd c :=
  rd_wr_word _ _ _ _ h

theorem symCounted_keeps (s : State) (n invalid : Nat) : Keeps E (fun _ => true) s (s.symCounted n invalid) :=
  (Keeps.refl s).wr (R.CL_SYMERR_COUNT n) _ rfl

theorem laneHunts_keeps (s : State) (n : Nat) :
    Keeps E (fun a => a == R.CL_STATUS n || a == R.CL_LOCK_LOSS n) s (s.laneHunts n) :=
  (((Keeps.refl s).wr (R.CL_STATUS_STATE n) _ (by simp)).wr (R.CL_LOCK_LOSS_COUNT n) _ (by simp)).lifeAdd _ _ _

theorem laneHunts_shown (s : State) (n : Nat) : (s.laneHunts n).rd (R.CL_STATUS_STATE n) = 1 ∧
    (s.laneHunts n).rd (R.CL_LOCK_LOSS_COUNT n) = (s.rd (R.CL_LOCK_LOSS_COUNT n) + 1) % 2 ^ 32 := by
  unfold State.laneHunts
  rw [rd_lifeAdd, rd_lifeAdd]
  constructor
  · exact (rd_wr_word _ _ _ _ (by simp only [R.CL_STATUS, R.CL_LOCK_LOSS]; omega)).trans (rd_wr_same _ _ _ rfl)
  · rw [rd_inc _ _ rfl, rd_wr_word _ _ _ _ (by simp only [R.CL_STATUS, R.CL_LOCK_LOSS]; omega)]

theorem camUnlocked_keeps (s : State) (n : Nat) : Keeps E (fun a => a == R.CP_STATUS n) s (s.camUnlocked n) :=
  .ite ((Keeps.refl s).wr (R.CP_STATUS_STATE n) _ (by simp)) (.refl s)

theorem camUnlocked_cam (s : State) (n k : Nat) : (s.camUnlocked n).cam k = s.cam k := by
  unfold State.camUnlocked
  split
  · exact cam_congr rfl k
  · rfl

theorem cpOn_congr (hc : t.conf = s.conf) (hb : t.unitsBad = s.unitsBad) (n : Nat) : t.cpOn n = s.cpOn n := by
  simp only [State.cpOn, State.unitBad, cf_congr hc, hb]

theorem cpOn_of_frames (h : Keeps sansFrames W s t) (n : Nat) : t.cpOn n = s.cpOn n :=
  cpOn_congr (conf_of_frames h) (congrArg State.unitsBad h.1 :) n

/-- What a lane that loses its lock brings about. -/
structure LockLost (s u : State) (n : Nat) : Prop where
  keeps : Keeps sansFrames (fun _ => true) s u
  symerr : u.rd (R.CL_SYMERR_COUNT n) = s.rd (R.CL_SYMERR_COUNT n)
  state : u.rd (R.CL_STATUS_STATE n) = 1
  losses : u.rd (R.CL_LOCK_LOSS_COUNT n) = (s.rd (R.CL_LOCK_LOSS_COUNT n) + 1) % 2 ^ 32
  frame : (u.cam n).frame = none
  shown : s.cpOn n = true → u.rd (R.CP_STATUS_STATE n) = 1

theorem lockLost (hn : n < 4) (s : State) : LockLost s (((s.laneHunts n).endFrame n []).camUnlocked n) n := by
  obtain ⟨hsym, hstatus, hlosses⟩ := frameEndWord_lane hn
  have hhunts : Keeps sansFrames _ s (s.laneHunts n) := laneHunts_keeps s n
  obtain ⟨hstate, hcount⟩ := laneHunts_shown s n
  generalize s.laneHunts n = u at hhunts hstate hcount ⊢
  obtain ⟨hframe, hends⟩ := endFrame_ends hn u
  generalize u.endFrame n [] = v at hframe hends ⊢
  have hunlocked : Keeps sansFrames _ v (v.camUnlocked n) := camUnlocked_keeps v n
  have hlane : R.CL_SYMERR n ≠ R.CP_STATUS n ∧ R.CL_STATUS n ≠ R.CP_STATUS n ∧ R.CL_LOCK_LOSS n ≠ R.CP_STATUS n := by
    simp only [R.CL_SYMERR, R.CL_STATUS, R.CL_LOCK_LOSS, R.CP_STATUS]
    omega
  obtain ⟨hsym', hstatus', hlosses'⟩ := hlane
  refine ⟨(((hhunts.widen (fun _ => rfl) fun _ _ => rfl).trans (hends.widen (fun _ => rfl) fun _ _ => rfl)).trans
    (hunlocked.widen (fun _ => rfl) fun _ _ => rfl)), ?_, ?_, ?_, (congrArg Cam.frame (camUnlocked_cam v n n)).trans hframe, fun hcp => ?_⟩
  · rw [hunlocked.rd (R.CL_SYMERR_COUNT n) (by simpa using hsym'), hends.rd (R.CL_SYMERR_COUNT n) hsym, hhunts.rd (R.CL_SYMERR_COUNT n) (by simp)]
  · rw [hunlocked.rd (R.CL_STATUS_STATE n) (by simpa using hstatus'), hends.rd (R.CL_STATUS_STATE n) hstatus, hstate]
  · rw [hunlocked.rd (R.CL_LOCK_LOSS_COUNT n) (by simpa using hlosses'), hends.rd (R.CL_LOCK_LOSS_COUNT n) hlosses, hcount]
  · rw [State.camUnlocked, cpOn_of_frames hends, cpOn_of_frames hhunts, if_pos hcp]
    exact rd_wr_same _ _ _ rfl

theorem clLockLoss_loses (s : State) (lane : Fin 4) (invalid noIdle : Nat) (hon : s.coreOn = true) :
    ∃ t, exec (.clLockLoss lane invalid noIdle) s = .next t ∧
      t.rd (R.CL_SYMERR_COUNT lane) = (s.rd (R.CL_SYMERR_COUNT lane) + invalid) % 2 ^ 32 ∧
      (s.rd (R.CL_STATUS_STATE lane) = 2 → 8 ≤ invalid ∨ 16384 ≤ noIdle → t.rd (R.CL_STATUS_STATE lane) = 1 ∧
        t.rd (R.CL_LOCK_LOSS_COUNT lane) = (s.rd (R.CL_LOCK_LOSS_COUNT lane) + 1) % 2 ^ 32 ∧ (t.cam lane).frame = none ∧
        (s.cpOn lane = true → t.rd (R.CP_STATUS_STATE lane) = 1)) ∧
      (s.rd (R.CL_STATUS_STATE lane) ≠ 2 ∨ (invalid < 8 ∧ noIdle < 16384) →
        t = { s with regs := t.regs, spans := { s.spans with leaves := t.spans.leaves } } ∧
        SameWords s t [R.CL_SYMERR lane]) ∧
      t = { s.noticed t with
          pow := { s.pow with lastBusy := t.pow.lastBusy }, pieces := t.pieces, ended := t.ended, rejects := t.rejects,
          tgs := t.tgs, ring := t.ring, stop := { s.stop with active := t.stop.active, faults := t.stop.faults },
          darn := { s.darn with
            change := t.darn.change, list := t.darn.list, runs := t.darn.runs, streaks := t.darn.streaks },
          gates := t.gates, hist := t.hist, cams := t.cams,
          iron := { s.iron with bins := t.iron.bins, est := t.iron.est, regs := t.iron.regs }, evid := t.evid,
          verify := t.verify } := by
  have hrun : exec (.clLockLoss lane invalid noIdle) s = .next (s.camLaneLost lane invalid noIdle).latch := by
    show execClLockLoss lane invalid noIdle s = _
    rw [execClLockLoss, if_pos hon]
    rfl
  refine ⟨_, hrun, ?_⟩
  have hcounted : Keeps sansFrames (fun _ => true) s (s.symCounted lane invalid) := symCounted_keeps s lane invalid
  have hsym := symCounted_rd s lane invalid
  have hstate : (s.symCounted lane invalid).rd (R.CL_STATUS_STATE lane) = s.rd (R.CL_STATUS_STATE lane) :=
    symCounted_ne s lane invalid _ (by simp only [R.CL_STATUS, R.CL_SYMERR]; omega)
  have hloss : (s.symCounted lane invalid).rd (R.CL_LOCK_LOSS_COUNT lane) = s.rd (R.CL_LOCK_LOSS_COUNT lane) :=
    symCounted_ne s lane invalid _ (by simp only [R.CL_LOCK_LOSS, R.CL_SYMERR]; omega)
  rw [camLaneLost_eq, hstate]
  split
  next hlost =>
    have h := lockLost lane.isLt (s.symCounted lane invalid)
    refine ⟨(latch_rd _ _).trans (h.symerr.trans hsym), fun _ _ => ⟨(latch_rd _ _).trans h.state, (latch_rd _ _).trans (h.losses.trans ?_),
      (congrArg Cam.frame (latch_cam _ _)).trans h.frame, fun hcp => (latch_rd _ _).trans (h.shown ?_)⟩, fun hkept => absurd hlost (by omega),
      eq_of_sansFrames (hcounted.trans h.keeps).latch.1⟩
    · rw [hloss]
    · rw [cpOn_of_frames hcounted, hcp]
  next hkept =>
    exact ⟨(latch_rd _ _).trans hsym, fun h h' => absurd ⟨h, h'⟩ hkept, fun _ => ⟨latch_of_sansCam_words rfl rfl rfl,
      latch_sameWords (sameWords_wr (fun _ _ => rfl) (R.CL_SYMERR_COUNT lane) _ List.mem_cons_self)⟩, eq_of_sansFrames hcounted.latch.1⟩

end Sys2Proof.Machine
end

section
/-! PROOFS. Answers on CAMCTL and PING (R322 to R325), and the statement about camera lanes. -/

namespace Sys2Proof.Machine

variable {s t u : State} {n : Nat}

/-! ## The answer's bytes (R322) -/

theorem crcByteMsb_lt (c : Nat) (b : Byte) (h : c < 256) : crcByteMsb 8 7 c b < 256 := by
  have hstep (l : List Nat) (d : Nat) (hd : d < 256) :
      l.foldl (fun c _ => if 2 ^ (8 - 1) ≤ c then Nat.xor (c * 2 % 2 ^ 8) 7 else c * 2) d < 256 := by
    induction l generalizing d with
    | nil => exact hd
    | cons x l ih =>
      refine ih _ ?_
      dsimp only
      split
      · exact Nat.xor_lt_two_pow (n := 8) (Nat.mod_lt _ (by decide)) (by decide)
      · omega
  exact hstep _ _ (Nat.xor_lt_two_pow (n := 8) h (by have := b.isLt; omega))

theorem crc8_lt (bs : List Byte) : crc8 bs < 256 := by
  have hfold (c : Nat) (h : c < 256) : bs.foldl (crcByteMsb 8 7) c < 256 := by
    induction bs generalizing c with
    | nil => exact h
    | cons b bs ih => exact ih _ (crcByteMsb_lt c b h)
  exact hfold 0 (by decide)

/-- The answer to SET, byte by byte. -/
def setAnswer (sid : Byte) (frame : BitVec 16) : List Byte := camMsg 0x81 sid.toNat (leBytes 2 frame.toNat)

theorem setAnswer_eq (sid : Byte) (frame : BitVec 16) : ∃ b c : Byte, setAnswer sid frame =
    [0xA5, 0x81, sid, 2, b, c, BitVec.ofNat 8 (crc8 [0x81, sid, 2, b, c])] :=
  ⟨BitVec.ofNat 8 frame.toNat, BitVec.ofNat 8 (frame.toNat / 256), by simp [setAnswer, camMsg, leBytes]⟩

/-- The answer passes the checks. -/
def camGood (bs : List Byte) : Bool :=
  le bs 0 1 == 0xA5 && bs.length == 5 + le bs 3 1 && decide (le bs 3 1 ≤ 16) && crc8 ((bs.drop 1).take (3 + le bs 3 1)) == le bs (4 + le bs 3 1) 1 &&
    (le bs 1 1 == 0x81 && le bs 3 1 == 2 || le bs 1 1 == 0x82 && le bs 3 1 == 0 || le bs 1 1 == 0x83 && le bs 3 1 == 0)

theorem setAnswer_good (sid : Byte) (frame : BitVec 16) : camGood (setAnswer sid frame) = true := by
  obtain ⟨b, c, h⟩ := setAnswer_eq sid frame
  have hcrc := crc8_lt [0x81, sid, 2, b, c]
  rw [h]
  simp [camGood, le, leNat]
  exact (Nat.mod_eq_of_lt hcrc).symm

theorem setAnswer_fields (sid : Byte) (frame : BitVec 16) : le (setAnswer sid frame) 1 1 = 0x81 ∧ le (setAnswer sid frame) 2 1 = sid.toNat := by
  obtain ⟨b, c, h⟩ := setAnswer_eq sid frame
  rw [h]
  simp [le, leNat]

/-- Bytes that are too few, or do not begin with SYNC, are no answer. -/
theorem camGood_bad {bs : List Byte} (h : bs.length < 5 ∨ le bs 0 1 ≠ 0xA5) : camGood bs = false := by
  rcases h with hlen | hsync
  · have : (bs.length == 5 + le bs 3 1) = false := by simp; omega
    simp [camGood, this]
  · simp [camGood, hsync]

/-! ## What an answer settles (R323, R325) -/

/-- The wait for an answer to a command ends. -/
def State.answered (s : State) (n cmd : Nat) : State :=
  s.onCam n (fun c => { c with wait := if c.wait.any (fun w => w.1 + 0x80 == cmd) then none else c.wait })

/-- The settings of an ID are in force from a frame record on. -/
def Belief.settled (sid rec : Nat) (b : Belief) : Belief := if b.sid = sid then { b with from_ := rec, told := true } else b

theorem camReply_bad {bs : List Byte} (hcp : s.cpOn n = true) (hbad : camGood bs = false) :
    s.camReply n bs = s.inc (R.CP_MISMATCH_COUNT n) := by
  have h : s.camReply n bs = if !s.cpOn n then s else if !camGood bs then s.inc (R.CP_MISMATCH_COUNT n) else _ := rfl
  rw [h, if_neg (by simp [hcp]), if_pos (by simp [hbad])]

theorem camReply_set {bs : List Byte} (hcp : s.cpOn n = true) (hgood : camGood bs = true) (hcmd : le bs 1 1 = 0x81) :
    ∃ rec, s.camReply n bs =
      ((s.answered n 0x81).onCam n (fun x => { x with beliefs := x.beliefs.map (Belief.settled (le bs 2 1) rec) })).believe n := by
  have h : s.camReply n bs = if !s.cpOn n then s else if !camGood bs then s.inc (R.CP_MISMATCH_COUNT n) else
      if le bs 1 1 ≠ 0x81 then s.answered n (le bs 1 1) else _ := rfl
  rw [h, if_neg (by simp [hcp]), if_neg (by simp [hgood]), if_neg (by simp [hcmd]), hcmd]
  exact ⟨_, rfl⟩

/-- Belief follows the settings: only the frame's belief and STATUS.SID move. -/
structure Believed (s t : State) (n : Nat) : Prop where
  beliefs : (t.cam n).beliefs = (s.cam n).beliefs
  wait : (t.cam n).wait = (s.cam n).wait
  others : ∀ k, k ≠ n → t.cam k = s.cam k
  out : t.out = s.out
  rest : sansCam t = sansCam s
  words : SameWords s t [R.CP_STATUS n]

theorem onFrame_believed (s : State) (n : Nat) (g : CamFrame → CamFrame) : Believed s (s.onFrame n g) n where
  beliefs := by rw [State.onFrame, cam_onCam_same]
  wait := by rw [State.onFrame, cam_onCam_same]
  others k hk := cam_onCam_ne s _ hk
  out := rfl
  rest := rfl
  words := fun _ _ => rfl

theorem Believed.status (h : Believed s t n) (v : Nat) : Believed s (t.wr (R.CP_STATUS_SID n) v) n where
  beliefs := (congrArg Cam.beliefs (cam_congr rfl n)).trans h.beliefs
  wait := (congrArg Cam.wait (cam_congr rfl n)).trans h.wait
  others k hk := (cam_congr rfl k).trans (h.others k hk)
  out := h.out
  rest := h.rest
  words := sameWords_wr h.words _ _ List.mem_cons_self

theorem believe_believed (s : State) (n : Nat) : Believed s (s.believe n) n := by
  unfold State.believe
  split
  · exact ⟨rfl, rfl, fun _ _ => rfl, rfl, rfl, fun _ _ => rfl⟩
  · dsimp only
    split
    · exact onFrame_believed s n _
    · exact (onFrame_believed s n _).status _

/-- An answer to SET is taken: the wait for it ends, and its settings are settled. -/
def State.setAnswered (s : State) (n sid rec : Nat) : State :=
  (s.answered n 0x81).onCam n (fun x => { x with beliefs := x.beliefs.map (Belief.settled sid rec) })

theorem setAnswered_cam_same (s : State) (n sid rec : Nat) : (s.setAnswered n sid rec).cam n = { s.cam n with
    wait := if (s.cam n).wait.any (fun w => w.1 + 0x80 == 0x81) then none else (s.cam n).wait
    beliefs := (s.cam n).beliefs.map (Belief.settled sid rec) } := by
  rw [State.setAnswered, cam_onCam_same, State.answered, cam_onCam_same]

theorem setAnswered_cam_ne (s : State) (sid rec : Nat) {k : Nat} (h : k ≠ n) : (s.setAnswered n sid rec).cam k = s.cam k :=
  (cam_onCam_ne _ _ h).trans (cam_onCam_ne _ _ h)

theorem camctlReply_settles (s : State) (n : Fin 4) (sid : Byte) (frame : BitVec 16) (hon : s.coreOn = true) (hcp : s.cpOn n = true) :
    ∃ t, exec (.camctlReply n (camMsg 0x81 sid.toNat (leBytes 2 frame.toNat))) s = .next t ∧
      (t.cam n).beliefs.length = (s.cam n).beliefs.length ∧
      (∀ b ∈ (t.cam n).beliefs, b.sid = sid.toNat → b.told = true) ∧
      (∀ b ∈ (s.cam n).beliefs, b.sid ≠ sid.toNat → b ∈ (t.cam n).beliefs) ∧
      (∀ x, (s.cam n).wait = some (1, x) → (t.cam n).wait = none) ∧ (∀ k : Fin 4, k ≠ n → t.cam k = s.cam k) ∧
      t = { s with
          regs := t.regs, spans := { s.spans with leaves := t.spans.leaves }, cams := t.cams } ∧ SameWords s t [R.CP_STATUS n] := by
  obtain ⟨hcmd, hsid⟩ := setAnswer_fields sid frame
  obtain ⟨rec, hreply⟩ := camReply_set (bs := setAnswer sid frame) hcp (setAnswer_good sid frame) hcmd
  rw [hsid] at hreply
  have hrun : exec (.camctlReply n (setAnswer sid frame)) s = .next ((s.setAnswered n sid.toNat rec).believe n).latch := by
    show execCamctlReply n _ s = _
    rw [execCamctlReply, if_pos hon, hreply]
    rfl
  have hb := believe_believed (s.setAnswered n sid.toNat rec) n
  have hbeliefs := hb.beliefs
  have hwait := hb.wait
  rw [setAnswered_cam_same] at hbeliefs hwait
  refine ⟨_, hrun, ?_, fun b hmem hb => ?_, fun b hmem hb => ?_, fun x hx => ?_,
    fun k hk => (latch_cam _ _).trans ((hb.others k (by omega)).trans (setAnswered_cam_ne s _ _ (by omega))),
    latch_of_sansCam_out hb.rest hb.out, latch_sameWords hb.words⟩
  · rw [latch_cam, hbeliefs, List.length_map]
  · rw [latch_cam, hbeliefs] at hmem
    obtain ⟨a, -, rfl⟩ := List.mem_map.1 hmem
    unfold Belief.settled at hb ⊢
    split at hb
    · next h => rw [if_pos h]
    · next h => exact absurd hb h
  · rw [latch_cam, hbeliefs]
    exact List.mem_map.2 ⟨b, hmem, if_neg hb⟩
  · rw [latch_cam, hwait, hx]
    rfl

theorem camctlReply_malformed (s : State) (n : Fin 4) (bytes : List Byte) (hon : s.coreOn = true) (hcp : s.cpOn n = true)
    (hbad : bytes.length < 5 ∨ le bytes 0 1 ≠ 0xA5) :
    ∃ t, exec (.camctlReply n bytes) s = .next t ∧
      t.rd (R.CP_MISMATCH_COUNT n) = (s.rd (R.CP_MISMATCH_COUNT n) + 1) % 2 ^ 32 ∧
      t = { s with regs := t.regs, spans := { s.spans with leaves := t.spans.leaves } } ∧
      SameWords s t [R.CP_MISMATCH n] := by
  have hrun : exec (.camctlReply n bytes) s = .next (s.inc (R.CP_MISMATCH_COUNT n)).latch := by
    show execCamctlReply n bytes s = _
    rw [execCamctlReply, if_pos hon, camReply_bad hcp (camGood_bad hbad)]
    rfl
  exact ⟨_, hrun, (latch_rd _ _).trans (rd_inc _ _ rfl), latch_of_sansCam_words rfl rfl rfl,
    latch_sameWords (sameWords_wr (fun _ _ => rfl) (R.CP_MISMATCH_COUNT n) _ List.mem_cons_self)⟩

/-! ## PING (R323) -/

/-- PING has left. -/
def State.pinged (s : State) (n : Nat) : State :=
  (s.camSend n 3 (s.rd (R.CP_STATUS_SID n)) []).onCam n (fun x => { x with pinged := s.time })

theorem pinged_cam_same (s : State) (n : Nat) : ((s.pinged n).cam n).pinged = s.time ∧ s.time ≤ ((s.pinged n).cam n).ctlEnd ∧
    ((s.pinged n).cam n).wait = some (3, s.rd (R.CP_STATUS_SID n)) := by
  rw [State.pinged, cam_onCam_same]
  exact ⟨rfl, camSend_cam_same s n 3 _ []⟩

theorem ping_eq (h : s.cpOn n = true ∧ (s.cam n).pinged + secTicks 1 ≤ s.time ∧ (s.cam n).ctlEnd ≤ s.time ∧ (s.cam n).release.isNone = true) :
    s.ping n = s.pinged n := if_pos h

theorem pinged_out (s : State) (n : Nat) : (s.pinged n).out = s.out ++ [.camctl n (camMsg 3 (s.rd (R.CP_STATUS_SID n)) [])] := rfl

theorem onCam_sansCam (s : State) (n : Nat) (g : Cam → Cam) :
    sansCam (s.onCam n g) = sansCam s ∧ (s.onCam n g).regs = s.regs ∧ (s.onCam n g).out = s.out := ⟨rfl, rfl, rfl⟩

theorem pinged_frame (s : State) (n : Nat) : sansCam (s.pinged n) = sansCam s ∧ (s.pinged n).regs = s.regs := by
  obtain ⟨hrest, hregs, -⟩ := onCam_sansCam (s.camSend n 3 (s.rd (R.CP_STATUS_SID n)) []) n (fun x => { x with pinged := s.time })
  obtain ⟨-, hregs', hrest'⟩ := camSend_frame s n 3 (s.rd (R.CP_STATUS_SID n)) []
  exact ⟨hrest.trans hrest', hregs.trans hregs'⟩

theorem ping_leaves (s : State) (n : Fin 4) (hon : s.coreOn = true) (hcp : s.cpOn n = true) (hlast : (s.cam n).pinged + secTicks 1 ≤ s.time)
    (hend : (s.cam n).ctlEnd ≤ s.time) (hrelease : (s.cam n).release = none) :
    ∃ t, exec (.ping n) s = .next t ∧
      t.out = s.out ++ [.camctl n (camMsg 3 (s.rd (R.CP_STATUS_SID n)) [])] ∧ (t.cam n).pinged = s.time ∧ s.time ≤ (t.cam n).ctlEnd ∧
      (t.cam n).wait = some (3, s.rd (R.CP_STATUS_SID n)) ∧ (∀ k : Fin 4, k ≠ n → t.cam k = s.cam k) ∧
      t = { s with
          spans := { s.spans with leaves := t.spans.leaves }, cams := t.cams, out := t.out } := by
  have hrun : exec (.ping n) s = .next (s.pinged n).latch := by
    show execPing n s = _
    rw [execPing, if_pos hon, ping_eq ⟨hcp, hlast, hend, Option.isNone_iff_eq_none.2 hrelease⟩]
    rfl
  obtain ⟨hpinged, hctl, hwait⟩ := pinged_cam_same s n
  refine ⟨_, hrun, (latch_out _).trans (pinged_out s n), ?_, ?_, ?_,
    fun k hk => (latch_cam _ _).trans ((cam_onCam_ne _ _ (by omega)).trans (camSend_cam_ne s _ _ _ (by omega))),
    latch_of_sansCam_regs (pinged_frame s n).1 (pinged_frame s n).2⟩
  all_goals rw [latch_cam]
  · exact hpinged
  · exact hctl
  · exact hwait

/-! ## The statement -/

/-- Settles O54: lock and loss of lock, the release of an arming, answers and PING, each with its frame. -/
theorem cameraLanes : Obligations.CameraLanes :=
  ⟨clLock_locks, clLockLoss_loses, armRelease_releases, camctlReply_settles, camctlReply_malformed, ping_leaves⟩

/-- In Day, pipeline 0 enabled, its lane in a state. -/
def cameraState (lane : Word) : State := { dayState with regs := [(R.CL_STATUS 0, lane)], conf := [(R.CP_CFG 0, 1)] }

/-- A lane that trains and sees sixteen sets is locked, and START leaves for its pipeline. -/
theorem clLock_witness : ∃ t, exec (.clLock 0 16) (cameraState 1) = .next t ∧ t.rd (R.CL_STATUS_STATE 0) = 2 ∧
    Output.camctl 0 (camMsg 2 0 []) ∈ t.out := by
  obtain ⟨t, hrun, hstate, -, harmed, -⟩ := clLock_locks (cameraState 1) 0 16 rfl (by decide +kernel) (by decide)
  obtain ⟨r, hr⟩ := harmed (by decide +kernel)
  obtain ⟨-, -, -, -, hout, -⟩ := hr 0 (by decide +kernel)
  exact ⟨t, hrun, hstate, hout⟩

/-- Eight invalid symbols lose the lock. -/
theorem clLockLoss_witness : ∃ t, exec (.clLockLoss 0 8 0) (cameraState 2) = .next t ∧ t.rd (R.CL_STATUS_STATE 0) = 1 := by
  obtain ⟨t, hrun, -, hlost, -⟩ := clLockLoss_loses (cameraState 2) 0 8 0 rfl
  exact ⟨t, hrun, (hlost (by decide +kernel) (by decide)).1⟩

end Sys2Proof.Machine
end

section
/-! PROOFS. Packets of a camera, embedded data and the end of a frame (R316, R321, R325). -/

namespace Sys2Proof.Machine

variable {s t u : State} {E : State → State} {W : Nat → Bool} {n : Nat} {p : Packet}

/-! ## Packets (R316) -/

/-- A packet passes the lane's checks and is its pipeline's. -/
structure PacketOk (s : State) (n : Nat) (p : Packet) : Prop where
  lane : s.rd (R.CL_STATUS_STATE n) = 2
  invalid : p.invalid = 0
  sized : p.sized = true
  ecc : p.ecc ≠ 2
  on : s.cpOn n = true
  vc : p.vc.toNat = s.cf (R.CP_CFG_VC n)

/-- The lane's counts of an accepted packet. -/
def State.accepted (s : State) (n : Nat) (p : Packet) : State :=
  if p.ecc = 1 then (s.symCounted n p.invalid).inc (R.CL_ECC_FIX_COUNT n) else s.symCounted n p.invalid

theorem accepted_regs (s : State) (n : Nat) (p : Packet) : s.accepted n p = { s with regs := (s.accepted n p).regs } := by
  unfold State.accepted
  split <;> rfl

theorem accepted_words (s : State) (n : Nat) (p : Packet) : SameWords s (s.accepted n p) [R.CL_SYMERR n, R.CL_ECC_FIX n] := by
  have hsym : SameWords s (s.symCounted n p.invalid) [R.CL_SYMERR n, R.CL_ECC_FIX n] :=
    sameWords_wr (fun _ _ => rfl) (R.CL_SYMERR_COUNT n) _ List.mem_cons_self
  unfold State.accepted
  split
  · exact sameWords_wr hsym (R.CL_ECC_FIX_COUNT n) _ (by simp)
  · exact hsym

theorem accepted_keeps (s : State) (n : Nat) (p : Packet) :
    Keeps E (fun a => a == R.CL_SYMERR n || a == R.CL_ECC_FIX n) s (s.accepted n p) := by
  refine ⟨?_, fun a ha => accepted_words s n p a (by simpa using ha)⟩
  rw [accepted_regs]
  rfl

theorem accepted_cam (s : State) (n : Nat) (p : Packet) (k : Nat) : (s.accepted n p).cam k = s.cam k := by
  rw [accepted_regs]
  rfl

theorem takePacket_ok (h : PacketOk s n p) : s.takePacket n p = (s.accepted n p, true) := by
  have hconf : (s.accepted n p).conf = s.conf := by rw [accepted_regs]
  have hon : (s.accepted n p).cpOn n = true := by
    rw [cpOn_congr hconf (by rw [accepted_regs]) n, h.on]
  have htake : s.takePacket n p = if s.rd (R.CL_STATUS_STATE n) ≠ 2 then (s, false) else
      if p.invalid ≠ 0 ∨ !p.sized then ((s.symCounted n p.invalid).inc (R.CL_DISCARD_COUNT n), false) else
      if p.ecc = 2 then ((s.symCounted n p.invalid).inc (R.CL_ECC_BAD_COUNT n), false) else
      if !(s.accepted n p).cpOn n ∨ p.vc.toNat ≠ (s.accepted n p).cf (R.CP_CFG_VC n) then
        ((s.accepted n p).inc (R.CL_DISCARD_COUNT n), false) else (s.accepted n p, true) := rfl
  rw [htake, if_neg (by simp [h.lane]), if_neg (by simp [h.invalid, h.sized]), if_neg h.ecc, if_neg (by simp [hon, h.vc, cf_congr hconf])]

/-- A packet with an invalid symbol or of the wrong size: counted and discarded. -/
def State.discarded (s : State) (n : Nat) (p : Packet) : State := (s.symCounted n p.invalid).inc (R.CL_DISCARD_COUNT n)

theorem takePacket_bad (hlane : s.rd (R.CL_STATUS_STATE n) = 2) (hbad : p.invalid ≠ 0 ∨ p.sized = false) :
    s.takePacket n p = (s.discarded n p, false) := by
  rw [State.takePacket, if_neg (by simp [hlane])]
  exact if_pos (by simpa using hbad)

/-- Whatever it carries, such a packet does no more. -/
theorem badPacket_runs {n : Fin 4} (hon : s.coreOn = true) (hlane : s.rd (R.CL_STATUS_STATE n) = 2) (hbad : p.invalid ≠ 0 ∨ p.sized = false)
    {num : Option (BitVec 16)} {full : BitVec 4} {c : Instr}
    (hc : c = .frameStart n p ∨ c = .imageLine n p num full [] ∨ c = .embeddedLine n p ∨ c = .frameEnd n p []) :
    exec c s = .next (s.discarded n p).latch := by
  have htake := takePacket_bad hlane hbad
  obtain rfl | rfl | rfl | rfl := hc
  · show execFrameStart n p s = _
    rw [execFrameStart, if_pos hon, htake, if_neg Bool.false_ne_true, State.frameStart, htake]
    rfl
  · show execImageLine n p num full [] s = _
    rw [execImageLine, if_pos hon, State.imageLine, htake]
    rfl
  · show execEmbeddedLine n p s = _
    rw [execEmbeddedLine, if_pos hon, State.embeddedLine, htake]
    rfl
  · show execFrameEnd n p [] s = _
    rw [execFrameEnd, if_pos hon, State.frameEnd, htake]
    rfl

theorem badPacket_discarded (s : State) (n : Fin 4) (p : Packet) (num : Option (BitVec 16)) (full : BitVec 4) (c : Instr)
    (hon : s.coreOn = true) (hlane : s.rd (R.CL_STATUS_STATE n) = 2) (hbad : p.invalid ≠ 0 ∨ p.sized = false)
    (hc : c = .frameStart n p ∨ c = .imageLine n p num full [] ∨ c = .embeddedLine n p ∨ c = .frameEnd n p []) :
    ∃ t, exec c s = .next t ∧ t.rd (R.CL_DISCARD_COUNT n) = (s.rd (R.CL_DISCARD_COUNT n) + 1) % 2 ^ 32 ∧
      t.rd (R.CL_SYMERR_COUNT n) = (s.rd (R.CL_SYMERR_COUNT n) + p.invalid) % 2 ^ 32 ∧
      t = { s with regs := t.regs, spans := { s.spans with leaves := t.spans.leaves } } ∧
      SameWords s t [R.CL_DISCARD n, R.CL_SYMERR n] := by
  have hapart : R.CL_DISCARD n ≠ R.CL_SYMERR n := by
    simp only [R.CL_DISCARD, R.CL_SYMERR]
    omega
  refine ⟨_, badPacket_runs hon hlane hbad hc, (latch_rd _ _).trans ?_, (latch_rd _ _).trans ?_, latch_of_sansCam_words rfl rfl rfl,
    latch_sameWords (sameWords_wr (sameWords_wr (fun _ _ => rfl) (R.CL_SYMERR_COUNT n) _ (by simp)) (R.CL_DISCARD_COUNT n) _ (by simp))⟩
  · rw [State.discarded, rd_inc _ _ rfl, symCounted_ne _ _ _ _ hapart]
  · rw [State.discarded, ← symCounted_rd]
    exact rd_wr_word _ _ _ _ hapart.symm

/-! ## Embedded data (R325) -/

/-- The byte of embedded data at OFS becomes the frame's settings ID. -/
def State.sidTold (s : State) (n : Nat) (b : Byte) : State :=
  (s.onFrame n (fun g => { g with told := some b.toNat })).wr (R.CP_STATUS_SID n) b.toNat

theorem sidTold_cam_same {f : CamFrame} (hf : (s.cam n).frame = some f) (b : Byte) :
    ((s.sidTold n b).cam n).frame = some { f with told := some b.toNat } := by
  have h : (s.sidTold n b).cam n = (s.onFrame n (fun g => { g with told := some b.toNat })).cam n := cam_congr rfl n
  rw [h, State.onFrame, cam_onCam_same, hf]
  rfl

theorem sidTold_cam_ne (s : State) (b : Byte) {k : Nat} (h : k ≠ n) : (s.sidTold n b).cam k = s.cam k :=
  ((onFrame_believed s n (fun g => { g with told := some b.toNat })).status b.toNat).others k h

theorem sidTold_sid (s : State) (n : Nat) (b : Byte) : (s.sidTold n b).rd (R.CP_STATUS_SID n) = b.toNat := by
  rw [State.sidTold, rd_wr_same _ _ _ rfl]
  exact Nat.mod_eq_of_lt b.isLt

theorem embeddedLine_eq {f : CamFrame} {b : Byte} (hok : PacketOk s n p) (hdt : p.dt = 0x12) (hcrc : p.crcOk = true)
    (hf : (s.cam n).frame = some f) (hen : s.rd (R.CP_EMB_EN n) = 1) (htold : f.told = none) (hb : p.body[s.rd (R.CP_EMB_OFS n)]? = some b) :
    s.embeddedLine n p = (s.accepted n p).sidTold n b := by
  rw [State.embeddedLine, takePacket_ok hok]
  dsimp only
  rw [if_neg (by decide), if_neg (by simp [hdt]), if_neg (by simp [hcrc]), accepted_cam, hf]
  dsimp only
  rw [if_pos ⟨by simp [State.flag, hen], by rw [htold]; rfl⟩, hb]
  rfl

theorem embeddedLine_told (s : State) (n : Fin 4) (p : Packet) (f : CamFrame) (b : Byte) (hon : s.coreOn = true)
    (hlane : s.rd (R.CL_STATUS_STATE n) = 2) (hinvalid : p.invalid = 0) (hsized : p.sized = true) (hecc : p.ecc ≠ 2)
    (hcp : s.cpOn n = true) (hvc : p.vc.toNat = s.cf (R.CP_CFG_VC n)) (hdt : p.dt = 0x12) (hcrc : p.crcOk = true)
    (hf : (s.cam n).frame = some f) (hen : s.rd (R.CP_EMB_EN n) = 1) (htold : f.told = none) (hb : p.body[s.rd (R.CP_EMB_OFS n)]? = some b) :
    ∃ t, exec (.embeddedLine n p) s = .next t ∧ (t.cam n).frame = some { f with told := some b.toNat } ∧
      t.rd (R.CP_STATUS_SID n) = b.toNat ∧ (∀ k : Fin 4, k ≠ n → t.cam k = s.cam k) ∧
      t = { s with
          regs := t.regs, spans := { s.spans with leaves := t.spans.leaves }, cams := t.cams } ∧
      SameWords s t [R.CL_SYMERR n, R.CL_ECC_FIX n, R.CP_STATUS n] := by
  have hrun : exec (.embeddedLine n p) s = .next ((s.accepted n p).sidTold n b).latch := by
    show execEmbeddedLine n p s = _
    rw [execEmbeddedLine, if_pos hon, embeddedLine_eq ⟨hlane, hinvalid, hsized, hecc, hcp, hvc⟩ hdt hcrc hf hen htold hb]
    rfl
  have hwords := accepted_words s n p
  have hrest : sansCam (s.accepted n p) = sansCam s ∧ (s.accepted n p).out = s.out := by
    rw [accepted_regs]
    exact ⟨rfl, rfl⟩
  have hframe := (congrArg Cam.frame (accepted_cam s n p n)).trans hf
  have hcam := accepted_cam s n p
  generalize s.accepted n p = u at *
  have htoldRest : sansCam (u.sidTold n b) = sansCam u ∧ (u.sidTold n b).out = u.out := ⟨rfl, rfl⟩
  refine ⟨_, hrun, (congrArg Cam.frame (latch_cam _ _)).trans (sidTold_cam_same hframe b), (latch_rd _ _).trans (sidTold_sid u n b),
    fun k hk => (latch_cam _ _).trans ((sidTold_cam_ne u b (by omega)).trans (hcam k)),
    latch_of_sansCam_out (htoldRest.1.trans hrest.1) (htoldRest.2.trans hrest.2), latch_sameWords (sameWords_wr ?_ (R.CP_STATUS_SID n) _ (by simp))⟩
  exact fun a ha => hwords a fun h => ha (by
    simp only [List.mem_cons, List.not_mem_nil, or_false] at h ⊢
    tauto)

/-! ## Frame End (R321, R338) -/

theorem frameEnd_eq {f : CamFrame} (hok : PacketOk s n p) (hdt : p.dt = 1) (hf : (s.cam n).frame = some f) :
    s.frameEnd n p [] = (s.accepted n p).endFrame n [] := by
  rw [State.frameEnd, takePacket_ok hok]
  dsimp only
  rw [if_neg (by decide), if_neg (by simp [hdt]), accepted_cam, hf, if_neg (by simp)]
  rfl

/-- The lane's counts are none of the words that tell a frame's end. -/
theorem accepted_counts (hn : n < 4) (s : State) (p : Packet) :
    (s.accepted n p).rd (R.CP_FRAMES_COUNT n) = s.rd (R.CP_FRAMES_COUNT n) ∧ (s.accepted n p).rd (R.CP_SHORT_COUNT n) = s.rd (R.CP_SHORT_COUNT n) ∧
      (s.accepted n p).rd (R.CP_LONG_COUNT n) = s.rd (R.CP_LONG_COUNT n) ∧ (s.accepted n p).rd (R.CP_LOST_COUNT n) = s.rd (R.CP_LOST_COUNT n) := by
  have h (c : Field) (hc : c.addr ≠ R.CL_SYMERR n) (hc' : c.addr ≠ R.CL_ECC_FIX n) : (s.accepted n p).rd c = s.rd c :=
    rd_congr _ _ c (accepted_words s n p _ (by simp [hc, hc']))
  refine ⟨h _ ?_ ?_, h _ ?_ ?_, h _ ?_ ?_, h _ ?_ ?_⟩ <;>
  · simp only [R.CL_SYMERR, R.CL_ECC_FIX, R.CP_FRAMES, R.CP_SHORT, R.CP_LONG, R.CP_LOST]
    omega

/-- What is left of the memory errors stays too. -/
theorem eq_of_sansFrames_mem (h : sansFrames t.unnoticed = sansFrames s.unnoticed) : t = { s.noticed t with
    pow := { s.pow with lastBusy := t.pow.lastBusy }, pieces := t.pieces, ended := t.ended, rejects := t.rejects,
    tgs := t.tgs, ring := t.ring, stop := { s.stop with active := t.stop.active, faults := t.stop.faults },
    mem := { s.mem with
      bad := t.mem.bad, ces := t.mem.ces, hbmMap := t.mem.hbmMap, sramMap := t.mem.sramMap, waiting := t.mem.waiting },
    darn := { s.darn with change := t.darn.change, list := t.darn.list, runs := t.darn.runs, streaks := t.darn.streaks },
    gates := t.gates, hist := t.hist, cams := t.cams,
    iron := { s.iron with bins := t.iron.bins, est := t.iron.est, regs := t.iron.regs }, evid := t.evid, verify := t.verify } := by
  have hmem : t.mem = s.mem := (congrArg State.mem h :)
  rw [hmem]
  exact eq_of_sansFrames h

theorem frameEnd_ends (s : State) (n : Fin 4) (p : Packet) (f : CamFrame) (hon : s.coreOn = true)
    (hlane : s.rd (R.CL_STATUS_STATE n) = 2) (hinvalid : p.invalid = 0) (hsized : p.sized = true) (hecc : p.ecc ≠ 2)
    (hcp : s.cpOn n = true) (hvc : p.vc.toNat = s.cf (R.CP_CFG_VC n)) (hdt : p.dt = 1) (hf : (s.cam n).frame = some f) :
    ∃ t, exec (.frameEnd n p []) s = .next t ∧ (t.cam n).frame = none ∧
      (t.cam n).lastLines = some (f.lines.length + f.extra) ∧
      t.rd (R.CP_FRAMES_COUNT n) = (s.rd (R.CP_FRAMES_COUNT n) + 1) % 2 ^ 32 ∧ t.rd (R.CP_STATUS_DONE n) = 1 ∧
      t.rd (R.CP_STATUS_ABORTED n) = 0 ∧ t.rd (R.CP_STATUS_TRANSITION n) = 0 ∧
      t.rd (R.CP_SHORT_COUNT n) = (s.rd (R.CP_SHORT_COUNT n) + (if f.lines.length < s.cpHeight n then 1 else 0)) % 2 ^ 32 ∧
      t.rd (R.CP_LONG_COUNT n) = (s.rd (R.CP_LONG_COUNT n) + (if 0 < f.extra then 1 else 0)) % 2 ^ 32 ∧
      (∀ k : Fin 4, k ≠ n → t.cam k = s.cam k) ∧
      t = { s.noticed t with
          pow := { s.pow with lastBusy := t.pow.lastBusy }, pieces := t.pieces, ended := t.ended, rejects := t.rejects,
          tgs := t.tgs, ring := t.ring, stop := { s.stop with active := t.stop.active, faults := t.stop.faults },
          mem := { s.mem with
            bad := t.mem.bad, ces := t.mem.ces, hbmMap := t.mem.hbmMap, sramMap := t.mem.sramMap,
            waiting := t.mem.waiting },
          darn := { s.darn with
            change := t.darn.change, list := t.darn.list, runs := t.darn.runs, streaks := t.darn.streaks },
          gates := t.gates, hist := t.hist, cams := t.cams,
          iron := { s.iron with bins := t.iron.bins, est := t.iron.est, regs := t.iron.regs }, evid := t.evid,
          verify := t.verify } := by
  have hrun : exec (.frameEnd n p []) s = .next ((s.accepted n p).endFrame n []).latch := by
    show execFrameEnd n p [] s = _
    rw [execFrameEnd, if_pos hon, frameEnd_eq ⟨hlane, hinvalid, hsized, hecc, hcp, hvc⟩ hdt hf]
    rfl
  have hcam := accepted_cam s n p
  have hkeeps : Keeps sansFrames _ s (s.accepted n p) := accepted_keeps s n p
  obtain ⟨hframes, hshort, hlong, -⟩ := accepted_counts n.isLt s p
  have hover := endFrame_over n.isLt ((congrArg Cam.frame (hcam n)).trans hf)
  have hheight : (s.accepted n p).cpHeight n = s.cpHeight n := cpHeight_congr (conf_of_frames hkeeps) n
  generalize s.accepted n p = u at *
  have hall : Keeps sansFrames (fun _ => true) s (u.endFrame n []) :=
    (hkeeps.widen (fun _ => rfl) fun _ _ => rfl).trans (hover.keeps.widen (fun _ => rfl) fun _ _ => rfl)
  generalize u.endFrame n [] = v at *
  refine ⟨_, hrun, (congrArg Cam.frame (latch_cam _ _)).trans hover.frame, (congrArg Cam.lastLines (latch_cam _ _)).trans hover.lastLines,
    ?_, (latch_rd _ _).trans hover.done, (latch_rd _ _).trans hover.aborted, (latch_rd _ _).trans hover.transition, ?_, ?_,
    fun k hk => (latch_cam _ _).trans ((hover.others k (by omega)).trans (hcam k)), eq_of_sansFrames_mem hall.latch.1⟩
  · rw [latch_rd, hover.frames, hframes]
  · rw [latch_rd, hover.short, hshort, hheight]
  · rw [latch_rd, hover.long, hlong]

end Sys2Proof.Machine
end

section
/-! PROOFS. Image lines (R316, R319, R326, R331 to R336). -/

namespace Sys2Proof.Machine

variable {s t u : State} {W : Nat → Bool} {n : Nat} {p : Packet} {f : CamFrame}

/-! ## Correction (R326) -/

theorem absbOf_le (q : Rat) : absbOf q ≤ 1023 := by
  unfold absbOf
  split
  · exact le_refl _
  · split
    · exact Nat.zero_le _
    · exact min_le_left _ _

/-- A corrected line: an absorbance of ten bits and a reflectance of eight for each pixel and plane. -/
theorem correctLine_ranges (s : State) (n y : Nat) (pos : Option (Int × Nat)) (bs : List Byte) :
    (s.correctLine n y pos bs).absb.length = s.cpWidth n * s.planes n ∧ (∀ v ∈ (s.correctLine n y pos bs).absb, v ≤ 1023) ∧
      (∀ v ∈ (s.correctLine n y pos bs).refl, v ≤ 255) ∧ (s.correctLine n y pos bs).y = y := by
  unfold State.correctLine
  extract_lets w pl dt c t u at_ dark blk blks lit flk v refl strip
  refine ⟨?_, fun x hx => ?_, fun x hx => ?_, rfl⟩
  · simp [refl, v, w, pl]
  · obtain ⟨r, -, rfl⟩ := List.mem_map.1 hx
    exact absbOf_le r
  · obtain ⟨r, -, rfl⟩ := List.mem_map.1 hx
    omega

/-! ## What an image line may change -/

/-- What an image line may change beside what is noticed. -/
def sansImage (u : State) : State := { u with cams := [], cx := [] }

theorem onCam_image (h : Keeps sansImage W s t) (n : Nat) (g : Cam → Cam) : Keeps sansImage W s (t.onCam n g) := h.update rfl rfl

theorem onFrame_image (h : Keeps sansImage W s t) (n : Nat) (g : CamFrame → CamFrame) : Keeps sansImage W s (t.onFrame n g) := h.update rfl rfl

theorem onCx_image (h : Keeps sansImage W s t) (n : Nat) (g : Cx → Cx) : Keeps sansImage W s (t.onCx n g) := h.update rfl rfl

theorem cropDone_image (s : State) (n : Nat) (c : Crop) : Keeps sansImage W s (s.cropDone n c) := by
  unfold State.cropDone
  refine Keeps.foldl (fun t k _ => ?_) s
  exact .ite (onCx_image (.refl t) k _) (.refl t)

theorem cropDone_cams (s : State) (n : Nat) (c : Crop) : (s.cropDone n c).cams = s.cams := by
  unfold State.cropDone
  exact foldl_keeps State.cams _ (fun t k => by split <;> rfl) _ s

/-- A step of an image line: it may change cameras and compressors, and pipeline `n` carries on. -/
structure LineStep (n : Nat) (s t : State) : Prop where
  keeps : Keeps sansImage (fun _ => true) s t
  on : FrameOn n s t

namespace LineStep

protected theorem refl (s : State) : LineStep n s s := ⟨.refl s, .refl s⟩

protected theorem trans (h : LineStep n s t) (h' : LineStep n t u) : LineStep n s u := ⟨h.keeps.trans h'.keeps, h.on.trans h'.on⟩

protected theorem ite {c : Prop} [Decidable c] (ht : LineStep n s t) (hu : LineStep n s u) : LineStep n s (if c then t else u) := by
  split
  · exact ht
  · exact hu

theorem onCam (h : LineStep n s t) {g : Cam → Cam} (hg : ∀ c, (g c).frame = c.frame ∧ (g c).lastNum = c.lastNum ∧ (g c).gap = c.gap) :
    LineStep n s (t.onCam n g) := ⟨onCam_image h.keeps n g, h.on.onCam hg⟩

theorem onFrame (h : LineStep n s t) {g : CamFrame → CamFrame} (hg : ∀ f, (g f).lines = f.lines ∧ (g f).extra = f.extra ∧ (g f).num = f.num) :
    LineStep n s (t.onFrame n g) := ⟨onFrame_image h.keeps n g, h.on.onFrame hg⟩

/-- A step that leaves the pipelines alone. -/
theorem congr (h : LineStep n s t) (hk : Keeps sansImage (fun _ => true) t u) (hu : u.cams = t.cams) : LineStep n s u :=
  ⟨h.keeps.trans hk, h.on.congr hu⟩

end LineStep

theorem endCrop_step (s : State) (n : Nat) (cut : Bool) : LineStep n s (s.endCrop n cut) := by
  unfold State.endCrop
  split
  · exact .refl s
  · next c _ =>
    exact ((LineStep.refl s).onCam (by exact fun _ => ⟨rfl, rfl, rfl⟩)).congr (cropDone_image _ n _) (cropDone_cams _ n _)

theorem raise_cams (s : State) (e : Event) (source arg : Nat) : (s.raise e source arg).cams = s.cams := by simp

theorem overflow_step (s : State) (n k : Nat) : LineStep n s (s.overflow n k) := by
  unfold State.overflow
  split
  · exact .refl s
  · extract_lets s1 s2
    have h1 : LineStep n s s1 := .ite ((LineStep.refl s).congr ((Keeps.refl s).wr _ _ rfl) rfl) (.refl s)
    clear_value s1
    have h2 : LineStep n s s2 := (h1.onFrame (by exact fun _ => ⟨rfl, rfl, rfl⟩)).congr ((Keeps.refl _).raise (fun _ _ => rfl) _ _ _)
      (raise_cams _ _ _ _)
    exact .ite (.refl s) (.ite (h2.trans (endCrop_step s2 n true)) h2)

theorem s2Flush_step (s : State) (n : Nat) : LineStep n s (s.s2Flush n) := by
  refine ⟨?_, s2Flush_frameOn s n⟩
  unfold State.s2Flush
  split
  · exact .refl s
  · refine .ite (.refl s) (.ite (onFrame_image (onCam_image (.refl s) n _) n _) ?_)
    extract_lets sx pl w k stride row padded a
    have hset : Keeps sansImage (fun _ => true) s (s.setBytes a padded) := setBytes_keeps (fun _ _ => rfl) s a padded (by omega)
    exact onFrame_image (onCam_image (hset.wr (R.CP_S2_LINES_COUNT n) _ rfl) n _) n _

theorem s2Line_step (s : State) (n : Nat) (l : CamLine) : LineStep n s (s.s2Line n l) := by
  unfold State.s2Line
  extract_lets sx pl m sums s1
  have h1 : LineStep n s s1 := (LineStep.refl s).onFrame (by exact fun _ => ⟨rfl, rfl, rfl⟩)
  exact .ite (h1.trans (s2Flush_step s1 n)) h1

theorem s1Line_step (s : State) (n : Nat) (l : CamLine) : LineStep n s (s.s1Line n l) := by
  unfold State.s1Line
  split
  · exact .refl s
  · extract_lets ps x0 w pl fresh s1
    clear_value fresh
    have h1 : LineStep n s s1 := by
      cases fresh with
      | none => exact .refl s
      | some e => exact (endCrop_step s n false).onCam (by exact fun _ => ⟨rfl, rfl, rfl⟩)
    clear_value s1
    split
    · exact h1
    · exact .ite (h1.trans (endCrop_step s1 n false)) (h1.onCam (by exact fun _ => ⟨rfl, rfl, rfl⟩))

/-! ## IMAGE_LINE (R316, R326) -/

/-- A corrected line joins its frame, before the streams take it. -/
def State.lineKept (s : State) (n : Nat) (l : CamLine) (first : Option (Int × Nat)) : State :=
  (s.onFrame n (fun g => { g with lines := l :: g.lines, line0 := if g.lines.isEmpty then first else g.line0 })).onCam n
    (fun c => { c with gap := false })

/-- The streams take a line. -/
def State.streamed (s : State) (n : Nat) (l : CamLine) : State :=
  let ovf := ((s.cam n).frame.map (·.ovf)).getD 0
  let s1 := if s.streamOn n 1 ∧ !bit ovf 1 then s.s1Line n l else s
  if s1.streamOn n 2 ∧ !bit ovf 2 then s1.s2Line n l else s1

/-- The buffers that are full have dropped the rest of the frame. -/
def State.overflowed (s : State) (n : Nat) (full : BitVec 4) : State :=
  let s1 := (List.range 4).foldl (fun (t : State) k => if bit full.toNat k then t.overflow n k else t) s.drawn
  if s1.cxFull n then s1.overflow n 1 else s1

theorem streamed_step (s : State) (n : Nat) (l : CamLine) : LineStep n s (s.streamed n l) := by
  unfold State.streamed
  extract_lets ovf s1
  have h1 : LineStep n s s1 := .ite (s1Line_step s n l) (.refl s)
  exact .ite (h1.trans (s2Line_step s1 n l)) h1

theorem drawn_step (s : State) (n : Nat) : LineStep n s s.drawn := (LineStep.refl s).congr (Keeps.refl s).drawn rfl

theorem overflowed_step (s : State) (n : Nat) (full : BitVec 4) : LineStep n s (s.overflowed n full) := by
  unfold State.overflowed
  extract_lets s1
  have h1 : LineStep n s s1 := (drawn_step s n).trans (foldl_leaves (P := LineStep n) .refl (fun _ _ _ => .trans) _
    (fun t k _ => .ite (overflow_step t n k) (.refl t)) _)
  exact .ite (h1.trans (overflow_step s1 n 1)) h1

theorem lineKept_image (s : State) (n : Nat) (l : CamLine) (first : Option (Int × Nat)) : Keeps sansImage W s (s.lineKept n l first) :=
  onCam_image (onFrame_image (.refl s) n _) n _

/-- What a line that is kept leaves of its pipeline. -/
theorem lineKept_cam (hf : (s.cam n).frame = some f) (l : CamLine) (first : Option (Int × Nat)) :
    (∃ g, ((s.lineKept n l first).cam n).frame = some g ∧ g.lines = l :: f.lines ∧ g.num = f.num) ∧ ((s.lineKept n l first).cam n).gap = false := by
  rw [State.lineKept, cam_onCam_same, State.onFrame, cam_onCam_same, hf]
  exact ⟨⟨_, rfl, rfl, rfl⟩, rfl⟩

theorem lineKept_cam_ne (s : State) (l : CamLine) (first : Option (Int × Nat)) {k : Nat} (h : k ≠ n) : (s.lineKept n l first).cam k = s.cam k :=
  (cam_onCam_ne _ _ h).trans (cam_onCam_ne _ _ h)

/-- The line's number in its frame. -/
def State.lineNo (s : State) (n : Nat) (f : CamFrame) (num : Option (BitVec 16)) : Nat :=
  if s.cf (R.CP_CFG_LINENUM n) = 1 then (num.map (·.toNat)).getD f.lines.length else f.lines.length

theorem imageLine_eq {num : Option (BitVec 16)} {full : BitVec 4} (hok : PacketOk s n p) (hdt : p.dt.toNat = s.cf (R.CP_CFG_DT n))
    (hcrc : p.crcOk = true) (hf : (s.cam n).frame = some f) :
    s.imageLine n p num full [] =
      if p.body.length ≠ lineBytes (s.cf (R.CP_CFG_DT n)) (s.cpWidth n) then (s.accepted n p).inc (R.CP_BADLINE_COUNT n)
      else if s.cpHeight n ≤ f.lines.length then (s.accepted n p).onFrame n (fun g => { g with extra := g.extra + 1 })
      else (((s.accepted n p).overflowed n full).lineKept n
        ((s.accepted n p).correctLine n (s.lineNo n f num) ((s.accepted n p).place n f (s.lineNo n f num)) p.body)
        ((s.accepted n p).place n f 0)).streamed n
        ((s.accepted n p).correctLine n (s.lineNo n f num) ((s.accepted n p).place n f (s.lineNo n f num)) p.body) := by
  have hevs : (s.accepted n p).memErrors [] = s.accepted n p := rfl
  unfold State.imageLine
  rw [takePacket_ok hok]
  dsimp only
  rw [hevs, if_neg (by decide), if_neg (by simp [hdt]), if_neg (by simp [hcrc]), accepted_cam, hf]
  dsimp only
  by_cases hlen : p.body.length ≠ lineBytes (s.cf (R.CP_CFG_DT n)) (s.cpWidth n)
  · rw [if_pos (.inl hlen), if_pos hlen]
  · rw [if_neg (by simp [hlen, badOf]), if_neg hlen]
    by_cases hfull : s.cpHeight n ≤ f.lines.length
    · rw [if_pos hfull, if_pos hfull]
    · rw [if_neg hfull, if_neg hfull]
      rfl

/-- What an image line does to a frame of pipeline `n`. -/
structure LineTaken (s t : State) (n : Nat) (p : Packet) (f g : CamFrame) : Prop where
  frame : (t.cam n).frame = some g
  num : g.num = f.num
  bad : p.body.length ≠ lineBytes (s.cf (R.CP_CFG_DT n)) (s.cpWidth n) → g = f ∧
    t.rd (R.CP_BADLINE_COUNT n) = (s.rd (R.CP_BADLINE_COUNT n) + 1) % 2 ^ 32
  beyond : p.body.length = lineBytes (s.cf (R.CP_CFG_DT n)) (s.cpWidth n) → s.cpHeight n ≤ f.lines.length →
    g.lines = f.lines ∧ g.extra = f.extra + 1
  kept : p.body.length = lineBytes (s.cf (R.CP_CFG_DT n)) (s.cpWidth n) → f.lines.length < s.cpHeight n →
    (∃ l, g.lines = l :: f.lines ∧ l.absb.length = s.cpWidth n * s.planes n ∧ (∀ v ∈ l.absb, v ≤ 1023) ∧ (∀ v ∈ l.refl, v ≤ 255) ∧
      (s.cf (R.CP_CFG_LINENUM n) ≠ 1 → l.y = f.lines.length)) ∧ (t.cam n).gap = false
  others : ∀ k, k ≠ n → t.cam k = s.cam k
  keeps : Keeps sansImage (fun _ => true) s t

theorem imageLine_taken {num : Option (BitVec 16)} {full : BitVec 4} (hok : PacketOk s n p) (hdt : p.dt.toNat = s.cf (R.CP_CFG_DT n))
    (hcrc : p.crcOk = true) (hf : (s.cam n).frame = some f) : ∃ g, LineTaken s (s.imageLine n p num full []) n p f g := by
  rw [imageLine_eq hok hdt hcrc hf]
  have hkeeps : Keeps sansImage (fun _ => true) s (s.accepted n p) := (accepted_keeps s n p).widen (fun _ => rfl) fun _ _ => rfl
  have hcam := accepted_cam s n p
  have hframe := (congrArg Cam.frame (hcam n)).trans hf
  have hconf : (s.accepted n p).conf = s.conf := (congrArg State.conf hkeeps.1 :)
  have hbadline : (s.accepted n p).rd (R.CP_BADLINE_COUNT n) = s.rd (R.CP_BADLINE_COUNT n) :=
    rd_congr _ _ _ (accepted_words s n p _ (by
      simp only [R.CP_BADLINE, R.CL_SYMERR, R.CL_ECC_FIX, List.mem_cons, List.not_mem_nil, or_false]
      omega))
  generalize s.accepted n p = u at *
  split
  next hlen =>
    exact ⟨f, (congrArg Cam.frame (cam_congr rfl n)).trans hframe, rfl, fun _ => ⟨rfl, by rw [rd_inc _ _ rfl, hbadline]⟩,
      fun h => absurd h hlen, fun h => absurd h hlen, fun k _ => (cam_congr rfl k).trans (hcam k), hkeeps.wr (R.CP_BADLINE_COUNT n) _ rfl⟩
  next hlen =>
    split
    next hfull =>
      refine ⟨{ f with extra := f.extra + 1 }, ?_, rfl, fun h => absurd h hlen, fun _ _ => ⟨rfl, rfl⟩, fun _ h => absurd hfull (by omega),
        fun k hk => (cam_onCam_ne u _ hk).trans (hcam k), onFrame_image hkeeps n _⟩
      rw [State.onFrame, cam_onCam_same, hframe]
      rfl
    next hroom =>
      obtain ⟨habsb, hmax, hrefl, hy⟩ := correctLine_ranges u n (s.lineNo n f num) (u.place n f (s.lineNo n f num)) p.body
      generalize u.correctLine n (s.lineNo n f num) (u.place n f (s.lineNo n f num)) p.body = l at *
      have hover := overflowed_step u n full
      obtain ⟨f', hf', hlines', -, hnum'⟩ := hover.on.frame f hframe
      generalize u.overflowed n full = v at *
      obtain ⟨⟨g, hg, hlines, hnum⟩, hgap⟩ := lineKept_cam hf' l (u.place n f 0)
      have hline : Keeps sansImage (fun _ => true) v (v.lineKept n l (u.place n f 0)) := lineKept_image v n l _
      have hothers (k : Nat) (hk : k ≠ n) := lineKept_cam_ne v l (u.place n f 0) hk
      generalize v.lineKept n l (u.place n f 0) = w at *
      have hstream := streamed_step w n l
      obtain ⟨g', hg', hlines'', -, hnum''⟩ := hstream.on.frame g hg
      refine ⟨g', hg', by rw [hnum'', hnum, hnum'], fun h => absurd h hlen, fun _ h => absurd h hroom,
        fun _ _ => ⟨⟨l, ?_, ?_, hmax, hrefl, fun hn => ?_⟩, hstream.on.gap.trans hgap⟩,
        fun k hk => (hstream.on.others k hk).trans ((hothers k hk).trans ((hover.on.others k hk).trans (hcam k))),
        ((hkeeps.trans hover.keeps).trans hline).trans hstream.keeps⟩
      · rw [hlines'', hlines, hlines']
      · rw [habsb]
        simp only [State.cpWidth, State.planes, cf_congr hconf]
      · rw [hy, State.lineNo, if_neg hn]

theorem eq_of_sansImage (h : sansImage t.unnoticed = sansImage s.unnoticed) : t = { s.noticed t with
    pow := { s.pow with lastBusy := t.pow.lastBusy }, pieces := t.pieces, ended := t.ended, rejects := t.rejects,
    tgs := t.tgs, ring := t.ring, cx := t.cx, stop := { s.stop with active := t.stop.active, faults := t.stop.faults },
    mem := { s.mem with
      bad := t.mem.bad, ces := t.mem.ces, hbmMap := t.mem.hbmMap, sramMap := t.mem.sramMap, waiting := t.mem.waiting },
    cams := t.cams, evid := t.evid, verify := t.verify } := by
  have hkept : t = { s.noticed t with cams := t.cams, cx := t.cx } :=
    calc
      t = { (sansImage t.unnoticed).noticed t with cams := t.cams, cx := t.cx } := rfl
      _ = _ := by rw [h]; rfl
  rw [hkept]
  rfl

theorem imageLine_joins (s : State) (n : Fin 4) (p : Packet) (num : Option (BitVec 16)) (full : BitVec 4) (f : CamFrame)
    (hon : s.coreOn = true) (hlane : s.rd (R.CL_STATUS_STATE n) = 2) (hinvalid : p.invalid = 0) (hsized : p.sized = true) (hecc : p.ecc ≠ 2)
    (hcp : s.cpOn n = true) (hvc : p.vc.toNat = s.cf (R.CP_CFG_VC n)) (hdt : p.dt.toNat = s.cf (R.CP_CFG_DT n)) (hcrc : p.crcOk = true)
    (hf : (s.cam n).frame = some f) :
    ∃ t g, exec (.imageLine n p num full []) s = .next t ∧ (t.cam n).frame = some g ∧ g.num = f.num ∧
      (p.body.length ≠ lineBytes (s.cf (R.CP_CFG_DT n)) (s.cpWidth n) → g = f ∧
        t.rd (R.CP_BADLINE_COUNT n) = (s.rd (R.CP_BADLINE_COUNT n) + 1) % 2 ^ 32) ∧
      (p.body.length = lineBytes (s.cf (R.CP_CFG_DT n)) (s.cpWidth n) → s.cpHeight n ≤ f.lines.length →
        g.lines = f.lines ∧ g.extra = f.extra + 1) ∧
      (p.body.length = lineBytes (s.cf (R.CP_CFG_DT n)) (s.cpWidth n) → f.lines.length < s.cpHeight n →
        (∃ l, g.lines = l :: f.lines ∧ l.absb.length = s.cpWidth n * s.planes n ∧ (∀ v ∈ l.absb, v ≤ 1023) ∧ (∀ v ∈ l.refl, v ≤ 255) ∧
          (s.cf (R.CP_CFG_LINENUM n) ≠ 1 → l.y = f.lines.length)) ∧ (t.cam n).gap = false) ∧
      (∀ k : Fin 4, k ≠ n → t.cam k = s.cam k) ∧
      t = { s.noticed t with
          pow := { s.pow with lastBusy := t.pow.lastBusy }, pieces := t.pieces, ended := t.ended, rejects := t.rejects,
          tgs := t.tgs, ring := t.ring, cx := t.cx, stop := { s.stop with active := t.stop.active, faults := t.stop.faults },
          mem := { s.mem with
            bad := t.mem.bad, ces := t.mem.ces, hbmMap := t.mem.hbmMap, sramMap := t.mem.sramMap,
            waiting := t.mem.waiting },
          cams := t.cams, evid := t.evid, verify := t.verify } := by
  have hrun : exec (.imageLine n p num full []) s = .next (s.imageLine n p num full []).latch := by
    show execImageLine n p num full [] s = _
    rw [execImageLine, if_pos hon]
    rfl
  obtain ⟨g, htaken⟩ := imageLine_taken (num := num) (full := full) ⟨hlane, hinvalid, hsized, hecc, hcp, hvc⟩ hdt hcrc hf
  refine ⟨_, g, hrun, (congrArg Cam.frame (latch_cam _ _)).trans htaken.frame, htaken.num, fun h => ?_, htaken.beyond, fun h h' => ?_,
    fun k hk => (latch_cam _ _).trans (htaken.others k (by omega)), eq_of_sansImage htaken.keeps.latch.1⟩
  · rw [latch_rd]
    exact htaken.bad h
  · rw [latch_cam]
    exact htaken.kept h h'

end Sys2Proof.Machine
end

section
/-! PROOFS. Frame Start (R81, R316, R319, R324, R325). -/

namespace Sys2Proof.Machine

variable {s t u : State} {W : Nat → Bool} {n : Nat} {p : Packet}

/-! ## What a Frame Start may change -/

/-- What a Frame Start may change beside what is noticed: what the end of a frame changes, the return to Day, and pending settings. -/
def sansStart (u : State) : State := { sansFrames u with pendw := [], pow := { (sansFrames u).pow with phase := .day }, lanes := [] }

theorem eq_of_sansStart (h : sansStart t.unnoticed = sansStart s.unnoticed) : t = { s.noticed t with
    pendw := t.pendw, pow := { s.pow with lastBusy := t.pow.lastBusy, phase := t.pow.phase }, pieces := t.pieces,
    ended := t.ended, rejects := t.rejects, tgs := t.tgs, ring := t.ring,
    stop := { s.stop with active := t.stop.active, faults := t.stop.faults },
    darn := { s.darn with change := t.darn.change, list := t.darn.list, runs := t.darn.runs, streaks := t.darn.streaks },
    gates := t.gates, lanes := t.lanes, hist := t.hist, cams := t.cams,
    iron := { s.iron with bins := t.iron.bins, est := t.iron.est, regs := t.iron.regs }, evid := t.evid, verify := t.verify } :=
  calc
    t = { (sansStart t.unnoticed).noticed t with
      pendw := t.pendw, pow := { (sansStart t.unnoticed).pow with lastBusy := t.pow.lastBusy, phase := t.pow.phase }, pieces := t.pieces
      ended := t.ended, rejects := t.rejects, tgs := t.tgs, ring := t.ring, stop := t.stop
      darn := { (sansStart t.unnoticed).darn with
        change := t.darn.change, list := t.darn.list, runs := t.darn.runs, streaks := t.darn.streaks }
      gates := t.gates, lanes := t.lanes, hist := t.hist, cams := t.cams
      iron := { (sansStart t.unnoticed).iron with bins := t.iron.bins, est := t.iron.est, regs := t.iron.regs }, evid := t.evid
      verify := t.verify } := rfl
    _ = _ := by rw [h]; rfl

/-! ## Pending exposure and gain (R324) -/

/-- What a Frame Start itself may change beside what is noticed. -/
def sansBegin (u : State) : State := { u with pendw := [], cams := [] }

/-- The words that the settings of a pipeline stand in. -/
def settingWord (n a : Nat) : Bool := a == R.CP_EXPO n || a == R.CP_GAIN n || a == R.CP_STATUS n

theorem onCam_begin (h : Keeps sansBegin W s t) (n : Nat) (g : Cam → Cam) : Keeps sansBegin W s (t.onCam n g) := h.update rfl rfl

theorem applyPend_begin (h : Keeps sansBegin W s t) {a : Nat} (ha : W a = true) : Keeps sansBegin W s (t.applyPend a) := by
  unfold State.applyPend
  split
  · exact (h.setWord a _ ha).update rfl rfl
  · exact h

theorem camSend_begin (h : Keeps sansBegin W s t) (n cmd sid : Nat) (payload : List Byte) : Keeps sansBegin W s (t.camSend n cmd sid payload) := by
  unfold State.camSend
  extract_lets m ticks
  exact onCam_begin (h.emit _) n _

theorem issueSettings_begin (s : State) (n : Nat) : Keeps sansBegin (settingWord n) s (s.issueSettings n) := by
  unfold State.issueSettings
  extract_lets s1 sid expo k d
  have h1 : Keeps sansBegin (settingWord n) s s1 :=
    applyPend_begin (applyPend_begin (.refl s) (by simp [settingWord])) (by simp [settingWord])
  clear_value s1
  refine .ite (onCam_begin (camSend_begin ?_ n 1 sid _) n _) (.refl s)
  exact (h1.wr (R.CP_STATUS_SID_ISSUED n) sid (by simp [settingWord])).wr (R.CP_STATUS_PEND n) 0 (by simp [settingWord])

/-! ## A frame begins (R319, R324, R325) -/

/-- CPn_STATUS shows a frame that begins. -/
def State.frameShown (s : State) (n : Nat) (transition : Bool) (sid : Nat) : State :=
  (((s.wrB (R.CP_STATUS_TRANSITION n) transition).wr (R.CP_STATUS_SID n) sid).wr (R.CP_STATUS_DONE n) 0).wr (R.CP_STATUS_ABORTED n) 0

theorem frameShown_keeps (s : State) (n : Nat) (b : Bool) (sid : Nat) : Keeps sansBegin (fun a => a == R.CP_STATUS n) s (s.frameShown n b sid) :=
  ((((Keeps.refl s).wr (R.CP_STATUS_TRANSITION n) _ (by simp)).wr (R.CP_STATUS_SID n) _ (by simp)).wr (R.CP_STATUS_DONE n) _ (by simp)).wr
    (R.CP_STATUS_ABORTED n) _ (by simp)

theorem frameShown_status (s : State) (n : Nat) (b : Bool) (sid : Nat) :
    (s.frameShown n b sid).rd (R.CP_STATUS_DONE n) = 0 ∧ (s.frameShown n b sid).rd (R.CP_STATUS_ABORTED n) = 0 :=
  ⟨(rd_wr_apart _ _ _ _ rfl (by simp [Field.apart])).trans (rd_wr_same _ _ _ rfl), rd_wr_same _ _ _ rfl⟩

theorem frameShown_cam (s : State) (n : Nat) (b : Bool) (sid k : Nat) : (s.frameShown n b sid).cam k = s.cam k := cam_congr rfl k

/-- A frame with number `num` has begun. -/
structure FrameBegun (n num : Nat) (s t : State) (f : CamFrame) : Prop where
  frame : (t.cam n).frame = some f
  number : f.num = num
  lines : f.lines = []
  ovf : f.ovf = 0
  told : f.told = none
  lastNum : (t.cam n).lastNum = num
  base : (t.cam n).base = f.base
  first : (s.cam n).lastLines = none → f.base = 0
  lost : (s.cam n).lastLines ≠ none → num ≠ 0 → (s.cam n).lastNum ≠ 0 → t.rd (R.CP_LOST_COUNT n) =
    (s.rd (R.CP_LOST_COUNT n) + (num + 65535 - (s.cam n).lastNum - 1 + 65535) % 65535) % 2 ^ 32
  done : t.rd (R.CP_STATUS_DONE n) = 0
  aborted : t.rd (R.CP_STATUS_ABORTED n) = 0
  keeps : Keeps sansBegin (fun _ => true) s t

/-- The frames lost between a pipeline's last one and number `num` (R319). -/
def Cam.skipped (c : Cam) (num : Nat) : Nat :=
  if c.lastLines.isNone ∨ num = 0 ∨ c.lastNum = 0 then 0 else (num + 65535 - c.lastNum - 1 + 65535) % 65535

theorem skipped_later {c : Cam} {num : Nat} (hl : c.lastLines ≠ none) (hn : num ≠ 0) (hln : c.lastNum ≠ 0) :
    c.skipped num = (num + 65535 - c.lastNum - 1 + 65535) % 65535 := if_neg (by simp [hl, hn, hln])

/-- A pipeline with a frame that begins. -/
def Cam.begun (f : CamFrame) (lost : Bool) (c : Cam) : Cam :=
  { c with frame := some f, base := f.base, lastNum := f.num, drop := false, gap := c.gap || lost }

/-- The state with the frames lost counted and the pending settings issued. -/
def State.frameCounted (s : State) (n num : Nat) : State := (s.add (R.CP_LOST_COUNT n) ((s.cam n).skipped num)).issueSettings n

/-- The frame that begins: its number and base, and nothing of it seen yet. -/
structure FrameNew (c : Cam) (num : Nat) (f : CamFrame) : Prop where
  number : f.num = num
  lines : f.lines = []
  ovf : f.ovf = 0
  told : f.told = none
  first : c.lastLines = none → f.base = 0

theorem beginFrame_eq (s : State) (n num : Nat) : ∃ f lost transition sid, FrameNew (s.cam n) num f ∧
    s.beginFrame n num = ((s.frameCounted n num).onCam n (Cam.begun f lost)).frameShown n transition sid := by
  unfold State.beginFrame
  extract_lets c h skips base s1 c1 k b tr delay s2
  have hskips : skips = (s.cam n).skipped num := rfl
  have h1 : s1 = s.frameCounted n num := rfl
  have hfirst (hnone : c.lastLines = none) : base = 0 := by
    simp only [base, hnone]
  clear_value s1 base skips
  subst h1 hskips
  exact ⟨{
    num := num, base := base, delay := delay, lost := (s.cam n).skipped num != 0, transition := tr, belief := b
    preview := (s.frameCounted n num).rd (R.CP_S2_LINES_COUNT n)
  }, (s.cam n).skipped num != 0, tr, (b.map (·.sid)).getD 0, ⟨rfl, rfl, rfl, rfl, hfirst⟩, by
    unfold State.frameShown Cam.begun
    rfl⟩

theorem frameCounted_keeps (s : State) (n num : Nat) : Keeps sansBegin (fun _ => true) s (s.frameCounted n num) := by
  have hcounted : Keeps sansBegin (fun _ => true) s (s.add (R.CP_LOST_COUNT n) ((s.cam n).skipped num)) :=
    (Keeps.refl s).wr (R.CP_LOST_COUNT n) _ rfl
  exact hcounted.trans ((issueSettings_begin _ n).widen (fun _ => rfl) fun _ _ => rfl)

theorem frameCounted_lost (s : State) (n num : Nat) :
    (s.frameCounted n num).rd (R.CP_LOST_COUNT n) = (s.rd (R.CP_LOST_COUNT n) + (s.cam n).skipped num) % 2 ^ 32 := by
  have hkept : settingWord n (R.CP_LOST n) = false := by simp [settingWord]
  exact ((issueSettings_begin _ n).rd (R.CP_LOST_COUNT n) hkept).trans (rd_wr_same _ _ _ rfl)

theorem beginFrame_begun (s : State) (n num : Nat) : ∃ f, FrameBegun n num s (s.beginFrame n num) f := by
  obtain ⟨f, lost, transition, sid, hnew, heq⟩ := beginFrame_eq s n num
  have hcounted := frameCounted_keeps s n num
  have hlost := frameCounted_lost s n num
  rw [heq]
  generalize s.frameCounted n num = u at *
  have hcam : ((u.onCam n (Cam.begun f lost)).frameShown n transition sid).cam n = (u.cam n).begun f lost :=
    (frameShown_cam _ _ _ _ _).trans (cam_onCam_same u n _)
  have h2 : Keeps sansBegin (fun _ => true) u (u.onCam n (Cam.begun f lost)) := onCam_begin (.refl u) n _
  have hlost' : (u.onCam n (Cam.begun f lost)).rd (R.CP_LOST_COUNT n) = u.rd (R.CP_LOST_COUNT n) := rd_congr _ _ _ rfl
  generalize u.onCam n (Cam.begun f lost) = v at *
  obtain ⟨hdone, haborted⟩ := frameShown_status v n transition sid
  have hshown := frameShown_keeps v n transition sid
  refine ⟨f, congrArg Cam.frame hcam, hnew.number, hnew.lines, hnew.ovf, hnew.told, (congrArg Cam.lastNum hcam).trans hnew.number,
    congrArg Cam.base hcam, hnew.first, fun hl hn hln => ?_, hdone, haborted,
    (hcounted.trans h2).trans (hshown.widen (fun _ => rfl) fun _ _ => rfl)⟩
  rw [hshown.rd (R.CP_LOST_COUNT n) (by simp), hlost', hlost, skipped_later hl hn hln]

/-! ## The frame before (R321) -/

/-- The frame before is closed if it still lacked its end. -/
structure FrameClosed (n : Nat) (s t : State) : Prop where
  later : (s.cam n).lastLines ≠ none ∨ (s.cam n).frame ≠ none → (t.cam n).lastLines ≠ none
  first : (s.cam n).frame = none → (s.cam n).lastLines = none → (t.cam n).lastLines = none
  lastNum : (t.cam n).lastNum = (s.cam n).lastNum
  lost : t.rd (R.CP_LOST_COUNT n) = s.rd (R.CP_LOST_COUNT n)
  keeps : Keeps sansFrames (fun _ => true) s t

theorem frameEndWord_lost (n : Nat) : frameEndWord n (R.CP_LOST n) = false := by
  have h : frameWord n (R.CP_LOST n) = false := frameWord_kept (by simp [frameKept])
  simp [frameEndWord, h]

theorem endFrame_closed (hn : n < 4) (s : State) : FrameClosed n s (s.endFrame n []) := by
  cases hf : (s.cam n).frame with
  | none =>
    rw [endFrame_none hf]
    exact ⟨fun h => h.resolve_right fun h' => h' hf, fun _ h => h, rfl, rfl, .refl s⟩
  | some f =>
    have hover := endFrame_over hn hf
    exact ⟨fun _ => by rw [hover.lastLines]; simp, fun h => absurd (hf.symm.trans h) (by simp), hover.lastNum,
      hover.keeps.rd (R.CP_LOST_COUNT n) (frameEndWord_lost n), hover.keeps.widen (fun _ => rfl) fun _ _ => rfl⟩

/-! ## FRAME_START (R81, R316) -/

theorem toDay_cam (s : State) (k : Nat) : s.toDay.cam k = s.cam k := by
  rw [toDay_eq]
  rfl

theorem toDay_conf (s : State) : s.toDay.conf = s.conf ∧ s.toDay.unitsBad = s.unitsBad := by
  rw [toDay_eq]
  exact ⟨rfl, rfl⟩

theorem busy_phase (s : State) : s.busy.pow.phase = s.pow.phase := rfl

/-- The return from Dusk to Day. -/
theorem toDay_phase (s : State) : (s.pow.phase = .dusk → s.toDay.pow.phase = .day) ∧ (s.pow.phase ≠ .dusk → s.toDay.pow.phase = s.pow.phase) := by
  refine ⟨fun h => ?_, fun h => by rw [toDay_of_not_dusk h, busy_phase]⟩
  rw [toDay_of_dusk h, busy_phase]
  exact foldl_keeps (fun t => t.pow.phase) State.laneBack (fun t k => by
    exact (congrArg (fun u : State => u.pow.phase) (laneBack_sansLanes t k) :)) (List.range 16) _

theorem toDay_packetOk (h : PacketOk s n p) (hn : n < 4) : PacketOk s.toDay n p := by
  obtain ⟨hconf, hbad⟩ := toDay_conf s
  refine ⟨?_, h.invalid, h.sized, h.ecc, (cpOn_congr hconf hbad n).trans h.on, h.vc.trans (cf_congr hconf _).symm⟩
  rw [rd_congr _ _ _ (toDay_word s _ (show R.CL_STATUS n < 0xB0000 by simp only [R.CL_STATUS]; omega)), h.lane]

theorem frameStart_eq (hok : PacketOk s n p) (hdt : p.dt = 0) :
    s.frameStart n p = ((s.accepted n p).endFrame n []).beginFrame n p.wc.toNat := by
  rw [State.frameStart, takePacket_ok hok]
  dsimp only
  rw [if_neg (by decide), if_neg (by simp [hdt])]

theorem phase_of_frames (h : Keeps sansFrames W s t) : t.pow.phase = s.pow.phase := (congrArg (fun x : State => x.pow.phase) h.1 :)

theorem phase_of_begin (h : Keeps sansBegin W s t) : t.pow.phase = s.pow.phase := (congrArg (fun x : State => x.pow.phase) h.1 :)

theorem latch_phase (s : State) : s.latch.pow.phase = s.pow.phase := by simp only [latch_frame]

theorem frameStart_begins (s : State) (n : Fin 4) (p : Packet) (hon : s.coreOn = true) (hlane : s.rd (R.CL_STATUS_STATE n) = 2)
    (hinvalid : p.invalid = 0) (hsized : p.sized = true) (hecc : p.ecc ≠ 2) (hcp : s.cpOn n = true)
    (hvc : p.vc.toNat = s.cf (R.CP_CFG_VC n)) (hdt : p.dt = 0) :
    ∃ t f, exec (.frameStart n p) s = .next t ∧ (t.cam n).frame = some f ∧ f.num = p.wc.toNat ∧ f.lines = [] ∧
      f.ovf = 0 ∧ f.told = none ∧ (t.cam n).lastNum = p.wc.toNat ∧ (t.cam n).base = f.base ∧
      ((s.cam n).frame = none → (s.cam n).lastLines = none → f.base = 0) ∧
      ((s.cam n).lastLines ≠ none ∨ (s.cam n).frame ≠ none → p.wc ≠ 0 → (s.cam n).lastNum ≠ 0 → t.rd (R.CP_LOST_COUNT n) =
        (s.rd (R.CP_LOST_COUNT n) + (p.wc.toNat + 65535 - (s.cam n).lastNum - 1 + 65535) % 65535) % 2 ^ 32) ∧
      t.rd (R.CP_STATUS_DONE n) = 0 ∧ t.rd (R.CP_STATUS_ABORTED n) = 0 ∧
      (s.pow.phase = .dusk → t.pow.phase = .day) ∧ (s.pow.phase ≠ .dusk → t.pow.phase = s.pow.phase) ∧
      t = { s.noticed t with
          pendw := t.pendw, pow := { s.pow with lastBusy := t.pow.lastBusy, phase := t.pow.phase }, pieces := t.pieces,
          ended := t.ended, rejects := t.rejects, tgs := t.tgs, ring := t.ring,
          stop := { s.stop with active := t.stop.active, faults := t.stop.faults },
          darn := { s.darn with
            change := t.darn.change, list := t.darn.list, runs := t.darn.runs, streaks := t.darn.streaks },
          gates := t.gates, lanes := t.lanes, hist := t.hist, cams := t.cams,
          iron := { s.iron with bins := t.iron.bins, est := t.iron.est, regs := t.iron.regs }, evid := t.evid,
          verify := t.verify } := by
  have hok : PacketOk s n p := ⟨hlane, hinvalid, hsized, hecc, hcp, hvc⟩
  have hrun : exec (.frameStart n p) s = .next (((s.toDay.accepted n p).endFrame n []).beginFrame n p.wc.toNat).latch := by
    show execFrameStart n p s = _
    rw [execFrameStart, if_pos hon, takePacket_ok hok, if_pos rfl, frameStart_eq (toDay_packetOk hok n.isLt) hdt]
    rfl
  have hday : Keeps sansStart (fun _ => true) s s.toDay := (toDay_keeps s).mono (fun _ => rfl) (by simp)
  obtain ⟨hdusk, hphase⟩ := toDay_phase s
  have hcam := toDay_cam s n
  have hlost : s.toDay.rd (R.CP_LOST_COUNT n) = s.rd (R.CP_LOST_COUNT n) :=
    rd_congr _ _ _ (toDay_word s _ (show R.CP_LOST n < 0xB0000 by simp only [R.CP_LOST]; omega))
  generalize s.toDay = u at *
  have htaken : Keeps sansFrames (fun _ => true) u (u.accepted n p) := (accepted_keeps u n p).widen (fun _ => rfl) fun _ _ => rfl
  have hcam' := (accepted_cam u n p n).trans hcam
  have hlost' := ((accepted_counts n.isLt u p).2.2.2).trans hlost
  generalize u.accepted n p = v at *
  have hclosed := endFrame_closed n.isLt v
  generalize v.endFrame n [] = w at *
  obtain ⟨f, hbegun⟩ := beginFrame_begun w n p.wc.toNat
  generalize w.beginFrame n p.wc.toNat = t at *
  have hpow : t.pow.phase = u.pow.phase :=
    (phase_of_begin hbegun.keeps).trans ((phase_of_frames hclosed.keeps).trans (phase_of_frames htaken))
  have hall : Keeps sansStart (fun _ => true) s t :=
    ((hday.trans (htaken.mono (fun _ => rfl) (by simp))).trans (hclosed.keeps.mono (fun _ => rfl) (by simp))).trans
      (hbegun.keeps.mono (fun _ => rfl) (by simp))
  refine ⟨_, f, hrun, (congrArg Cam.frame (latch_cam _ _)).trans hbegun.frame, hbegun.number, hbegun.lines, hbegun.ovf, hbegun.told,
    (congrArg Cam.lastNum (latch_cam _ _)).trans hbegun.lastNum, (congrArg Cam.base (latch_cam _ _)).trans hbegun.base, fun hf hl => ?_,
    fun hl hwc hln => ?_, (latch_rd _ _).trans hbegun.done, (latch_rd _ _).trans hbegun.aborted,
    fun h => (latch_phase t).trans (hpow.trans (hdusk h)), fun h => (latch_phase t).trans (hpow.trans (hphase h)), eq_of_sansStart hall.latch.1⟩
  · exact hbegun.first (hclosed.first (by rw [hcam', hf]) (by rw [hcam', hl]))
  · have hnum : p.wc.toNat ≠ 0 := fun h => hwc (BitVec.eq_of_toNat_eq h)
    rw [← hcam'] at hl hln ⊢
    rw [latch_rd, hbegun.lost (hclosed.later hl) hnum (hclosed.lastNum ▸ hln), hclosed.lost, hlost', hclosed.lastNum]

end Sys2Proof.Machine
end

section
/-! PROOFS. The check of a field (R334, R335), and the statement about camera frames. -/

namespace Sys2Proof.Machine

variable {s t u : State} {E : State → State} {W : Nat → Bool} {n : Nat}

/-- What the check of a field may change beside what is noticed. -/
def sansVerify (u : State) : State := { u with pieces := [], rejects := [], verify := [] }

theorem eq_of_sansVerify (h : sansVerify t.unnoticed = sansVerify s.unnoticed) :
    t = { s.noticed t with pieces := t.pieces, rejects := t.rejects, verify := t.verify } :=
  calc
    t = { (sansVerify t.unnoticed).noticed t with pieces := t.pieces, rejects := t.rejects, verify := t.verify } := rfl
    _ = _ := by rw [h]; rfl

/-- The words above the pipelines' own, and those that events change. -/
def checkWord (a : Nat) : Bool := decide (0xC0000 ≤ a) || plumbWord a

theorem checkWord_counts (n : Nat) (hn : n < 4) : checkWord (R.CP_CHK_PASS n) = false ∧ checkWord (R.CP_CHK_FAIL n) = false := by
  have hpass : plumbWord (R.CP_CHK_PASS n) = false :=
    plumbWord_mid (show _ ≤ 0x9007C + 512 * n by omega) (show 0x9007C + 512 * n < _ by omega)
  have hfail : plumbWord (R.CP_CHK_FAIL n) = false :=
    plumbWord_mid (show _ ≤ 0x90080 + 512 * n by omega) (show 0x90080 + 512 * n < _ by omega)
  simp only [checkWord, hpass, hfail, R.CP_CHK_PASS, R.CP_CHK_FAIL, Bool.or_false, decide_eq_false_iff_not]
  omega

/-! ## A failure (R335) -/

/-- A piece whose check has failed. -/
def Piece.condemned (num : Nat) (p : Piece) : Piece := if p.num = num then { p with flags := p.flags ||| 16, rejected := true } else p

theorem bit_or_sixteen (x : Nat) : bit (x ||| 16) 4 = true := by
  have h : (x ||| 16).testBit 4 = true := by
    rw [Nat.testBit_or]
    exact Bool.or_eq_true _ _ ▸ .inr rfl
  rw [Nat.testBit_eq_decide_div_mod_eq, decide_eq_true_eq] at h
  simpa [bit] using h

theorem condemned_shown {p q : Piece} {num : Nat} (h : p.condemned num = q) (hq : q.num = num) : bit q.flags 4 = true ∧ q.rejected = true := by
  subst h
  unfold Piece.condemned at hq ⊢
  split
  · exact ⟨bit_or_sixteen _, rfl⟩
  · next hne => rw [if_neg hne] at hq; exact absurd hq hne

/-- The verdict stands in the pieces and their rejects. -/
def State.condemned (s : State) (num : Nat) : State :=
  { s with
    pieces := s.pieces.map (Piece.condemned num)
    verify := s.verify.map (Piece.condemned num)
    rejects := s.rejects.map (fun (r : Reject) => if r.piece = num then { r with bad := true } else r) }

theorem verifyFail_keeps (s : State) (num ord result score : Nat) : Keeps E checkWord (s.condemned num) (s.verifyFail num ord result score) := by
  unfold State.verifyFail
  extract_lets set told s1 s2
  have h1 : s1 = s.condemned num := rfl
  clear_value s1
  subst h1
  have h2 : Keeps E checkWord (s.condemned num) s2 := by
    simp only [s2]
    split
    · exact (Keeps.refl _).setWord _ _ (by simp [checkWord]; omega)
    · exact .refl _
  exact .ite h2 (h2.raise (by simp +contextual [checkWord]) _ _ _)

/-! ## FIELD_CHECK (R334) -/

/-- The count that an outcome raises. -/
def checkCount (n res : Nat) : Field := if res = 1 then R.CP_CHK_PASS_COUNT n else R.CP_CHK_FAIL_COUNT n

/-- The record of an outcome is written, and it is counted. -/
def State.checked (s : State) (n res : Nat) (a : Nat) (rec : List Byte) : State := (s.drawn.setBytes a rec).inc (checkCount n res)

/-- The field has its result in the piece, wherever the piece stands. -/
def State.resulted (s : State) (num rep ord res : Nat) : State :=
  { s with
    pieces := s.pieces.map (fun q => if q.num = num then setResult rep ord res q else q)
    verify := s.verify.map (fun q => if q.num = num then setResult rep ord res q else q) }

/-- A failure condemns the piece. -/
def State.fieldJudged (s : State) (num ord res score : Nat) : State := if res = 1 then s else s.verifyFail num ord res score

/-- Pieces with no field left to check are no longer kept for it. -/
def State.verifyDone (s : State) : State :=
  { s with verify := s.verify.filter (fun q => q.prints.any (fun r => r.fields.any (fun (x : FieldRun) => x.verify && x.result == 0))) }

theorem fieldCheck_eq {num ord rep : Nat} {p : Piece} {f : FieldRun} {res score : Nat} {dx dy : Int} {cells fr : Nat}
    (hp : (s.pieces ++ s.verify).find? (fun q => q.num == num) = some p) (hv : p.verify = true)
    (hf : p.prints.findSome? (fun r => (r.fields.find? (fun x => x.index == ord && x.verify && x.result == 0)).map (fun x => (r.rep, x))) =
      some (rep, f)) (hcheck : s.checkField n p rep f = some (res, score, dx, dy, cells, fr)) :
    ∃ k rec, s.fieldCheck n num ord =
      (((s.checked n res (0x46100000 + 0x2000 * n + 32 * k) rec).resulted num rep ord res).fieldJudged num ord res score).verifyDone := by
  unfold State.fieldCheck
  rw [hp]
  dsimp only
  rw [if_pos hv, hf]
  dsimp only
  rw [hcheck]
  exact ⟨_, _, rfl⟩

theorem checked_keeps (s : State) (n res a : Nat) (rec : List Byte) (ha : 0xC0000 ≤ a) :
    Keeps sansVerify (fun a => a == (checkCount n res).addr || checkWord a) s (s.checked n res a rec) := by
  have hset := setBytes_keeps (E := sansVerify) (W := checkWord) (fun b hb => by simp [checkWord, hb]) s.drawn a rec ha
  have hdrawn : Keeps sansVerify checkWord s s.drawn := (Keeps.refl s).drawn
  exact ((hdrawn.trans hset).widen (fun _ => rfl) (by simp +contextual)).wr (checkCount n res) _ (by simp)

theorem checked_counts (hn : n < 4) (s : State) (res a : Nat) (rec : List Byte) (ha : 0xC0000 ≤ a) :
    (s.checked n res a rec).rd (R.CP_CHK_PASS_COUNT n) = (s.rd (R.CP_CHK_PASS_COUNT n) + if res = 1 then 1 else 0) % 2 ^ 32 ∧
      (s.checked n res a rec).rd (R.CP_CHK_FAIL_COUNT n) = (s.rd (R.CP_CHK_FAIL_COUNT n) + if res = 1 then 0 else 1) % 2 ^ 32 := by
  obtain ⟨hpass, hfail⟩ := checkWord_counts n hn
  have hset := setBytes_keeps (E := id) (W := checkWord) (fun b hb => by simp [checkWord, hb]) s.drawn a rec ha
  have hpass' : (s.drawn.setBytes a rec).rd (R.CP_CHK_PASS_COUNT n) = s.rd (R.CP_CHK_PASS_COUNT n) :=
    (hset.rd (R.CP_CHK_PASS_COUNT n) hpass).trans (rd_congr _ _ _ rfl)
  have hfail' : (s.drawn.setBytes a rec).rd (R.CP_CHK_FAIL_COUNT n) = s.rd (R.CP_CHK_FAIL_COUNT n) :=
    (hset.rd (R.CP_CHK_FAIL_COUNT n) hfail).trans (rd_congr _ _ _ rfl)
  have hapart : R.CP_CHK_PASS n ≠ R.CP_CHK_FAIL n := by
    simp only [R.CP_CHK_PASS, R.CP_CHK_FAIL]
    omega
  unfold State.checked
  generalize s.drawn.setBytes a rec = u at *
  have hfits (c : Field) (h : c.width = 32) : u.rd c = (u.rd c + 0) % 2 ^ 32 := (Nat.mod_eq_of_lt (h ▸ rd_lt u c)).symm
  unfold checkCount
  by_cases hres : res = 1
  · simp only [if_pos hres]
    rw [← hpass', ← hfail', rd_inc _ _ rfl, ← hfits _ rfl]
    exact ⟨rfl, rd_wr_word _ _ _ _ hapart.symm⟩
  · simp only [if_neg hres]
    rw [← hpass', ← hfail', rd_inc _ _ rfl, ← hfits _ rfl]
    exact ⟨rd_wr_word _ _ _ _ hapart, rfl⟩

theorem condemned_keeps (s : State) (num : Nat) : Keeps sansVerify W s (s.condemned num) := (Keeps.refl s).update rfl rfl

/-- What the verdict leaves. -/
structure Judged (s t : State) (num res : Nat) : Prop where
  keeps : Keeps sansVerify checkWord s t
  pieces : res ≠ 1 → ∀ q ∈ t.pieces, q.num = num → bit q.flags 4 = true ∧ q.rejected = true

theorem fieldJudged_judged (s : State) (num ord res score : Nat) : Judged s (s.fieldJudged num ord res score) num res := by
  unfold State.fieldJudged
  split
  next hres => exact ⟨.refl s, fun h => absurd hres h⟩
  next =>
    have hfail : Keeps id checkWord (s.condemned num) (s.verifyFail num ord res score) := verifyFail_keeps s num ord res score
    have hpieces : (s.verifyFail num ord res score).pieces = s.pieces.map (Piece.condemned num) := (congrArg State.pieces hfail.1 :)
    refine ⟨(condemned_keeps s num).trans (verifyFail_keeps s num ord res score), fun _ q hq hnum => ?_⟩
    rw [hpieces] at hq
    obtain ⟨p, -, hpq⟩ := List.mem_map.1 hq
    exact condemned_shown hpq hnum

theorem resulted_keeps (s : State) (num rep ord res : Nat) : Keeps sansVerify W s (s.resulted num rep ord res) := (Keeps.refl s).update rfl rfl

theorem verifyDone_keeps (s : State) : Keeps sansVerify W s s.verifyDone ∧ s.verifyDone.pieces = s.pieces := ⟨(Keeps.refl s).update rfl rfl, rfl⟩

theorem latch_pieces (s : State) : s.latch.pieces = s.pieces := by simp only [latch_frame]

theorem fieldCheck_counts (s : State) (n : Fin 4) (piece : Word) (field : Fin 64) (p : Piece) (rep : Nat) (f : FieldRun) (res score : Nat)
    (dx dy : Int) (cells fr : Nat) (hon : s.coreOn = true) (hp : (s.pieces ++ s.verify).find? (fun q => q.num == piece.toNat) = some p)
    (hv : p.verify = true)
    (hf : p.prints.findSome? (fun r => (r.fields.find? (fun x => x.index == field.val && x.verify && x.result == 0)).map (fun x => (r.rep, x))) =
      some (rep, f)) (hcheck : s.checkField n p rep f = some (res, score, dx, dy, cells, fr)) :
    ∃ t, exec (.fieldCheck n piece field) s = .next t ∧
      t.rd (R.CP_CHK_PASS_COUNT n) = (s.rd (R.CP_CHK_PASS_COUNT n) + (if res = 1 then 1 else 0)) % 2 ^ 32 ∧
      t.rd (R.CP_CHK_FAIL_COUNT n) = (s.rd (R.CP_CHK_FAIL_COUNT n) + (if res = 1 then 0 else 1)) % 2 ^ 32 ∧
      (res ≠ 1 → ∀ q ∈ t.pieces, q.num = piece.toNat → bit q.flags 4 = true ∧ q.rejected = true) ∧ (f.failed ≠ 0 → res = 5) ∧
      t = { s.noticed t with pieces := t.pieces, rejects := t.rejects, verify := t.verify } := by
  obtain ⟨k, rec, heq⟩ := fieldCheck_eq hp hv hf hcheck
  have hrun : exec (.fieldCheck n piece field) s = .next (s.fieldCheck n piece.toNat field).latch := by
    show execFieldCheck n piece field s = _
    rw [execFieldCheck, if_pos hon]
    rfl
  rw [heq] at hrun
  have hhigh : 0xC0000 ≤ 0x46100000 + 0x2000 * n.val + 32 * k := by omega
  obtain ⟨hcpass, hcfail⟩ := checkWord_counts n n.isLt
  obtain ⟨hpass, hfail⟩ := checked_counts n.isLt s res _ rec hhigh
  have hchecked : Keeps sansVerify (fun _ => true) s (s.checked n res (0x46100000 + 0x2000 * n + 32 * k) rec) :=
    (checked_keeps s n res _ rec hhigh).widen (fun _ => rfl) fun _ _ => rfl
  generalize s.checked n res (0x46100000 + 0x2000 * n + 32 * k) rec = u at *
  have hresult : Keeps sansVerify checkWord u (u.resulted piece.toNat rep field res) := resulted_keeps u _ _ _ _
  generalize u.resulted piece.toNat rep field res = v at *
  have hjudged := fieldJudged_judged v piece.toNat field res score
  generalize v.fieldJudged piece.toNat field res score = w at *
  obtain ⟨hdone, hpieces⟩ := verifyDone_keeps (W := checkWord) w
  have hlate := (hresult.trans hjudged.keeps).trans hdone
  generalize w.verifyDone = t at *
  have hall : Keeps sansVerify (fun _ => true) s t := hchecked.trans (hlate.widen (fun _ => rfl) fun _ _ => rfl)
  refine ⟨_, hrun, ?_, ?_, fun hres q hq => ?_, fun hfailed => ?_, eq_of_sansVerify hall.latch.1⟩
  · rw [latch_rd, hlate.rd (R.CP_CHK_PASS_COUNT n) hcpass, hpass]
  · rw [latch_rd, hlate.rd (R.CP_CHK_FAIL_COUNT n) hcfail, hfail]
  · rw [latch_pieces, hpieces] at hq
    exact hjudged.pieces hres q hq
  · rw [State.checkField, if_pos hfailed] at hcheck
    exact (congrArg Prod.fst (Option.some.inj hcheck)).symm

/-! ## The statement -/

/-- Settles O55: packets that are discarded, a frame from its start to its record, and the check of a field. -/
theorem cameraFrames : Obligations.CameraFrames :=
  ⟨badPacket_discarded, frameStart_begins, imageLine_joins, embeddedLine_told, frameEnd_ends, fieldCheck_counts⟩

/-- A packet without body that the lane and the pipeline accept. -/
def cameraPacket (dt : BitVec 6) (wc : BitVec 16) : Packet := ⟨0, dt, wc, [], true, 0, true, 0⟩

/-- The first Frame Start begins a frame at the start of the web. -/
theorem frameStart_witness : ∃ t f, exec (.frameStart 0 (cameraPacket 0 7)) (cameraState 2) = .next t ∧ (t.cam 0).frame = some f ∧
    f.num = 7 ∧ f.base = 0 := by
  obtain ⟨t, f, hrun, hframe, hnum, -, -, -, -, -, hbase, -⟩ := frameStart_begins (cameraState 2) 0 (cameraPacket 0 7) rfl (by decide +kernel) rfl
    rfl (by decide) (by decide +kernel) (by decide +kernel) rfl
  exact ⟨t, f, hrun, hframe, hnum, hbase rfl rfl⟩

/-- A frame without lines is in progress. -/
def openFrame : CamFrame := { num := 7, base := 0, delay := 0, lost := false, transition := false, belief := none, preview := 0 }

/-- Frame End leaves no frame in progress, and counts it. -/
theorem frameEnd_witness :
    ∃ t, exec (.frameEnd 0 (cameraPacket 1 7) []) ((cameraState 2).onCam 0 (fun c => { c with frame := some openFrame })) = .next t ∧
      (t.cam 0).frame = none ∧ t.rd (R.CP_FRAMES_COUNT 0) = 1 ∧ t.rd (R.CP_STATUS_DONE 0) = 1 := by
  obtain ⟨t, hrun, hnone, -, hcount, hdone, -⟩ := frameEnd_ends ((cameraState 2).onCam 0 (fun c => { c with frame := some openFrame })) 0
    (cameraPacket 1 7) openFrame rfl (by decide +kernel) rfl rfl (by decide) (by decide +kernel) (by decide +kernel) rfl rfl
  exact ⟨t, hrun, hnone, hcount.trans (by decide +kernel), hdone⟩

end Sys2Proof.Machine
end
